-- ==== Sys2Proof/Word.lean ====
section
/-!
DEFINITION. The word types of the part: a register word of 32 bits (R7), a byte, and a byte string.  Every multi-byte
field is big-endian (R6); the conversions stand in Sys2Proof/Machine/Bits.lean.
-/
namespace Sys2Proof

/-- A 32-bit register word (R7). -/
abbrev Word := BitVec 32

/-- A byte of a packet, record or cell. -/
abbrev Byte := BitVec 8

/-- A byte string, first byte first. -/
abbrev Bytes := List Byte

end Sys2Proof
end

