-- ==== Sys2Proof/Syntax.lean ====
section
/-!
DEFINITION. The commands of the part: one constructor of `Instr` for each row of spec/opcode_table.json. A row of a chapter's
command table takes a request as it arrives on a route; every other row is a happening at the part, a frame, a pin, a timer or
a measurement, with what happened as its operands. The first operand of each, `dt`, is the nanoseconds of DTIME that pass
before it.
-/
namespace Sys2Proof

/-- The routes of Table 02-1. -/
inductive Route where
  | twoWire | mspi | inband
  deriving DecidableEq, Repr

/-- A request as it arrives (Table 02-2, but for the opcode): its header fields, its parameter block, and in-band its tag, port,
source address and VLAN tag. `upsets` are memory errors that a READ_WORDS meets (word number; twice the syndrome, plus 1 for an
uncorrectable one), or the word at which the domain of a WRITE_WORDS fails. -/
structure Request where
  route   : Route
  length  : Nat
  seq     : Nat
  level   : Nat
  flags   : Nat
  session : Nat
  resv    : Nat
  params  : Bytes
  tag     : Nat := 0
  port    : Nat := 0
  src     : Nat := 0
  vlan    : Option Nat := none
  upsets  : List (Nat × Nat) := []
  deriving DecidableEq, Repr

/-- What the Lehr sequencer found in one region (R538, R539): the region (20 for AON), the steps that failed (bit 0 SRAM, bit 1
logic, bit 2 loop-back), the patterns executed, the signature, the bad rows as (memory, bank, row), the time in µs; of D16 the largest
difference that the plausibility rounds of each pair saw. -/
structure LehrRegion where
  region   : Nat
  failed   : Nat
  executed : Nat
  sig      : Nat
  rows     : List (Nat × Nat × Nat)
  duration : Nat
  most     : Nat × Nat := (0, 0)
  deriving DecidableEq, Repr

/-- A word that the scrubber visits (R515): memory, bank, offset and row; what it found (0 nothing, 1 a corrected error, 2 an
uncorrectable one) with the syndrome; and what the word holds: a key slot or stash entry, a context's index, the address of a
mapped word, a segment and block, a journal index, a place in staging, or, for the cell buffer, 0 with flow and sequence number of
a cell of a frame being assembled, 1 with group and place of a best-effort frame, 2 with port and place of one toward the host, 3 with
the place of a class C frame, 4 with group and place of a timed cell; of a coverage map, its table. -/
structure ScrubWord where
  mem  : Nat
  bank : Nat
  off  : Nat
  row  : Nat
  kind : Nat
  synd : Nat
  item : List Nat
  deriving DecidableEq, Repr

/-- The commands, in the order of the opcode table. -/
inductive Instr where
  /-- CDB_REQUEST (R43): `code` the CDB command code, `good` whether its check code is good, `lpl` and `epl` the local and
  extended payload. -/
  | cdbRequest (dt : Nat) (code : Nat) (good : Bool) (lpl : Bytes) (epl : Bytes)
  /-- MSPI_WRITE_FRAME (R45): `packet` what follows 0x5A. -/
  | mspiWriteFrame (dt : Nat) (packet : Bytes)
  /-- MSPI_READ_FRAME (R45). -/
  | mspiReadFrame (dt : Nat)
  /-- INBAND_REQUEST_FRAME (R46): `frame` on port `p`. -/
  | inbandRequestFrame (dt : Nat) (p : Fin 8) (frame : Bytes)
  /-- ACCEPTED_REPLY (R55). -/
  | acceptedReply (dt : Nat)
  /-- COMMAND_FINISH (R71): `id` the number under which the command runs. -/
  | commandFinish (dt : Nat) (id : Nat)
  /-- NONCE_EXPIRY (R64). -/
  | nonceExpiry (dt : Nat) (sess : Nat)
  /-- PROVISIONAL_SESSION_TIMEOUT (R67). -/
  | provisionalSessionTimeout (dt : Nat) (sess : Nat)
  /-- SESSION_IDLE_CLOSE (R67). -/
  | sessionIdleClose (dt : Nat) (sess : Nat)
  /-- WATCHDOG_FIRE (R41). -/
  | watchdogFire (dt : Nat)
  /-- MGMT_RESET_COMPLETE (R37). -/
  | mgmtResetComplete (dt : Nat)
  /-- WARM_RESET_COMPLETE (R37). -/
  | warmResetComplete (dt : Nat)
  /-- CMIS_SOFTWARE_RESET (R83). -/
  | cmisSoftwareReset (dt : Nat)
  /-- CMIS_TX_DISABLE (R371). -/
  | cmisTxDisable (dt : Nat) (n : Fin 8) (off : Bool)
  /-- REGISTER_WRITE (R8): `during` the clear-on-one bits that hardware sets within the handshake (R28). -/
  | registerWrite (dt : Nat) (addr : Nat) (value : Nat) (during : Nat)
  /-- WORD_PAIR_LATCH_READ (R29): `source` the fabric source. -/
  | wordPairLatchRead (dt : Nat) (source : Nat) (addr : Nat)
  /-- RATE_LIMITED_EVENT_REPORT (R604). -/
  | rateLimitedEventReport (dt : Nat)
  /-- ECHO (R70). -/
  | echo (dt : Nat) (rq : Request)
  /-- READ_WORDS (R68). -/
  | readWords (dt : Nat) (rq : Request)
  /-- WRITE_WORDS (R69). -/
  | writeWords (dt : Nat) (rq : Request)
  /-- GET_INFO (R70). -/
  | getInfo (dt : Nat) (rq : Request)
  /-- GET_NONCE (R64). -/
  | getNonce (dt : Nat) (rq : Request)
  /-- SESSION_OPEN_1 (R65). -/
  | sessionOpen1 (dt : Nat) (rq : Request)
  /-- SESSION_OPEN_2 (R65). -/
  | sessionOpen2 (dt : Nat) (rq : Request)
  /-- SESSION_CLOSE (R70). -/
  | sessionClose (dt : Nat) (rq : Request)
  /-- SESSION_STATUS (R70). -/
  | sessionStatus (dt : Nat) (rq : Request)
  /-- NOTICE_FETCH (R72). -/
  | noticeFetch (dt : Nat) (rq : Request)
  /-- JOURNAL_INFO (R81). -/
  | journalInfo (dt : Nat) (rq : Request)
  /-- JOURNAL_READ (R82). -/
  | journalRead (dt : Nat) (rq : Request)
  /-- JOURNAL_SYNC (R70). -/
  | journalSync (dt : Nat) (rq : Request)
  /-- MGMT_RESET (R36). -/
  | mgmtReset (dt : Nat) (rq : Request)
  /-- WARM_RESET (R36). -/
  | warmReset (dt : Nat) (rq : Request)
  /-- INBAND_CONFIG (R70). -/
  | inbandConfig (dt : Nat) (rq : Request)
  /-- PWR_PACE_SET (R116). -/
  | pwrPaceSet (dt : Nat) (rq : Request)
  /-- PWR_OP_SET (R106). -/
  | pwrOpSet (dt : Nat) (rq : Request)
  /-- PWR_OP_MOVE (R107). -/
  | pwrOpMove (dt : Nat) (rq : Request)
  /-- PWR_FLOOR_SET (R110). -/
  | pwrFloorSet (dt : Nat) (rq : Request)
  /-- PWR_SPEED_CFG (R116). -/
  | pwrSpeedCfg (dt : Nat) (rq : Request)
  /-- PWR_SPEED_READ (R116). -/
  | pwrSpeedRead (dt : Nat) (rq : Request)
  /-- PWR_TIME_READ (R116). -/
  | pwrTimeRead (dt : Nat) (rq : Request)
  /-- AVSBUS_STEP_DONE (R106): `mv` read back. -/
  | avsbusStepDone (dt : Nat) (mv : Nat)
  /-- AVSBUS_FAULT (R109): `mv` last acknowledged, `status` of the status read. -/
  | avsbusFault (dt : Nat) (mv : Nat) (status : Nat)
  /-- SPEED_READING (R96): `sustain` the sustainable pace, per mille. -/
  | speedReading (dt : Nat) (d : Fin 19) (sustain : Nat)
  /-- SPEED_ALARM_END (R111). -/
  | speedAlarmEnd (dt : Nat) (d : Fin 19)
  /-- SUSPENSION_PACE_STEP (R114). -/
  | suspensionPaceStep (dt : Nat)
  /-- AUTO_RAISE_COMPLETE (R112). -/
  | autoRaiseComplete (dt : Nat)
  /-- TIME_TRANSFER_TICK (R92): `frac` the fraction of the fine timestamp, in 1/64 ns. -/
  | timeTransferTick (dt : Nat) (n : Fin 8) (frac : Nat)
  /-- TIME_TRANSFER_REQUEST_RX (R199): `t1` and `seq` of the request, `frac` of its arrival, `depart` of the answer, in
  1/64 ns. -/
  | timeTransferRequestRx (dt : Nat) (n : Fin 8) (t1 : Nat) (seq : Nat) (frac : Nat) (depart : Nat)
  /-- TIME_TRANSFER_ANSWER_RX (R92): `t1`, `t2`, `t3` and `seq` of the answer, `frac` of its arrival. -/
  | timeTransferAnswerRx (dt : Nat) (n : Fin 8) (t1 : Nat) (t2 : Nat) (t3 : Nat) (seq : Nat) (frac : Nat)
  /-- REFERENCE_MEASURE (R587): offsets of HREF, LREFA and LREFB from the local oscillator, in 0.1 ppm. -/
  | referenceMeasure (dt : Nat) (h : Int) (a : Int) (b : Int)
  /-- REFERENCE_ABSENT (R587): reference 0 HREF, 1 LREFA, 2 LREFB. -/
  | referenceAbsent (dt : Nat) (r : Fin 3)
  /-- REFERENCE_ACCEPTED (R588): reference 0 HREF, 1 LREFA, 2 LREFB. -/
  | referenceAccepted (dt : Nat) (r : Fin 3)
  /-- DTIME_SOURCE_RETURN (R89). -/
  | dtimeSourceReturn (dt : Nat)
  /-- LTX_CONFIG (R160). -/
  | ltxConfig (dt : Nat) (rq : Request)
  /-- LTX_TAP_SET (R132). -/
  | ltxTapSet (dt : Nat) (rq : Request)
  /-- LTX_LEVELS_SET (R160). -/
  | ltxLevelsSet (dt : Nat) (rq : Request)
  /-- LTX_PD_LOAD (R130). -/
  | ltxPdLoad (dt : Nat) (rq : Request)
  /-- LRX_CONFIG (R160). -/
  | lrxConfig (dt : Nat) (rq : Request)
  /-- LRX_ADAPT_SET (R141). -/
  | lrxAdaptSet (dt : Nat) (rq : Request)
  /-- LRX_EQ_SET (R144). -/
  | lrxEqSet (dt : Nat) (rq : Request)
  /-- LRX_EQ_READ (R160). -/
  | lrxEqRead (dt : Nat) (rq : Request)
  /-- LRX_MEAS_READ (R160). -/
  | lrxMeasRead (dt : Nat) (rq : Request)
  /-- LRX_HIST_RUN (R155). -/
  | lrxHistRun (dt : Nat) (rq : Request)
  /-- LRX_HIST_READ (R160). -/
  | lrxHistRead (dt : Nat) (rq : Request)
  /-- LRX_GTH_SELECT (R156). -/
  | lrxGthSelect (dt : Nat) (rq : Request)
  /-- LRX_STORE_LIST (R160). -/
  | lrxStoreList (dt : Nat) (rq : Request)
  /-- LRX_STORE_SAVE (R149). -/
  | lrxStoreSave (dt : Nat) (rq : Request)
  /-- LRX_STORE_ERASE (R160). -/
  | lrxStoreErase (dt : Nat) (rq : Request)
  /-- LRX_SEED_LOAD (R160). -/
  | lrxSeedLoad (dt : Nat) (rq : Request)
  /-- TX_PLL_LOCK (R124). -/
  | txPllLock (dt : Nat) (n : Fin 8)
  /-- LOSS_OF_SIGNAL (R139): `mv` the amplitude. -/
  | lossOfSignal (dt : Nat) (n : Fin 8) (mv : Nat)
  /-- SIGNAL_RESTORED (R139): `mv` the amplitude. -/
  | signalRestored (dt : Nat) (n : Fin 8) (mv : Nat)
  /-- LRX_LOCK_LOST (R139): `freq` the frequency offset measured. -/
  | lrxLockLost (dt : Nat) (n : Fin 8) (freq : Int)
  /-- LRX_LOCK_REGAINED (R139). -/
  | lrxLockRegained (dt : Nat) (n : Fin 8)
  /-- ADAPTATION_RESUME (R142). -/
  | adaptationResume (dt : Nat) (n : Fin 8)
  /-- SATURATION_INTERVAL (R135): samples and saturated samples of the interval. -/
  | saturationInterval (dt : Nat) (n : Fin 8) (samples : Nat) (saturated : Nat)
  /-- SNR_UPDATE (R152): mean squares of the ideal levels and of the error, and the frequency offset. -/
  | snrUpdate (dt : Nat) (n : Fin 8) (ideal : Nat) (error : Nat) (freq : Int)
  /-- PREFEC_UPDATE (R153): bits and corrected bits of 100 ms, then of the preceding second, uncorrected and corrected
  codewords. -/
  | prefecUpdate (dt : Nat) (n : Fin 8) (bits : Nat) (corr : Nat) (winBits : Nat) (winCorr : Nat) (uncorr : Nat) (fixed : Nat)
  /-- SEED_ATTEMPT_TIMEOUT (R148). -/
  | seedAttemptTimeout (dt : Nat) (n : Fin 8)
  /-- LANE_CONVERGED (R148). -/
  | laneConverged (dt : Nat) (n : Fin 8)
  /-- STORED_SET_AUTO_SAVE (R149). -/
  | storedSetAutoSave (dt : Nat) (n : Fin 8)
  /-- HIST_RUN_COMPLETE (R155): `symbols` counted, `bins` the counts. -/
  | histRunComplete (dt : Nat) (n : Fin 8) (symbols : Nat) (bins : List Nat)
  /-- LFM_CONFIG (R204). -/
  | lfmConfig (dt : Nat) (rq : Request)
  /-- LFM_STATUS_READ (R204). -/
  | lfmStatusRead (dt : Nat) (rq : Request)
  /-- LFM_COUNT_READ (R205). -/
  | lfmCountRead (dt : Nat) (rq : Request)
  /-- LANE_FRAME_BOUNDARY (R172): the lane frame of a group ends and the next begins, `frac` 1/64 ns into the nanosecond. -/
  | laneFrameBoundary (dt : Nat) (g : Fin 2) (frac : Nat)
  /-- AM_RECEIVED (R175): `marker` the 32 bytes, `inStep` one lane frame after the last, `skew` behind the earliest lane in
  ns. -/
  | amReceived (dt : Nat) (n : Fin 8) (marker : Bytes) (inStep : Bool) (skew : Nat)
  /-- AM_NOT_FOUND (R182). -/
  | amNotFound (dt : Nat) (n : Fin 8)
  /-- CELL_RECEIVED (R185): `on` the lane positions of its codewords, `frac` of the arrival, `depart` of a time-transfer answer, and
  the stuff symbols removed since the last cell: how many, and the positions of wrong ones. -/
  | cellReceived (dt : Nat) (g : Fin 2) (on : Nat) (header : Nat) (payload : Bytes) (frac : Nat) (depart : Nat) (stuff : Nat × List Nat)
  /-- STATUS_RECEIVED (R196). -/
  | statusReceived (dt : Nat) (g : Fin 2) (pace : Nat) (floor : Nat) (flags : Nat)
  /-- REMAP_RECEIVED (R351). -/
  | remapReceived (dt : Nat) (g : Fin 2) (gen : Nat) (mask : Nat) (frame : Nat) (q : Nat) (reason : Nat)
  /-- REMAP_ACK_RECEIVED (R351). -/
  | remapAckReceived (dt : Nat) (g : Fin 2) (gen : Nat)
  /-- QUIET_RECEIVED (R411). -/
  | quietReceived (dt : Nat) (g : Fin 2) (bands : Nat) (release : Bool)
  /-- CAPS_RECEIVED (R232). -/
  | capsReceived (dt : Nat) (g : Fin 2) (tag : Nat) (version : Nat) (mode : Nat) (mask : Nat) (floor : Nat) (pace : Nat) (contrib : Nat) (features : Nat)
  /-- CAPS_ACK_RECEIVED (R233). -/
  | capsAckReceived (dt : Nat) (g : Fin 2) (result : Nat)
  /-- SEED_START_RECEIVED (R233). -/
  | seedStartReceived (dt : Nat) (g : Fin 2) (frame : Nat)
  /-- READY_RECEIVED (R234). -/
  | readyReceived (dt : Nat) (g : Fin 2)
  /-- ABORT_RECEIVED (R209). -/
  | abortReceived (dt : Nat) (g : Fin 2)
  /-- LANE_TRAIN_RECEIVED (R242). -/
  | laneTrainReceived (dt : Nat) (g : Fin 2) (p : Fin 4) (phase : Nat) (frame : Nat)
  /-- DELAY_RECEIVED (R325). -/
  | delayReceived (dt : Nat) (g : Fin 2) (delay : Nat)
  /-- LANE_HEALTH_RECEIVED (R354). -/
  | laneHealthReceived (dt : Nat) (g : Fin 2) (healthy : Nat) (failed : Nat)
  /-- STATUS_PERIOD (R195). -/
  | statusPeriod (dt : Nat) (g : Fin 2)
  /-- DELAY_PERIOD (R325). -/
  | delayPeriod (dt : Nat) (g : Fin 2)
  /-- LANE_HEALTH_PERIOD (R354). -/
  | laneHealthPeriod (dt : Nat) (g : Fin 2)
  /-- CORE_LOST_REPORT (R197): 0 D14, 1 HREF. -/
  | coreLostReport (dt : Nat) (cause : Fin 2)
  /-- REMAP_POINT_REACHED (R168): `dir` 0 transmit, 1 receive. -/
  | remapPointReached (dt : Nat) (g : Fin 2) (dir : Fin 2)
  /-- LNK_CONFIG (R244). -/
  | lnkConfig (dt : Nat) (rq : Request)
  /-- LNK_UP (R211). -/
  | lnkUp (dt : Nat) (rq : Request)
  /-- LNK_DOWN (R211). -/
  | lnkDown (dt : Nat) (rq : Request)
  /-- LNK_RESTART (R211). -/
  | lnkRestart (dt : Nat) (rq : Request)
  /-- LNK_STATUS_READ (R244). -/
  | lnkStatusRead (dt : Nat) (rq : Request)
  /-- LNK_LANE_REJOIN (R241). -/
  | lnkLaneRejoin (dt : Nat) (rq : Request)
  /-- LNK_WAKE_CONFIG (R238). -/
  | lnkWakeConfig (dt : Nat) (rq : Request)
  /-- SPROUT_BURST_START (R215). -/
  | sproutBurstStart (dt : Nat) (g : Fin 2)
  /-- SPROUT_BURST_END (R215). -/
  | sproutBurstEnd (dt : Nat) (g : Fin 2)
  /-- SPROUT_FRAME_RECEIVED (R214): `clean` sync and coding good, `bits` the 96-bit frame. -/
  | sproutFrameReceived (dt : Nat) (n : Fin 8) (clean : Bool) (bits : Nat)
  /-- P2_START (R219). -/
  | p2Start (dt : Nat) (g : Fin 2)
  /-- TRAINING_FRAME_RECEIVED (R222): `marker` found, `wrong` PRBS symbols, `control` the control word. -/
  | trainingFrameReceived (dt : Nat) (n : Fin 8) (marker : Bool) (wrong : Nat) (control : Nat)
  /-- P2_TIME_LIMIT (R208). -/
  | p2TimeLimit (dt : Nat) (g : Fin 2)
  /-- P3_TIME_LIMIT (R208). -/
  | p3TimeLimit (dt : Nat) (g : Fin 2)
  /-- P4_MESSAGE_REPEAT (R231). -/
  | p4MessageRepeat (dt : Nat) (g : Fin 2)
  /-- P4_TIME_LIMIT (R208). -/
  | p4TimeLimit (dt : Nat) (g : Fin 2)
  /-- BACKOFF_END (R210). -/
  | backoffEnd (dt : Nat) (g : Fin 2)
  /-- FAILURE_COUNT_RESET (R210). -/
  | failureCountReset (dt : Nat) (g : Fin 2)
  /-- GROUP_SIGNAL_LOSS_FAILURE (R209). -/
  | groupSignalLossFailure (dt : Nat) (g : Fin 2)
  /-- SPROUT_WAKE (R238). -/
  | sproutWake (dt : Nat) (n : Fin 8) (tag : Nat)
  /-- LIGHT_WAKE (R238). -/
  | lightWake (dt : Nat) (n : Fin 8) (mv : Nat)
  /-- C2_P1_CHECK (R236). -/
  | c2P1Check (dt : Nat) (n : Fin 8)
  /-- C2_P3_TIMEOUT (R236). -/
  | c2P3Timeout (dt : Nat) (n : Fin 8)
  /-- AUTO_REJOIN_TIMER (R241). -/
  | autoRejoinTimer (dt : Nat) (n : Fin 8)
  /-- LANE_RETRAIN_TIMEOUT (R242). -/
  | laneRetrainTimeout (dt : Nat) (n : Fin 8)
  /-- HSL_EQ_SET (R248). -/
  | hslEqSet (dt : Nat) (rq : Request)
  /-- HSL_STATUS_READ (R274). -/
  | hslStatusRead (dt : Nat) (rq : Request)
  /-- HSL_CONFIG (R275). -/
  | hslConfig (dt : Nat) (rq : Request)
  /-- HPC_PORT_SET (R260). -/
  | hpcPortSet (dt : Nat) (rq : Request)
  /-- HPC_PORT_READ (R274). -/
  | hpcPortRead (dt : Nat) (rq : Request)
  /-- HPC_COUNT_READ (R276). -/
  | hpcCountRead (dt : Nat) (rq : Request)
  /-- HPC_PTP_CONFIG (R274). -/
  | hpcPtpConfig (dt : Nat) (rq : Request)
  /-- HRX_LOSS_OF_SIGNAL (R249): `mv` the amplitude. -/
  | hrxLossOfSignal (dt : Nat) (l : Fin 16) (mv : Nat)
  /-- HRX_SIGNAL_RESTORED (R249): `mv` the amplitude. -/
  | hrxSignalRestored (dt : Nat) (l : Fin 16) (mv : Nat)
  /-- HRX_LOCK_LOST (R249). -/
  | hrxLockLost (dt : Nat) (l : Fin 16)
  /-- HRX0_WAKE (R252): `mv` the amplitude. -/
  | hrx0Wake (dt : Nat) (mv : Nat)
  /-- HOST_QUAD_RESTORE (R251). -/
  | hostQuadRestore (dt : Nat)
  /-- PORT_ALIGNED (R262). -/
  | portAligned (dt : Nat) (p : Fin 8)
  /-- PORT_ALIGNMENT_LOST (R262). -/
  | portAlignmentLost (dt : Nat) (p : Fin 8)
  /-- HOST_FRAME_RECEIVED (R266): `frac` of its arrival, codewords that FEC corrected and did not, whether one touches the
  frame; `res` the latency that the part adds of itself to a frame's residence in C2, in 1/64 ns (R271). -/
  | hostFrameReceived (dt : Nat) (p : Fin 8) (frac : Nat) (corr : Nat) (uncorr : Nat) (marked : Bool) (res : Nat) (frame : Bytes)
  /-- HOST_FRAME_SEND (R265): in C2, `c2` the frame that comes from the line PHY, with the latency that the part
  adds of itself to its residence. -/
  | hostFrameSend (dt : Nat) (p : Fin 8) (frac : Nat) (c2 : Option (Nat × Bytes))
  /-- FLW_INIT (R296). -/
  | flwInit (dt : Nat) (rq : Request)
  /-- FLW_INSERT (R300). -/
  | flwInsert (dt : Nat) (rq : Request)
  /-- FLW_MODIFY (R301). -/
  | flwModify (dt : Nat) (rq : Request)
  /-- FLW_DELETE (R300). -/
  | flwDelete (dt : Nat) (rq : Request)
  /-- FLW_LOOKUP (R298). -/
  | flwLookup (dt : Nat) (rq : Request)
  /-- FLW_READ (R298). -/
  | flwRead (dt : Nat) (rq : Request)
  /-- FLW_STATUS_READ (R302). -/
  | flwStatusRead (dt : Nat) (rq : Request)
  /-- COOLING_EXPIRY (R295). -/
  | coolingExpiry (dt : Nat)
  /-- STASH_REPLACE (R291). -/
  | stashReplace (dt : Nat)
  /-- TDS_ADMIT (R312). -/
  | tdsAdmit (dt : Nat) (rq : Request)
  /-- TDS_WITHDRAW (R314). -/
  | tdsWithdraw (dt : Nat) (rq : Request)
  /-- TDS_CONFIG (R315). -/
  | tdsConfig (dt : Nat) (rq : Request)
  /-- TDS_DELAY_SET (R323). -/
  | tdsDelaySet (dt : Nat) (rq : Request)
  /-- TDS_BUF_CONFIG (R333). -/
  | tdsBufConfig (dt : Nat) (rq : Request)
  /-- TDS_STATUS_READ (R338). -/
  | tdsStatusRead (dt : Nat) (rq : Request)
  /-- SLOT_ISSUE (R317): `takes` whether the pace lets this slot be used. -/
  | slotIssue (dt : Nat) (g : Fin 2) (takes : Bool)
  /-- CLASS_C_RELEASE (R328). -/
  | classCRelease (dt : Nat) (p : Fin 8) (frac : Nat)
  /-- REASSEMBLY_TIMEOUT (R347): the flow index. -/
  | reassemblyTimeout (dt : Nat) (flow : Nat)
  /-- RDN_CONFIG (R366). -/
  | rdnConfig (dt : Nat) (rq : Request)
  /-- RDN_LANE_SET (R352). -/
  | rdnLaneSet (dt : Nat) (rq : Request)
  /-- RDN_REVERT (R358). -/
  | rdnRevert (dt : Nat) (rq : Request)
  /-- RDN_STATUS_READ (R367). -/
  | rdnStatusRead (dt : Nat) (rq : Request)
  /-- RDN_FAULT_INJECT (R366). -/
  | rdnFaultInject (dt : Nat) (rq : Request)
  /-- FAULT_INJECT_END (R366). -/
  | faultInjectEnd (dt : Nat) (n : Fin 8)
  /-- LANE_FAIL_DECLARE (R350): cause of R350 and codewords of its window. -/
  | laneFailDeclare (dt : Nat) (n : Fin 8) (cause : Nat) (codewords : Nat)
  /-- REMAP_ACK_TIMEOUT (R355). -/
  | remapAckTimeout (dt : Nat) (g : Fin 2)
  /-- GROUP_LOSS (R353): 0 every lane failed, 1 reference, 2 framing domain. -/
  | groupLoss (dt : Nat) (g : Fin 2) (cause : Fin 3)
  /-- RX_HISTORY_CLEAR (R348). -/
  | rxHistoryClear (dt : Nat)
  /-- REVERT_HOLD_EXPIRY (R358). -/
  | revertHoldExpiry (dt : Nat) (g : Fin 2)
  /-- REVERT_GAP_END (R358). -/
  | revertGapEnd (dt : Nat) (g : Fin 2)
  /-- FES_CONFIG (R374). -/
  | fesConfig (dt : Nat) (rq : Request)
  /-- FES_STATE_SET (R379). -/
  | fesStateSet (dt : Nat) (rq : Request)
  /-- FES_STEP_SET (R386). -/
  | fesStepSet (dt : Nat) (rq : Request)
  /-- FES_TABLE_LOAD (R384). -/
  | fesTableLoad (dt : Nat) (rq : Request)
  /-- FES_HOOK_LOAD (R389). -/
  | fesHookLoad (dt : Nat) (rq : Request)
  /-- FES_SPI_XFER (R387). -/
  | fesSpiXfer (dt : Nat) (rq : Request)
  /-- FES_TURN (R382). -/
  | fesTurn (dt : Nat) (rq : Request)
  /-- FES_FAULT_CLEAR (R380). -/
  | fesFaultClear (dt : Nat) (rq : Request)
  /-- FES_STATUS_READ (R391). -/
  | fesStatusRead (dt : Nat) (rq : Request)
  /-- FES_MOVE_DONE (R372). -/
  | fesMoveDone (dt : Nat) (u : Fin 12)
  /-- TEMP_OK (R375): `ok` in the window, or out of it. -/
  | tempOk (dt : Nat) (u : Fin 12) (ok : Bool)
  /-- LOCK_DECLARED (R375). -/
  | lockDeclared (dt : Nat) (u : Fin 12)
  /-- FES_LOCK_LOST (R376). -/
  | fesLockLost (dt : Nat) (u : Fin 12)
  /-- FES_FAULT (R380): cause of event 0x0D03 and its third parameter. -/
  | fesFault (dt : Nat) (u : Fin 12) (cause : Nat) (which : Nat)
  /-- TRIG_IN_TURN (R382). -/
  | trigInTurn (dt : Nat)
  /-- TURN_COMPLETE (R382). -/
  | turnComplete (dt : Nat) (u : Fin 12)
  /-- STEP_RAMP_UPDATE (R385). -/
  | stepRampUpdate (dt : Nat) (u : Fin 12)
  /-- LOCK_DEADLINE_EXPIRY (R378). -/
  | lockDeadlineExpiry (dt : Nat) (u : Fin 12)
  /-- SETTLE_MAX_EXPIRY (R377). -/
  | settleMaxExpiry (dt : Nat) (u : Fin 12)
  /-- HOOK_FRAME_DONE (R389): `read` the bytes of the verifying read. -/
  | hookFrameDone (dt : Nat) (read : Bytes)
  /-- BRC_CONFIG (R419). -/
  | brcConfig (dt : Nat) (rq : Request)
  /-- BRC_STAGE_CONFIG (R419). -/
  | brcStageConfig (dt : Nat) (rq : Request)
  /-- BRC_CAL_SET (R396). -/
  | brcCalSet (dt : Nat) (rq : Request)
  /-- BRC_UNMUTE (R406). -/
  | brcUnmute (dt : Nat) (rq : Request)
  /-- BRC_QUIET_SEND (R412). -/
  | brcQuietSend (dt : Nat) (rq : Request)
  /-- BRC_COEX_CONFIG (R419). -/
  | brcCoexConfig (dt : Nat) (rq : Request)
  /-- BRC_COEX_REQ (R417). -/
  | brcCoexReq (dt : Nat) (rq : Request)
  /-- BRC_STATUS_READ (R419). -/
  | brcStatusRead (dt : Nat) (rq : Request)
  /-- PILOT_ESTIMATE_UPDATE (R400): of BMI0 to BMI7, the 12-bit codes of the preceding BRC_CFG.window µs,
  oldest first. -/
  | pilotEstimateUpdate (dt : Nat) (codes : List (List Nat))
  /-- RUNAWAY_MUTE (R405): the output detector's code at an instant of the preceding 5 µs and now, and the input detector's at those two
  instants. -/
  | runawayMute (dt : Nat) (st : Fin 4) (outThen : Nat) (outNow : Nat) (inp : Nat × Nat)
  /-- PILOT_AMPLITUDE_ADJUST (R399). -/
  | pilotAmplitudeAdjust (dt : Nat)
  /-- GUARD_RAISE_TICK (R402). -/
  | guardRaiseTick (dt : Nat)
  /-- GUARD_LOWER_TICK (R403). -/
  | guardLowerTick (dt : Nat)
  /-- GUARD_BAND_MUTE (R403). -/
  | guardBandMute (dt : Nat) (b : Fin 2)
  /-- AUTO_RETRY_RELEASE (R406). -/
  | autoRetryRelease (dt : Nat) (b : Fin 2)
  /-- INPUT_LOSS_HOLD (R407): the greatest code of the input detector over the preceding 50 µs of the timer. -/
  | inputLossHold (dt : Nat) (st : Fin 4) (code : Nat)
  /-- INPUT_LOSS_MUTE (R407): the code of the input detector now. -/
  | inputLossMute (dt : Nat) (st : Fin 4) (code : Nat)
  /-- INPUT_RESTORED (R407): the least code of the input detector over the preceding 1 ms of the timer. -/
  | inputRestored (dt : Nat) (st : Fin 4) (code : Nat)
  /-- LIMIT_CEILING_FALL (R408): the least code of the output detector over the preceding 10 µs. -/
  | limitCeilingFall (dt : Nat) (st : Fin 4) (code : Nat)
  /-- LIMIT_CEILING_RISE (R408): the code of the output detector now. -/
  | limitCeilingRise (dt : Nat) (st : Fin 4) (code : Nat)
  /-- APR_START (R409). -/
  | aprStart (dt : Nat) (g : Fin 2)
  /-- APR_END (R410). -/
  | aprEnd (dt : Nat) (g : Fin 2)
  /-- QUIET_SILENCE_END (R411). -/
  | quietSilenceEnd (dt : Nat) (g : Fin 2) (b : Fin 2)
  /-- QUIET_RESEND (R412). -/
  | quietResend (dt : Nat) (g : Fin 2)
  /-- XREQ_IN_HIGH (R414). -/
  | xreqInHigh (dt : Nat)
  /-- INBOUND_GRANT (R414). -/
  | inboundGrant (dt : Nat)
  /-- XREQ_IN_LOW (R415). -/
  | xreqInLow (dt : Nat)
  /-- INBOUND_REQUEST_STUCK (R415). -/
  | inboundRequestStuck (dt : Nat)
  /-- XGNT_IN_HIGH (R417). -/
  | xgntInHigh (dt : Nat)
  /-- XGNT_IN_LOW (R417). -/
  | xgntInLow (dt : Nat)
  /-- OUTBOUND_GRANT_TIMEOUT (R417). -/
  | outboundGrantTimeout (dt : Nat)
  /-- CLE_LOOP_CONFIG (R424). -/
  | cleLoopConfig (dt : Nat) (rq : Request)
  /-- CLE_COEF_LOAD (R441). -/
  | cleCoefLoad (dt : Nat) (rq : Request)
  /-- CLE_MODE_SET (R442). -/
  | cleModeSet (dt : Nat) (rq : Request)
  /-- CLE_SETPOINT (R433). -/
  | cleSetpoint (dt : Nat) (rq : Request)
  /-- CLE_REP_LOAD (R437). -/
  | cleRepLoad (dt : Nat) (rq : Request)
  /-- CLE_REP_READ (R442). -/
  | cleRepRead (dt : Nat) (rq : Request)
  /-- CLE_REP_RESET (R442). -/
  | cleRepReset (dt : Nat) (rq : Request)
  /-- CLE_LIA_CONFIG (R427). -/
  | cleLiaConfig (dt : Nat) (rq : Request)
  /-- CLE_TEST_START (R439). -/
  | cleTestStart (dt : Nat) (rq : Request)
  /-- CLE_TEST_STOP (R440). -/
  | cleTestStop (dt : Nat) (rq : Request)
  /-- CLE_STATUS_READ (R442). -/
  | cleStatusRead (dt : Nat) (rq : Request)
  /-- CLE_INIT (R442). -/
  | cleInit (dt : Nat) (rq : Request)
  /-- LOOP_SAMPLE (R433): of BMI0 to BMI7 the 12-bit codes up to now, oldest first, for loops with a detector as their source. -/
  | loopSample (dt : Nat) (l : Fin 32) (codes : List (List Nat))
  /-- DEADLINE_MISS (R429). -/
  | deadlineMiss (dt : Nat) (l : Fin 32)
  /-- REP_CYCLE_END (R436). -/
  | repCycleEnd (dt : Nat) (l : Fin 32)
  /-- MAINS_INVALID_DISENGAGE (R438). -/
  | mainsInvalidDisengage (dt : Nat) (l : Fin 32)
  /-- LOCKIN_WINDOW_END (R427): the source at the update instants of the window, oldest first: result words of an MCV entry, codes of a BRC
  detector. -/
  | lockinWindowEnd (dt : Nat) (d : Fin 8) (values : List Int)
  /-- TEST_SIGNAL_END (R440). -/
  | testSignalEnd (dt : Nat)
  /-- OUTPUT_LIMIT_ALARM (R434). -/
  | outputLimitAlarm (dt : Nat) (l : Fin 32)
  /-- AOU_WRITE (R460). -/
  | aouWrite (dt : Nat) (rq : Request)
  /-- AOU_RANGE_SET (R452). -/
  | aouRangeSet (dt : Nat) (rq : Request)
  /-- AOU_SAFE_SET (R450). -/
  | aouSafeSet (dt : Nat) (rq : Request)
  /-- AOU_DITHER_SET (R457). -/
  | aouDitherSet (dt : Nat) (rq : Request)
  /-- AOU_GEN_SET (R454). -/
  | aouGenSet (dt : Nat) (rq : Request)
  /-- AOU_TABLE_LOAD (R456). -/
  | aouTableLoad (dt : Nat) (rq : Request)
  /-- AOU_STATUS_READ (R460). -/
  | aouStatusRead (dt : Nat) (rq : Request)
  /-- OUTPUT_UPDATE (R446). -/
  | outputUpdate (dt : Nat)
  /-- GATE_WRITE (R447). -/
  | gateWrite (dt : Nat) (o : Fin 24)
  /-- COMPLIANCE_FAIL (R449). -/
  | complianceFail (dt : Nat) (o : Fin 24)
  /-- COMPLIANCE_REGAINED (R449). -/
  | complianceRegained (dt : Nat) (o : Fin 24)
  /-- RANGE_SWITCH (R452). -/
  | rangeSwitch (dt : Nat) (o : Fin 24)
  /-- RANGE_CHANGE_COMPLETE (R452). -/
  | rangeChangeComplete (dt : Nat) (o : Fin 24)
  /-- MCV_CONFIG (R481). -/
  | mcvConfig (dt : Nat) (rq : Request)
  /-- MCV_SEQ_LOAD (R469). -/
  | mcvSeqLoad (dt : Nat) (rq : Request)
  /-- MCV_SEQ_STORE (R471). -/
  | mcvSeqStore (dt : Nat) (rq : Request)
  /-- MCV_SEQ_READ (R481). -/
  | mcvSeqRead (dt : Nat) (rq : Request)
  /-- MCV_RESULT_READ (R481). -/
  | mcvResultRead (dt : Nat) (rq : Request)
  /-- MCV_PLAUS_RUN (R477). -/
  | mcvPlausRun (dt : Nat) (rq : Request)
  /-- MCV_UNQUARANTINE (R479). -/
  | mcvUnquarantine (dt : Nat) (rq : Request)
  /-- MCV_STATUS_READ (R482). -/
  | mcvStatusRead (dt : Nat) (rq : Request)
  /-- SUPPRESSION_END (R467). -/
  | suppressionEnd (dt : Nat) (c : Fin 4)
  /-- CONVERSION_WINDOW_END (R474): `ones` of `periods`, `fir` the mean of the filter. -/
  | conversionWindowEnd (dt : Nat) (c : Fin 4) (ones : Nat) (periods : Nat) (fir : Nat)
  /-- ENTRY_DELAY_END (R467). -/
  | entryDelayEnd (dt : Nat) (c : Fin 4)
  /-- MAINS_EDGE (R464). -/
  | mainsEdge (dt : Nat)
  /-- MAINS_TIMEOUT (R465). -/
  | mainsTimeout (dt : Nat)
  /-- PLAUS_ROUND_END (R476): values of both converters on channels 33 and 34. -/
  | plausRoundEnd (dt : Nat) (pair : Fin 2) (a33 : Nat) (b33 : Nat) (a34 : Nat) (b34 : Nat)
  /-- GTH_CONFIG (R487). -/
  | gthConfig (dt : Nat) (rq : Request)
  /-- GTH_TRIG_CONFIG (R491). -/
  | gthTrigConfig (dt : Nat) (rq : Request)
  /-- GTH_ARM (R490). -/
  | gthArm (dt : Nat) (rq : Request)
  /-- GTH_TRIGGER (R491). -/
  | gthTrigger (dt : Nat) (rq : Request)
  /-- GTH_STOP (R490). -/
  | gthStop (dt : Nat) (rq : Request)
  /-- GTH_READ (R494). -/
  | gthRead (dt : Nat) (rq : Request)
  /-- GTH_STATUS_READ (R503). -/
  | gthStatusRead (dt : Nat) (rq : Request)
  /-- GTH_PMC_CONFIG (R496). -/
  | gthPmcConfig (dt : Nat) (rq : Request)
  /-- GTH_PMC_CTRL (R496). -/
  | gthPmcCtrl (dt : Nat) (rq : Request)
  /-- GTH_COUNT_READ (R499). -/
  | gthCountRead (dt : Nat) (rq : Request)
  /-- GTH_COUNTER_OPEN (R500). -/
  | gthCounterOpen (dt : Nat) (rq : Request)
  /-- CAPTURE_BLOCK_WRITE (R488): line samples and detector sets that have arrived, with their fine times. -/
  | captureBlockWrite (dt : Nat) (samples : List (Nat × Byte)) (codes : List (Nat × Nat))
  /-- TRIGGER_CANDIDATE (R491, R492): an edge on TRIG_IN, whether it is a rising one, for how many ns the pin has held its new level, and
  the fraction of the edge's moment in 1/64 ns. -/
  | triggerCandidate (dt : Nat) (rising : Bool) (held : Nat) (frac : Nat)
  /-- MEM_TABLE_FILL (R512). -/
  | memTableFill (dt : Nat) (rq : Request)
  /-- MEM_TABLE_DECLARE (R511). -/
  | memTableDeclare (dt : Nat) (rq : Request)
  /-- MEM_CONFIG (R519). -/
  | memConfig (dt : Nat) (rq : Request)
  /-- MEM_STATUS_READ (R520). -/
  | memStatusRead (dt : Nat) (rq : Request)
  /-- MEM_LOG_READ (R509). -/
  | memLogRead (dt : Nat) (rq : Request)
  /-- MEM_REPAIR_READ (R519). -/
  | memRepairRead (dt : Nat) (rq : Request)
  /-- SCRUB_VISIT (R515). -/
  | scrubVisit (dt : Nat) (w : ScrubWord)
  /-- SCRUB_LAP_COMPLETE (R516). -/
  | scrubLapComplete (dt : Nat) (r : Fin 5)
  /-- PWR_DOMAIN_READ (R547). -/
  | pwrDomainRead (dt : Nat) (rq : Request)
  /-- PWR_WAKE (R524). -/
  | pwrWake (dt : Nat) (rq : Request)
  /-- PWR_SLEEP (R528). -/
  | pwrSleep (dt : Nat) (rq : Request)
  /-- PWR_FENCE (R527). -/
  | pwrFence (dt : Nat) (rq : Request)
  /-- PWR_DOMAIN_RESET (R547). -/
  | pwrDomainReset (dt : Nat) (rq : Request)
  /-- PWR_LEHR_RUN (R544). -/
  | pwrLehrRun (dt : Nat) (rq : Request)
  /-- PWR_LEHR_READ (R547). -/
  | pwrLehrRead (dt : Nat) (rq : Request)
  /-- PWR_CONFIG (R547). -/
  | pwrConfig (dt : Nat) (rq : Request)
  /-- DOMAIN_WAKE_SOURCE (R524): cause of event 0x0201: 0 access, 1 command, 2 line, 3 host. -/
  | domainWakeSource (dt : Nat) (d : Fin 20) (cause : Fin 4)
  /-- DOMAIN_READY (R523). -/
  | domainReady (dt : Nat) (d : Fin 20)
  /-- DOMAIN_FAILURE (R526): 0 rail, 1 heartbeat. -/
  | domainFailure (dt : Nat) (d : Fin 20) (cause : Fin 2)
  /-- DOMAIN_PREPARE_ANSWER (R529). -/
  | domainPrepareAnswer (dt : Nat) (d : Fin 20)
  /-- LOW_POWER_IDLE_SLEEP (R524). -/
  | lowPowerIdleSleep (dt : Nat) (d : Fin 20)
  /-- LOW_POWER_ENTER (R532). -/
  | lowPowerEnter (dt : Nat)
  /-- LOW_POWER_EXIT (R533). -/
  | lowPowerExit (dt : Nat)
  /-- COLD_START (R534): what reading the non-volatile array finds bad, the supplies in mV, what the self-test finds. -/
  | coldStart (dt : Nat) (bad : List (Nat × Nat)) (supplies : List Nat) (found : List LehrRegion)
  /-- MODRSTL_LOW (R36): `torn` when the oldest commit had written its objects only. -/
  | modrstlLow (dt : Nat) (torn : Bool)
  /-- SUPPLY_OUT_OF_WINDOW (R534): the supply, its extreme in mV, µs out of the window, VIO above 1.0 V throughout, `torn`
  as for MODRSTL_LOW. -/
  | supplyOutOfWindow (dt : Nat) (k : Fin 5) (extreme : Nat) (micros : Nat) (vio : Bool) (torn : Bool)
  /-- COMMAND_READY (R534). -/
  | commandReady (dt : Nat)
  /-- LEHR_PRECONDITION_CHECK (R537): VCORE, lowest and highest temperature in 0.1 °C, the regions done. -/
  | lehrPreconditionCheck (dt : Nat) (mv : Nat) (tLow : Int) (tHigh : Int) (found : List LehrRegion)
  /-- LEHR_COMPLETE (R540): what was found in each region. -/
  | lehrComplete (dt : Nat) (found : List LehrRegion)
  /-- SEC_ID_READ (R564). -/
  | secIdRead (dt : Nat) (rq : Request)
  /-- SEC_CERT_READ (R565). -/
  | secCertRead (dt : Nat) (rq : Request)
  /-- SEC_ATTEST (R575). -/
  | secAttest (dt : Nat) (rq : Request)
  /-- SEC_KEY_ENROLL (R568). -/
  | secKeyEnroll (dt : Nat) (rq : Request)
  /-- SEC_KEY_REVOKE (R568). -/
  | secKeyRevoke (dt : Nat) (rq : Request)
  /-- SEC_KEY_READ (R578). -/
  | secKeyRead (dt : Nat) (rq : Request)
  /-- SEC_FW_WRITE (R573). -/
  | secFwWrite (dt : Nat) (rq : Request)
  /-- SEC_FW_ACTIVATE (R573). -/
  | secFwActivate (dt : Nat) (rq : Request)
  /-- SEC_FW_COMMIT (R572). -/
  | secFwCommit (dt : Nat) (rq : Request)
  /-- SEC_COSIGN_SET (R572). -/
  | secCosignSet (dt : Nat) (rq : Request)
  /-- SEC_DEBUG_UNLOCK (R576). -/
  | secDebugUnlock (dt : Nat) (rq : Request)
  /-- SEC_FW_STATUS (R578). -/
  | secFwStatus (dt : Nat) (rq : Request)
  /-- SEC_CONFIG (R578). -/
  | secConfig (dt : Nat) (rq : Request)
  /-- TRIAL_TIMEOUT (R573). -/
  | trialTimeout (dt : Nat)
  /-- RANDOM_HEALTH_FAIL (R566): the test. -/
  | randomHealthFail (dt : Nat) (test : Nat)
  /-- EVR_INFO (R578). -/
  | evrInfo (dt : Nat) (rq : Request)
  /-- EVR_READ (R578). -/
  | evrRead (dt : Nat) (rq : Request)
  /-- EVR_CONFIG (R555). -/
  | evrConfig (dt : Nat) (rq : Request)
  /-- EVR_SNAP_SET (R551). -/
  | evrSnapSet (dt : Nat) (rq : Request)
  /-- EVR_FLUSH (R578). -/
  | evrFlush (dt : Nat) (rq : Request)
  /-- EVR_ERASE (R577). -/
  | evrErase (dt : Nat) (rq : Request)
  /-- EVENT_DELIVER (R549). -/
  | eventDeliver (dt : Nat)
  /-- PAGE_COMMIT (R557). -/
  | pageCommit (dt : Nat)
  /-- OPTIME_CHECKPOINT (R550). -/
  | optimeCheckpoint (dt : Nat)
  /-- BUS_STUCK_RELEASE (R592): time held low, µs. -/
  | busStuckRelease (dt : Nat) (micros : Nat)
  /-- TX_PLL_LOCK_LOST (R161). -/
  | txPllLockLost (dt : Nat) (n : Fin 8)
  /-- HRX_LOCK_REGAINED (R249). -/
  | hrxLockRegained (dt : Nat) (l : Fin 16)
  /-- HOST_PLL_LOCK (R250). -/
  | hostPllLock (dt : Nat) (q : Fin 4)
  /-- NV_TIER_COMMIT (R79). -/
  | nvTierCommit (dt : Nat)
  /-- RANDOM_HEALTH_RESTORED (R566). -/
  | randomHealthRestored (dt : Nat)
  /-- CMIS_DATAPATH_DEINIT (R83). -/
  | cmisDatapathDeinit (dt : Nat) (g : Fin 2) (on : Bool)
  deriving DecidableEq, Repr

end Sys2Proof
end

