-- ==== Sys2Proof/Decode.lean ====
section
/-!
DEFINITION. The reading of a command from the bits that spec/opcode_table.json gives its row.  Every row of the table gives no
bits, so no word spells a command; the packets that carry requests (R49, R63) and their parameter blocks are read in
Sys2Proof/Machine/Serve.lean and in each opcode's own body.
-/
namespace Sys2Proof

/-- The command that a word of `nbits` bits spells by the table's bits: none, as no row gives bits. -/
def decodeTableWord (_nbits _w : Nat) : Option Instr := none

end Sys2Proof
end

