-- ==== Sys2Proof/Config.lean ====
section
/-!
DEFINITION. What one unit of the part fixes, what outside standards compute, and the free values: constants with no
body, so that a proof holds whatever they are.
-/
namespace Sys2Proof.Config

/-! ### Values of one unit (the spec's "per unit" and "factory" values) -/

/-- Measured pace of this unit at each operating point, per mille (Table 03-6). -/
opaque measuredPace : Nat → BitVec 10
/-- Factory default equaliser values of a lane and mode, bytes 16 to 131 of a stored set (R146). -/
opaque factorySeed : Nat → Nat → BitVec 928
/-- MCV_CHECK_NOM, the factory value of channel 33 (Table 15-8). -/
opaque checkNominal : BitVec 24
/-- The unit identity's first 24 bytes (Table 19-5). -/
opaque identity : BitVec 192
/-- What the device private key is made of (R565). -/
opaque deviceSecret : BitVec 384
/-- The release authority key of the boot ROM (R570). -/
opaque releaseKey : List (BitVec 8)
/-- The device and intermediate certificates (R565) and their lengths. -/
opaque certificate : Nat → List (BitVec 8)
/-- The device's MAC address at production, until INBAND_CONFIG sets one. -/
opaque macAddress : BitVec 48
/-- The firmware image that the part ships with in a slot, header and body (R569). -/
opaque factoryImage : Nat → List (BitVec 8)
/-- Does bus signature `sig` equal the expected Lehr signature of a region (R539)? The expected value itself. -/
opaque lehrSignature : Nat → BitVec 64
/-- Patterns expected of a region and kind of Lehr run (R541). -/
opaque lehrPatterns : Nat → Nat → BitVec 32

/-- The byte of a CMIS page at an offset, of what the page shows: the places are the CMIS standard's. -/
opaque cmisByte : Nat → Nat → List Nat → BitVec 8

/-- The 66-bit blocks that the 802.3 PCS of a PHY gives one of its lanes for a frame, with the idles and markers before it: the PHY (0 and 1
the line PHYs of the C2 layouts, 2 and more the host ports by rate code), the lane, the frame. -/
opaque pcsBlocks : Nat → Nat → List (BitVec 8) → List (List Bool)

/-! ### Free values -/

/-- The code that a lane's ADC gives of a symbol (R135): lane, the free value drawn for the interval, symbol. -/
opaque adcCode : Nat → Nat → Nat → BitVec 7
/-- The bin of 0 to 255 that an FFE output in 1/1024 of a code is quantised to (R155). -/
opaque ffeBin : Int → BitVec 8
/-- Which way the DAC of R129 rounds a half above `q`. -/
opaque roundHalfUp : Int → Bool
/-- A value the spec leaves open: the `n`-th one drawn. The step applies it to a counter in the state. -/
opaque free : Nat → Nat
/-- The word in which several quantities stand that an event table lists as one parameter with no places for them: the event's
code, the quantities. -/
opaque eventWord : Nat → List Nat → BitVec 32
/-- What the random source gives at its `n`-th draw (R566). -/
opaque random : Nat → BitVec 384
/-- The raw contents of a host-owned table word that has not been written since power-up number `n` (R513). -/
opaque rawWord : Nat → Nat → BitVec 32

end Sys2Proof.Config
end

