-- ==== Sys2Proof/Machine/Bits.lean ====
section
/-!
DEFINITION. Bit-field, byte-order and sign-extension helpers, the cyclic checks, and `Map`, the one sparse container of
the model: an association list in rising key order that lists no entry equal to its default.
-/
namespace Sys2Proof.Machine

/-! ### Sparse maps -/

/-- A sparse map: key and value pairs in strictly rising key order, with no entry equal to what an unlisted key reads
as. -/
abbrev Map (α : Type) := List (Nat × α)

/-- The value at key `k`; an unlisted key reads `d`. -/
def Map.get {α : Type} (d : α) : Map α → Nat → α
  | [], _ => d
  | (i, v) :: m, k => if i = k then v else Map.get d m k

/-- `m` without key `k`. -/
def Map.erase {α : Type} : Map α → Nat → Map α
  | [], _ => []
  | (i, v) :: m, k => if i = k then Map.erase m k else (i, v) :: Map.erase m k

/-- `m` with the pair `(k, v)` put before the first larger key. -/
def Map.insert {α : Type} : Map α → Nat → α → Map α
  | [], k, v => [(k, v)]
  | (i, w) :: m, k, v => if k < i then (k, v) :: (i, w) :: m else (i, w) :: Map.insert m k v

/-- `m` with value `v` at key `k`; writing the default removes the entry. -/
def Map.put {α : Type} [DecidableEq α] (d : α) (m : Map α) (k : Nat) (v : α) : Map α :=
  if v = d then Map.erase m k else Map.insert (Map.erase m k) k v

/-- `m` with `f` applied to the value at `k`. -/
def Map.upd {α : Type} [DecidableEq α] (d : α) (m : Map α) (k : Nat) (f : α → α) : Map α :=
  Map.put d m k (f (Map.get d m k))

/-- The canonical form: keys strictly rising from `lo`, no entry equal to the default `d k` of its key. -/
def Map.wfFrom {α : Type} [DecidableEq α] (d : Nat → α) : Nat → Map α → Bool
  | _, [] => true
  | lo, (i, v) :: m => decide (lo ≤ i) && decide (v ≠ d i) && Map.wfFrom d (i + 1) m

/-- The canonical form of a map whose unlisted keys read `d k`. -/
def Map.wf {α : Type} [DecidableEq α] (d : Nat → α) (m : Map α) : Bool := Map.wfFrom d 0 m

/-! ### Bytes, big-endian (R6) -/

/-- The number a byte string spells, first byte most significant. -/
def beNat (bs : Bytes) : Nat := bs.foldl (fun a b => a * 256 + b.toNat) 0

/-- The `k` bytes of `n`, most significant first. -/
def toBE : Nat → Nat → Bytes
  | 0, _ => []
  | k + 1, n => BitVec.ofNat 8 (n / 256 ^ k) :: toBE k (n % 256 ^ k)

/-- `k` zero bytes. -/
def zeros (k : Nat) : Bytes := List.replicate k 0

/-- Bytes `i` to `i + k - 1` of `bs`, padded with zero bytes past the end. -/
def slice (bs : Bytes) (i k : Nat) : Bytes :=
  let t := (bs.drop i).take k
  t ++ zeros (k - t.length)

/-- The big-endian number in bytes `i` to `i + k - 1`. -/
def un (bs : Bytes) (i k : Nat) : Nat := beNat (slice bs i k)
def u8 (bs : Bytes) (i : Nat) : Nat := un bs i 1
def u16 (bs : Bytes) (i : Nat) : Nat := un bs i 2
def u32 (bs : Bytes) (i : Nat) : Nat := un bs i 4

/-- The two's complement value of the low `w` bits of `n`. -/
def sx (w n : Nat) : Int :=
  let m := n % 2 ^ w
  if 2 * m < 2 ^ w then (m : Int) else (m : Int) - (2 : Int) ^ w

/-- The `w`-bit two's complement code of `i`, wrapping. -/
def enc (w : Nat) (i : Int) : Nat := (i % (2 : Int) ^ w).toNat

def s8 (bs : Bytes) (i : Nat) : Int := sx 8 (u8 bs i)
def s16 (bs : Bytes) (i : Nat) : Int := sx 16 (u16 bs i)
def s32 (bs : Bytes) (i : Nat) : Int := sx 32 (u32 bs i)

/-- `i` limited to `lo` to `hi`. -/
def clampI (lo hi i : Int) : Int := if i < lo then lo else if hi < i then hi else i

/-- Bit `b` of `n`, as a number. -/
def bit (n b : Nat) : Nat := n / 2 ^ b % 2

/-- Is bit `b` of `n` set? -/
def hasBit (n b : Nat) : Bool := n / 2 ^ b % 2 == 1

/-- `n` with bit `b` set to `v`. -/
def setBit (n b : Nat) (v : Bool) : Nat :=
  if hasBit n b then (if v then n else n - 2 ^ b) else (if v then n + 2 ^ b else n)

/-- The numbers below `k` whose bits are set in `mask`, ascending. -/
def bitsOf (k mask : Nat) : List Nat := (List.range k).filter (hasBit mask)

/-- The number of set bits among the low `k`. -/
def popCount (k mask : Nat) : Nat := (bitsOf k mask).length

/-- The sum of a list of numbers. -/
def sumN (l : List Nat) : Nat := l.foldl (· + ·) 0

/-! ### Register fields (R5, R7) -/

/-- A field of a register: the register's address, the field's lowest bit and its width. -/
structure Fld where
  addr : Nat
  lo   : Nat
  w    : Nat
  deriving DecidableEq, Repr

/-- The field `[lo + w - 1 : lo]` of a word. -/
def getField (x : Word) (lo w : Nat) : Nat := x.toNat / 2 ^ lo % 2 ^ w

/-- `x` with its field `[lo + w - 1 : lo]` holding the low `w` bits of `v`. -/
def putField (x : Word) (lo w v : Nat) : Word :=
  BitVec.ofNat 32 (x.toNat / 2 ^ (lo + w) * 2 ^ (lo + w) + (v % 2 ^ w) * 2 ^ lo + x.toNat % 2 ^ lo)

/-! ### Cyclic checks -/

/-- One bit of a most-significant-first cyclic check of width `w` with polynomial `poly` (leading term left out). -/
def crcBit (w poly r : Nat) (b : Bool) : Nat :=
  let top := r / 2 ^ (w - 1) % 2 == 1
  let r' := r * 2 % 2 ^ w
  if top != b then Nat.xor r' poly else r'

/-- One byte, most significant bit first. -/
def crcByte (w poly r : Nat) (b : Byte) : Nat :=
  [7, 6, 5, 4, 3, 2, 1, 0].foldl (fun r i => crcBit w poly r (b.getLsbD i)) r

/-- A most-significant-first cyclic check over bytes. -/
def crcMsb (w poly init : Nat) (bs : Bytes) : Nat := bs.foldl (crcByte w poly) init

/-- The bits of an `n`-bit number reversed. -/
def reverseBits (n x : Nat) : Nat :=
  (List.range n).foldl (fun a i => a * 2 + bit x i) 0

/-- CRC-32 with the IEEE 802.3 polynomial (R76, R540, R557, R562): least significant bit first, initial value and final
inversion all ones. -/
def crc32 (bs : Bytes) : Nat :=
  let r := crcMsb 32 0x04C11DB7 0xFFFFFFFF (bs.map fun b => BitVec.ofNat 8 (reverseBits 8 b.toNat))
  Nat.xor (reverseBits 32 r) 0xFFFFFFFF

/-- Set or leave an element of a list. -/
def listSet {α : Type} : List α → Nat → α → List α
  | [], _, _ => []
  | _ :: t, 0, v => v :: t
  | x :: t, n + 1, v => x :: listSet t n v

/-- The integer square root by fuel, not needed beyond comparisons: the largest `r` with `r * r ≤ n` below `2 ^ k`. -/
def isqrt (k n : Nat) : Nat :=
  (List.range k).foldl (fun r i => let c := r + 2 ^ (k - 1 - i); if c * c ≤ n then c else r) 0

end Sys2Proof.Machine
end

