-- ==== Sys2Proof/Machine/Crypto.lean ====
section
/-!
DEFINITION. The algorithms that the spec names and outside standards define: SHA-384 (FIPS 180-4), HMAC-SHA-384 (FIPS 198-1),
and ECDSA and ECDH on brainpoolP384r1 (RFC 5639, FIPS 186-5).  The private keys are the unit's own and stay open.
-/
namespace Sys2Proof.Machine

/-- `k` of a number, the number evaluated first. -/
def force {α : Type} (n : Nat) (k : Nat → α) : α :=
  match n with
  | 0 => k 0
  | m + 1 => k (m + 1)

theorem force_eq {α : Type} (n : Nat) (k : Nat → α) : force n k = k n := by cases n <;> rfl

/-! ### SHA-384 -/

/-- The constants of rounds 0 to 15: of the cube roots of the first 80 primes. -/
def shaRound0 : List Nat := [
  0x428A2F98D728AE22, 0x7137449123EF65CD, 0xB5C0FBCFEC4D3B2F, 0xE9B5DBA58189DBBC,
  0x3956C25BF348B538, 0x59F111F1B605D019, 0x923F82A4AF194F9B, 0xAB1C5ED5DA6D8118,
  0xD807AA98A3030242, 0x12835B0145706FBE, 0x243185BE4EE4B28C, 0x550C7DC3D5FFB4E2,
  0x72BE5D74F27B896F, 0x80DEB1FE3B1696B1, 0x9BDC06A725C71235, 0xC19BF174CF692694]

/-- The constants of rounds 16 to 31: of the cube roots of the first 80 primes. -/
def shaRound1 : List Nat := [
  0xE49B69C19EF14AD2, 0xEFBE4786384F25E3, 0x0FC19DC68B8CD5B5, 0x240CA1CC77AC9C65,
  0x2DE92C6F592B0275, 0x4A7484AA6EA6E483, 0x5CB0A9DCBD41FBD4, 0x76F988DA831153B5,
  0x983E5152EE66DFAB, 0xA831C66D2DB43210, 0xB00327C898FB213F, 0xBF597FC7BEEF0EE4,
  0xC6E00BF33DA88FC2, 0xD5A79147930AA725, 0x06CA6351E003826F, 0x142929670A0E6E70]

/-- The constants of rounds 32 to 47: of the cube roots of the first 80 primes. -/
def shaRound2 : List Nat := [
  0x27B70A8546D22FFC, 0x2E1B21385C26C926, 0x4D2C6DFC5AC42AED, 0x53380D139D95B3DF,
  0x650A73548BAF63DE, 0x766A0ABB3C77B2A8, 0x81C2C92E47EDAEE6, 0x92722C851482353B,
  0xA2BFE8A14CF10364, 0xA81A664BBC423001, 0xC24B8B70D0F89791, 0xC76C51A30654BE30,
  0xD192E819D6EF5218, 0xD69906245565A910, 0xF40E35855771202A, 0x106AA07032BBD1B8]

/-- The constants of rounds 48 to 63: of the cube roots of the first 80 primes. -/
def shaRound3 : List Nat := [
  0x19A4C116B8D2D0C8, 0x1E376C085141AB53, 0x2748774CDF8EEB99, 0x34B0BCB5E19B48A8,
  0x391C0CB3C5C95A63, 0x4ED8AA4AE3418ACB, 0x5B9CCA4F7763E373, 0x682E6FF3D6B2B8A3,
  0x748F82EE5DEFB2FC, 0x78A5636F43172F60, 0x84C87814A1F0AB72, 0x8CC702081A6439EC,
  0x90BEFFFA23631E28, 0xA4506CEBDE82BDE9, 0xBEF9A3F7B2C67915, 0xC67178F2E372532B]

/-- The constants of rounds 64 to 79: of the cube roots of the first 80 primes. -/
def shaRound4 : List Nat := [
  0xCA273ECEEA26619C, 0xD186B8C721C0C207, 0xEADA7DD6CDE0EB1E, 0xF57D4F7FEE6ED178,
  0x06F067AA72176FBA, 0x0A637DC5A2C898A6, 0x113F9804BEF90DAE, 0x1B710B35131C471B,
  0x28DB77F523047D84, 0x32CAAB7B40C72493, 0x3C9EBE0A15C9BEBC, 0x431D67C49C100D4C,
  0x4CC5D4BECB3E42B6, 0x597F299CFC657E2A, 0x5FCB6FAB3AD6FAEC, 0x6C44198C4A475817]

def shaRounds : List Nat := shaRound0 ++ shaRound1 ++ shaRound2 ++ shaRound3 ++ shaRound4

/-- The eight working words. -/
structure Sha where
  a : Nat
  b : Nat
  c : Nat
  d : Nat
  e : Nat
  f : Nat
  g : Nat
  h : Nat
  deriving DecidableEq, Repr

/-- The initial words: of the square roots of the ninth to sixteenth primes. -/
def shaStart : Sha := {
  a := 0xCBBB9D5DC1059ED8, b := 0x629A292A367CD507, c := 0x9159015A3070DD17, d := 0x152FECD8F70E5939,
  e := 0x67332667FFC00B31, f := 0x8EB44A8768581511, g := 0xDB0C2E0D64F98FA7, h := 0x47B5481DBEFA4FA4 }

/-- Rotation of a 64-bit word to the right. -/
def rotr (n k : Nat) : Nat := n >>> k ||| n <<< (64 - k) % 2 ^ 64

/-- One round with constant `k` and schedule word `w`, then `go`. -/
def shaRound (s : Sha) (k w : Nat) (go : Sha → Sha) : Sha :=
  force (s.h + (rotr s.e 14 ^^^ rotr s.e 18 ^^^ rotr s.e 41) + (s.g ^^^ (s.e &&& (s.f ^^^ s.g))) + k + w) fun t1 =>
    force ((t1 + (rotr s.a 28 ^^^ rotr s.a 34 ^^^ rotr s.a 39) + ((s.a &&& s.b) ||| (s.c &&& (s.a ||| s.b)))) % 2 ^ 64) fun a =>
      force ((s.d + t1) % 2 ^ 64) fun e => go ⟨a, s.a, s.b, s.c, e, s.e, s.f, s.g⟩

/-- The last sixteen words of the schedule, the oldest highest, after the next one joins. -/
def shaNext (w : Nat) : Nat :=
  force (w >>> 896 % 2 ^ 64) fun x => force (w >>> 64 % 2 ^ 64) fun y =>
    w % 2 ^ 960 * 2 ^ 64 + ((w >>> 960) + (rotr x 1 ^^^ rotr x 8 ^^^ x >>> 7) + w >>> 384 % 2 ^ 64 + (rotr y 19 ^^^ rotr y 61 ^^^ y >>> 6)) % 2 ^ 64

/-- The rounds with the constants left, on the last sixteen words of the schedule. -/
def shaLoop : List Nat → Nat → Sha → Sha
  | [], _, s => s
  | k :: ks, w, s => shaRound s k (w >>> 960) fun s => force (shaNext w) fun w => shaLoop ks w s

def shaAdd (x y : Sha) : Sha :=
  ⟨(x.a + y.a) % 2 ^ 64, (x.b + y.b) % 2 ^ 64, (x.c + y.c) % 2 ^ 64, (x.d + y.d) % 2 ^ 64, (x.e + y.e) % 2 ^ 64, (x.f + y.f) % 2 ^ 64,
    (x.g + y.g) % 2 ^ 64, (x.h + y.h) % 2 ^ 64⟩

/-- A block of 128 bytes, as a number. -/
def shaBlock (s : Sha) (n : Nat) : Sha := shaAdd s (shaLoop shaRounds n s)

/-- `k` blocks, the highest first. -/
def shaBlocks : Nat → Nat → Sha → Sha
  | 0, _, s => s
  | k + 1, n, s => shaBlocks k n (shaBlock s (n >>> (1024 * k) % 2 ^ 1024))

/-- SHA-384 of the `len` bytes whose number is `n`. -/
def shaNum (len n : Nat) : Nat :=
  let pad := (239 - len % 128) % 128
  force ((n * 256 + 128) * 256 ^ pad * 2 ^ 128 + 8 * len) fun m =>
    let s := shaBlocks ((len + 17 + pad) / 128) m shaStart
    s.a <<< 320 ||| s.b <<< 256 ||| s.c <<< 192 ||| s.d <<< 128 ||| s.e <<< 64 ||| s.f

/-- SHA-384. -/
@[irreducible] def sha384 (bs : Bytes) : BitVec 384 :=
  force bs.length fun len => force (beNat bs) fun n => BitVec.ofNat 384 (shaNum len n)

/-- HMAC-SHA-384 under a key of 48 bytes. -/
@[irreducible] def hmac384 (key : BitVec 384) (bs : Bytes) : BitVec 384 :=
  let pad (b : Byte) : Bytes := (toBE 48 key.toNat ++ zeros 80).map (· ^^^ b)
  sha384 (pad 0x5C ++ toBE 48 (sha384 (pad 0x36 ++ bs)).toNat)

/-! ### brainpoolP384r1 -/

/-- The prime, the coefficients, the base point and its order. -/
def curveP : Nat := 0x8cb91e82a3386d280f5d6f7e50e641df152f7109ed5456b412b1da197fb71123acd3a729901d1a71874700133107ec53
def curveA : Nat := 0x7bc382c63d8c150c3c72080ace05afa0c2bea28e4fb22787139165efba91f90f8aa5814a503ad4eb04a8c7dd22ce2826
def curveB : Nat := 0x04a8c7dd22ce28268b39b55416f0447c2fb77de107dcd2a62e880ea53eeb62d57cb4390295dbc9943ab78696fa504c11
def curveX : Nat := 0x1d1c64f068cf45ffa2a63a81b7c13f6b8847a3e77ef14fe3db7fcafe0cbd10e8e826e03436d646aaef87b2e247d4af1e
def curveY : Nat := 0x8abe1d7520f9c2a45cb1eb8e95cfd55262b70b29feec5864e19c054ff99129280e4646217791811142820341263c5315
def curveN : Nat := 0x8cb91e82a3386d280f5d6f7e50e641df152f7109ed5456b31f166e6cac0425a7cf3ab6af6b7fc3103b883202e9046565

/-- A point in Jacobian coordinates; `z` 0 is the point at infinity. -/
structure Point where
  x : Nat
  y : Nat
  z : Nat
  deriving DecidableEq, Repr

/-- `k` of a product in the field. -/
def mulP {α : Type} (x y : Nat) (k : Nat → α) : α := force (x * y % curveP) k

def Point.double (q : Point) : Point :=
  mulP q.y q.y fun yy =>
    mulP (4 * q.x) yy fun s =>
      mulP q.z q.z fun zz =>
        force ((3 * q.x * q.x + curveA * (zz * zz % curveP)) % curveP) fun m =>
          force ((m * m + 2 * (curveP - s)) % curveP) fun x =>
            force ((m * (s + (curveP - x)) + 8 * (curveP - yy) * yy) % curveP) fun y =>
              mulP (2 * q.y) q.z fun z => ⟨x, y, z⟩

/-- The sum of two points, at infinity where they are opposite. -/
def Point.add (q r : Point) : Point :=
  if q.z = 0 then r
  else if r.z = 0 then q
  else
    mulP q.z q.z fun z1 =>
      mulP r.z r.z fun z2 =>
        mulP q.x z2 fun u1 =>
          mulP r.x z1 fun u2 =>
            mulP (q.y * r.z) z2 fun s1 =>
              mulP (r.y * q.z) z1 fun s2 =>
                if u1 = u2 then if s1 = s2 then q.double else ⟨1, 1, 0⟩
                else
                  force ((u2 + (curveP - u1)) % curveP) fun h =>
                    force ((s2 + (curveP - s1)) % curveP) fun d =>
                      mulP h h fun hh =>
                        mulP u1 hh fun v =>
                          mulP h hh fun hhh =>
                            force ((d * d + (curveP - hhh) + 2 * (curveP - v)) % curveP) fun x =>
                              force ((d * (v + (curveP - x)) + (curveP - s1) * hhh) % curveP) fun y =>
                                mulP (q.z * r.z) h fun z => ⟨x, y, z⟩

/-- `t` doubled `i` times, with `q`, `r` or their sum `s` added after each doubling as the bits of `u` and `v` say. -/
def mulBoth (u v : Nat) (q r s : Point) : Nat → Point → Point
  | 0, t => t
  | i + 1, t =>
    mulBoth u v q r s i
      (match u.testBit i, v.testBit i with
      | false, false => t.double
      | true, false => t.double.add q
      | false, true => t.double.add r
      | true, true => t.double.add s)

def curveG : Point := ⟨curveX, curveY, 1⟩

/-- `u` times `q` plus `v` times `r`. -/
def combine (u v : Nat) (q r : Point) : Point := mulBoth u v q r (q.add r) 384 ⟨1, 1, 0⟩

def timesPoint (u : Nat) (q : Point) : Point := mulBoth u 0 q q q 384 ⟨1, 1, 0⟩

/-- The powers of `x` modulo `m` by the low `i` bits of `e`, from `y` on. -/
def powMod (m x e : Nat) : Nat → Nat → Nat
  | 0, y => y
  | i + 1, y => force (if e.testBit i then y * y % m * x % m else y * y % m) fun y => powMod m x e i y

/-- The inverse modulo a prime of 384 bits. -/
def invMod (m x : Nat) : Nat := powMod m x (m - 2) 384 1

/-- The coordinates of a point that is not at infinity. -/
def Point.affine (q : Point) : Nat × Nat :=
  force (invMod curveP q.z) fun w => mulP w w fun ww => (q.x * ww % curveP, q.y * ww % curveP * w % curveP)

def curveHas (x y : Nat) : Bool :=
  decide (x < curveP) && decide (y < curveP) && y * y % curveP == ((x * x + curveA) * x + curveB) % curveP

/-! ### Keys and signatures of bytes -/

/-- The point of an uncompressed public key: 0x04, x, y. -/
def keyPoint (key : Bytes) : Point := ⟨un key 1 48, un key 49 48, 1⟩

/-- Is this an uncompressed public key on the curve? -/
@[irreducible] def onCurve (key : Bytes) : Bool :=
  force (un key 1 48) fun x => force (un key 49 48) fun y => key.length == 97 && u8 key 0 == 4 && curveHas x y

/-- The private key that a drawn value gives: from 1 up to the order. -/
def scalarOf (r : Nat) : Nat := 1 + r % (curveN - 1)

/-- The public key of a private key. -/
@[irreducible] def publicKey (d : Nat) : Bytes :=
  force d fun d =>
    let a := (timesPoint d curveG).affine
    4 :: (toBE 48 a.1 ++ toBE 48 a.2)

/-- The x-coordinate of the point that a private and a public key share. -/
@[irreducible] def ecdhShared (d : Nat) (key : Bytes) : Bytes :=
  force d fun d => toBE 48 (timesPoint d (keyPoint key)).affine.1

/-- Do `r` and `s` sign the number `e` under the point `q`? -/
def ecdsaNum (q : Point) (e r s : Nat) : Bool :=
  decide (0 < r ∧ r < curveN ∧ 0 < s ∧ s < curveN) &&
    force (invMod curveN s) fun w =>
      force (e * w % curveN) fun u =>
        force (r * w % curveN) fun v =>
          let t := combine u v curveG q
          t.z != 0 && force (t.z * t.z % curveP) fun zz =>
            t.x == r * zz % curveP || (decide (r + curveN < curveP) && t.x == (r + curveN) * zz % curveP)

/-- Does a signature of 96 bytes, r then s, verify for a digest under a public key? -/
@[irreducible] def ecdsaVerify (key : Bytes) (digest : BitVec 384) (sig : Bytes) : Bool :=
  onCurve key && sig.length == 96 &&
    force (un key 1 48) fun x => force (un key 49 48) fun y => force (un sig 0 48) fun r => force (un sig 48 48) fun s =>
      force digest.toNat fun e => ecdsaNum ⟨x, y, 1⟩ e r s

/-- The signature, r then s, of a digest by a private key, with the value `k` drawn for it. -/
@[irreducible] def ecdsaSign (d : Nat) (digest : BitVec 384) (k : Nat) : Bytes :=
  force d fun d => force k fun k => force digest.toNat fun e =>
    force ((timesPoint k curveG).affine.1 % curveN) fun r =>
      toBE 48 r ++ toBE 48 (invMod curveN k * (e + r * d) % curveN)

/-! ### The unit's own keys -/

def devicePrivate : Nat := scalarOf Config.deviceSecret.toNat

/-- The device public key (Table 19-5). -/
def deviceKey : Bytes := publicKey devicePrivate

/-- The device key's signature of a digest, with a fresh value of the random source (R566). -/
def deviceSign (digest : BitVec 384) (fresh : BitVec 384) : Bytes := ecdsaSign devicePrivate digest (scalarOf fresh.toNat)

/-- Does a signature verify under the release authority key of the boot ROM (R570)? -/
def releaseVerify (digest : BitVec 384) (sig : Bytes) : Bool := ecdsaVerify Config.releaseKey digest sig

end Sys2Proof.Machine
end

