-- ==== Sys2Proof/Machine/Factory.lean ====
section
/-!
DEFINITION. What one unit is made with and other values follow from: the factory default of the equalisers (04, R146) and the
peer tag (06, R212).
-/
namespace Sys2Proof.Machine

/-- Transmit taps c(-2) to c4 within R127: c0 at least 32, magnitudes of sum at most 128. -/
def tapsOk (b : Bytes) : Bool :=
  let c := (List.range 7).map fun i => s8 b i
  decide (32 ≤ s8 b 2) && decide ((c.map Int.natAbs).foldl (· + ·) 0 ≤ 128)

/-- The values of bytes 16 to 131 of a stored set (Table 04-5) lie in their ranges (R127, R128, R134, R136 to R138). -/
def bodyOk (b : Bytes) : Bool :=
  tapsOk b && u8 b 7 == 0 && decide (64 ≤ u8 b 8 ∧ u8 b 8 ≤ 106) && decide (64 ≤ u8 b 9 ∧ u8 b 9 ≤ 106) &&
    decide (u8 b 10 ≤ 15) && decide (u8 b 11 ≤ 24) && decide (8 ≤ u8 b 12 ∧ u8 b 12 ≤ 24) &&
    decide (-32 ≤ s8 b 13 ∧ s8 b 13 ≤ 31) && u16 b 14 == 0 &&
    ((List.range 48).all fun i => decide (-2048 ≤ s16 b (16 + 2 * i) ∧ s16 b (16 + 2 * i) ≤ 2047)) &&
    decide (u16 b 112 ≤ 768) && decide (-256 ≤ s16 b 114 ∧ s16 b 114 ≤ 256)

/-- A body within the ranges, which stands for what is not a body at all. -/
def plainBody : Bytes := [0, 0, 127, 0, 0, 0, 0, 0, 85, 85, 0, 0, 12, 0, 0, 0] ++ zeros 100

/-- The factory default of a lane and mode, bytes 16 to 131 of a stored set (R146): any values within their ranges. -/
def factoryBody (n mode : Nat) : Bytes :=
  let b := toBE 116 (Config.factorySeed n mode).toNat
  if bodyOk b then b else plainBody

/-- The words of a lane's registers that hold it (Tables 04-11 and 04-16): reserved bits read 0 and the main tap is 1024 (R136),
`m` its position. -/
def tapsWord (b : Bytes) (i : Nat) : Nat := if i = 0 then u32 b 0 else un b 4 3 * 256
def ffeWord (b : Bytes) (m i : Nat) : Nat := if i = m then 1024 else u16 b (16 + 2 * i) % 4096
def rsseWord (b : Bytes) : Nat := u16 b 112 * 2 ^ 16 + enc 10 (s16 b 114)
def afeWord (b : Bytes) : Nat := u8 b 11 * 256 + u8 b 10

/-- The unit's peer tag (R212): the first four bytes of SHA-384 of the device public key, the reserved tags replaced. -/
def ownTag : Nat :=
  let t := (sha384 deviceKey).toNat / 2 ^ 352
  if t = 0 then 1 else if t = 0xFFFFFFFF then 0xFFFFFFFE else t

end Sys2Proof.Machine
end

