-- ==== Sys2Proof/Machine/Regs.lean ====
section
/-!
DEFINITION. The registers of the part: one address function per register of the chapters' register tables (R7, R15),
one field per field of those tables (R5), and `regTable`, which gives every implemented word its cold-start value and
its access kind (R8).  A word that no row of `regTable` covers is unimplemented (R19).
-/
namespace Sys2Proof.Machine

/-- One row of the register tables: `dims` are the strides and counts of the indices in the register's address, `cold`
the cold-start value for given indices, `rw` the read-write bits, `c1` the clear-on-one bits, `maint` the bits whose
write needs Maintainer level, `host` whether the word belongs to a host-owned table (R510), `pair` whether it is the upper word of a 64-bit
value (R29). -/
structure RegDesc where
  name  : String
  base  : Nat
  dims  : List (Nat × Nat)
  cold  : List Nat → Nat
  rw    : Nat := 0
  c1    : Nat := 0
  maint : Nat := 0
  host  : Bool := false
  pair  : Bool := false

/-- The index list with which address offset `off` is a word of a register of dimensions `dims`. -/
def regIndex : List (Nat × Nat) → Nat → Option (List Nat)
  | [], off => if off = 0 then some [] else none
  | (stride, count) :: ds, off =>
    let i := off / stride
    if i < count then (regIndex ds (off % stride)).map (i :: ·) else none

namespace Reg

/-- ID (01 Table 01-2). -/
def ID (i : Nat) : Nat := 0x00F000 + 0x10000 * i
def ID_ident (i : Nat) : Fld := ⟨ID i, 24, 8⟩
def ID_units (i : Nat) : Fld := ⟨ID i, 16, 8⟩
def ID_units_hi (i : Nat) : Fld := ⟨ID i, 8, 8⟩
def ID_rev (i : Nat) : Fld := ⟨ID i, 0, 8⟩
/-- CMD_INT_STATUS (02 Table 02-6). -/
def CMD_INT_STATUS : Nat := 0x00F002
def CMD_INT_STATUS_watchdog : Fld := ⟨CMD_INT_STATUS, 5, 1⟩
def CMD_INT_STATUS_auth : Fld := ⟨CMD_INT_STATUS, 4, 1⟩
def CMD_INT_STATUS_lost : Fld := ⟨CMD_INT_STATUS, 3, 1⟩
def CMD_INT_STATUS_cmis : Fld := ⟨CMD_INT_STATUS, 2, 1⟩
def CMD_INT_STATUS_event : Fld := ⟨CMD_INT_STATUS, 1, 1⟩
def CMD_INT_STATUS_notice : Fld := ⟨CMD_INT_STATUS, 0, 1⟩
/-- CMD_CFG (02 Table 02-7). -/
def CMD_CFG : Nat := 0x00F001
def CMD_CFG_inband_etype : Fld := ⟨CMD_CFG, 16, 16⟩
def CMD_CFG_cmis_swreset : Fld := ⟨CMD_CFG, 2, 1⟩
def CMD_CFG_inband_en : Fld := ⟨CMD_CFG, 0, 1⟩
/-- CMD_INT_MASK (02 R74). -/
def CMD_INT_MASK : Nat := 0x00F003
/-- TDS_PACE (03 Table 03-4). -/
def TDS_PACE : Nat := 0x0AF001
def TDS_PACE_floor : Fld := ⟨TDS_PACE, 24, 2⟩
def TDS_PACE_ceiling : Fld := ⟨TDS_PACE, 12, 10⟩
def TDS_PACE_current : Fld := ⟨TDS_PACE, 0, 10⟩
/-- TDS_GPACE (03 Table 03-4a). -/
def TDS_GPACE : Nat := 0x0AF007
def TDS_GPACE_group_b : Fld := ⟨TDS_GPACE, 16, 10⟩
def TDS_GPACE_group_a : Fld := ⟨TDS_GPACE, 0, 10⟩
/-- PWR_OP_STATUS (03 Table 03-5). -/
def PWR_OP_STATUS : Nat := 0x022000
def PWR_OP_STATUS_vcore_mv : Fld := ⟨PWR_OP_STATUS, 16, 12⟩
def PWR_OP_STATUS_moving : Fld := ⟨PWR_OP_STATUS, 4, 1⟩
def PWR_OP_STATUS_target : Fld := ⟨PWR_OP_STATUS, 2, 2⟩
def PWR_OP_STATUS_current : Fld := ⟨PWR_OP_STATUS, 0, 2⟩
/-- PWR_OP_TABLE (03 Table 03-6). -/
def PWR_OP_TABLE (i : Nat) : Nat := 0x022010 + i
def PWR_OP_TABLE_guaranteed (i : Nat) : Fld := ⟨PWR_OP_TABLE i, 22, 10⟩
def PWR_OP_TABLE_measured (i : Nat) : Fld := ⟨PWR_OP_TABLE i, 12, 10⟩
def PWR_OP_TABLE_vcore_mv (i : Nat) : Fld := ⟨PWR_OP_TABLE i, 0, 12⟩
/-- PWR_SPD_CFG (03 Table 03-7). -/
def PWR_SPD_CFG : Nat := 0x021000
def PWR_SPD_CFG_alarm : Fld := ⟨PWR_SPD_CFG, 16, 8⟩
def PWR_SPD_CFG_crit : Fld := ⟨PWR_SPD_CFG, 8, 8⟩
def PWR_SPD_CFG_hyst : Fld := ⟨PWR_SPD_CFG, 2, 6⟩
def PWR_SPD_CFG_auto_restore : Fld := ⟨PWR_SPD_CFG, 1, 1⟩
def PWR_SPD_CFG_auto_raise : Fld := ⟨PWR_SPD_CFG, 0, 1⟩
/-- PWR_SPD_STATUS (03 Table 03-8). -/
def PWR_SPD_STATUS : Nat := 0x021001
def PWR_SPD_STATUS_suspended : Fld := ⟨PWR_SPD_STATUS, 31, 1⟩
def PWR_SPD_STATUS_limited : Fld := ⟨PWR_SPD_STATUS, 30, 1⟩
def PWR_SPD_STATUS_alarm : Fld := ⟨PWR_SPD_STATUS, 0, 19⟩
/-- PWR_SPD_LATCH (03 R118). -/
def PWR_SPD_LATCH : Nat := 0x021002
def PWR_SPD_LATCH_suspended : Fld := ⟨PWR_SPD_LATCH, 31, 1⟩
def PWR_SPD_LATCH_limited : Fld := ⟨PWR_SPD_LATCH, 30, 1⟩
def PWR_SPD_LATCH_alarm : Fld := ⟨PWR_SPD_LATCH, 0, 19⟩
/-- PWR_SPD_MARGIN (03 Table 03-9). -/
def PWR_SPD_MARGIN (i : Nat) : Nat := 0x021010 + i
def PWR_SPD_MARGIN_min_margin (i : Nat) : Fld := ⟨PWR_SPD_MARGIN i, 16, 11⟩
def PWR_SPD_MARGIN_margin (i : Nat) : Fld := ⟨PWR_SPD_MARGIN i, 0, 11⟩
/-- PWR_DTIME (03 Table 03-10). -/
def PWR_DTIME : Nat := 0x025000
/-- PWR_DTIME_SRC (03 Table 03-10). -/
def PWR_DTIME_SRC : Nat := 0x025002
def PWR_DTIME_SRC_source : Fld := ⟨PWR_DTIME_SRC, 0, 2⟩
/-- PWR_PEER_OFS (03 Table 03-10). -/
def PWR_PEER_OFS (i : Nat) : Nat := 0x025010 + 0x2 * i
/-- PWR_PATH_DLY (03 Table 03-10). -/
def PWR_PATH_DLY (i : Nat) : Nat := 0x025014 + i
/-- PWR_PEER_VALID (03 Table 03-10). -/
def PWR_PEER_VALID : Nat := 0x025016
def PWR_PEER_VALID_group_b : Fld := ⟨PWR_PEER_VALID, 1, 1⟩
def PWR_PEER_VALID_group_a : Fld := ⟨PWR_PEER_VALID, 0, 1⟩
/-- PWR_ASYM (03 Table 03-10). -/
def PWR_ASYM (i : Nat) : Nat := 0x025018 + i
/-- LTX_CFG (04 Table 04-9). -/
def LTX_CFG (i : Nat) : Nat := 0x030001 + 0x1000 * i
def LTX_CFG_swing (i : Nat) : Fld := ⟨LTX_CFG i, 8, 4⟩
def LTX_CFG_pd_bypass (i : Nat) : Fld := ⟨LTX_CFG i, 2, 1⟩
def LTX_CFG_invert (i : Nat) : Fld := ⟨LTX_CFG i, 1, 1⟩
/-- LTX_STATUS (04 Table 04-10). -/
def LTX_STATUS (i : Nat) : Nat := 0x030002 + 0x1000 * i
def LTX_STATUS_clip (i : Nat) : Fld := ⟨LTX_STATUS i, 5, 1⟩
def LTX_STATUS_sprout (i : Nat) : Fld := ⟨LTX_STATUS i, 4, 1⟩
def LTX_STATUS_training (i : Nat) : Fld := ⟨LTX_STATUS i, 3, 1⟩
def LTX_STATUS_pll_lock (i : Nat) : Fld := ⟨LTX_STATUS i, 2, 1⟩
def LTX_STATUS_squelch (i : Nat) : Fld := ⟨LTX_STATUS i, 1, 1⟩
/-- LTX_TAPS (04 Table 04-11). -/
def LTX_TAPS (i : Nat) (j : Nat) : Nat := 0x030010 + 0x1000 * i + j
/-- LTX_LEVELS (04 Table 04-11). -/
def LTX_LEVELS (i : Nat) : Nat := 0x030012 + 0x1000 * i
def LTX_LEVELS_inner_pos (i : Nat) : Fld := ⟨LTX_LEVELS i, 8, 8⟩
def LTX_LEVELS_inner_neg (i : Nat) : Fld := ⟨LTX_LEVELS i, 0, 8⟩
/-- LTX_PD (04 Table 04-11). -/
def LTX_PD (i : Nat) (j : Nat) : Nat := 0x030020 + 0x1000 * i + j
/-- LRX_CFG (04 Table 04-12). -/
def LRX_CFG (i : Nat) : Nat := 0x040001 + 0x1000 * i
def LRX_CFG_cdr_phase (i : Nat) : Fld := ⟨LRX_CFG i, 26, 6⟩
def LRX_CFG_cdr_bw (i : Nat) : Fld := ⟨LRX_CFG i, 24, 2⟩
def LRX_CFG_los_thr (i : Nat) : Fld := ⟨LRX_CFG i, 16, 8⟩
def LRX_CFG_main_pos (i : Nat) : Fld := ⟨LRX_CFG i, 11, 5⟩
def LRX_CFG_rsse_en (i : Nat) : Fld := ⟨LRX_CFG i, 10, 1⟩
def LRX_CFG_invert (i : Nat) : Fld := ⟨LRX_CFG i, 9, 1⟩
def LRX_CFG_conv_margin (i : Nat) : Fld := ⟨LRX_CFG i, 0, 8⟩
/-- LRX_ADAPT (04 Table 04-13). -/
def LRX_ADAPT (i : Nat) : Nat := 0x040002 + 0x1000 * i
def LRX_ADAPT_mu_track (i : Nat) : Fld := ⟨LRX_ADAPT i, 12, 4⟩
def LRX_ADAPT_mu_train (i : Nat) : Fld := ⟨LRX_ADAPT i, 8, 4⟩
def LRX_ADAPT_rsse (i : Nat) : Fld := ⟨LRX_ADAPT i, 4, 2⟩
def LRX_ADAPT_ffe (i : Nat) : Fld := ⟨LRX_ADAPT i, 2, 2⟩
def LRX_ADAPT_afe (i : Nat) : Fld := ⟨LRX_ADAPT i, 0, 2⟩
/-- LRX_STATUS (04 Table 04-14). -/
def LRX_STATUS (i : Nat) : Nat := 0x040003 + 0x1000 * i
def LRX_STATUS_seed (i : Nat) : Fld := ⟨LRX_STATUS i, 8, 4⟩
def LRX_STATUS_held (i : Nat) : Fld := ⟨LRX_STATUS i, 6, 1⟩
def LRX_STATUS_converged (i : Nat) : Fld := ⟨LRX_STATUS i, 5, 1⟩
def LRX_STATUS_hist_busy (i : Nat) : Fld := ⟨LRX_STATUS i, 4, 1⟩
def LRX_STATUS_sat (i : Nat) : Fld := ⟨LRX_STATUS i, 3, 1⟩
def LRX_STATUS_margin_low (i : Nat) : Fld := ⟨LRX_STATUS i, 2, 1⟩
def LRX_STATUS_cdr_lock (i : Nat) : Fld := ⟨LRX_STATUS i, 1, 1⟩
def LRX_STATUS_los (i : Nat) : Fld := ⟨LRX_STATUS i, 0, 1⟩
/-- LRX_LATCH (04 Table 04-15). -/
def LRX_LATCH (i : Nat) : Nat := 0x040004 + 0x1000 * i
def LRX_LATCH_sat (i : Nat) : Fld := ⟨LRX_LATCH i, 3, 1⟩
def LRX_LATCH_margin_low (i : Nat) : Fld := ⟨LRX_LATCH i, 2, 1⟩
def LRX_LATCH_lock_lost (i : Nat) : Fld := ⟨LRX_LATCH i, 1, 1⟩
def LRX_LATCH_los_seen (i : Nat) : Fld := ⟨LRX_LATCH i, 0, 1⟩
/-- LRX_ALARM (04 Table 04-16). -/
def LRX_ALARM (i : Nat) : Nat := 0x040005 + 0x1000 * i
def LRX_ALARM_margin_alarm (i : Nat) : Fld := ⟨LRX_ALARM i, 0, 11⟩
/-- LRX_MEAS (04 Table 04-16). -/
def LRX_MEAS (i : Nat) : Nat := 0x040010 + 0x1000 * i
def LRX_MEAS_snr (i : Nat) : Fld := ⟨LRX_MEAS i, 16, 10⟩
def LRX_MEAS_margin (i : Nat) : Fld := ⟨LRX_MEAS i, 0, 11⟩
/-- LRX_PREFEC (04 Table 04-16). -/
def LRX_PREFEC (i : Nat) : Nat := 0x040011 + 0x1000 * i
def LRX_PREFEC_updates (i : Nat) : Fld := ⟨LRX_PREFEC i, 16, 16⟩
def LRX_PREFEC_log (i : Nat) : Fld := ⟨LRX_PREFEC i, 0, 16⟩
/-- LRX_FREQ (04 Table 04-16). -/
def LRX_FREQ (i : Nat) : Nat := 0x040012 + 0x1000 * i
def LRX_FREQ_offset (i : Nat) : Fld := ⟨LRX_FREQ i, 0, 16⟩
/-- LRX_BITS (04 Table 04-16). -/
def LRX_BITS (i : Nat) : Nat := 0x040020 + 0x1000 * i
/-- LRX_CORR (04 Table 04-16). -/
def LRX_CORR (i : Nat) : Nat := 0x040022 + 0x1000 * i
/-- LRX_UNCORR (04 Table 04-16). -/
def LRX_UNCORR (i : Nat) : Nat := 0x040024 + 0x1000 * i
/-- LRX_FFE (04 Table 04-16). -/
def LRX_FFE (i : Nat) (j : Nat) : Nat := 0x040100 + 0x1000 * i + j
def LRX_FFE_tap (i : Nat) (j : Nat) : Fld := ⟨LRX_FFE i j, 0, 12⟩
/-- LRX_RSSE (04 Table 04-16). -/
def LRX_RSSE (i : Nat) : Nat := 0x040130 + 0x1000 * i
def LRX_RSSE_h1 (i : Nat) : Fld := ⟨LRX_RSSE i, 16, 10⟩
def LRX_RSSE_h2 (i : Nat) : Fld := ⟨LRX_RSSE i, 0, 10⟩
/-- LRX_AFE (04 Table 04-16). -/
def LRX_AFE (i : Nat) : Nat := 0x040131 + 0x1000 * i
def LRX_AFE_vga (i : Nat) : Fld := ⟨LRX_AFE i, 8, 5⟩
def LRX_AFE_ctle (i : Nat) : Fld := ⟨LRX_AFE i, 0, 4⟩
/-- LRX_HIST (04 Table 04-16). -/
def LRX_HIST (i : Nat) (j : Nat) : Nat := 0x040800 + 0x1000 * i + j
/-- LRX_GTH_SEL (04 Table 04-16). -/
def LRX_GTH_SEL : Nat := 0x04F001
def LRX_GTH_SEL_point : Fld := ⟨LRX_GTH_SEL, 4, 2⟩
def LRX_GTH_SEL_lane : Fld := ⟨LRX_GTH_SEL, 0, 3⟩
/-- LRX_REF_SNR (04 Table 04-16). -/
def LRX_REF_SNR : Nat := 0x04F002
def LRX_REF_SNR_n4 : Fld := ⟨LRX_REF_SNR, 20, 10⟩
def LRX_REF_SNR_n2x : Fld := ⟨LRX_REF_SNR, 10, 10⟩
def LRX_REF_SNR_c2 : Fld := ⟨LRX_REF_SNR, 0, 10⟩
/-- LFM_CFG (05 Table 05-14). -/
def LFM_CFG (i : Nat) : Nat := 0x050001 + 0x1000 * i
def LFM_CFG_status_period (i : Nat) : Fld := ⟨LFM_CFG i, 16, 8⟩
def LFM_CFG_c2_layout (i : Nat) : Fld := ⟨LFM_CFG i, 8, 1⟩
def LFM_CFG_mode_pref (i : Nat) : Fld := ⟨LFM_CFG i, 0, 2⟩
/-- LFM_STATUS (05 Table 05-15). -/
def LFM_STATUS (i : Nat) : Nat := 0x050002 + 0x1000 * i
def LFM_STATUS_mode (i : Nat) : Fld := ⟨LFM_STATUS i, 30, 2⟩
def LFM_STATUS_generation (i : Nat) : Fld := ⟨LFM_STATUS i, 16, 8⟩
def LFM_STATUS_tx_mask (i : Nat) : Fld := ⟨LFM_STATUS i, 12, 4⟩
def LFM_STATUS_rx_mask (i : Nat) : Fld := ⟨LFM_STATUS i, 8, 4⟩
def LFM_STATUS_am_lock (i : Nat) : Fld := ⟨LFM_STATUS i, 4, 4⟩
def LFM_STATUS_seed (i : Nat) : Fld := ⟨LFM_STATUS i, 3, 1⟩
def LFM_STATUS_far_core_lost (i : Nat) : Fld := ⟨LFM_STATUS i, 2, 1⟩
def LFM_STATUS_far_ref_lost (i : Nat) : Fld := ⟨LFM_STATUS i, 1, 1⟩
def LFM_STATUS_stuff_over (i : Nat) : Fld := ⟨LFM_STATUS i, 0, 1⟩
/-- LFM_LATCH (05 Table 05-16). -/
def LFM_LATCH (i : Nat) : Nat := 0x050003 + 0x1000 * i
def LFM_LATCH_stuff_err (i : Nat) : Fld := ⟨LFM_LATCH i, 4, 1⟩
def LFM_LATCH_hdr_err (i : Nat) : Fld := ⟨LFM_LATCH i, 3, 1⟩
def LFM_LATCH_far_core_lost (i : Nat) : Fld := ⟨LFM_LATCH i, 2, 1⟩
def LFM_LATCH_stuff_over (i : Nat) : Fld := ⟨LFM_LATCH i, 1, 1⟩
def LFM_LATCH_am_lost (i : Nat) : Fld := ⟨LFM_LATCH i, 0, 1⟩
/-- LFM_FRAMES (05 Table 05-17). -/
def LFM_FRAMES (i : Nat) : Nat := 0x050010 + 0x1000 * i
/-- LFM_SKEW (05 Table 05-17). -/
def LFM_SKEW (i : Nat) : Nat := 0x050012 + 0x1000 * i
def LFM_SKEW_skew (i : Nat) : Fld := ⟨LFM_SKEW i, 0, 16⟩
/-- LFM_HDR_ERR (05 Table 05-17). -/
def LFM_HDR_ERR (i : Nat) : Nat := 0x050020 + 0x1000 * i
/-- LFM_OAM_ERR (05 Table 05-17). -/
def LFM_OAM_ERR (i : Nat) : Nat := 0x050021 + 0x1000 * i
/-- LFM_STUFF_TX (05 Table 05-17). -/
def LFM_STUFF_TX (i : Nat) : Nat := 0x050022 + 0x1000 * i
/-- LFM_STUFF_RX (05 Table 05-17). -/
def LFM_STUFF_RX (i : Nat) : Nat := 0x050023 + 0x1000 * i
/-- LFM_STUFF_ERR (05 Table 05-17). -/
def LFM_STUFF_ERR (i : Nat) : Nat := 0x050024 + 0x1000 * i
/-- LFM_STUFF_OVER (05 Table 05-17). -/
def LFM_STUFF_OVER (i : Nat) : Nat := 0x050025 + 0x1000 * i
/-- LFM_BE_GAP (05 Table 05-17). -/
def LFM_BE_GAP (i : Nat) : Nat := 0x050026 + 0x1000 * i
/-- LFM_AM_MISS (05 Table 05-17). -/
def LFM_AM_MISS (i : Nat) : Nat := 0x050027 + 0x1000 * i
/-- LNK_TAG (06 Table 06-9). -/
def LNK_TAG : Nat := 0x06F001
/-- LNK_CFG (06 Table 06-9). -/
def LNK_CFG (i : Nat) : Nat := 0x06F010 + i
def LNK_CFG_min_lanes (i : Nat) : Fld := ⟨LNK_CFG i, 8, 3⟩
def LNK_CFG_auto_rejoin (i : Nat) : Fld := ⟨LNK_CFG i, 3, 1⟩
def LNK_CFG_wake_light (i : Nat) : Fld := ⟨LNK_CFG i, 2, 1⟩
def LNK_CFG_wake_tx (i : Nat) : Fld := ⟨LNK_CFG i, 1, 1⟩
def LNK_CFG_enable (i : Nat) : Fld := ⟨LNK_CFG i, 0, 1⟩
/-- LNK_WAKE_CFG (06 Table 06-9). -/
def LNK_WAKE_CFG : Nat := 0x06F012
def LNK_WAKE_CFG_tag_filter : Fld := ⟨LNK_WAKE_CFG, 0, 32⟩
/-- LNK_WAKE_STATUS (06 Table 06-9). -/
def LNK_WAKE_STATUS : Nat := 0x06F013
def LNK_WAKE_STATUS_pending_b : Fld := ⟨LNK_WAKE_STATUS, 3, 1⟩
def LNK_WAKE_STATUS_pending_a : Fld := ⟨LNK_WAKE_STATUS, 2, 1⟩
def LNK_WAKE_STATUS_woke_b : Fld := ⟨LNK_WAKE_STATUS, 1, 1⟩
def LNK_WAKE_STATUS_woke_a : Fld := ⟨LNK_WAKE_STATUS, 0, 1⟩
/-- LNK_STATUS (06 Table 06-10). -/
def LNK_STATUS (i : Nat) : Nat := 0x060002 + 0x1000 * i
def LNK_STATUS_stage (i : Nat) : Fld := ⟨LNK_STATUS i, 29, 3⟩
def LNK_STATUS_ready (i : Nat) : Fld := ⟨LNK_STATUS i, 20, 4⟩
def LNK_STATUS_excluded (i : Nat) : Fld := ⟨LNK_STATUS i, 16, 4⟩
def LNK_STATUS_retrain (i : Nat) : Fld := ⟨LNK_STATUS i, 12, 4⟩
def LNK_STATUS_fails (i : Nat) : Fld := ⟨LNK_STATUS i, 8, 4⟩
def LNK_STATUS_reason (i : Nat) : Fld := ⟨LNK_STATUS i, 4, 4⟩
def LNK_STATUS_backoff (i : Nat) : Fld := ⟨LNK_STATUS i, 3, 1⟩
def LNK_STATUS_peer_seen (i : Nat) : Fld := ⟨LNK_STATUS i, 2, 1⟩
def LNK_STATUS_mode (i : Nat) : Fld := ⟨LNK_STATUS i, 0, 2⟩
/-- LNK_LATCH (06 Table 06-11). -/
def LNK_LATCH (i : Nat) : Nat := 0x060003 + 0x1000 * i
def LNK_LATCH_ctl_err (i : Nat) : Fld := ⟨LNK_LATCH i, 4, 1⟩
def LNK_LATCH_fail (i : Nat) : Fld := ⟨LNK_LATCH i, 3, 1⟩
def LNK_LATCH_p5_left (i : Nat) : Fld := ⟨LNK_LATCH i, 2, 1⟩
def LNK_LATCH_tag_changed (i : Nat) : Fld := ⟨LNK_LATCH i, 1, 1⟩
def LNK_LATCH_p5_entered (i : Nat) : Fld := ⟨LNK_LATCH i, 0, 1⟩
/-- LNK_PEER (06 Table 06-12). -/
def LNK_PEER (i : Nat) : Nat := 0x060004 + 0x1000 * i
/-- LNK_PEER_INFO (06 Table 06-12). -/
def LNK_PEER_INFO (i : Nat) : Nat := 0x060005 + 0x1000 * i
def LNK_PEER_INFO_features (i : Nat) : Fld := ⟨LNK_PEER_INFO i, 16, 8⟩
def LNK_PEER_INFO_mode_pref (i : Nat) : Fld := ⟨LNK_PEER_INFO i, 8, 2⟩
def LNK_PEER_INFO_modes (i : Nat) : Fld := ⟨LNK_PEER_INFO i, 4, 2⟩
def LNK_PEER_INFO_group (i : Nat) : Fld := ⟨LNK_PEER_INFO i, 0, 1⟩
/-- LNK_LSTAGE (06 Table 06-12). -/
def LNK_LSTAGE (i : Nat) : Nat := 0x060006 + 0x1000 * i
/-- LNK_T_P2 (06 Table 06-12). -/
def LNK_T_P2 (i : Nat) : Nat := 0x060010 + 0x1000 * i
/-- LNK_C_UP (06 Table 06-12). -/
def LNK_C_UP (i : Nat) : Nat := 0x060011 + 0x1000 * i
/-- LNK_C_FAIL (06 Table 06-12). -/
def LNK_C_FAIL (i : Nat) : Nat := 0x060012 + 0x1000 * i
/-- LNK_SPROUT_ERR (06 Table 06-12). -/
def LNK_SPROUT_ERR (i : Nat) : Nat := 0x060013 + 0x1000 * i
/-- HSL_TXEQ (07 Table 07-4). -/
def HSL_TXEQ (i : Nat) (j : Nat) : Nat := 0x070010 + 0x1000 * i + j
def HSL_TXEQ_amp (i : Nat) (j : Nat) : Fld := ⟨HSL_TXEQ i j, 12, 2⟩
def HSL_TXEQ_post (i : Nat) (j : Nat) : Fld := ⟨HSL_TXEQ i j, 8, 3⟩
def HSL_TXEQ_pre (i : Nat) (j : Nat) : Fld := ⟨HSL_TXEQ i j, 0, 3⟩
/-- HSL_STATUS (07 Table 07-4). -/
def HSL_STATUS (i : Nat) (j : Nat) : Nat := 0x070020 + 0x1000 * i + j
def HSL_STATUS_los (i : Nat) (j : Nat) : Fld := ⟨HSL_STATUS i j, 4, 1⟩
def HSL_STATUS_lock (i : Nat) (j : Nat) : Fld := ⟨HSL_STATUS i j, 3, 1⟩
def HSL_STATUS_squelch (i : Nat) (j : Nat) : Fld := ⟨HSL_STATUS i j, 2, 1⟩
def HSL_STATUS_local_fault (i : Nat) (j : Nat) : Fld := ⟨HSL_STATUS i j, 1, 1⟩
def HSL_STATUS_pll_lock (i : Nat) (j : Nat) : Fld := ⟨HSL_STATUS i j, 0, 1⟩
/-- HSL_CFG (07 R275). -/
def HSL_CFG : Nat := 0x07F001
def HSL_CFG_wake_hrx0 : Fld := ⟨HSL_CFG, 0, 1⟩
/-- HPC_PORT (07 Table 07-5). -/
def HPC_PORT (i : Nat) : Nat := 0x08F010 + i
def HPC_PORT_enable (i : Nat) : Fld := ⟨HPC_PORT i, 31, 1⟩
def HPC_PORT_rate (i : Nat) : Fld := ⟨HPC_PORT i, 24, 2⟩
def HPC_PORT_first_lane (i : Nat) : Fld := ⟨HPC_PORT i, 16, 4⟩
def HPC_PORT_group (i : Nat) : Fld := ⟨HPC_PORT i, 8, 1⟩
def HPC_PORT_line_lane (i : Nat) : Fld := ⟨HPC_PORT i, 0, 3⟩
/-- HPC_PORT_STATUS (07 Table 07-6). -/
def HPC_PORT_STATUS (i : Nat) : Nat := 0x08F020 + i
def HPC_PORT_STATUS_miss (i : Nat) : Fld := ⟨HPC_PORT_STATUS i, 3, 1⟩
def HPC_PORT_STATUS_align_lost (i : Nat) : Fld := ⟨HPC_PORT_STATUS i, 2, 1⟩
def HPC_PORT_STATUS_local_fault (i : Nat) : Fld := ⟨HPC_PORT_STATUS i, 1, 1⟩
def HPC_PORT_STATUS_aligned (i : Nat) : Fld := ⟨HPC_PORT_STATUS i, 0, 1⟩
/-- HPC_PTP_CFG (07 Table 07-6). -/
def HPC_PTP_CFG : Nat := 0x08F001
def HPC_PTP_CFG_en : Fld := ⟨HPC_PTP_CFG, 0, 8⟩
/-- HPC_RX_FRAMES (07 Table 07-7). -/
def HPC_RX_FRAMES (i : Nat) : Nat := 0x08F100 + 0x10 * i
/-- HPC_TX_FRAMES (07 Table 07-7). -/
def HPC_TX_FRAMES (i : Nat) : Nat := 0x08F102 + 0x10 * i
/-- HPC_RX_FCS_ERR (07 Table 07-7). -/
def HPC_RX_FCS_ERR (i : Nat) : Nat := 0x08F104 + 0x10 * i
/-- HPC_RX_DROP (07 Table 07-7). -/
def HPC_RX_DROP (i : Nat) : Nat := 0x08F105 + 0x10 * i
/-- HPC_FEC_CORR (07 Table 07-7). -/
def HPC_FEC_CORR (i : Nat) : Nat := 0x08F106 + 0x10 * i
/-- HPC_FEC_UNCORR (07 Table 07-7). -/
def HPC_FEC_UNCORR (i : Nat) : Nat := 0x08F107 + 0x10 * i
/-- HPC_PTP_CORR (07 Table 07-7). -/
def HPC_PTP_CORR (i : Nat) : Nat := 0x08F108 + 0x10 * i
/-- HPC_PORT_MISS (07 Table 07-7). -/
def HPC_PORT_MISS (i : Nat) : Nat := 0x08F109 + 0x10 * i
/-- FLW_STATUS (08 Table 08-10). -/
def FLW_STATUS : Nat := 0x09F001
def FLW_STATUS_ready : Fld := ⟨FLW_STATUS, 31, 1⟩
def FLW_STATUS_keys : Fld := ⟨FLW_STATUS, 0, 21⟩
/-- FLW_CTX (08 Table 08-10). -/
def FLW_CTX : Nat := 0x09F002
def FLW_CTX_contexts : Fld := ⟨FLW_CTX, 0, 21⟩
/-- FLW_STASH (08 Table 08-10). -/
def FLW_STASH : Nat := 0x09F003
def FLW_STASH_peak : Fld := ⟨FLW_STASH, 16, 7⟩
def FLW_STASH_occupancy : Fld := ⟨FLW_STASH, 0, 7⟩
/-- FLW_CHAIN (08 Table 08-10). -/
def FLW_CHAIN : Nat := 0x09F004
def FLW_CHAIN_longest : Fld := ⟨FLW_CHAIN, 0, 7⟩
/-- FLW_COOL (08 Table 08-10). -/
def FLW_COOL : Nat := 0x09F005
def FLW_COOL_cooling : Fld := ⟨FLW_COOL, 0, 13⟩
/-- FLW_HIT (08 Table 08-11). -/
def FLW_HIT : Nat := 0x09F010
/-- FLW_MISS (08 Table 08-11). -/
def FLW_MISS : Nat := 0x09F012
/-- FLW_UNADMIT (08 Table 08-11). -/
def FLW_UNADMIT : Nat := 0x09F014
/-- FLW_QUAR_DROP (08 Table 08-11). -/
def FLW_QUAR_DROP : Nat := 0x09F015
/-- FLW_RX_UNKNOWN (08 Table 08-11). -/
def FLW_RX_UNKNOWN : Nat := 0x09F016
/-- FLW_CONFLICT (08 Table 08-11). -/
def FLW_CONFLICT : Nat := 0x09F017
/-- TDS_CFG (09 Table 09-7). -/
def TDS_CFG : Nat := 0x0AF002
def TDS_CFG_pol_tol : Fld := ⟨TDS_CFG, 24, 4⟩
def TDS_CFG_budget_lanes : Fld := ⟨TDS_CFG, 16, 3⟩
def TDS_CFG_cap : Fld := ⟨TDS_CFG, 0, 8⟩
/-- TDS_DELAY (09 Table 09-8). -/
def TDS_DELAY : Nat := 0x0AF003
/-- TDS_BUF (09 Table 09-8). -/
def TDS_BUF : Nat := 0x0AF004
def TDS_BUF_elastic : Fld := ⟨TDS_BUF, 16, 14⟩
def TDS_BUF_skew : Fld := ⟨TDS_BUF, 0, 14⟩
/-- TDS_STATUS (09 Table 09-8). -/
def TDS_STATUS : Nat := 0x0AF005
def TDS_STATUS_cmis_b : Fld := ⟨TDS_STATUS, 5, 1⟩
def TDS_STATUS_cmis_a : Fld := ⟨TDS_STATUS, 4, 1⟩
def TDS_STATUS_c_prom_b : Fld := ⟨TDS_STATUS, 3, 1⟩
def TDS_STATUS_c_prom_a : Fld := ⟨TDS_STATUS, 2, 1⟩
def TDS_STATUS_prom_b : Fld := ⟨TDS_STATUS, 1, 1⟩
def TDS_STATUS_prom_a : Fld := ⟨TDS_STATUS, 0, 1⟩
/-- TDS_LATCH (09 Table 09-9). -/
def TDS_LATCH : Nat := 0x0AF006
def TDS_LATCH_prom_lost : Fld := ⟨TDS_LATCH, 5, 1⟩
def TDS_LATCH_be_drop : Fld := ⟨TDS_LATCH, 4, 1⟩
def TDS_LATCH_store_full : Fld := ⟨TDS_LATCH, 3, 1⟩
def TDS_LATCH_policed : Fld := ⟨TDS_LATCH, 2, 1⟩
def TDS_LATCH_late_b : Fld := ⟨TDS_LATCH, 1, 1⟩
def TDS_LATCH_late_c : Fld := ⟨TDS_LATCH, 0, 1⟩
/-- TDS_DEM_OWN (09 Table 09-10). -/
def TDS_DEM_OWN (i : Nat) : Nat := 0x0AF010 + i
/-- TDS_DEM_SB (09 Table 09-10). -/
def TDS_DEM_SB (i : Nat) : Nat := 0x0AF012 + i
/-- TDS_LIMIT (09 Table 09-10). -/
def TDS_LIMIT (i : Nat) : Nat := 0x0AF014 + i
/-- TDS_FLOWS (09 Table 09-10). -/
def TDS_FLOWS : Nat := 0x0AF016
def TDS_FLOWS_admitted : Fld := ⟨TDS_FLOWS, 0, 21⟩
/-- TDS_SKEW_USE (09 Table 09-10). -/
def TDS_SKEW_USE : Nat := 0x0AF017
def TDS_SKEW_USE_peak : Fld := ⟨TDS_SKEW_USE, 16, 14⟩
def TDS_SKEW_USE_reserved_places : Fld := ⟨TDS_SKEW_USE, 0, 14⟩
/-- TDS_UNPROM (09 Table 09-11). -/
def TDS_UNPROM : Nat := 0x0AF020
/-- TDS_LATE_C_TX (09 Table 09-11). -/
def TDS_LATE_C_TX : Nat := 0x0AF022
/-- TDS_LATE_C_RX (09 Table 09-11). -/
def TDS_LATE_C_RX : Nat := 0x0AF023
/-- TDS_LATE_B (09 Table 09-11). -/
def TDS_LATE_B : Nat := 0x0AF024
/-- TDS_POL_DEMOTE (09 Table 09-11). -/
def TDS_POL_DEMOTE : Nat := 0x0AF025
/-- TDS_POL_DROP (09 Table 09-11). -/
def TDS_POL_DROP : Nat := 0x0AF026
/-- TDS_NOPATH (09 Table 09-11). -/
def TDS_NOPATH : Nat := 0x0AF027
/-- TDS_STORE_DROP (09 Table 09-11). -/
def TDS_STORE_DROP : Nat := 0x0AF028
/-- TDS_BE_DROP (09 Table 09-11). -/
def TDS_BE_DROP : Nat := 0x0AF029
/-- TDS_DISPLACED (09 Table 09-11). -/
def TDS_DISPLACED : Nat := 0x0AF02A
/-- RDN_CFG (10 Table 10-6). -/
def RDN_CFG : Nat := 0x0BF001
def RDN_CFG_revert_s : Fld := ⟨RDN_CFG, 24, 8⟩
def RDN_CFG_reasm_us : Fld := ⟨RDN_CFG, 16, 8⟩
def RDN_CFG_burst_n : Fld := ⟨RDN_CFG, 8, 4⟩
def RDN_CFG_auto_join : Fld := ⟨RDN_CFG, 0, 1⟩
/-- RDN_STATUS (10 Table 10-7). -/
def RDN_STATUS : Nat := 0x0BF002
def RDN_STATUS_failed_b : Fld := ⟨RDN_STATUS, 28, 4⟩
def RDN_STATUS_failed_a : Fld := ⟨RDN_STATUS, 24, 4⟩
def RDN_STATUS_peer_fail_b : Fld := ⟨RDN_STATUS, 20, 4⟩
def RDN_STATUS_peer_fail_a : Fld := ⟨RDN_STATUS, 16, 4⟩
def RDN_STATUS_held_b : Fld := ⟨RDN_STATUS, 12, 4⟩
def RDN_STATUS_held_a : Fld := ⟨RDN_STATUS, 8, 4⟩
def RDN_STATUS_revert_hold : Fld := ⟨RDN_STATUS, 6, 1⟩
def RDN_STATUS_rerouted_b : Fld := ⟨RDN_STATUS, 5, 1⟩
def RDN_STATUS_rerouted_a : Fld := ⟨RDN_STATUS, 4, 1⟩
def RDN_STATUS_lost_b : Fld := ⟨RDN_STATUS, 3, 1⟩
def RDN_STATUS_lost_a : Fld := ⟨RDN_STATUS, 2, 1⟩
def RDN_STATUS_remap_b : Fld := ⟨RDN_STATUS, 1, 1⟩
def RDN_STATUS_remap_a : Fld := ⟨RDN_STATUS, 0, 1⟩
/-- RDN_LATCH (10 Table 10-8). -/
def RDN_LATCH : Nat := 0x0BF003
def RDN_LATCH_old : Fld := ⟨RDN_LATCH, 4, 1⟩
def RDN_LATCH_adopt : Fld := ⟨RDN_LATCH, 3, 1⟩
def RDN_LATCH_reroute : Fld := ⟨RDN_LATCH, 2, 1⟩
def RDN_LATCH_lost : Fld := ⟨RDN_LATCH, 1, 1⟩
def RDN_LATCH_shed : Fld := ⟨RDN_LATCH, 0, 1⟩
/-- RDN_ELIM (10 Table 10-9). -/
def RDN_ELIM : Nat := 0x0BF010
/-- RDN_OLD (10 Table 10-9). -/
def RDN_OLD : Nat := 0x0BF012
/-- RDN_FRAME_LOST (10 Table 10-9). -/
def RDN_FRAME_LOST : Nat := 0x0BF013
/-- RDN_SHED (10 Table 10-9). -/
def RDN_SHED : Nat := 0x0BF014
/-- RDN_JOIN (10 Table 10-9). -/
def RDN_JOIN : Nat := 0x0BF015
/-- RDN_REROUTE (10 Table 10-9). -/
def RDN_REROUTE : Nat := 0x0BF016
/-- RDN_ADOPT (10 Table 10-9). -/
def RDN_ADOPT : Nat := 0x0BF017
/-- RDN_NOACK (10 Table 10-9). -/
def RDN_NOACK : Nat := 0x0BF018
/-- FES_MAP0 (11 Table 11-7). -/
def FES_MAP0 (i : Nat) : Nat := 0x0D0001 + 0x1000 * i
def FES_MAP0_bias_out (i : Nat) : Fld := ⟨FES_MAP0 i, 24, 8⟩
def FES_MAP0_gate_out (i : Nat) : Fld := ⟨FES_MAP0 i, 16, 8⟩
def FES_MAP0_drive2_out (i : Nat) : Fld := ⟨FES_MAP0 i, 8, 8⟩
def FES_MAP0_spi_cs (i : Nat) : Fld := ⟨FES_MAP0 i, 0, 8⟩
/-- FES_MAP1 (11 Table 11-7). -/
def FES_MAP1 (i : Nat) : Nat := 0x0D0002 + 0x1000 * i
def FES_MAP1_tec_loop (i : Nat) : Fld := ⟨FES_MAP1 i, 24, 8⟩
def FES_MAP1_lock_loop (i : Nat) : Fld := ⟨FES_MAP1 i, 16, 8⟩
def FES_MAP1_temp_win (i : Nat) : Fld := ⟨FES_MAP1 i, 8, 8⟩
def FES_MAP1_lock_win (i : Nat) : Fld := ⟨FES_MAP1 i, 0, 8⟩
/-- FES_MAP2 (11 Table 11-7). -/
def FES_MAP2 (i : Nat) : Nat := 0x0D0003 + 0x1000 * i
def FES_MAP2_turn_trig (i : Nat) : Fld := ⟨FES_MAP2 i, 2, 1⟩
def FES_MAP2_protect (i : Nat) : Fld := ⟨FES_MAP2 i, 1, 1⟩
def FES_MAP2_step_src (i : Nat) : Fld := ⟨FES_MAP2 i, 0, 1⟩
/-- FES_MAP3 (11 Table 11-7). -/
def FES_MAP3 (i : Nat) : Nat := 0x0D0007 + 0x1000 * i
def FES_MAP3_gate_open (i : Nat) : Fld := ⟨FES_MAP3 i, 16, 16⟩
/-- FES_STATE (11 Table 11-8). -/
def FES_STATE (i : Nat) : Nat := 0x0D0004 + 0x1000 * i
def FES_STATE_state (i : Nat) : Fld := ⟨FES_STATE i, 29, 3⟩
def FES_STATE_target (i : Nat) : Fld := ⟨FES_STATE i, 26, 3⟩
def FES_STATE_line (i : Nat) : Fld := ⟨FES_STATE i, 23, 3⟩
def FES_STATE_step (i : Nat) : Fld := ⟨FES_STATE i, 18, 5⟩
def FES_STATE_step_tgt (i : Nat) : Fld := ⟨FES_STATE i, 13, 5⟩
def FES_STATE_moving (i : Nat) : Fld := ⟨FES_STATE i, 12, 1⟩
def FES_STATE_ramping (i : Nat) : Fld := ⟨FES_STATE i, 11, 1⟩
def FES_STATE_temp_ok (i : Nat) : Fld := ⟨FES_STATE i, 10, 1⟩
def FES_STATE_lock (i : Nat) : Fld := ⟨FES_STATE i, 9, 1⟩
def FES_STATE_turn_ready (i : Nat) : Fld := ⟨FES_STATE i, 8, 1⟩
def FES_STATE_held (i : Nat) : Fld := ⟨FES_STATE i, 7, 1⟩
def FES_STATE_cmis_dis (i : Nat) : Fld := ⟨FES_STATE i, 6, 1⟩
def FES_STATE_muted (i : Nat) : Fld := ⟨FES_STATE i, 5, 1⟩
def FES_STATE_fault (i : Nat) : Fld := ⟨FES_STATE i, 4, 1⟩
/-- FES_LATCH (11 Table 11-9). -/
def FES_LATCH (i : Nat) : Nat := 0x0D0005 + 0x1000 * i
def FES_LATCH_not_locked (i : Nat) : Fld := ⟨FES_LATCH i, 4, 1⟩
def FES_LATCH_turn_missed (i : Nat) : Fld := ⟨FES_LATCH i, 3, 1⟩
def FES_LATCH_lock_lost (i : Nat) : Fld := ⟨FES_LATCH i, 2, 1⟩
def FES_LATCH_fault (i : Nat) : Fld := ⟨FES_LATCH i, 1, 1⟩
def FES_LATCH_settle_over (i : Nat) : Fld := ⟨FES_LATCH i, 0, 1⟩
/-- FES_SETTLE (11 Table 11-9). -/
def FES_SETTLE (i : Nat) : Nat := 0x0D0006 + 0x1000 * i
def FES_SETTLE_ms (i : Nat) : Fld := ⟨FES_SETTLE i, 0, 16⟩
/-- FES_TURN_T (11 Table 11-9). -/
def FES_TURN_T (i : Nat) : Nat := 0x0D0008 + 0x1000 * i
/-- FES_STEPTAB (11 Table 11-9). -/
def FES_STEPTAB (i : Nat) (j : Nat) : Nat := 0x0D0100 + 0x1000 * i + j
/-- FES_SPI_CFG (11 Table 11-9). -/
def FES_SPI_CFG (i : Nat) : Nat := 0x0DD010 + i
def FES_SPI_CFG_div (i : Nat) : Fld := ⟨FES_SPI_CFG i, 8, 8⟩
def FES_SPI_CFG_mode (i : Nat) : Fld := ⟨FES_SPI_CFG i, 0, 2⟩
/-- FES_CFG (11 Table 11-9). -/
def FES_CFG : Nat := 0x0DF001
def FES_CFG_settle_max : Fld := ⟨FES_CFG, 16, 16⟩
def FES_CFG_deadline : Fld := ⟨FES_CFG, 0, 10⟩
/-- FES_TBL (11 Table 11-9). -/
def FES_TBL : Nat := 0x0DF002
def FES_TBL_init : Fld := ⟨FES_TBL, 0, 12⟩
/-- BRC_CFG (12 Table 12-5). -/
def BRC_CFG : Nat := 0x0EF001
def BRC_CFG_margin : Fld := ⟨BRC_CFG, 20, 12⟩
def BRC_CFG_window : Fld := ⟨BRC_CFG, 9, 11⟩
def BRC_CFG_apr_en : Fld := ⟨BRC_CFG, 4, 1⟩
def BRC_CFG_auto_retry : Fld := ⟨BRC_CFG, 3, 1⟩
def BRC_CFG_east_grp : Fld := ⟨BRC_CFG, 2, 1⟩
def BRC_CFG_t2_en : Fld := ⟨BRC_CFG, 1, 1⟩
def BRC_CFG_t1_en : Fld := ⟨BRC_CFG, 0, 1⟩
/-- BRC_APR (12 Table 12-5). -/
def BRC_APR : Nat := 0x0EF002
def BRC_APR_level : Fld := ⟨BRC_APR, 16, 16⟩
def BRC_APR_red_b : Fld := ⟨BRC_APR, 1, 1⟩
def BRC_APR_red_a : Fld := ⟨BRC_APR, 0, 1⟩
/-- BRC_PILOT (12 Table 12-5). -/
def BRC_PILOT (i : Nat) : Nat := 0x0EF003 + i
def BRC_PILOT_hi (i : Nat) : Fld := ⟨BRC_PILOT i, 16, 16⟩
def BRC_PILOT_lo (i : Nat) : Fld := ⟨BRC_PILOT i, 0, 16⟩
/-- BRC_QUIET (12 Table 12-5). -/
def BRC_QUIET : Nat := 0x0EF005
def BRC_QUIET_sending : Fld := ⟨BRC_QUIET, 4, 4⟩
def BRC_QUIET_received : Fld := ⟨BRC_QUIET, 0, 4⟩
/-- BRC_CAL (12 Table 12-5). -/
def BRC_CAL (i : Nat) : Nat := 0x0E4010 + i
def BRC_CAL_k (i : Nat) : Fld := ⟨BRC_CAL i, 16, 16⟩
def BRC_CAL_dark (i : Nat) : Fld := ⟨BRC_CAL i, 0, 12⟩
/-- BRC_COEX_CFG (12 Table 12-5). -/
def BRC_COEX_CFG : Nat := 0x0E6001
def BRC_COEX_CFG_req_max : Fld := ⟨BRC_COEX_CFG, 16, 16⟩
def BRC_COEX_CFG_grant_timeout : Fld := ⟨BRC_COEX_CFG, 8, 8⟩
def BRC_COEX_CFG_out_en : Fld := ⟨BRC_COEX_CFG, 2, 1⟩
def BRC_COEX_CFG_mode : Fld := ⟨BRC_COEX_CFG, 1, 1⟩
def BRC_COEX_CFG_in_en : Fld := ⟨BRC_COEX_CFG, 0, 1⟩
/-- BRC_COEX_STATUS (12 Table 12-5). -/
def BRC_COEX_STATUS : Nat := 0x0E6002
def BRC_COEX_STATUS_xreq_in : Fld := ⟨BRC_COEX_STATUS, 7, 1⟩
def BRC_COEX_STATUS_xgnt_out : Fld := ⟨BRC_COEX_STATUS, 6, 1⟩
def BRC_COEX_STATUS_xreq_out : Fld := ⟨BRC_COEX_STATUS, 5, 1⟩
def BRC_COEX_STATUS_xgnt_in : Fld := ⟨BRC_COEX_STATUS, 4, 1⟩
def BRC_COEX_STATUS_deferring : Fld := ⟨BRC_COEX_STATUS, 3, 1⟩
def BRC_COEX_STATUS_in_stuck : Fld := ⟨BRC_COEX_STATUS, 2, 1⟩
def BRC_COEX_STATUS_in_granted : Fld := ⟨BRC_COEX_STATUS, 1, 1⟩
def BRC_COEX_STATUS_out_granted : Fld := ⟨BRC_COEX_STATUS, 0, 1⟩
/-- BRC_SCFG (12 Table 12-6). -/
def BRC_SCFG (i : Nat) : Nat := 0x0E0001 + 0x1000 * i
def BRC_SCFG_limit (i : Nat) : Fld := ⟨BRC_SCFG i, 16, 16⟩
def BRC_SCFG_in_los (i : Nat) : Fld := ⟨BRC_SCFG i, 0, 16⟩
/-- BRC_SSEL (12 Table 12-6). -/
def BRC_SSEL (i : Nat) : Nat := 0x0E0002 + 0x1000 * i
def BRC_SSEL_pilot_gen (i : Nat) : Fld := ⟨BRC_SSEL i, 4, 2⟩
def BRC_SSEL_cle_src (i : Nat) : Fld := ⟨BRC_SSEL i, 0, 1⟩
/-- BRC_SSTAT (12 Table 12-6). -/
def BRC_SSTAT (i : Nat) : Nat := 0x0E0003 + 0x1000 * i
def BRC_SSTAT_desired (i : Nat) : Fld := ⟨BRC_SSTAT i, 27, 5⟩
def BRC_SSTAT_limit_ceil (i : Nat) : Fld := ⟨BRC_SSTAT i, 22, 5⟩
def BRC_SSTAT_target (i : Nat) : Fld := ⟨BRC_SSTAT i, 17, 5⟩
def BRC_SSTAT_muted (i : Nat) : Fld := ⟨BRC_SSTAT i, 16, 1⟩
def BRC_SSTAT_cause (i : Nat) : Fld := ⟨BRC_SSTAT i, 8, 8⟩
def BRC_SSTAT_est_valid (i : Nat) : Fld := ⟨BRC_SSTAT i, 7, 1⟩
def BRC_SSTAT_rising (i : Nat) : Fld := ⟨BRC_SSTAT i, 6, 1⟩
def BRC_SSTAT_input_lost (i : Nat) : Fld := ⟨BRC_SSTAT i, 5, 1⟩
def BRC_SSTAT_held_min (i : Nat) : Fld := ⟨BRC_SSTAT i, 4, 1⟩
def BRC_SSTAT_over_limit (i : Nat) : Fld := ⟨BRC_SSTAT i, 3, 1⟩
def BRC_SSTAT_apr (i : Nat) : Fld := ⟨BRC_SSTAT i, 2, 1⟩
def BRC_SSTAT_coex_hold (i : Nat) : Fld := ⟨BRC_SSTAT i, 1, 1⟩
/-- BRC_EST (12 Table 12-6). -/
def BRC_EST (i : Nat) : Nat := 0x0E0004 + 0x1000 * i
def BRC_EST_est (i : Nat) : Fld := ⟨BRC_EST i, 20, 12⟩
def BRC_EST_below_floor (i : Nat) : Fld := ⟨BRC_EST i, 19, 1⟩
def BRC_EST_pilot_idx (i : Nat) : Fld := ⟨BRC_EST i, 0, 10⟩
/-- BRC_PWR (12 Table 12-6). -/
def BRC_PWR (i : Nat) : Nat := 0x0E0005 + 0x1000 * i
def BRC_PWR_input (i : Nat) : Fld := ⟨BRC_PWR i, 16, 16⟩
def BRC_PWR_output (i : Nat) : Fld := ⟨BRC_PWR i, 0, 16⟩
/-- BRC_SLATCH (12 Table 12-6). -/
def BRC_SLATCH (i : Nat) : Nat := 0x0E0006 + 0x1000 * i
def BRC_SLATCH_coex (i : Nat) : Fld := ⟨BRC_SLATCH i, 6, 1⟩
def BRC_SLATCH_quiet (i : Nat) : Fld := ⟨BRC_SLATCH i, 5, 1⟩
def BRC_SLATCH_apr (i : Nat) : Fld := ⟨BRC_SLATCH i, 4, 1⟩
def BRC_SLATCH_over_limit (i : Nat) : Fld := ⟨BRC_SLATCH i, 3, 1⟩
def BRC_SLATCH_input_lost (i : Nat) : Fld := ⟨BRC_SLATCH i, 2, 1⟩
def BRC_SLATCH_runaway (i : Nat) : Fld := ⟨BRC_SLATCH i, 1, 1⟩
def BRC_SLATCH_trip (i : Nat) : Fld := ⟨BRC_SLATCH i, 0, 1⟩
/-- BRC_TRIPS (12 Table 12-7). -/
def BRC_TRIPS : Nat := 0x0EF010
/-- BRC_RUNAWAY (12 Table 12-7). -/
def BRC_RUNAWAY : Nat := 0x0EF011
/-- BRC_APR_N (12 Table 12-7). -/
def BRC_APR_N : Nat := 0x0EF012
/-- BRC_QUIET_N (12 Table 12-7). -/
def BRC_QUIET_N : Nat := 0x0EF013
/-- BRC_GRANTS (12 Table 12-7). -/
def BRC_GRANTS : Nat := 0x0EF014
/-- BRC_STUCK (12 Table 12-7). -/
def BRC_STUCK : Nat := 0x0EF015
/-- CLE_CFG (13 Table 13-6). -/
def CLE_CFG (i : Nat) : Nat := 0x0F0000 + 0x10 * i
def CLE_CFG_src_kind (i : Nat) : Fld := ⟨CLE_CFG i, 29, 3⟩
def CLE_CFG_src_idx (i : Nat) : Fld := ⟨CLE_CFG i, 16, 8⟩
def CLE_CFG_dst_kind (i : Nat) : Fld := ⟨CLE_CFG i, 13, 3⟩
def CLE_CFG_dst_idx (i : Nat) : Fld := ⟨CLE_CFG i, 8, 5⟩
def CLE_CFG_sub (i : Nat) : Fld := ⟨CLE_CFG i, 6, 2⟩
def CLE_CFG_rep_en (i : Nat) : Fld := ⟨CLE_CFG i, 5, 1⟩
/-- CLE_PERIOD (13 Table 13-6). -/
def CLE_PERIOD (i : Nat) : Nat := 0x0F0001 + 0x10 * i
def CLE_PERIOD_period (i : Nat) : Fld := ⟨CLE_PERIOD i, 0, 17⟩
/-- CLE_SETPT (13 Table 13-6). -/
def CLE_SETPT (i : Nat) : Nat := 0x0F0002 + 0x10 * i
/-- CLE_MANUAL (13 Table 13-6). -/
def CLE_MANUAL (i : Nat) : Nat := 0x0F0003 + 0x10 * i
/-- CLE_X (13 Table 13-6). -/
def CLE_X (i : Nat) : Nat := 0x0F0005 + 0x10 * i
/-- CLE_E (13 Table 13-6). -/
def CLE_E (i : Nat) : Nat := 0x0F0006 + 0x10 * i
/-- CLE_Y (13 Table 13-6). -/
def CLE_Y (i : Nat) : Nat := 0x0F0007 + 0x10 * i
/-- CLE_R (13 Table 13-6). -/
def CLE_R (i : Nat) : Nat := 0x0F0008 + 0x10 * i
/-- CLE_MISS (13 Table 13-6). -/
def CLE_MISS (i : Nat) : Nat := 0x0F0009 + 0x10 * i
/-- CLE_STATUS (13 Table 13-6). -/
def CLE_STATUS (i : Nat) : Nat := 0x0F0004 + 0x10 * i
def CLE_STATUS_mode (i : Nat) : Fld := ⟨CLE_STATUS i, 30, 2⟩
def CLE_STATUS_rep (i : Nat) : Fld := ⟨CLE_STATUS i, 28, 2⟩
def CLE_STATUS_rep_held (i : Nat) : Fld := ⟨CLE_STATUS i, 27, 1⟩
def CLE_STATUS_stale (i : Nat) : Fld := ⟨CLE_STATUS i, 26, 1⟩
def CLE_STATUS_sat_hi (i : Nat) : Fld := ⟨CLE_STATUS i, 25, 1⟩
def CLE_STATUS_sat_lo (i : Nat) : Fld := ⟨CLE_STATUS i, 24, 1⟩
def CLE_STATUS_dest_below (i : Nat) : Fld := ⟨CLE_STATUS i, 23, 1⟩
def CLE_STATUS_dest_above (i : Nat) : Fld := ⟨CLE_STATUS i, 22, 1⟩
def CLE_STATUS_test (i : Nat) : Fld := ⟨CLE_STATUS i, 21, 1⟩
def CLE_STATUS_miss (i : Nat) : Fld := ⟨CLE_STATUS i, 20, 1⟩
def CLE_STATUS_conflict (i : Nat) : Fld := ⟨CLE_STATUS i, 19, 1⟩
def CLE_STATUS_cycles (i : Nat) : Fld := ⟨CLE_STATUS i, 0, 16⟩
/-- CLE_LATCH (13 Table 13-6). -/
def CLE_LATCH (i : Nat) : Nat := 0x0F000A + 0x10 * i
def CLE_LATCH_conflict (i : Nat) : Fld := ⟨CLE_LATCH i, 4, 1⟩
def CLE_LATCH_rep_lim (i : Nat) : Fld := ⟨CLE_LATCH i, 3, 1⟩
def CLE_LATCH_sat (i : Nat) : Fld := ⟨CLE_LATCH i, 2, 1⟩
def CLE_LATCH_stale (i : Nat) : Fld := ⟨CLE_LATCH i, 1, 1⟩
def CLE_LATCH_miss (i : Nat) : Fld := ⟨CLE_LATCH i, 0, 1⟩
/-- CLE_LEARN (13 Table 13-6). -/
def CLE_LEARN (i : Nat) : Nat := 0x0F000B + 0x10 * i
def CLE_LEARN_learn_cycles (i : Nat) : Fld := ⟨CLE_LEARN i, 0, 16⟩
/-- CLE_LIA_CFG (13 Table 13-8). -/
def CLE_LIA_CFG (i : Nat) : Nat := 0x0F0400 + 0x2 * i
def CLE_LIA_CFG_src_kind (i : Nat) : Fld := ⟨CLE_LIA_CFG i, 31, 1⟩
def CLE_LIA_CFG_src_idx (i : Nat) : Fld := ⟨CLE_LIA_CFG i, 24, 7⟩
def CLE_LIA_CFG_generator (i : Nat) : Fld := ⟨CLE_LIA_CFG i, 22, 2⟩
def CLE_LIA_CFG_harmonic (i : Nat) : Fld := ⟨CLE_LIA_CFG i, 21, 1⟩
def CLE_LIA_CFG_phase (i : Nat) : Fld := ⟨CLE_LIA_CFG i, 11, 10⟩
/-- CLE_LIA_WIN (13 Table 13-8). -/
def CLE_LIA_WIN (i : Nat) : Nat := 0x0F0401 + 0x2 * i
def CLE_LIA_WIN_window (i : Nat) : Fld := ⟨CLE_LIA_WIN i, 16, 16⟩
/-- CLE_LIA_OUT (13 Table 13-8). -/
def CLE_LIA_OUT (i : Nat) : Nat := 0x0F0410 + i
/-- CLE_TEST (13 Table 13-8). -/
def CLE_TEST : Nat := 0x0F3001
def CLE_TEST_running : Fld := ⟨CLE_TEST, 31, 1⟩
def CLE_TEST_point : Fld := ⟨CLE_TEST, 29, 2⟩
def CLE_TEST_type : Fld := ⟨CLE_TEST, 27, 2⟩
def CLE_TEST_loop : Fld := ⟨CLE_TEST, 16, 5⟩
/-- CLE_TEST_DONE (13 Table 13-8). -/
def CLE_TEST_DONE : Nat := 0x0F3002
/-- CLE_COEF_INIT (13 Table 13-8). -/
def CLE_COEF_INIT : Nat := 0x0FF001
/-- CLE_REP_INIT (13 Table 13-8). -/
def CLE_REP_INIT : Nat := 0x0FF002
/-- CLE_LOAD (13 Table 13-8). -/
def CLE_LOAD : Nat := 0x0FF003
def CLE_LOAD_load : Fld := ⟨CLE_LOAD, 0, 10⟩
/-- CLE_MAINS (13 Table 13-8). -/
def CLE_MAINS : Nat := 0x0FF004
def CLE_MAINS_valid : Fld := ⟨CLE_MAINS, 31, 1⟩
def CLE_MAINS_period : Fld := ⟨CLE_MAINS, 0, 21⟩
/-- AOU_OCFG (14 Table 14-5); output `o`, R445. -/
def AOU_OCFG (o : Nat) : Nat := 0x100000 + 0x1000 * (o / 16) + 0x10 * (o % 16)
def AOU_OCFG_safe (o : Nat) : Fld := ⟨AOU_OCFG o, 16, 16⟩
def AOU_OCFG_range (o : Nat) : Fld := ⟨AOU_OCFG o, 0, 2⟩
/-- AOU_CODE (14 Table 14-5); output `o`, R445. -/
def AOU_CODE (o : Nat) : Nat := 0x100001 + 0x1000 * (o / 16) + 0x10 * (o % 16)
def AOU_CODE_code (o : Nat) : Fld := ⟨AOU_CODE o, 16, 16⟩
def AOU_CODE_never_written (o : Nat) : Fld := ⟨AOU_CODE o, 15, 1⟩
def AOU_CODE_writer (o : Nat) : Fld := ⟨AOU_CODE o, 0, 3⟩
/-- AOU_DITHER (14 Table 14-5); output `o`, R445. -/
def AOU_DITHER (o : Nat) : Nat := 0x100002 + 0x1000 * (o / 16) + 0x10 * (o % 16)
def AOU_DITHER_amp (o : Nat) : Fld := ⟨AOU_DITHER o, 2, 15⟩
def AOU_DITHER_gen (o : Nat) : Fld := ⟨AOU_DITHER o, 0, 2⟩
/-- AOU_OSTAT (14 Table 14-5); output `o`, R445. -/
def AOU_OSTAT (o : Nat) : Nat := 0x100003 + 0x1000 * (o / 16) + 0x10 * (o % 16)
def AOU_OSTAT_dither_on (o : Nat) : Fld := ⟨AOU_OSTAT o, 4, 1⟩
def AOU_OSTAT_comp (o : Nat) : Fld := ⟨AOU_OSTAT o, 3, 1⟩
def AOU_OSTAT_ranging (o : Nat) : Fld := ⟨AOU_OSTAT o, 2, 1⟩
def AOU_OSTAT_at_safe (o : Nat) : Fld := ⟨AOU_OSTAT o, 1, 1⟩
def AOU_OSTAT_hiz (o : Nat) : Fld := ⟨AOU_OSTAT o, 0, 1⟩
/-- AOU_OLATCH (14 Table 14-5); output `o`, R445. -/
def AOU_OLATCH (o : Nat) : Nat := 0x100004 + 0x1000 * (o / 16) + 0x10 * (o % 16)
def AOU_OLATCH_ranged (o : Nat) : Fld := ⟨AOU_OLATCH o, 2, 1⟩
def AOU_OLATCH_clip (o : Nat) : Fld := ⟨AOU_OLATCH o, 1, 1⟩
def AOU_OLATCH_comp (o : Nat) : Fld := ⟨AOU_OLATCH o, 0, 1⟩
/-- AOU_GEN_INC (14 Table 14-6). -/
def AOU_GEN_INC (i : Nat) : Nat := 0x102000 + 0x10 * i
/-- AOU_GEN_PHASE (14 Table 14-6). -/
def AOU_GEN_PHASE (i : Nat) : Nat := 0x102001 + 0x10 * i
/-- AOU_GEN_TAB (14 Table 14-6). -/
def AOU_GEN_TAB (i : Nat) (j : Nat) : Nat := 0x102400 + 0x200 * i + j
/-- AOU_TBL (14 Table 14-6). -/
def AOU_TBL : Nat := 0x10F001
def AOU_TBL_declared : Fld := ⟨AOU_TBL, 0, 4⟩
/-- AOU_LATCH (14 Table 14-6). -/
def AOU_LATCH : Nat := 0x10F002
def AOU_LATCH_comp : Fld := ⟨AOU_LATCH, 0, 24⟩
/-- MCV_SEQ (15 Table 15-2). -/
def MCV_SEQ (i : Nat) (j : Nat) : Nat := 0x114000 + 0x8 * i + j
/-- MCV_TAG (15 Table 15-4). -/
def MCV_TAG (i : Nat) : Nat := 0x115000 + 0x2 * i
def MCV_TAG_seq (i : Nat) : Fld := ⟨MCV_TAG i, 16, 16⟩
def MCV_TAG_suppressed (i : Nat) : Fld := ⟨MCV_TAG i, 15, 1⟩
def MCV_TAG_quarantined (i : Nat) : Fld := ⟨MCV_TAG i, 14, 1⟩
def MCV_TAG_overrange (i : Nat) : Fld := ⟨MCV_TAG i, 13, 1⟩
def MCV_TAG_above (i : Nat) : Fld := ⟨MCV_TAG i, 12, 1⟩
def MCV_TAG_below (i : Nat) : Fld := ⟨MCV_TAG i, 11, 1⟩
def MCV_TAG_fallback (i : Nat) : Fld := ⟨MCV_TAG i, 10, 1⟩
def MCV_TAG_converter (i : Nat) : Fld := ⟨MCV_TAG i, 8, 2⟩
/-- MCV_RES (15 R474). -/
def MCV_RES (i : Nat) : Nat := 0x115001 + 0x2 * i
/-- MCV_CFG (15 Table 15-8). -/
def MCV_CFG : Nat := 0x11F001
def MCV_CFG_mains_src : Fld := ⟨MCV_CFG, 30, 2⟩
def MCV_CFG_fallback : Fld := ⟨MCV_CFG, 29, 1⟩
def MCV_CFG_tol : Fld := ⟨MCV_CFG, 0, 16⟩
/-- MCV_STATUS (15 Table 15-8). -/
def MCV_STATUS : Nat := 0x11F002
def MCV_STATUS_declared : Fld := ⟨MCV_STATUS, 31, 1⟩
def MCV_STATUS_stored : Fld := ⟨MCV_STATUS, 30, 1⟩
def MCV_STATUS_plaus : Fld := ⟨MCV_STATUS, 8, 4⟩
def MCV_STATUS_quar : Fld := ⟨MCV_STATUS, 0, 4⟩
/-- MCV_LATCH (15 Table 15-8). -/
def MCV_LATCH : Nat := 0x11F003
def MCV_LATCH_mains_lost : Fld := ⟨MCV_LATCH, 4, 1⟩
def MCV_LATCH_overrange : Fld := ⟨MCV_LATCH, 3, 1⟩
def MCV_LATCH_threshold : Fld := ⟨MCV_LATCH, 2, 1⟩
def MCV_LATCH_plaus_fail : Fld := ⟨MCV_LATCH, 1, 1⟩
def MCV_LATCH_quarantine : Fld := ⟨MCV_LATCH, 0, 1⟩
/-- MCV_CHECK_NOM (15 Table 15-8). -/
def MCV_CHECK_NOM : Nat := 0x11F004
def MCV_CHECK_NOM_nominal : Fld := ⟨MCV_CHECK_NOM, 0, 24⟩
/-- MCV_LAP (15 Table 15-8). -/
def MCV_LAP (i : Nat) : Nat := 0x11F010 + i
/-- MCV_MAINS (15 Table 15-8). -/
def MCV_MAINS : Nat := 0x116000
def MCV_MAINS_valid : Fld := ⟨MCV_MAINS, 31, 1⟩
def MCV_MAINS_fallback : Fld := ⟨MCV_MAINS, 30, 1⟩
def MCV_MAINS_period : Fld := ⟨MCV_MAINS, 0, 21⟩
/-- MCV_MAINS_T (15 Table 15-8). -/
def MCV_MAINS_T : Nat := 0x116002
/-- MCV_OVER_N (15 Table 15-9). -/
def MCV_OVER_N : Nat := 0x11F020
/-- MCV_PLAUS_FAIL (15 Table 15-9). -/
def MCV_PLAUS_FAIL : Nat := 0x11F021
/-- MCV_QUAR_N (15 Table 15-9). -/
def MCV_QUAR_N : Nat := 0x11F022
/-- MCV_MAINS_LOST (15 Table 15-9). -/
def MCV_MAINS_LOST : Nat := 0x11F023
/-- MCV_SKIP_N (15 Table 15-9). -/
def MCV_SKIP_N : Nat := 0x11F024
/-- GTH_SRC (16 Table 16-11). -/
def GTH_SRC : Nat := 0x121001
def GTH_SRC_dec : Fld := ⟨GTH_SRC, 16, 5⟩
def GTH_SRC_events : Fld := ⟨GTH_SRC, 4, 1⟩
def GTH_SRC_brc : Fld := ⟨GTH_SRC, 3, 1⟩
def GTH_SRC_mcv : Fld := ⟨GTH_SRC, 2, 1⟩
def GTH_SRC_loops : Fld := ⟨GTH_SRC, 1, 1⟩
def GTH_SRC_line : Fld := ⟨GTH_SRC, 0, 1⟩
/-- GTH_SRC_LOOPS (16 Table 16-11). -/
def GTH_SRC_LOOPS : Nat := 0x121002
/-- GTH_SRC_MCV (16 Table 16-11). -/
def GTH_SRC_MCV : Nat := 0x121003
/-- GTH_SRC_EVF (16 Table 16-11). -/
def GTH_SRC_EVF : Nat := 0x121005
def GTH_SRC_EVF_value : Fld := ⟨GTH_SRC_EVF, 16, 16⟩
def GTH_SRC_EVF_mask : Fld := ⟨GTH_SRC_EVF, 0, 16⟩
/-- GTH_CAP (16 Table 16-11). -/
def GTH_CAP : Nat := 0x121006
def GTH_CAP_segs_log2 : Fld := ⟨GTH_CAP, 26, 3⟩
def GTH_CAP_post : Fld := ⟨GTH_CAP, 0, 17⟩
/-- GTH_PRE (16 Table 16-11). -/
def GTH_PRE : Nat := 0x121007
def GTH_PRE_pre_min : Fld := ⟨GTH_PRE, 0, 17⟩
/-- GTH_HOLD (16 Table 16-11). -/
def GTH_HOLD : Nat := 0x121008
def GTH_HOLD_holdoff_n : Fld := ⟨GTH_HOLD, 16, 16⟩
def GTH_HOLD_holdoff_us : Fld := ⟨GTH_HOLD, 0, 16⟩
/-- GTH_TRIG (16 Table 16-11). -/
def GTH_TRIG : Nat := 0x121010
def GTH_TRIG_enable : Fld := ⟨GTH_TRIG, 24, 4⟩
def GTH_TRIG_dir : Fld := ⟨GTH_TRIG, 22, 2⟩
def GTH_TRIG_thr_kind : Fld := ⟨GTH_TRIG, 20, 2⟩
def GTH_TRIG_thr_sig : Fld := ⟨GTH_TRIG, 18, 2⟩
def GTH_TRIG_thr_idx : Fld := ⟨GTH_TRIG, 8, 6⟩
/-- GTH_TRIG_LVL (16 Table 16-11). -/
def GTH_TRIG_LVL : Nat := 0x121011
/-- GTH_TRIG_EVT (16 Table 16-11). -/
def GTH_TRIG_EVT : Nat := 0x121012
def GTH_TRIG_EVT_value : Fld := ⟨GTH_TRIG_EVT, 16, 16⟩
def GTH_TRIG_EVT_mask : Fld := ⟨GTH_TRIG_EVT, 0, 16⟩
/-- GTH_STATE (16 Table 16-11). -/
def GTH_STATE : Nat := 0x121020
def GTH_STATE_state : Fld := ⟨GTH_STATE, 29, 3⟩
def GTH_STATE_segment : Fld := ⟨GTH_STATE, 20, 4⟩
def GTH_STATE_written : Fld := ⟨GTH_STATE, 0, 17⟩
/-- GTH_CULLETS (16 Table 16-11). -/
def GTH_CULLETS : Nat := 0x121030
/-- GTH_DROPPED (16 Table 16-11). -/
def GTH_DROPPED : Nat := 0x121031
/-- GTH_TRIG_IGN (16 Table 16-11). -/
def GTH_TRIG_IGN : Nat := 0x121033
/-- GTH_SEG (16 Table 16-11). -/
def GTH_SEG (i : Nat) : Nat := 0x121100 + 0x4 * i
def GTH_SEG_closed (i : Nat) : Fld := ⟨GTH_SEG i, 31, 1⟩
def GTH_SEG_truncated (i : Nat) : Fld := ⟨GTH_SEG i, 30, 1⟩
def GTH_SEG_triggered (i : Nat) : Fld := ⟨GTH_SEG i, 29, 1⟩
def GTH_SEG_blocks (i : Nat) : Fld := ⟨GTH_SEG i, 0, 17⟩
/-- GTH_SEG_TRIG (16 Table 16-11). -/
def GTH_SEG_TRIG (i : Nat) : Nat := 0x121101 + 0x4 * i
def GTH_SEG_TRIG_trig (i : Nat) : Fld := ⟨GTH_SEG_TRIG i, 0, 17⟩
/-- GTH_SEG_T (16 Table 16-11). -/
def GTH_SEG_T (i : Nat) : Nat := 0x121102 + 0x4 * i
/-- GTH_SLOTS (16 Table 16-11). -/
def GTH_SLOTS (i : Nat) : Nat := 0x122000 + 0x2 * i
/-- GTH_MARK_START (16 Table 16-11). -/
def GTH_MARK_START (i : Nat) : Nat := 0x122004 + 0x4 * i
/-- GTH_MARK_STOP (16 Table 16-11). -/
def GTH_MARK_STOP (i : Nat) : Nat := 0x122006 + 0x4 * i
/-- GTH_PMC_CFG (16 Table 16-11). -/
def GTH_PMC_CFG (i : Nat) : Nat := 0x122010 + 0x4 * i
def GTH_PMC_CFG_run (i : Nat) : Fld := ⟨GTH_PMC_CFG i, 31, 1⟩
def GTH_PMC_CFG_ovf_evt (i : Nat) : Fld := ⟨GTH_PMC_CFG i, 30, 1⟩
def GTH_PMC_CFG_event (i : Nat) : Fld := ⟨GTH_PMC_CFG i, 0, 12⟩
/-- GTH_PMC (16 Table 16-11). -/
def GTH_PMC (i : Nat) : Nat := 0x122011 + 0x4 * i
/-- GTH_CNT_CFG (16 Table 16-11). -/
def GTH_CNT_CFG : Nat := 0x12F001
def GTH_CNT_CFG_obs : Fld := ⟨GTH_CNT_CFG, 0, 1⟩
/-- MEM_STATUS (17 Table 17-7). -/
def MEM_STATUS : Nat := 0x0CF001
def MEM_STATUS_spares_out : Fld := ⟨MEM_STATUS, 0, 1⟩
/-- MEM_DECL (17 Table 17-7). -/
def MEM_DECL (i : Nat) : Nat := 0x0CF002 + i
/-- MEM_LAP (17 Table 17-7). -/
def MEM_LAP (i : Nat) : Nat := 0x0C4000 + i
/-- MEM_LAP_THR (17 Table 17-7). -/
def MEM_LAP_THR (i : Nat) : Nat := 0x0C4008 + i
def MEM_LAP_THR_ms (i : Nat) : Fld := ⟨MEM_LAP_THR i, 0, 16⟩
/-- MEM_CORR (17 Table 17-8). -/
def MEM_CORR (i : Nat) : Nat := 0x0C4010 + i
/-- MEM_UNCORR (17 Table 17-8). -/
def MEM_UNCORR (i : Nat) : Nat := 0x0C4020 + i
/-- MEM_PREINIT (17 Table 17-8). -/
def MEM_PREINIT (i : Nat) : Nat := 0x0C4030 + i
/-- PWR_DOM (18 Table 18-10). -/
def PWR_DOM (i : Nat) : Nat := 0x023000 + i
def PWR_DOM_state (i : Nat) : Fld := ⟨PWR_DOM i, 29, 3⟩
def PWR_DOM_fenced (i : Nat) : Fld := ⟨PWR_DOM i, 28, 1⟩
def PWR_DOM_fence_by (i : Nat) : Fld := ⟨PWR_DOM i, 26, 2⟩
def PWR_DOM_analog (i : Nat) : Fld := ⟨PWR_DOM i, 25, 1⟩
def PWR_DOM_failures (i : Nat) : Fld := ⟨PWR_DOM i, 20, 4⟩
def PWR_DOM_ignored (i : Nat) : Fld := ⟨PWR_DOM i, 16, 4⟩
def PWR_DOM_wake_us (i : Nat) : Fld := ⟨PWR_DOM i, 0, 16⟩
/-- PWR_LEHR (18 Table 18-10). -/
def PWR_LEHR : Nat := 0x024000
def PWR_LEHR_state : Fld := ⟨PWR_LEHR, 29, 3⟩
def PWR_LEHR_region : Fld := ⟨PWR_LEHR, 21, 8⟩
def PWR_LEHR_abort : Fld := ⟨PWR_LEHR, 8, 8⟩
def PWR_LEHR_result : Fld := ⟨PWR_LEHR, 0, 8⟩
/-- PWR_CFG (18 Table 18-10). -/
def PWR_CFG : Nat := 0x02F001
def PWR_CFG_quick_en : Fld := ⟨PWR_CFG, 0, 1⟩
/-- PWR_START (18 Table 18-10). -/
def PWR_START : Nat := 0x02F002
def PWR_START_kind : Fld := ⟨PWR_START, 28, 4⟩
def PWR_START_reason : Fld := ⟨PWR_START, 24, 4⟩
def PWR_START_aon_fail : Fld := ⟨PWR_START, 23, 1⟩
def PWR_START_ms : Fld := ⟨PWR_START, 0, 16⟩
/-- EVR_CFG (19 Table 19-11a). -/
def EVR_CFG : Nat := 0x13F001
def EVR_CFG_merge_ms : Fld := ⟨EVR_CFG, 16, 16⟩
def EVR_CFG_snap_int : Fld := ⟨EVR_CFG, 0, 1⟩
/-- EVR_STATUS (19 Table 19-11a). -/
def EVR_STATUS : Nat := 0x13F002
def EVR_STATUS_staged : Fld := ⟨EVR_STATUS, 16, 16⟩
def EVR_STATUS_ring_wrapped : Fld := ⟨EVR_STATUS, 1, 1⟩
def EVR_STATUS_commit_pending : Fld := ⟨EVR_STATUS, 0, 1⟩
/-- EVR_OPTIME (19 Table 19-11a). -/
def EVR_OPTIME : Nat := 0x13F004
/-- EVR_PCC (19 Table 19-11a). -/
def EVR_PCC : Nat := 0x13F006
/-- EVR_INT_MATCH (19 Table 19-11a). -/
def EVR_INT_MATCH (i : Nat) : Nat := 0x13F010 + i
def EVR_INT_MATCH_value (i : Nat) : Fld := ⟨EVR_INT_MATCH i, 16, 16⟩
def EVR_INT_MATCH_mask (i : Nat) : Fld := ⟨EVR_INT_MATCH i, 0, 16⟩
/-- EVR_LOST (19 Table 19-11a). -/
def EVR_LOST : Nat := 0x13F020
/-- EVR_COMMITS (19 Table 19-11a). -/
def EVR_COMMITS : Nat := 0x13F021
/-- EVR_NV_BAD (19 Table 19-11a). -/
def EVR_NV_BAD : Nat := 0x13F022
/-- EVR_SNAP_CODE (19 Table 19-11a). -/
def EVR_SNAP_CODE (i : Nat) : Nat := 0x13F100 + 0x20 * i
def EVR_SNAP_CODE_value (i : Nat) : Fld := ⟨EVR_SNAP_CODE i, 16, 16⟩
def EVR_SNAP_CODE_mask (i : Nat) : Fld := ⟨EVR_SNAP_CODE i, 0, 16⟩
/-- EVR_SNAP_ADDR (19 Table 19-11a). -/
def EVR_SNAP_ADDR (i : Nat) (j : Nat) : Nat := 0x13F101 + 0x20 * i + j
/-- EVR_SNAP_COUNT (19 Table 19-11a). -/
def EVR_SNAP_COUNT (i : Nat) : Nat := 0x13F111 + 0x20 * i
def EVR_SNAP_COUNT_count (i : Nat) : Fld := ⟨EVR_SNAP_COUNT i, 0, 5⟩
/-- SEC_FW (19 Table 19-11a). -/
def SEC_FW : Nat := 0x01F001
def SEC_FW_recovery : Fld := ⟨SEC_FW, 31, 1⟩
def SEC_FW_trial : Fld := ⟨SEC_FW, 30, 1⟩
def SEC_FW_cosign_req : Fld := ⟨SEC_FW, 29, 1⟩
def SEC_FW_debug_unlocked : Fld := ⟨SEC_FW, 28, 1⟩
def SEC_FW_active : Fld := ⟨SEC_FW, 27, 1⟩
def SEC_FW_rollback : Fld := ⟨SEC_FW, 0, 12⟩
/-- SEC_FW_VER (19 Table 19-11a). -/
def SEC_FW_VER : Nat := 0x01F002
/-- SEC_CFG (19 Table 19-11a). -/
def SEC_CFG : Nat := 0x01F003
def SEC_CFG_trial_s : Fld := ⟨SEC_CFG, 16, 16⟩
def SEC_CFG_remaining : Fld := ⟨SEC_CFG, 0, 16⟩
/-- PWR_REF (20 Table 20-3). -/
def PWR_REF (i : Nat) : Nat := 0x020010 + i
def PWR_REF_present (i : Nat) : Fld := ⟨PWR_REF i, 31, 1⟩
def PWR_REF_accepted (i : Nat) : Fld := ⟨PWR_REF i, 30, 1⟩
def PWR_REF_offset (i : Nat) : Fld := ⟨PWR_REF i, 0, 16⟩
/-- PWR_SUPPLY (20 Table 20-3). -/
def PWR_SUPPLY (i : Nat) : Nat := 0x020020 + i
def PWR_SUPPLY_in_window (i : Nat) : Fld := ⟨PWR_SUPPLY i, 31, 1⟩
def PWR_SUPPLY_voltage (i : Nat) : Fld := ⟨PWR_SUPPLY i, 0, 16⟩
/-- CLE_COEF (13 Table 13-7). -/
def CLE_COEF (i : Nat) (j : Nat) : Nat := 0x0F1000 + 0x10 * i + j
/-- CLE_REP (13 R435). -/
def CLE_REP (i : Nat) (j : Nat) : Nat := 0x0F2000 + 0x100 * i + j

end Reg

/-- MNEMONIC_ID (R16, Tables 00-2, 01-1 and 01-2): identifier, the implemented units 0 to 7, units 8 to 15, revision 1. -/
def unitMask : List Nat :=
  [0x801F, 0x800F, 0x803F, 0x80FF, 0x80FF, 0x8003, 0x8007, 0x800F, 0x800F, 0x800F,
   0x801F, 0x800F, 0x801F, 0xBFFF, 0x807F, 0x800F, 0x8007, 0x807F, 0x8007, 0x800F]

def idWord (ss : Nat) : Nat :=
  let m := unitMask.getD ss 0
  ss * 2^24 + (m % 256) * 2^16 + (m / 256) * 2^8 + 1

/-- PWR_OP_TABLE0 to 3 (Tables 03-1 and 03-6): guaranteed and measured pace in per mille, VCORE in mV. -/
def opGuaranteed (op : Nat) : Nat := [1000, 880, 700, 450].getD op 0
def opVcore (op : Nat) : Nat := [800, 720, 650, 580].getD op 0
def opTableWord (op : Nat) : Nat :=
  opGuaranteed op * 2^22 + ((Config.measuredPace op).toNat % 1024) * 2^12 + opVcore op

/-- HPC_PORTp at cold start (Table 07-5). -/
def hpcPortWord (p : Nat) : Nat :=
  (if p < 2 then 2^31 else 0) + 3 * 2^24 + (if p = 1 then 8 * 2^16 else 0) + (p % 2) * 2^8

/-- Part 0 of the register tables. -/
def regTable0 : List RegDesc := [
  ⟨"ID", 0x00F000, [(0x10000, 20)], fun l => idWord (l.headD 0), 0x0, 0x0, 0x0, false, false⟩,
  ⟨"CMD_INT_STATUS", 0x00F002, [], fun _ => 0x0, 0x0, 0x3A, 0x0, false, false⟩,
  ⟨"CMD_CFG", 0x00F001, [], fun _ => 0x88B50000, 0x4, 0x0, 0x4, false, false⟩,
  ⟨"CMD_INT_MASK", 0x00F003, [], fun _ => 0x2D, 0x3F, 0x0, 0x0, false, false⟩,
  ⟨"TDS_PACE", 0x0AF001, [], fun _ => 0x3E83E8, 0x0, 0x0, 0x0, false, false⟩,
  ⟨"TDS_GPACE", 0x0AF007, [], fun _ => 0x3E803E8, 0x0, 0x0, 0x0, false, false⟩,
  ⟨"PWR_OP_STATUS", 0x022000, [], fun _ => 0x3200000, 0x0, 0x0, 0x0, false, false⟩,
  ⟨"PWR_OP_TABLE", 0x022010, [(0x1, 4)], fun l => opTableWord (l.headD 0), 0x0, 0x0, 0x0, false, false⟩,
  ⟨"PWR_SPD_CFG", 0x021000, [], fun _ => 0x280A50, 0x0, 0x0, 0x0, false, false⟩,
  ⟨"PWR_SPD_STATUS", 0x021001, [], fun _ => 0x0, 0x0, 0x0, 0x0, false, false⟩,
  ⟨"PWR_SPD_LATCH", 0x021002, [], fun _ => 0x0, 0x0, 0xC007FFFF, 0x0, false, false⟩,
  ⟨"PWR_SPD_MARGIN", 0x021010, [(0x1, 19)], fun _ => 0x3FF0000, 0x0, 0x0, 0x0, false, false⟩,
  ⟨"PWR_DTIME", 0x025000, [], fun _ => 0x0, 0x0, 0x0, 0x0, false, true⟩,
  ⟨"PWR_DTIME_LO", 0x025001, [], fun _ => 0, 0x0, 0x0, 0x0, false, false⟩,
  ⟨"PWR_DTIME_SRC", 0x025002, [], fun _ => 0x0, 0x0, 0x0, 0x0, false, false⟩,
  ⟨"PWR_PEER_OFS", 0x025010, [(0x2, 2)], fun _ => 0x0, 0x0, 0x0, 0x0, false, true⟩,
  ⟨"PWR_PEER_OFS_LO", 0x025011, [(0x2, 2)], fun _ => 0, 0x0, 0x0, 0x0, false, false⟩,
  ⟨"PWR_PATH_DLY", 0x025014, [(0x1, 2)], fun _ => 0x0, 0x0, 0x0, 0x0, false, false⟩,
  ⟨"PWR_PEER_VALID", 0x025016, [], fun _ => 0x0, 0x0, 0x0, 0x0, false, false⟩,
  ⟨"PWR_ASYM", 0x025018, [(0x1, 2)], fun _ => 0x0, 0xFFFFFFFF, 0x0, 0x0, false, false⟩,
  ⟨"LTX_CFG", 0x030001, [(0x1000, 8)], fun _ => 0xA00, 0xF06, 0x0, 0x0, false, false⟩,
  ⟨"LTX_STATUS", 0x030002, [(0x1000, 8)], fun _ => 0x2, 0x0, 0x20, 0x0, false, false⟩,
  ⟨"LTX_TAPS", 0x030010, [(0x1000, 8), (0x1, 2)], fun l => tapsWord (factoryBody (l.headD 0) 0) (l.getD 1 0), 0x0, 0x0, 0x0, false, false⟩,
  ⟨"LTX_LEVELS", 0x030012, [(0x1000, 8)], fun _ => 0x5555, 0xFFFF, 0x0, 0x0, false, false⟩,
  ⟨"LTX_PD", 0x030020, [(0x1000, 8), (0x1, 16)], fun _ => 0x0, 0xFFFFFFFF, 0x0, 0x0, false, false⟩,
  ⟨"LRX_CFG", 0x040001, [(0x1000, 8)], fun _ => 0x228640A, 0xFFFFFEFF, 0x0, 0x0, false, false⟩,
  ⟨"LRX_ADAPT", 0x040002, [(0x1000, 8)], fun _ => 0x6200, 0xFF3F, 0x0, 0x0, false, false⟩,
  ⟨"LRX_STATUS", 0x040003, [(0x1000, 8)], fun _ => 0x1, 0x0, 0x0, 0x0, false, false⟩,
  ⟨"LRX_LATCH", 0x040004, [(0x1000, 8)], fun _ => 0x0, 0x0, 0xF, 0x0, false, false⟩,
  ⟨"LRX_ALARM", 0x040005, [(0x1000, 8)], fun _ => 0x5, 0x7FF, 0x0, 0x0, false, false⟩,
  ⟨"LRX_MEAS", 0x040010, [(0x1000, 8)], fun _ => 0x0, 0x0, 0x0, 0x0, false, false⟩,
  ⟨"LRX_PREFEC", 0x040011, [(0x1000, 8)], fun _ => 0xFA24, 0x0, 0x0, 0x0, false, false⟩,
  ⟨"LRX_FREQ", 0x040012, [(0x1000, 8)], fun _ => 0x0, 0x0, 0x0, 0x0, false, false⟩,
  ⟨"LRX_BITS", 0x040020, [(0x1000, 8)], fun _ => 0x0, 0x0, 0x0, 0x0, false, true⟩,
  ⟨"LRX_BITS_LO", 0x040021, [(0x1000, 8)], fun _ => 0, 0x0, 0x0, 0x0, false, false⟩,
  ⟨"LRX_CORR", 0x040022, [(0x1000, 8)], fun _ => 0x0, 0x0, 0x0, 0x0, false, true⟩,
  ⟨"LRX_CORR_LO", 0x040023, [(0x1000, 8)], fun _ => 0, 0x0, 0x0, 0x0, false, false⟩,
  ⟨"LRX_UNCORR", 0x040024, [(0x1000, 8)], fun _ => 0x0, 0x0, 0x0, 0x0, false, false⟩,
  ⟨"LRX_FFE", 0x040100, [(0x1000, 8), (0x1, 48)], fun l => ffeWord (factoryBody (l.headD 0) 0) 12 (l.getD 1 0), 0x0, 0x0, 0x0, false, false⟩,
  ⟨"LRX_RSSE", 0x040130, [(0x1000, 8)], fun l => rsseWord (factoryBody (l.headD 0) 0), 0x0, 0x0, 0x0, false, false⟩]

/-- Part 1 of the register tables. -/
def regTable1 : List RegDesc := [
  ⟨"LRX_AFE", 0x040131, [(0x1000, 8)], fun l => afeWord (factoryBody (l.headD 0) 0), 0x0, 0x0, 0x0, false, false⟩,
  ⟨"LRX_HIST", 0x040800, [(0x1000, 8), (0x1, 256)], fun _ => 0x0, 0x0, 0x0, 0x0, false, false⟩,
  ⟨"LRX_GTH_SEL", 0x04F001, [], fun _ => 0x0, 0x0, 0x0, 0x0, false, false⟩,
  ⟨"LRX_REF_SNR", 0x04F002, [], fun _ => 0x962308C, 0x3FFFFFFF, 0x0, 0x0, false, false⟩,
  ⟨"LFM_CFG", 0x050001, [(0x1000, 2)], fun _ => 0xA0000, 0x0, 0x0, 0x0, false, false⟩,
  ⟨"LFM_STATUS", 0x050002, [(0x1000, 2)], fun _ => 0xC0000000, 0x0, 0x0, 0x0, false, false⟩,
  ⟨"LFM_LATCH", 0x050003, [(0x1000, 2)], fun _ => 0x0, 0x0, 0x1F, 0x0, false, false⟩,
  ⟨"LFM_FRAMES", 0x050010, [(0x1000, 2)], fun _ => 0x0, 0x0, 0x0, 0x0, false, true⟩,
  ⟨"LFM_FRAMES_LO", 0x050011, [(0x1000, 2)], fun _ => 0, 0x0, 0x0, 0x0, false, false⟩,
  ⟨"LFM_SKEW", 0x050012, [(0x1000, 2)], fun _ => 0x0, 0x0, 0x0, 0x0, false, false⟩,
  ⟨"LFM_HDR_ERR", 0x050020, [(0x1000, 2)], fun _ => 0x0, 0x0, 0x0, 0x0, false, false⟩,
  ⟨"LFM_OAM_ERR", 0x050021, [(0x1000, 2)], fun _ => 0x0, 0x0, 0x0, 0x0, false, false⟩,
  ⟨"LFM_STUFF_TX", 0x050022, [(0x1000, 2)], fun _ => 0x0, 0x0, 0x0, 0x0, false, false⟩,
  ⟨"LFM_STUFF_RX", 0x050023, [(0x1000, 2)], fun _ => 0x0, 0x0, 0x0, 0x0, false, false⟩,
  ⟨"LFM_STUFF_ERR", 0x050024, [(0x1000, 2)], fun _ => 0x0, 0x0, 0x0, 0x0, false, false⟩,
  ⟨"LFM_STUFF_OVER", 0x050025, [(0x1000, 2)], fun _ => 0x0, 0x0, 0x0, 0x0, false, false⟩,
  ⟨"LFM_BE_GAP", 0x050026, [(0x1000, 2)], fun _ => 0x0, 0x0, 0x0, 0x0, false, false⟩,
  ⟨"LFM_AM_MISS", 0x050027, [(0x1000, 2)], fun _ => 0x0, 0x0, 0x0, 0x0, false, false⟩,
  ⟨"LNK_TAG", 0x06F001, [], fun _ => ownTag, 0x0, 0x0, 0x0, false, false⟩,
  ⟨"LNK_CFG", 0x06F010, [(0x1, 2)], fun _ => 0x30B, 0x0, 0x0, 0x0, false, false⟩,
  ⟨"LNK_WAKE_CFG", 0x06F012, [], fun _ => 0x0, 0x0, 0x0, 0x0, false, false⟩,
  ⟨"LNK_WAKE_STATUS", 0x06F013, [], fun _ => 0x0, 0x0, 0x3, 0x0, false, false⟩,
  ⟨"LNK_STATUS", 0x060002, [(0x1000, 2)], fun _ => 0x3, 0x0, 0x0, 0x0, false, false⟩,
  ⟨"LNK_LATCH", 0x060003, [(0x1000, 2)], fun _ => 0x0, 0x0, 0x1F, 0x0, false, false⟩,
  ⟨"LNK_PEER", 0x060004, [(0x1000, 2)], fun _ => 0x0, 0x0, 0x0, 0x0, false, false⟩,
  ⟨"LNK_PEER_INFO", 0x060005, [(0x1000, 2)], fun _ => 0x0, 0x0, 0x0, 0x0, false, false⟩,
  ⟨"LNK_LSTAGE", 0x060006, [(0x1000, 2)], fun _ => 0x0, 0x0, 0x0, 0x0, false, false⟩,
  ⟨"LNK_T_P2", 0x060010, [(0x1000, 2)], fun _ => 0x0, 0x0, 0x0, 0x0, false, false⟩,
  ⟨"LNK_C_UP", 0x060011, [(0x1000, 2)], fun _ => 0x0, 0x0, 0x0, 0x0, false, false⟩,
  ⟨"LNK_C_FAIL", 0x060012, [(0x1000, 2)], fun _ => 0x0, 0x0, 0x0, 0x0, false, false⟩,
  ⟨"LNK_SPROUT_ERR", 0x060013, [(0x1000, 2)], fun _ => 0x0, 0x0, 0x0, 0x0, false, false⟩,
  ⟨"HSL_TXEQ", 0x070010, [(0x1000, 4), (0x1, 4)], fun _ => 0x1000, 0x0, 0x0, 0x0, false, false⟩,
  ⟨"HSL_STATUS", 0x070020, [(0x1000, 4), (0x1, 4)], fun _ => 0x14, 0x0, 0x0, 0x0, false, false⟩,
  ⟨"HSL_CFG", 0x07F001, [], fun _ => 0x1, 0x0, 0x0, 0x0, false, false⟩,
  ⟨"HPC_PORT", 0x08F010, [(0x1, 8)], fun l => hpcPortWord (l.headD 0), 0x0, 0x0, 0x0, false, false⟩,
  ⟨"HPC_PORT_STATUS", 0x08F020, [(0x1, 8)], fun _ => 0x0, 0x0, 0xC, 0x0, false, false⟩,
  ⟨"HPC_PTP_CFG", 0x08F001, [], fun _ => 0xFF, 0x0, 0x0, 0x0, false, false⟩,
  ⟨"HPC_RX_FRAMES", 0x08F100, [(0x10, 8)], fun _ => 0x0, 0x0, 0x0, 0x0, false, true⟩,
  ⟨"HPC_RX_FRAMES_LO", 0x08F101, [(0x10, 8)], fun _ => 0, 0x0, 0x0, 0x0, false, false⟩,
  ⟨"HPC_TX_FRAMES", 0x08F102, [(0x10, 8)], fun _ => 0x0, 0x0, 0x0, 0x0, false, true⟩]

/-- Part 2 of the register tables. -/
def regTable2 : List RegDesc := [
  ⟨"HPC_TX_FRAMES_LO", 0x08F103, [(0x10, 8)], fun _ => 0, 0x0, 0x0, 0x0, false, false⟩,
  ⟨"HPC_RX_FCS_ERR", 0x08F104, [(0x10, 8)], fun _ => 0x0, 0x0, 0x0, 0x0, false, false⟩,
  ⟨"HPC_RX_DROP", 0x08F105, [(0x10, 8)], fun _ => 0x0, 0x0, 0x0, 0x0, false, false⟩,
  ⟨"HPC_FEC_CORR", 0x08F106, [(0x10, 8)], fun _ => 0x0, 0x0, 0x0, 0x0, false, false⟩,
  ⟨"HPC_FEC_UNCORR", 0x08F107, [(0x10, 8)], fun _ => 0x0, 0x0, 0x0, 0x0, false, false⟩,
  ⟨"HPC_PTP_CORR", 0x08F108, [(0x10, 8)], fun _ => 0x0, 0x0, 0x0, 0x0, false, false⟩,
  ⟨"HPC_PORT_MISS", 0x08F109, [(0x10, 8)], fun _ => 0x0, 0x0, 0x0, 0x0, false, false⟩,
  ⟨"FLW_STATUS", 0x09F001, [], fun _ => 0x0, 0x0, 0x0, 0x0, false, false⟩,
  ⟨"FLW_CTX", 0x09F002, [], fun _ => 0x0, 0x0, 0x0, 0x0, false, false⟩,
  ⟨"FLW_STASH", 0x09F003, [], fun _ => 0x0, 0x0, 0x0, 0x0, false, false⟩,
  ⟨"FLW_CHAIN", 0x09F004, [], fun _ => 0x0, 0x0, 0x0, 0x0, false, false⟩,
  ⟨"FLW_COOL", 0x09F005, [], fun _ => 0x0, 0x0, 0x0, 0x0, false, false⟩,
  ⟨"FLW_HIT", 0x09F010, [], fun _ => 0x0, 0x0, 0x0, 0x0, false, true⟩,
  ⟨"FLW_HIT_LO", 0x09F011, [], fun _ => 0, 0x0, 0x0, 0x0, false, false⟩,
  ⟨"FLW_MISS", 0x09F012, [], fun _ => 0x0, 0x0, 0x0, 0x0, false, true⟩,
  ⟨"FLW_MISS_LO", 0x09F013, [], fun _ => 0, 0x0, 0x0, 0x0, false, false⟩,
  ⟨"FLW_UNADMIT", 0x09F014, [], fun _ => 0x0, 0x0, 0x0, 0x0, false, false⟩,
  ⟨"FLW_QUAR_DROP", 0x09F015, [], fun _ => 0x0, 0x0, 0x0, 0x0, false, false⟩,
  ⟨"FLW_RX_UNKNOWN", 0x09F016, [], fun _ => 0x0, 0x0, 0x0, 0x0, false, false⟩,
  ⟨"FLW_CONFLICT", 0x09F017, [], fun _ => 0x0, 0x0, 0x0, 0x0, false, false⟩,
  ⟨"TDS_CFG", 0x0AF002, [], fun _ => 0x3007D, 0x0, 0x0, 0x0, false, false⟩,
  ⟨"TDS_DELAY", 0x0AF003, [], fun _ => 0x3D090, 0x0, 0x0, 0x0, false, false⟩,
  ⟨"TDS_BUF", 0x0AF004, [], fun _ => 0x19702590, 0x0, 0x0, 0x0, false, false⟩,
  ⟨"TDS_STATUS", 0x0AF005, [], fun _ => 0x0, 0x0, 0x0, 0x0, false, false⟩,
  ⟨"TDS_LATCH", 0x0AF006, [], fun _ => 0x0, 0x0, 0x3F, 0x0, false, false⟩,
  ⟨"TDS_DEM_OWN", 0x0AF010, [(0x1, 2)], fun _ => 0x0, 0x0, 0x0, 0x0, false, false⟩,
  ⟨"TDS_DEM_SB", 0x0AF012, [(0x1, 2)], fun _ => 0x0, 0x0, 0x0, 0x0, false, false⟩,
  ⟨"TDS_LIMIT", 0x0AF014, [(0x1, 2)], fun _ => 0x0, 0x0, 0x0, 0x0, false, false⟩,
  ⟨"TDS_FLOWS", 0x0AF016, [], fun _ => 0x0, 0x0, 0x0, 0x0, false, false⟩,
  ⟨"TDS_SKEW_USE", 0x0AF017, [], fun _ => 0x0, 0x0, 0x0, 0x0, false, false⟩,
  ⟨"TDS_UNPROM", 0x0AF020, [], fun _ => 0x0, 0x0, 0x0, 0x0, false, true⟩,
  ⟨"TDS_UNPROM_LO", 0x0AF021, [], fun _ => 0, 0x0, 0x0, 0x0, false, false⟩,
  ⟨"TDS_LATE_C_TX", 0x0AF022, [], fun _ => 0x0, 0x0, 0x0, 0x0, false, false⟩,
  ⟨"TDS_LATE_C_RX", 0x0AF023, [], fun _ => 0x0, 0x0, 0x0, 0x0, false, false⟩,
  ⟨"TDS_LATE_B", 0x0AF024, [], fun _ => 0x0, 0x0, 0x0, 0x0, false, false⟩,
  ⟨"TDS_POL_DEMOTE", 0x0AF025, [], fun _ => 0x0, 0x0, 0x0, 0x0, false, false⟩,
  ⟨"TDS_POL_DROP", 0x0AF026, [], fun _ => 0x0, 0x0, 0x0, 0x0, false, false⟩,
  ⟨"TDS_NOPATH", 0x0AF027, [], fun _ => 0x0, 0x0, 0x0, 0x0, false, false⟩,
  ⟨"TDS_STORE_DROP", 0x0AF028, [], fun _ => 0x0, 0x0, 0x0, 0x0, false, false⟩,
  ⟨"TDS_BE_DROP", 0x0AF029, [], fun _ => 0x0, 0x0, 0x0, 0x0, false, false⟩]

/-- Part 3 of the register tables. -/
def regTable3 : List RegDesc := [
  ⟨"TDS_DISPLACED", 0x0AF02A, [], fun _ => 0x0, 0x0, 0x0, 0x0, false, false⟩,
  ⟨"RDN_CFG", 0x0BF001, [], fun _ => 0xA320401, 0x0, 0x0, 0x0, false, false⟩,
  ⟨"RDN_STATUS", 0x0BF002, [], fun _ => 0x0, 0x0, 0x0, 0x0, false, false⟩,
  ⟨"RDN_LATCH", 0x0BF003, [], fun _ => 0x0, 0x0, 0x1F, 0x0, false, false⟩,
  ⟨"RDN_ELIM", 0x0BF010, [], fun _ => 0x0, 0x0, 0x0, 0x0, false, true⟩,
  ⟨"RDN_ELIM_LO", 0x0BF011, [], fun _ => 0, 0x0, 0x0, 0x0, false, false⟩,
  ⟨"RDN_OLD", 0x0BF012, [], fun _ => 0x0, 0x0, 0x0, 0x0, false, false⟩,
  ⟨"RDN_FRAME_LOST", 0x0BF013, [], fun _ => 0x0, 0x0, 0x0, 0x0, false, false⟩,
  ⟨"RDN_SHED", 0x0BF014, [], fun _ => 0x0, 0x0, 0x0, 0x0, false, false⟩,
  ⟨"RDN_JOIN", 0x0BF015, [], fun _ => 0x0, 0x0, 0x0, 0x0, false, false⟩,
  ⟨"RDN_REROUTE", 0x0BF016, [], fun _ => 0x0, 0x0, 0x0, 0x0, false, false⟩,
  ⟨"RDN_ADOPT", 0x0BF017, [], fun _ => 0x0, 0x0, 0x0, 0x0, false, false⟩,
  ⟨"RDN_NOACK", 0x0BF018, [], fun _ => 0x0, 0x0, 0x0, 0x0, false, false⟩,
  ⟨"FES_MAP0", 0x0D0001, [(0x1000, 12)], fun _ => 0xFFFFFFFF, 0x0, 0x0, 0x0, false, false⟩,
  ⟨"FES_MAP1", 0x0D0002, [(0x1000, 12)], fun _ => 0xFFFF0A08, 0x0, 0x0, 0x0, false, false⟩,
  ⟨"FES_MAP2", 0x0D0003, [(0x1000, 12)], fun _ => 0x0, 0x0, 0x0, 0x0, false, false⟩,
  ⟨"FES_MAP3", 0x0D0007, [(0x1000, 12)], fun _ => 0xFFFF0000, 0x0, 0x0, 0x0, false, false⟩,
  ⟨"FES_STATE", 0x0D0004, [(0x1000, 12)], fun _ => 0x3800000, 0x0, 0x0, 0x0, false, false⟩,
  ⟨"FES_LATCH", 0x0D0005, [(0x1000, 12)], fun _ => 0x0, 0x0, 0x1F, 0x0, false, false⟩,
  ⟨"FES_SETTLE", 0x0D0006, [(0x1000, 12)], fun _ => 0x0, 0x0, 0x0, 0x0, false, false⟩,
  ⟨"FES_TURN_T", 0x0D0008, [(0x1000, 12)], fun _ => 0x0, 0x0, 0x0, 0x0, false, true⟩,
  ⟨"FES_TURN_T_LO", 0x0D0009, [(0x1000, 12)], fun _ => 0, 0x0, 0x0, 0x0, false, false⟩,
  ⟨"FES_STEPTAB", 0x0D0100, [(0x1000, 12), (0x1, 64)], fun _ => 0, 0xFFFFFFFF, 0x0, 0x0, true, false⟩,
  ⟨"FES_SPI_CFG", 0x0DD010, [(0x1, 8)], fun _ => 0x3100, 0xFF03, 0x0, 0x0, false, false⟩,
  ⟨"FES_CFG", 0x0DF001, [], fun _ => 0x7D0000A, 0xFFFF03FF, 0x0, 0x0, false, false⟩,
  ⟨"FES_TBL", 0x0DF002, [], fun _ => 0x0, 0x0, 0x0, 0x0, false, false⟩,
  ⟨"BRC_CFG", 0x0EF001, [], fun _ => 0xF8819018, 0x0, 0x0, 0x0, false, false⟩,
  ⟨"BRC_APR", 0x0EF002, [], fun _ => 0x3E80000, 0x0, 0x0, 0x0, false, false⟩,
  ⟨"BRC_PILOT", 0x0EF003, [(0x1, 2)], fun l => if l.headD 0 = 0 then 0x15F91117 else 0x1FBD1ADB, 0x0, 0x0, 0x0, false, false⟩,
  ⟨"BRC_QUIET", 0x0EF005, [], fun _ => 0x0, 0x0, 0x0, 0x0, false, false⟩,
  ⟨"BRC_CAL", 0x0E4010, [(0x1, 8)], fun _ => 0x3E80000, 0x0, 0x0, 0x0, false, false⟩,
  ⟨"BRC_COEX_CFG", 0x0E6001, [], fun _ => 0x3C0A00, 0x0, 0x0, 0x0, false, false⟩,
  ⟨"BRC_COEX_STATUS", 0x0E6002, [], fun _ => 0x0, 0x0, 0x0, 0x0, false, false⟩,
  ⟨"BRC_SCFG", 0x0E0001, [(0x1000, 4)], fun _ => 0x5DCF448, 0x0, 0x0, 0x0, false, false⟩,
  ⟨"BRC_SSEL", 0x0E0002, [(0x1000, 4)], fun l => (l.headD 0 % 2) * 16, 0x0, 0x0, 0x0, false, false⟩,
  ⟨"BRC_SSTAT", 0x0E0003, [(0x1000, 4)], fun _ => 0x7C12000, 0x0, 0x0, 0x0, false, false⟩,
  ⟨"BRC_EST", 0x0E0004, [(0x1000, 4)], fun _ => 0xED480000, 0x0, 0x0, 0x0, false, false⟩,
  ⟨"BRC_PWR", 0x0E0005, [(0x1000, 4)], fun _ => 0xEC78EC78, 0x0, 0x0, 0x0, false, false⟩,
  ⟨"BRC_SLATCH", 0x0E0006, [(0x1000, 4)], fun _ => 0x0, 0x0, 0x7F, 0x0, false, false⟩,
  ⟨"BRC_TRIPS", 0x0EF010, [], fun _ => 0x0, 0x0, 0x0, 0x0, false, false⟩]

/-- Part 4 of the register tables. -/
def regTable4 : List RegDesc := [
  ⟨"BRC_RUNAWAY", 0x0EF011, [], fun _ => 0x0, 0x0, 0x0, 0x0, false, false⟩,
  ⟨"BRC_APR_N", 0x0EF012, [], fun _ => 0x0, 0x0, 0x0, 0x0, false, false⟩,
  ⟨"BRC_QUIET_N", 0x0EF013, [], fun _ => 0x0, 0x0, 0x0, 0x0, false, false⟩,
  ⟨"BRC_GRANTS", 0x0EF014, [], fun _ => 0x0, 0x0, 0x0, 0x0, false, false⟩,
  ⟨"BRC_STUCK", 0x0EF015, [], fun _ => 0x0, 0x0, 0x0, 0x0, false, false⟩,
  ⟨"CLE_CFG", 0x0F0000, [(0x10, 32)], fun _ => 0x0, 0x0, 0x0, 0x0, false, false⟩,
  ⟨"CLE_PERIOD", 0x0F0001, [(0x10, 32)], fun _ => 0x3E8, 0x0, 0x0, 0x0, false, false⟩,
  ⟨"CLE_SETPT", 0x0F0002, [(0x10, 32)], fun _ => 0x0, 0x0, 0x0, 0x0, false, false⟩,
  ⟨"CLE_MANUAL", 0x0F0003, [(0x10, 32)], fun _ => 0x0, 0x0, 0x0, 0x0, false, false⟩,
  ⟨"CLE_X", 0x0F0005, [(0x10, 32)], fun _ => 0x0, 0x0, 0x0, 0x0, false, false⟩,
  ⟨"CLE_E", 0x0F0006, [(0x10, 32)], fun _ => 0x0, 0x0, 0x0, 0x0, false, false⟩,
  ⟨"CLE_Y", 0x0F0007, [(0x10, 32)], fun _ => 0x0, 0x0, 0x0, 0x0, false, false⟩,
  ⟨"CLE_R", 0x0F0008, [(0x10, 32)], fun _ => 0x0, 0x0, 0x0, 0x0, false, false⟩,
  ⟨"CLE_MISS", 0x0F0009, [(0x10, 32)], fun _ => 0x0, 0x0, 0x0, 0x0, false, false⟩,
  ⟨"CLE_STATUS", 0x0F0004, [(0x10, 32)], fun _ => 0x0, 0x0, 0x0, 0x0, false, false⟩,
  ⟨"CLE_LATCH", 0x0F000A, [(0x10, 32)], fun _ => 0x0, 0x0, 0x1F, 0x0, false, false⟩,
  ⟨"CLE_LEARN", 0x0F000B, [(0x10, 32)], fun _ => 0x32, 0x0, 0x0, 0x0, false, false⟩,
  ⟨"CLE_LIA_CFG", 0x0F0400, [(0x2, 8)], fun _ => 0x0, 0x0, 0x0, 0x0, false, false⟩,
  ⟨"CLE_LIA_WIN", 0x0F0401, [(0x2, 8)], fun _ => 0x3E80000, 0x0, 0x0, 0x0, false, false⟩,
  ⟨"CLE_LIA_OUT", 0x0F0410, [(0x1, 8)], fun _ => 0x0, 0x0, 0x0, 0x0, false, false⟩,
  ⟨"CLE_TEST", 0x0F3001, [], fun _ => 0x0, 0x0, 0x0, 0x0, false, false⟩,
  ⟨"CLE_TEST_DONE", 0x0F3002, [], fun _ => 0x0, 0x0, 0x0, 0x0, false, false⟩,
  ⟨"CLE_COEF_INIT", 0x0FF001, [], fun _ => 0x0, 0x0, 0x0, 0x0, false, false⟩,
  ⟨"CLE_REP_INIT", 0x0FF002, [], fun _ => 0x0, 0x0, 0x0, 0x0, false, false⟩,
  ⟨"CLE_LOAD", 0x0FF003, [], fun _ => 0x0, 0x0, 0x0, 0x0, false, false⟩,
  ⟨"CLE_MAINS", 0x0FF004, [], fun _ => 0x0, 0x0, 0x0, 0x0, false, false⟩,
  ⟨"AOU_OCFG", 0x100000, [(0x10, 16)], fun _ => 0x0, 0x0, 0x0, 0x0, false, false⟩,
  ⟨"AOU_OCFG", 0x101000, [(0x10, 8)], fun _ => 0x0, 0x0, 0x0, 0x0, false, false⟩,
  ⟨"AOU_CODE", 0x100001, [(0x10, 16)], fun _ => 0x8000, 0x0, 0x0, 0x0, false, false⟩,
  ⟨"AOU_CODE", 0x101001, [(0x10, 8)], fun _ => 0x8000, 0x0, 0x0, 0x0, false, false⟩,
  ⟨"AOU_DITHER", 0x100002, [(0x10, 16)], fun _ => 0x0, 0x0, 0x0, 0x0, false, false⟩,
  ⟨"AOU_DITHER", 0x101002, [(0x10, 8)], fun _ => 0x0, 0x0, 0x0, 0x0, false, false⟩,
  ⟨"AOU_OSTAT", 0x100003, [(0x10, 16)], fun _ => 0x3, 0x0, 0x0, 0x0, false, false⟩,
  ⟨"AOU_OSTAT", 0x101003, [(0x10, 8)], fun _ => 0x3, 0x0, 0x0, 0x0, false, false⟩,
  ⟨"AOU_OLATCH", 0x100004, [(0x10, 16)], fun _ => 0x0, 0x0, 0x7, 0x0, false, false⟩,
  ⟨"AOU_OLATCH", 0x101004, [(0x10, 8)], fun _ => 0x0, 0x0, 0x7, 0x0, false, false⟩,
  ⟨"AOU_GEN_INC", 0x102000, [(0x10, 4)], fun l => [187904819, 241591910].getD (l.headD 0) 0, 0x0, 0x0, 0x0, false, false⟩,
  ⟨"AOU_GEN_PHASE", 0x102001, [(0x10, 4)], fun _ => 0x0, 0x0, 0x0, 0x0, false, false⟩,
  ⟨"AOU_GEN_TAB", 0x102400, [(0x200, 4), (0x1, 512)], fun _ => 0, 0x0, 0x0, 0x0, true, false⟩,
  ⟨"AOU_TBL", 0x10F001, [], fun _ => 0x0, 0x0, 0x0, 0x0, false, false⟩]

/-- Part 5 of the register tables. -/
def regTable5 : List RegDesc := [
  ⟨"AOU_LATCH", 0x10F002, [], fun _ => 0x0, 0x0, 0xFFFFFF, 0x0, false, false⟩,
  ⟨"MCV_SEQ", 0x114000, [(0x8, 64), (0x1, 8)], fun _ => 0, 0xFFFFFFFF, 0x0, 0x0, true, false⟩,
  ⟨"MCV_TAG", 0x115000, [(0x2, 64)], fun _ => 0x8000, 0x0, 0x0, 0x0, false, true⟩,
  ⟨"MCV_RES", 0x115001, [(0x2, 64)], fun _ => 0x0, 0x0, 0x0, 0x0, false, false⟩,
  ⟨"MCV_CFG", 0x11F001, [], fun _ => 0xD1B, 0x0, 0x0, 0x0, false, false⟩,
  ⟨"MCV_STATUS", 0x11F002, [], fun _ => 0x0, 0x0, 0x0, 0x0, false, false⟩,
  ⟨"MCV_LATCH", 0x11F003, [], fun _ => 0x0, 0x0, 0x1F, 0x0, false, false⟩,
  ⟨"MCV_CHECK_NOM", 0x11F004, [], fun _ => Config.checkNominal.toNat, 0x0, 0x0, 0x0, false, false⟩,
  ⟨"MCV_LAP", 0x11F010, [(0x1, 4)], fun _ => 0x0, 0x0, 0x0, 0x0, false, false⟩,
  ⟨"MCV_MAINS", 0x116000, [], fun _ => 0x0, 0x0, 0x0, 0x0, false, false⟩,
  ⟨"MCV_MAINS_T", 0x116002, [], fun _ => 0x0, 0x0, 0x0, 0x0, false, true⟩,
  ⟨"MCV_MAINS_T_LO", 0x116003, [], fun _ => 0, 0x0, 0x0, 0x0, false, false⟩,
  ⟨"MCV_OVER_N", 0x11F020, [], fun _ => 0x0, 0x0, 0x0, 0x0, false, false⟩,
  ⟨"MCV_PLAUS_FAIL", 0x11F021, [], fun _ => 0x0, 0x0, 0x0, 0x0, false, false⟩,
  ⟨"MCV_QUAR_N", 0x11F022, [], fun _ => 0x0, 0x0, 0x0, 0x0, false, false⟩,
  ⟨"MCV_MAINS_LOST", 0x11F023, [], fun _ => 0x0, 0x0, 0x0, 0x0, false, false⟩,
  ⟨"MCV_SKIP_N", 0x11F024, [], fun _ => 0x0, 0x0, 0x0, 0x0, false, false⟩,
  ⟨"GTH_SRC", 0x121001, [], fun _ => 0x0, 0x0, 0x0, 0x0, false, false⟩,
  ⟨"GTH_SRC_LOOPS", 0x121002, [], fun _ => 0x0, 0x0, 0x0, 0x0, false, false⟩,
  ⟨"GTH_SRC_MCV", 0x121003, [], fun _ => 0x0, 0x0, 0x0, 0x0, false, true⟩,
  ⟨"GTH_SRC_MCV_LO", 0x121004, [], fun _ => 0, 0x0, 0x0, 0x0, false, false⟩,
  ⟨"GTH_SRC_EVF", 0x121005, [], fun _ => 0x0, 0x0, 0x0, 0x0, false, false⟩,
  ⟨"GTH_CAP", 0x121006, [], fun _ => 0x4000, 0x0, 0x0, 0x0, false, false⟩,
  ⟨"GTH_PRE", 0x121007, [], fun _ => 0x0, 0x0, 0x0, 0x0, false, false⟩,
  ⟨"GTH_HOLD", 0x121008, [], fun _ => 0x0, 0x0, 0x0, 0x0, false, false⟩,
  ⟨"GTH_TRIG", 0x121010, [], fun _ => 0x1000000, 0x0, 0x0, 0x0, false, false⟩,
  ⟨"GTH_TRIG_LVL", 0x121011, [], fun _ => 0x0, 0x0, 0x0, 0x0, false, false⟩,
  ⟨"GTH_TRIG_EVT", 0x121012, [], fun _ => 0x0, 0x0, 0x0, 0x0, false, false⟩,
  ⟨"GTH_STATE", 0x121020, [], fun _ => 0x0, 0x0, 0x0, 0x0, false, false⟩,
  ⟨"GTH_CULLETS", 0x121030, [], fun _ => 0x0, 0x0, 0x0, 0x0, false, false⟩,
  ⟨"GTH_DROPPED", 0x121031, [], fun _ => 0x0, 0x0, 0x0, 0x0, false, true⟩,
  ⟨"GTH_DROPPED_LO", 0x121032, [], fun _ => 0, 0x0, 0x0, 0x0, false, false⟩,
  ⟨"GTH_TRIG_IGN", 0x121033, [], fun _ => 0x0, 0x0, 0x0, 0x0, false, false⟩,
  ⟨"GTH_SEG", 0x121100, [(0x4, 16)], fun _ => 0x0, 0x0, 0x0, 0x0, false, false⟩,
  ⟨"GTH_SEG_TRIG", 0x121101, [(0x4, 16)], fun _ => 0x0, 0x0, 0x0, 0x0, false, false⟩,
  ⟨"GTH_SEG_T", 0x121102, [(0x4, 16)], fun _ => 0x0, 0x0, 0x0, 0x0, false, true⟩,
  ⟨"GTH_SEG_T_LO", 0x121103, [(0x4, 16)], fun _ => 0, 0x0, 0x0, 0x0, false, false⟩,
  ⟨"GTH_SLOTS", 0x122000, [(0x2, 2)], fun _ => 0x0, 0x0, 0x0, 0x0, false, true⟩,
  ⟨"GTH_SLOTS_LO", 0x122001, [(0x2, 2)], fun _ => 0, 0x0, 0x0, 0x0, false, false⟩,
  ⟨"GTH_MARK_START", 0x122004, [(0x4, 2)], fun _ => 0x0, 0x0, 0x0, 0x0, false, true⟩]

/-- Part 6 of the register tables. -/
def regTable6 : List RegDesc := [
  ⟨"GTH_MARK_START_LO", 0x122005, [(0x4, 2)], fun _ => 0, 0x0, 0x0, 0x0, false, false⟩,
  ⟨"GTH_MARK_STOP", 0x122006, [(0x4, 2)], fun _ => 0x0, 0x0, 0x0, 0x0, false, true⟩,
  ⟨"GTH_MARK_STOP_LO", 0x122007, [(0x4, 2)], fun _ => 0, 0x0, 0x0, 0x0, false, false⟩,
  ⟨"GTH_PMC_CFG", 0x122010, [(0x4, 8)], fun _ => 0x0, 0x0, 0x0, 0x0, false, false⟩,
  ⟨"GTH_PMC", 0x122011, [(0x4, 8)], fun _ => 0x0, 0x0, 0x10000, 0x0, false, true⟩,
  ⟨"GTH_PMC_LO", 0x122012, [(0x4, 8)], fun _ => 0, 0x0, 0x0, 0x0, false, false⟩,
  ⟨"GTH_CNT_CFG", 0x12F001, [], fun _ => 0x0, 0x0, 0x0, 0x0, false, false⟩,
  ⟨"MEM_STATUS", 0x0CF001, [], fun _ => 0x0, 0x0, 0x0, 0x0, false, false⟩,
  ⟨"MEM_DECL", 0x0CF002, [(0x1, 3)], fun _ => 0x0, 0x0, 0x0, 0x0, false, false⟩,
  ⟨"MEM_LAP", 0x0C4000, [(0x1, 5)], fun _ => 0x0, 0x0, 0x0, 0x0, false, false⟩,
  ⟨"MEM_LAP_THR", 0x0C4008, [(0x1, 5)], fun l => [10, 3, 50, 100, 5].getD (l.headD 0) 0, 0x0, 0x0, 0x0, false, false⟩,
  ⟨"MEM_CORR", 0x0C4010, [(0x1, 14)], fun _ => 0x0, 0x0, 0x0, 0x0, false, false⟩,
  ⟨"MEM_UNCORR", 0x0C4020, [(0x1, 14)], fun _ => 0x0, 0x0, 0x0, 0x0, false, false⟩,
  ⟨"MEM_PREINIT", 0x0C4030, [(0x1, 14)], fun _ => 0x0, 0x0, 0x0, 0x0, false, false⟩,
  ⟨"PWR_DOM", 0x023000, [(0x1, 20)], fun _ => 0x0, 0x0, 0x0, 0x0, false, false⟩,
  ⟨"PWR_LEHR", 0x024000, [], fun _ => 0x0, 0x0, 0x0, 0x0, false, false⟩,
  ⟨"PWR_CFG", 0x02F001, [], fun _ => 0x1, 0x0, 0x0, 0x0, false, false⟩,
  ⟨"PWR_START", 0x02F002, [], fun _ => 0x0, 0x0, 0x0, 0x0, false, false⟩,
  ⟨"EVR_CFG", 0x13F001, [], fun _ => 0x3E80001, 0x0, 0x0, 0x0, false, false⟩,
  ⟨"EVR_STATUS", 0x13F002, [], fun _ => 0x0, 0x0, 0x0, 0x0, false, false⟩,
  ⟨"EVR_OPTIME", 0x13F004, [], fun _ => 0x0, 0x0, 0x0, 0x0, false, true⟩,
  ⟨"EVR_OPTIME_LO", 0x13F005, [], fun _ => 0, 0x0, 0x0, 0x0, false, false⟩,
  ⟨"EVR_PCC", 0x13F006, [], fun _ => 0x0, 0x0, 0x0, 0x0, false, false⟩,
  ⟨"EVR_INT_MATCH", 0x13F010, [(0x1, 8)], fun _ => 0x0, 0x0, 0x0, 0x0, false, false⟩,
  ⟨"EVR_LOST", 0x13F020, [], fun _ => 0x0, 0x0, 0x0, 0x0, false, false⟩,
  ⟨"EVR_COMMITS", 0x13F021, [], fun _ => 0x0, 0x0, 0x0, 0x0, false, false⟩,
  ⟨"EVR_NV_BAD", 0x13F022, [], fun _ => 0x0, 0x0, 0x0, 0x0, false, false⟩,
  ⟨"EVR_SNAP_CODE", 0x13F100, [(0x20, 8)], fun _ => 0x0, 0x0, 0x0, 0x0, false, false⟩,
  ⟨"EVR_SNAP_ADDR", 0x13F101, [(0x20, 8), (0x1, 16)], fun _ => 0x0, 0x0, 0x0, 0x0, false, false⟩,
  ⟨"EVR_SNAP_COUNT", 0x13F111, [(0x20, 8)], fun _ => 0x0, 0x0, 0x0, 0x0, false, false⟩,
  ⟨"SEC_FW", 0x01F001, [], fun _ => 0x0, 0x0, 0x0, 0x0, false, false⟩,
  ⟨"SEC_FW_VER", 0x01F002, [], fun _ => 0x0, 0x0, 0x0, 0x0, false, false⟩,
  ⟨"SEC_CFG", 0x01F003, [], fun _ => 0x2580000, 0x0, 0x0, 0x0, false, false⟩,
  ⟨"PWR_REF", 0x020010, [(0x1, 3)], fun _ => 0xC0000000, 0x0, 0x0, 0x0, false, false⟩,
  ⟨"PWR_SUPPLY", 0x020020, [(0x1, 5)], fun _ => 0, 0x0, 0x0, 0x0, false, false⟩,
  ⟨"CLE_COEF", 0x0F1000, [(0x10, 32), (0x1, 16)], fun _ => 0, 0xFFFFFFFF, 0x0, 0x0, true, false⟩,
  ⟨"CLE_REP", 0x0F2000, [(0x100, 16), (0x1, 256)], fun _ => 0, 0x0, 0x0, 0x0, true, false⟩]

/-- Every implemented word of the register tables. -/
def regTable : List RegDesc :=
  regTable0 ++ regTable1 ++ regTable2 ++ regTable3 ++ regTable4 ++ regTable5 ++ regTable6

/-- The first row of a table that covers address `a`, with its indices. -/
def regFindIn (a : Nat) : List RegDesc → Option (RegDesc × List Nat)
  | [] => none
  | d :: ds =>
    if a < d.base then regFindIn a ds
    else match regIndex d.dims (a - d.base) with
      | some l => some (d, l)
      | none => regFindIn a ds

/-- The register table row of address `a` (R7); none for an unimplemented word. -/
def regFind (a : Nat) : Option (RegDesc × List Nat) := regFindIn a regTable

/-- The cold-start value of the word at address `a`; an unimplemented word holds 0. -/
def coldWord (a : Nat) : Word :=
  match regFind a with
  | some (d, l) => BitVec.ofNat 32 (d.cold l)
  | none => 0

/-- Is the unit of address `a` one that Table 01-1 lists (R17)? -/
def unitListed (a : Nat) : Bool :=
  let ss := a / 2^16 % 256
  decide (ss < 20) && (unitMask.getD ss 0).testBit (a / 2^12 % 16)

end Sys2Proof.Machine
end

