-- ==== Sys2Proof/Machine/State.lean ====
section
/-!
DEFINITION. The state of the part as plain data: the register words, and beside them every queue, table, session,
journal entry, record, timer and mode that the chapters of spec/ give the part; the faults and refusals; the state
after reset.
-/
namespace Sys2Proof.Machine

/-! ### Commands, sessions and the journal (02) -/

/-- A reply packet (R50): header fields and payload. -/
structure Reply where
  opcode  : Nat
  seq     : Nat
  status  : Nat
  flags   : Nat := 0
  detail  : Nat := 0
  journal : Nat := 0
  payload : Bytes := []
  deriving DecidableEq, Repr

/-- One of the last 16 replies of a session (R59). -/
structure SentReply where
  seq    : Nat
  opcode : Nat
  digest : Nat
  reply  : Reply
  deriving DecidableEq, Repr

/-- A session (R42, R58, R64 to R67): number, level granted, high mark, time of the last request, nonce with the time of
its reply, the last 16 replies, the session key, the owner key slot, the transcript of a provisional session, where
its last request came from, and whether it closes once the reply at hand has left. -/
structure Session where
  num     : Nat
  level   : Nat
  mark    : Option Nat := none
  lastReq : Nat := 0
  nonce   : Option (Nat × Nat) := none
  replies : List SentReply := []
  key     : Nat := 0
  slot    : Nat := 0
  prov    : Option (Bytes × Nat) := none
  reqLvl  : Nat := 0
  port    : Nat := 0
  src     : Nat := 0
  vlan    : Option Nat := none
  closing : Bool := false
  deriving DecidableEq, Repr

/-- What a command that has been accepted and has not finished waits for. -/
inductive Wait where
  /-- The named domains to be ready; the command then executes (R22, R54). -/
  | domains (ds : List Nat)
  /-- The voltage move that the command started (R106, R107). -/
  | opMove
  /-- Lock, or the moves, of the named FES units (R377, R379), with the deadline in ms and the targets before. -/
  | fesState (units : Nat) (deadline : Nat) (old : List Nat)
  /-- One FESPI frame (R387). -/
  | fesSpi
  /-- An outbound grant (R417). -/
  | coex
  /-- Plausibility rounds on the named pairs (R477), or the release of a converter (R479). -/
  | plaus (pairs : Nat)
  | unquar (conv : Nat)
  /-- The range change of an output (R452). -/
  | rangeChange (o : Nat)
  /-- A sleep, a wake and a Lehr run (R528, R524, R537); of a wake the domains that it began to wake. -/
  | sleep
  | wake (mask : Nat) (analog : Bool) (woken : List Nat)
  | lehr
  /-- The histogram run of a lane (R155). -/
  | hist (lane : Nat)
  /-- Room among the cooling indices, with the items done so far (R295). -/
  | cooling (done chain : Nat)
  /-- Commits to non-volatile memory: every complete entry (R70). -/
  | nvSync
  /-- The read that wakes the domain of a WRITE_WORDS, by its fabric tag (R69). -/
  | wakingRead (tag : Nat)
  /-- The verification of a firmware image, begun at this DTIME (R573). -/
  | verify (since : Nat)
  /-- The replies to the fabric packets of a READ_WORDS or WRITE_WORDS, by their tags in the order of issue (R21). -/
  | words (tags : List Nat)
  deriving DecidableEq, Repr

/-- An accepted command that has not finished (R55, R71). -/
structure RunCmd where
  id      : Nat
  opcode  : Nat
  req     : Request
  session : Nat
  recv    : Nat
  index   : Nat := 0
  wait    : Wait
  outcome : Option (Nat × Nat × Bytes) := none
  replied : Bool := false
  deriving DecidableEq, Repr

/-- A journal entry (R76), without its CRC; `crcOk` says whether the stored CRC is good (R82). -/
structure JEntry where
  index    : Nat
  epoch    : Nat
  status   : Nat
  opcode   : Nat
  seq      : Nat
  session  : Nat
  route    : Nat
  level    : Nat
  nv       : Bool
  notice   : Bool
  afterReset : Bool := false
  accept   : Nat
  complete : Nat := 0
  pcc      : Nat
  detail   : Nat := 0
  plen     : Nat
  digest   : Nat
  crcOk    : Bool := true
  deriving DecidableEq, Repr

/-- A packet of the control fabric (R18): its header (Table 01-3) and its data words; and what the header does not carry: of a write
the clear-on-one bits that the hardware sets within its handshake (R28), of a read the memory errors it meets (address; twice the
syndrome, plus 1 for an uncorrectable one), of a reply the first word whose status is not done. -/
structure Packet where
  head   : BitVec 64
  data   : List Nat := []
  during : Nat := 0
  ups    : List (Nat × Nat) := []
  bad    : Option Nat := none
  deriving DecidableEq, Repr

/-- The control fabric: packets that their sources hold back at a full boundary, in the order of issue (R23); the replies that
Ehrik has received and not used; the next tag of each source. -/
structure Fabric where
  held : List Packet := []
  back : List Packet := []
  tags : Map Nat := []
  deriving DecidableEq, Repr

/-- A read pair latch of one fabric source (R29): the lower word's address and the value it held. -/
structure PairLatch where
  addr  : Nat
  value : Word
  deriving DecidableEq, Repr

/-- The command processor; `fires` are the watchdog's firings, `turnedAt` the one that last started the other slot (R41). -/
structure Cmd where
  sessions : List Session := [{ num := 0xFFF1, level := 1 }, { num := 0xFFF2, level := 1 }]
  running  : List RunCmd := []
  mspiQ    : List Reply := []
  notices  : List Reply := []
  nextId   : Nat := 1
  nextSess : Nat := 1
  sessEpoch : Nat := 0
  epoch    : Nat := 0
  index    : Nat := 0
  journal  : List JEntry := []
  latches  : Map (Option PairLatch) := []
  mac      : Nat := 0
  dropped  : Nat := 0
  noteN    : Nat := 0
  fires    : List Nat := []
  turnedAt : Option Nat := none
  deriving DecidableEq, Repr

/-! ### Event recorder, non-volatile memory and security (19) -/

/-- An event on the bus (R32): code, up to three parameters, the DTIME at which it was raised. -/
structure Ev where
  code   : Nat
  params : List Nat
  time     : Nat
  deriving DecidableEq, Repr

/-- A staged or committed record (R549): `snap` tells the kinds apart; `words` and `unavail` belong to a snapshot. -/
structure Rec where
  code    : Nat
  snap    : Bool
  closed  : Bool := false
  pcc     : Nat
  first   : Nat
  last    : Nat
  count   : Nat := 1
  dtime   : Nat
  params  : List Nat
  words   : List Nat := []
  unavail : Nat := 0
  committed : Bool := false
  changed : Bool := false
  lastCommit : Nat := 0
  deriving DecidableEq, Repr

/-- A page of the event ring (R557): sequence, power-cycle count and operating time at commit, the records it holds; whether its CRC
fails (1) or its sector is uncorrectable (2), and whether that has been told in this power cycle (R560). -/
structure Page where
  seq   : Nat
  pcc   : Nat
  time  : Nat
  recs  : List Rec
  bad   : Nat := 0
  told  : Bool := false
  deriving DecidableEq, Repr

/-- One copy of a configuration object (R562). -/
structure ObjCopy where
  pcc   : Nat
  epoch : Nat
  index : Nat
  crcOk : Bool := true
  body  : Bytes
  deriving DecidableEq, Repr

/-- A configuration object's two copies, the body of the one adopted (R562), and whether a copy with a bad CRC was found at a start
(R471). -/
structure CfgObj where
  a : Option ObjCopy := none
  b : Option ObjCopy := none
  adopted : Option Bytes := none
  spoilt  : Bool := false
  deriving DecidableEq, Repr

/-- A stored equaliser set (Table 04-5): lane, mode, peer tag, format version, operating time and margin at saving (16 bits), bytes 16 to
131, and the CRC in bytes 252 to 255. -/
structure EqSet where
  lane : Nat
  mode : Nat
  tag  : Nat
  version : Nat := 1
  time : Nat
  margin : Nat := 0
  body : Bytes
  crc  : Nat := 0
  deriving DecidableEq, Repr

/-- A Lehr region entry (Table 18-5). -/
structure LehrEntry where
  region   : Nat
  result   : Nat
  steps    : Nat
  executed : Nat
  expected : Nat
  sig      : Nat
  vLow     : Nat
  vHigh    : Nat
  tLow     : Nat
  tHigh    : Nat
  bad      : Nat
  duration : Nat
  marker   : Bool
  deriving DecidableEq, Repr

/-- A Lehr record (Table 18-4). -/
structure LehrRec where
  kind    : Nat
  abort   : Nat
  pcc     : Nat
  start   : Nat
  done    : Nat
  entries : List LehrEntry
  marker  : Bool := true
  deriving DecidableEq, Repr

/-- A row of the repair map (R518): memory, bank, row, and 0 pending, 1 repaired, 2 no spare. -/
structure RepairRow where
  mem   : Nat
  bank  : Nat
  row   : Nat
  state : Nat
  deriving DecidableEq, Repr

/-- An owner key slot (R567). -/
structure KeySlot where
  level  : Nat
  cosign : Bool
  key    : Bytes
  deriving DecidableEq, Repr

/-- What the identity region and the store of equaliser sets hold (R561, R605): effects that commit with their journal
entry. -/
structure Ident where
  eqSets   : List EqSet := []
  lehrMain : List LehrRec := []
  lehrRing : List LehrRec := []
  slots    : Map (Option KeySlot) := []
  rollback : Nat := 0
  cosign   : Bool := false
  active   : Nat := 0
  trial    : Bool := false
  fallback : Option Nat := none
  trialAt  : Nat := 0
  deriving DecidableEq, Repr

/-- What an abandoned commit returns to (R79): the identity region before the command and after it, where the command changed it;
the pages that it erased from the ring; the rows that it entered in the repair map; the slots that it took the unverified mark from
(bit n). -/
structure Undo where
  ident  : Option (Ident × Ident) := none
  erased : List Page := []
  rows   : List RepairRow := []
  passed : Nat := 0
  deriving DecidableEq, Repr

/-- A non-volatile commit that has not finished (R79, R562): the journal entry, the configuration objects written with
it, and what an abandoned commit returns to. -/
structure NvItem where
  entry  : JEntry
  objs   : List (Nat × Bytes) := []
  undo   : Undo := {}
  deriving DecidableEq, Repr

/-- The non-volatile array (R561). `epoch` is the journal's epoch as last taken up (R77); `unver` has bit n set while slot n is
marked unverified (R573); `badSects` are the uncorrectable sectors of the firmware slots, by their number in the array. -/
structure Nv where
  epoch    : Nat := 0
  journal  : List JEntry := []
  items    : List NvItem := []
  starts   : List Nat := []
  ring     : List Page := []
  pageSeq  : Nat := 0
  objs     : Map CfgObj := []
  ident    : Ident := {}
  repair   : List RepairRow := []
  images   : Map (Option Bytes) := []
  unver    : Nat := 0
  badSects : List Nat := []
  pcc      : Nat := 0
  optime   : Nat := 0
  deriving DecidableEq, Repr

/-- The event recorder's volatile part; `handed` are events that were staged at once and that Gather gets in the same handshake
(R32, R559); `optTop` says that operating time has reached its limit and event 0x1304 has told it. -/
structure Evr where
  bus      : List Ev := []
  handed   : List Ev := []
  staged   : List Rec := []
  commits  : List Nat := []
  lostNow  : Nat := 0
  optBase  : Nat := 0
  optDtime : Nat := 0
  lastCkpt : Nat := 0
  onceSec  : Map Nat := []
  counts   : Map (Nat × Nat × Nat × Nat) := []
  fresh    : Nat := 0
  optTop   : Bool := false
  randomOk : Bool := true
  debug    : Bool := false
  deriving DecidableEq, Repr

/-! ### Power domains, start-up and Lehr (18), pace and operating points (03) -/

/-- The sleep in progress (R528, R532, R544): domains left to ask, domains stopped (last first), the mask named, whether
refusal conditions apply, who started it: 0 PWR_SLEEP, 1 low power, 2 a Lehr run, 3 the idle sleep of R524. -/
structure Sleep where
  toAsk   : List Nat
  stopped : List Nat
  mask    : Nat
  forced  : Bool
  owner   : Nat
  target  : Nat := 0
  deriving DecidableEq, Repr

/-- A switched domain, beside its register PWR_DOMd: the times of its failures, when it began to wake, the cause (those of
event 0x0201; 6 a domain reset or the re-power after a failure, 7 the end of a warm reset), the last access, whether an access
woke it, how many wakes wait for a sleep or a test in progress (R531), the packets queued at its boundary, oldest first (R22, R23),
its power-ups. -/
structure Domain where
  fails   : List Nat := []
  wakeAt  : Nat := 0
  cause   : Nat := 0
  access  : Nat := 0
  byAccess : Bool := false
  queued  : Nat := 0
  packets : List Packet := []
  powerUps : Nat := 0
  deriving DecidableEq, Repr

/-- A Lehr run in progress: kind, target, operating time at its start, whether the sleep before it has ended, the lowest and
highest VCORE and junction temperature seen, the FES targets and the domains awake before the command (R54), and when the
preconditions were last judged (R537). -/
structure LehrRun where
  kind    : Nat
  target  : Nat
  started : Nat
  testing : Bool := false
  vLow    : Nat
  vHigh   : Nat
  tLow    : Nat
  tHigh   : Nat
  targets : List Nat := []
  awake   : List Nat := []
  checked : Nat := 0
  deriving DecidableEq, Repr

/-- A voltage move (R106, R107, R112): automatic or commanded, from point to point, the VCORE to reach and the one last commanded, VCORE and ceiling
before the command, the ceiling to set at the end, when VCORE reached its goal, the domains whose margin has been read
since, whether the move is being rolled back with which CONDITIONS number or TIMEOUT, and whether the regulator has still to answer
the voltage last commanded. -/
structure VMove where
  auto     : Bool
  origin   : Nat
  target   : Nat
  goal     : Nat
  cmdMv    : Nat
  startMv  : Nat
  startCeil : Nat
  endCeil  : Option Nat := none
  settled  : Option Nat := none
  reads    : Nat := 0
  aborted  : Option (Nat × Nat) := none
  asked    : Bool := false
  deriving DecidableEq, Repr

/-- The power part: sleep and Lehr in progress; low power: whether CMIS asks for it, whether it is in force, when it came or went, whether its sleep has
still to begin, whether the wake that ends it is in progress; FES targets kept and the units the host has set since; the supply
departure recorded in AON (supply, extreme, time); the reset to carry out or in progress (1 management by command, 2 by watchdog,
3 by a trial's end, 4 warm), when a command asked for it, and whether a trial that ended leaves no image to run; whether the part is
in the shut state (R544); whether the front end has still to come back from low power (Table 02-10); cause and tag of each group's latched line wake (R240); the voltage move, and the limits on pace; the lowest and highest die
temperature last read, in 0.1 °C; what gives back the record of a Lehr run whose command has not ended; the losses (cause and moment)
that no STATUS has signalled yet (R368); the moments, from 1, at which each reference was last out of range, and that of the last
measurement (R587, R588); and a release of the two-wire bus that a management reset keeps back (R599). -/
structure Pwr where
  doms     : Map Domain := []
  sleep    : Option Sleep := none
  lehr     : Option LehrRun := none
  lpReq    : Bool := false
  lowPower : Bool := false
  lowAt    : Nat := 0
  lowWaking : Bool := false
  lowDue   : Bool := false
  kept     : Map Nat := []
  setSince : Nat := 0
  depart   : Option (Nat × Nat × Nat) := none
  resetting : Nat := 0
  resetAt  : Nat := 0
  toRecovery : Bool := false
  shut     : Bool := false
  leaving  : Bool := false
  move     : Option VMove := none
  lineWakes : Map (Nat × Nat) := []
  susLim   : Map Nat := []
  susAt    : Nat := 0
  susUp    : Bool := false
  okSince  : Map Nat := []
  coreAt   : Nat := 0
  refOkSince : Map Nat := []
  tempLow  : Int := 250
  tempHigh : Int := 250
  lehrUndo : Undo := {}
  lossTold : List (Nat × Nat) := []
  refBad   : Map Nat := []
  measAt   : Option Nat := none
  busFreed : Option Nat := none
  deriving DecidableEq, Repr

/-! ### Line lanes (04) -/

/-- What a lane's receiver remembers between symbols (R136, R137, R143): the last ADC codes, FFE outputs and reference symbols, newest
first, the survivor paths of the four trellis states with their metrics, and what stands below the last place of each
coefficient. -/
structure Receiver where
  codes : List Nat := []
  outs  : List Int := []
  paths : List (Int × List Nat) := []
  refs  : List Nat := []
  below : List Nat := []
  deriving DecidableEq, Repr

/-- A line lane beside its registers: its retained values with their mode and peer tag (R146), the place in the seed list
and the time of the last seed, the best margin of the cycle, runs of good updates, the times of convergence, of entry to P5 and
of the last automatic save (R149), when both indications were last good and when the signal came back, the last symbols sent,
training sync, the transmit taps of the seed applied, the histogram run in progress (point and d), whether loss of signal has
stopped it (R155) and the counts that it replaced, the receiver, and the PCS blocks that wait for a codeword in C2 (R202). -/
structure Lane where
  retained : Option (Nat × Nat × Bytes) := none
  p2At     : Nat := 0
  seedStep : Nat := 0
  seedAt   : Nat := 0
  best     : Int := -1024
  goodRun  : Nat := 0
  highRun  : Nat := 0
  convAt   : Nat := 0
  p5At     : Nat := 0
  savedAt  : Option Nat := none
  goodAt   : Nat := 0
  sigAt    : Nat := 0
  sent     : List Nat := []
  sync     : Bool := false
  taps0    : Nat := 0
  taps1    : Nat := 0
  freqFar  : Bool := false
  hist     : Option (Nat × Nat) := none
  histLos  : Bool := false
  histOld  : List Nat := []
  rx       : Receiver := {}
  blocks   : List (List Bool) := []
  deriving DecidableEq, Repr

/-! ### Lane groups: native line, bring-up, time transfer, redundancy (05, 06, 03, 10) -/

/-- What a group's receiver knows of one lane position: consecutive good and bad markers, the group frame count of the
last good one, its skew in ns, and whether the lane is aligned with the others (R175, R176). -/
structure AmLane where
  good    : Nat := 0
  bad     : Nat := 0
  frame   : Nat := 0
  skew    : Nat := 0
  aligned : Bool := false
  deriving DecidableEq, Repr

/-- The training exchange on one lane position (R222 to R228): markers found and missed in a row, bad control words in a
row, the peer's last valid word (ready, sync, margin, exit mask, exit words in a row), whether exit 1 has arrived, the last request
acted on and its result, own request's sequence and its bits [87:72] of the control word. -/
structure TrainLane where
  marks   : Nat := 0
  misses  : Nat := 0
  badCtl  : Nat := 0
  peerReady : Bool := false
  exitRun : Nat := 0
  exitSeen : Bool := false
  exitMask : Nat := 0
  acted   : Nat := 0
  ack     : Nat := 3
  reqSeq  : Nat := 0
  req     : Nat := 0
  deriving DecidableEq, Repr

/-- An in-service retraining of one lane (R241, R242): phase 1 requested, 2 training frames, 3 phase 4 sent, 4 return frame
agreed; when it began, whether this end and the peer have converged, and the frame of phase 5. -/
structure Retrain where
  phase : Nat
  t0    : Nat
  peer4 : Bool := false
  frame : Option Nat := none
  deriving DecidableEq, Repr

/-- A REMAP that has been queued and has not reached its point (R351). -/
structure Remap where
  gen    : Nat
  mask   : Nat
  frame  : Nat
  q      : Nat
  reason : Nat
  sentAt : Nat
  deriving DecidableEq, Repr

/-- A further mask change that waits for the pending point (R351): lane, whether it joins, REMAP reason, R350 cause. -/
structure MaskWant where
  lane   : Nat
  join   : Bool
  reason : Nat
  cause  : Nat
  deriving DecidableEq, Repr

/-- A timed cell that waits for a slot (R317): its frame, class, path policy and port of entry, sequence and release field, the
latest-issue time in 1/64 ns, whether it is one of two copies and, once the other copy has been issued, when that one reaches the far end and
whether it was classed wasted (R337), and whether it waits through the class B gap (R358). -/
structure TCell where
  flow    : Nat
  cls     : Nat
  path    : Nat
  port    : Nat
  frame   : Nat
  start   : Bool
  seq     : Nat
  rel     : Nat
  latest  : Int
  dup     : Bool
  mate    : Option (Nat × Bool) := none
  gap     : Bool := false
  payload : Bytes
  deriving DecidableEq, Repr

/-- A best-effort frame that waits for slots: destination port, bytes, and how many bytes of its length word and body have
left (R189, R335), and the cell buffer's first place that it takes (R336). One that came in for a line PHY of C2 (R34) carries its fine time of arrival and the latency that the part itself
adds to its residence, in 1/64 ns. -/
structure BeFrame where
  port  : Nat
  off   : Nat := 0
  since : Option (Nat × Nat) := none
  place : Nat := 0
  bytes : Bytes
  deriving DecidableEq, Repr

/-- A best-effort stream received on a group for a port (R189, R190): the next sequence number expected, the frame in
progress with its length (none: at a length word), and whether the stream waits for a length word after a gap. -/
structure BeRx where
  next : Option Nat := none
  len  : Option Nat := none
  data : Bytes := []
  sync : Bool := false
  bad  : Bool := false
  deriving DecidableEq, Repr

/-- Where a cell may go (R192): anywhere, with its first header bit on a lane position, or wholly within one codeword on a lane of a
mask. -/
inductive Place where
  | any
  | lane (p : Nat)
  | within (mask : Nat)
  deriving DecidableEq, Repr

/-- A cell that waits for its position (R191): kind 0 timed, 1 OAM, 2 time transfer, 3 best effort; of a time-transfer cell the lane
position, the request's sequence number and the fraction of its departure stamp, and whether it is a request. -/
structure LCell where
  kind    : Nat
  place   : Place := .any
  header  : Nat
  payload : Bytes
  stamp   : Option (Nat × Nat × Nat × Bool) := none
  deriving DecidableEq, Repr

/-- A lane group beside its registers. Of time transfer (03): the raw offsets with their lanes and delays, those set aside, the
exchanges since DTIME last changed to or from the oscillator and how many of the newest raw offsets they gave, the offsets published in the last second with their times; of the
slots, the part of a slot that has run up, in 10^-12 (R98). Of the cell stream (05): the cells that wait for a position, those of
this group frame with their positions, the first position that has not gone by, the active masks of this group frame with the
lane codewords from which they apply, the time at which it began with its fraction in 1/64 ns, by lane position the run that the frame before left and the marker sent, when the last good
marker arrived. Of bring-up (06): what a lane's transmitter sends in P1 (1 sprout with peer_seen
0, 2 with 1) and since when, whether the peer shares no mode until the next burst, the min_lanes of this P2, by lane position the control
word plus 1 of the training frames that follow one another (R208), when exit came to be proposed. Of redundancy (10): REMAPs whose answer is
awaited, lanes on which a cause of R350 held when last looked at. The lane frame whose skew has been judged (R176). -/
structure Grp where
  stageAt   : Nat := 0
  backoffEnd : Nat := 0
  burstAt   : Nat := 0
  bursting  : Bool := false
  relock    : Bool := false
  p5At      : Nat := 0
  sprout    : Map (Nat × Nat × Nat) := []
  seenAt    : Option Nat := none
  offer     : Nat × Nat × Nat := (0, 0, 0)
  peerSeen  : Bool := false
  crossed   : Nat := 0
  oldTag    : Nat := 0
  train     : Map TrainLane := []
  exitOwn   : Option Nat := none
  lback     : Map Nat := []
  frameAt   : Nat := 0
  frameFrac : Nat := 0
  am        : Map AmLane := []
  txFc      : Nat := 0
  oamSeq    : Nat := 0
  stuffed   : List Nat := []
  contrib   : Nat := 0
  peerContrib : Option Nat := none
  ackSent   : Bool := false
  ackRcvd   : Bool := false
  ownF      : Option Nat := none
  peerF     : Option Nat := none
  seed      : Nat := 0
  txPast    : Bool := false
  rxPast    : Bool := false
  readySent : Bool := false
  readyRcvd : Bool := false
  peerPace  : Option Nat := none
  peerFloor : Option Nat := none
  flags     : Nat := 0
  adv       : Option (Nat × Nat × Nat × Nat × Nat) := none
  ttSeq     : Map Nat := []
  ttOut     : Map (Option (Nat × Nat)) := []
  offs      : List (Nat × Int) := []
  dlys      : Map (List Int) := []
  aside     : List (Nat × Int) := []
  fresh     : Bool := true
  exch      : Nat := 0
  exchOffs  : Nat := 0
  drift     : List (Nat × Int) := []
  credit    : Nat := 0
  lfm       : List LCell := []
  cells     : List (Nat × Nat × Bytes) := []
  pos       : Nat := 0
  segs      : List (Nat × Nat) := []
  runs      : Map (Nat × Nat) := []
  sentAm    : Map Bytes := []
  rxFrameAt : Nat := 0
  txSprout  : Map (Nat × Nat) := []
  noMode    : Bool := false
  minLanes  : Nat := 0
  txTrain   : Map Nat := []
  exitAt    : Nat := 0
  skewFc    : Option Nat := none
  troubled  : Nat := 0
  txRemap   : Option Remap := none
  rxRemap   : Option Remap := none
  noAck     : List Remap := []
  wants     : List MaskWant := []
  rxGen     : Nat := 0
  health    : List (Nat × Nat) := []
  causeAt   : Map Nat := []
  sheds     : Map (List Nat) := []
  handShed  : Nat := 0
  inject    : Map Nat := []
  leftAt    : Map Nat := []
  retrain   : Map (Option Retrain) := []
  rtFails   : Map (List Nat) := []
  lossSince : Nat := 0
  hdrRun    : List Nat := []
  healthAt  : Option (Nat × Nat) := none
  tq        : List TCell := []
  be        : List BeFrame := []
  beSeq     : Map Nat := []
  beRx      : Map BeRx := []
  flowSeq   : Nat := 0
  delay     : Option Nat := none
  promSince : Option Nat := none
  revertAt  : Nat := 0
  txEndB    : Nat := 0
  deinit    : Bool := false
  deriving DecidableEq, Repr

/-! ### Host ports (07) -/

/-- A frame that waits for a host port (R265, R321): when it came to wait, whether it is timed, its flow, the group or C2 side it came from, the
deadline of a class B frame, whether its promise was in force, and, of a frame that carries a completion notice, the notice, its
session and its place among the in-band notices (R72); the cell buffer's first place of a best-effort frame (R336); of a C2 frame the fine time at which it
came from the line and the latency that the part itself adds. -/
structure TxFrame where
  came     : Nat := 0
  timed    : Bool
  flow     : Nat
  grp      : Nat
  deadline : Option Int := none
  prom     : Bool := false
  since    : Option (Nat × Nat) := none
  note     : Option (Nat × Reply × Nat) := none
  place    : Nat := 0
  bytes    : Bytes
  deriving DecidableEq, Repr

/-- A host port beside its registers: frames waiting, when HTX is free again, the last class C frame's end, when the port
was enabled or lost alignment; in C2, when its line PHY is free again and whether its line lanes carry local fault (R264); by host lane,
the PCS blocks that wait for a codeword (R253). -/
structure Port where
  q      : List TxFrame := []
  free   : Nat := 0
  lastC  : Nat := 0
  since  : Nat := 0
  fec    : List (Nat × Nat) := []
  lineFree : Nat := 0
  lineFault : Bool := false
  blocks : Map (List (List Bool)) := []
  deriving DecidableEq, Repr

/-- The host side: ports; since HREF was rejected the quads are held down (R251): the time, the quads still held and all of them. -/
structure HostSide where
  ports   : Map Port := []
  hrefAt  : Option Nat := none
  held    : Nat := 0
  hit     : Nat := 0
  deriving DecidableEq, Repr

/-! ### Flow tables (08) -/

/-- The flow tables (R280 to R295): key slots by slot number with stash entries from 1 179 648 on, contexts by index, what an
unlisted entry holds after a fill, the salt, the occupied stash entries oldest first, the cooling indices with the times at
which they were freed, the result cache, and whether a deletion has freed a slot since the stash was last tried. -/
structure Flw where
  keys    : Map Nat := []
  keyFill : Nat := 0
  ctxs    : Map Nat := []
  ctxFill : Nat := 0
  salt0   : Nat := 0
  salt1   : Nat := 0
  stash   : List Nat := []
  cooling : List (Nat × Nat) := []
  cache   : List (Nat × Nat) := []
  freed   : Bool := false
  deriving DecidableEq, Repr

/-! ### Timed delivery (09) -/

/-- An admission that TDS holds (R310, R314): what the context said when it was admitted. -/
structure Adm where
  cls      : Nat
  path     : Nat
  maxFrame : Nat
  minIv    : Nat
  keyless  : Bool
  deriving DecidableEq, Repr

/-- An accepted cell of a frame that is not whole yet (R347): the group that it came on, what its context held then (R308), and its place in the cell buffer (R336). -/
structure ACell where
  seq     : Nat
  start   : Bool
  fld     : Nat
  moment  : Int
  time      : Nat
  grp     : Nat
  cx      : Nat
  place   : Nat
  payload : Bytes
  deriving DecidableEq, Repr

/-- A frame that has been dropped, so that its later cells go too (R330): the sequence number of its first cell with their number, or of one
of its cells while its length is not known; its release field, and when it was dropped. -/
structure DeadFrame where
  seq  : Nat
  size : Option Nat
  fld  : Nat
  time : Nat
  deriving DecidableEq, Repr

/-- The receive side of a flow: cells of frames in progress (release field, the moment it names, arrival), and the frames that have been
dropped. -/
structure Asm where
  cells : List ACell := []
  dead  : List DeadFrame := []
  deriving DecidableEq, Repr

/-- A whole class C frame in the skew store (R328), with the places of its cells (R336). -/
structure SkewFrame where
  port  : Nat
  flow  : Nat
  grp   : Nat
  rel   : Int
  places : List Nat
  bytes : Bytes
  deriving DecidableEq, Repr

/-- Timed delivery beside its registers: the admissions, the frames in reassembly by flow, the whole class C frames, the number of the next
frame, the next place of the cell buffer (R336), and whether a flow has been admitted since D14 was powered (R342). -/
structure Tds where
  adm    : Map (Option Adm) := []
  asm    : Map Asm := []
  store  : List SkewFrame := []
  frameN : Nat := 0
  begun  : Bool := false
  place  : Nat := 0
  deriving DecidableEq, Repr

/-! ### Front-end sequencer (11) -/

/-- A hook frame (R389): chip select, verify flag, the bytes sent, the bytes that the verifying read must return. -/
structure HookFrame where
  cs     : Nat
  verify : Bool
  data   : Bytes
  want   : Bytes
  deriving DecidableEq, Repr

/-- What waits for the FESPI master (R388): the hook frames of one unit's move that are left, or a host frame with the
journal index of its command. -/
structure SpiJob where
  unit   : Option Nat
  index  : Nat := 0
  done   : Nat := 0
  frames : List HookFrame
  deriving DecidableEq, Repr

/-- A sequenced unit beside its registers (R370 to R389): where the move under way leads; when EMIT came to be asked for;
when it entered WARM and has not settled since, and whether settle_max was reported; when its move from WARM to LIT began;
the step set by FES_STEP_SET (a stage's ceiling); the ramp (entry approached, microseconds gone); the stamp of a turn under
way, and whether the lane has been turned; when lock was declared; whether lock was lost in EMIT; whether the unit failed
its command; the hooks of its two moves; whether its hooks run; its APR step while power is reduced (none of it: gated);
when its step last changed; when its ramp began; whether the lane's receive path is up (unit 12); whether the references and the
temperature loop are on (Table 11-1); whether the temperature error and the lock error are inside their windows, and since when each has
been where it is (R375). -/
structure Fes where
  toward      : Nat := 0
  reqAt   : Option Nat := none
  warmAt  : Option Nat := none
  settled : Bool := false
  litAt   : Option Nat := none
  stgt    : Nat := 0
  ramp    : Option (Nat × Nat) := none
  turn    : Option Nat := none
  turned  : Bool := false
  lockAt  : Nat := 0
  lost    : Bool := false
  failed  : Bool := false
  up      : List HookFrame := []
  down    : List HookFrame := []
  hooking : Bool := false
  apr     : Option (Option Nat) := none
  aprShut : Bool := false
  stepAt  : Option Nat := none
  rampAt  : Nat := 0
  rxOn    : Bool := false
  refsOn  : Bool := false
  tecOn   : Bool := false
  tempIn  : Bool := false
  tempAt  : Nat := 0
  lockIn  : Bool := false
  errAt   : Nat := 0
  deriving DecidableEq, Repr

/-- The FESPI master's queue. -/
structure FesShared where
  jobs : List SpiJob := []
  deriving DecidableEq, Repr

/-! ### Band repeater (12) -/

/-- An amplifier stage beside its registers: target changes with their gain in 0.01 dB (R402), and its APR step (R409),
and when its input loss held it at entry 0 (R407). -/
structure Amp where
  taken   : List (Nat × Int) := []
  apr     : Option Nat := none
  lossAt  : Nat := 0
  deriving DecidableEq, Repr

/-- A band (R403, R406): the times of its guard and runaway mutes that count, when it was last muted so, whether automatic release has
stopped, whether the guard is stepping down, since when both stages have stood at entry 0 with the prediction above the margin, and whether
the guard waits for a valid estimate after an inbound hold (R415). -/
structure Band where
  mutes   : List Nat := []
  mutedAt : Nat := 0
  waiting : Bool := false
  stopped : Bool := false
  lowering : Bool := false
  floorAt : Option Nat := none
  deriving DecidableEq, Repr

/-- The band repeater: stages, bands, the time of the last estimate update, when each fibre's power was reduced, releases
still to send and the last QUIET mute received, both by group and band 2g + b (R411, R412), the acceptance of XREQ_IN and its last
fall (R414, R415), when XREQ_OUT was raised (R417), the pin levels of XREQ_IN and XGNT_IN, the time of the last reroute (R414); by group
since when the condition of R409 has held, whether the group has entered P2 since its fibre was reduced (R410) with the last stage seen, and
whether the end of a reduction is still in progress (R414); when an inbound hold began; and when each periodic act was last done. -/
structure Brc where
  amps    : Map Amp := []
  bands   : Map Band := []
  estAt   : Nat := 0
  aprAt   : Map Nat := []
  release : Map Nat := []
  quietAt : Map Nat := []
  xreqAt  : Nat := 0
  xoutAt  : Nat := 0
  xlowAt  : Nat := 0
  xreqPin : Bool := false
  xgntPin : Bool := false
  rerouteAt : Option Nat := none
  condAt  : Map (Option Nat) := []
  stages  : Map Nat := []
  enterP2 : Map Bool := []
  ending  : Map Bool := []
  holdAt  : Nat := 0
  acts    : Map (Option Nat) := []
  deriving DecidableEq, Repr

/-! ### Control engine (13) -/

/-- A loop beside its registers (R433 to R438): integrator, derivative state and previous measurement; the count of its
source last taken and the samples without a new value; whether it has left off since its last sample; completed samples;
misses of a second; since when u is at a limit (0 low, 1 high) and whether that was reported; the number of its last sample
instant (R428). The repetitive part: errors of
this cycle by bin (sum, count), the number of the next sample of the cycle, whether recording has begun, whether the weight
ramps in at the next cycle start, the shaped record and the entries that wait for that start, the last period, the weight,
when it began to ramp out, whether it ramps back, whether the table's limit was reported, the start of the mains cycle in which its schedule
stands and the period by which that cycle's instants fall (R435). -/
structure Loop where
  i       : Int := 0
  d       : Int := 0
  xPrev   : Int := 0
  taken   : Nat := 0
  unchanged : Nat := 0
  fresh   : Bool := true
  samples : Nat := 0
  instant : Nat := 0
  misses  : Nat × Nat := (0, 0)
  satAt   : Option (Nat × Nat) := none
  satSaid : Bool := false
  errs    : Map (Int × Nat) := []
  j       : Nat := 0
  begun   : Bool := false
  engage  : Bool := false
  delta   : List Int := []
  load    : List (Nat × Nat) := []
  period  : Nat := 0
  weight  : Nat := 0
  offAt   : Option Nat := none
  back    : Bool := false
  limSaid : Bool := false
  cycle   : Nat := 0
  cycleT  : Nat := 0
  deriving DecidableEq, Repr

/-- A running test signal (R439): amplitude, half period, start and end frequency in 0.1 Hz, duration and sample number, and
the PRBS register. -/
structure TestSig where
  amp  : Int
  h    : Nat
  f0   : Nat
  f1   : Nat
  len  : Nat
  k    : Nat := 0
  prbs : Nat := 2047
  deriving DecidableEq, Repr

/-- The control engine: loops, the step destinations' last written values (transmitters 0 to 7, stages 8 to 11), results
published by each lock-in demodulator and when its last window ended, measurements of each lane, the running test signal, since
when the mains period has been valid, and since when invalid. -/
structure Cle where
  loops : Map Loop := []
  steps : Map Nat := []
  liaN  : Map Nat := []
  liaAt : Map Nat := []
  lrxN  : Map Nat := []
  test  : Option TestSig := none
  goodAt : Option Nat := none
  badAt : Option Nat := none
  deriving DecidableEq, Repr

/-! ### Analogue outputs (14) -/

/-- An output beside its registers: the code it is to drive, the code its converter drives (dither added), whether the last
change was a major transition held for 200 ns (R448), a gate write that has not taken effect (R447), a range change (new
range, new code, old range, whether FES keeps its safe code; R452) and when it began, when compliance failed. -/
structure AouOut where
  want   : Nat := 0
  drive  : Nat := 0
  old    : Nat := 0
  heldTo : Nat := 0
  gate   : Option Nat := none
  change : Option (Nat × Nat × Nat × Nat) := none
  changeAt : Nat := 0
  compAt : Nat := 0
  deriving DecidableEq, Repr

/-- A generator's increment and phase that wait for the next update instant (R454). -/
structure GenWait where
  inc   : Option Nat := none
  phase : Option Nat := none
  deriving DecidableEq, Repr

/-- The analogue outputs, the generators, and the number of the last update instant (R446). -/
structure Aou where
  outs : Map AouOut := []
  gens : Map GenWait := []
  instant : Nat := 0
  deriving DecidableEq, Repr

/-! ### Monitor converters (15) -/

/-- A converter (R467): what it does (0 idle, 1 suppression, 2 window, 3 delay), its entry, the windows left of the visit, the
entry's words as the visit began with them, channel and profile last run with no break since, when the lap began (none while the
lap is not a complete one), whether
its window runs at the fallback period, where it resumes after plausibility, whether entries that cannot run were
reported, when its phase began, and the length of its window in ns. -/
structure Conv where
  phase  : Nat := 0
  entry  : Nat := 0
  left   : Nat := 0
  words  : List Nat := []
  prev   : Option (Nat × Nat) := none
  lapAt  : Option Nat := none
  fellBack : Bool := false
  resume : Nat := 0
  told   : Bool := false
  since  : Nat := 0
  len    : Nat := 0
  deriving DecidableEq, Repr

/-- A plausibility run of a pair (R476 to R479): rounds of it, rounds passed, largest difference, why: 0 power-up, 1
MCV_PLAUS_RUN, 2 MCV_UNQUARANTINE of a converter; when its round began. -/
structure Plaus where
  total  : Nat
  passed : Nat := 0
  most   : Nat := 0
  why    : Nat
  conv   : Nat := 0
  since  : Nat := 0
  deriving DecidableEq, Repr

/-- The monitor converters: converters, plausibility runs by pair, the last run's outcome by pair (passed, rounds passed,
largest difference) and the errors of its last round, and the mains detector: last edge, last period in ns, good periods in
a row. -/
structure Mcv where
  conv    : Map Conv := []
  plaus   : Map (Option Plaus) := []
  results : Map (Nat × Nat × Nat) := []
  errs    : Map Nat := []
  edge    : Option Nat := none
  period  : Nat := 0
  goodRun : Nat := 0
  deriving DecidableEq, Repr

/-! ### Gather (16) -/

/-- A capture block (Table 16-1): kind, source index, sequence, units, time of the first unit, payload so far. -/
structure GBlock where
  kind  : Nat
  src   : Nat
  seq   : Nat := 0
  units : Nat
  time  : Nat
  data  : Bytes
  deriving DecidableEq, Repr

/-- A staging store (R488, R489): whole blocks, the block being filled, and the gap in progress: units dropped, times of
the first and the last. -/
structure GStore where
  blocks : List GBlock := []
  part   : Option GBlock := none
  gap    : Option (Nat × Nat × Nat) := none
  deriving DecidableEq, Repr

/-- The capture engine: stores by kind, trigger and cullet records that wait, the blocks kept per segment (oldest first),
blocks written since GTH_ARM, post blocks still to write, the last accepted trigger time, candidates ignored since then,
the nanosecond of the last candidate, the threshold signal's last value with
its fine time (R491), the fine times of the last line sample and the last detector set kept (R487), and the selected lane's receiver as
the capture follows it (R156) with the fine times of the ADC samples that it holds, newest first. -/
structure Gth where
  stores : Map GStore := []
  urgent : List GBlock := []
  segs   : Map (List GBlock) := []
  seq    : Nat := 0
  post   : Nat := 0
  last   : Option Nat := none
  ign    : Nat := 0
  candAt : Option Nat := none
  signal : Option (Int × Nat) := none
  keptAt : Option Nat := none
  detAt  : Option Nat := none
  rx     : Receiver := {}
  times  : List Nat := []
  deriving DecidableEq, Repr

/-! ### Memories (17) -/

/-- An entry of the error log (R509): memory id, bank, word offset, syndrome, 0 corrected or 1 uncorrectable, DTIME. -/
structure MemErr where
  mem  : Nat
  bank : Nat
  off  : Nat
  synd : Nat
  kind : Nat
  time   : Nat
  deriving DecidableEq, Repr

/-- The memories' own state: which registers of the mapped host-owned tables have been written, the write coverage of their
64-bit protected words by half address (R507, R511), and of tables 0 and 1 as wholes, poisoned words (R508) keyed by address, or by memory id and offset for memories that are not mapped, pre-initialisation
errors per table (R513), the error log (R509), corrections per row with their operating times (R518), the DTIME at
which the lap in progress of each scrub region began, the tables that are in their region's lap, and the regions whose lap is broken
off until their domain powers up again (R517). -/
structure Mem where
  cover   : Map Bool := []
  words   : Map Bool := []
  whole   : Map Bool := []
  poison  : Map Bool := []
  preN    : Map Nat := []
  log     : List MemErr := []
  rowFix  : Map (List Nat) := []
  lapAt   : Map Nat := []
  joined  : Map Bool := []
  broken  : Map Bool := []
  deriving DecidableEq, Repr

/-! ### The whole -/

/-- How far the part is between power and service (R34 to R41, R534, R544, R571). -/
inductive Phase where
  /-- Held in reset by a supply out of its window or MODRSTL low. -/
  | held
  /-- Starting after a cold start; not command-ready. -/
  | starting
  | ready
  /-- In recovery: no image runs (R571). -/
  | recovery
  /-- A management reset, a warm reset in progress (R37). -/
  | mgmtReset
  | warmReset
  /-- The shut state after a shut-down Lehr run (R544). -/
  | shut
  deriving DecidableEq, Repr

/-- What the part sent or drove while it handled the last command. -/
inductive Out where
  | cdbFail
  /-- The reply of a CDB command (R43): its local and its extended payload. -/
  | cdb (lpl epl : Bytes)
  /-- Bytes on MSPI_DO after 0xA5 (R45). -/
  | mspi (bytes : Bytes)
  /-- The DAC codes of a sprout frame on a lane; a training frame on a lane, which is sent over and over until another follows; an alignment
  marker of a group. -/
  | sprout (g lane : Nat) (codes : List Nat)
  | training (g lane : Nat) (control : Nat)
  | marker (g : Nat) (bytes : Bytes)
  /-- A cell on a group: its position in the group frame, header and payload. -/
  | cell (g pos : Nat) (header : Nat) (payload : Bytes)
  /-- A frame on a host port, and the symbols of the outer codewords that it fills on a host lane. -/
  | frame (port : Nat) (bytes : Bytes)
  | htx (lane : Nat) (symbols : List Nat)
  /-- In C2, the frame of a host port on its line lanes. -/
  | line (port : Nat) (bytes : Bytes)
  /-- One FESPI frame: chip select and bytes (R387). -/
  | spi (cs : Nat) (div : Nat) (mode : Nat) (bytes : Bytes)
  /-- The verifying read of a hook frame: its chip select and length (R389). -/
  | spiRead (cs : Nat) (div : Nat) (mode : Nat) (length : Nat)
  /-- Nine clocks and a stop condition on the two-wire bus (R592). -/
  | busFree
  /-- An AVSBus command of a voltage in mV (R106, R595). -/
  | avs (mv : Nat)
  deriving DecidableEq, Repr

/-- CMIS module states and data path states (Table 02-10). -/
inductive CmisModule where
  | lowPwr | pwrUp | ready | pwrDn | fault
  deriving DecidableEq, Repr

inductive CmisPath where
  | deactivated | init | activated
  deriving DecidableEq, Repr

/-- What CMIS shows (R83, R84): the module state and the data path state of groups A and B, and the latched flags of page 11h by
lane: loss of signal, loss of lock, transmitter fault; the CDB reply that pages 9Fh and A0h to AFh hold; and LowPwrAllowRequestHW, set at a start as the CMIS standard
has it (PRESUMED: log entry 111). -/
structure Cmis where
  state  : CmisModule := .pwrUp
  pathA  : CmisPath := .deactivated
  pathB  : CmisPath := .deactivated
  los    : Nat := 0
  lol    : Nat := 0
  fault  : Nat := 0
  lpl    : Bytes := []
  epl    : Bytes := []
  allowHw : Bool := true
  deriving DecidableEq, Repr

/-- The part, all but the queue of commands. -/
structure Hw where
  dtime : Nat := 0
  phase : Phase := .starting
  regs  : Map Word := []
  cmd   : Cmd := {}
  fab   : Fabric := {}
  evr   : Evr := {}
  nv    : Nv := {}
  pwr   : Pwr := {}
  lanes : Map Lane := []
  mem   : Mem := {}
  grps  : Map Grp := []
  host  : HostSide := {}
  flw   : Flw := {}
  tds   : Tds := {}
  fes   : Map Fes := []
  fesq  : FesShared := {}
  brc   : Brc := {}
  cle   : Cle := {}
  aou   : Aou := {}
  mcv   : Mcv := {}
  gth   : Gth := {}
  intl  : Bool := false
  cmis  : Cmis := {}
  freeN : Nat := 0
  out   : List Out := []
  deriving DecidableEq, Repr

/-- The machine's state: the part, and the commands that wait, first in first out. -/
structure State where
  hw      : Hw
  pending : List Instr := []
  deriving DecidableEq, Repr

/-- No meaning of this model ends in a fault: the part answers every command of its table, and what cannot happen in a
state changes nothing.  The type stays for the host's interface; its one constructor is raised by nobody (safe). -/
inductive Fault where
  /-- Raised by no meaning; safe. -/
  | none
  deriving DecidableEq, Repr

/-- Reasons not to run a command. -/
inductive Refusal where
  /-- The command has no meaning yet; raised by its arm of exec only; safe. -/
  | notModelled (mnemonic : String)
  deriving DecidableEq, Repr

/-! ### Reset -/

/-- The machine right after reset: the part as delivered, held in reset by MODRSTL or its supplies (R86, R534).  Every register
holds its cold-start value (`regs` lists nothing, so each word reads `coldWord`), every volatile memory and queue is empty,
non-volatile memory is as the factory leaves it, and no command waits.  Commands act once COLD_START and COMMAND_READY have
happened. -/
def State.reset : State := { hw := { phase := .held }, pending := [] }

end Sys2Proof.Machine
end

