-- ==== Sys2Proof/Machine/Ops.lean ====
section
/-!
DEFINITION. The operations every family shares: register and field access with the cold-start values behind them,
counters, raising an event, domains and wakes, free and random values, and the signals that settle after every command.
-/
namespace Sys2Proof.Machine
open Reg

/-! ### Registers -/

/-- The word at address `a`: what was last written, or else its cold-start value. -/
def Hw.reg (s : Hw) (a : Nat) : Word := Map.get (coldWord a) s.regs a

/-- `s` with the word at address `a` holding `v`. -/
def Hw.setReg (s : Hw) (a : Nat) (v : Word) : Hw := { s with regs := Map.put (coldWord a) s.regs a v }

/-- A register as a number. -/
def Hw.num (s : Hw) (a : Nat) : Nat := (s.reg a).toNat

/-- A register as a two's complement number. -/
def Hw.int (s : Hw) (a : Nat) : Int := (s.reg a).toInt

def Hw.setNum (s : Hw) (a n : Nat) : Hw := s.setReg a (BitVec.ofNat 32 n)
def Hw.setInt (s : Hw) (a : Nat) (i : Int) : Hw := s.setReg a (BitVec.ofInt 32 i)

/-- A field of a register. -/
def Hw.fld (s : Hw) (f : Fld) : Nat := getField (s.reg f.addr) f.lo f.w

/-- A field as a two's complement number. -/
def Hw.fldS (s : Hw) (f : Fld) : Int := sx f.w (s.fld f)

/-- A one-bit field as a flag. -/
def Hw.flag (s : Hw) (f : Fld) : Bool := s.fld f == 1

/-- `s` with field `f` holding the low bits of `v`. -/
def Hw.setFld (s : Hw) (f : Fld) (v : Nat) : Hw := s.setReg f.addr (putField (s.reg f.addr) f.lo f.w v)

def Hw.setFldS (s : Hw) (f : Fld) (v : Int) : Hw := s.setFld f (enc f.w v)
def Hw.setFlag (s : Hw) (f : Fld) (b : Bool) : Hw := s.setFld f (if b then 1 else 0)

/-- A 64-bit value in two words, the upper at the lower offset (R29). -/
def Hw.num64 (s : Hw) (a : Nat) : Nat := s.num a * 2 ^ 32 + s.num (a + 1)
def Hw.setNum64 (s : Hw) (a n : Nat) : Hw := (s.setNum a (n / 2 ^ 32 % 2 ^ 32)).setNum (a + 1) (n % 2 ^ 32)

/-- A 32-bit counter that sticks at its largest value (R501, Table 16-7). -/
def Hw.count (s : Hw) (a : Nat) (k : Nat := 1) : Hw := s.setNum a (min (s.num a + k) (2 ^ 32 - 1))

/-- A 64-bit counter that sticks. -/
def Hw.count64 (s : Hw) (a : Nat) (k : Nat := 1) : Hw := s.setNum64 a (min (s.num64 a + k) (2 ^ 64 - 1))

/-- A 32-bit counter that wraps. -/
def Hw.wrapCount (s : Hw) (a : Nat) (k : Nat := 1) : Hw := s.setNum a ((s.num a + k) % 2 ^ 32)

/-- A field that counts up and sticks at its largest value. -/
def Hw.countFld (s : Hw) (f : Fld) (k : Nat := 1) : Hw := s.setFld f (min (s.fld f + k) (2 ^ f.w - 1))

/-- Every word of the list at its cold-start value. -/
def Hw.coldRegs (s : Hw) (as : List Nat) : Hw := as.foldl (fun s a => s.setReg a (coldWord a)) s

/-- Every word of the list at zero. -/
def Hw.zeroRegs (s : Hw) (as : List Nat) : Hw := as.foldl (fun s a => s.setReg a 0) s

/-- The bytes of `k` words from address `a`. -/
def Hw.words (s : Hw) (a k : Nat) : Bytes := (List.range k).flatMap fun i => toBE 4 (s.num (a + i))

/-- The bytes of the words at the listed addresses. -/
def Hw.wordsAt (s : Hw) (as : List Nat) : Bytes := as.flatMap fun a => toBE 4 (s.num a)

/-- DTIME as eight bytes. -/
def Hw.dtimeBytes (s : Hw) : Bytes := toBE 8 (s.dtime % 2 ^ 64)

/-- Fold an update over a list of units. -/
def Hw.each (s : Hw) (l : List Nat) (f : Nat → Hw → Hw) : Hw := l.foldl (fun s i => f i s) s

/-- An update under a condition. -/
def Hw.cond (s : Hw) (b : Bool) (f : Hw → Hw) : Hw := if b then f s else s

def Hw.emit (s : Hw) (o : Out) : Hw := { s with out := s.out ++ [o] }

/-! ### Free and random values -/

/-- A fresh free value: the next one of `Config.free`. -/
def Hw.free (s : Hw) : Nat × Hw := (Config.free s.freeN, { s with freeN := s.freeN + 1 })

/-- A fresh value of the random source (R566). -/
def Hw.random (s : Hw) : BitVec 384 × Hw := (Config.random s.freeN, { s with freeN := s.freeN + 1 })

/-! ### Events (R32, R33, R604) -/

/-- An event enters the bus; events keep the order in which they were raised (R33). `fresh` counts the events that Gather
has not seen. -/
def Hw.raise (s : Hw) (code : Nat) (params : List Nat := []) : Hw :=
  { s with evr := { s.evr with bus := s.evr.bus ++ [⟨code, params, s.dtime⟩], fresh := s.evr.fresh + 1 } }

/-- Quantities that share one parameter of an event, in places that the spec does not state. -/
def together (code : Nat) (qs : List Nat) : Nat := (Config.eventWord code qs).toNat

/-- The number of the present whole second of DTIME, counted from 1 (R604). -/
def Hw.second (s : Hw) : Nat := s.dtime / 10 ^ 9 + 1

/-- An event limited to once per second for `key`: recorded at its first occurrence in the second (R604). -/
def Hw.raiseOnce (s : Hw) (code key : Nat) (params : List Nat := []) : Hw :=
  let k := code * 2 ^ 24 + key
  if Map.get 0 s.evr.onceSec k = s.second then s
  else { s with evr := { s.evr with onceSec := Map.put 0 s.evr.onceSec k s.second } }.raise code params

/-- The parameters of an event that reports a count for its second: the key, the count, what came first and the most. -/
def countParams (code key n first most : Nat) : List Nat :=
  match code with
  | 0x0007 => [n]
  | 0x0C01 => [key, first, n]
  | 0x0A01 => [key / 2, first, together 0x0A01 [n, key % 2]]
  | 0x0A02 => [key, first, together 0x0A02 [n, most]]
  | 0x0A03 => [key, first, n]
  | 0x0A09 => [n, first]
  | 0x0B08 => [first, n]
  | _ => [key, n]

/-- The event of a count whose second has ended. -/
def Hw.raiseCount (s : Hw) (e : Nat × Nat × Nat × Nat × Nat) : Hw :=
  s.raise (e.1 / 2 ^ 24) (countParams (e.1 / 2 ^ 24) (e.1 % 2 ^ 24) e.2.2.1 e.2.2.2.1 e.2.2.2.2)

/-- Count a happening for the event that reports the count of its second (R604): the second, the count, `first`, which
the first happening of the second sets (or the last, with `last`), and the largest `most`. A count of an earlier second that has
not been reported yet is reported before the new second's begins. -/
def Hw.countSec (s : Hw) (code key : Nat) (k : Nat := 1) (first : Nat := 0) (most : Nat := 0) (last : Bool := false) : Hw :=
  let i := code * 2 ^ 24 + key
  let (sec, n, x, m) := Map.get (0, 0, 0, 0) s.evr.counts i
  let s := s.cond (decide (n ≠ 0 ∧ sec < s.second)) fun s => s.raiseCount (i, sec, n, x, m)
  let e := if sec = s.second then (sec, n + k, if last then first else x, max m most) else (s.second, k, first, most)
  { s with evr := { s.evr with counts := Map.put (0, 0, 0, 0) s.evr.counts i e } }

/-- A fine timestamp of the present nanosecond (R90). -/
def fine (s : Hw) (frac : Nat) : Nat := s.dtime % 2 ^ 58 * 64 + frac

/-! ### Performance counters (R496, R498) -/

/-- PMC `n` counts `k` of event number `ev` if it runs and is set to it; past 2^48 - 1 it wraps. -/
def pmcOne (ev k n : Nat) (s : Hw) : Hw :=
  if s.flag (GTH_PMC_CFG_run n) && s.fld (GTH_PMC_CFG_event n) == ev then
    let v := s.num64 (GTH_PMC n)
    let c := v % 2 ^ 48 + k
    if c < 2 ^ 48 then s.setNum64 (GTH_PMC n) (v + k)
    else
      let w := min (v / 2 ^ 56 + 1) 255
      (s.setNum64 (GTH_PMC n) (w * 2 ^ 56 + 2 ^ 48 + c % 2 ^ 48)).cond (s.flag (GTH_PMC_CFG_ovf_evt n)) fun s =>
        s.raise 0x1204 [n, ev, w]
  else s

/-- `k` happenings of event number `ev` of Table 16-6. -/
def Hw.pmc (s : Hw) (ev : Nat) (k : Nat := 1) : Hw := if k = 0 then s else s.each (List.range 8) (pmcOne ev k)

/-- PMC `n` takes back one count of event number `ev`. -/
def pmcBack (ev n : Nat) (s : Hw) : Hw :=
  if s.flag (GTH_PMC_CFG_run n) && s.fld (GTH_PMC_CFG_event n) == ev && s.num64 (GTH_PMC n) % 2 ^ 48 != 0 then
    s.setNum64 (GTH_PMC n) (s.num64 (GTH_PMC n) - 1)
  else s

/-- A slot that was counted in one class of R337 counts in another. -/
def Hw.pmcMove (s : Hw) (old new : Nat) : Hw := (s.each (List.range 8) (pmcBack old)).pmc new

/-- Operating time in ms (R550). -/
def Hw.optime (s : Hw) : Nat := min (s.evr.optBase + (s.dtime - s.evr.optDtime) / 10 ^ 6) (2 ^ 48 - 1)

/-! ### Domains (R17, R22 to R25, R523 to R525) -/

/-- The domain of a unit (Table 01-1); none for AON and for a unit that the table does not list (R17). -/
def unitDomain (ss unit : Nat) : Option Nat :=
  if unit = 15 then none
  else match ss with
    | 0x01 => if unit = 2 then some 18 else if unit = 3 then some 19 else none
    | 0x03 | 0x04 => if unit < 8 then some unit else none
    | 0x05 | 0x06 => if unit < 2 then some (12 + unit) else none
    | 0x07 | 0x08 => if unit < 4 then some (8 + unit) else none
    | 0x09 | 0x0B => if unit < 4 then some 14 else none
    | 0x0A => if unit < 5 then some 14 else none
    | 0x0C => if unit < 3 then some 14 else none
    | 0x0D => if unit < 14 then some 15 else none
    | 0x0E => if unit < 7 then some 15 else none
    | 0x0F => if unit < 4 then some 15 else none
    | 0x10 => if unit < 3 then some 15 else none
    | 0x11 => if unit < 7 then some 16 else none
    | 0x12 => if unit < 2 then some 17 else none
    | 0x13 => if unit = 2 ∨ unit = 3 then some 19 else none
    | _ => none

/-- The domain at whose boundary an access to address `a` waits. -/
def addrDomain (a : Nat) : Option Nat := unitDomain (a / 2 ^ 16) (a / 2 ^ 12 % 16)

/-- PWR_DOMd.state (Table 18-10). -/
def Hw.domState (s : Hw) (d : Nat) : Nat := s.fld (PWR_DOM_state d)
def Hw.ready (s : Hw) (d : Nat) : Bool := s.domState d == 2
def Hw.fenced (s : Hw) (d : Nat) : Bool := s.flag (PWR_DOM_fenced d)

/-- The group of a line lane (R122) and the lane's position in it. -/
def laneGroup (n : Nat) : Nat := n / 4
def groupLanes (g : Nat) : List Nat := [4 * g, 4 * g + 1, 4 * g + 2, 4 * g + 3]

def Hw.dom (s : Hw) (d : Nat) : Domain := Map.get {} s.pwr.doms d
def Hw.setDom (s : Hw) (d : Nat) (x : Domain) : Hw := { s with pwr := { s.pwr with doms := Map.put {} s.pwr.doms d x } }

/-- A wake source for domain `d` (R524, R525): a fenced domain counts it in PWR_DOMd.ignored; an off domain begins to
wake; at a preparing, stopped or testing domain it waits (R531). In recovery only D18 and D19 wake (R571), in the shut state none (R544).
`cause` is event 0x0201's. -/
def Hw.wake (s : Hw) (d cause : Nat) : Hw :=
  if (s.phase = .recovery ∧ d ≠ 18 ∧ d ≠ 19) ∨ s.phase = .shut then s
  else if s.fenced d then s.countFld (PWR_DOM_ignored d)
  else if s.domState d = 0 then
    (s.setFld (PWR_DOM_state d) 1).setDom d { s.dom d with wakeAt := s.dtime, cause := cause, byAccess := cause == 0 }
  else if 3 ≤ s.domState d ∧ s.domState d ≤ 5 then
    s.setDom d { s.dom d with queued := (s.dom d).queued + 1 }
  else s

/-- An access reaches domain `d` (R22): it wakes an off domain, and it is noted for the idle rule of low power. -/
def Hw.access (s : Hw) (d : Nat) : Hw := (s.wake d 0).setDom d { (s.wake d 0).dom d with access := s.dtime }

/-! ### What a stage of a group is, used by many families -/

def Hw.stage (s : Hw) (g : Nat) : Nat := s.fld (LNK_STATUS_stage g)
def Hw.mode (s : Hw) (g : Nat) : Nat := s.fld (LFM_STATUS_mode g)
def Hw.txMask (s : Hw) (g : Nat) : Nat := s.fld (LFM_STATUS_tx_mask g)
def Hw.rxMask (s : Hw) (g : Nat) : Nat := s.fld (LFM_STATUS_rx_mask g)

/-! ### Signals that follow the state at once -/

/-- A CMIS flag of a lane is latched (Table 02-9). -/
def Hw.latchLos (s : Hw) (n : Nat) : Hw := { s with cmis := { s.cmis with los := setBit s.cmis.los n true } }
def Hw.latchLol (s : Hw) (n : Nat) : Hw := { s with cmis := { s.cmis with lol := setBit s.cmis.lol n true } }
def Hw.latchFault (s : Hw) (n : Nat) : Hw := { s with cmis := { s.cmis with fault := setBit s.cmis.fault n true } }

/-- Is a CMIS latched flag set? -/
def cmisFlagged (s : Hw) : Bool := s.cmis.los != 0 || s.cmis.lol != 0 || s.cmis.fault != 0

/-- CMD_INT_STATUS.notice and cmis, and INTL (R73): the notice bit is set while a two-wire notice is pending, the CMIS bit while a
CMIS latched flag is set, and INTL is driven low (`intl` true) while a status bit is set together with its mask bit. -/
def settleInt (s : Hw) : Hw :=
  let s := s.setFlag CMD_INT_STATUS_notice (!s.cmd.notices.isEmpty)
  let s := s.setFlag CMD_INT_STATUS_cmis (cmisFlagged s)
  { s with intl := (s.reg CMD_INT_STATUS &&& s.reg CMD_INT_MASK) != 0 }

/-- The parameters of a configuration object as adopted (R562, R605). -/
def adoptedBody (s : Hw) (n : Nat) : Option Bytes := (Map.get {} s.nv.objs n).adopted

end Sys2Proof.Machine
end

