-- ==== Sys2Proof/Machine/Serve.lean ====
section
/-!
DEFINITION. How a request is served (R42 to R64, R71 to R80): the checks of R51 in their order, sequence numbers and
retry, the journal entry, execution, the reply, and the end of a command that finished later.
-/
namespace Sys2Proof.Machine
open Reg

/-! ### Status codes (Table 02-4) -/
def stOK := 0
def stACCEPTED := 1
def stBUSY := 2
def stREFUSED := 3
def stBAD_OPCODE := 4
def stBAD_LENGTH := 5
def stRANGE := 6
def stACCESS := 7
def stAUTH := 8
def stFENCED := 9
def stTIMEOUT := 10
def stNOT_LOCKED := 11
def stTABLE_CONFLICT := 12
def stUNINIT := 13
def stADMIT_REFUSED := 14
def stUNCORR := 15
def stSEQUENCE := 16
def stINTERLOCK := 17
def stCONDITIONS := 18

/-! ### Parameter checks (steps 7 and 8 of R51) -/

/-- How one parameter is checked: its length in bytes and the values it may take. -/
inductive Chk where
  | any (k : Nat)
  /-- A reserved field, zero (R9). -/
  | res (k : Nat)
  | rng (k lo hi : Nat)
  | srng (k : Nat) (lo hi : Int)
  /-- No bit outside the mask. -/
  | msk (k mask : Nat)
  /-- Not zero, and no bit outside the mask. -/
  | nzm (k mask : Nat)
  | one (k : Nat) (vs : List Nat)
  deriving DecidableEq, Repr

def Chk.len : Chk → Nat
  | .any k | .res k | .rng k _ _ | .srng k _ _ | .msk k _ | .nzm k _ | .one k _ => k

/-- Does the parameter's value pass? -/
def Chk.ok : Chk → Nat → Bool
  | .any _, _ => true
  | .res _, n => n == 0
  | .rng _ lo hi, n => decide (lo ≤ n ∧ n ≤ hi)
  | .srng k lo hi, n => decide (lo ≤ sx (8 * k) n ∧ sx (8 * k) n ≤ hi)
  | .msk _ m, n => n ||| m == m
  | .nzm _ m, n => n != 0 && (n ||| m == m)
  | .one _ vs, n => vs.contains n

/-- The number of the first parameter that fails, counting from `no`, with the block read from byte `at`. -/
def runChks : List Chk → Nat → Nat → Bytes → Option Nat
  | [], _, _, _ => none
  | c :: cs, no, pos, p => if c.ok (un p pos c.len) then runChks cs (no + 1) (pos + c.len) p else some no

def chksLen (cs : List Chk) : Nat := sumN (cs.map Chk.len)

/-! ### What an opcode is -/

/-- A request being executed: the request, its parameters without signature trailer, its session and journal index. -/
structure Call where
  rq   : Request
  p    : Bytes
  sess : Nat
  idx  : Nat

/-- What executing a command gives: a final status, detail, payload and state; or the state in which it waits. -/
inductive Res where
  | done (status detail : Nat) (payload : Bytes) (s : Hw)
  | wait (w : Wait) (s : Hw)

def Res.ok (s : Hw) (payload : Bytes := []) : Res := .done stOK 0 payload s
def Res.refuse (status detail : Nat) (s : Hw) : Res := .done status detail [] s

/-- An opcode of the command tables: level (R62), maximum completion time (R54), journal column (0 no, 1 RAM, 2 RAM and
NV), the length rules of step 7 of R51, the checks of step 8, the domains it touches, what it may run beside (R56), the
configuration objects it writes (R605), its effect, the status that can be foreseen of an execution that would wait (R52), and
whether it sends its own packets to the fabric and so waits at the boundary by itself (R22). -/
structure OpSpec where
  opcode  : Nat
  level   : Nat
  maxMs   : Nat
  journal : Nat
  fixed   : Nat
  maxLen  : Nat
  implied : Bytes → Except Nat Nat
  check   : Hw → Bytes → Option Nat
  doms    : Hw → Bytes → List Nat := fun _ _ => []
  conc    : Hw → Bytes → RunCmd → Bool := fun _ _ _ => false
  busy    : Hw → Bytes → Bool := fun _ _ => false
  levelOf : Hw → Request → Nat := fun _ _ => level
  objs    : Bytes → List Nat := fun _ => []
  body    : Hw → Call → Res
  foresee : Hw → Bytes → Nat × Nat := fun _ _ => (stOK, 0)
  own     : Bool := false

/-- The row of an opcode in its chapter's command table. -/
structure OpHead where
  opcode  : Nat
  level   : Nat
  maxMs   : Nat
  journal : Nat

/-- An opcode whose block has one fixed length, checked parameter by parameter. -/
def OpSpec.fix (h : OpHead) (cs : List Chk) (body : Hw → Call → Res) : OpSpec where
  opcode := h.opcode
  level := h.level
  maxMs := h.maxMs
  journal := h.journal
  fixed := chksLen cs
  maxLen := chksLen cs
  implied := fun _ => .ok (chksLen cs)
  check := fun _ p => runChks cs 1 0 p
  body := body

/-- An opcode with fixed fields `cs` and then `count` items of `size` bytes, where `count` is `k` bytes at `pos`, is
parameter `no`, and lies from `lo` to `hi`. -/
def OpSpec.list (h : OpHead) (cs : List Chk) (no pos k lo hi size : Nat) (body : Hw → Call → Res) : OpSpec where
  opcode := h.opcode
  level := h.level
  maxMs := h.maxMs
  journal := h.journal
  fixed := chksLen cs
  maxLen := chksLen cs + hi * size
  implied := fun p =>
    let n := un p pos k
    if lo ≤ n ∧ n ≤ hi then .ok (chksLen cs + n * size) else .error no
  check := fun _ p => runChks cs 1 0 p
  body := body

/-! ### Sessions -/

def findSession (s : Hw) (n : Nat) : Option Session := s.cmd.sessions.find? (·.num == n)

def updSession (s : Hw) (n : Nat) (f : Session → Session) : Hw :=
  { s with cmd := { s.cmd with sessions := s.cmd.sessions.map fun x => if x.num = n then f x else x } }

/-- The session number a request names: its route's implicit session for 0 (R42, Table 02-2). -/
def sessionOf (rq : Request) : Nat :=
  if rq.session ≠ 0 then rq.session
  else match rq.route with
    | .twoWire => 0xFFF1
    | .mspi => 0xFFF2
    | .inband => 0

/-- A session that a request may use: an implicit one by 0, or an opened one by its number. -/
def usable (s : Hw) (rq : Request) : Bool :=
  match findSession s (sessionOf rq) with
  | some x => if rq.session = 0 then true else x.num < 0xFFF0 && x.prov.isNone
  | none => false

/-- The largest parameter block of a route (Table 02-1). -/
def routeMax : Route → Nat
  | .twoWire => 2048
  | .mspi => 2048
  | .inband => 1456

/-- How many outstanding requests a route, or an in-band session, holds at most (Table 02-1). -/
def routeLimit : Route → Nat
  | .twoWire => 1
  | .mspi => 8
  | .inband => 4

def routeCode : Route → Nat
  | .twoWire => 0
  | .mspi => 1
  | .inband => 2

/-- Requests outstanding on the route of `rq`: received, without a first reply (R48). -/
def outstanding (s : Hw) (rq : Request) : Nat :=
  (s.cmd.running.filter fun r =>
    !r.replied && r.req.route == rq.route && (rq.route != .inband || r.session == sessionOf rq)).length

/-- The bytes of a request header (Table 02-2). -/
def headerBytes (opc : Nat) (rq : Request) : Bytes :=
  toBE 2 opc ++ toBE 2 rq.length ++ toBE 4 rq.seq ++ toBE 1 rq.level ++ toBE 1 rq.flags ++ toBE 2 rq.session ++
    toBE 4 rq.resv

/-- The first 16 bytes of SHA-384 of a parameter block (R76). -/
def digestOf (p : Bytes) : Nat := (sha384 p).toNat / 2 ^ 256

/-- The first 16 bytes of HMAC-SHA-384 under a session's key (R66). -/
def tagOf (key : Nat) (bs : Bytes) : Nat := (hmac384 (BitVec.ofNat 384 key) bs).toNat / 2 ^ 256

/-- A reply header's bytes (Table 02-3). -/
def replyHead (r : Reply) : Bytes :=
  toBE 2 r.opcode ++ toBE 2 r.payload.length ++ toBE 4 r.seq ++ toBE 1 r.status ++ toBE 1 r.flags ++
    toBE 2 r.detail ++ toBE 4 r.journal

def replyBytes (r : Reply) : Bytes := replyHead r ++ r.payload

/-- The payloads of a reply on the two-wire port (R43): a payload of at most 104 bytes follows the header in the local payload, a
longer one is the extended payload. -/
def cdbLocal (r : Reply) : Bytes := if r.payload.length ≤ 104 then replyHead r ++ r.payload else replyHead r
def cdbExtended (r : Reply) : Bytes := if r.payload.length ≤ 104 then [] else r.payload

/-! ### Replies and notices (R45, R46, R71, R72) -/

/-- The device's MAC address: the one of production until INBAND_CONFIG sets another. -/
def Hw.mac (s : Hw) : Nat := if s.cmd.mac = 0 then Config.macAddress.toNat else s.cmd.mac

/-- The FCS of a frame: CRC-32, least significant byte first. -/
def fcsOf (b : Bytes) : Bytes := (toBE 4 (crc32 b)).reverse

/-- A frame from CMD with packet and tag, padded to 64 bytes (R46, R268). -/
def cmdFrame (s : Hw) (dst : Nat) (vlan : Option Nat) (packet tag : Bytes) : Bytes :=
  let vl := match vlan with
    | some t => toBE 2 0x8100 ++ toBE 2 t
    | none => []
  let b := toBE 6 dst ++ toBE 6 s.mac ++ vl ++ toBE 2 (s.fld CMD_CFG_inband_etype) ++ packet ++ tag
  let b := b ++ zeros (60 - b.length)
  b ++ fcsOf b

def updPort (s : Hw) (p : Nat) (f : Port → Port) : Hw :=
  { s with host := { s.host with ports := Map.upd {} s.host.ports p f } }

/-- A frame of CMD joins the best-effort queue of a port (R268). -/
def sendInband (s : Hw) (p dst : Nat) (vlan : Option Nat) (packet tag : Bytes) : Hw :=
  updPort s p fun x => { x with q := x.q ++ [{ came := s.dtime, timed := false, flow := 0, grp := 2, bytes := cmdFrame s dst vlan packet tag }] }

/-- A reply on the two-wire port leaves, and pages 9Fh and A0h to AFh hold it. -/
def sendCdb (s : Hw) (r : Reply) : Hw :=
  ({ s with cmis := { s.cmis with lpl := cdbLocal r, epl := cdbExtended r } } : Hw).emit (.cdb (cdbLocal r) (cdbExtended r))

/-- A reply becomes ready on the route of its request; where no open session has a key for it, an in-band reply bears no tag
(R65). -/
def deliver (s : Hw) (rq : Request) (r : Reply) : Hw :=
  match rq.route with
  | .twoWire => sendCdb s r
  | .mspi => { s with cmd := { s.cmd with mspiQ := s.cmd.mspiQ ++ [r] } }
  | .inband =>
    let tag := match findSession s (sessionOf rq) with
      | some x => toBE 16 (tagOf x.key (replyBytes r))
      | none => []
    sendInband s rq.port rq.src rq.vlan (replyBytes r) tag

def isNotice (r : Reply) : Bool := hasBit r.flags 0

/-- Put flags bit 4 on the first notice of a queue (R72). -/
def markFirst : List Reply → List Reply
  | [] => []
  | r :: t => if isNotice r then { r with flags := setBit r.flags 4 true } :: t else r :: markFirst t

/-- Drop the first notice of a queue. -/
def dropFirst : List Reply → List Reply
  | [] => []
  | r :: t => if isNotice r then t else r :: dropFirst t

/-- The journal index of the first notice of a queue. -/
def firstNotice (q : List Reply) : Nat :=
  match q.find? isNotice with
  | some r => r.journal
  | none => 0

/-- A queue with one more notice: beyond 32 pending the oldest is discarded, the next carries bit 4. -/
def pushNotice (q : List Reply) (r : Reply) : List Reply × Bool :=
  if (q.filter isNotice).length ≥ 32 then (markFirst (dropFirst q) ++ [r], true) else (q ++ [r], false)

/-- The in-band notices that have not been sent, over all ports: place, notice, session (R72). -/
def inbandNotices (s : Hw) : List (Nat × Reply × Nat) :=
  (List.range 8).flatMap fun p => (Map.get {} s.host.ports p).q.filterMap TxFrame.note

/-- The oldest of some in-band notices. -/
def oldestNote (l : List (Nat × Reply × Nat)) : Option (Nat × Reply × Nat) :=
  l.foldl (fun m x => match m with
    | none => some x
    | some y => if x.1 < y.1 then some x else some y) none

/-- The frame of an in-band notice, for its session as it stands. -/
def noticeFrame (s : Hw) (x : Session) (n : Nat) (r : Reply) : TxFrame :=
  { came := s.dtime, timed := false, flow := 0, grp := 2, note := some (n, r, x.num),
    bytes := cmdFrame s x.src x.vlan (replyBytes r) (toBE 16 (tagOf x.key (replyBytes r))) }

/-- Every frame in the ports' queues, changed or dropped. -/
def mapFrames (s : Hw) (f : TxFrame → Option TxFrame) : Hw :=
  (List.range 8).foldl (fun s p => updPort s p fun x => { x with q := x.q.filterMap f }) s

/-- The oldest in-band notice is discarded, and the one after it carries flags bit 4. -/
def dropInband (s : Hw) : Hw :=
  match oldestNote (inbandNotices s) with
  | none => s
  | some (n, _, _) =>
    let next := (oldestNote ((inbandNotices s).filter fun x => x.1 != n)).map (·.1)
    mapFrames s fun f => match f.note with
      | none => some f
      | some (k, r, sess) =>
        if k = n then none
        else if some k = next then
          match findSession s sess with
          | some x => some (noticeFrame s x k { r with flags := setBit r.flags 4 true })
          | none => some f
        else some f

/-- A notice was discarded on a route: CMD_INT_STATUS.lost and event 0x0004. -/
def noticeLost (s : Hw) (route index : Nat) : Hw := (s.setFld CMD_INT_STATUS_lost 1).raise 0x0004 [route, index]

/-- Queue a completion notice on a route (R71, R72). Each route holds at most 32 that are pending: on the two-wire port until
NOTICE_FETCH, on MSPI until a read frame, in-band until the frame has left on its port. -/
def notify (s : Hw) (route : Route) (sess : Nat) (r : Reply) : Hw :=
  let r := { r with payload := [], flags := setBit r.flags 0 true }
  match route with
  | .inband =>
    match findSession s sess with
    | none => s
    | some x =>
      let held := inbandNotices s
      let full := decide (held.length ≥ 32)
      let old := match oldestNote held with
        | some (_, r, _) => r.journal
        | none => 0
      let s := s.cond full fun s => noticeLost (dropInband s) 2 old
      let n := s.cmd.noteN
      let s : Hw := { s with cmd := { s.cmd with noteN := n + 1 } }
      updPort s x.port fun q => { q with q := q.q ++ [noticeFrame s x n r] }
  | .twoWire =>
    let (q, lost) := pushNotice s.cmd.notices r
    let old := firstNotice s.cmd.notices
    let s := { s with cmd := { s.cmd with notices := q } }
    s.cond lost fun s => noticeLost s 0 old
  | .mspi =>
    let (q, lost) := pushNotice s.cmd.mspiQ r
    let old := firstNotice s.cmd.mspiQ
    let s := { s with cmd := { s.cmd with mspiQ := q } }
    s.cond lost fun s => noticeLost s 1 old

/-- Keep a reply among the session's last 16 (R59); a reply to sequence number 0 is not kept (R60). -/
def keepReply (s : Hw) (opc : Nat) (rq : Request) (r : Reply) : Hw :=
  if rq.seq = 0 then s
  else updSession s (sessionOf rq) fun x =>
    let l := x.replies ++ [⟨rq.seq, opc, digestOf rq.params, r⟩]
    { x with replies := l.drop (l.length - 16) }

/-- A request completes AUTH: CMD_INT_STATUS.auth and event 0x0001 (R73, R85). -/
def tellAuth (s : Hw) (route : Route) (sess status detail : Nat) : Hw :=
  s.cond (status == stAUTH) fun s => (s.setFld CMD_INT_STATUS_auth 1).raise 0x0001 [routeCode route, sess, detail]

/-- The first reply of a request, delivered and kept; to a validate-only request it has flags bit 1 set (R52). -/
def answer (s : Hw) (opc : Nat) (rq : Request) (status detail : Nat) (payload : Bytes := []) (index : Nat := 0)
    (keep : Bool := true) : Hw :=
  let s := tellAuth s rq.route (sessionOf rq) status detail
  let r : Reply := ⟨opc, rq.seq, status, if hasBit rq.flags 1 then 2 else 0, detail, index, payload⟩
  let s := s.cond keep fun s => keepReply s opc rq r
  deliver s rq r

/-! ### The journal (R75 to R80) -/

/-- The entry's first 60 bytes and its CRC (Table 02-8). Of an entry whose CRC fails the spec states the status byte, 0xFF: bytes 60 to
63 hold the CRC of the entry as it is returned (DESIGN CHOICE: log entry 105). -/
def entryBytes (e : JEntry) : Bytes :=
  let b := toBE 4 e.index ++ toBE 1 e.epoch ++ toBE 1 (if e.crcOk then e.status else 0xFF) ++ toBE 2 e.opcode ++
    toBE 4 e.seq ++ toBE 2 e.session ++ toBE 1 (e.route * 16 + e.level) ++
    toBE 1 ((if e.nv then 1 else 0) + (if e.notice then 2 else 0) + (if e.afterReset then 4 else 0)) ++
    toBE 8 e.accept ++ toBE 8 e.complete ++ toBE 4 e.pcc ++ toBE 2 e.detail ++ toBE 2 e.plen ++
    toBE 16 e.digest ++ zeros 4
  b ++ toBE 4 (crc32 b)

/-- The next index and epoch (R77): never 0; after the largest index the epoch rises. -/
def nextIndex (epoch index : Nat) : Nat × Nat :=
  if index ≥ 0xFFFFFFFF then ((epoch + 1) % 256, 1) else (epoch, index + 1)

/-- Size of the RAM tier (02, R78). -/
def ramTier : Nat := 65536
def nvTier : Nat := 16384

/-- Would a new entry overwrite a pending one (R78)? -/
def oldestPending (s : Hw) : Bool :=
  match s.cmd.journal with
  | e :: _ => decide (s.cmd.journal.length ≥ ramTier) && e.status == stACCEPTED
  | [] => false

/-- Have 1000 NV tier commits started in the preceding 1 s (R80)? -/
def nvRate (s : Hw) : Bool := decide ((s.nv.starts.filter fun t => s.dtime < t + 10 ^ 9).length ≥ 1000)

/-- The pending entry of a command accepted now (R75, R76). -/
def newEntry (s : Hw) (opc : Nat) (nv : Bool) (route : Nat) (rq : Request) (sess level : Nat) : JEntry :=
  let (epoch, index) := nextIndex s.cmd.epoch s.cmd.index
  { index := index, epoch := epoch, status := stACCEPTED, opcode := opc, seq := rq.seq, session := sess, route := route,
    level := level, nv := nv, notice := hasBit rq.flags 0, accept := s.dtime, pcc := s.num EVR_PCC,
    plen := rq.params.length, digest := digestOf rq.params }

/-- Create the entry; the oldest is overwritten when the RAM tier is full (R78). -/
def addEntry (s : Hw) (e : JEntry) : Hw :=
  let j := s.cmd.journal ++ [e]
  { s.pmc 0x091 with cmd := { s.cmd with journal := j.drop (j.length - ramTier), epoch := e.epoch, index := e.index }
                     nv := { s.nv with epoch := e.epoch } }

/-- Fill in status, detail and complete DTIME of the entry with this index (R75). -/
def closeEntry (s : Hw) (index status detail : Nat) (afterReset : Bool := false) : Hw :=
  { s with cmd := { s.cmd with journal := s.cmd.journal.map fun e =>
      if e.index = index ∧ e.complete = 0 then
        { e with status := status, detail := detail, complete := s.dtime, afterReset := afterReset || e.afterReset }
      else e } }

def findEntry (s : Hw) (index : Nat) : Option JEntry := s.cmd.journal.find? (·.index == index)

/-- Is it the same row of the repair map? -/
def sameRow (a b : RepairRow) : Bool := a.mem == b.mem && a.bank == b.bank && a.row == b.row

/-- What a command that took the state from `b` to `e` would have to give back. -/
def undoOf (b e : Hw) : Undo :=
  { ident := if e.nv.ident = b.nv.ident then none else some (b.nv.ident, e.nv.ident)
    erased := if e.nv.ring.isEmpty then b.nv.ring else []
    rows := e.nv.repair.filter fun r => !b.nv.repair.any (sameRow r)
    passed := b.nv.unver - (b.nv.unver &&& e.nv.unver) }

/-- The commit that a complete RAM+NV command starts (R79, R562): its entry, and on OK its configuration objects. It is an
access to D19 (R22, R524). -/
def startCommit (s : Hw) (index : Nat) (objs : List (Nat × Bytes)) (undo : Undo) : Hw :=
  match findEntry s index with
  | none => s
  | some e =>
    let s := s.cond (!s.ready 19) fun s => s.access 19
    let i : NvItem := { entry := e, objs := if e.status = stOK then objs else [], undo := undo }
    { s with nv := { s.nv with items := s.nv.items ++ [i],
                               starts := (s.nv.starts.filter fun t => s.dtime < t + 10 ^ 9) ++ [s.dtime] } }

/-! ### The checks of R51 -/

/-- Steps 1 to 3: length, header bits, session and tag. `open0` says that the opcode opens sessions (R65), for which
session 0 is served in-band without a session and a tag. -/
def headCheck (s : Hw) (opc : Nat) (rq : Request) : Option (Nat × Nat) :=
  let open0 := rq.route == .inband && rq.session == 0 && (opc == 0x0008 || opc == 0x0009)
  if rq.length > routeMax rq.route then some (stBAD_LENGTH, routeMax rq.route)
  else if rq.length ≠ rq.params.length then some (stBAD_LENGTH, rq.params.length)
  else if rq.flags ≥ 4 ∨ rq.resv ≠ 0 ∨ rq.level > 3 then some (stRANGE, 0)
  else if open0 then none
  else if !usable s rq then some (stAUTH, 5)
  else if rq.route == .inband then
    match findSession s (sessionOf rq) with
    | some x => if tagOf x.key (headerBytes opc rq ++ rq.params) = rq.tag then none else some (stAUTH, 1)
    | none => some (stAUTH, 5)
  else none

/-- Is `q` newer than a session's high mark (R58)? -/
def newer (mark : Option Nat) (q : Nat) : Bool :=
  match mark with
  | none => q != 0
  | some h => let d := (q + 2 ^ 32 - h) % 2 ^ 32; decide (1 ≤ d ∧ d ≤ 2 ^ 31 - 1)

/-- Does a nonce stand (R64)? -/
def nonceLive (s : Hw) (x : Session) : Bool :=
  match x.nonce with
  | some (_, t) => decide (s.dtime ≤ t + 10 ^ 10)
  | none => false

/-- The owner key slot `k` (R567). -/
def keySlot (s : Hw) (k : Nat) : Option KeySlot := if k < 4 then Map.get none s.nv.ident.slots k else none

/-- The signature trailer of a Maintainer request (step 6 of R51, R63): the AUTH detail of its first failure. -/
def trailerCheck (s : Hw) (opc : Nat) (rq : Request) : Option Nat :=
  let n := rq.params.length - 100
  let body := rq.params.take n
  let tr := rq.params.drop n
  match keySlot s (u8 tr 0) with
  | none => some 4
  | some k =>
    match findSession s (sessionOf rq) with
    | none => some 3
    | some x =>
      if !nonceLive s x then some 3
      else
        let nonce := match x.nonce with
          | some (v, _) => toBE 32 v
          | none => []
        if un tr 1 3 ≠ 0 ∨ !ecdsaVerify k.key (sha384 (headerBytes opc rq ++ body ++ nonce)) (tr.drop 4)
        then some 2 else none

/-- The level granted to a request: an implicit session's Maintainer request has the level of the key slot that signed
it, every other request its session's level (R42, R62, R63). -/
def granted (s : Hw) (rq : Request) : Nat :=
  match findSession s (sessionOf rq) with
  | none => rq.level
  | some x =>
    if x.num ≥ 0xFFF0 ∧ rq.level = 2 ∧ rq.params.length ≥ 100 then
      match keySlot s (u8 rq.params (rq.params.length - 100)) with
      | some k => max x.level k.level
      | none => x.level
    else x.level

/-- The parameters before the trailer. -/
def coreParams (rq : Request) : Bytes :=
  if rq.level = 2 then rq.params.take (rq.params.length - 100) else rq.params

/-- The length of the trailer that counts in the length field (R63). -/
def trailerLen (rq : Request) : Nat := if rq.level = 2 then 100 else 0

/-- Does the level granted come from the key slot that signed, as in a Maintainer request of an implicit session? It is judged once
the trailer has verified; every other request's level is judged before (step 6 of R51). -/
def byKey (rq : Request) : Bool := rq.level == 2 && decide (sessionOf rq ≥ 0xFFF0)

/-- Steps 5 to 8. Table 02-4's "level required" of an ACCESS is the opcode's level where the claimed level falls short of it; where
the claimed level exceeds the one granted it is the claimed level (DESIGN CHOICE: log entry 92). -/
def opCheck (s : Hw) (op : OpSpec) (rq : Request) : Option (Nat × Nat) :=
  let lvl := op.levelOf s rq
  let tl := trailerLen rq
  let n := rq.params.length
  let signed := rq.level == 2 && decide (n ≥ 100)
  if rq.level = 3 then some (stACCESS, 3)
  else if lvl > rq.level then some (stACCESS, lvl)
  else if !byKey rq && decide (rq.level > granted s rq) then some (stACCESS, rq.level)
  else match (if signed then trailerCheck s op.opcode rq else none) with
  | some d => some (stAUTH, d)
  | none =>
    if signed && decide (rq.level > granted s rq) then some (stACCESS, 2)
    else if n < op.fixed + tl then some (stBAD_LENGTH, op.fixed + tl)
    else if n > op.maxLen + tl then some (stBAD_LENGTH, op.maxLen + tl)
    else match op.implied (coreParams rq) with
    | .error k => some (stRANGE, k)
    | .ok l =>
      if n ≠ l + tl then some (stBAD_LENGTH, l + tl)
      else match op.check s (coreParams rq) with
      | some k => some (stRANGE, k)
      | none => none

/-- The first Maintainer request of a session uses its nonce up, whether or not it verifies, has a trailer or names an assigned
opcode (R64). One that only validates does too (DESIGN CHOICE: log entry 92). -/
def useNonce (s : Hw) (rq : Request) : Hw :=
  if rq.level = 2 then updSession s (sessionOf rq) fun x => { x with nonce := none } else s

/-- Is the command accepted, still running and in the subsystem of `op` (R56)? -/
def clashes (s : Hw) (op : OpSpec) (p : Bytes) : Bool :=
  s.cmd.running.any fun r =>
    r.index != 0 && r.opcode / 256 == op.opcode / 256 && !op.conc s p r

/-- A domain reset in progress (R36, R39). -/
def resettingDomain (s : Hw) : Bool := (List.range 20).any fun d => s.domState d == 1 && (s.dom d).cause == 6

/-- Does the command ask for a reset while one of equal or wider scope has been asked for or is in progress (R39)? -/
def resetBusy (s : Hw) (opc : Nat) : Bool :=
  match opc with
  | 0x0020 => s.pwr.resetting != 0
  | 0x0021 => s.pwr.resetting == 4
  | 0x0205 => resettingDomain s || s.pwr.resetting != 0
  | _ => false

/-- Refusals before acceptance (step 9 of R51; R571): these make no journal entry. -/
def refusal (s : Hw) (op : OpSpec) (p : Bytes) : Option (Nat × Nat) :=
  if s.phase = .recovery ∧ !([0x0001, 0x0004, 0x0005, 0x0101, 0x010C, 0x0107, 0x0108].contains op.opcode) then
    some (stCONDITIONS, 1)
  else if op.journal = 0 then (if op.busy s p then some (stBUSY, 3) else none)
  else if resetBusy s op.opcode then some (stBUSY, 2)
  else if clashes s op p || op.busy s p then some (stBUSY, 3)
  else if op.journal = 2 ∧ nvRate s then some (stBUSY, 4)
  else if oldestPending s then some (stBUSY, 5)
  else none

/-! ### Execution -/

/-- What keeps an accepted command from its effect: the shut state (R544), and D19 fenced for an effect in non-volatile memory
(R563). The command is journaled with this status (R51, R75). -/
def barred (s : Hw) (op : OpSpec) : Option (Nat × Nat) :=
  if s.phase = .shut ∧ op.level ≥ 1 then some (stREFUSED, 0x0201)
  else if op.journal = 2 ∧ s.fenced 19 then some (stFENCED, 19)
  else none

/-- Does an accepted command still wait to take effect: for domains, for the fabric, or for an automatic raise that steps (R117)? -/
def RunCmd.before (s : Hw) (r : RunCmd) : Bool :=
  r.outcome.isNone && match r.wait with
    | .domains _ => true
    | .wakingRead _ => true
    | .words _ => true
    | .opMove => s.pwr.move.any VMove.auto
    | _ => false

/-- Does a journaled command with a lower index still wait to take effect (R57)? `idx` is 0 for a command without entry. -/
def mustWait (s : Hw) (idx : Nat) : Bool :=
  idx != 0 && (s.cmd.running.takeWhile fun r => r.index != idx).any fun r => r.index != 0 && r.before s

/-- Run the body once no domain it touches stands in the way: a fenced domain completes FENCED (R24), a sleeping one is
woken and waited for (R22); and, for a journaled command, once those before it have taken effect (R57). -/
def runBody (s : Hw) (op : OpSpec) (c : Call) : Res :=
  match barred s op with
  | some (st, det) => .refuse st det s
  | none =>
    let ds := op.doms s c.p
    match ds.find? s.fenced with
    | some d => .refuse stFENCED d s
    | none =>
      let asleep := ds.filter fun d => !s.ready d
      if op.own then op.body s c
      else if asleep.isEmpty && !mustWait s c.idx then op.body s c
      else .wait (.domains asleep) (s.each asleep fun d s => s.access d)

/-- The limit of R47 on an in-band reply payload. -/
def tooLong (rq : Request) (payload : Bytes) : Bool := rq.route == .inband && decide (payload.length > 1456)

/-- The objects a command writes when it completes OK, each with the command's parameters as its content (R605); that of
MCV_SEQ_STORE is the sequence table (R471). -/
def objList (s : Hw) (op : OpSpec) (p : Bytes) : List (Nat × Bytes) :=
  (op.objs p).map fun i => (op.opcode * 65536 + i, if op.opcode = 0x1103 then s.words (MCV_SEQ 0 0) 512 else p)

/-- What the journal and the non-volatile memory take from a final status (R75, R79). -/
def record (s : Hw) (op : OpSpec) (p : Bytes) (index status detail : Nat) (undo : Undo := {}) : Hw :=
  let s := s.cond (op.journal != 0) fun s => closeEntry s index status detail
  s.cond (op.journal == 2) fun s => startCommit s index (objList s op p) undo

/-- Execute an accepted request, or one whose opcode is not journaled. -/
def execute (s : Hw) (op : OpSpec) (rq : Request) : Hw :=
  let p := coreParams rq
  let sess := sessionOf rq
  let e := newEntry s op.opcode (op.journal == 2) (routeCode rq.route) rq sess rq.level
  let idx := if op.journal = 0 then 0 else e.index
  let s := s.cond (op.journal != 0) fun s => addEntry s e
  match runBody s op ⟨rq, p, sess, idx⟩ with
  | .done st det pl s' =>
    if tooLong rq pl then answer s op.opcode rq stBAD_LENGTH 1456
    else answer (record s' op p idx st det (undoOf s s')) op.opcode rq st det pl idx
  | .wait w s' =>
    { s' with cmd := { s'.cmd with
        nextId := s'.cmd.nextId + 1
        running := s'.cmd.running ++
          [{ id := s'.cmd.nextId, opcode := op.opcode, req := rq, session := sess, recv := s'.dtime, index := idx,
             wait := w }] } }

/-- Is the sequence number one that R60 lets through without comparison? -/
def seqFree (op : Option OpSpec) (rq : Request) : Bool :=
  rq.seq == 0 && (match op with
    | some o => o.journal == 0
    | none => true)

/-- Is the part command-ready (R37, R86)? -/
def Hw.takesCommands (s : Hw) : Bool :=
  match s.phase with
  | .ready => true
  | .recovery => true
  | .shut => true
  | _ => false

/-! ### The end of a command (R54, R55, R71) -/

def setOutcome (s : Hw) (hit : RunCmd → Bool) (status detail : Nat) (payload : Bytes := []) : Hw :=
  { s with cmd := { s.cmd with running := s.cmd.running.map fun r =>
      if (hit r && r.outcome.isNone) = true then { r with outcome := some (status, detail, payload) } else r } }

/-- Is some accepted command waiting for `hit`? -/
def waiting (s : Hw) (hit : RunCmd → Bool) : Bool := s.cmd.running.any fun r => hit r && r.outcome.isNone

/-- ACCEPTED, 5 ms after receipt, for the first journaled command that has not replied (R55). -/
def acceptOne (s : Hw) : Hw :=
  match s.cmd.running.find? fun r =>
      !r.replied && r.index != 0 && r.outcome.isNone && decide (r.recv + 5000000 ≤ s.dtime) with
  | none => s
  | some r =>
    let s := { s with cmd := { s.cmd with running := s.cmd.running.map fun x =>
      if x.id = r.id then { x with replied := true } else x } }
    answer s r.opcode r.req stACCEPTED 0 [] r.index

/-- The final status of a command leaves: its journal entry is completed, and it replies, or, where it has replied
ACCEPTED, a completion notice is queued if one was asked for (R71). -/
def retire (s : Hw) (op : OpSpec) (r : RunCmd) (st det : Nat) (pl : Bytes) (undo : Undo := {}) : Hw :=
  let s := { s with cmd := { s.cmd with running := s.cmd.running.filter fun x => x.id != r.id }
                    pwr := { s.pwr with lehrUndo := if r.opcode = 0x0206 then {} else s.pwr.lehrUndo } }
  let s := record s op (coreParams r.req) r.index st det undo
  let rep : Reply := ⟨r.opcode, r.req.seq, st, 0, det, r.index, pl⟩
  if r.replied then
    (tellAuth s r.req.route r.session st det).cond (hasBit r.req.flags 0) fun s => notify s r.req.route r.session rep
  else answer s r.opcode r.req st det pl r.index

/-- The domain that a waiting command names in a TIMEOUT (Table 02-4): the first that it still waits for. -/
def timeoutDetail (s : Hw) (r : RunCmd) : Nat :=
  match r.wait with
  | .domains ds => (ds.find? fun d => !s.ready d).getD 0xFFFF
  | .wake mask analog _ => ((bitsOf 20 mask).find? fun d => !s.ready d || (analog && !s.flag (PWR_DOM_analog d))).getD 0xFFFF
  | .wakingRead _ => (addrDomain (u32 r.req.params 0)).getD 0xFFFF
  | .words _ => (addrDomain (u32 r.req.params 0)).getD 0xFFFF
  | _ => 0xFFFF

end Sys2Proof.Machine
end

