-- ==== Sys2Proof/Machine/Heads.lean ====
section
/-!
DEFINITION. The rows of the chapters' command tables: opcode, level (0 Observer, 1 Operator, 2 Maintainer), maximum
completion time in ms, journal column (0 no, 1 RAM, 2 RAM and NV).
-/
namespace Sys2Proof.Machine

/-- ECHO (R70 and the chapter's opcode table). -/
def headEcho : OpHead := ⟨0x0001, 0, 1, 0⟩
/-- READ_WORDS (R70 and the chapter's opcode table). -/
def headReadWords : OpHead := ⟨0x0002, 0, 50, 0⟩
/-- WRITE_WORDS (R70 and the chapter's opcode table). -/
def headWriteWords : OpHead := ⟨0x0003, 1, 50, 1⟩
/-- GET_INFO (R70 and the chapter's opcode table). -/
def headGetInfo : OpHead := ⟨0x0004, 0, 2, 0⟩
/-- GET_NONCE (R70 and the chapter's opcode table). -/
def headGetNonce : OpHead := ⟨0x0005, 0, 2, 0⟩
/-- SESSION_OPEN_1 (R70 and the chapter's opcode table). -/
def headSessionOpen1 : OpHead := ⟨0x0008, 0, 200, 1⟩
/-- SESSION_OPEN_2 (R70 and the chapter's opcode table). -/
def headSessionOpen2 : OpHead := ⟨0x0009, 0, 200, 1⟩
/-- SESSION_CLOSE (R70 and the chapter's opcode table). -/
def headSessionClose : OpHead := ⟨0x000A, 0, 2, 1⟩
/-- SESSION_STATUS (R70 and the chapter's opcode table). -/
def headSessionStatus : OpHead := ⟨0x000B, 0, 2, 0⟩
/-- NOTICE_FETCH (R70 and the chapter's opcode table). -/
def headNoticeFetch : OpHead := ⟨0x0010, 0, 2, 0⟩
/-- JOURNAL_INFO (R70 and the chapter's opcode table). -/
def headJournalInfo : OpHead := ⟨0x0018, 0, 2, 0⟩
/-- JOURNAL_READ (R70 and the chapter's opcode table). -/
def headJournalRead : OpHead := ⟨0x0019, 0, 20, 0⟩
/-- JOURNAL_SYNC (R70 and the chapter's opcode table). -/
def headJournalSync : OpHead := ⟨0x001A, 1, 40, 0⟩
/-- MGMT_RESET (R70 and the chapter's opcode table). -/
def headMgmtReset : OpHead := ⟨0x0020, 1, 2, 1⟩
/-- WARM_RESET (R70 and the chapter's opcode table). -/
def headWarmReset : OpHead := ⟨0x0021, 2, 2, 2⟩
/-- INBAND_CONFIG (R70 and the chapter's opcode table). -/
def headInbandConfig : OpHead := ⟨0x0030, 2, 40, 2⟩
/-- PWR_PACE_SET (R70 and the chapter's opcode table). -/
def headPwrPaceSet : OpHead := ⟨0x0210, 1, 1, 1⟩
/-- PWR_OP_SET (R70 and the chapter's opcode table). -/
def headPwrOpSet : OpHead := ⟨0x0211, 1, 5, 1⟩
/-- PWR_OP_MOVE (R70 and the chapter's opcode table). -/
def headPwrOpMove : OpHead := ⟨0x0212, 1, 6, 1⟩
/-- PWR_FLOOR_SET (R70 and the chapter's opcode table). -/
def headPwrFloorSet : OpHead := ⟨0x0213, 1, 20, 1⟩
/-- PWR_SPEED_CFG (R70 and the chapter's opcode table). -/
def headPwrSpeedCfg : OpHead := ⟨0x0214, 1, 1, 1⟩
/-- PWR_SPEED_READ (R70 and the chapter's opcode table). -/
def headPwrSpeedRead : OpHead := ⟨0x0215, 0, 1, 0⟩
/-- PWR_TIME_READ (R70 and the chapter's opcode table). -/
def headPwrTimeRead : OpHead := ⟨0x0216, 0, 1, 0⟩
/-- LTX_CONFIG (R70 and the chapter's opcode table). -/
def headLtxConfig : OpHead := ⟨0x0301, 1, 10, 1⟩
/-- LTX_TAP_SET (R70 and the chapter's opcode table). -/
def headLtxTapSet : OpHead := ⟨0x0302, 1, 10, 1⟩
/-- LTX_LEVELS_SET (R70 and the chapter's opcode table). -/
def headLtxLevelsSet : OpHead := ⟨0x0303, 1, 10, 1⟩
/-- LTX_PD_LOAD (R70 and the chapter's opcode table). -/
def headLtxPdLoad : OpHead := ⟨0x0304, 1, 10, 1⟩
/-- LRX_CONFIG (R70 and the chapter's opcode table). -/
def headLrxConfig : OpHead := ⟨0x0401, 1, 10, 1⟩
/-- LRX_ADAPT_SET (R70 and the chapter's opcode table). -/
def headLrxAdaptSet : OpHead := ⟨0x0402, 1, 10, 1⟩
/-- LRX_EQ_SET (R70 and the chapter's opcode table). -/
def headLrxEqSet : OpHead := ⟨0x0403, 1, 10, 1⟩
/-- LRX_EQ_READ (R70 and the chapter's opcode table). -/
def headLrxEqRead : OpHead := ⟨0x0404, 0, 10, 0⟩
/-- LRX_MEAS_READ (R70 and the chapter's opcode table). -/
def headLrxMeasRead : OpHead := ⟨0x0405, 0, 10, 0⟩
/-- LRX_HIST_RUN (R70 and the chapter's opcode table). -/
def headLrxHistRun : OpHead := ⟨0x0406, 1, 30, 1⟩
/-- LRX_HIST_READ (R70 and the chapter's opcode table). -/
def headLrxHistRead : OpHead := ⟨0x0407, 0, 10, 0⟩
/-- LRX_GTH_SELECT (R70 and the chapter's opcode table). -/
def headLrxGthSelect : OpHead := ⟨0x0408, 1, 2, 1⟩
/-- LRX_STORE_LIST (R70 and the chapter's opcode table). -/
def headLrxStoreList : OpHead := ⟨0x0410, 0, 20, 0⟩
/-- LRX_STORE_SAVE (R70 and the chapter's opcode table). -/
def headLrxStoreSave : OpHead := ⟨0x0411, 1, 40, 2⟩
/-- LRX_STORE_ERASE (R70 and the chapter's opcode table). -/
def headLrxStoreErase : OpHead := ⟨0x0412, 1, 40, 2⟩
/-- LRX_SEED_LOAD (R70 and the chapter's opcode table). -/
def headLrxSeedLoad : OpHead := ⟨0x0413, 1, 40, 2⟩
/-- LFM_CONFIG (R70 and the chapter's opcode table). -/
def headLfmConfig : OpHead := ⟨0x0501, 1, 10, 2⟩
/-- LFM_STATUS_READ (R70 and the chapter's opcode table). -/
def headLfmStatusRead : OpHead := ⟨0x0502, 0, 2, 0⟩
/-- LFM_COUNT_READ (R70 and the chapter's opcode table). -/
def headLfmCountRead : OpHead := ⟨0x0503, 0, 2, 0⟩
/-- LNK_CONFIG (R70 and the chapter's opcode table). -/
def headLnkConfig : OpHead := ⟨0x0601, 1, 10, 2⟩
/-- LNK_UP (R70 and the chapter's opcode table). -/
def headLnkUp : OpHead := ⟨0x0602, 1, 2, 1⟩
/-- LNK_DOWN (R70 and the chapter's opcode table). -/
def headLnkDown : OpHead := ⟨0x0603, 1, 2, 1⟩
/-- LNK_RESTART (R70 and the chapter's opcode table). -/
def headLnkRestart : OpHead := ⟨0x0604, 1, 2, 1⟩
/-- LNK_STATUS_READ (R70 and the chapter's opcode table). -/
def headLnkStatusRead : OpHead := ⟨0x0605, 0, 2, 0⟩
/-- LNK_LANE_REJOIN (R70 and the chapter's opcode table). -/
def headLnkLaneRejoin : OpHead := ⟨0x0606, 1, 2, 1⟩
/-- LNK_WAKE_CONFIG (R70 and the chapter's opcode table). -/
def headLnkWakeConfig : OpHead := ⟨0x0607, 1, 10, 2⟩
/-- HSL_EQ_SET (R70 and the chapter's opcode table). -/
def headHslEqSet : OpHead := ⟨0x0701, 1, 10, 2⟩
/-- HSL_STATUS_READ (R70 and the chapter's opcode table). -/
def headHslStatusRead : OpHead := ⟨0x0702, 0, 2, 0⟩
/-- HSL_CONFIG (R70 and the chapter's opcode table). -/
def headHslConfig : OpHead := ⟨0x0703, 1, 10, 2⟩
/-- HPC_PORT_SET (R70 and the chapter's opcode table). -/
def headHpcPortSet : OpHead := ⟨0x0801, 1, 20, 2⟩
/-- HPC_PORT_READ (R70 and the chapter's opcode table). -/
def headHpcPortRead : OpHead := ⟨0x0802, 0, 2, 0⟩
/-- HPC_COUNT_READ (R70 and the chapter's opcode table). -/
def headHpcCountRead : OpHead := ⟨0x0803, 0, 2, 0⟩
/-- HPC_PTP_CONFIG (R70 and the chapter's opcode table). -/
def headHpcPtpConfig : OpHead := ⟨0x0804, 1, 10, 2⟩
/-- FLW_INIT (R70 and the chapter's opcode table). -/
def headFlwInit : OpHead := ⟨0x0901, 1, 60, 1⟩
/-- FLW_INSERT (R70 and the chapter's opcode table). -/
def headFlwInsert : OpHead := ⟨0x0902, 1, 10, 1⟩
/-- FLW_MODIFY (R70 and the chapter's opcode table). -/
def headFlwModify : OpHead := ⟨0x0903, 1, 10, 1⟩
/-- FLW_DELETE (R70 and the chapter's opcode table). -/
def headFlwDelete : OpHead := ⟨0x0904, 1, 25, 1⟩
/-- FLW_LOOKUP (R70 and the chapter's opcode table). -/
def headFlwLookup : OpHead := ⟨0x0905, 0, 2, 0⟩
/-- FLW_READ (R70 and the chapter's opcode table). -/
def headFlwRead : OpHead := ⟨0x0906, 0, 5, 0⟩
/-- FLW_STATUS_READ (R70 and the chapter's opcode table). -/
def headFlwStatusRead : OpHead := ⟨0x0907, 0, 2, 0⟩
/-- TDS_ADMIT (R70 and the chapter's opcode table). -/
def headTdsAdmit : OpHead := ⟨0x0A01, 1, 20, 1⟩
/-- TDS_WITHDRAW (R70 and the chapter's opcode table). -/
def headTdsWithdraw : OpHead := ⟨0x0A02, 1, 20, 1⟩
/-- TDS_CONFIG (R70 and the chapter's opcode table). -/
def headTdsConfig : OpHead := ⟨0x0A03, 1, 20, 2⟩
/-- TDS_DELAY_SET (R70 and the chapter's opcode table). -/
def headTdsDelaySet : OpHead := ⟨0x0A04, 1, 10, 2⟩
/-- TDS_BUF_CONFIG (R70 and the chapter's opcode table). -/
def headTdsBufConfig : OpHead := ⟨0x0A05, 1, 10, 2⟩
/-- TDS_STATUS_READ (R70 and the chapter's opcode table). -/
def headTdsStatusRead : OpHead := ⟨0x0A06, 0, 2, 0⟩
/-- RDN_CONFIG (R70 and the chapter's opcode table). -/
def headRdnConfig : OpHead := ⟨0x0B01, 1, 10, 2⟩
/-- RDN_LANE_SET (R70 and the chapter's opcode table). -/
def headRdnLaneSet : OpHead := ⟨0x0B02, 1, 5, 1⟩
/-- RDN_REVERT (R70 and the chapter's opcode table). -/
def headRdnRevert : OpHead := ⟨0x0B03, 1, 2, 1⟩
/-- RDN_STATUS_READ (R70 and the chapter's opcode table). -/
def headRdnStatusRead : OpHead := ⟨0x0B04, 0, 2, 0⟩
/-- RDN_FAULT_INJECT (R70 and the chapter's opcode table). -/
def headRdnFaultInject : OpHead := ⟨0x0B05, 2, 2, 1⟩
/-- FES_CONFIG (R70 and the chapter's opcode table). -/
def headFesConfig : OpHead := ⟨0x0D01, 1, 10, 2⟩
/-- FES_STATE_SET (R70 and the chapter's opcode table). -/
def headFesStateSet : OpHead := ⟨0x0D02, 1, 6100, 1⟩
/-- FES_STEP_SET (R70 and the chapter's opcode table). -/
def headFesStepSet : OpHead := ⟨0x0D03, 1, 5, 1⟩
/-- FES_TABLE_LOAD (R70 and the chapter's opcode table). -/
def headFesTableLoad : OpHead := ⟨0x0D04, 1, 10, 1⟩
/-- FES_HOOK_LOAD (R70 and the chapter's opcode table). -/
def headFesHookLoad : OpHead := ⟨0x0D05, 1, 10, 2⟩
/-- FES_SPI_XFER (R70 and the chapter's opcode table). -/
def headFesSpiXfer : OpHead := ⟨0x0D06, 1, 5, 1⟩
/-- FES_TURN (R70 and the chapter's opcode table). -/
def headFesTurn : OpHead := ⟨0x0D07, 1, 1, 1⟩
/-- FES_FAULT_CLEAR (R70 and the chapter's opcode table). -/
def headFesFaultClear : OpHead := ⟨0x0D08, 1, 2, 1⟩
/-- FES_STATUS_READ (R70 and the chapter's opcode table). -/
def headFesStatusRead : OpHead := ⟨0x0D09, 0, 2, 0⟩
/-- BRC_CONFIG (R70 and the chapter's opcode table). -/
def headBrcConfig : OpHead := ⟨0x0E01, 1, 10, 2⟩
/-- BRC_STAGE_CONFIG (R70 and the chapter's opcode table). -/
def headBrcStageConfig : OpHead := ⟨0x0E02, 1, 10, 2⟩
/-- BRC_CAL_SET (R70 and the chapter's opcode table). -/
def headBrcCalSet : OpHead := ⟨0x0E03, 1, 10, 2⟩
/-- BRC_UNMUTE (R70 and the chapter's opcode table). -/
def headBrcUnmute : OpHead := ⟨0x0E04, 1, 2, 1⟩
/-- BRC_QUIET_SEND (R70 and the chapter's opcode table). -/
def headBrcQuietSend : OpHead := ⟨0x0E05, 1, 2, 1⟩
/-- BRC_COEX_CONFIG (R70 and the chapter's opcode table). -/
def headBrcCoexConfig : OpHead := ⟨0x0E06, 1, 10, 2⟩
/-- BRC_COEX_REQ (R70 and the chapter's opcode table). -/
def headBrcCoexReq : OpHead := ⟨0x0E07, 1, 110, 1⟩
/-- BRC_STATUS_READ (R70 and the chapter's opcode table). -/
def headBrcStatusRead : OpHead := ⟨0x0E08, 0, 2, 0⟩
/-- CLE_LOOP_CONFIG (R70 and the chapter's opcode table). -/
def headCleLoopConfig : OpHead := ⟨0x0F01, 1, 10, 2⟩
/-- CLE_COEF_LOAD (R70 and the chapter's opcode table). -/
def headCleCoefLoad : OpHead := ⟨0x0F02, 1, 10, 1⟩
/-- CLE_MODE_SET (R70 and the chapter's opcode table). -/
def headCleModeSet : OpHead := ⟨0x0F03, 1, 2, 1⟩
/-- CLE_SETPOINT (R70 and the chapter's opcode table). -/
def headCleSetpoint : OpHead := ⟨0x0F04, 1, 2, 1⟩
/-- CLE_REP_LOAD (R70 and the chapter's opcode table). -/
def headCleRepLoad : OpHead := ⟨0x0F05, 1, 20, 1⟩
/-- CLE_REP_READ (R70 and the chapter's opcode table). -/
def headCleRepRead : OpHead := ⟨0x0F06, 0, 10, 0⟩
/-- CLE_REP_RESET (R70 and the chapter's opcode table). -/
def headCleRepReset : OpHead := ⟨0x0F07, 1, 2, 1⟩
/-- CLE_LIA_CONFIG (R70 and the chapter's opcode table). -/
def headCleLiaConfig : OpHead := ⟨0x0F08, 1, 10, 2⟩
/-- CLE_TEST_START (R70 and the chapter's opcode table). -/
def headCleTestStart : OpHead := ⟨0x0F09, 1, 2, 1⟩
/-- CLE_TEST_STOP (R70 and the chapter's opcode table). -/
def headCleTestStop : OpHead := ⟨0x0F0A, 1, 2, 1⟩
/-- CLE_STATUS_READ (R70 and the chapter's opcode table). -/
def headCleStatusRead : OpHead := ⟨0x0F0B, 0, 2, 0⟩
/-- CLE_INIT (R70 and the chapter's opcode table). -/
def headCleInit : OpHead := ⟨0x0F0C, 1, 20, 1⟩
/-- AOU_WRITE (R70 and the chapter's opcode table). -/
def headAouWrite : OpHead := ⟨0x1001, 1, 2, 1⟩
/-- AOU_RANGE_SET (R70 and the chapter's opcode table). -/
def headAouRangeSet : OpHead := ⟨0x1002, 1, 2, 2⟩
/-- AOU_SAFE_SET (R70 and the chapter's opcode table). -/
def headAouSafeSet : OpHead := ⟨0x1003, 1, 10, 2⟩
/-- AOU_DITHER_SET (R70 and the chapter's opcode table). -/
def headAouDitherSet : OpHead := ⟨0x1004, 1, 2, 1⟩
/-- AOU_GEN_SET (R70 and the chapter's opcode table). -/
def headAouGenSet : OpHead := ⟨0x1005, 1, 2, 1⟩
/-- AOU_TABLE_LOAD (R70 and the chapter's opcode table). -/
def headAouTableLoad : OpHead := ⟨0x1006, 1, 10, 1⟩
/-- AOU_STATUS_READ (R70 and the chapter's opcode table). -/
def headAouStatusRead : OpHead := ⟨0x1007, 0, 2, 0⟩
/-- MCV_CONFIG (R70 and the chapter's opcode table). -/
def headMcvConfig : OpHead := ⟨0x1101, 1, 10, 2⟩
/-- MCV_SEQ_LOAD (R70 and the chapter's opcode table). -/
def headMcvSeqLoad : OpHead := ⟨0x1102, 1, 20, 1⟩
/-- MCV_SEQ_STORE (R70 and the chapter's opcode table). -/
def headMcvSeqStore : OpHead := ⟨0x1103, 1, 40, 2⟩
/-- MCV_SEQ_READ (R70 and the chapter's opcode table). -/
def headMcvSeqRead : OpHead := ⟨0x1104, 0, 10, 0⟩
/-- MCV_RESULT_READ (R70 and the chapter's opcode table). -/
def headMcvResultRead : OpHead := ⟨0x1105, 0, 2, 0⟩
/-- MCV_PLAUS_RUN (R70 and the chapter's opcode table). -/
def headMcvPlausRun : OpHead := ⟨0x1106, 1, 80, 1⟩
/-- MCV_UNQUARANTINE (R70 and the chapter's opcode table). -/
def headMcvUnquarantine : OpHead := ⟨0x1107, 1, 50, 1⟩
/-- MCV_STATUS_READ (R70 and the chapter's opcode table). -/
def headMcvStatusRead : OpHead := ⟨0x1108, 0, 2, 0⟩
/-- GTH_CONFIG (R70 and the chapter's opcode table). -/
def headGthConfig : OpHead := ⟨0x1201, 1, 10, 1⟩
/-- GTH_TRIG_CONFIG (R70 and the chapter's opcode table). -/
def headGthTrigConfig : OpHead := ⟨0x1202, 1, 10, 1⟩
/-- GTH_ARM (R70 and the chapter's opcode table). -/
def headGthArm : OpHead := ⟨0x1203, 1, 10, 1⟩
/-- GTH_TRIGGER (R70 and the chapter's opcode table). -/
def headGthTrigger : OpHead := ⟨0x1204, 1, 2, 1⟩
/-- GTH_STOP (R70 and the chapter's opcode table). -/
def headGthStop : OpHead := ⟨0x1205, 1, 2, 1⟩
/-- GTH_READ (R70 and the chapter's opcode table). -/
def headGthRead : OpHead := ⟨0x1206, 0, 20, 0⟩
/-- GTH_STATUS_READ (R70 and the chapter's opcode table). -/
def headGthStatusRead : OpHead := ⟨0x1207, 0, 2, 0⟩
/-- GTH_PMC_CONFIG (R70 and the chapter's opcode table). -/
def headGthPmcConfig : OpHead := ⟨0x1208, 1, 2, 1⟩
/-- GTH_PMC_CTRL (R70 and the chapter's opcode table). -/
def headGthPmcCtrl : OpHead := ⟨0x1209, 1, 2, 1⟩
/-- GTH_COUNT_READ (R70 and the chapter's opcode table). -/
def headGthCountRead : OpHead := ⟨0x120A, 0, 2, 0⟩
/-- GTH_COUNTER_OPEN (R70 and the chapter's opcode table). -/
def headGthCounterOpen : OpHead := ⟨0x120B, 1, 2, 1⟩
/-- MEM_TABLE_FILL (R70 and the chapter's opcode table). -/
def headMemTableFill : OpHead := ⟨0x0C01, 1, 10, 1⟩
/-- MEM_TABLE_DECLARE (R70 and the chapter's opcode table). -/
def headMemTableDeclare : OpHead := ⟨0x0C02, 1, 2, 1⟩
/-- MEM_CONFIG (R70 and the chapter's opcode table). -/
def headMemConfig : OpHead := ⟨0x0C03, 1, 10, 2⟩
/-- MEM_STATUS_READ (R70 and the chapter's opcode table). -/
def headMemStatusRead : OpHead := ⟨0x0C04, 0, 2, 0⟩
/-- MEM_LOG_READ (R70 and the chapter's opcode table). -/
def headMemLogRead : OpHead := ⟨0x0C05, 0, 10, 0⟩
/-- MEM_REPAIR_READ (R70 and the chapter's opcode table). -/
def headMemRepairRead : OpHead := ⟨0x0C06, 0, 10, 0⟩
/-- PWR_DOMAIN_READ (R70 and the chapter's opcode table). -/
def headPwrDomainRead : OpHead := ⟨0x0201, 0, 2, 0⟩
/-- PWR_WAKE (R70 and the chapter's opcode table). -/
def headPwrWake : OpHead := ⟨0x0202, 1, 50, 1⟩
/-- PWR_SLEEP (R70 and the chapter's opcode table). -/
def headPwrSleep : OpHead := ⟨0x0203, 1, 10, 1⟩
/-- PWR_FENCE (R70 and the chapter's opcode table). -/
def headPwrFence : OpHead := ⟨0x0204, 2, 10, 1⟩
/-- PWR_DOMAIN_RESET (R70 and the chapter's opcode table). -/
def headPwrDomainReset : OpHead := ⟨0x0205, 2, 10, 1⟩
/-- PWR_LEHR_RUN (R70 and the chapter's opcode table). -/
def headPwrLehrRun : OpHead := ⟨0x0206, 2, 1500, 2⟩
/-- PWR_LEHR_READ (R70 and the chapter's opcode table). -/
def headPwrLehrRead : OpHead := ⟨0x0207, 0, 20, 0⟩
/-- PWR_CONFIG (R70 and the chapter's opcode table). -/
def headPwrConfig : OpHead := ⟨0x0208, 1, 10, 2⟩
/-- SEC_ID_READ (R70 and the chapter's opcode table). -/
def headSecIdRead : OpHead := ⟨0x0101, 0, 2, 0⟩
/-- SEC_CERT_READ (R70 and the chapter's opcode table). -/
def headSecCertRead : OpHead := ⟨0x0102, 0, 10, 0⟩
/-- SEC_ATTEST (R70 and the chapter's opcode table). -/
def headSecAttest : OpHead := ⟨0x0103, 0, 200, 0⟩
/-- SEC_KEY_ENROLL (R70 and the chapter's opcode table). -/
def headSecKeyEnroll : OpHead := ⟨0x0104, 2, 200, 2⟩
/-- SEC_KEY_REVOKE (R70 and the chapter's opcode table). -/
def headSecKeyRevoke : OpHead := ⟨0x0105, 2, 200, 2⟩
/-- SEC_KEY_READ (R70 and the chapter's opcode table). -/
def headSecKeyRead : OpHead := ⟨0x0106, 0, 2, 0⟩
/-- SEC_FW_WRITE (R70 and the chapter's opcode table). -/
def headSecFwWrite : OpHead := ⟨0x0107, 2, 50, 1⟩
/-- SEC_FW_ACTIVATE (R70 and the chapter's opcode table). -/
def headSecFwActivate : OpHead := ⟨0x0108, 2, 400, 2⟩
/-- SEC_FW_COMMIT (R70 and the chapter's opcode table). -/
def headSecFwCommit : OpHead := ⟨0x0109, 2, 40, 2⟩
/-- SEC_COSIGN_SET (R70 and the chapter's opcode table). -/
def headSecCosignSet : OpHead := ⟨0x010A, 2, 40, 2⟩
/-- SEC_DEBUG_UNLOCK (R70 and the chapter's opcode table). -/
def headSecDebugUnlock : OpHead := ⟨0x010B, 2, 10, 1⟩
/-- SEC_FW_STATUS (R70 and the chapter's opcode table). -/
def headSecFwStatus : OpHead := ⟨0x010C, 0, 2, 0⟩
/-- SEC_CONFIG (R70 and the chapter's opcode table). -/
def headSecConfig : OpHead := ⟨0x010D, 2, 40, 2⟩
/-- EVR_INFO (R70 and the chapter's opcode table). -/
def headEvrInfo : OpHead := ⟨0x1301, 0, 2, 0⟩
/-- EVR_READ (R70 and the chapter's opcode table). -/
def headEvrRead : OpHead := ⟨0x1302, 0, 20, 0⟩
/-- EVR_CONFIG (R70 and the chapter's opcode table). -/
def headEvrConfig : OpHead := ⟨0x1303, 1, 10, 2⟩
/-- EVR_SNAP_SET (R70 and the chapter's opcode table). -/
def headEvrSnapSet : OpHead := ⟨0x1304, 1, 10, 2⟩
/-- EVR_FLUSH (R70 and the chapter's opcode table). -/
def headEvrFlush : OpHead := ⟨0x1305, 1, 40, 0⟩
/-- EVR_ERASE (R70 and the chapter's opcode table). -/
def headEvrErase : OpHead := ⟨0x1306, 2, 2000, 2⟩

end Sys2Proof.Machine
end

