-- ==== Sys2Proof/Machine/Mem.lean ====
section
/-!
DEFINITION. Memory integrity (17): the host-owned tables with their coverage and declared flags, corrected and
uncorrectable errors, the error log, row repair, and the MEM commands.
-/
namespace Sys2Proof.Machine
open Reg

/-! ### Host-owned tables (Table 17-1, R510, R511) -/

/-- First address and word count of a mapped host-owned table; tables 0 and 1 are not mapped. -/
def tableWords (t : Nat) : Nat × Nat :=
  if t = 2 then (MCV_SEQ 0 0, 512)
  else if 3 ≤ t ∧ t ≤ 6 then (AOU_GEN_TAB (t - 3) 0, 512)
  else if 7 ≤ t ∧ t ≤ 18 then (FES_STEPTAB (t - 7) 0, 64)
  else if 19 ≤ t ∧ t ≤ 50 then (CLE_COEF (t - 19) 0, 16)
  else if 51 ≤ t ∧ t ≤ 66 then (CLE_REP (t - 51) 0, 256)
  else (0, 0)

/-- The memory id of a host-owned table. -/
def tableMem (t : Nat) : Nat :=
  if t ≤ 1 then t else if t = 2 then 7 else if t ≤ 6 then 8 else if t ≤ 18 then 9 else if t ≤ 50 then 10 else 11

/-- The domain of a host-owned table. -/
def tableDomain (t : Nat) : Nat := if t ≤ 1 then 14 else if t = 2 then 16 else 15

/-- The host-owned table that the word at address `a` belongs to. -/
def tableOf (a : Nat) : Option Nat :=
  (List.range 67).find? fun t => let (b, n) := tableWords t; decide (b ≤ a ∧ a < b + n)

/-- Is table `t` declared (bit t of MEM_DECL, R510)? -/
def Hw.declared (s : Hw) (t : Nat) : Bool := hasBit (s.num (MEM_DECL (t / 32))) (t % 32)

/-- Set or clear a declared flag, with the owning subsystem's mirror of it (R510). -/
def setDeclared (s : Hw) (t : Nat) (v : Bool) : Hw :=
  let s := s.setNum (MEM_DECL (t / 32)) (setBit (s.num (MEM_DECL (t / 32))) (t % 32) v)
  let s : Hw := if v then s else { s with mem := { s.mem with joined := Map.put false s.mem.joined t false } }
  if t ≤ 1 then s.setFlag FLW_STATUS_ready (s.declared 0 && s.declared 1)
  else if t = 2 then s.setFlag MCV_STATUS_declared v
  else if t ≤ 6 then s.setNum AOU_TBL (setBit (s.num AOU_TBL) (t - 3) v)
  else if t ≤ 18 then s.setNum FES_TBL (setBit (s.num FES_TBL) (t - 7) v)
  else if t ≤ 50 then s.setNum CLE_COEF_INIT (setBit (s.num CLE_COEF_INIT) (t - 19) v)
  else s.setNum CLE_REP_INIT (setBit (s.num CLE_REP_INIT) (t - 51) v)

/-- Has the word at address `a` been written since its table's domain powered up? -/
def Hw.covered (s : Hw) (a : Nat) : Bool := Map.get false s.mem.cover a

/-- Every coverage bit of the table set (R511): one for each protected word of 64 bits, two registers (R507). -/
def coverFull (s : Hw) (t : Nat) : Bool :=
  if t ≤ 1 then Map.get false s.mem.whole t
  else let (b, n) := tableWords t; (List.range (n / 2)).all fun i => Map.get false s.mem.words (b / 2 + i)

/-- The sequence table has been written: entries that could not run are tried again. -/
def seqWritten (s : Hw) : Hw :=
  { s with mcv := { s.mcv with conv := s.mcv.conv.map fun e => (e.1, { e.2 with told := false }) } }

/-- The bits of a mapped host-owned table's word that are not reserved (Tables 11-3, 13-7 and 15-2). -/
def tableMask (a : Nat) : Nat :=
  match tableOf a with
  | none => 0xFFFFFFFF
  | some t =>
    let i := a - (tableWords t).1
    if t = 2 then (if i % 8 = 0 then 0x8FFF3FFF else if i % 8 = 7 then 0x3 else 0xFFFFFFFF)
    else if 7 ≤ t ∧ t ≤ 18 then (if i % 2 = 1 then 0xFFFF0001 else 0xFFFFFFFF)
    else if 19 ≤ t ∧ t ≤ 50 then (if i = 13 then 0xFFFFFF00 else 0xFFFFFFFF)
    else 0xFFFFFFFF

/-- A word of a table without its reserved bits, which read as zero (R9). -/
def tableBits (a : Nat) (v : Word) : Word := v &&& BitVec.ofNat 32 (tableMask a)

/-- A write of the register at a table's address; writes to its reserved bits are ignored (R9). -/
def putTable (s : Hw) (a : Nat) (v : Word) : Hw :=
  let s : Hw := { s.setReg a (tableBits a v) with mem := { s.mem with cover := Map.put false s.mem.cover a true } }
  s.cond (decide (MCV_SEQ 0 0 ≤ a ∧ a < MCV_SEQ 0 0 + 512)) seqWritten

/-- The protected word at half address `w` written whole: its coverage bit, and its poison cleared (R508, R511). -/
def wroteWhole (s : Hw) (w : Nat) : Hw :=
  { s with mem := { s.mem with words := Map.put false s.mem.words w true
                               poison := Map.put false s.mem.poison (2 * w) false } }

/-- The protected words that `n` registers from address `a` take in whole. -/
def wholeWords (a n : Nat) : List Nat :=
  let lo := (a + 1) / 2
  let hi := (a + n) / 2
  (List.range (hi - lo)).map (lo + ·)

/-- Consecutive registers from address `a`, written by one command. -/
def putWords (s : Hw) (a : Nat) (vs : List Nat) : Hw :=
  let s := (vs.foldl (fun (x : Hw × Nat) v => (putTable x.1 x.2 (BitVec.ofNat 32 v), x.2 + 1)) (s, a)).1
  s.each (wholeWords a vs.length) fun w s => wroteWhole s w

/-- What a read of a table's word gives: what was written, or else the raw contents left by the power-up (R513); reserved bits
read as zero (R9). -/
def tableWord (s : Hw) (a : Nat) : Word :=
  if s.covered a then s.reg a
  else tableBits a (Config.rawWord ((s.dom (tableDomain ((tableOf a).getD 0))).powerUps) a)

/-- Is the protected word with this address, or this key of a memory that is not mapped, poisoned? -/
def poisoned (s : Hw) (a : Nat) : Bool := Map.get false s.mem.poison (if a < 2 ^ 40 then a / 2 * 2 else a)

/-- Table `t` written whole, covered and declared. -/
def declareWhole (s : Hw) (t : Nat) : Hw :=
  (setDeclared { s with mem := { s.mem with whole := Map.put false s.mem.whole t true } } t true).raise 0x0C07
    [t, Map.get 0 s.mem.preN t]

/-! ### Errors (R507 to R509, R513) -/

/-- The newest of the 32 entries of the log. -/
def logError (s : Hw) (m bank off synd kind : Nat) : Hw :=
  let e : MemErr := ⟨m, bank, off, synd, kind, s.dtime⟩
  { s with mem := { s.mem with log := (e :: s.mem.log).take 32 } }

/-- The key under which a poisoned word of memory `m` at offset `off` that is not mapped stands. -/
def poisonKey (m off : Nat) : Nat := 2 ^ 40 + m * 2 ^ 32 + off

def setPoison (s : Hw) (key : Nat) (v : Bool) : Hw :=
  { s with mem := { s.mem with poison := Map.put false s.mem.poison key v } }

/-- Every word of memory `m` is written, and its poison goes. -/
def clearPoison (s : Hw) (m : Nat) : Hw :=
  { s with mem := { s.mem with poison := s.mem.poison.filter fun e => !decide (poisonKey m 0 ≤ e.1 ∧ e.1 < poisonKey (m + 1) 0) } }

/-- Is the row in the repair map? -/
def rowListed (s : Hw) (m bank row : Nat) : Bool :=
  s.nv.repair.any fun r => r.mem == m && r.bank == bank && r.row == row

/-- A row of memories 0x00 to 0x05 enters the repair map (R518). -/
def enterRepair (s : Hw) (m bank row : Nat) : Hw :=
  if m > 5 || rowListed s m bank row then s
  else ({ s with nv := { s.nv with repair := s.nv.repair ++ [(⟨m, bank, row, 0⟩ : RepairRow)] } }).raise 0x0C04 [m, bank, row]

/-- Operating time of 24 h, in ms. -/
def dayMs : Nat := 86400000

/-- A single-bit error found by a read (R507): corrected, counted, logged, reported once per second with its count, and
the row judged after 3 corrections within 24 h (R518). -/
def memCorrected (s : Hw) (m bank off row synd : Nat) : Hw :=
  let s := ((s.count (MEM_CORR m)).pmc 0x080).countSec 0x0C01 m 1 off 0 true
  let s := logError s m bank off synd 0
  let key := m * 2 ^ 32 + bank * 2 ^ 20 + row
  let l := (Map.get [] s.mem.rowFix key).filter (fun t => decide (s.optime < t + dayMs)) ++ [s.optime]
  let s := { s with mem := { s.mem with rowFix := Map.put [] s.mem.rowFix key l } }
  s.cond (decide (l.length ≥ 3)) fun s => enterRepair s m bank row

/-- An uncorrectable error found by a read (R508): the word is poisoned, counted, logged and reported. A second one at
the same word after its write-back puts the row into the repair map (R518). -/
def memUncorrectable (s : Hw) (m bank off row synd key : Nat) : Hw :=
  let again := poisoned s key
  let s := (setPoison s key true).count (MEM_UNCORR m)
  let s := (logError s m bank off synd 1).raise 0x0C02 [m, together 0x0C02 [bank, off], synd]
  s.cond again fun s => enterRepair s m bank row

/-- An error in a table that is not declared (R513). -/
def memPreInit (s : Hw) (t : Nat) : Hw :=
  let s := s.count (MEM_PREINIT (tableMem t))
  { s with mem := { s.mem with preN := Map.put 0 s.mem.preN t (min (Map.get 0 s.mem.preN t + 1) (2 ^ 32 - 1)) } }

/-- Memories whose rows are repaired at the power-up of a domain (20 names AON's at a cold start). -/
def memsOfDomain (d : Nat) : List Nat :=
  if d = 14 then [0, 1, 2] else if d = 17 then [3] else if d = 20 then [4, 5] else []

/-- Pending rows of memory `m` replaced by spares, 4 to a bank; a bank without spare leaves its rows (R518). -/
def repairMem (s : Hw) (m : Nat) : Hw :=
  let step := fun (x : List RepairRow × List Nat × List Nat) (r : RepairRow) =>
    let (acc, fixed, out) := x
    if r.mem ≠ m ∨ r.state = 1 then (acc ++ [r], fixed, out)
    else
      let used := (s.nv.repair.filter fun q => q.mem == m && q.bank == r.bank && q.state == 1).length +
        (fixed.filter (· == r.bank)).length
      if used < 4 then (acc ++ [{ r with state := 1 }], fixed ++ [r.bank], out)
      else (acc ++ [{ r with state := 2 }], fixed, if r.state = 0 then out ++ [r.bank] else out)
  let (rows, fixed, out) := s.nv.repair.foldl step ([], [], [])
  let n := fixed.length
  let s := { s with nv := { s.nv with repair := rows } }
  let s := s.cond (decide (n > 0)) fun s => s.raise 0x0C05 [m, n]
  let s := s.cond (rows.any fun r => r.state == 2) fun s => s.setFld MEM_STATUS_spares_out 1
  s.each out fun b s => s.raise 0x0C06 [m, b]

def repairDomain (s : Hw) (d : Nat) : Hw := s.each (memsOfDomain d) fun m s => repairMem s m

/-- The scrub regions whose lap begins anew at the power-up of a domain (R517). -/
def regionsOf (d : Nat) : List Nat := if d = 14 then [0, 1] else if d = 17 then [2] else if d = 15 ∨ d = 16 then [4] else []

/-- The domain of some scrub regions goes down: their laps in progress are broken off (R517). -/
def breakLaps (s : Hw) (d : Nat) : Hw :=
  s.each (regionsOf d) fun r s => { s with mem := { s.mem with broken := Map.put false s.mem.broken r true } }

/-- A table's domain powers up: its flags, coverage and pre-initialisation errors clear (R510, R511). -/
def tablesPowerUp (s : Hw) (d : Nat) : Hw :=
  let s := s.each (regionsOf d) fun r s =>
    { s with mem := { s.mem with lapAt := Map.put 0 s.mem.lapAt r s.dtime, broken := Map.put false s.mem.broken r false } }
  s.each ((List.range 67).filter fun t => tableDomain t == d) fun t s =>
    let (b, n) := tableWords t
    let s := { s with mem := { s.mem with
      cover := s.mem.cover.filter fun x => !(decide (b ≤ x.1 ∧ x.1 < b + n))
      words := s.mem.words.filter fun x => !(decide (b / 2 ≤ x.1 ∧ x.1 < b / 2 + n / 2))
      poison := s.mem.poison.filter fun x => !(decide (b ≤ x.1 ∧ x.1 < b + n))
      whole := Map.put false s.mem.whole t false
      joined := Map.put false s.mem.joined t false
      preN := Map.put 0 s.mem.preN t 0 } }
    setDeclared s t false

/-! ### Commands (Table 17-6) -/

/-- The addresses of MEM's registers in address order (Tables 17-7 and 17-8). -/
def memRegs : List Nat :=
  (List.range 5).map MEM_LAP ++ (List.range 5).map MEM_LAP_THR ++ (List.range 14).map MEM_CORR ++
    (List.range 14).map MEM_UNCORR ++ (List.range 14).map MEM_PREINIT ++ [MEM_STATUS, MEM_DECL 0, MEM_DECL 1, MEM_DECL 2]

def memCounters : List Nat :=
  (List.range 14).map MEM_CORR ++ (List.range 14).map MEM_UNCORR ++ (List.range 14).map MEM_PREINIT

/-- The pattern written to every word of a table, the upper word at the lower offset. -/
def fillTable (s : Hw) (t pat : Nat) : Hw :=
  if t ≤ 1 then { s with mem := { s.mem with whole := Map.put false s.mem.whole t true } }
  else
    let (b, n) := tableWords t
    putWords s b ((List.range n).map fun i => if i % 2 = 0 then pat / 2 ^ 32 else pat % 2 ^ 32)

/-- The preconditions of MEM_TABLE_FILL: no admitted flow, the unit DARK or WARM, the loop off. -/
def fillCond (s : Hw) (t : Nat) : Option Nat :=
  if t ≤ 1 then (if s.fld TDS_FLOWS_admitted = 0 then none else some 1)
  else if 7 ≤ t ∧ t ≤ 18 then (if s.fld (FES_STATE_state (t - 7)) ≤ 1 then none else some 2)
  else if 19 ≤ t then
    (if s.fld (CLE_STATUS_mode (if t ≤ 50 then t - 19 else t - 51)) = 0 then none else some 3)
  else none

def opMemTableFill : OpSpec :=
  { OpSpec.fix headMemTableFill [.rng 1 0 66, .msk 1 1, .res 2, .any 8] fun s c =>
      let t := u8 c.p 0
      let pat := un c.p 4 8
      match fillCond s t with
      | some k => .refuse stCONDITIONS k s
      | none =>
        let s := fillTable s t pat
        let s := if t = 0 then
            let held := pat / 2 ^ 62 == 1
            let n := if held then 64 else 0
            let s := (s.setFld FLW_STASH_occupancy n).setFld FLW_STASH_peak (max n (s.fld FLW_STASH_peak))
            { clearPoison s 0 with
              flw := { s.flw with keys := [], keyFill := pat * 2 ^ 64 + pat, cache := [],
                                  stash := if held then (List.range 64).map (1179648 + ·) else [] } }.setFld
              FLW_STATUS_keys (if held then 1179648 + 64 else 0)
          else if t = 1 then
            { (clearPoison s 1).setFld FLW_CTX_contexts (if pat / 2 ^ 62 = 0 then 0 else 1048576) with
              flw := { s.flw with ctxs := [], ctxFill := pat * 2 ^ 64 + pat } }
          else s
        if hasBit (u8 c.p 1) 0 then
          .ok ((setDeclared s t true).raise 0x0C07 [t, Map.get 0 s.mem.preN t])
        else .ok s with
    doms := fun _ p => [tableDomain (u8 p 0)] }

def opMemTableDeclare : OpSpec :=
  { OpSpec.fix headMemTableDeclare [.rng 1 0 66] fun s c =>
      let t := u8 c.p 0
      if coverFull s t then
        .ok ((setDeclared s t true).raise 0x0C07 [t, Map.get 0 s.mem.preN t]) (toBE 4 (Map.get 0 s.mem.preN t))
      else .refuse stCONDITIONS 1 s with
    doms := fun _ p => [tableDomain (u8 p 0)] }

/-- The lap thresholds, as the command and the stored object set them. -/
def applyMemConfig (p : Bytes) (s : Hw) : Hw :=
  s.each (List.range 5) fun r s => s.setFld (MEM_LAP_THR_ms r) (u16 p (2 * r))

def opMemConfig : OpSpec :=
  { OpSpec.fix headMemConfig (List.replicate 5 (.rng 2 1 65535)) fun s c => .ok (applyMemConfig c.p s) with
    objs := fun _ => [0] }

def opMemStatusRead : OpSpec :=
  OpSpec.fix headMemStatusRead [.msk 1 1] fun s c =>
    .ok (s.cond (hasBit (u8 c.p 0) 0) fun s => s.zeroRegs memCounters) (s.wordsAt memRegs ++ s.dtimeBytes)

/-- A log entry's 24 bytes: the fields of R509 in their order, each big-endian (DESIGN CHOICE: log entry 97). -/
def memErrBytes (e : MemErr) : Bytes :=
  toBE 1 e.mem ++ toBE 1 e.bank ++ toBE 1 e.synd ++ toBE 1 e.kind ++ toBE 4 e.off ++ toBE 8 e.time ++ zeros 8

def opMemLogRead : OpSpec :=
  OpSpec.fix headMemLogRead [] fun s _ =>
    .ok s (toBE 1 s.mem.log.length ++ zeros 7 ++ s.mem.log.flatMap memErrBytes)

def opMemRepairRead : OpSpec :=
  OpSpec.fix headMemRepairRead [.rng 1 0 14] fun s c =>
    let l := s.nv.repair.filter fun r => r.mem == u8 c.p 0
    .ok s (toBE 2 l.length ++ l.flatMap fun r => toBE 1 r.bank ++ toBE 1 r.state ++ toBE 2 r.row)

end Sys2Proof.Machine
end

