-- ==== Sys2Proof/Machine/Sine.lean ====
section
/-!
DEFINITION. The sine table of R456: round(32 767 sin(2 pi j / 1024)), its first quarter written out; sines in fixed point and the
notch of R436.
-/
namespace Sys2Proof.Machine

/-- Entries 0 to 63 of the first quarter. -/
def sineQuarter0 : List Nat :=
  [0, 201, 402, 603, 804, 1005, 1206, 1407, 1608, 1809, 2009, 2210, 2410, 2611, 2811, 3012,
   3212, 3412, 3612, 3811, 4011, 4210, 4410, 4609, 4808, 5007, 5205, 5404, 5602, 5800, 5998, 6195,
   6393, 6590, 6786, 6983, 7179, 7375, 7571, 7767, 7962, 8157, 8351, 8545, 8739, 8933, 9126, 9319,
   9512, 9704, 9896, 10087, 10278, 10469, 10659, 10849, 11039, 11228, 11417, 11605, 11793, 11980, 12167, 12353]

/-- Entries 64 to 127 of the first quarter. -/
def sineQuarter1 : List Nat :=
  [12539, 12725, 12910, 13094, 13279, 13462, 13645, 13828, 14010, 14191, 14372, 14553, 14732, 14912, 15090, 15269,
   15446, 15623, 15800, 15976, 16151, 16325, 16499, 16673, 16846, 17018, 17189, 17360, 17530, 17700, 17869, 18037,
   18204, 18371, 18537, 18703, 18868, 19032, 19195, 19357, 19519, 19680, 19841, 20000, 20159, 20317, 20475, 20631,
   20787, 20942, 21096, 21250, 21403, 21554, 21705, 21856, 22005, 22154, 22301, 22448, 22594, 22739, 22884, 23027]

/-- Entries 128 to 191 of the first quarter. -/
def sineQuarter2 : List Nat :=
  [23170, 23311, 23452, 23592, 23731, 23870, 24007, 24143, 24279, 24413, 24547, 24680, 24811, 24942, 25072, 25201,
   25329, 25456, 25582, 25708, 25832, 25955, 26077, 26198, 26319, 26438, 26556, 26674, 26790, 26905, 27019, 27133,
   27245, 27356, 27466, 27575, 27683, 27790, 27896, 28001, 28105, 28208, 28310, 28411, 28510, 28609, 28706, 28803,
   28898, 28992, 29085, 29177, 29268, 29358, 29447, 29534, 29621, 29706, 29791, 29874, 29956, 30037, 30117, 30195]

/-- Entries 192 to 255 of the first quarter. -/
def sineQuarter3 : List Nat :=
  [30273, 30349, 30424, 30498, 30571, 30643, 30714, 30783, 30852, 30919, 30985, 31050, 31113, 31176, 31237, 31297,
   31356, 31414, 31470, 31526, 31580, 31633, 31685, 31736, 31785, 31833, 31880, 31926, 31971, 32014, 32057, 32098,
   32137, 32176, 32213, 32250, 32285, 32318, 32351, 32382, 32412, 32441, 32469, 32495, 32521, 32545, 32567, 32589,
   32609, 32628, 32646, 32663, 32678, 32692, 32705, 32717, 32728, 32737, 32745, 32752, 32757, 32761, 32765, 32766]

/-- Entries 256 to 256 of the first quarter. -/
def sineQuarter4 : List Nat :=
  [32767]

/-- The first quarter, 257 entries. -/
def sineQuarter : List Nat :=
  sineQuarter0 ++ sineQuarter1 ++ sineQuarter2 ++ sineQuarter3 ++ sineQuarter4

/-- Entry `j` of the table, for `j` below 1024. -/
def sineEntry (j : Nat) : Int :=
  if j ≤ 256 then (sineQuarter.getD j 0 : Int)
  else if j ≤ 512 then (sineQuarter.getD (512 - j) 0 : Int)
  else if j ≤ 768 then -(sineQuarter.getD (j - 512) 0 : Int)
  else -(sineQuarter.getD (1024 - j) 0 : Int)

/-! ### Sines in fixed point, with 80 fraction bits -/

/-- 1 in fixed point. -/
def fixOne : Int := 2 ^ 80

/-- A product in fixed point. -/
def fixMul (a b : Int) : Int := a * b / fixOne

/-- pi with 100 fraction bits. -/
def piBits : Int := 3982441812995697363688351113952

/-- The terms of the sine series from the term `t` of power `k`, with x squared `x2`. -/
def sineSeries (x2 : Int) : Nat → Nat → Int → Int
  | 0, _, _ => 0
  | fuel + 1, k, t => t + sineSeries x2 fuel (k + 2) (-(fixMul t x2) / ((k + 1) * (k + 2)))

/-- sin(pi / 2 n / d) for n from 0 to d. -/
def quarterSine (n d : Nat) : Int :=
  let x := piBits * n / (2 * d * 2 ^ 20)
  sineSeries (fixMul x x) 14 1 x

/-- sin(2 pi n / d). -/
def sineOf (n d : Nat) : Int :=
  let m := 4 * (n % d)
  let r := m % d
  match m / d with
  | 0 => quarterSine r d
  | 1 => quarterSine (d - r) d
  | 2 => -quarterSine r d
  | _ => -quarterSine (d - r) d

/-- cos(2 pi n / d). -/
def cosineOf (n d : Nat) : Int := sineOf (4 * n + d) (4 * d)

/-! ### The notch (R436) -/

/-- One pass of biquad(1, -2c, 1 ; 1, -2qc, q q) times `g` over the points, from the state (x1, x2, y1, y2); the points it leaves and
its state. -/
def notchPass (c q g : Int) (st : Int × Int × Int × Int) (v : List Int) : List Int × (Int × Int × Int × Int) :=
  v.foldl (fun (a : List Int × (Int × Int × Int × Int)) x =>
    let (x1, x2, y1, y2) := a.2
    let y := x - 2 * fixMul c x1 + x2 + 2 * fixMul (fixMul q c) y1 - fixMul (fixMul q q) y2
    (a.1 ++ [fixMul g y], (x, x1, y, y1))) ([], st)

/-- Twice round the points; the second pass is the result. -/
def notchTwice (c q g : Int) (v : List Int) : List Int :=
  (notchPass c q g (notchPass c q g (0, 0, 0, 0) v).2 v).1

/-- The notch at `f` Hz with radius `r` / 65536 for a mains period of `tm` times 10 ns, forward, then backward; points in fixed
point. -/
def notch (f r tm : Nat) (v : List Int) : List Int :=
  let c := cosineOf (f * tm) (256 * 10 ^ 8)
  let q := (r : Int) * 2 ^ 64
  let g := (fixOne - 2 * fixMul q c + fixMul q q) * fixOne / (2 * fixOne - 2 * c)
  (notchTwice c q g (notchTwice c q g (v.map (· * fixOne))).reverse).reverse

end Sys2Proof.Machine
end

