-- ==== Sys2Proof/Machine/Aou.lean ====
section
/-!
DEFINITION. Analogue outputs and sine generators (14): the writers of an output, the update instant, the gate path, range
changes, dither and generators, and the AOU commands.
-/
namespace Sys2Proof.Machine
open Reg

def Hw.aouOut (s : Hw) (o : Nat) : AouOut := Map.get {} s.aou.outs o
def Hw.updOut (s : Hw) (o : Nat) (f : AouOut → AouOut) : Hw :=
  { s with aou := { s.aou with outs := Map.upd {} s.aou.outs o f } }

/-- The 24 outputs (R445). -/
def outputs : List Nat := List.range 24

/-- Does FES_MAP0 of unit `u` name the output? -/
def fesNames (s : Hw) (u o : Nat) : Bool :=
  s.fld (FES_MAP0_bias_out u) == o || s.fld (FES_MAP0_gate_out u) == o || s.fld (FES_MAP0_drive2_out u) == o

/-- The units whose FES_MAP0 names the output. -/
def fesOwners (s : Hw) (o : Nat) : List Nat := (List.range 12).filter fun u => fesNames s u o

/-- Is the output the gate output of a unit (R447)? -/
def isGate (s : Hw) (o : Nat) : Bool := (List.range 12).any fun u => s.fld (FES_MAP0_gate_out u) == o

/-- Is the output the bias output of an amplifier stage (R399)? -/
def isStageBias (s : Hw) (o : Nat) : Bool := [8, 9, 10, 11].any fun u => s.fld (FES_MAP0_bias_out u) == o

/-- Does a loop in auto or manual name the output (R426)? -/
def cleOwns (s : Hw) (o : Nat) : Bool :=
  (List.range 32).any fun l =>
    s.fld (CLE_STATUS_mode l) != 0 && s.fld (CLE_CFG_dst_kind l) == 1 && s.fld (CLE_CFG_dst_idx l) == o

/-- The next update instant after now (R446). -/
def nextUpdate (s : Hw) : Nat := (s.dtime / 1000 + 1) * 1000

/-- A code written to an output (R446, R451): it takes effect at the next update instant. Writes are discarded while D15 is
not ready and during a range change (R450, R452). -/
def aouWrite (s : Hw) (o code writer : Nat) : Hw :=
  if !s.ready 15 || s.flag (AOU_OSTAT_ranging o) then s
  else
    let s := ((s.setFld (AOU_CODE_code o) code).setFld (AOU_CODE_never_written o) 0).setFld (AOU_CODE_writer o) writer
    (s.setFld (AOU_OSTAT_at_safe o) 0).updOut o fun x => { x with want := code }

/-- The output's safe code written by FES: the output is where its safe code puts it. -/
def aouSafe (s : Hw) (o writer : Nat) : Hw :=
  if !s.ready 15 || s.flag (AOU_OSTAT_ranging o) then s
  else (aouWrite s o (s.fld (AOU_OCFG_safe o)) writer).setFld (AOU_OSTAT_at_safe o) 1

/-- A write of FES through the gate path (R447): it takes effect within 100 ns, at GATE_WRITE. -/
def aouGate (s : Hw) (o code : Nat) : Hw :=
  if !s.ready 15 || s.flag (AOU_OSTAT_ranging o) then s
  else
    let s := ((s.setFld (AOU_CODE_code o) code).setFld (AOU_CODE_never_written o) 0).setFld (AOU_CODE_writer o) 2
    (s.setFlag (AOU_OSTAT_at_safe o) (code == s.fld (AOU_OCFG_safe o))).updOut o fun x => { x with gate := some code }

/-- A change of the code that reaches the converter is a major transition (R448). -/
def major (a b : Nat) : Bool := decide (max a b - min a b > 4096) || a / 4096 != b / 4096

/-- The code whose value the output stage shows: the previous one while the punty hold of a major transition runs (R448). -/
def AouOut.shown (x : AouOut) (now : Nat) : Nat := if now < x.heldTo then x.old else x.drive

/-- The converter of output `o` takes a code; a major transition holds for 200 ns what the output stage shows (R448). -/
def driveOut (s : Hw) (o code : Nat) : Hw :=
  s.updOut o fun x =>
    if major x.drive code then { x with drive := code, old := x.shown s.dtime, heldTo := s.dtime + 200 } else { x with drive := code }

/-- The ends of output `o`'s range (Table 14-1), in µA for AOI0 to AOI15 and µV for AOV0 to AOV7. -/
def rangeEnds (o r : Nat) : Nat × Nat :=
  if o < 16 then (0, [5000, 15000, 30000].getD r 0)
  else [(0, 1250000), (0, 2500000), (500000, 3000000)].getD r (0, 0)

/-- The value of a code, low + code × (high - low) / 65 535 (R445), in 65 535ths of a µA or µV. -/
def codeValue (o r code : Nat) : Nat := let (lo, hi) := rangeEnds o r; lo * 65535 + code * (hi - lo)

/-- The value on the pin of output `o`. -/
def outValue (s : Hw) (o : Nat) : Nat := codeValue o (s.fld (AOU_OCFG_range o)) ((s.aouOut o).shown s.dtime)

/-- An FES gate write takes effect (R447, R448). -/
def gateWrite (o : Nat) (s : Hw) : Hw :=
  match (s.aouOut o).gate with
  | some c => if s.ready 15 then driveOut (s.updOut o fun x => { x with gate := none, want := c }) o c else s
  | none => s

/-! ### Generators (R454 to R458) -/

/-- Is the generator named by the pilot_gen field of a stage? -/
def genNamed (s : Hw) (g : Nat) : Bool := [0, 1, 2, 3].any fun st => s.fld (BRC_SSEL_pilot_gen st) == g

/-- A generator's pilot frequency in 10 Hz (Table 12-5). -/
def pilotFreq (s : Hw) (g : Nat) : Nat :=
  if g % 2 = 0 then s.fld (BRC_PILOT_lo (g / 2)) else s.fld (BRC_PILOT_hi (g / 2))

/-- The increment of a frequency of `f10` times 10 Hz (R458). -/
def pilotInc (f10 : Nat) : Nat := (f10 * 10 * 2 ^ 32 * 2 + 10 ^ 6) / (2 * 10 ^ 6)

/-- A signed sample of table `g` (R456): entry 2w lies in the upper half of word w. -/
def genEntry (s : Hw) (g j : Nat) : Int :=
  let w := s.num (AOU_GEN_TAB g (j / 2))
  sx 16 (if j % 2 = 0 then w / 65536 else w)

/-- Does a poisoned word stand in the generator's table (Table 17-2)? -/
def genPoisoned (s : Hw) (g : Nat) : Bool :=
  s.mem.poison.any fun e => e.2 && decide (AOU_GEN_TAB g 0 ≤ e.1 ∧ e.1 < AOU_GEN_TAB g 512)

/-- The generator's value (R455); 0 while its table is not declared, and from an uncorrectable entry until it is rewritten (Table 17-2). -/
def genSample (s : Hw) (g : Nat) : Int :=
  let phi : Nat := s.num (AOU_GEN_PHASE g)
  let i : Nat := phi / 2 ^ 22
  let f : Nat := phi / 2 ^ 16 % 64
  if !s.declared (3 + g) || genPoisoned s g then 0
  else
    let a := genEntry s g i
    let b := genEntry s g ((i + 1) % 1024)
    a + ((b - a) * (f : Int)) / 64

/-- A generator at an update instant: a waiting increment and phase are taken, and otherwise the phase advances. -/
def genStep (g : Nat) (s : Hw) : Hw :=
  let w := Map.get {} s.aou.gens g
  let s := if genNamed s g then s.setNum (AOU_GEN_INC g) (pilotInc (pilotFreq s g))
    else match w.inc with
      | some v => s.setNum (AOU_GEN_INC g) v
      | none => s
  let s := match w.phase with
    | some v => s.setNum (AOU_GEN_PHASE g) v
    | none => s.wrapCount (AOU_GEN_PHASE g) (s.num (AOU_GEN_INC g))
  { s with aou := { s.aou with gens := Map.put {} s.aou.gens g {} } }

/-! ### The update instant (R446, R452, R457) -/

/-- The code that an output drives: dither is added and clamped while it is on and no range change runs. -/
def outStep (o : Nat) (s : Hw) : Hw :=
  let starting := (s.aouOut o).change.isSome && !s.flag (AOU_OSTAT_ranging o)
  let s := s.cond starting fun s =>
    let s := ((s.setFld (AOU_OSTAT_ranging o) 1).setFld (AOU_OSTAT_at_safe o) 1).setFld (AOU_OLATCH_ranged o) 1
    s.updOut o fun x => { x with want := s.fld (AOU_OCFG_safe o), gate := none, changeAt := s.dtime }
  let x := s.aouOut o
  if !s.flag (AOU_OSTAT_dither_on o) || s.flag (AOU_OSTAT_ranging o) || isGate s o then driveOut s o x.want
  else
    let v := (x.want : Int) + ((s.fld (AOU_DITHER_amp o) : Int) * genSample s (s.fld (AOU_DITHER_gen o))) / 32768
    let c := (clampI 0 65535 v).toNat
    let s := s.cond (v < 0 || v > 65535) fun s => (s.setFld (AOU_OLATCH_clip o) 1).countSec 0x1004 o
    driveOut s o c

/-- A generator's phase over `k` further instants. -/
def genRun (k g : Nat) (s : Hw) : Hw := s.wrapCount (AOU_GEN_PHASE g) (k * s.num (AOU_GEN_INC g))

/-- At a DTIME instant that is a multiple of 1000 ns the generators advance and all outputs update together (R446, R454). The row does
nothing at any other time, or a second time at one instant; for instants since the last one whose row did not come, the phases have gone
on (DEDUCED: log entry 123). -/
def outputUpdate (s : Hw) : Hw :=
  if !s.ready 15 || s.dtime % 1000 != 0 || decide (s.dtime / 1000 ≤ s.aou.instant) then s
  else
    let k := s.dtime / 1000 - s.aou.instant - 1
    let s := { s with aou := { s.aou with instant := s.dtime / 1000 } }
    (s.each [0, 1, 2, 3] fun g s => genRun k g (genStep g s)).each outputs outStep

/-! ### Range changes (R452) -/

/-- At t0 + 1 µs the range switches, the output staying at its safe code. -/
def rangeSwitch (o : Nat) (s : Hw) : Hw :=
  match (s.aouOut o).change with
  | some (r, _, _, _) => if s.flag (AOU_OSTAT_ranging o) && decide ((s.aouOut o).changeAt + 1000 ≤ s.dtime) then s.setFld (AOU_OCFG_range o) r else s
  | none => s

def isRange (o : Nat) (r : RunCmd) : Bool := r.wait == .rangeChange o

/-- At t0 + 21 µs the new code applies, or an output of FES in DARK stays at its safe code; the command completes. -/
def rangeChangeComplete (o : Nat) (s : Hw) : Hw :=
  match (s.aouOut o).change with
  | some (r, code, old, keep) =>
    if !s.flag (AOU_OSTAT_ranging o) || s.fld (AOU_OCFG_range o) != r || decide (s.dtime < (s.aouOut o).changeAt + 21000) then s
    else
      let s := (s.setFld (AOU_OSTAT_ranging o) 0).updOut o fun x => { x with change := none }
      let s := if keep = 1 then s
        else
          let s := aouWrite s o code 0
          driveOut s o code
      setOutcome (s.raise 0x1003 [o, old, r]) (isRange o) stOK 0
  | none => s

/-! ### Commands (Table 14-4) -/

def aouDoms : Hw → Bytes → List Nat := fun _ _ => [15]

/-- What an AOU command names: outputs as themselves, generator g as 32 + g. -/
def aouNames (opc : Nat) (p : Bytes) : List Nat :=
  if opc = 0x1001 then (List.range (u8 p 0)).map fun j => u8 p (4 + 4 * j)
  else if opc = 0x1005 ∨ opc = 0x1006 then [32 + u8 p 0]
  else [u8 p 0]

/-- AOU commands that name disjoint outputs or generators are concurrent (R460). -/
def aouConc (opc : Nat) : Hw → Bytes → RunCmd → Bool := fun _ p r =>
  let a := aouNames opc p
  (aouNames r.opcode (coreParams r.req)).all fun x => !a.contains x

def aouItemBad (it : Bytes) : Option Nat :=
  if u8 it 0 > 23 then some 1 else if u8 it 1 ≠ 0 then some 2 else none

def aouItem (p : Bytes) (j : Nat) : Bytes := slice p (4 + 4 * j) 4

/-- Why a write of the host to the output is refused (R453). -/
def writeRefused (s : Hw) (o : Nat) : Option Nat :=
  if cleOwns s o then some 0x0F02 else if !(fesOwners s o).isEmpty then some 0x1001 else none

def opAouWrite : OpSpec :=
  { OpSpec.list headAouWrite [.any 1, .res 3] 1 0 1 1 24 4 fun s c =>
      let js := List.range (u8 c.p 0)
      match js.findSome? fun j => writeRefused s (u8 (aouItem c.p j) 0) with
      | some d => .refuse stREFUSED d s
      | none =>
        .ok (s.each js fun j s => aouWrite s (u8 (aouItem c.p j) 0) (u16 (aouItem c.p j) 2) 0)
          (toBE 8 (nextUpdate s % 2 ^ 64)) with
    check := fun _ p =>
      match runChks [.any 1, .res 3] 1 0 p with
      | some k => some k
      | none => (List.range (u8 p 0)).findSome? fun j => (aouItemBad (aouItem p j)).map fun k => 100 * (j + 1) + k
    doms := aouDoms
    conc := aouConc 0x1001 }

/-- The range of an output as the stored object gives it. -/
def applyAouRange (p : Bytes) (s : Hw) : Hw := s.setFld (AOU_OCFG_range (u8 p 0)) (u8 p 1)

def opAouRangeSet : OpSpec :=
  { OpSpec.fix headAouRangeSet [.rng 1 0 23, .rng 1 0 2, .any 2] fun s c =>
      let o := u8 c.p 0
      let us := fesOwners s o
      let dark := us.all fun u => s.fld (FES_STATE_state u) == 0
      if (s.aouOut o).change.isSome then .refuse stCONDITIONS 1 s
      else if cleOwns s o then .refuse stREFUSED 0x0F02 s
      else if !us.isEmpty && !dark then .refuse stREFUSED 0x1001 s
      else .wait (.rangeChange o) (s.updOut o fun x =>
        { x with change := some (u8 c.p 1, u16 c.p 2, s.fld (AOU_OCFG_range o), if us.isEmpty then 0 else 1) }) with
    doms := aouDoms
    conc := aouConc 0x1002
    objs := fun p => [u8 p 0] }

/-- The safe code: an output that holds its safe code takes the new one at the next update instant (Table 14-2). -/
def applyAouSafe (p : Bytes) (s : Hw) : Hw :=
  let o := u8 p 0
  let s := s.setFld (AOU_OCFG_safe o) (u16 p 1)
  if s.flag (AOU_OSTAT_at_safe o) then s.updOut o fun x => { x with want := u16 p 1 } else s

def opAouSafeSet : OpSpec :=
  { OpSpec.fix headAouSafeSet [.rng 1 0 23, .any 2] fun s c => .ok (applyAouSafe c.p s) with
    doms := aouDoms
    conc := aouConc 0x1003
    objs := fun p => [u8 p 0] }

def opAouDitherSet : OpSpec :=
  { OpSpec.fix headAouDitherSet [.rng 1 0 23, .rng 1 0 3, .msk 1 1, .rng 2 0 32767] fun s c =>
      let o := u8 c.p 0
      if isGate s o then .refuse stREFUSED 0x1002 s
      else if isStageBias s o then .refuse stREFUSED 0x0E01 s
      else
        let s := (s.setFld (AOU_DITHER_gen o) (u8 c.p 1)).setFld (AOU_DITHER_amp o) (u16 c.p 3)
        .ok (s.setFld (AOU_OSTAT_dither_on o) (bit (u8 c.p 2) 0)) with
    doms := aouDoms
    conc := aouConc 0x1004 }

def opAouGenSet : OpSpec :=
  { OpSpec.fix headAouGenSet [.rng 1 0 3, .msk 1 3, .rng 4 0 858993459, .any 4] fun s c =>
      let g := u8 c.p 0
      let inc := hasBit (u8 c.p 1) 0
      let ph := hasBit (u8 c.p 1) 1
      if genNamed s g && (ph || inc && u32 c.p 2 != s.num (AOU_GEN_INC g)) then .refuse stREFUSED 0x0E01 s
      else
        let f := fun (w : GenWait) =>
          { w with inc := if inc then some (u32 c.p 2) else w.inc, phase := if ph then some (u32 c.p 6) else w.phase }
        .ok { s with aou := { s.aou with gens := Map.upd {} s.aou.gens g f } } (toBE 8 (nextUpdate s % 2 ^ 64)) with
    doms := aouDoms
    conc := aouConc 0x1005 }

/-- The words of a table with `k` entries from `first` replaced by the 2-byte values of `b`; the other half of a word keeps its contents,
raw where nothing has written it (R513). -/
def mergeEntries (s : Hw) (g first k : Nat) (b : Bytes) : List Nat :=
  let old := fun j => let w := (tableWord s (AOU_GEN_TAB g (j / 2))).toNat; if j % 2 = 0 then w / 65536 else w % 65536
  let val := fun j => if first ≤ j ∧ j < first + k then u16 b (2 * (j - first)) else old j
  let lo := first / 2
  let hi := (first + k + 1) / 2
  (List.range (hi - lo)).map fun i => val (2 * (lo + i)) * 65536 + val (2 * (lo + i) + 1)

/-- Entries written to a generator's table. A protected word holds four entries; one that the command does not hold whole
keeps its other entries and gains no coverage (R511). -/
def loadEntries (s : Hw) (g first k : Nat) (b : Bytes) : Hw :=
  if k = 0 then s
  else
    let lo := first / 2
    let vs := mergeEntries s g first k b
    let s := (vs.foldl (fun (x : Hw × Nat) v => (putTable x.1 x.2 (BitVec.ofNat 32 v), x.2 + 1)) (s, AOU_GEN_TAB g lo)).1
    let w0 := (first + 3) / 4
    let w1 := (first + k) / 4
    s.each (List.range (w1 - w0)) fun i s => wroteWhole s (AOU_GEN_TAB g 0 / 2 + w0 + i)

/-- The whole table filled with the sine (R456). -/
def fillSine (s : Hw) (g : Nat) : Hw :=
  putWords s (AOU_GEN_TAB g 0)
    ((List.range 512).map fun w => enc 16 (sineEntry (2 * w)) * 65536 + enc 16 (sineEntry (2 * w + 1)))

def opAouTableLoad : OpSpec :=
  { opcode := headAouTableLoad.opcode
    level := headAouTableLoad.level
    maxMs := headAouTableLoad.maxMs
    journal := headAouTableLoad.journal
    fixed := 6
    maxLen := 6 + 2 * 1000
    implied := fun p =>
      let n := u16 p 4
      if n ≤ 1000 ∧ (n ≠ 0 ∨ hasBit (u8 p 1) 1) then .ok (6 + 2 * n) else .error 4
    check := fun _ p =>
      match runChks [.rng 1 0 3, .msk 1 3, .rng 2 0 1023] 1 0 p with
      | some k => some k
      | none => if u16 p 2 + u16 p 4 > 1024 then some 4 else none
    body := fun s c =>
      let g := u8 c.p 0
      let sine := hasBit (u8 c.p 1) 1
      let s' := s.cond sine fun s => fillSine s g
      let s' := loadEntries s' g (u16 c.p 2) (u16 c.p 4) (c.p.drop 6)
      if !sine && !hasBit (u8 c.p 1) 0 then .ok s'
      else if sine || coverFull s' (3 + g) then
        .ok ((setDeclared s' (3 + g) true).raise 0x0C07 [3 + g, Map.get 0 s.mem.preN (3 + g)])
      else .refuse stCONDITIONS 1 s
    doms := aouDoms
    conc := aouConc 0x1006 }

/-- Words 0 to 4 of Table 14-5. -/
def outWords (o : Nat) : List Nat := [AOU_OCFG o, AOU_CODE o, AOU_DITHER o, AOU_OSTAT o, AOU_OLATCH o]

def opAouStatusRead : OpSpec :=
  { OpSpec.fix headAouStatusRead [.msk 4 0xFFFFFF] fun s c =>
      .ok s (s.wordsAt ([AOU_TBL, AOU_LATCH] ++ (bitsOf 24 (u32 c.p 0)).flatMap outWords) ++ s.dtimeBytes) with
    doms := aouDoms }

/-- An output's range and safe code take their stored values, or those of a cold start where none are stored (R450). -/
def restoreAou (o : Nat) (s : Hw) : Hw :=
  let s := s.coldRegs [AOU_OCFG o]
  let s := match adoptedBody s (0x10020000 + o) with
    | some p => applyAouRange p s
    | none => s
  match adoptedBody s (0x10030000 + o) with
  | some p => applyAouSafe p s
  | none => s

/-- D15 powers up (R450, R451, R461): outputs at their safe codes, never written, no dither, generators stopped with phase
0, no table declared. -/
def aouPowerUp (s : Hw) : Hw :=
  let s := s.each outputs fun o s =>
    (s.coldRegs [AOU_CODE o, AOU_DITHER o, AOU_OSTAT o, AOU_OLATCH o]).setFld (AOU_OSTAT_hiz o) 0
  let s := { s.coldRegs [AOU_LATCH] with aou := { instant := s.dtime / 1000 } }
  let s := s.each outputs restoreAou
  let s := s.each outputs fun o s => s.updOut o fun x => { x with want := s.fld (AOU_OCFG_safe o) }
  let s := s.each outputs fun o s => s.updOut o fun x => { x with drive := x.want }
  s.each [0, 1, 2, 3] fun g s =>
    (s.setNum (AOU_GEN_PHASE g) 0).setNum (AOU_GEN_INC g) (if genNamed s g then pilotInc (pilotFreq s g) else 0)

/-- D15 is lost: outputs are high impedance until it is ready again, every generator stops with phase 0 (R450, Table 14-2). -/
def aouDown (s : Hw) : Hw :=
  let s := s.zeroRegs ([0, 1, 2, 3].map AOU_GEN_PHASE)
  s.each outputs fun o s => s.coldRegs [AOU_CODE o, AOU_DITHER o, AOU_OSTAT o]

end Sys2Proof.Machine
end

