-- ==== Sys2Proof/Machine/Lanes.lean ====
section
/-!
DEFINITION. Line lanes (04): transmit taps, levels and pre-distortion, receive equalisation, seeds and stored sets,
measurements, and the LTX and LRX commands.
-/
namespace Sys2Proof.Machine
open Reg

def Hw.grp (s : Hw) (g : Nat) : Grp := Map.get {} s.grps g
def Hw.updGrp (s : Hw) (g : Nat) (f : Grp → Grp) : Hw := { s with grps := Map.upd {} s.grps g f }

def Hw.lane (s : Hw) (n : Nat) : Lane := Map.get {} s.lanes n
def Hw.updLane (s : Hw) (n : Nat) (f : Lane → Lane) : Hw := { s with lanes := Map.upd {} s.lanes n f }

/-! ### Transmitters (R216, R371) -/

/-- Is a front-end unit wired, and is its step table declared (R371, R384)? -/
def wired (s : Hw) (u : Nat) : Bool := s.fld (FES_MAP0_bias_out u) != 255 && s.fld (FES_MAP0_gate_out u) != 255
def tableOk (s : Hw) (u : Nat) : Bool := s.declared (7 + u)

/-- A lane's transmitter can reach EMIT: nothing of R371 but LNK's own request holds it lower. -/
def mayEmit (s : Hw) (n : Nat) : Bool :=
  s.ready 15 && wired s n && tableOk s n && s.fld (FES_STATE_target n) == 4 && !s.flag (FES_STATE_cmis_dis n) &&
    !s.flag (FES_STATE_fault n) && s.flag (FES_STATE_lock n)

/-- It has reached EMIT. -/
def canEmit (s : Hw) (n : Nat) : Bool := mayEmit s n && s.fld (FES_STATE_state n) == 4

/-- Does a lane retrain in service, its training frames in place of lane frames (R242)? Phase 4 ends at the frame agreed. -/
def retraining (s : Hw) (n : Nat) : Bool :=
  (Map.get none (s.grp (laneGroup n)).retrain (n % 4)).any fun r => r.phase == 2 || r.phase == 3 || r.phase == 4

/-- The lanes a mask names. -/
def lanesOf (mask : Nat) : List Nat := bitsOf 8 mask

/-- The mode that the group of lane `n` agreed on (Table 06-10); 3 none. -/
def laneMode (s : Hw) (n : Nat) : Nat := s.fld (LNK_STATUS_mode (laneGroup n))

/-- The present peer tag of a lane's group; 0 in C2 (R147). -/
def laneTag (s : Hw) (n : Nat) : Nat := if laneMode s n = 2 then 0 else s.num (LNK_PEER (laneGroup n))

/-! ### Decimal logarithms of ratios -/

/-- `10 ^ (2 n - 1) * b ^ (2 k) ≤ a ^ (2 k)`, for a signed `n`: whether `k * log10 (a / b) ≥ n - 1/2`. -/
def logAtLeast (k a b : Nat) (n : Int) : Bool :=
  let e := 2 * n - 1
  if 0 ≤ e then decide (10 ^ e.toNat * b ^ (2 * k) ≤ a ^ (2 * k))
  else decide (b ^ (2 * k) ≤ a ^ (2 * k) * 10 ^ (-e).toNat)

/-- `round (k * log10 (a / b))` limited to `lo` to `lo + n`. -/
def roundLog (k a b : Nat) (lo : Int) (n : Nat) : Int :=
  (List.range n).foldl (fun (r : Int) (i : Nat) => if logAtLeast k a b (lo + 1 + i) then lo + 1 + i else r) lo

/-! ### Equaliser values (Table 04-5, bytes 16 to 131) -/

/-- The present values of a lane as bytes 16 to 131 of a stored set. -/
def presentBody (s : Hw) (n : Nat) : Bytes :=
  toBE 4 (s.num (LTX_TAPS n 0)) ++ toBE 3 (s.num (LTX_TAPS n 1) / 256) ++ [0] ++
    toBE 1 (s.fld (LTX_LEVELS_inner_pos n)) ++ toBE 1 (s.fld (LTX_LEVELS_inner_neg n)) ++
    toBE 1 (s.fld (LRX_AFE_ctle n)) ++ toBE 1 (s.fld (LRX_AFE_vga n)) ++ toBE 1 (s.fld (LRX_CFG_main_pos n)) ++
    toBE 1 (enc 8 (s.fldS (LRX_CFG_cdr_phase n))) ++ [0, 0] ++
    ((List.range 48).flatMap fun i => toBE 2 (enc 16 (s.fldS (LRX_FFE_tap n i)))) ++
    toBE 2 (s.fld (LRX_RSSE_h1 n)) ++ toBE 2 (enc 16 (s.fldS (LRX_RSSE_h2 n)))

def setTaps (s : Hw) (n : Nat) (b : Bytes) : Hw :=
  (s.setNum (LTX_TAPS n 0) (u32 b 0)).setNum (LTX_TAPS n 1) (un b 4 3 * 256)

def setFront (s : Hw) (n ctle vga : Nat) : Hw := (s.setFld (LRX_AFE_ctle n) ctle).setFld (LRX_AFE_vga n) vga

/-- 48 taps of two bytes each; the main tap is held at 1024 (R136). -/
def setFfe (s : Hw) (n : Nat) (b : Bytes) : Hw :=
  let m := s.fld (LRX_CFG_main_pos n)
  s.each (List.range 48) fun i s => s.setFld (LRX_FFE_tap n i) (if i = m then 1024 else u16 b (2 * i))

/-- The main tap of the present main position is 1024 (R136). -/
def holdMain (s : Hw) (n : Nat) : Hw := s.setFld (LRX_FFE_tap n (s.fld (LRX_CFG_main_pos n))) 1024

def setRsse (s : Hw) (n h1 : Nat) (h2 : Int) : Hw := (s.setFld (LRX_RSSE_h1 n) h1).setFldS (LRX_RSSE_h2 n) h2

/-- Adaptation mode 2, host (Table 04-3). -/
def isHost (s : Hw) (f : Fld) : Bool := s.fld f == 2

/-- A seed's values taken by a lane (R146): front end, FFE, h1, h2, cdr_phase and, in N4 and N2X, the transmit taps; a
block in host mode keeps its own. DEDUCED (log 113): R146 names cdr_phase among them, so the read-write field LRX_CFG.cdr_phase takes it. -/
def takeSeed (s : Hw) (n : Nat) (b : Bytes) : Hw :=
  let s := s.cond (!isHost s (LRX_ADAPT_afe n)) fun s => setFront s n (u8 b 10) (u8 b 11)
  let s := s.cond (!isHost s (LRX_ADAPT_ffe n)) fun s => setFfe s n (b.drop 16)
  let s := s.cond (!isHost s (LRX_ADAPT_rsse n)) fun s => setRsse s n (u16 b 112) (s16 b 114)
  let s := s.setFldS (LRX_CFG_cdr_phase n) (s8 b 13)
  s.cond (laneMode s n < 2) fun s => setTaps s n b

/-! ### The store (R149 to R151) -/

/-- A lane's stored set of a mode and peer tag. -/
def findSet (s : Hw) (n mode tag : Nat) : Option EqSet :=
  s.nv.ident.eqSets.find? fun e => e.lane == n && e.mode == mode && e.tag == tag

/-- A lane's sets of a mode. -/
def EqSet.ofLane (e : EqSet) (n mode : Nat) : Bool := e.lane == n && e.mode == mode

/-- Bytes 0 to 15 of a stored set. -/
def setHead (e : EqSet) : Bytes :=
  toBE 4 e.tag ++ toBE 1 e.mode ++ toBE 1 e.lane ++ toBE 2 e.version ++ toBE 6 e.time ++ toBE 2 e.margin

/-- The CRC of a set's bytes 0 to 251, and whether the stored one equals it. -/
def EqSet.check (e : EqSet) : Nat := crc32 (setHead e ++ e.body ++ zeros 120)
def EqSet.crcOk (e : EqSet) : Bool := e.crc == e.check

/-- Why a set is rejected (R151): 1 its CRC, 2 an unknown format version; 0 it is valid. -/
def EqSet.fault (e : EqSet) : Nat := if !e.crcOk then 1 else if e.version ≠ 1 then 2 else 0

/-- A new set (R150): in a free entry of the 8 of its lane and mode, or over the least recently used of another peer tag; then any
older set of its key goes. The list keeps the least recently used first. -/
def putSet (l : List EqSet) (e : EqSet) : List EqSet :=
  let e := { e with crc := e.check }
  let same := l.filter fun x => x.ofLane e.lane e.mode
  let l := if same.length < 8 then l else match same.find? fun x => x.tag != e.tag with
    | some old => l.erase old
    | none => l
  (l.filter fun x => !(x.ofLane e.lane e.mode && x.tag == e.tag)) ++ [e]

def setIdent (s : Hw) (f : Ident → Ident) : Hw := { s with nv := { s.nv with ident := f s.nv.ident } }

/-- The present set of lane `n` (Table 04-5), before its CRC. -/
def presentSet (s : Hw) (n : Nat) : EqSet :=
  { lane := n, mode := laneMode s n, tag := laneTag s n, time := s.optime, margin := enc 16 (s.fldS (LRX_MEAS_margin n)),
    body := presentBody s n }

/-- Save a lane's present set (R149), with event 0x0406; the 24 h count from the last automatic save. -/
def saveLane (s : Hw) (n byCommand : Nat) : Hw :=
  let e := presentSet s n
  let s := setIdent s fun d => { d with eqSets := putSet d.eqSets e }
  let s := s.cond (byCommand == 0) fun s => s.updLane n fun l => { l with savedAt := some s.dtime }
  s.raise 0x0406 [n, e.tag, byCommand]

/-- A set that serves as a seed is the most recently used (R150). -/
def touchSet (s : Hw) (e : EqSet) : Hw := setIdent s fun d => { d with eqSets := d.eqSets.erase e ++ [e] }

/-! ### Seeds (R146, R148, R151) -/

/-- The CTLE settings of the sweep after the factory default (R148, step 3). -/
def sweep : List Nat := [3, 7, 11, 15]

/-- What step `k` of a lane's seed list holds: its values, and the stored set they stand in. -/
inductive SeedSource
  | none
  | values (b : Bytes)
  | stored (e : EqSet)
  deriving DecidableEq, Repr

/-- Step `k` of a lane's seed list: 0 retained, 1 stored, 2 host default, 3 factory default, 4 to 7 the sweep. -/
def seedAtStep (s : Hw) (n k : Nat) : SeedSource :=
  let mode := laneMode s n
  let set := fun tag => match findSet s n mode tag with
    | some e => SeedSource.stored e
    | none => .none
  match k with
  | 0 =>
    match (s.lane n).retained with
    | some (m, t, b) => if m = mode ∧ t = laneTag s n then .values b else .none
    | none => .none
  | 1 => set (laneTag s n)
  | 2 => set 0xFFFFFFFF
  | 3 => .values (factoryBody n mode)
  | k + 4 =>
    let f := factoryBody n mode
    .values (f.take 10 ++ toBE 1 (sweep.getD k 0) ++ f.drop 11)

/-- The values of step `k` are the lane's seed: the source goes to LRX_STATUS.seed (R146). -/
def applySeed (s : Hw) (n k : Nat) (b : Bytes) : Hw :=
  let s := (takeSeed s n b).setFld (LRX_STATUS_seed n) (min (k + 1) 4)
  s.updLane n fun l => { l with seedStep := k, seedAt := s.dtime, taps0 := s.num (LTX_TAPS n 0), taps1 := s.num (LTX_TAPS n 1) }

/-- Apply the first available seed from step `k` on (R146): a stored set whose CRC or format version is bad is rejected with event
0x0405 (R151); after the sweep the cycle begins again with event 0x0404. -/
def seedFrom : Nat → Nat → Nat → Hw → Hw
  | 0, _, _, s => s
  | fuel + 1, k, n, s =>
    if k ≥ 8 then
      seedFrom fuel 0 n ((s.updLane n fun l => { l with best := -1024 }).raise 0x0404 [n, enc 32 (s.lane n).best])
    else match seedAtStep s n k with
      | .none => seedFrom fuel (k + 1) n s
      | .values b => applySeed s n k b
      | .stored e =>
        if e.fault ≠ 0 then seedFrom fuel (k + 1) n (s.raise 0x0405 [n, e.tag, e.fault])
        else applySeed (touchSet s e) n k e.body

/-- A lane starts acquisition with its first seed (R146, R148). -/
def seedLane (s : Hw) (n : Nat) : Hw :=
  let s := s.setFld (LRX_STATUS_converged n) 0
  let s := s.updLane n fun l => { l with p2At := s.dtime, best := -1024, goodRun := 0, sync := false, savedAt := none }
  seedFrom 20 0 n s

/-- The lanes of a group keep what they hold when it leaves P5 (R146, item 1). -/
def retainGroup (s : Hw) (g : Nat) : Hw :=
  s.each (groupLanes g) fun n s =>
    s.updLane n fun l => { l with retained := some (laneMode s n, laneTag s n, presentBody s n) }

/-- Transmit squelch (R124, R162): a lane drives only while its PLL is locked and its group is out of P0. -/
def settleSquelch (s : Hw) (n : Nat) : Hw :=
  s.setFlag (LTX_STATUS_squelch n) (!(s.flag (LTX_STATUS_pll_lock n) && s.stage (laneGroup n) != 0))

/-! ### Commands (Table 04-8) -/

/-- The lanes that a lane command names, from its opcode and parameters. -/
def laneMaskOf (opc : Nat) (p : Bytes) : Nat :=
  if opc = 0x0403 ∨ opc = 0x0406 then 2 ^ (u8 p 0 % 8) else if opc = 0x0408 then 0 else u8 p 0

/-- Commands whose lane masks share no lane are concurrent (R159). -/
def laneConc (opc : Nat) : Hw → Bytes → RunCmd → Bool :=
  fun _ p r => (laneMaskOf opc p &&& laneMaskOf r.opcode (coreParams r.req)) == 0

def laneDoms : Hw → Bytes → List Nat := fun _ p => lanesOf (u8 p 0)
def oneLane : Hw → Bytes → List Nat := fun _ p => [u8 p 0 % 8]

def opLtxConfig : OpSpec :=
  { OpSpec.fix headLtxConfig [.nzm 1 0xFF, .rng 1 0 15, .msk 1 3] fun s c =>
      .ok (s.each (lanesOf (u8 c.p 0)) fun n s =>
        ((s.setFld (LTX_CFG_swing n) (u8 c.p 1)).setFld (LTX_CFG_invert n) (bit (u8 c.p 2) 0)).setFld
          (LTX_CFG_pd_bypass n) (bit (u8 c.p 2) 1)) with
    doms := laneDoms, conc := laneConc 0x0301 }

def opLtxTapSet : OpSpec :=
  { OpSpec.fix headLtxTapSet ([.nzm 1 0xFF] ++ List.replicate 7 (.any 1)) fun s c =>
      if (lanesOf (u8 c.p 0)).any fun n => s.stage (laneGroup n) == 2 then .refuse stCONDITIONS 1 s
      else .ok (s.each (lanesOf (u8 c.p 0)) fun n s => setTaps s n (c.p.drop 1)) with
    check := fun _ p => if u8 p 0 = 0 then some 1 else if tapsOk (p.drop 1) then none else some 4
    doms := laneDoms, conc := laneConc 0x0302 }

def opLtxLevelsSet : OpSpec :=
  { OpSpec.fix headLtxLevelsSet [.nzm 1 0xFF, .rng 1 64 106, .rng 1 64 106] fun s c =>
      .ok (s.each (lanesOf (u8 c.p 0)) fun n s =>
        (s.setFld (LTX_LEVELS_inner_pos n) (u8 c.p 1)).setFld (LTX_LEVELS_inner_neg n) (u8 c.p 2)) with
    doms := laneDoms, conc := laneConc 0x0303 }

def opLtxPdLoad : OpSpec :=
  { OpSpec.fix headLtxPdLoad [.nzm 1 0xFF, .any 64] fun s c =>
      .ok (s.each (lanesOf (u8 c.p 0)) fun n s =>
        s.each (List.range 16) fun w s => s.setNum (LTX_PD n w) (u32 c.p (1 + 4 * w))) with
    doms := laneDoms, conc := laneConc 0x0304 }

def opLrxConfig : OpSpec :=
  { OpSpec.fix headLrxConfig
      [.nzm 1 0xFF, .rng 1 20 80, .rng 1 8 24, .msk 1 3, .rng 1 0 3, .srng 1 (-32) 31, .any 1] fun s c =>
      let ls := lanesOf (u8 c.p 0)
      if (ls.any fun n => s.fld (LRX_CFG_main_pos n) != u8 c.p 2) && ls.any fun n => decide (2 ≤ s.stage (laneGroup n)) then
        .refuse stCONDITIONS 1 s
      else .ok (s.each ls fun n s =>
        let s := holdMain ((s.setFld (LRX_CFG_los_thr n) (u8 c.p 1)).setFld (LRX_CFG_main_pos n) (u8 c.p 2)) n
        let s := (s.setFld (LRX_CFG_invert n) (bit (u8 c.p 3) 0)).setFld (LRX_CFG_rsse_en n) (bit (u8 c.p 3) 1)
        ((s.setFld (LRX_CFG_cdr_bw n) (u8 c.p 4)).setFldS (LRX_CFG_cdr_phase n) (s8 c.p 5)).setFld
          (LRX_CFG_conv_margin n) (u8 c.p 6)) with
    doms := laneDoms, conc := laneConc 0x0401 }

def opLrxAdaptSet : OpSpec :=
  { OpSpec.fix headLrxAdaptSet [.nzm 1 0xFF, .rng 1 0 2, .rng 1 0 2, .rng 1 0 2, .rng 1 0 15, .rng 1 0 15] fun s c =>
      .ok (s.each (lanesOf (u8 c.p 0)) fun n s =>
        let s := (s.setFld (LRX_ADAPT_afe n) (u8 c.p 1)).setFld (LRX_ADAPT_ffe n) (u8 c.p 2)
        ((s.setFld (LRX_ADAPT_rsse n) (u8 c.p 3)).setFld (LRX_ADAPT_mu_train n) (u8 c.p 4)).setFld
          (LRX_ADAPT_mu_track n) (u8 c.p 5)) with
    doms := laneDoms, conc := laneConc 0x0402 }

/-- Freeze or host mode: value 3 is treated as freeze (Table 04-3). -/
def held (s : Hw) (f : Fld) : Bool := s.fld f != 0

/-- DESIGN CHOICE (log 72): Table 04-8 lists the 48 taps as one item; a tap out of range is parameter 7 to 54, each tap numbered by
itself. -/
def opLrxEqSet : OpSpec :=
  { OpSpec.fix headLrxEqSet
      ([.rng 1 0 7, .msk 1 7, .rng 1 0 15, .rng 1 0 24, .rng 2 0 768, .srng 2 (-256) 256] ++
        List.replicate 48 (.srng 2 (-2048) 2047)) fun s c =>
      let n := u8 c.p 0
      let m := u8 c.p 1
      if (hasBit m 0 && !held s (LRX_ADAPT_afe n)) || (hasBit m 1 && !held s (LRX_ADAPT_ffe n)) ||
          (hasBit m 2 && !held s (LRX_ADAPT_rsse n)) then .refuse stCONDITIONS 1 s
      else
        let s := s.cond (hasBit m 0) fun s => setFront s n (u8 c.p 2) (u8 c.p 3)
        let s := s.cond (hasBit m 1) fun s => setFfe s n (c.p.drop 8)
        .ok (s.cond (hasBit m 2) fun s => setRsse s n (u16 c.p 4) (s16 c.p 6)) with
    doms := oneLane, conc := laneConc 0x0403 }

def opLrxEqRead : OpSpec :=
  { OpSpec.fix headLrxEqRead [.rng 1 0 7] fun s c =>
      let n := u8 c.p 0
      .ok s (presentBody s n ++ s.wordsAt [LRX_STATUS n, LRX_FREQ n, LRX_MEAS n] ++ s.dtimeBytes ++ zeros 4) with
    doms := oneLane }

def measBytes (s : Hw) (n : Nat) : Bytes :=
  s.wordsAt [LRX_STATUS n, LRX_MEAS n, LRX_PREFEC n, LRX_FREQ n, LRX_UNCORR n, LRX_BITS n, LRX_BITS n + 1, LRX_CORR n,
    LRX_CORR n + 1] ++ s.dtimeBytes

def opLrxMeasRead : OpSpec :=
  { OpSpec.fix headLrxMeasRead [.nzm 1 0xFF, .msk 1 1] fun s c =>
      let ls := lanesOf (u8 c.p 0)
      .ok (s.cond (hasBit (u8 c.p 1) 0) fun s => s.each ls fun n s =>
        s.zeroRegs [LRX_UNCORR n, LRX_BITS n, LRX_BITS n + 1, LRX_CORR n, LRX_CORR n + 1])
        (ls.flatMap (measBytes s)) with
    doms := laneDoms }

def opLrxHistRun : OpSpec :=
  { OpSpec.fix headLrxHistRun [.rng 1 0 7, .rng 1 0 1, .rng 1 16 30] fun s c =>
      let n := u8 c.p 0
      if s.flag (LRX_STATUS_hist_busy n) then .refuse stCONDITIONS 1 s
      else if s.flag (LRX_STATUS_los n) then .refuse stCONDITIONS 2 s
      else
        let old := (List.range 256).map fun i => s.num (LRX_HIST n i)
        let s := s.each (List.range 256) fun i s => setPoison (s.setNum (LRX_HIST n i) 0) (LRX_HIST n i) false
        let s := s.setFld (LRX_STATUS_hist_busy n) 1
        .wait (.hist n) (s.updLane n fun l => { l with hist := some (u8 c.p 1, u8 c.p 2), histLos := false, histOld := old }) with
    doms := oneLane, conc := laneConc 0x0406 }

def opLrxHistRead : OpSpec :=
  { OpSpec.fix headLrxHistRead [.rng 1 0 7, .rng 1 0 255, .rng 2 1 256] fun s c =>
      let n := u8 c.p 0
      let a := LRX_HIST n (u8 c.p 1)
      match (List.range (u16 c.p 2)).find? fun i => poisoned s (a + i) with
      | some i => .refuse stUNCORR ((a + i) % 65536) s
      | none => .ok s (s.words a (u16 c.p 2)) with
    check := fun _ p =>
      match runChks [.rng 1 0 7, .rng 1 0 255, .rng 2 1 256] 1 0 p with
      | some k => some k
      | none => if u8 p 1 + u16 p 2 > 256 then some 3 else none
    doms := oneLane }

/-- Is a capture armed (Table 16-4: pre-fill, ready or post)? -/
def armed (s : Hw) : Bool := decide (1 ≤ s.fld GTH_STATE_state ∧ s.fld GTH_STATE_state ≤ 3)

def opLrxGthSelect : OpSpec :=
  OpSpec.fix headLrxGthSelect [.rng 1 0 7, .rng 1 0 2] fun s c =>
    if armed s && s.flag GTH_SRC_line then .refuse stCONDITIONS 1 s
    else
      let s := { s with gth := { s.gth with rx := {}, times := [], keptAt := none } }
      .ok ((s.setFld LRX_GTH_SEL_lane (u8 c.p 0)).setFld LRX_GTH_SEL_point (u8 c.p 1))

def opLrxStoreList : OpSpec :=
  OpSpec.fix headLrxStoreList [.nzm 1 0xFF, .rng 1 0 2] fun s c =>
    .ok s ((lanesOf (u8 c.p 0)).flatMap fun n =>
      (s.nv.ident.eqSets.filter fun e => e.lane == n && e.mode == u8 c.p 1 && e.fault == 0).flatMap setHead)

def opLrxStoreSave : OpSpec :=
  { OpSpec.fix headLrxStoreSave [.nzm 1 0xFF] fun s c =>
      let ls := lanesOf (u8 c.p 0)
      if ls.all fun n => s.stage (laneGroup n) == 5 && s.flag (LRX_STATUS_converged n) then
        .ok (s.each ls fun n s => saveLane s n 1)
      else .refuse stCONDITIONS 1 s with
    conc := laneConc 0x0411 }

def opLrxStoreErase : OpSpec :=
  { OpSpec.fix headLrxStoreErase [.nzm 1 0xFF, .one 1 [0, 1, 2, 255], .msk 1 1, .any 4] fun s c =>
      let hit := fun (e : EqSet) => hasBit (u8 c.p 0) e.lane && (u8 c.p 1 == 255 || u8 c.p 1 == e.mode) &&
        (hasBit (u8 c.p 2) 0 || e.tag == u32 c.p 3)
      let k := (s.nv.ident.eqSets.filter hit).length
      .ok (setIdent s fun d => { d with eqSets := d.eqSets.filter fun e => !hit e }) (toBE 2 k) with
    conc := laneConc 0x0412 }

def opLrxSeedLoad : OpSpec :=
  { OpSpec.fix headLrxSeedLoad [.nzm 1 0xFF, .rng 1 0 2, .any 116] fun s c =>
      .ok (s.each (lanesOf (u8 c.p 0)) fun n s =>
        let e : EqSet := { lane := n, mode := u8 c.p 1, tag := 0xFFFFFFFF, time := s.optime, body := c.p.drop 2 }
        setIdent s fun d => { d with eqSets := putSet d.eqSets e }) with
    check := fun _ p =>
      match runChks [.nzm 1 0xFF, .rng 1 0 2] 1 0 p with
      | some k => some k
      | none => if bodyOk (p.drop 2) then none else some 3
    conc := laneConc 0x0413 }

/-! ### What happens at a lane -/

/-- Loss of signal (R139, R142): the indication rises, run blocks hold, and event 0x0401 carries the amplitude. -/
def lossOfSignal (n mv : Nat) (s : Hw) : Hw :=
  if !s.ready n || s.flag (LRX_STATUS_los n) || decide (mv ≥ s.fld (LRX_CFG_los_thr n)) then s
  else
    let s := (s.setFld (LRX_STATUS_los n) 1).setFld (LRX_STATUS_held n) 1
    let s := s.updLane n fun l => { l with histLos := l.histLos || l.hist.isSome }
    ((s.setFld (LRX_LATCH_los_seen n) 1).latchLos n).raise 0x0401 [n, mv]

def markGood (s : Hw) (n : Nat) : Hw :=
  s.cond (!s.flag (LRX_STATUS_los n) && s.flag (LRX_STATUS_cdr_lock n)) fun s =>
    s.updLane n fun l => { l with goodAt := s.dtime }

/-- The amplitude has stood above 1.25 times the threshold for 10 µs (R139). -/
def signalRestored (n mv : Nat) (s : Hw) : Hw :=
  if !s.ready n || !s.flag (LRX_STATUS_los n) || decide (4 * mv ≤ 5 * s.fld (LRX_CFG_los_thr n)) then s
  else markGood ((s.setFld (LRX_STATUS_los n) 0).updLane n fun l => { l with sigAt := s.dtime }) n

/-- The lane's group reference is accepted (R122, R125): LREFA for lanes 0 to 3, LREFB for lanes 4 to 7. -/
def laneRefOk (s : Hw) (n : Nat) : Bool := s.flag (PWR_REF_accepted (1 + laneGroup n))

def dropLock (s : Hw) (n : Nat) : Hw :=
  (((s.setFld (LRX_STATUS_cdr_lock n) 0).setFld (LRX_STATUS_held n) 1).setFld (LRX_LATCH_lock_lost n) 1).latchLol n

def lrxLockLost (n : Nat) (freq : Int) (s : Hw) : Hw :=
  if !s.ready n || !s.flag (LRX_STATUS_cdr_lock n) then s
  else (dropLock s n).raise 0x0402 [n, enc 32 freq]

def lrxLockRegained (n : Nat) (s : Hw) : Hw :=
  if !s.ready n || s.flag (LRX_STATUS_cdr_lock n) || !laneRefOk s n then s
  else markGood (s.setFld (LRX_STATUS_cdr_lock n) 1) n

/-- Adaptation resumes 10 µs after both indications are good again (R142). -/
def adaptationResume (n : Nat) (s : Hw) : Hw :=
  if s.flag (LRX_STATUS_held n) && !s.flag (LRX_STATUS_los n) && s.flag (LRX_STATUS_cdr_lock n) &&
      decide ((s.lane n).goodAt + 10000 ≤ s.dtime) then s.setFld (LRX_STATUS_held n) 0 else s

/-- The ADC's saturation over 1 ms (R135): sat stands for the next interval, its latch and event 0x0408 mark its rise. -/
def saturationInterval (n samples saturated : Nat) (s : Hw) : Hw :=
  if !s.ready n then s
  else
    let hit := decide (saturated * 1000 > samples)
    let rose := hit && !s.flag (LRX_STATUS_sat n)
    let s := s.setFlag (LRX_STATUS_sat n) hit
    let s := s.cond hit fun s => s.setFld (LRX_LATCH_sat n) 1
    s.cond rose fun s => s.raise 0x0408 [n, saturated * 1000 / samples]

/-- The reference SNR of a mode (LRX_REF_SNR). DESIGN CHOICE (log 73): the spec gives none while no mode is agreed
(LNK_STATUS.mode 3); the reference is then that of C2. -/
def refSnr (s : Hw) (mode : Nat) : Int :=
  if mode = 0 then s.fld LRX_REF_SNR_n4 else if mode = 1 then s.fld LRX_REF_SNR_n2x else s.fld LRX_REF_SNR_c2

/-- Every 100 ms (R152, R153): the pre-FEC ratio over the preceding second, and what the counters have gained. -/
def prefecUpdate (n bits corr winBits winCorr uncorr fixed : Nat) (s : Hw) : Hw :=
  if !s.ready n then s
  else
    let log : Int := if winBits = 0 ∨ winCorr * 10 ^ 15 < winBits then -1500 else roundLog 100 winCorr winBits (-1500) 1500
    let s := s.setFldS (LRX_PREFEC_log n) log
    let s := s.setFld (LRX_PREFEC_updates n) ((s.fld (LRX_PREFEC_updates n) + 1) % 65536)
    let s := ((s.count64 (LRX_BITS n) bits).count64 (LRX_CORR n) corr).count (LRX_UNCORR n) uncorr
    (s.pmc (0x070 + n) uncorr).pmc (0x078 + n) fixed

/-- The stage a lane is in: each lane has its own in C2 over four lanes (R236). -/
def laneStageOf (s : Hw) (n : Nat) : Nat :=
  if laneMode s n = 2 ∧ s.fld (LFM_CFG_c2_layout (laneGroup n)) = 0 then s.num (LNK_LSTAGE (laneGroup n)) / 16 ^ (n % 4) % 8
  else s.stage (laneGroup n)

/-- Is the lane still acquiring: its group in P2, the lane in P3 of C2, or retraining in service (R148, R236, R242)? -/
def acquiring (s : Hw) (n : Nat) : Bool :=
  let st := s.stage (laneGroup n)
  !s.flag (LRX_STATUS_converged n) &&
    (if laneMode s n = 2 then laneStageOf s n == 3 else st == 2 || (st == 5 && retraining s n))

/-- No training sync 20 ms after the seed: the next source (R148, steps 2 to 4). -/
def seedAttemptTimeout (n : Nat) (s : Hw) : Hw :=
  let l := s.lane n
  if s.ready n && acquiring s n && !l.sync && decide (l.seedAt + 20000000 ≤ s.dtime) then seedFrom 20 (l.seedStep + 1) n s
  else s

/-- Three consecutive updates at or above conv_margin (R148, step 6). -/
def laneConverged (n : Nat) (s : Hw) : Hw :=
  let l := s.lane n
  if s.ready n && acquiring s n && decide (l.goodRun ≥ 3) then
    let s := (s.setFld (LRX_STATUS_converged n) 1).updLane n fun l => { l with convAt := s.dtime }
    s.raise 0x0403 [n, s.fld (LRX_STATUS_seed n), (s.dtime - l.p2At) / 1000000]
  else s

/-- 60 s converged in P5 without interruption, and every 24 h of P5 after (R149). -/
def storedSetAutoSave (n : Nat) (s : Hw) : Hw :=
  let l := s.lane n
  let due := match l.savedAt with
    | none => decide (max l.convAt l.p5At + 60000000000 ≤ s.dtime)
    | some t => decide (t + 86400000000000 ≤ s.dtime)
  if s.ready n && s.stage (laneGroup n) == 5 && s.flag (LRX_STATUS_converged n) && due && !s.fenced 19 then saveLane s n 0
  else s

/-- A histogram run ends (R155): the samples counted per bin are added, of ADC codes in bins 0 to 127; loss of signal during the run
has stopped it at `symbols`. -/
def histRunComplete (n symbols : Nat) (bins : List Nat) (s : Hw) : Hw :=
  match (s.lane n).hist with
  | none => s
  | some (p, d) =>
    let los := (s.lane n).histLos
    let k := if los then min symbols (2 ^ d) else 2 ^ d
    let s := s.each (List.range (if p = 0 then 128 else 256)) fun i s =>
      s.setNum (LRX_HIST n i) (min (s.num (LRX_HIST n i) + bins.getD i 0) (2 ^ 32 - 1))
    let s := (s.setFld (LRX_STATUS_hist_busy n) 0).updLane n fun l => { l with hist := none, histLos := false, histOld := [] }
    setOutcome s (fun r => r.wait == .hist n) stOK 0 (toBE 1 (if los then 1 else 0) ++ zeros 3 ++ toBE 8 k)

/-- The transmit PLL locks within 200 µs of readiness or of its reference (R124); a lane domain is then ready for
analogue work (Table 18-1). -/
def txPllLock (n : Nat) (s : Hw) : Hw :=
  if !s.ready n || s.flag (LTX_STATUS_pll_lock n) || !laneRefOk s n then s
  else
    let s := (s.setFld (LTX_STATUS_pll_lock n) 1).setFld (PWR_DOM_analog n) 1
    settleSquelch s n

def txPllLockLost (n : Nat) (s : Hw) : Hw :=
  if !s.flag (LTX_STATUS_pll_lock n) then s
  else (settleSquelch (s.setFld (LTX_STATUS_pll_lock n) 0) n).raise 0x0301 [n]

/-! ### Reset and power-up of a lane domain (R157, R162) -/

/-- The words of lane `n` that a wake does not restore: all but the read-write fields and the pre-distortion table. -/
def laneLost (n : Nat) : List Nat :=
  [LTX_STATUS n, LTX_TAPS n 0, LTX_TAPS n 1, LRX_STATUS n, LRX_LATCH n, LRX_MEAS n, LRX_PREFEC n, LRX_FREQ n, LRX_BITS n,
    LRX_BITS n + 1, LRX_CORR n, LRX_CORR n + 1, LRX_UNCORR n, LRX_RSSE n, LRX_AFE n] ++
    (List.range 48).map (LRX_FFE n) ++ (List.range 256).map (LRX_HIST n)

/-- The lane's registers take the factory default of a mode (Tables 04-11 and 04-16). -/
def loadFactory (s : Hw) (n mode : Nat) : Hw :=
  let b := factoryBody n mode
  let s := s.each [0, 1] fun i s => s.setNum (LTX_TAPS n i) (tapsWord b i)
  let s := s.each (List.range 48) fun i s => s.setNum (LRX_FFE n i) (ffeWord b (s.fld (LRX_CFG_main_pos n)) i)
  (s.setNum (LRX_RSSE n) (rsseWord b)).setNum (LRX_AFE n) (afeWord b)

/-- The lane's domain powers up: adapted values, measurements and histograms are lost (R157, R514), the registers hold the factory
default of the mode in force, or else (DESIGN CHOICE: log 112) of the preferred one. `held` is 1 as los is (R142). DESIGN CHOICE (log 74): Table 04-14's cold-start
value 0 of held is what State.reset holds, before the domain is powered. -/
def lanePowerUp (s : Hw) (n : Nat) : Hw :=
  let s := { s.coldRegs (laneLost n) with lanes := Map.put {} s.lanes n {} }
  let m := if laneMode s n < 3 then laneMode s n else s.fld (LFM_CFG_mode_pref (laneGroup n))
  let s := s.cond (m != 0 || s.fld (LRX_CFG_main_pos n) != 12) fun s => loadFactory s n m
  s.setFld (LRX_STATUS_held n) 1

end Sys2Proof.Machine
end

