-- ==== Sys2Proof/Machine/Fes.lean ====
section
/-!
DEFINITION. The front-end sequencer (11): the state in effect, moves, lock and temperature, faults, turns, step tables and
ramps, FESPI and hooks, the FES commands, and the compliance of outputs (R449) that faults units.
-/
namespace Sys2Proof.Machine
open Reg

def Hw.fesu (s : Hw) (u : Nat) : Fes := Map.get {} s.fes u
def Hw.updFes (s : Hw) (u : Nat) (f : Fes → Fes) : Hw := { s with fes := Map.upd {} s.fes u f }
def units12 : List Nat := List.range 12
def Hw.fstate (s : Hw) (u : Nat) : Nat := s.fld (FES_STATE_state u)

/-! ### Step tables (R384) -/

def stepBias (s : Hw) (u e : Nat) : Nat := s.num (FES_STEPTAB u (2 * e)) / 65536
def stepDrive2 (s : Hw) (u e : Nat) : Nat := s.num (FES_STEPTAB u (2 * e)) % 65536
def stepExpected (s : Hw) (u e : Nat) : Int := sx 16 (s.num (FES_STEPTAB u (2 * e + 1)) / 65536)
def stepValid (s : Hw) (u e : Nat) : Bool := s.num (FES_STEPTAB u (2 * e + 1)) % 2 == 1

/-- The last valid entry of a table, 0 where there is none. -/
def lastStep (s : Hw) (u : Nat) : Nat :=
  ((List.range 32).foldl (fun (x : Nat × Bool) e => if x.2 && stepValid s u e then (e + 1, true) else (x.1, false))
    (0, true)).1 - 1

/-- The first fault of a whole table (R384): a misplaced valid bit names field 5 of its entry, a fall or a step above 1.00 dB
field 3 of the higher entry of the pair. -/
def tableFault (s : Hw) (u : Nat) : Option Nat :=
  if !stepValid s u 0 then some 105
  else
    let last := lastStep s u
    match (List.range 32).find? fun e => decide (e > last) && stepValid s u e with
    | some e => some (100 * (e + 1) + 5)
    | none =>
      match (List.range 32).find? fun e =>
          decide (1 ≤ e ∧ e ≤ last) &&
            (let d := stepExpected s u e - stepExpected s u (e - 1); decide (d < 0 ∨ d > 100)) with
      | some e => some (100 * (e + 1) + 3)
      | none => none

/-- The step target (R386, R398, R409): FES_STEP_SET's or the loop's for a transmitter, at most `last`, and at most the APR
step while power is reduced; BRC's for an amplifier stage. -/
def stepTarget (s : Hw) (u : Nat) : Nat :=
  if u ≥ 8 then min (s.fld (BRC_SSTAT_target (u - 8))) (lastStep s u)
  else
    let base := if s.flag (FES_MAP2_step_src u) then Map.get 0 s.cle.steps u else (s.fesu u).stgt
    let t := min base (lastStep s u)
    match (s.fesu u).apr with
    | some (some k) => min t k
    | _ => t

/-! ### The state in effect (R371, R374, R376) -/

/-- The target as a state the unit has: a request for LISTEN on an amplifier stage is met as LIT (Table 11-1). -/
def unitTarget (s : Hw) (u : Nat) : Nat :=
  let t := s.fld (FES_STATE_target u)
  if u ≥ 8 ∧ t = 3 then 2 else t

/-- The highest state that every limit of R371 allows. After a loss of lock in EMIT the unit holds LISTEN where that is
allowed (R376); the turn of a protection lane takes the place of LNK's request (R382). -/
def effect (s : Hw) (u : Nat) : Nat :=
  if !s.ready 15 || !wired s u then 0
  else
    let e := unitTarget s u
    let e := if u < 8 ∧ s.stage (u / 4) ≠ 0 ∧ !(s.fesu u).turned then min e (s.fld (FES_STATE_line u)) else e
    let e := if s.flag (FES_STATE_cmis_dis u) then min e 3 else e
    let e := if s.flag (FES_STATE_fault u) || !tableOk s u then min e 1 else e
    if s.flag (FES_STATE_lock u) then e else min e (if (s.fesu u).lost && decide (u < 8) then 3 else 2)

/-! ### Loop errors (R375, R393, R432) -/

/-- The error of a named loop: outside every window while the loop is not in auto or its input is stale, 0 where the unit
names none. -/
def loopErr (s : Hw) (l : Nat) : Int :=
  if l = 255 then 0
  else if s.fld (CLE_STATUS_mode l) = 2 ∧ !s.flag (CLE_STATUS_stale l) then s.int (CLE_E l)
  else 0x7FFFFFFF

def tecErr (s : Hw) (u : Nat) : Int := loopErr s (s.fld (FES_MAP1_tec_loop u))
def lockErr (s : Hw) (u : Nat) : Int := loopErr s (s.fld (FES_MAP1_lock_loop u))

/-- Is the temperature error inside its window? -/
def tempIn (s : Hw) (u : Nat) : Bool := decide ((tecErr s u).natAbs ≤ s.fld (FES_MAP1_temp_win u))

/-- Does the unit judge lock by a loop of its own, or take it as temp_ok (R375)? -/
def ownLock (s : Hw) (u : Nat) : Bool := decide (u < 8) && s.fld (FES_MAP1_lock_loop u) != 255

/-- Is the lock error inside its window, lock_win per mille of the loop's input span? -/
def lockIn (s : Hw) (u : Nat) : Bool :=
  decide ((lockErr s u).natAbs * 1000 ≤ s.fld (FES_MAP1_lock_win u) * s.num (CLE_COEF (s.fld (FES_MAP1_lock_loop u) % 32) 15))

/-- Since when the two errors of a unit have been inside or outside their windows (R375). -/
def noteWindows (u : Nat) (s : Hw) : Hw :=
  let x := s.fesu u
  let s := s.cond (x.tempIn != tempIn s u) fun s => s.updFes u fun x => { x with tempIn := tempIn s u, tempAt := s.dtime }
  s.cond (x.lockIn != lockIn s u) fun s => s.updFes u fun x => { x with lockIn := lockIn s u, errAt := s.dtime }

/-- The temperature error has stayed in its window for 500 µs. -/
def tempStayedIn (s : Hw) (u : Nat) : Bool := (s.fesu u).tempIn && decide ((s.fesu u).tempAt + 500000 ≤ s.dtime)
/-- It has stayed outside for 10 µs. -/
def tempStayedOut (s : Hw) (u : Nat) : Bool := !(s.fesu u).tempIn && decide ((s.fesu u).tempAt + 10000 ≤ s.dtime)
/-- The lock error has stayed in its window for 500 µs. -/
def lockStayedIn (s : Hw) (u : Nat) : Bool := (s.fesu u).lockIn && decide ((s.fesu u).errAt + 500000 ≤ s.dtime)
/-- It has stayed outside for 10 µs. -/
def lockStayedOut (s : Hw) (u : Nat) : Bool := !(s.fesu u).lockIn && decide ((s.fesu u).errAt + 10000 ≤ s.dtime)

/-- An error as an event parameter of 32 bits. -/
def errParam (i : Int) : Nat := enc 32 i

/-! ### Outputs -/

/-- Bias and second drive at the codes of the current step, or between two entries. -/
def writeDrives (s : Hw) (u bias drive2 : Nat) : Hw :=
  let b := s.fld (FES_MAP0_bias_out u)
  let d := s.fld (FES_MAP0_drive2_out u)
  (s.cond (b != 255) fun s => aouWrite s b bias 1).cond (d != 255) fun s => aouWrite s d drive2 1

/-- Bias and second drive at their safe values (Table 11-1). -/
def safeDrives (s : Hw) (u : Nat) : Hw :=
  let b := s.fld (FES_MAP0_bias_out u)
  let d := s.fld (FES_MAP0_drive2_out u)
  (s.cond (b != 255) fun s => aouSafe s b 1).cond (d != 255) fun s => aouSafe s d 1

/-- Is the gate to be open (R373, R397, R409)? -/
def gateWanted (s : Hw) (u : Nat) : Bool :=
  s.ready 15 && s.fstate u == 4 && !(s.flag (FES_STATE_moving u) && decide ((s.fesu u).toward < 4)) && effect s u == 4 &&
    s.flag (FES_STATE_lock u) && s.flag (FES_STATE_temp_ok u) && !s.flag (FES_STATE_fault u) &&
    !s.flag (FES_STATE_muted u) && !(s.fesu u).aprShut

/-- The gate output follows the unit: open code or closed code (R374), through the gate path. -/
def settleGate (u : Nat) (s : Hw) : Hw :=
  let o := s.fld (FES_MAP0_gate_out u)
  if o = 255 ∨ !s.ready 15 then s
  else
    let want := if gateWanted s u then s.fld (FES_MAP3_gate_open u) else s.fld (AOU_OCFG_safe o)
    let now := (s.aouOut o).gate.getD (s.aouOut o).want
    if now = want then s else aouGate s o want

/-- A sticky fault: the gate closes, the ramp stops, and the unit goes to WARM. -/
def setFault (s : Hw) (u cause which : Nat) : Hw :=
  if s.flag (FES_STATE_fault u) then s
  else
    let s := ((s.setFld (FES_STATE_fault u) 1).setFld (FES_LATCH_fault u) 1).updFes u fun x => { x with ramp := none }
    let s := s.cond (decide (u < 8)) fun s => s.latchFault u
    settleGate u ((s.setFld (FES_STATE_ramping u) 0).raise 0x0D03 [u, cause, which])

/-- Is the protected word of a step table entry uncorrectable (R508)? -/
def stepPoisoned (s : Hw) (u e : Nat) : Bool := poisoned s (FES_STEPTAB u (2 * e))

/-- The drives at the codes of the current step. An entry found uncorrectable as it is read faults the unit (R380), and the drives stay. -/
def applyStep (s : Hw) (u : Nat) : Hw :=
  let e := s.fld (FES_STATE_step u)
  if stepPoisoned s u e then setFault s u 3 e else writeDrives s u (stepBias s u e) (stepDrive2 s u e)

/-! ### Moves (R372) -/

/-- A move ends: the unit is in state `nxt`, with what Table 11-1 gives that state. Unit 12 has the lane's receive path up in LISTEN
and EMIT and at its safe values below them (R370, R372); the references and the temperature loop are on from WARM up (Table 11-1). -/
def arrive (s : Hw) (u nxt : Nat) : Hw :=
  let old := s.fstate u
  let x := s.fesu u
  let s := (s.setFld (FES_STATE_state u) nxt).setFld (FES_STATE_moving u) 0
  let s := s.updFes u fun x => 
    { x with litAt := none, turn := none, rxOn := decide (u < 8 ∧ nxt ≥ 3), refsOn := decide (nxt ≥ 1), tecOn := decide (nxt ≥ 1) }
  if nxt = 0 then
    let s := (safeDrives s u).updFes u fun x => { x with warmAt := none, lost := false, settled := false, reqAt := none }
    (s.setFld (FES_STATE_temp_ok u) 0).setFld (FES_STATE_lock u) 0
  else if nxt = 1 then
    if old = 0 ∧ s.fld (FES_MAP1_tec_loop u) = 255 then
      let s := ((s.setFld (FES_STATE_temp_ok u) 1).setFld (FES_SETTLE_ms u) 0).updFes u fun x =>
        { x with warmAt := none, settled := false }
      s.cond (!ownLock s u) fun s =>
        ((s.setFld (FES_STATE_lock u) 1).setFld (FES_STATE_held u) 0).updFes u fun x => { x with lockAt := s.dtime, lost := false }
    else
      let s := s.cond (decide (old ≥ 2)) fun s => safeDrives s u
      let w := if s.flag (FES_STATE_temp_ok u) then none else some s.dtime
      s.updFes u fun x => { x with warmAt := w, settled := false, lost := false, ramp := none }
  else if nxt = 2 ∧ old = 1 then applyStep s u
  else if nxt = 4 then
    let t := (s.dtime - x.reqAt.getD s.dtime) / 1000
    let s := (s.updFes u fun x => { x with reqAt := none }).raise 0x0D06 [u, s.fld (FES_STATE_step u), t]
    let s := settleGate u s
    gateWrite (s.fld (FES_MAP0_gate_out u)) s
  else s

/-- The job of a unit's hook frames leaves the master. -/
def dropHooks (s : Hw) (u : Nat) : Hw :=
  let s : Hw := s.updFes u fun x => { x with hooking := false }
  { s with fesq := { s.fesq with jobs := s.fesq.jobs.filter fun j => j.unit != some u } }

/-- `k` bytes read on FESPI_DI: what the external part answers is free. -/
def freeBytes : Nat → Hw → Bytes × Hw
  | 0, s => ([], s)
  | k + 1, s =>
    let (v, s) := s.free
    let (l, s) := freeBytes k s
    (BitVec.ofNat 8 v :: l, s)

/-- A frame on the FESPI, at the clock 50 MHz / (div + 1) and in the mode of its chip select (R387). -/
def spiSend (s : Hw) (cs : Nat) (b : Bytes) : Hw :=
  s.emit (.spi cs (s.fld (FES_SPI_CFG_div cs)) (s.fld (FES_SPI_CFG_mode cs)) b)

/-- The verifying read after a hook frame with its verify flag, of the same length (R389). -/
def spiVerify (s : Hw) (f : HookFrame) : Hw :=
  s.cond f.verify fun s => s.emit (.spiRead f.cs (s.fld (FES_SPI_CFG_div f.cs)) (s.fld (FES_SPI_CFG_mode f.cs)) f.data.length)

/-- The head of the master's queue begins: a host frame is sent and answered, and the next follows; a hook frame is sent, with its verifying
read. -/
def spiGo : Nat → Hw → Hw
  | 0, s => s
  | fuel + 1, s =>
    match s.fesq.jobs with
    | [] => s
    | j :: rest =>
      match j.frames with
      | [] => s
      | f :: _ =>
        let s := spiSend s f.cs f.data
        if j.unit.isSome then spiVerify s f
        else
          let (b, s) := freeBytes f.data.length s
          let s := setOutcome s (fun r => r.wait == .fesSpi && r.index == j.index) stOK 0 b
          spiGo fuel { s with fesq := { s.fesq with jobs := rest } }

/-- The master goes on with its queue, however many host frames wait in it. -/
def spiRun (s : Hw) : Hw := spiGo (s.fesq.jobs.length + 1) s

/-- A transition's hook frames join the master's queue in order of arrival (R388). -/
def queueHooks (s : Hw) (u : Nat) (fs : List HookFrame) : Hw :=
  if fs.isEmpty then s
  else
    let idle := s.fesq.jobs.isEmpty
    let s : Hw := s.updFes u fun x => { x with hooking := true }
    let s : Hw := { s with fesq := { s.fesq with jobs := s.fesq.jobs ++ [{ unit := some u, frames := fs }] } }
    s.cond idle spiRun

/-- Begin a move to a neighbouring state. -/
def beginMoveTo (s : Hw) (u nxt : Nat) : Hw :=
  let s := (s.setFld (FES_STATE_moving u) 1).updFes u fun x => { x with toward := nxt }
  let st := s.fstate u
  let s := s.cond (st == 0) fun s => queueHooks s u (s.fesu u).up
  let s := s.cond (st == 1 && nxt == 0) fun s => queueHooks s u (s.fesu u).down
  s.cond (st == 1 && nxt == 2) fun s => s.updFes u fun x => { x with litAt := some s.dtime }

/-- Where a unit in state `st` goes next, with state `e` in effect: one state at a time, but directly between LIT and EMIT,
and from LISTEN to WARM (R372, Table 11-2). -/
def nextState (st e : Nat) : Nat :=
  if e > st then (if st = 0 then 1 else if st = 1 then 2 else if st = 2 then (if e = 4 then 4 else 3) else 4)
  else if st = 4 then (if e = 3 then 3 else 2)
  else if st = 3 then (if e = 2 then 2 else 1)
  else if st = 2 then 1
  else 0

/-- An upward move ends where the state in effect falls below its goal; the master goes on where the unit's frames had it. -/
def abandon (s : Hw) (u : Nat) : Hw :=
  let first := match s.fesq.jobs with
    | j :: _ => j.unit == some u
    | [] => false
  let s := s.cond (s.fesu u).hooking fun s => (dropHooks s u).cond first spiRun
  (s.setFld (FES_STATE_moving u) 0).updFes u fun x => { x with litAt := none, turn := none }

/-- The unit moves toward the state in effect. -/
def advance (u : Nat) (s : Hw) : Hw :=
  let e := effect s u
  let st := s.fstate u
  let s := s.updFes u fun x =>
    { x with reqAt := if e = 4 ∧ st ≠ 4 then some (x.reqAt.getD s.dtime) else none
             turned := x.turned && s.fld (FES_STATE_target u) == 4 && decide (st ≥ 2) }
  let toward := (s.fesu u).toward
  let moving := s.flag (FES_STATE_moving u)
  let s := if moving && decide (toward > st ∧ e < toward) then abandon s u else s
  if s.flag (FES_STATE_moving u) || e == st then s
  else if st = 1 ∧ e > 1 ∧ !s.flag (FES_STATE_temp_ok u) then s
  else beginMoveTo s u (nextState st e)

/-- A unit completes its move (Table 11-2): hooks have run, LIT needs lock, EMIT needs R373. -/
def fesMoveDone (u : Nat) (s : Hw) : Hw :=
  let x := s.fesu u
  let st := s.fstate u
  let ok := s.ready 15 && s.flag (FES_STATE_moving u) && !x.hooking && x.turn.isNone &&
    (x.toward != 2 || st != 1 || s.flag (FES_STATE_lock u)) &&
    (decide (x.toward < 4) || s.flag (FES_STATE_lock u) && s.flag (FES_STATE_temp_ok u) && !s.flag (FES_STATE_fault u))
  if ok then arrive s u x.toward else s

/-! ### Temperature and lock (R375, R376) -/

def declareLock (s : Hw) (u : Nat) : Hw :=
  let s := ((s.setFld (FES_STATE_lock u) 1).setFld (FES_STATE_held u) 0).updFes u fun x =>
    { x with lockAt := s.dtime, lost := false }
  if s.flag (FES_STATE_moving u) && s.fstate u == 1 && (s.fesu u).toward == 2 then arrive s u 2 else s

/-- Lock is lost: a turn is abandoned (R383); in EMIT the gate closes and the unit holds LIT or LISTEN (R376). -/
def loseLock (s : Hw) (u : Nat) : Hw :=
  let turning := (s.fesu u).turn.isSome
  let s := s.setFld (FES_STATE_lock u) 0
  let s := s.cond turning fun s =>
    ((s.setFld (FES_STATE_moving u) 0).updFes u fun x => { x with turn := none, turned := false }).raise 0x0D05 [u, 2]
  s.cond (s.fstate u == 4) fun s =>
    ((s.setFld (FES_LATCH_lock_lost u) 1).updFes u fun x => { x with lost := true }).raise 0x0D02
      [u, s.fld (FES_STATE_temp_ok u), errParam (lockErr s u)]

/-- The temperature error has stayed in the window for 500 µs, or outside it for 10 µs. -/
def tempOk (u : Nat) (ok : Bool) (s : Hw) : Hw :=
  if !s.ready 15 || s.fld (FES_MAP1_tec_loop u) == 255 || s.fstate u == 0 then s
  else if ok && !s.flag (FES_STATE_temp_ok u) && tempStayedIn s u then
    let ms := match (s.fesu u).warmAt with
      | some t => min ((s.dtime - t) / 10 ^ 6) 65535
      | none => s.fld (FES_SETTLE_ms u)
    let s := ((s.setFld (FES_STATE_temp_ok u) 1).setFld (FES_SETTLE_ms u) ms).updFes u fun x => { x with warmAt := none }
    s.cond (!ownLock s u) fun s => declareLock s u
  else if !ok && s.flag (FES_STATE_temp_ok u) && tempStayedOut s u then
    let s := s.setFld (FES_STATE_temp_ok u) 0
    s.cond (s.flag (FES_STATE_lock u)) fun s => loseLock s u
  else s

/-- The lock loop's error has stayed in its window for 500 µs. -/
def lockDeclared (u : Nat) (s : Hw) : Hw :=
  if s.ready 15 && decide (s.fstate u ≥ 1) && ownLock s u && s.flag (FES_STATE_temp_ok u) &&
      !s.flag (FES_STATE_lock u) && lockStayedIn s u then declareLock s u
  else s

/-- The lock loop's error has stayed outside its window for 10 µs. -/
def fesLockLost (u : Nat) (s : Hw) : Hw :=
  if s.ready 15 && ownLock s u && s.flag (FES_STATE_lock u) && lockStayedOut s u then loseLock s u else s

/-! ### Faults and compliance (R380, R449) -/

/-- The event row FES_FAULT: a compliance failure on a named output, a hook mismatch, or an uncorrectable entry. -/
def fesFault (u cause which : Nat) (s : Hw) : Hw :=
  if !s.ready 15 then s
  else if cause = 1 then
    (if fesNames s u which && decide (which < 24) && s.flag (AOU_OSTAT_comp which) then setFault s u 1 which else s)
  else setFault s u cause which

/-- An output has been more than 1 % of span off its commanded value for 5 µs. -/
def complianceFail (o : Nat) (s : Hw) : Hw :=
  let code := (s.aouOut o).gate.getD (s.aouOut o).want
  if !s.ready 15 || s.flag (AOU_OSTAT_comp o) || decide (code * 100 < 65535) then s
  else
    let s := ((s.setFld (AOU_OSTAT_comp o) 1).setFld (AOU_OLATCH_comp o) 1).setFld AOU_LATCH_comp
      (setBit (s.fld AOU_LATCH_comp) o true)
    let s := (s.updOut o fun x => { x with compAt := s.dtime }).raise 0x1001 [o, code, s.fld (AOU_OCFG_range o)]
    s.each (fesOwners s o) fun u s => setFault s u 1 o

def complianceRegained (o : Nat) (s : Hw) : Hw :=
  if s.ready 15 && s.flag (AOU_OSTAT_comp o) then
    (s.setFld (AOU_OSTAT_comp o) 0).raise 0x1002 [o, (s.dtime - (s.aouOut o).compAt) / 1000]
  else s

/-! ### Turns (R382, R383) -/

/-- The condition of turn_ready. -/
def turnReady (s : Hw) (u : Nat) : Bool :=
  decide (u < 8) && s.ready 15 && s.flag (FES_MAP2_protect u) && s.fstate u == 3 && s.flag (FES_STATE_lock u) &&
    decide ((s.fesu u).lockAt + 10 ^ 6 ≤ s.dtime) && !s.flag (FES_STATE_fault u) && !s.flag (FES_STATE_ramping u) &&
    s.fld (FES_STATE_target u) == 4

/-- A turn request (R382). One accepted while a turn is under way is stamped, and the gate keeps the moment of the first (DEDUCED: log entry
122). -/
def requestTurn (u : Nat) (s : Hw) : Hw :=
  let ready := turnReady s u
  let s := s.setNum64 (FES_TURN_T u) (s.dtime % 2 ^ 64)
  let s := s.updFes u fun x => { x with turned := true, reqAt := some s.dtime }
  if ready then
    (s.setFld (FES_STATE_moving u) 1).updFes u fun x => { x with turn := some (x.turn.getD s.dtime), toward := 4 }
  else (s.setFld (FES_LATCH_turn_missed u) 1).raise 0x0D05 [u, 1]

/-- A filtered rising edge on TRIG_IN turns every protection lane with turn_trig set. -/
def trigInTurn (s : Hw) : Hw :=
  if !s.ready 15 then s
  else s.each ((List.range 8).filter fun u => s.flag (FES_MAP2_protect u) && s.flag (FES_MAP2_turn_trig u)) requestTurn

/-- 4.00 µs ± 0.05 µs after the stamp the gate output of a turned lane reaches its final code; the row does nothing before that. -/
def turnComplete (u : Nat) (s : Hw) : Hw :=
  let due := match (s.fesu u).turn with
    | some t => decide (t + 3950 ≤ s.dtime)
    | none => false
  if s.ready 15 && due && s.flag (FES_STATE_lock u) && s.flag (FES_STATE_temp_ok u) &&
      !s.flag (FES_STATE_fault u) then arrive s u 4
  else s

/-! ### Ramps (R385) -/

/-- Microseconds from entry `a` to its neighbour `b`. -/
def rampTime (s : Hw) (u a b : Nat) : Nat := max 1 (stepExpected s u b - stepExpected s u a).natAbs

/-- The code `k` of `n` parts of the way from `a` to `b`; where the line passes between two codes, which of the two is
driven is free. -/
def onLine (s : Hw) (a b k n : Nat) : Nat × Hw :=
  let v := a * (n - k) + b * k
  if v % n = 0 then (v / n, s) else let (f, s) := s.free; (v / n + f % 2, s)

/-- A ramp begins while the current step differs from the target in LIT or above. -/
def settleRamp (u : Nat) (s : Hw) : Hw :=
  let s := s.setFld (FES_STATE_step_tgt u) (stepTarget s u)
  let st := s.fld (FES_STATE_step u)
  let t := s.fld (FES_STATE_step_tgt u)
  let run := s.ready 15 && decide (s.fstate u ≥ 2) && !s.flag (FES_STATE_fault u) && tableOk s u &&
    !(s.flag (FES_STATE_moving u) && decide ((s.fesu u).toward < 2))
  let s := if !run then s.updFes u fun x => { x with ramp := none }
    else if (s.fesu u).ramp.isSome || t == st then s
    else s.updFes u fun x => { x with ramp := some (if t > st then st + 1 else st - 1, 0), rampAt := s.dtime }
  s.setFlag (FES_STATE_ramping u) (s.fesu u).ramp.isSome

/-- One microsecond of a ramp: the drive codes advance on the line between the two entries. The row does nothing where that
microsecond has not passed; an entry found uncorrectable as it is read faults the unit (R380). -/
def stepRampUpdate (u : Nat) (s : Hw) : Hw :=
  match (s.fesu u).ramp with
  | none => s
  | some (b, k) =>
    if !s.ready 15 || decide (s.dtime < (s.fesu u).rampAt + (k + 1) * 1000) then s
    else
      let a := s.fld (FES_STATE_step u)
      let n := rampTime s u a b
      match [a, b].find? (stepPoisoned s u) with
      | some e => setFault s u 3 e
      | none =>
      if k + 1 ≥ n then
        let s := s.updFes u fun x => { x with ramp := none, stepAt := some s.dtime }
        applyStep (s.setFld (FES_STATE_step u) b) u
      else
        let (c, s) := onLine s (stepBias s u a) (stepBias s u b) (k + 1) n
        let (d, s) := onLine s (stepDrive2 s u a) (stepDrive2 s u b) (k + 1) n
        (writeDrives s u c d).updFes u fun x => { x with ramp := some (b, k + 1) }

/-! ### Held commands (R377 to R379) -/

/-- Has the unit reached its target (R379)? -/
def reached (s : Hw) (u : Nat) : Bool :=
  let t := unitTarget s u
  if t = 4 ∧ u < 8 ∧ s.stage (u / 4) ≠ 0 then s.flag (FES_STATE_lock u) && decide (s.fstate u ≥ 3)
  else !s.flag (FES_STATE_moving u) && s.fstate u == t

/-- The detail of NOT_LOCKED (Table 02-4): the lane, or 0x0100 and the stage. -/
def unitDetail (u : Nat) : Nat := if u < 8 then u else 0x0100 + (u - 8)

/-- The held command that names unit `u`: when it was received and its deadline in ms. -/
def heldCmd (s : Hw) (u : Nat) : Option (Nat × Nat) :=
  s.cmd.running.findSome? fun r => match r.wait with
    | .fesState us dl _ => if hasBit us u then some (r.recv, dl) else none
    | _ => none

/-- Microseconds since the request of the command that waits for unit `u`. -/
def heldFor (s : Hw) (u : Nat) : Nat :=
  match heldCmd s u with
  | some (t, _) => (s.dtime - t) / 1000
  | none => 0

/-- The held command of unit `u` fails NOT_LOCKED, with event 0x0D01. -/
def failHeld (s : Hw) (u : Nat) : Hw :=
  ((s.setFld (FES_STATE_held u) 0).updFes u fun x => { x with failed := true }).raise 0x0D01
    [u, errParam (lockErr s u), heldFor s u]

/-- Its deadline passes without lock (R378): the target falls to LIT. -/
def notLocked (u : Nat) (s : Hw) : Hw :=
  let s := (failHeld s u).setFld (FES_LATCH_not_locked u) 1
  s.setFld (FES_STATE_target u) (min (s.fld (FES_STATE_target u)) 2)

/-- Has the deadline of unit `u`'s held command passed? It runs from the later of the command's receipt and the beginning of
the move from WARM to LIT (R377). -/
def deadlinePast (s : Hw) (u : Nat) : Bool :=
  match heldCmd s u with
  | some (t, dl) => decide (max t ((s.fesu u).litAt.getD 0) + dl * 10 ^ 6 ≤ s.dtime)
  | none => false

def lockDeadlineExpiry (u : Nat) (s : Hw) : Hw :=
  if s.ready 15 && s.flag (FES_STATE_held u) && ((s.fesu u).litAt.isSome || decide (s.fstate u ≥ 2)) && deadlinePast s u then
    notLocked u s
  else s

/-- settle_max passes in WARM (R377), once for each entry; a held command ends, its target kept. -/
def settleMaxExpiry (u : Nat) (s : Hw) : Hw :=
  let x := s.fesu u
  let due := match x.warmAt with
    | some t => decide (t + s.fld FES_CFG_settle_max * 10 ^ 6 ≤ s.dtime)
    | none => false
  if s.ready 15 && s.fstate u == 1 && due && !x.settled && !s.flag (FES_STATE_temp_ok u) then
    let s := ((s.setFld (FES_LATCH_settle_over u) 1).updFes u fun x => { x with settled := true }).raise 0x0D04
      [u, errParam (tecErr s u)]
    s.cond (s.flag (FES_STATE_held u)) fun s => failHeld s u
  else s

/-- A FES_STATE_SET completes once every unit it names has reached its target or failed (R379). -/
def settleHeld (s : Hw) : Hw :=
  let ends := fun (r : RunCmd) => match r.wait with
    | .fesState us _ _ => (bitsOf 12 us).all fun u => (s.fesu u).failed || reached s u
    | _ => false
  let failed := fun (r : RunCmd) => match r.wait with
    | .fesState us _ _ => (bitsOf 12 us).find? fun u => (s.fesu u).failed
    | _ => none
  { s with cmd := { s.cmd with running := s.cmd.running.map fun r =>
      if (ends r && r.outcome.isNone) = true then
        { r with outcome := match failed r with
          | some u => some (stNOT_LOCKED, unitDetail u, [])
          | none => some (stOK, 0, []) }
      else r } }

/-- What follows at once from the state of the units: gates, moves, ramps, turn_ready, held commands. -/
def settleFes (s : Hw) : Hw :=
  let s := s.each units12 fun u s => settleGate u (advance u (noteWindows u s))
  let s := s.each units12 fun u s => settleRamp u s
  let s := s.each (List.range 8) fun u s =>
    let s := s.cond ((s.fesu u).aprShut && s.fld (FES_STATE_step u) == s.fld (FES_STATE_step_tgt u) &&
        (match (s.fesu u).apr with
         | some none => false
         | _ => true)) fun s => s.updFes u fun x => { x with aprShut := false }
    s.setFlag (FES_STATE_turn_ready u) (turnReady s u)
  settleHeld (s.each units12 settleGate)

/-! ### Hook frames (R388, R389) -/

/-- The hook frame at the head of the master's queue completes, with the bytes its verifying read returned. -/
def hookFrameDone (read : Bytes) (s : Hw) : Hw :=
  match s.fesq.jobs with
  | [] => s
  | j :: rest =>
    match j.unit, j.frames with
    | some u, f :: fs =>
      if !s.ready 15 then s
      else if f.verify && read != f.want then
        let s := dropHooks { s with fesq := { s.fesq with jobs := rest } } u
        spiRun (setFault s u 2 j.done)
      else if fs.isEmpty then spiRun (dropHooks { s with fesq := { s.fesq with jobs := rest } } u)
      else spiRun { s with fesq := { s.fesq with jobs := { j with frames := fs, done := j.done + 1 } :: rest } }
    | _, _ => s

/-! ### Commands (Table 11-6) -/

def fesDoms : Hw → Bytes → List Nat := fun _ _ => [15]

/-- The units a FES command names. -/
def fesMask (opc : Nat) (p : Bytes) : Nat :=
  if opc = 0x0D01 ∨ opc = 0x0D04 ∨ opc = 0x0D05 then 2 ^ u8 p 0 else if opc = 0x0D06 then 0 else u16 p 0

/-- Disjoint units, and FES_SPI_XFER with every other (R391). -/
def fesConc (opc : Nat) : Hw → Bytes → RunCmd → Bool := fun _ p r =>
  (bitsOf 12 (fesMask opc p)).all fun u => !hasBit (fesMask r.opcode (coreParams r.req)) u

/-- A configuration as the command and the stored object give it (R374). -/
def applyFesConfig (p : Bytes) (s : Hw) : Hw :=
  let u := u8 p 0
  let s := (((s.setFld (FES_MAP0_bias_out u) (u8 p 1)).setFld (FES_MAP0_gate_out u) (u8 p 2)).setFld
    (FES_MAP0_drive2_out u) (u8 p 3)).setFld (FES_MAP0_spi_cs u) (u8 p 4)
  let s := (((s.setFld (FES_MAP1_tec_loop u) (u8 p 5)).setFld (FES_MAP1_lock_loop u) (u8 p 6)).setFld
    (FES_MAP1_temp_win u) (u8 p 7)).setFld (FES_MAP1_lock_win u) (u8 p 8)
  let s := ((s.setFld (FES_MAP2_step_src u) (bit (u8 p 9) 0)).setFld (FES_MAP2_protect u) (bit (u8 p 9) 1)).setFld
    (FES_MAP2_turn_trig u) (bit (u8 p 9) 2)
  s.setFld (FES_MAP3_gate_open u) (u16 p 10)

/-- FES holds the drive outputs that a unit in DARK names at their safe codes (R451): one that was written elsewhere goes there. -/
def safeNamed (s : Hw) (u : Nat) : Hw :=
  s.each ([s.fld (FES_MAP0_bias_out u), s.fld (FES_MAP0_drive2_out u)].filter fun o => o != 255 && !s.flag (AOU_OSTAT_at_safe o))
    fun o s => aouSafe s o 1

def upTo (k n : Nat) : Chk := .one k ((List.range (n + 1)) ++ [255])

/-- The other transmitters of the group that are marked protect (R381). -/
def protectCount (s : Hw) (u : Nat) : Nat :=
  ((groupLanes (u / 4)).filter fun v => v != u && s.flag (FES_MAP2_protect v)).length

def opFesConfig : OpSpec :=
  { OpSpec.fix headFesConfig
      [.rng 1 0 11, upTo 1 23, upTo 1 23, upTo 1 23, upTo 1 7, upTo 1 31, upTo 1 31, .rng 1 1 255, .rng 1 1 255, .msk 1 7,
       .any 2] fun s c =>
      let u := u8 c.p 0
      if s.fstate u ≠ 0 ∨ s.flag (FES_STATE_moving u) then .refuse stCONDITIONS 1 s
      else .ok (safeNamed (applyFesConfig c.p s) u) with
    check := fun s p =>
      match runChks [.rng 1 0 11, upTo 1 23, upTo 1 23, upTo 1 23, upTo 1 7, upTo 1 31, upTo 1 31, .rng 1 1 255,
          .rng 1 1 255, .msk 1 7, .any 2] 1 0 p with
      | some k => some k
      | none =>
        let u := u8 p 0
        let fl := u8 p 9
        if u ≥ 8 ∧ (hasBit fl 1 ∨ hasBit fl 2) then some 10
        else if u < 8 ∧ hasBit fl 1 ∧ protectCount s u ≥ 2 then some 10
        else none
    doms := fesDoms
    conc := fesConc 0x0D01
    objs := fun p => [u8 p 0] }

/-- The target set on the named units (R370, R377). -/
def setTargets (s : Hw) (mask t : Nat) : Hw :=
  s.each (bitsOf 12 mask) fun u s =>
    let s := (s.setFld (FES_STATE_target u) t).updFes u fun x => { x with failed := false, turned := false }
    s.setFlag (FES_STATE_held u) (decide (t ≥ 2) && !s.flag (FES_STATE_lock u))

def opFesStateSet : OpSpec :=
  { OpSpec.fix headFesStateSet [.nzm 2 0xFFF, .rng 1 0 4, .rng 2 0 1000] fun s c =>
      let us := bitsOf 12 (u16 c.p 0)
      let t := u8 c.p 2
      if t > 0 ∧ (us.any fun u => !wired s u) then .refuse stCONDITIONS 1 s
      else if t > 1 ∧ (us.any fun u => !tableOk s u) then .refuse stCONDITIONS 2 s
      else
        let dl := if u16 c.p 3 = 0 then s.fld FES_CFG_deadline else u16 c.p 3
        let old := units12.map fun u => s.fld (FES_STATE_target u)
        let s := { s with pwr := { s.pwr with setSince := s.pwr.setSince ||| u16 c.p 0 } }
        let s := setTargets s (u16 c.p 0) t
        if (us.all fun u => reached s u) then .ok s else .wait (.fesState (u16 c.p 0) dl old) s with
    doms := fesDoms
    conc := fesConc 0x0D02 }

def opFesStepSet : OpSpec :=
  { OpSpec.fix headFesStepSet [.nzm 2 0xFFF, .rng 1 0 31] fun s c =>
      let us := bitsOf 12 (u16 c.p 0)
      if (us.any fun u => !tableOk s u) then .refuse stCONDITIONS 1 s
      else .ok (s.each us fun u s =>
        s.updFes u fun x => { x with stgt := if u < 8 then min (u8 c.p 2) (lastStep s u) else u8 c.p 2 }) with
    doms := fesDoms
    conc := fesConc 0x0D03 }

/-- The words of the entries in a FES_TABLE_LOAD. -/
def tableVals (p : Bytes) : List Nat := (List.range (2 * u8 p 2)).map fun i => u32 p (4 + 4 * i)

def opFesTableLoad : OpSpec :=
  { OpSpec.list headFesTableLoad [.rng 1 0 11, .rng 1 0 31, .any 1, .msk 1 1] 3 2 1 1 32 8 fun s c =>
      let u := u8 c.p 0
      if s.fstate u > 1 then .refuse stCONDITIONS 1 s
      else
        let s' := putWords s (FES_STEPTAB u (2 * u8 c.p 1)) (tableVals c.p)
        if !hasBit (u8 c.p 3) 0 then .ok s'
        else if !coverFull s' (7 + u) then .refuse stCONDITIONS 2 s
        else match tableFault s' u with
          | some d => .refuse stRANGE d s
          | none => .ok ((setDeclared s' (7 + u) true).raise 0x0C07 [7 + u, Map.get 0 s.mem.preN (7 + u)]) with
    check := fun _ p =>
      match runChks [.rng 1 0 11, .rng 1 0 31, .any 1, .msk 1 1] 1 0 p with
      | some k => some k
      | none =>
        if u8 p 1 + u8 p 2 > 32 then some 3
        else (List.range (u8 p 2)).findSome? fun j =>
          if u32 p (8 + 8 * j) % 65536 / 2 ≠ 0 then some (100 * (u8 p 1 + j + 1) + 4) else none
    doms := fesDoms
    conc := fesConc 0x0D04 }

/-- Hook frame `j` of a FES_HOOK_LOAD. -/
def hookOf (p : Bytes) (j : Nat) : HookFrame :=
  let i := 3 + 12 * j
  let n := u8 p (i + 1)
  { cs := u8 p i, verify := u8 p (i + 2) == 1, data := slice p (i + 4) n, want := slice p (i + 8) n }

def applyFesHook (p : Bytes) (s : Hw) : Hw :=
  let fs := (List.range (u8 p 2)).map (hookOf p)
  s.updFes (u8 p 0) fun x => if u8 p 1 = 0 then { x with up := fs } else { x with down := fs }

def opFesHookLoad : OpSpec :=
  { OpSpec.list headFesHookLoad [.rng 1 0 11, .rng 1 0 1, .any 1] 3 2 1 0 4 12 fun s c =>
      let u := u8 c.p 0
      if s.fstate u ≠ 0 ∨ s.flag (FES_STATE_moving u) then .refuse stCONDITIONS 1 s else .ok (applyFesHook c.p s) with
    check := fun _ p =>
      match runChks [.rng 1 0 11, .rng 1 0 1, .any 1] 1 0 p with
      | some k => some k
      | none => (List.range (u8 p 2)).findSome? fun j =>
          (runChks [.rng 1 0 7, .rng 1 1 4, .rng 1 0 1, .res 1] 1 (3 + 12 * j) p).map fun k => 100 * (j + 1) + k
    doms := fesDoms
    conc := fesConc 0x0D05
    objs := fun p => [2 * u8 p 0 + u8 p 1] }

def opFesSpiXfer : OpSpec :=
  { OpSpec.list headFesSpiXfer [.rng 1 0 7, .any 1] 2 1 1 1 64 1 fun s c =>
      let b := c.p.drop 2
      let job : SpiJob := { unit := none, index := c.idx, frames := [⟨u8 c.p 0, false, b, []⟩] }
      match s.fesq.jobs with
      | [] =>
        let (r, s) := freeBytes b.length (spiSend s (u8 c.p 0) b)
        .ok s r
      | j :: rest => .wait .fesSpi { s with fesq := { s.fesq with jobs := j :: ((rest.filter fun x => x.unit.isNone) ++ [job] ++
          rest.filter fun x => x.unit.isSome) } } with
    doms := fesDoms
    conc := fun _ _ _ => true }

/-- A host frame whose command ends is not sent (R388). -/
def spiCancel (s : Hw) (index : Nat) : Hw :=
  { s with fesq := { s.fesq with jobs := s.fesq.jobs.filter fun j => (j.unit.isSome || j.index != index) } }

def opFesTurn : OpSpec :=
  { OpSpec.fix headFesTurn [.nzm 2 0xFF] fun s c =>
      let us := bitsOf 8 (u16 c.p 0)
      if (us.any fun u => !s.flag (FES_MAP2_protect u)) then .refuse stCONDITIONS 1 s
      else .ok (s.each us requestTurn) s.dtimeBytes with
    doms := fesDoms
    conc := fesConc 0x0D07 }

/-- The output of a unit that AOU still flags. -/
def flaggedOutput (s : Hw) (u : Nat) : Option Nat :=
  [s.fld (FES_MAP0_bias_out u), s.fld (FES_MAP0_gate_out u), s.fld (FES_MAP0_drive2_out u)].find? fun o =>
    decide (o < 24) && s.flag (AOU_OSTAT_comp o)

/-- The cause of a fault that is still present: a named output that AOU still flags, or an entry of the table that is still
uncorrectable, since every read of it reports that until it is written (R508). -/
def faultCause (s : Hw) (u : Nat) : Option (Nat × Nat) :=
  match flaggedOutput s u with
  | some o => some (1, o)
  | none => ((List.range 32).find? (stepPoisoned s u)).map fun e => (3, e)

def opFesFaultClear : OpSpec :=
  { OpSpec.fix headFesFaultClear [.nzm 2 0xFFF] fun s c =>
      .ok (s.each (bitsOf 12 (u16 c.p 0)) fun u s =>
        let s := s.setFld (FES_STATE_fault u) 0
        match faultCause s u with
        | some (c, w) => setFault s u c w
        | none => s) with
    doms := fesDoms
    conc := fesConc 0x0D08 }

def opFesStatusRead : OpSpec :=
  { OpSpec.fix headFesStatusRead [.nzm 2 0xFFF] fun s c =>
      .ok s (s.wordsAt ((bitsOf 12 (u16 c.p 0)).flatMap fun u => [FES_STATE u, FES_LATCH u, FES_SETTLE u]) ++ s.dtimeBytes) with
    doms := fesDoms }

/-- A write of CMIS page 10h disables or enables a lane's transmitter (Table 02-9, R371). -/
def cmisTxDisable (n : Nat) (off : Bool) (s : Hw) : Hw := s.setFlag (FES_STATE_cmis_dis n) off

/-- The hooks of move `m` of unit `u` as stored (R394). -/
def storedHook (s : Hw) (u m : Nat) : List HookFrame :=
  match adoptedBody s (0x0D050000 + 2 * u + m) with
  | some p => (List.range (u8 p 2)).map (hookOf p)
  | none => []

/-- A unit's wiring and hooks take their stored values, or those of a cold start where none are stored (R394). -/
def restoreFes (u : Nat) (s : Hw) : Hw :=
  let s := s.coldRegs [FES_MAP0 u, FES_MAP1 u, FES_MAP2 u, FES_MAP3 u]
  let s := match adoptedBody s (0x0D010000 + u) with
    | some p => applyFesConfig p s
    | none => s
  s.updFes u fun _ => { up := storedHook s u 0, down := storedHook s u 1 }

/-- D15 powers up (R394): every unit DARK, target DARK, step 0; event 0x0D07 with its cause. -/
def fesPowerUp (s : Hw) (cause : Nat) : Hw :=
  let s := s.each units12 fun u s =>
    let off := s.fld (FES_STATE_cmis_dis u)
    let s := s.coldRegs [FES_STATE u, FES_LATCH u, FES_SETTLE u, FES_TURN_T u, FES_TURN_T u + 1]
    restoreFes u (s.setFld (FES_STATE_cmis_dis u) off)
  let s := s.coldRegs ((List.range 8).map FES_SPI_CFG)
  ({ s with fesq := {} }).raise 0x0D07 [cause]

/-- D15 is lost: the units are DARK and their moves end (Table 11-4). -/
def fesDown (s : Hw) : Hw :=
  let s := s.each units12 fun u s =>
    let off := s.fld (FES_STATE_cmis_dis u)
    let s := s.coldRegs [FES_STATE u]
    (s.setFld (FES_STATE_cmis_dis u) off).updFes u fun x => { up := x.up, down := x.down, failed := true }
  { s with fesq := {} }

end Sys2Proof.Machine
end

