-- ==== Sys2Proof/Machine/Flow.lean ====
section
/-!
DEFINITION. Flow tables (08): the key table with its hash and insertion, the flow contexts, lookup, and the FLW commands.
-/
namespace Sys2Proof.Machine
open Reg

/-! ### Layout of a context (Table 08-2) and of a key slot (Table 08-1) -/

/-- Field `[lo + w - 1 : lo]` of a 128-bit entry. -/
def cf (v lo w : Nat) : Nat := v / 2 ^ lo % 2 ^ w

/-- `v` with that field holding the low bits of `x`. -/
def cset (v lo w x : Nat) : Nat := v / 2 ^ (lo + w) * 2 ^ (lo + w) + (x % 2 ^ w) * 2 ^ lo + v % 2 ^ lo

def cxState (c : Nat) : Nat := cf c 126 2
def cxClass (c : Nat) : Nat := cf c 124 2
def cxPath (c : Nat) : Nat := cf c 121 3
def cxPoliceDrop (c : Nat) : Bool := cf c 120 1 == 1
def cxHasKey (c : Nat) : Bool := cf c 119 1 == 1
def cxPort (c : Nat) : Nat := cf c 116 3
def cxMaxFrame (c : Nat) : Nat := cf c 102 14
def cxMinIv (c : Nat) : Nat := cf c 84 18
def cxTxSeq (c : Nat) : Nat := cf c 68 16
def cxRxLast (c : Nat) : Nat := cf c 52 16
def cxRxHist (c : Nat) : Nat := cf c 20 32
def cxPolStamp (c : Nat) : Nat := cf c 1 19
def cxPolAged (c : Nat) : Bool := c % 2 == 1

/-- A new context of R285: state, class, path, police_drop, has_key, port, max_frame and min_iv, with the receive and
policing fields at their start. -/
def mkCtx (state cls path pd hk port mf iv : Nat) : Nat :=
  state * 2 ^ 126 + cls * 2 ^ 124 + path * 2 ^ 121 + pd * 2 ^ 120 + hk * 2 ^ 119 + port * 2 ^ 116 + mf * 2 ^ 102 +
    iv * 2 ^ 84 + 1

/-- The receive and policing fields, bits [83:0], of `old` under the settings of `new`. -/
def keepRx (new old : Nat) : Nat := new / 2 ^ 84 * 2 ^ 84 + old % 2 ^ 84

def Hw.ctx (s : Hw) (i : Nat) : Nat := Map.get s.flw.ctxFill s.flw.ctxs i

/-- Write a context, with FLW_CTX following (Table 08-10). -/
def Hw.setCtx (s : Hw) (i v : Nat) : Hw :=
  let was := decide (cxState (s.ctx i) ≠ 0)
  let is := decide (cxState v ≠ 0)
  let s' := { s with flw := { s.flw with ctxs := Map.put s.flw.ctxFill s.flw.ctxs i v } }
  if is && !was then s'.setFld FLW_CTX_contexts (s.fld FLW_CTX_contexts + 1)
  else if was && !is then s'.setFld FLW_CTX_contexts (s.fld FLW_CTX_contexts - 1) else s'

def Hw.updCtx (s : Hw) (i : Nat) (f : Nat → Nat) : Hw := s.setCtx i (f (s.ctx i))

/-! ### Key slots -/

def slotCount : Nat := 1179648
def stashSize : Nat := 64

/-- Slot `k`; from `slotCount` on, stash entries. -/
def Hw.slot (s : Hw) (k : Nat) : Nat := Map.get s.flw.keyFill s.flw.keys k

/-- A slot holds a key when its state is 1 and it is not poisoned (Table 08-1, R293). -/
def slotValid (s : Hw) (k : Nat) : Bool := cf (s.slot k) 126 2 == 1 && !poisoned s (poisonKey 0 k)
def slotKey (v : Nat) : Nat := v % 2 ^ 60
def slotIndex (v : Nat) : Nat := cf v 96 20
def slotClass (v : Nat) : Nat := cf v 124 2
def mkSlot (cls index key : Nat) : Nat := 2 ^ 126 + cls * 2 ^ 124 + index * 2 ^ 96 + key % 2 ^ 60

/-- Write a slot: both words, so its poison goes (R293), and the result cache forgets it (R287). -/
def putSlot (s : Hw) (k v : Nat) : Hw :=
  setPoison { s with flw := { s.flw with
    keys := Map.put s.flw.keyFill s.flw.keys k v
    cache := s.flw.cache.filter fun e => e.2 != k } } (poisonKey 0 k) false

/-- The two buckets of a key (R282). -/
def hashOne (salt key : Nat) : Nat :=
  let x := Nat.xor key salt
  let x := x * 0x9FB21C651E98DF25 % 2 ^ 64
  let x := Nat.xor x (x / 2 ^ 31)
  let x := x * 0xD6E8FEB86659FD93 % 2 ^ 64
  let x := Nat.xor x (x / 2 ^ 32)
  (x / 2 ^ 32) * 294912 / 2 ^ 32

def buckets (s : Hw) (key : Nat) : Nat × Nat :=
  let b0 := hashOne s.flw.salt0 key
  let b1 := hashOne s.flw.salt1 key
  (b0, if b1 = b0 then (b0 + 1) % 294912 else b1)

/-- The slots of a key's buckets, `b[0]` first and the lowest way first. -/
def homeSlots (s : Hw) (key : Nat) : List Nat :=
  let (b0, b1) := buckets s key
  [4 * b0, 4 * b0 + 1, 4 * b0 + 2, 4 * b0 + 3, 4 * b1, 4 * b1 + 1, 4 * b1 + 2, 4 * b1 + 3]

def stashSlots : List Nat := (List.range stashSize).map (slotCount + ·)

/-- The one valid slot whose key matches (R286). -/
def findKey (s : Hw) (key : Nat) : Option Nat :=
  (homeSlots s key ++ stashSlots).find? fun k => slotValid s k && slotKey (s.slot k) == key

/-- A lookup by the data path: the result goes into the cache of 64 keys, newest first. -/
def lookupKey (s : Hw) (key : Nat) : Option Nat × Hw :=
  match s.flw.cache.find? fun e => e.1 == key with
  | some e => (some e.2, s.count64 FLW_HIT)
  | none =>
    match findKey s key with
    | some k => (some k, { (s.count64 FLW_HIT) with flw := { s.flw with cache := ((key, k) :: s.flw.cache).take 64 } })
    | none => (none, s.count64 FLW_MISS)

/-! ### Insertion (R289, R290) -/

/-- The slots of the bucket of `key` that slot `k` is not in. -/
def otherHome (s : Hw) (k key : Nat) : List Nat :=
  let (b0, b1) := buckets s key
  let b := if k / 4 = b0 then b1 else b0
  [4 * b, 4 * b + 1, 4 * b + 2, 4 * b + 3]

/-- Breadth-first search for the shortest chain of relocations: a queue of slots, each with the slots from it back to the
new key's bucket. The answer is the chain, free slot first. -/
def searchChain (s : Hw) : Nat → List (List Nat) → List Nat → Option (List Nat)
  | 0, _, _ => none
  | _, [], _ => none
  | fuel + 1, path :: queue, seen =>
    match path with
    | [] => none
    | k :: _ =>
      let next := otherHome s k (slotKey (s.slot k))
      match next.find? fun j => !slotValid s j with
      | some free => some (free :: path)
      | none =>
        let new := if path.length ≥ 64 then [] else next.filter fun j => !seen.contains j
        searchChain s fuel (queue ++ new.map fun j => j :: path) (seen ++ new)

/-- Carry out a chain from its free end: each key is written into its new slot before the old one is cleared. The answer
is the slot that has become free. -/
def moveChain : List Nat → Hw → Hw
  | free :: k :: rest, s => moveChain (k :: rest) (putSlot (putSlot s free (s.slot k)) k 0)
  | _, s => s

def setStashRegs (s : Hw) : Hw :=
  let n := s.flw.stash.length
  (s.setFld FLW_STASH_occupancy n).setFld FLW_STASH_peak (max n (s.fld FLW_STASH_peak))

/-- Steps 1 and 2 of R289: the number of relocations, or none. -/
def placeKey (s : Hw) (key v : Nat) : Option (Nat × Hw) :=
  let home := homeSlots s key
  match home.find? fun k => !slotValid s k with
  | some k => some (0, putSlot s k v)
  | none =>
    match searchChain s slotCount (home.map fun k => [k]) home with
    | some chain =>
      match chain.getLast? with
      | some k => some (chain.length - 1, putSlot (moveChain chain s) k v)
      | none => none
    | none => none

def countKeys (s : Hw) (up : Bool) : Hw :=
  s.setFld FLW_STATUS_keys (if up then s.fld FLW_STATUS_keys + 1 else s.fld FLW_STATUS_keys - 1)

/-- Insert a key (R289): the length of the chain, or none for TABLE_CONFLICT. -/
def insertKey (s : Hw) (key v : Nat) : Option (Nat × Hw) :=
  match placeKey s key v with
  | some (n, s) => some (n, countKeys ((s.pmc 0x052 n).setFld FLW_CHAIN_longest (max n (s.fld FLW_CHAIN_longest))) true)
  | none =>
    match stashSlots.find? fun k => !slotValid s k with
    | some k =>
      let s := putSlot s k v
      let s := countKeys (setStashRegs { s with flw := { s.flw with stash := s.flw.stash.filter (· != k) ++ [k] } }) true
      let n := s.flw.stash.length
      some (0, s.cond (n == 33) fun s => s.raise 0x0903 [n, s.fld FLW_STATUS_keys, s.fld FLW_CHAIN_longest])
    | none => none

/-- Remove the key in slot `k`. -/
def removeKey (s : Hw) (k : Nat) : Hw :=
  let s := countKeys (putSlot s k 0) false
  setStashRegs { s with flw := { s.flw with stash := s.flw.stash.filter (· != k), freed := true } }

/-- Place one stash entry back, the oldest that can be placed (R291). -/
def replaceOne (s : Hw) : Option Hw :=
  s.flw.stash.findSome? fun k =>
    match placeKey s (slotKey (s.slot k)) (s.slot k) with
    | some (n, s') =>
      let s' := (s'.pmc 0x052 n).setFld FLW_CHAIN_longest (max n (s'.fld FLW_CHAIN_longest))
      some (setStashRegs { putSlot s' k 0 with flw := { (putSlot s' k 0).flw with stash := s.flw.stash.filter (· != k) } })
    | none => none

def replaceAll : Nat → Hw → Hw
  | 0, s => s
  | n + 1, s =>
    match replaceOne s with
    | some s' => replaceAll n s'
    | none => s

def stashReplace (s : Hw) : Hw :=
  if s.flw.freed && s.ready 14 then { (replaceAll stashSize s) with flw := { (replaceAll stashSize s).flw with freed := false } }
  else s

/-! ### Cooling (R295) -/

def coolingTime : Nat := 10000000

def isCooling (s : Hw) (i : Nat) : Bool := s.flw.cooling.any fun e => e.1 == i && decide (s.dtime < e.2 + coolingTime)

/-- Indices whose 10 ms have passed leave the list. -/
def purgeCooling (s : Hw) : Hw :=
  let l := s.flw.cooling.filter fun e => decide (s.dtime < e.2 + coolingTime)
  { s.setFld FLW_COOL_cooling l.length with flw := { s.flw with cooling := l } }

/-- Free a context; its index cools. -/
def freeCtx (s : Hw) (i : Nat) : Hw :=
  let s := s.setCtx i 0
  let l := s.flw.cooling ++ [(i, s.dtime)]
  { s.setFld FLW_COOL_cooling l.length with flw := { s.flw with cooling := l } }

/-! ### Commands (Table 08-6) -/

def tablesReady (s : Hw) : Bool := s.flag FLW_STATUS_ready

/-- D14 is reached only when the tables are declared; otherwise the command's own precondition answers first (R296). -/
def flowDoms : Hw → Bytes → List Nat := fun s _ => if tablesReady s then [14] else []

def headerPayload (done occ chain : Nat) : Bytes := toBE 2 done ++ toBE 2 occ ++ toBE 2 chain ++ zeros 2

/-- Item `j` of a list of items of `n` bytes from byte 4. -/
def itemOf (p : Bytes) (n j : Nat) : Bytes := (p.drop (4 + n * j)).take n

def itemKey (it : Bytes) : Nat := un it 0 6 * 4096 + u16 it 6 % 4096
def itemIndex (it : Bytes) : Nat := u32 it 8
def itemNoKey (it : Bytes) : Bool := hasBit (u8 it 20) 2
def itemClass (it : Bytes) : Nat := u8 it 12 / 64
def itemPath (it : Bytes) : Nat := u8 it 12 / 8 % 8

/-- The context an item describes, in state `st`. -/
def itemCtx (it : Bytes) (st : Nat) : Nat :=
  mkCtx st (itemClass it) (itemPath it) (bit (u8 it 12) 2) (if itemNoKey it then 0 else 1) (u8 it 13) (u16 it 14)
    (u32 it 16 / 512)

/-- The first field of a flow item out of its range (Table 08-8). -/
def itemBad (it : Bytes) : Option Nat :=
  if itemNoKey it && un it 0 6 != 0 then some 1
  else if u16 it 6 > 4094 then some 2
  else if u32 it 8 ≥ 2 ^ 20 then some 3
  else if itemClass it > 2 ∨ itemPath it > 4 ∨ u8 it 12 % 4 ≠ 0 then some 4
  else if u8 it 13 > 7 then some 5
  else if u16 it 14 < 64 ∨ u16 it 14 > 16383 then some 6
  else if u32 it 16 < 1024 ∨ u32 it 16 > 134217727 then some 7
  else if u8 it 20 ≠ 0 ∧ u8 it 20 ≠ 4 then some 8
  else if un it 21 3 ≠ 0 then some 9 else none

/-- A delete item's bytes 0 to 11. -/
def delBad (it : Bytes) : Option Nat :=
  if u16 it 6 > 4094 then some 2 else if u32 it 8 ≥ 2 ^ 20 then some 3 else none

/-- The first failing field of a list, numbered 100 × (j + 1) + n (R298). -/
def listBad (n count : Nat) (bad : Bytes → Option Nat) (p : Bytes) : Option Nat :=
  (List.range count).findSome? fun j => (bad (itemOf p n j)).map fun k => 100 * (j + 1) + k

/-- One item of FLW_INSERT (R300): a status and detail, or the chain length and state. -/
def insertItem (s : Hw) (j : Nat) (it : Bytes) : Except (Nat × Nat × Hw) (Nat × Hw) :=
  let i := itemIndex it
  if !itemNoKey it && (findKey s (itemKey it)).isSome then .error (stREFUSED, 0x0901, s)
  else if cxState (s.ctx i) ≠ 0 then .error (stREFUSED, 0x0902, s)
  else if isCooling s i then .error (stREFUSED, 0x0903, s)
  else
    let s1 := s.setCtx i (itemCtx it 1)
    if itemNoKey it then .ok (0, s1)
    else match insertKey s1 (itemKey it) (mkSlot (itemClass it) i (itemKey it)) with
      | some r => .ok r
      | none =>
        .error (stTABLE_CONFLICT, j, (s.count FLW_CONFLICT).raise 0x0904
          [un it 0 4, together 0x0904 [un it 4 2, u16 it 6], s.fld FLW_STATUS_keys])

/-- Does a key slot name index `i`? -/
def indexKeyed (s : Hw) (i : Nat) : Bool := s.flw.keys.any fun e => slotValid s e.1 && slotIndex e.2 == i

/-- Has TDS an admission for the index? -/
def admHeld (s : Hw) (i : Nat) : Bool := (Map.get none s.tds.adm i).isSome

/-- The fields that admission uses (R301). -/
def sameTerms (a b : Nat) : Bool :=
  cxClass a == cxClass b && cxPath a == cxPath b && cxMaxFrame a == cxMaxFrame b && cxMinIv a == cxMinIv b

/-- The context that an item leaves at an index (R301). -/
def modifiedCtx (s : Hw) (i : Nat) (it : Bytes) : Option Nat :=
  let old := s.ctx i
  match cxState old with
  | 1 => some (keepRx (itemCtx it 1) old)
  | 2 => if sameTerms old (itemCtx it 2) then some (keepRx (itemCtx it 2) old) else none
  | _ => some (itemCtx it (if admHeld s i then 2 else 1))

def modifyItem (s : Hw) (j : Nat) (it : Bytes) : Except (Nat × Nat × Hw) (Nat × Hw) :=
  let i := itemIndex it
  let bad := (stREFUSED, 0x0906, s)
  if cxState (s.ctx i) = 0 then .error bad
  else if itemNoKey it then
    if cxHasKey (s.ctx i) || indexKeyed s i then .error bad
    else match modifiedCtx s i it with
      | some v => .ok (0, s.setCtx i v)
      | none => .error (stREFUSED, 0x0907, s)
  else match findKey s (itemKey it) with
    | some k =>
      if slotIndex (s.slot k) ≠ i then .error bad
      else match modifiedCtx s i it with
        | some v => .ok (0, putSlot (s.setCtx i v) k (mkSlot (itemClass it) i (itemKey it)))
        | none => .error (stREFUSED, 0x0907, s)
    | none =>
      if indexKeyed s i || !(cxHasKey (s.ctx i) || cxState (s.ctx i) == 3) then .error bad
      else match modifiedCtx s i it with
        | none => .error (stREFUSED, 0x0907, s)
        | some v =>
          match insertKey (s.setCtx i v) (itemKey it) (mkSlot (itemClass it) i (itemKey it)) with
          | some r => .ok r
          | none => .error (stTABLE_CONFLICT, j, (s.count FLW_CONFLICT).raise 0x0904
              [un it 0 4, together 0x0904 [un it 4 2, u16 it 6], s.fld FLW_STATUS_keys])

/-- Execute a list of items, stopping at the first that fails (R299). -/
def runItems (f : Hw → Nat → Bytes → Except (Nat × Nat × Hw) (Nat × Hw)) (p : Bytes) : Nat → Nat → Nat → Hw → Res
  | 0, j, chain, s => .ok s (headerPayload j s.flw.stash.length chain)
  | n + 1, j, chain, s =>
    match f s j (itemOf p 24 j) with
    | .error (st, det, s') => .done st det (headerPayload j s'.flw.stash.length chain) s'
    | .ok (k, s') => runItems f p n (j + 1) (max chain k) s'

def opFlwInsert : OpSpec :=
  { OpSpec.list headFlwInsert [.any 1, .res 3] 1 0 1 1 85 24 fun s c =>
      if !tablesReady s then .refuse stCONDITIONS 1 s else runItems insertItem c.p (u8 c.p 0) 0 0 (purgeCooling s) with
    check := fun _ p =>
      match runChks [.any 1, .res 3] 1 0 p with
      | some k => some k
      | none => listBad 24 (u8 p 0) itemBad p
    doms := flowDoms }

def opFlwModify : OpSpec :=
  { OpSpec.list headFlwModify [.any 1, .res 3] 1 0 1 1 85 24 fun s c =>
      if !tablesReady s then .refuse stCONDITIONS 1 s else runItems modifyItem c.p (u8 c.p 0) 0 0 s with
    check := fun _ p =>
      match runChks [.any 1, .res 3] 1 0 p with
      | some k => some k
      | none => listBad 24 (u8 p 0) itemBad p
    doms := flowDoms }

/-- The refusal of a delete item, or the index it frees and its key slot. -/
def deleteItem (s : Hw) (byIndex : Bool) (it : Bytes) : Except Nat (Nat × Option Nat) :=
  if byIndex then
    let i := itemIndex it
    if cxState (s.ctx i) = 0 then .error 0x0908
    else if cxState (s.ctx i) = 2 ∨ admHeld s i then .error 0x0904
    else if cxHasKey (s.ctx i) then .error 0x0905 else .ok (i, none)
  else match findKey s (itemKey it) with
    | none => .error 0x0908
    | some k =>
      let i := slotIndex (s.slot k)
      if cxState (s.ctx i) = 2 ∨ admHeld s i then .error 0x0904 else .ok (i, some k)

/-- Delete from item `j` on; a full cooling list makes the command wait (R295), `waits` false looks past that. -/
def deleteItems (p : Bytes) (waits : Bool := true) : Nat → Nat → Hw → Res
  | 0, j, s => .ok s (toBE 2 j ++ toBE 2 s.flw.stash.length ++ zeros 4)
  | n + 1, j, s =>
    match deleteItem s (hasBit (u8 p 1) 0) (itemOf p 12 j) with
    | .error det => .done stREFUSED det (toBE 2 j ++ toBE 2 s.flw.stash.length ++ zeros 4) s
    | .ok (i, k) =>
      if waits && decide (4096 ≤ s.flw.cooling.length) then .wait (.cooling j 0) s
      else
        let s := match k with
          | some k => removeKey s k
          | none => s
        deleteItems p waits n (j + 1) (freeCtx s i)

/-- How a deletion ends that waits for cooled indices. -/
def deleteEnds (s : Hw) (p : Bytes) : Nat × Nat :=
  match deleteItems p false (u8 p 0) 0 (purgeCooling s) with
  | .done st det _ _ => (st, det)
  | .wait _ _ => (stOK, 0)

def opFlwDelete : OpSpec :=
  { OpSpec.list headFlwDelete [.any 1, .msk 1 1, .res 2] 1 0 1 1 170 12 fun s c =>
      if !tablesReady s then .refuse stCONDITIONS 1 s else deleteItems c.p true (u8 c.p 0) 0 (purgeCooling s) with
    foresee := deleteEnds
    check := fun _ p =>
      match runChks [.any 1, .msk 1 1, .res 2] 1 0 p with
      | some k => some k
      | none => listBad 12 (u8 p 0) delBad p
    doms := flowDoms }

/-- An index has cooled (R295); a deletion that waited for room goes on. -/
def coolingExpiry (s : Hw) : Hw :=
  let s := purgeCooling s
  match s.cmd.running.find? fun r => (match r.wait with | .cooling _ _ => r.outcome.isNone | _ => false) with
  | none => s
  | some r =>
    match r.wait with
    | .cooling j _ =>
      let p := coreParams r.req
      match deleteItems p true (u8 p 0 - j) j s with
      | .done st det pl s' => setOutcome s' (fun x => x.id == r.id) st det pl
      | .wait w s' => { s' with cmd := { s'.cmd with running := s'.cmd.running.map fun x =>
          if x.id = r.id then { x with wait := w } else x } }
    | _ => s

/-- Every key slot, stash entry and context written with zero (R296), as the fill of both tables. -/
def zeroTables (s : Hw) : Hw :=
  { clearPoison (clearPoison s 0) 1 with flw := { s.flw with keys := [], keyFill := 0, ctxs := [], ctxFill := 0, stash := [], cache := [] } }

def flwCounters : List Nat :=
  [FLW_HIT, FLW_HIT + 1, FLW_MISS, FLW_MISS + 1, FLW_UNADMIT, FLW_QUAR_DROP, FLW_RX_UNKNOWN, FLW_CONFLICT]

def opFlwInit : OpSpec :=
  { OpSpec.fix headFlwInit [] fun s _ =>
      if s.fld TDS_FLOWS_admitted ≠ 0 then .refuse stCONDITIONS 1 s
      else
        let s := zeroTables s
        let s := s.zeroRegs (flwCounters ++ [FLW_CTX, FLW_STASH, FLW_CHAIN, FLW_COOL])
        let s := { s with flw := { s.flw with cooling := [] } }
        .ok ((declareWhole (declareWhole s 0) 1).setFld FLW_STATUS_keys 0) with
    doms := fun _ _ => [14] }

def opFlwLookup : OpSpec :=
  { OpSpec.fix headFlwLookup [.any 6, .rng 2 0 4094] fun s c =>
      if !tablesReady s then .refuse stCONDITIONS 1 s
      else match findKey s (un c.p 0 6 * 4096 + u16 c.p 6) with
        | none => .ok s (zeros 24)
        | some k =>
          let place := if k < slotCount then 0 else 1
          .ok s (toBE 1 1 ++ toBE 1 place ++ zeros 2 ++ toBE 4 (if k < slotCount then k else k - slotCount) ++
            toBE 16 (s.ctx (slotIndex (s.slot k)))) with
    doms := flowDoms }

def opFlwRead : OpSpec :=
  { OpSpec.fix headFlwRead [.any 4, .rng 1 1 64] fun s c =>
      if !tablesReady s then .refuse stCONDITIONS 1 s
      else if u32 c.p 0 + u8 c.p 4 > 2 ^ 20 then .refuse stCONDITIONS 2 s
      else .ok s ((List.range (u8 c.p 4)).flatMap fun i => toBE 16 (s.ctx (u32 c.p 0 + i))) with
    doms := flowDoms }

def flwRegs : List Nat := [FLW_STATUS, FLW_CTX, FLW_STASH, FLW_CHAIN, FLW_COOL] ++ flwCounters

def opFlwStatusRead : OpSpec :=
  OpSpec.fix headFlwStatusRead [.msk 1 1] fun s c =>
    .ok (s.cond (hasBit (u8 c.p 0) 0) fun s =>
      ((s.zeroRegs flwCounters).setFld FLW_STASH_peak 0).setFld FLW_CHAIN_longest 0)
      (s.wordsAt flwRegs ++ s.dtimeBytes)

/-- D14 powers up (R283, R302, R304): a new salt, empty caches and registers, event 0x0905 when keys were held. -/
def flowPowerUp (s : Hw) (cause : Nat) : Hw :=
  let held := s.fld FLW_STATUS_keys
  let (r0, s) := s.random
  let s := (zeroTables s).zeroRegs flwRegs
  let s := { s with flw := { s.flw with salt0 := r0.toNat % 2 ^ 64, salt1 := r0.toNat / 2 ^ 64 % 2 ^ 64, cooling := [],
                                        freed := false } }
  s.cond (held != 0) fun s => s.raise 0x0905 [cause, held]

end Sys2Proof.Machine
end

