-- ==== Sys2Proof/Machine/Codes.lean ====
section
/-!
DEFINITION. From bits to the pins of a line lane and back (04, R126 to R133; 05, R163 to R182; 06, R213, R220, R221): symbols,
the outer and inner codes, striping, the scrambler, stuffing and the tail, the transmit equaliser with its pre-distortion
and DAC, training frames and the sprout pattern.
-/
namespace Sys2Proof.Machine
open Reg

/-! ### Symbols (R163) -/

/-- The symbol value of a bit pair, first bit in time first, by Gray code. -/
def graySymbol (first second : Bool) : Nat :=
  match first, second with
  | false, false => 0
  | false, true => 1
  | true, true => 2
  | true, false => 3

/-- The bit pair of a symbol value. -/
def grayPair (a : Nat) : List Bool := [decide (2 ≤ a % 4), a % 4 == 1 || a % 4 == 2]

/-- The symbols of a bit string; a last bit without a partner is left out. -/
def toSymbols : List Bool → List Nat
  | b :: c :: t => graySymbol b c :: toSymbols t
  | _ => []

/-- The bits of a symbol string. -/
def toBits (l : List Nat) : List Bool := l.flatMap grayPair

/-- The bits of bytes, most significant first (R173, R184). -/
def byteBits (bs : Bytes) : List Bool := bs.flatMap fun b => [7, 6, 5, 4, 3, 2, 1, 0].map fun i => b.getLsbD i

/-! ### The outer code (R164): RS(544,514) of IEEE 802.3 Clause 91, over the field of x^10 + x^3 + 1 -/

/-- A product in the field: the ten bits of the second factor, highest first. -/
def gfMul (a b : Nat) : Nat :=
  [9, 8, 7, 6, 5, 4, 3, 2, 1, 0].foldl (fun r i =>
    let d := if 512 ≤ r then Nat.xor (2 * r) 0x409 else 2 * r
    if hasBit b i then Nat.xor d a else d) 0

/-- A power of the field's generator 2. -/
def gfPow : Nat → Nat
  | 0 => 1
  | n + 1 => gfMul 2 (gfPow n)

/-- `p * (x + r)`, coefficients lowest first. -/
def polyStep (p : List Nat) (r : Nat) : List Nat :=
  List.zipWith Nat.xor (0 :: p) (p.map (fun c => gfMul c r) ++ [0])

/-- The generator polynomial, the product of `x + 2^j` for j from 0 to 29, without its leading 1. -/
def outerGenerator : List Nat := ((List.range 30).foldl (fun p j => polyStep p (gfPow j)) [1]).take 30

/-- One step of the division: `r` holds the remainder, lowest coefficient first. -/
def outerStep (g r : List Nat) (m : Nat) : List Nat :=
  let f := Nat.xor m (r.getLastD 0)
  List.zipWith Nat.xor (0 :: r.dropLast) (g.map fun c => gfMul c f)

/-- The 30 parity symbols of the message symbols, in the order in which they are sent. -/
def outerParity (ms : List Nat) : List Nat := (ms.foldl (outerStep outerGenerator) (List.replicate 30 0)).reverse

/-- Ten bits, the first sent least significant, as a field element and back. -/
def tenBits (l : List Bool) : Nat := l.foldr (fun b n => 2 * n + b.toNat) 0
def bitsOfTen (n : Nat) : List Bool := (List.range 10).map (hasBit n)

/-- A list cut into pieces of `k` elements; `n` bounds the number of pieces. -/
def pieces {α : Type} (k : Nat) : Nat → List α → List (List α)
  | 0, _ => []
  | n + 1, l => if l.isEmpty then [] else l.take k :: pieces k n (l.drop k)

/-- The 5440 bits of the outer codeword of 5140 message bits. -/
def outerCodeword (m : List Bool) : List Bool := m ++ (outerParity ((pieces 10 514 m).map tenBits)).flatMap bitsOfTen

/-! ### Striping (R165 to R168, R192) -/

def laneCodewords : Nat := 16384

/-- The group order of codewords: codeword number and lane position; `mask q` is the active mask at `q`. -/
def groupOrder (mask : Nat → Nat) (n : Nat) : List (Nat × Nat) :=
  (List.range n).flatMap fun q => (bitsOf 4 (mask q)).map fun p => (q, p)

/-- Cell positions of a group frame whose mask has `lanes` lanes throughout (Table 05-2), and the zero bits at its end. -/
def cellPositions (lanes : Nat) : Nat := laneCodewords * 5140 * lanes / 4160
def cellPadding (lanes : Nat) : Nat := laneCodewords * 5140 * lanes % 4160

/-- The place in group order of the codeword in which the header of cell position `k` begins. -/
def headerCodeword (k : Nat) : Nat := 4160 * k / 5140

/-- Does cell position `k` lie wholly within one codeword (R192)? -/
def withinCodeword (k : Nat) : Bool := decide (4160 * k / 5140 = (4160 * k + 4159) / 5140)

/-- The active mask at lane codeword `q`, of the masks of a group frame with the codewords from which they apply. -/
def maskAt (segs : List (Nat × Nat)) (q : Nat) : Nat := segs.foldl (fun m e => if e.1 ≤ q then e.2 else m) 0

/-- The codewords of a group frame with lane codewords before `q` (R165). -/
def codewordsUntil : List (Nat × Nat) → Nat → Nat
  | [], _ => 0
  | (a, m) :: t, q => (min q ((t.head?.map Prod.fst).getD laneCodewords) - a) * popCount 4 m + codewordsUntil t q

/-- The codewords of a group frame. -/
def codewordsOf (segs : List (Nat × Nat)) : Nat := codewordsUntil segs laneCodewords

/-- The lane codeword and position of the `c`-th codeword of a group frame (R165). -/
def codewordPlace : List (Nat × Nat) → Nat → Option (Nat × Nat)
  | [], _ => none
  | (q, m) :: t, c =>
    let n := (((t.head?.map Prod.fst).getD laneCodewords) - q) * popCount 4 m
    if c < n then ((bitsOf 4 m)[c % max 1 (popCount 4 m)]?).map fun p => (q + c / max 1 (popCount 4 m), p)
    else codewordPlace t (c - n)

/-- The cell positions of a group frame, and those whose headers lie in lane codewords before `q`. -/
def positionsOf (segs : List (Nat × Nat)) : Nat := codewordsOf segs * 5140 / 4160
def positionsUntil (segs : List (Nat × Nat)) (q : Nat) : Nat :=
  min (positionsOf segs) ((codewordsUntil segs q * 5140 + 4159) / 4160)

/-- The lane position that carries the first header bit of cell position `k`. -/
def headerLane (segs : List (Nat × Nat)) (k : Nat) : Option Nat := (codewordPlace segs (headerCodeword k)).map Prod.snd

/-- May a cell with placement `a` go in position `k` (R192)? -/
def fits (segs : List (Nat × Nat)) (k : Nat) : Place → Bool
  | .any => true
  | .lane p => headerLane segs k == some p
  | .within m => withinCodeword k && (headerLane segs k).any (hasBit m)

/-- The message bits of the cells in their positions, filled up with zeros to whole codewords' messages. -/
def cellBits (c : Nat × Bytes) : List Bool := byteBits (toBE 8 c.1 ++ c.2)
def messages (n : Nat) (cells : List (Nat × Bytes)) : List (List Bool) :=
  let b := cells.flatMap cellBits
  pieces 5140 n (b ++ List.replicate (5140 * n - b.length) false)

/-- The codewords of lane `p` in a frame of `n` codewords a lane: those of its places in group order, idle ones where it is not
active (R167). -/
def laneMessages (mask : Nat → Nat) (n p : Nat) (ms : List (List Bool)) : List (List Bool) :=
  let order := groupOrder mask n
  (List.range n).map fun q =>
    match (order.zip ms).find? (fun x => x.1 == (q, p)) with
    | some x => x.2
    | none => List.replicate 5140 false

/-! ### Inner codes (R169 to R171) -/

/-- The columns h[j]: of 8-bit values in ascending order, under NC-A the first 162 with two or more bits set, under NC-B the 120
with an odd number of bits, three at least. -/
def innerColumns (mode : Nat) : List Nat :=
  if mode = 0 then ((List.range 256).filter fun v => decide (2 ≤ popCount 8 v)).take 162
  else ((List.range 256).filter fun v => decide (3 ≤ popCount 8 v) && popCount 8 v % 2 == 1).take 120

/-- Data bits and all bits of an inner codeword of a mode (R169, R171). -/
def innerSize (mode : Nat) : Nat × Nat := if mode = 0 then (162, 170) else (120, 128)

/-- The symbol of a lane frame in which bit `b` of its outer codewords goes out: after the 128 of the marker and what the inner code
adds (R169, R172). Stuff symbols are not counted (DEDUCED: log 30). -/
def bitSymbol (mode b : Nat) : Nat :=
  let (k, n) := innerSize mode
  128 + (b / k * n + b % k) / 2

/-- The bits of its outer codewords that have begun when `m` symbols of a lane frame have gone by. -/
def bitsBegun (mode m : Nat) : Nat :=
  let (k, n) := innerSize mode
  let c := 2 * (m - 128)
  c / n * k + min k (c % n)

/-- The exclusive or of the columns of the bits that are set. -/
def columnSum : List Nat → List Bool → Nat
  | h :: hs, d :: ds => Nat.xor (if d then h else 0) (columnSum hs ds)
  | _, _ => 0

/-- Parity bits p[0] to p[7] of data bits. -/
def innerParity (hs : List Nat) (d : List Bool) : List Bool := (List.range 8).map (hasBit (columnSum hs d))

def innerCodeword (hs : List Nat) (d : List Bool) : List Bool := d ++ innerParity hs d

/-- The syndrome of a received inner codeword: 0 for a codeword, the column of the bit for one wrong data bit. -/
def innerSyndrome (hs : List Nat) (c : List Bool) : Nat :=
  Nat.xor (columnSum hs (c.take hs.length)) (columnSum [1, 2, 4, 8, 16, 32, 64, 128] (c.drop hs.length))

/-- A lane's content: its codewords in order, zeros to the end of the last inner codeword, inner-coded. -/
def laneContent (mode : Nat) (codewords : List (List Bool)) : List Bool :=
  let hs := innerColumns mode
  let k := hs.length
  let b := codewords.flatMap id
  let n := (b.length + k - 1) / k
  (pieces k n (b ++ List.replicate (k * n - b.length) false)).flatMap (innerCodeword hs)

/-! ### Scrambler (R177) -/

/-- The state at the first content bit of lane frame `fc` on lane position `p`. -/
def scramblerStart (seed fc p : Nat) : Nat :=
  let w := 2 ^ 64
  let x := Nat.xor (seed % w) (fc * 0x9E3779B97F4A7C15 % w)
  let x := Nat.xor x (p * 0xD1B54A32D192ED03 % w)
  let x := Nat.xor x (x / 2 ^ 29)
  let x := x * 0xBF58476D1CE4E5B9 % w
  let x := Nat.xor x (x / 2 ^ 32)
  let s := x % 2 ^ 31
  if s = 0 then 0x7FFFFFFF else s

/-- The sequence bit of a state, and the state after it. -/
def scramblerBit (s : Nat) : Bool := hasBit s 30 != hasBit s 27
def scramblerNext (s : Nat) : Nat := (2 * s + (scramblerBit s).toNat) % 2 ^ 31

/-- Bits with the sequence added; the same again takes it off. -/
def scramble : Nat → List Bool → List Bool
  | _, [] => []
  | s, d :: t => (d != scramblerBit s) :: scramble (scramblerNext s) t

/-! ### Stuffing and the tail (R179 to R182) -/

/-- The stuff symbol after a run of value `v`. -/
def stuffSymbol (v : Nat) : Nat := if v ≤ 1 then 3 else 0

/-- Symbols with stuff symbols inserted; `v`, `n` are the value and the length of the run so far. -/
def stuff : Nat → Nat → List Nat → List Nat
  | _, _, [] => []
  | v, n, x :: t =>
    let m := if x = v then n + 1 else 1
    if m = 24 then x :: stuffSymbol x :: stuff (stuffSymbol x) 1 t else x :: stuff x m t

/-- Symbols with those removed that follow 24 identical ones, and how many of these had not the value of R179 (R180). -/
def unstuff : Nat → Nat → List Nat → List Nat × Nat
  | _, _, [] => ([], 0)
  | v, n, x :: t =>
    if n = 24 then
      let r := unstuff x 1 t
      (r.1, r.2 + if x = stuffSymbol v then 0 else 1)
    else
      let r := unstuff x (if x = v then n + 1 else 1) t
      (x :: r.1, r.2)

/-- The longest run of equal symbols, from a run of length `n` of value `v`. -/
def longestRun : Nat → Nat → List Nat → Nat
  | _, n, [] => n
  | v, n, x :: t => max n (longestRun x (if x = v then n + 1 else 1) t)

/-- `n` tail symbols: 0 and 3 in turn. -/
def tailSymbols (n : Nat) : List Nat := (List.range n).map fun i => if i % 2 = 0 then 0 else 3

/-- The run that symbols leave behind: value and length. -/
def runAfter : Nat → Nat → List Nat → Nat × Nat
  | v, n, [] => (v, n)
  | v, n, x :: t => runAfter x (if x = v then n + 1 else 1) t

/-- A lane frame up to its tail: marker and content, scrambled and stuffed; `v`, `n` the run that the frame before left (R179). -/
def frameBodySymbols (v n : Nat) (marker : Bytes) (start : Nat) (content : List Bool) : List Nat :=
  stuff v n (toSymbols (byteBits marker) ++ toSymbols (scramble start content))

/-! ### Training frames and sprout (R213, R220, R221) -/

/-- The training sequence x^13 + x^12 + x^2 + x + 1 and the seed of a lane position. -/
def trainingSeed (p : Nat) : Nat := [0x1F0F, 0x0A5A, 0x1C33, 0x0666].getD p 0
def trainingBits : Nat → Nat → List Bool
  | 0, _ => []
  | k + 1, s =>
    let b := ((hasBit s 12 != hasBit s 11) != hasBit s 1) != hasBit s 0
    b :: trainingBits k ((2 * s + b.toNat) % 2 ^ 13)

/-- Bits sent as symbols 0 and 3. -/
def outerSymbols (l : List Bool) : List Nat := l.map fun b => if b then 3 else 0

/-- The 8192 symbols of a training frame of lane position `p` with control word `w`. -/
def trainingSymbols (p w : Nat) : List Nat :=
  outerSymbols (byteBits (toBE 4 0xE4B11D27 ++ toBE 12 w)) ++ toSymbols (trainingBits 16128 (trainingSeed p))

/-- The 204 sprout symbols of a frame, as DAC codes: on is 255, off is 0 (R133, R213). -/
def sproutCodes (body : Bytes) : List Nat :=
  (List.replicate 6 true ++ List.replicate 6 false ++ (byteBits body).flatMap fun b => [b, !b]).map fun b => if b then 255 else 0

/-! ### The transmit chain (R127 to R129) -/

/-- Transmit tap `i`, c(-2) first. -/
def txTap (s : Hw) (n i : Nat) : Int :=
  sx 8 (if i < 4 then s.num (LTX_TAPS n 0) / 2 ^ (24 - 8 * i) else s.num (LTX_TAPS n 1) / 2 ^ (24 - 8 * (i - 4)))

/-- The level of a symbol value. -/
def txLevel (s : Hw) (n a : Nat) : Int :=
  match a with
  | 0 => -256
  | 1 => -(s.fld (LTX_LEVELS_inner_neg n) : Int)
  | 2 => s.fld (LTX_LEVELS_inner_pos n)
  | _ => 256

/-- Pre-distortion entry `i`: entry 4w + b stands in byte b of word w (Table 04-11). -/
def pdEntry (s : Hw) (n i : Nat) : Int := sx 8 (s.num (LTX_PD n (i / 4)) / 2 ^ (24 - 8 * (i % 4)))

/-- The sum of the FFE over the seven symbols from a[k + 2] down to a[k - 4]. -/
def txFfe (s : Hw) (n : Nat) (w : List Nat) : Int :=
  ((List.range 7).map fun i => txTap s n i * txLevel s n (w.getD i 0)).foldl (· + ·) 0

/-- 127 * ffe / 32768 rounded; which way a half goes is not stated. -/
def dacRound (ffe : Int) : Int :=
  let q := 127 * ffe / 32768
  let r := 127 * ffe % 32768
  if r < 16384 then q else if 16384 < r then q + 1 else if Config.roundHalfUp q then q + 1 else q

/-- The code of symbol a[k] before it is limited: `w` holds a[k + 2] down to a[k - 4]. -/
def dacRaw (s : Hw) (n : Nat) (w : List Nat) : Int :=
  let base := 128 + dacRound (txFfe s n w)
  if s.flag (LTX_CFG_pd_bypass n) then base
  else base + pdEntry s n (16 * w.getD 3 0 + 4 * w.getD 2 0 + w.getD 1 0)

/-- Does the code of this window clip, and the code that reaches the DAC. -/
def dacClips (s : Hw) (n : Nat) (w : List Nat) : Bool := decide (dacRaw s n w < 0 ∨ 255 < dacRaw s n w)
def dacCode (s : Hw) (n : Nat) (w : List Nat) : Nat := (clampI 0 255 (dacRaw s n w)).toNat

/-- The DAC codes of symbols in the order of time, from the fifth to the last but two. -/
def dacCodes (s : Hw) (n : Nat) : List Nat → List Nat
  | a :: t => if 6 ≤ t.length then dacCode s n ((a :: t.take 6).reverse) :: dacCodes s n t else []
  | [] => []

/-- The limits of a tap's product over the four levels. -/
def tapMost (s : Hw) (n i : Nat) : Int := ([0, 1, 2, 3].map fun a => txTap s n i * txLevel s n a).foldl max (-32768)
def tapLeast (s : Hw) (n i : Nat) : Int := ([0, 1, 2, 3].map fun a => txTap s n i * txLevel s n a).foldl min 32768

/-- Can some seven symbols clip? Pre-distortion depends on three of them, and the others move the FFE between its limits. -/
def mayClip (s : Hw) (n : Nat) : Bool :=
  let hi := ([0, 4, 5, 6].map (tapMost s n)).foldl (· + ·) 0
  let lo := ([0, 4, 5, 6].map (tapLeast s n)).foldl (· + ·) 0
  (List.range 64).any fun e =>
    let mid := txTap s n 3 * txLevel s n (e / 16) + txTap s n 2 * txLevel s n (e / 4 % 4) + txTap s n 1 * txLevel s n (e % 4)
    decide (255 < 128 + dacRound (mid + hi) + pdEntry s n e ∨ 128 + dacRound (mid + lo) + pdEntry s n e < 0)

/-- Does a code of some symbols in the order of time clip? -/
def anyClips (s : Hw) (n : Nat) : List Nat → Bool
  | a :: t => (decide (6 ≤ t.length) && dacClips s n ((a :: t.take 6).reverse)) || anyClips s n t
  | [] => false

/-- Symbols go out on a lane (R129): clip is set if a code clips, of theirs and of the last symbols before them. A table of zeros lets
none clip under R127. -/
def sendSymbols (n : Nat) (l : List Nat) (s : Hw) : Hw :=
  let all := (s.lane n).sent ++ l
  let quiet := s.flag (LTX_CFG_pd_bypass n) || s.flag (LTX_STATUS_squelch n) || ((List.range 16).all fun w => s.num (LTX_PD n w) == 0) ||
    !mayClip s n
  let s := s.cond (!quiet && anyClips s n all) fun s => s.setFld (LTX_STATUS_clip n) 1
  s.updLane n fun x => { x with sent := all.drop (all.length - 6) }

/-! ### The PCS of an 802.3 PHY (R202, R253) -/

/-- 256b/257b transcoding of four 66-bit blocks, each with its two sync bits first. PRESUMED (log 115): as IEEE 802.3 Clause 91 has it. -/
def transcode (bs : List (List Bool)) : List Bool :=
  let data := fun (b : List Bool) => b.take 2 == [false, true]
  let i := (bs.findIdx? fun b => !data b).getD bs.length
  let x := if i = bs.length then true :: bs.flatMap (List.drop 2)
    else false :: bs.map data ++
      (bs.mapIdx fun j b => if j = i then (b.drop 2).take 4 ++ b.drop 10 else b.drop 2).flatMap id
  List.zipWith (fun a b => a != b) (x.take 5) ((x.drop 8).take 5) ++ x.drop 5

/-- Blocks of 66 bits as whole RS(544,514) codewords of twenty transcoded blocks each, and those that wait for the next codeword. -/
def pcsCode (blocks : List (List Bool)) : List Bool × List (List Bool) :=
  let n := blocks.length / 80
  ((pieces 80 n blocks).flatMap fun l => outerCodeword ((pieces 4 20 l).flatMap transcode), blocks.drop (80 * n))

/-- A frame goes to a PHY's lane: the symbols of the codewords that it fills, mapped as R163 has it, and what waits after it. The blocks
of the frame with the idles and markers before it are the standard's: `Config.pcsBlocks`. -/
def pcsFrame (phy lane : Nat) (wait : List (List Bool)) (b : Bytes) : List Nat × List (List Bool) :=
  let x := pcsCode (wait ++ Config.pcsBlocks phy lane b)
  (toSymbols x.1, x.2)

end Sys2Proof.Machine
end

