-- ==== Sys2Proof/Machine/Records.lean ====
section
/-!
DEFINITION. The event recorder (19): delivery and merging of events, staging, page commits, the interrupts of events, the
EVR commands, and the commits of the journal's NV tier with the objects they carry.
-/
namespace Sys2Proof.Machine
open Reg

/-- The events that their chapters' tables mark "snapshot" (R549). -/
def snapCodes : List Nat :=
  [0x0102, 0x0103, 0x0106, 0x0109, 0x0204, 0x0206, 0x020B, 0x0210, 0x0211, 0x0217, 0x0506, 0x0602, 0x0803, 0x0901, 0x0902,
    0x0A04, 0x0A06, 0x0B01, 0x0B03, 0x0B04, 0x0B09, 0x0C02, 0x0C06, 0x0D02, 0x0D03, 0x0E01, 0x0E02, 0x0E06, 0x1105, 0x110A]

def isSnap (code : Nat) : Bool := snapCodes.contains code

/-! ### Registers as they read now -/

/-- The seconds left of a trial (R573, SEC_CFG.remaining): operating time counts it. -/
def trialLeft (s : Hw) : Nat :=
  if s.nv.ident.trial then s.fld SEC_CFG_trial_s - (s.optime - s.nv.ident.trialAt) / 1000 else 0

/-- Failures of a domain within the last 600 s (R526). -/
def recentFails (s : Hw) (d : Nat) : List Nat := (s.dom d).fails.filter fun t => decide (s.dtime < t + 600000000000)

/-- The domain number of a PWR_DOM register. -/
def domOf (a : Nat) : Option Nat := if PWR_DOM 0 ≤ a ∧ a < PWR_DOM 20 then some (a - PWR_DOM 0) else none

/-- The word at an implemented address as a read gives it now: time and what follows from it, a host-owned table's word, or
the register. -/
def liveWord (s : Hw) (a : Nat) : Word :=
  if a = PWR_DTIME then BitVec.ofNat 32 (s.dtime / 2 ^ 32)
  else if a = PWR_DTIME + 1 then BitVec.ofNat 32 s.dtime
  else if a = EVR_OPTIME then BitVec.ofNat 32 (s.optime / 2 ^ 32)
  else if a = EVR_OPTIME + 1 then BitVec.ofNat 32 s.optime
  else if a = SEC_CFG then putField (s.reg a) 0 16 (trialLeft s)
  else match domOf a with
    | some d => putField (s.reg a) 20 4 (min 15 (recentFails s d).length)
    | none => if (tableOf a).isSome then tableWord s a else s.reg a

/-! ### One word read by a source (R29) -/

/-- The key of a source's latch in a unit. -/
def latchKey (src a : Nat) : Nat := src * 2 ^ 12 + a / 2 ^ 12

/-- Is `a` the upper word of a 64-bit value? -/
def pairUpper (a : Nat) : Bool :=
  match regFind a with
  | some (d, _) => d.pair
  | none => false

/-- A source reads a word: a latched lower word once, else the present value; an upper word latches its lower word, and a read
of any other word of the unit releases the latch. -/
def readWord (src a : Nat) (s : Hw) : Word × Hw :=
  let k := latchKey src a
  let v := match Map.get none s.cmd.latches k with
    | some l => if l.addr = a then l.value else liveWord s a
    | none => liveWord s a
  let l : Option PairLatch := if pairUpper a then some ⟨a + 1, liveWord s (a + 1)⟩ else none
  (v, { s with cmd := { s.cmd with latches := Map.put none s.cmd.latches k l } })

/-! ### Staging (R549 to R559) -/

def Rec.slots (r : Rec) : Nat := if r.snap then 3 else 1

/-- A record that holds staging slots: not committed, or changed since. -/
def Rec.inStage (r : Rec) : Bool := !r.committed || r.changed

def stagedSlots (l : List Rec) : Nat := sumN ((l.filter Rec.inStage).map Rec.slots)

def stagingSize : Nat := 2048

/-- The last element of a list with a property. -/
def lastWith {α : Type} (p : α → Bool) (l : List α) : Option α := l.foldl (fun m x => if p x then some x else m) none

/-- The last element with a property, changed. -/
def updLast {α : Type} (p : α → Bool) (f : α → α) : List α → List α
  | [] => []
  | x :: t => if t.any p then x :: updLast p f t else if p x then f x :: t else x :: t

/-- What follows the last element with a property. -/
def afterLast {α : Type} (p : α → Bool) : List α → List α
  | [] => []
  | x :: t => if t.any p then afterLast p t else if p x then t else []

def updEvr (s : Hw) (f : Evr → Evr) : Hw := { s with evr := f s.evr }
def stageRec (s : Hw) (r : Rec) : Hw := updEvr s fun x => { x with staged := x.staged ++ [r] }

/-- EVR_STATUS follows the staging store and the commits that are pending. -/
def settleEvr (s : Hw) : Hw :=
  let s := s.setFld EVR_STATUS_staged (stagedSlots s.evr.staged)
  s.setFlag EVR_STATUS_commit_pending ((s.evr.staged.any Rec.inStage) || !s.nv.items.isEmpty)

/-- Is the event enabled for interrupt (R555)? -/
def eventInt (s : Hw) (code : Nat) : Bool :=
  ((List.range 8).any fun n =>
    let m := s.fld (EVR_INT_MATCH_mask n)
    m != 0 && (code &&& m) == (s.fld (EVR_INT_MATCH_value n) &&& m)) || (isSnap code && s.flag EVR_CFG_snap_int)

def interrupt (s : Hw) (code : Nat) : Hw := s.cond (eventInt s code) fun s => s.setFld CMD_INT_STATUS_event 1

/-- The snapshot set that an event takes (R551). -/
def snapSet (s : Hw) (code : Nat) : Option Nat :=
  (List.range 8).find? fun n =>
    let m := s.fld (EVR_SNAP_CODE_mask n)
    (code &&& m) == (s.fld (EVR_SNAP_CODE_value n) &&& m)

/-- Is a word unavailable to the snapshot reader: does its domain sleep, or is it fenced (R30)? -/
def snapGone (s : Hw) (a : Nat) : Bool :=
  match addrDomain a with
  | some d => !s.ready d || s.fenced d
  | none => false

/-- The snapshot reader reads the words of a list in their order, under the latches of its own source (R29); an unavailable or
unimplemented word, and one that is poisoned, is recorded as 0. -/
def snapRead : List Nat → Hw → List Nat × Hw
  | [], s => ([], s)
  | a :: t, s =>
    if snapGone s a || (regFind a).isNone then
      let (l, s) := snapRead t s
      (0 :: l, s)
    else
      let bad := poisoned s a
      let (v, s) := readWord 2 a s
      let (l, s) := snapRead t s
      ((if bad then 0 else v.toNat) :: l, s)

/-- The words of the set that an event takes, with the mask of those unavailable (R30, R551). -/
def snapWords (s : Hw) (code : Nat) : (List Nat × Nat) × Hw :=
  match snapSet s code with
  | none => (([], 0), s)
  | some n =>
    let k := min 16 (s.fld (EVR_SNAP_COUNT_count n))
    let as := (List.range k).map fun j => s.num (EVR_SNAP_ADDR n j)
    let bad := sumN ((List.range k).map fun j => if snapGone s (as.getD j 0) then 2 ^ j else 0)
    let (ws, s) := snapRead as s
    ((ws, bad), s)

/-- An event that is staged at once, before those that wait on the bus, goes to Gather in the same handshake (R32). -/
def handOver (s : Hw) (e : Ev) : Hw := updEvr s fun x => { x with handed := x.handed ++ [e] }

/-- A count of records lost waits for a free slot (R559): event 0x1301 is staged there. -/
def stageLost (s : Hw) : Hw :=
  if s.evr.lostNow = 0 ∨ stagedSlots s.evr.staged + 1 > stagingSize then s
  else
    let e : Ev := ⟨0x1301, [s.evr.lostNow], s.dtime⟩
    let r : Rec := { code := 0x1301, snap := false, pcc := s.num EVR_PCC, first := s.optime, last := s.optime, dtime := s.dtime,
                     params := e.params }
    handOver (interrupt (stageRec (updEvr s fun x => { x with lostNow := 0 }) r) 0x1301) e

def loseRecords (s : Hw) (k : Nat) : Hw :=
  updEvr (s.count EVR_LOST k) fun x => { x with lostNow := x.lostNow + k }

/-- Remove the newest uncommitted code records until `k` slots are free; the number removed. -/
def displace (k : Nat) : Nat → List Rec → Nat → List Rec × Nat
  | 0, l, n => (l, n)
  | fuel + 1, l, n =>
    if stagedSlots l + k ≤ stagingSize then (l, n)
    else if l.any fun r => !r.snap && !r.committed then
      let t := l.reverse.eraseP fun r => !r.snap && !r.committed
      displace k fuel t.reverse (n + 1)
    else (l, n)

/-- A new record is staged, or dropped (R556, R559). -/
def stageNew (s : Hw) (r : Rec) : Hw :=
  if stagedSlots s.evr.staged + r.slots ≤ stagingSize then interrupt (stageRec s r) r.code
  else if r.snap then
    let (l, n) := displace 3 3 s.evr.staged 0
    if stagedSlots l + 3 ≤ stagingSize then
      interrupt (stageRec (loseRecords (updEvr s fun x => { x with staged := l }) n) r) r.code
    else loseRecords s 1
  else loseRecords s 1

/-- A code event joins the newest code record of its code, or opens one (R552). `within` are the records it may join. -/
def stageCode (s : Hw) (e : Ev) (within : List Rec) : Hw :=
  let isIt := fun (r : Rec) => !r.snap && r.code == e.code
  let join := match lastWith isIt within with
    | some r => r.params == e.params && !r.closed && decide (s.optime ≤ r.last + s.fld EVR_CFG_merge_ms)
    | none => false
  if join then
    interrupt (updEvr s fun x => { x with staged := updLast isIt (fun r =>
      { r with count := r.count + 1, last := s.optime, closed := decide (r.count + 1 ≥ 65535), changed := r.committed }) x.staged }) e.code
  else
    stageNew s { code := e.code, snap := false, pcc := s.num EVR_PCC, first := s.optime, last := s.optime, dtime := e.time,
                 params := e.params }

/-- The first event on the bus is recorded (R549). -/
def recordEvent (s : Hw) : Hw :=
  match s.evr.bus with
  | [] => s
  | e :: rest =>
    let s := stageLost (updEvr s fun x => { x with bus := rest })
    if isSnap e.code then
      let isIt := fun (r : Rec) => r.snap && r.code == e.code
      let again := match lastWith isIt s.evr.staged with
        | some r => r.params == e.params && decide (s.optime ≤ r.first + s.fld EVR_CFG_merge_ms)
        | none => false
      if again then stageCode s e (afterLast isIt s.evr.staged)
      else
        let ((ws, bad), s) := snapWords s e.code
        stageNew s { code := e.code, snap := true, pcc := s.num EVR_PCC, first := s.optime, last := s.optime, dtime := e.time,
                     params := e.params, words := ws, unavail := bad }
    else stageCode s e s.evr.staged

/-! ### Commits to the ring (R557 to R560) -/

/-- May this record go into a page now? A changed record goes again at most once per second. -/
def due (s : Hw) (r : Rec) : Bool := !r.committed || (r.changed && decide (r.lastCommit + 10 ^ 9 ≤ s.dtime))

/-- The records for one page of 15 slots, oldest first, with the list after the commit. -/
def takePage (s : Hw) : List Rec → Nat → List Rec × List Rec
  | [], _ => ([], [])
  | r :: t, free =>
    if due s r then
      if r.slots ≤ free then
        let (p, l) := takePage s t (free - r.slots)
        (r :: p, { r with committed := true, changed := false, lastCommit := s.dtime } :: l)
      else ([], r :: t)
    else
      let (p, l) := takePage s t free
      (p, r :: l)

/-- Records that nothing needs any longer: committed, and not the newest of their kind and code. -/
def pruneStage : List Rec → List Rec
  | [] => []
  | r :: t =>
    if !r.inStage && t.any (fun q => q.code == r.code && q.snap == r.snap) then pruneStage t else r :: pruneStage t

def ringSize : Nat := 2048

/-- One page written to the ring. -/
def writePage (s : Hw) : Hw :=
  let (p, l) := takePage s s.evr.staged 15
  if p.isEmpty then s
  else
    let seq := (s.nv.pageSeq + 1) % 2 ^ 32
    let ring := s.nv.ring ++ [{ seq := seq, pcc := s.num EVR_PCC, time := s.optime, recs := p }]
    let s : Hw := { s with nv := { s.nv with ring := ring.drop (ring.length - ringSize), pageSeq := seq } }
    let s := s.cond (decide (ring.length > ringSize)) fun s => s.setFld EVR_STATUS_ring_wrapped 1
    stageLost (updEvr (s.wrapCount EVR_COMMITS) fun x => { x with staged := pruneStage l })

/-- Staged records are committed to the next page, unless 100 commits have started in the last second (R558) or D19 is
fenced (R563); a D19 that sleeps is woken first. -/
def pageCommit (s : Hw) : Hw :=
  let recent := s.evr.commits.filter fun t => decide (s.dtime < t + 10 ^ 9)
  if s.fenced 19 || recent.length ≥ 100 || !(s.evr.staged.any (due s)) then s
  else if !s.ready 19 then s.access 19
  else writePage (updEvr s fun x => { x with commits := recent ++ [s.dtime] })

/-- Every staged record and changed copy at once (R578). -/
def flushAll : Nat → Hw → Hw
  | 0, s => s
  | fuel + 1, s =>
    if s.evr.staged.any Rec.inStage then
      let s := updEvr s fun x => { x with staged := x.staged.map fun r => { r with lastCommit := 0, committed := !r.inStage } }
      flushAll fuel (writePage s)
    else s

/-- Operating time is written to non-volatile memory (R550); outside the shut state a D19 that sleeps is woken first. -/
def checkpoint (s : Hw) : Hw :=
  if s.fenced 19 then s
  else if !s.ready 19 then s.cond (s.phase != .shut) fun s => s.access 19
  else { s with nv := { s.nv with optime := s.optime }, evr := { s.evr with lastCkpt := s.dtime } }

def optimeMax : Nat := 2 ^ 48 - 1

/-- Event 0x1304 when operating time has reached its limit (R550). -/
def settleOptime (s : Hw) : Hw :=
  if s.optime = optimeMax ∧ !s.evr.optTop then (updEvr s fun x => { x with optTop := true }).raise 0x1304 [0] else s

/-- Every 60 s. -/
def optimeCheckpoint (s : Hw) : Hw := if s.evr.lastCkpt + 60000000000 ≤ s.dtime then checkpoint s else s

/-! ### Commits of the NV tier (R79, R562) -/

/-- Commands in their order: power-cycle count, epoch in serial arithmetic, index. -/
def cmdNewer (a b : Nat × Nat × Nat) : Bool :=
  if a.1 ≠ b.1 then decide (b.1 < a.1)
  else if a.2.1 ≠ b.2.1 then decide ((a.2.1 + 256 - b.2.1) % 256 < 128)
  else decide (b.2.2 < a.2.2)

def ObjCopy.stamp (c : ObjCopy) : Nat × Nat × Nat := (c.pcc, c.epoch, c.index)
def JEntry.stamp (e : JEntry) : Nat × Nat × Nat := (e.pcc, e.epoch, e.index)

/-- A new copy over the older of the two. -/
def writeCopy (o : CfgObj) (c : ObjCopy) : CfgObj :=
  match o.a, o.b with
  | none, _ => { o with a := some c }
  | some _, none => { o with b := some c }
  | some x, some y => if cmdNewer x.stamp y.stamp then { o with b := some c } else { o with a := some c }

/-- Step 1 of R562 for one item. -/
def writeObjs (s : Hw) (i : NvItem) : Hw :=
  i.objs.foldl (fun s o =>
    let c : ObjCopy := { pcc := i.entry.pcc, epoch := i.entry.epoch, index := i.entry.index, body := o.2 }
    { s with nv := { s.nv with objs := Map.upd {} s.nv.objs o.1 fun x => writeCopy x c } }) s

/-- What a committed item leaves as the adopted contents. -/
def adoptObjs (s : Hw) (i : NvItem) : Hw :=
  i.objs.foldl (fun s o =>
    { s with nv := { s.nv with objs := Map.upd {} s.nv.objs o.1 fun x => { x with adopted := some o.2 } } }) s

/-- The NV tier with an entry in its place: the tier is in the order of the commands (R82), whatever the order of their commits. -/
def insertEntry (e : JEntry) : List JEntry → List JEntry
  | [] => [e]
  | x :: t => if cmdNewer x.stamp e.stamp then e :: x :: t else x :: insertEntry e t

/-- The commit of one item: its objects, then its entry. -/
def commitItem (s : Hw) (i : NvItem) : Hw :=
  let s := adoptObjs (writeObjs s i) i
  let j := insertEntry i.entry s.nv.journal
  { s with nv := { s.nv with journal := j.drop (j.length - nvTier) } }

def isSync (r : RunCmd) : Bool := r.wait == .nvSync

/-- The oldest commit that has started finishes; JOURNAL_SYNC ends with the last. -/
def nvTierCommit (s : Hw) : Hw :=
  match s.nv.items with
  | [] => s
  | i :: rest =>
    if !s.ready 19 || s.fenced 19 then s
    else
      let s : Hw := commitItem { s with nv := { s.nv with items := rest } } i
      s.cond rest.isEmpty fun s => setOutcome s isSync stOK 0

/-- The identity region with what one command changed in it given back: every object as before the command, but for those that the
command left as they were. -/
def identBack (b e i : Ident) : Ident :=
  { eqSets := if e.eqSets = b.eqSets then i.eqSets else b.eqSets
    lehrMain := if e.lehrMain = b.lehrMain then i.lehrMain else b.lehrMain
    lehrRing := if e.lehrRing = b.lehrRing then i.lehrRing else b.lehrRing
    slots := if e.slots = b.slots then i.slots else b.slots
    rollback := if e.rollback = b.rollback then i.rollback else b.rollback
    cosign := if e.cosign = b.cosign then i.cosign else b.cosign
    active := if e.active = b.active then i.active else b.active
    trial := if e.trial = b.trial then i.trial else b.trial
    fallback := if e.fallback = b.fallback then i.fallback else b.fallback
    trialAt := if e.trialAt = b.trialAt then i.trialAt else b.trialAt }

/-- The non-volatile effects of a command given back (R79). -/
def giveBack (u : Undo) (s : Hw) : Hw :=
  let ring := u.erased ++ s.nv.ring
  { s with nv := { s.nv with
      ident := match u.ident with
        | some (b, e) => identBack b e s.nv.ident
        | none => s.nv.ident
      ring := ring.drop (ring.length - ringSize)
      repair := s.nv.repair.filter fun r => !u.rows.any (sameRow r)
      unver := s.nv.unver ||| u.passed } }

/-- A page whose commit started at this very moment is in progress: a loss of power or of D19 abandons it, and its records are lost
(R560; DEDUCED: log entry 129). -/
def abandonPage (s : Hw) : Hw :=
  if s.evr.commits.getLast? = some s.dtime then
    { s with nv := { s.nv with ring := s.nv.ring.dropLast, pageSeq := (s.nv.pageSeq + 2 ^ 32 - 1) % 2 ^ 32 }
             evr := { s.evr with commits := s.evr.commits.dropLast } }
  else s

/-- Commits that have started are abandoned by a loss of power or of D19 (R79, R562): what their commands did in non-volatile memory
is given back, the newest first. -/
def abandonCommits (s : Hw) : Hw :=
  let s := abandonPage s
  s.nv.items.foldr (fun i s => giveBack i.undo s) { s with nv := { s.nv with items := [] } }

/-! ### Commands (Table 19-10) -/

/-- A record's bytes (Table 19-1). -/
def recBytes (r : Rec) : Bytes :=
  let ps := (List.range 3).flatMap fun i => toBE 4 (r.params.getD i 0 % 2 ^ 32)
  if r.snap then
    toBE 2 r.code ++ toBE 1 0x80 ++ toBE 1 (r.words.length - popCount 16 r.unavail) ++ toBE 4 r.pcc ++ toBE 6 r.first ++
      toBE 2 r.unavail ++ toBE 4 (r.dtime % 2 ^ 32) ++ ps ++ (List.range 16).flatMap fun k => toBE 4 (r.words.getD k 0)
  else
    toBE 2 r.code ++ toBE 1 (0x40 + if r.closed then 1 else 0) ++ [0] ++ toBE 4 r.pcc ++ toBE 6 r.first ++ toBE 2 r.count ++
      toBE 4 (min (r.last - r.first) (2 ^ 32 - 1)) ++ ps

/-- Copies of one record (R557). -/
def sameRec (a b : Rec) : Bool :=
  a.code == b.code && a.snap == b.snap && a.pcc == b.pcc && a.first == b.first && a.dtime == b.dtime && a.params == b.params

/-- The newest stored copies of the records in the ring, with their pages' sequence numbers, oldest first. -/
def ringRecs (ring : List Page) : List (Nat × Rec) :=
  let all := (ring.filter fun p => p.bad == 0).flatMap fun p => p.recs.map fun r => (p.seq, r)
  let rec newest : List (Nat × Rec) → List (Nat × Rec)
    | [] => []
    | x :: t => if t.any fun y => sameRec x.2 y.2 then newest t else x :: newest t
  newest all

/-- Whole records while they fit in `n` slots, and the first that does not. -/
def fitRecs : Nat → List (Nat × Rec) → List Rec × Option Nat
  | _, [] => ([], none)
  | n, (q, r) :: t => if r.slots ≤ n then (let (l, e) := fitRecs (n - r.slots) t; (r :: l, e)) else ([], some q)

/-- Records in their order: power-cycle count, operating time, place in the ring (R550). -/
def putRec (r : Rec) : List Rec → List Rec
  | [] => [r]
  | x :: t => if r.pcc < x.pcc ∨ (r.pcc = x.pcc ∧ r.first < x.first) then r :: x :: t else x :: putRec r t

def inOrder (l : List Rec) : List Rec := l.foldl (fun m r => putRec r m) []

/-- The pages that cannot be read from `start` on are each counted and told once in a power cycle (R560, log entry 84). -/
def tellBadPages (start : Nat) (s : Hw) : Hw :=
  let hit := fun (p : Page) => p.bad != 0 && !p.told && (decide ((p.seq + 2 ^ 32 - start) % 2 ^ 32 < 2 ^ 31))
  let s := (s.nv.ring.filter hit).foldl (fun (s : Hw) p => (s.count EVR_NV_BAD).raise 0x1302 [p.seq, p.bad - 1]) s
  { s with nv := { s.nv with ring := s.nv.ring.map fun p => if hit p then { p with told := true } else p } }

/-- Is page `q` at or after `start` in serial arithmetic? -/
def pageAfter (q start : Nat) : Bool := decide ((q + 2 ^ 32 - start) % 2 ^ 32 < 2 ^ 31)

def opEvrInfo : OpSpec :=
  OpSpec.fix headEvrInfo [] fun s _ =>
    let seq := fun (p : Option Page) => (p.map Page.seq).getD 0
    .ok s (toBE 4 (seq s.nv.ring.head?) ++ toBE 4 (seq s.nv.ring.getLast?) ++ toBE 2 (stagedSlots s.evr.staged) ++ zeros 2 ++
      toBE 4 (s.num EVR_PCC) ++ toBE 8 s.optime)

def opEvrRead : OpSpec :=
  { OpSpec.fix headEvrRead [.rng 1 0 1, .res 3, .any 4, .rng 1 1 60] fun s c =>
      let n := if c.rq.route = .inband then min 45 (u8 c.p 8) else u8 c.p 8
      let next := (s.nv.pageSeq + 1) % 2 ^ 32
      if u8 c.p 0 = 1 then
        let (l, _) := fitRecs n ((s.evr.staged.filter Rec.inStage).map fun r => (next, r))
        .ok s (toBE 4 next ++ zeros 4 ++ l.flatMap recBytes)
      else
        let s := tellBadPages (u32 c.p 4) s
        let (l, e) := fitRecs n ((ringRecs s.nv.ring).filter fun x => pageAfter x.1 (u32 c.p 4))
        .ok s (toBE 4 (e.getD next) ++ zeros 4 ++ (inOrder l).flatMap recBytes) with
    doms := fun _ p => if u8 p 0 = 0 then [19] else [] }

def applyEvrConfig (p : Bytes) (s : Hw) : Hw :=
  let s := (s.setFld EVR_CFG_merge_ms (u16 p 0)).setFld EVR_CFG_snap_int (bit (u8 p 2) 0)
  s.each (List.range 8) fun n s => s.setNum (EVR_INT_MATCH n) (u32 p (3 + 4 * n))

def opEvrConfig : OpSpec :=
  { OpSpec.fix headEvrConfig ([.any 2, .msk 1 1] ++ List.replicate 8 (.any 4)) fun s c => .ok (applyEvrConfig c.p s) with
    objs := fun _ => [0] }

def applyEvrSnap (p : Bytes) (s : Hw) : Hw :=
  let n := u8 p 0
  let k := u8 p 1
  let s := (s.setNum (EVR_SNAP_CODE n) (u32 p 2)).setFld (EVR_SNAP_COUNT_count n) k
  s.each (List.range 16) fun j s => s.setNum (EVR_SNAP_ADDR n j) (if j < k then u32 p (6 + 4 * j) else 0)

def opEvrSnapSet : OpSpec :=
  { OpSpec.list headEvrSnapSet [.rng 1 0 7, .rng 1 0 16, .any 2, .any 2] 2 1 1 0 16 4 fun s c =>
      let ok := (List.range (u8 c.p 1)).all fun j => let a := u32 c.p (6 + 4 * j); decide (a < 2 ^ 24) && unitListed a
      if ok then .ok (applyEvrSnap c.p s) else .refuse stCONDITIONS 1 s with
    objs := fun p => [u8 p 0] }

def opEvrFlush : OpSpec :=
  { OpSpec.fix headEvrFlush [] fun s _ =>
      if s.fenced 19 then .refuse stCONDITIONS 1 s else .ok (flushAll (s.evr.staged.length + 1) s) with
    doms := fun s _ => if s.fenced 19 then [] else [19] }

/-- The owner key slot that signed a Maintainer request (R63). -/
def signerOf (rq : Request) : Nat := u8 rq.params (rq.params.length - 100)

/-- The ring is erased, and event 0x1303 is the first record after it (Table 19-8): it is staged at once. -/
def opEvrErase : OpSpec :=
  { OpSpec.fix headEvrErase [] fun s c =>
      if (s.evr.staged.any Rec.inStage) || !s.nv.items.isEmpty then .refuse stCONDITIONS 1 s
      else
        let n := s.nv.ring.length
        let s : Hw := { s.setFld EVR_STATUS_ring_wrapped 0 with nv := { s.nv with ring := [] } }
        let e : Ev := ⟨0x1303, [n, signerOf c.rq], s.dtime⟩
        .ok (handOver (stageCode s e []) e) with
    doms := fun _ _ => [19] }

end Sys2Proof.Machine
end

