-- ==== Sys2Proof/Machine/Gather.lean ====
section
/-!
DEFINITION. Gather (16): staging stores, the capture sequence, triggers, and the GTH commands.
-/
namespace Sys2Proof.Machine
open Reg

def updGth (s : Hw) (f : Gth → Gth) : Hw := { s with gth := f s.gth }

/-- The multiple of the 156.25 MHz reference that a mode's symbol rate is (Table 04-1). -/
def rateMultiple (mode : Nat) : Nat := if mode = 0 then 1452 else if mode = 1 then 744 else 680

/-- Symbols in 1 ms. -/
def symbolsPerMs (mode : Nat) : Nat := rateMultiple mode * 156250

/-! ### Capture (R488 to R490) -/

/-- Blocks per segment (R490). -/
def segSize (s : Hw) : Nat := 65536 / 2 ^ s.fld GTH_CAP_segs_log2

/-- Does the capture take blocks: pre-fill, ready or post (Table 16-4)? -/
def capturing (s : Hw) : Bool := let st := s.fld GTH_STATE_state; decide (1 ≤ st ∧ st ≤ 3)

/-- The state that a segment begins in: ready at once when pre_min is 0. -/
def beginSegment (s : Hw) (seg : Nat) : Hw :=
  let s := (s.setFld GTH_STATE_segment seg).setFld GTH_STATE_written 0
  s.setFld GTH_STATE_state (if s.fld GTH_PRE_pre_min = 0 then 2 else 1)

/-- Close the current segment (R490): the newest blocks up to S are kept, and the trigger record is found among them. -/
def closeSegment (s : Hw) (truncated : Bool) : Hw :=
  let g := s.fld GTH_STATE_segment
  let l := Map.get [] s.gth.segs g
  let s := ((s.setFld (GTH_SEG_closed g) 1).setFlag (GTH_SEG_truncated g) truncated).setFld (GTH_SEG_blocks g) l.length
  s.setFld (GTH_SEG_TRIG_trig g) ((l.findIdx? fun b => b.kind == 7).getD 0)

/-- A gap of `n` units counts in GTH_CULLETS, its units in GTH_DROPPED (R489). -/
def countGap (s : Hw) (n : Nat) : Hw := (s.count GTH_CULLETS).count64 GTH_DROPPED n

/-- The capture has ended: a gap still open counts like every other, and the stores are empty. -/
def endStores (s : Hw) : Hw :=
  let s := (s.gth.stores.filterMap fun e => e.2.gap).foldl (fun s gap => countGap s gap.1) s
  updGth s fun x => { x with stores := [], urgent := [] }

/-- The last segment has closed: event 0x1202 (R493). -/
def endCapture (s : Hw) : Hw :=
  let n := ((List.range 16).filter fun g => s.flag (GTH_SEG_closed g)).length
  let s := endStores s
  (s.setFld GTH_STATE_state 4).raise 0x1202 [n, s.num GTH_CULLETS, s.num64 GTH_DROPPED % 2 ^ 32]

/-- One block goes into the current segment (R490). -/
def writeBlock (s : Hw) (b : GBlock) : Hw :=
  let g := s.fld GTH_STATE_segment
  let l := Map.get [] s.gth.segs g ++ [{ b with seq := s.gth.seq }]
  let s := updGth s fun x =>
    { x with segs := Map.put [] x.segs g (l.drop (l.length - segSize s)), seq := (x.seq + 1) % 2 ^ 32 }
  let s := (s.setFld GTH_STATE_written (min (s.fld GTH_STATE_written + 1) (segSize s))).pmc 0x0A2
  let s := s.cond (b.kind == 6) fun s => s.pmc 0x0A3
  match s.fld GTH_STATE_state with
  | 1 => s.cond (decide (s.fld GTH_PRE_pre_min ≤ s.fld GTH_STATE_written)) fun s => s.setFld GTH_STATE_state 2
  | 3 =>
    if b.kind = 7 then s
    else
      let s := updGth s fun x => { x with post := x.post - 1 }
      if s.gth.post = 0 then
        let s := closeSegment s false
        if g + 1 < 2 ^ s.fld GTH_CAP_segs_log2 then beginSegment s (g + 1) else endCapture s
      else s
  | _ => s

/-- Units in a block of a kind (Table 16-2). -/
def unitsPer (kind : Nat) : Nat := if kind = 1 then 48 else if kind = 4 then 3 else 1

def storeDepth (kind : Nat) : Nat := if kind = 1 then 256 else 16

/-- Is the source enabled for this unit (R487)? -/
def sourceOn (s : Hw) (kind src : Nat) : Bool :=
  match kind with
  | 1 => s.flag GTH_SRC_line
  | 2 => s.flag GTH_SRC_loops && hasBit (s.num GTH_SRC_LOOPS) src
  | 3 => s.flag GTH_SRC_mcv && hasBit (s.num64 GTH_SRC_MCV) src
  | 4 => s.flag GTH_SRC_brc
  | _ => s.flag GTH_SRC_events

/-- A unit of a source reaches its staging store (R488, R489): it joins the block being filled, or is dropped in a gap,
whose cullet record goes ahead of the next block. -/
def stageUnit (s : Hw) (kind src t : Nat) (u : Bytes) : Hw :=
  if !capturing s || !sourceOn s kind src then s
  else
    let st := Map.get {} s.gth.stores kind
    let put := fun (s : Hw) (st : GStore) => updGth s fun x => { x with stores := Map.put {} x.stores kind st }
    let full := decide (st.blocks.length ≥ storeDepth kind) || (st.gap.isSome && !st.blocks.isEmpty)
    if full then
      put s { st with gap := match st.gap with
        | none => some (1, t, t)
        | some (n, a, _) => some (n + 1, a, t) }
    else
      let s := match st.gap with
        | none => s
        | some (n, a, b) => updGth (countGap s n) fun x => { x with urgent := x.urgent ++ [⟨6, kind, 0, 1, a, toBE 8 n ++ toBE 8 b⟩] }
      let b := match st.part with
        | none => GBlock.mk kind src 0 1 t u
        | some p => { p with units := p.units + 1, data := p.data ++ u }
      if b.units = unitsPer kind then put s { blocks := st.blocks ++ [b] } else put s { st with part := some b, gap := none }

/-- The block that the write port takes next, and the capture without it (R488). -/
def nextBlock (s : Hw) : Option (GBlock × Hw) :=
  match s.gth.urgent with
  | b :: l => some (b, updGth s fun x => { x with urgent := l })
  | [] =>
    [5, 2, 3, 4, 1].findSome? fun k =>
      let st := Map.get {} s.gth.stores k
      match st.blocks with
      | b :: l => some (b, updGth s fun x => { x with stores := Map.put {} x.stores k { st with blocks := l } })
      | [] => none

/-- An event on the bus as an event mark (Table 16-2, R487). -/
def stageEvent (s : Hw) (e : Ev) : Hw :=
  let m := s.fld GTH_SRC_EVF_mask
  if e.code &&& m = s.fld GTH_SRC_EVF_value &&& m then
    stageUnit s 5 0 (e.time % 2 ^ 58 * 64) (toBE 2 e.code ++ zeros 2 ++ toBE 4 (e.params.getD 0 0) ++
      toBE 4 (e.params.getD 1 0) ++ toBE 4 (e.params.getD 2 0))
  else s

/-- Gather sees the events raised since it last looked, its own of this step among them: each is counted and staged. -/
def seeEvents : Nat → Hw → Hw
  | 0, s => s
  | fuel + 1, s =>
    if s.evr.fresh = 0 then s
    else
      let new := s.evr.bus.drop (s.evr.bus.length - s.evr.fresh)
      let s := { s with evr := { s.evr with fresh := 0 } }
      seeEvents fuel ((new.foldl stageEvent s).pmc 0x090 new.length)

/-! ### Triggers (R491, R492) -/

/-- A candidate with its sources (bits of Table 16-5) and trigger time: accepted, or ignored and counted. -/
def candidate (s : Hw) (sources t : Nat) : Bool × Hw :=
  let held := match s.gth.last with
    | none => false
    | some l => decide (t < l + s.fld GTH_HOLD_holdoff_us * 64000) || decide (s.gth.ign < s.fld GTH_HOLD_holdoff_n)
  if s.fld GTH_STATE_state = 2 && !held then
    let g := s.fld GTH_STATE_segment
    let n := s.gth.ign
    let s := ((s.setFld GTH_STATE_state 3).setFld (GTH_SEG_triggered g) 1).setNum64 (GTH_SEG_T g) t
    let b : GBlock := ⟨7, g, 0, 1, t, toBE 1 sources ++ zeros 3 ++ toBE 4 n⟩
    let s := updGth s fun x => { x with urgent := b :: x.urgent, post := s.fld GTH_CAP_post, last := some t, ign := 0 }
    (true, s.raise 0x1201 [g, sources, n])
  else
    let s := s.count GTH_TRIG_IGN
    (false, updGth s fun x => { x with ign := min (x.ign + 1) (2 ^ 32 - 1) })

/-- A block of the trigger record of a trigger time, with more sources. -/
def addSources (src t : Nat) (b : GBlock) : GBlock :=
  if b.kind = 7 ∧ b.time = t then { b with data := toBE 1 (u8 b.data 0 ||| src) ++ b.data.drop 1 } else b

/-- The event of the trigger accepted last, while it waits on the bus, names more sources. -/
def tellSources (src : Nat) (s : Hw) : Hw :=
  let more := fun (e : Ev) => { e with params := e.params.mapIdx fun i v => if i = 1 then v ||| src else v }
  updEvr s fun x => { x with bus := updLast (fun e => e.code == 0x1201) more x.bus }

/-- Sources at a trigger time: one candidate with the one before it where both fall in one nanosecond (R492), so that its trigger record
and event name them too, or else a new candidate. -/
def offer (s : Hw) (sources t : Nat) : Bool × Hw :=
  if s.gth.candAt = some (t / 64) then
    match s.gth.last with
    | some l =>
      if l / 64 = t / 64 then
        (true, updGth (tellSources sources s) fun x =>
          { x with urgent := x.urgent.map (addSources sources l)
                   segs := x.segs.map fun e => (e.1, e.2.map (addSources sources l)) })
      else (false, s)
    | none => (false, s)
  else
    let (ok, s) := candidate s sources t
    (ok, updGth s fun x => { x with candAt := some (t / 64) })

/-- Is an event a candidate of the event source (Table 16-5)? Events of GTH never are (R492). -/
def eventTriggers (s : Hw) (e : Ev) : Bool :=
  let m := s.fld GTH_TRIG_EVT_mask
  s.ready 17 && hasBit (s.fld GTH_TRIG_enable) 2 && e.code / 256 != 0x12 && e.code &&& m == s.fld GTH_TRIG_EVT_value &&& m

/-- An event as a trigger candidate. -/
def offerEvent (s : Hw) (e : Ev) : Hw := s.cond (eventTriggers s e) fun s => (offer s 4 (e.time % 2 ^ 58 * 64)).2

/-- Gather gets the events that were staged at once: each is counted, staged as an event mark, and a trigger candidate (R32). -/
def takeHanded (s : Hw) : Hw :=
  let l := s.evr.handed
  (l.foldl (fun s e => offerEvent (stageEvent s e) e) (updEvr s fun x => { x with handed := [] })).pmc 0x090 l.length

/-- The first event on the bus is delivered: recorded, a trigger candidate, and a signal to CMD in one handshake (R32, R549). -/
def eventDeliver (s : Hw) : Hw :=
  match s.evr.bus with
  | [] => s
  | e :: _ => offerEvent (recordEvent s) e

/-- Does the threshold signal cross the level in the selected direction between two consecutive values? -/
def crosses (dir : Nat) (level a b : Int) : Bool :=
  let up := decide (a < level ∧ level ≤ b)
  let down := decide (a > level ∧ level ≥ b)
  if dir = 0 then up else if dir = 1 then down else up || down

/-- The moment of the crossing between values `a` at `ta` and `b` at `tb`, rounded to the nearest 1/64 ns. -/
def crossTime (level a b : Int) (ta tb : Nat) : Nat :=
  let n := (level - a).natAbs * (tb - ta)
  let d := (b - a).natAbs
  ta + (2 * n + d) / (2 * d)

/-- A value of the signals that a threshold can watch, with its fine time: where the selection names it, a crossing since its last value
is a candidate (R491). -/
def watch (kind idx : Nat) (v : Int) (t : Nat) (s : Hw) : Hw :=
  let named := s.fld GTH_TRIG_thr_kind == kind && (kind == 0 || s.fld GTH_TRIG_thr_idx == idx)
  if !s.ready 17 || !hasBit (s.fld GTH_TRIG_enable) 3 || !named then s
  else
    let level := s.int GTH_TRIG_LVL
    let s := match s.gth.signal with
      | some (a, ta) =>
        if crosses (s.fld GTH_TRIG_dir) level a v then (offer s 8 (crossTime level a v ta t)).2 else s
      | none => s
    updGth s fun x => { x with signal := some (v, t) }

/-- The glitch filter of TRIG_IN in ns (Table 20-8). -/
def trigFilter : Nat := 20

/-- The fine timestamp of a moment `ago` ns before the present, `frac` 1/64 ns into its nanosecond. -/
def fineAgo (s : Hw) (ago frac : Nat) : Nat := (s.dtime - ago) % 2 ^ 58 * 64 + frac

/-- A rising edge on TRIG_IN is a candidate where the source is enabled, once the pin has been high for the filter's time; its trigger
time is the edge's own (R491, R591). -/
def triggerCandidate (rising : Bool) (held frac : Nat) (s : Hw) : Hw :=
  if s.ready 17 && hasBit (s.fld GTH_TRIG_enable) 1 && rising && decide (trigFilter ≤ held) then (offer s 2 (fineAgo s held frac)).2
  else s

/-! ### Line samples and detector sets (R487, R488) -/

/-- Is a symbol's sample at fine time `t` kept: 2^dec symbols or more after the last one kept? -/
def keepsSample (s : Hw) (t : Nat) : Bool :=
  match s.gth.keptAt with
  | none => true
  | some l => decide (2 ^ s.fld GTH_SRC_dec * 64000000 ≤ (t - l + 1) * symbolsPerMs (s.mode (laneGroup (s.fld LRX_GTH_SEL_lane))))

/-- A set of the eight detectors' codes at fine time `t`, `v` its 16 bytes as a number: kept where 100 ns or more have passed since
the last one kept (Tables 16-2 and 16-3). -/
def detectorSet (t v : Nat) (s : Hw) : Hw :=
  if !s.ready 15 || s.gth.detAt.any fun l => decide (t < l + 6400) then s
  else
    let b := (toBE 16 v).mapIdx fun i y => if i % 2 = 0 then y &&& 0x0F else y
    let d := s.fld GTH_TRIG_thr_idx
    watch 3 d (u16 b (2 * d)) t (stageUnit (updGth s fun g => { g with detAt := some t }) 4 0 t b)

/-! ### Commands (Table 16-9) -/

def gthDoms : Hw → Bytes → List Nat := fun _ _ => [17]

/-- The PMC commands run beside the capture commands (R503). -/
def gthConc (pmc : Bool) : Hw → Bytes → RunCmd → Bool :=
  fun _ _ r => pmc != (r.opcode == 0x1208 || r.opcode == 0x1209)

def gthIdle (s : Hw) : Bool := let st := s.fld GTH_STATE_state; st == 0 || st == 4

def opGthConfig : OpSpec :=
  { OpSpec.fix headGthConfig
      [.msk 1 31, .rng 1 0 20, .rng 1 0 4, .res 1, .any 4, .any 8, .any 2, .any 2, .any 4, .any 4, .any 2, .any 2]
      fun s c =>
      let p := c.p
      if !gthIdle s then .refuse stCONDITIONS 1 s
      else
        let s := (s.setNum GTH_SRC (u8 p 1 * 65536 + u8 p 0)).setNum GTH_SRC_LOOPS (u32 p 4)
        let s := (s.setNum64 GTH_SRC_MCV (un p 8 8)).setNum GTH_SRC_EVF (u32 p 16)
        let s := (s.setFld GTH_CAP_segs_log2 (u8 p 2)).setFld GTH_CAP_post (u32 p 20)
        let s := s.setFld GTH_PRE_pre_min (u32 p 24)
        .ok ((s.setFld GTH_HOLD_holdoff_us (u16 p 28)).setFld GTH_HOLD_holdoff_n (u16 p 30)) with
    check := fun _ p =>
      match runChks [.msk 1 31, .rng 1 0 20, .rng 1 0 4, .res 1] 1 0 p with
      | some k => some k
      | none =>
        let size := 65536 / 2 ^ u8 p 2
        if u32 p 20 < 1 ∨ size - 1 < u32 p 20 then some 9
        else if size - u32 p 20 - 1 < u32 p 24 then some 10 else none
    doms := gthDoms, conc := gthConc false }

/-- The largest index of a threshold kind: a lane, a loop, an entry, a detector. -/
def thrRange (kind : Nat) : Nat := if kind = 1 then 31 else if kind = 2 then 63 else 7

def opGthTrigConfig : OpSpec :=
  { OpSpec.fix headGthTrigConfig
      [.rng 1 0 15, .rng 1 0 2, .rng 1 0 3, .rng 1 0 3, .any 1, .res 3, .any 4, .any 2, .any 2] fun s c =>
      let p := c.p
      if !gthIdle s then .refuse stCONDITIONS 1 s
      else
        let s := ((s.setFld GTH_TRIG_enable (u8 p 0)).setFld GTH_TRIG_dir (u8 p 1)).setFld GTH_TRIG_thr_kind (u8 p 2)
        let s := (s.setFld GTH_TRIG_thr_sig (u8 p 3)).setFld GTH_TRIG_thr_idx (u8 p 4)
        let s := updGth s fun x => { x with signal := none }
        .ok ((s.setNum GTH_TRIG_LVL (u32 p 8)).setNum GTH_TRIG_EVT (u32 p 12)) with
    check := fun _ p =>
      match runChks [.rng 1 0 15, .rng 1 0 2, .rng 1 0 3, .rng 1 0 3] 1 0 p with
      | some k => some k
      | none => if thrRange (u8 p 2) < u8 p 4 then some 5 else if un p 5 3 ≠ 0 then some 6 else none
    doms := gthDoms, conc := gthConc false }

/-- An in-service Lehr run of another domain has the capture buffer as its save buffer (R546). -/
def lehrHolds (s : Hw) : Bool := s.pwr.lehr.any fun x => x.kind == 1 && x.target != 17

def opGthArm : OpSpec :=
  { OpSpec.fix headGthArm [] fun s _ =>
      if s.num GTH_SRC % 32 = 0 then .refuse stCONDITIONS 1 s
      else if s.fld GTH_TRIG_enable = 0 then .refuse stCONDITIONS 2 s
      else
        let s := s.each (List.range 16) fun g s =>
          (s.zeroRegs [GTH_SEG g, GTH_SEG_TRIG g]).setNum64 (GTH_SEG_T g) 0
        let s := s.zeroRegs [GTH_CULLETS, GTH_DROPPED, GTH_DROPPED + 1, GTH_TRIG_IGN]
        let s := updGth s fun x => { x with stores := [], urgent := [], segs := [], seq := 0, post := 0, last := none, ign := 0,
                                            candAt := none, signal := none, keptAt := none }
        .ok (beginSegment s 0) s.dtimeBytes with
    doms := gthDoms, conc := gthConc false, busy := fun s _ => lehrHolds s }

def opGthTrigger : OpSpec :=
  { OpSpec.fix headGthTrigger [] fun s _ =>
      let (f, s) := s.free
      let t := fine s (f % 64)
      let (ok, s) := if hasBit (s.fld GTH_TRIG_enable) 0 then offer s 1 t else (false, s)
      .ok s (toBE 1 (if ok then 1 else 0) ++ zeros 7 ++ toBE 8 t) with
    doms := gthDoms, conc := gthConc false }

/-- GTH_STOP in any state closes the current segment and enters done (R490, R493). -/
def opGthStop : OpSpec :=
  { OpSpec.fix headGthStop [] fun s _ =>
      let g := s.fld GTH_STATE_segment
      let s := s.cond (s.fld GTH_STATE_state != 4) fun s => closeSegment s true
      let n := (Map.get [] s.gth.segs g).length
      let s := (s.setFld GTH_STATE_state 4).raise 0x1203 [g, n]
      .ok (endStores s) with
    doms := gthDoms, conc := gthConc false }

/-- A block's 64 bytes (Table 16-1). -/
def blockBytes (b : GBlock) : Bytes :=
  toBE 1 b.kind ++ toBE 1 b.src ++ toBE 2 b.units ++ toBE 4 b.seq ++ toBE 8 b.time ++ slice b.data 0 48

def opGthRead : OpSpec :=
  { OpSpec.fix headGthRead [.rng 1 0 15, .res 3, .any 4, .rng 1 1 31] fun s c =>
      let g := u8 c.p 0
      let l := Map.get [] s.gth.segs g
      let n := if c.rq.route = .inband then min 22 (u8 c.p 8) else u8 c.p 8
      if !s.flag (GTH_SEG_closed g) then .refuse stCONDITIONS 1 s
      else if l.length < u32 c.p 4 + u8 c.p 8 then .refuse stCONDITIONS 2 s
      else .ok s (toBE 1 n ++ zeros 7 ++ ((l.drop (u32 c.p 4)).take n).flatMap blockBytes) with
    doms := gthDoms }

/-- Unit 1's registers of Table 16-11. -/
def gthRegs : List Nat :=
  [GTH_SRC, GTH_SRC_LOOPS, GTH_SRC_MCV, GTH_SRC_MCV + 1, GTH_SRC_EVF, GTH_CAP, GTH_PRE, GTH_HOLD, GTH_TRIG, GTH_TRIG_LVL,
    GTH_TRIG_EVT, GTH_STATE, GTH_CULLETS, GTH_DROPPED, GTH_DROPPED + 1, GTH_TRIG_IGN] ++
  (List.range 16).flatMap fun g => [GTH_SEG g, GTH_SEG_TRIG g, GTH_SEG_T g, GTH_SEG_T g + 1]

def opGthStatusRead : OpSpec :=
  { OpSpec.fix headGthStatusRead [] fun s _ => .ok s (s.wordsAt gthRegs ++ s.dtimeBytes) with doms := gthDoms }

/-- Is the event number one of Table 16-6? -/
def pmcEvent (e : Nat) : Bool :=
  decide (e ≤ 1) || (decide (0x010 ≤ e ∧ e ≤ 0x01C) && e != 0x015 && e != 0x016 && e != 0x017) ||
    (decide (0x020 ≤ e ∧ e ≤ 0x02D) && e != 0x026 && e != 0x027) || decide (0x040 ≤ e ∧ e ≤ 0x045) || e == 0x052 ||
    decide (0x070 ≤ e ∧ e ≤ 0x081) || e == 0x090 || e == 0x091 || decide (0x0A0 ≤ e ∧ e ≤ 0x0A3) || e == 0x0F0

def opGthPmcConfig : OpSpec :=
  { OpSpec.fix headGthPmcConfig [.rng 1 0 7, .any 2, .msk 1 1] fun s c =>
      let n := u8 c.p 0
      if s.flag (GTH_PMC_CFG_run n) then .refuse stCONDITIONS 1 s
      else .ok ((s.setFld (GTH_PMC_CFG_event n) (u16 c.p 1)).setFld (GTH_PMC_CFG_ovf_evt n) (bit (u8 c.p 3) 0)) with
    check := fun _ p =>
      if u8 p 0 > 7 then some 1 else if !pmcEvent (u16 p 1) then some 2 else if u8 p 3 > 1 then some 3 else none
    conc := gthConc true }

def opGthPmcCtrl : OpSpec :=
  { OpSpec.fix headGthPmcCtrl [.nzm 1 255, .rng 1 0 2] fun s c =>
      let ns := bitsOf 8 (u8 c.p 0)
      let mark := fun (s : Hw) (f : Nat → Nat) => s.each [0, 1] fun g s => s.setNum64 (f g) (s.num64 (GTH_SLOTS g))
      let s := match u8 c.p 1 with
        | 0 => mark (s.each ns fun n s => s.setFld (GTH_PMC_CFG_run n) 1) GTH_MARK_START
        | 1 => mark (s.each ns fun n s => s.setFld (GTH_PMC_CFG_run n) 0) GTH_MARK_STOP
        | _ => s.each ns fun n s => s.setNum64 (GTH_PMC n) 0
      .ok s s.dtimeBytes with
    conc := gthConc true }

/-- The counter that bit `b` of GTH_COUNT_READ names. -/
def countAddr (b : Nat) : Nat := if b < 2 then GTH_SLOTS b else GTH_PMC (b - 2)

def opGthCountRead : OpSpec :=
  { OpSpec.fix headGthCountRead [.msk 2 0x3FF] fun s c =>
      .ok s ((bitsOf 10 (u16 c.p 0)).flatMap fun b => toBE 8 (s.num64 (countAddr b)) ++ s.dtimeBytes) with
    levelOf := fun s _ => if s.flag GTH_CNT_CFG_obs then 0 else 1 }

def opGthCounterOpen : OpSpec :=
  { OpSpec.fix headGthCounterOpen [.rng 1 0 1] fun s c =>
      .ok ((s.setFld GTH_CNT_CFG_obs (u8 c.p 0)).raise 0x1205 [u8 c.p 0, c.sess]) with }

/-- A power-up of D17 (R485, R505): the capture is lost, event 0x1206 with its cause. -/
def gthPowerUp (s : Hw) (cause : Nat) : Hw :=
  (updGth (s.coldRegs gthRegs) fun _ => {}).raise 0x1206 [cause]

end Sys2Proof.Machine
end

