-- ==== Sys2Proof/Machine/Receive.lean ====
section
/-!
DEFINITION. The receiver of a line lane (04, R134 to R148, R152): the FFE, the slicer and the reduced-state sequence estimator,
adaptation, and what each millisecond of symbols measures. The ADC's codes come from the channel and are free values.
DEDUCED (log 75): the level unit is 16 codes, from R134's outer levels near codes 16 and 112; a step is counted in the last place of a
coefficient's register, of a sample or level in codes; decisions are of equal metric to the lowest symbol.
-/
namespace Sys2Proof.Machine
open Reg

/-! ### Decisions (R136, R137): levels and outputs in 1/1024 of a code -/

/-- The FFE output z[k]: `w` the taps, `x` the ADC codes from x[k + m] down (R136). -/
def ffeOf (w : List Int) (x : List Nat) : Int :=
  (List.zipWith (fun (t : Int) (c : Nat) => t * ((c : Int) - 64)) w x).foldl (· + ·) 0

/-- The level of a symbol value, in codes. -/
def rxLevel (a : Nat) : Int := 16 * (2 * (a : Int) - 3)

/-- What the estimator expects of the FFE output for the present and the two symbols before it. -/
def expected (h1 h2 : Int) (now before last : Nat) : Int := 1024 * rxLevel now + h1 * rxLevel before + h2 * rxLevel last

/-- The slicer: the nearest level. -/
def slice4 (z : Int) : Nat := if z < -32768 then 0 else if z < 0 then 1 else if z < 32768 then 2 else 3

/-- The four trellis states, one for each value of the previous symbol, before any symbol. -/
def freshPaths : List (Int × List Nat) := [(0, [0]), (0, [1]), (0, [2]), (0, [3])]

def bestPath (l : List (Int × List Nat)) : Int × List Nat :=
  l.tail.foldl (fun b p => if p.1 < b.1 then p else b) (l.headD (0, []))

/-- One symbol through the trellis: each new state takes the cheapest way from an old one, whose h2 term comes from that state's own
survivor path (R137). -/
def trellis (h1 h2 z : Int) (paths : List (Int × List Nat)) : List (Int × List Nat) :=
  let paths := if paths.isEmpty then freshPaths else paths
  let next := [0, 1, 2, 3].map fun a =>
    bestPath (paths.map fun p =>
      let e := z - expected h1 h2 a (p.2.getD 0 0) (p.2.getD 1 0)
      (p.1 + e * e, (a :: p.2).take 36))
  let least := (bestPath next).1
  next.map fun p => (p.1 - least, p.2)

/-- The traceback depth. -/
def traceback : Nat := 32

/-! ### Adaptation by sign-error least mean squares (R143) -/

/-- The coefficients while they adapt: 48 taps, h1 and h2, in units of 2^-23 of their registers' last place. -/
structure Coeffs where
  taps : List Int
  h1   : Int
  h2   : Int
  deriving DecidableEq, Repr

def lastPlace : Int := 2 ^ 23

/-- The coefficients as a lane's registers and what stands below them hold them. -/
def coeffs (s : Hw) (n : Nat) : Coeffs :=
  let below := fun (i : Nat) => (((s.lane n).rx.below.getD i 0 : Nat) : Int)
  { taps := (List.range 48).map fun i => s.fldS (LRX_FFE_tap n i) * lastPlace + below i
    h1 := s.fld (LRX_RSSE_h1 n) * lastPlace + below 48
    h2 := s.fldS (LRX_RSSE_h2 n) * lastPlace + below 49 }

/-- How a lane's receiver works in an interval: RSSE or slicer, which blocks adapt, the step exponent, the main position, and the training
symbols known from the interval's first symbol on (none: it adapts against its own decisions). -/
structure RxSetup where
  rsse  : Bool
  ffe   : Bool
  coef  : Bool
  mu    : Nat
  main  : Nat
  known : List (Option Nat)

/-- The sign of an error. -/
def signOf (e : Int) : Int := if 0 < e then 1 else if e < 0 then -1 else 0

/-- A coefficient moves by the step 2^-(8 + mu) times the sign and the value it multiplies, within its range. -/
def lms (mu : Nat) (lo hi c g : Int) : Int := clampI (lo * lastPlace) (hi * lastPlace) (c + 2 ^ (15 - mu) * g)

/-- One symbol: its ADC code enters, the FFE output is decided, and the error of the decided symbol moves what adapts. `k` numbers the
symbol within the interval. -/
def rxSymbol (u : RxSetup) (k code : Nat) (r : Receiver × Coeffs) : Receiver × Coeffs :=
  let (x, c) := r
  let codes := (code :: x.codes).take 84
  let z := ffeOf (c.taps.map (· / lastPlace)) codes
  let outs := (z :: x.outs).take 36
  let paths := trellis (c.h1 / lastPlace) (c.h2 / lastPlace) z x.paths
  let late := if u.rsse then traceback else 0
  let own := if u.rsse then (bestPath paths).2.getD traceback 0 else slice4 z
  let ref := if late ≤ k then (u.known.getD ((k - late) % 8192) none).getD own else own
  let refs := (ref :: x.refs).take 3
  let before := refs.getD 1 0
  let last := refs.getD 2 0
  let zd := outs.getD late 0
  let soft := expected (c.h1 / lastPlace) (c.h2 / lastPlace) ref before last
  let hard := 1024 * rxLevel ref
  let ef := signOf (zd - if u.rsse then soft else hard)
  let eh := signOf (zd - soft)
  let taps := if u.ffe then c.taps.mapIdx fun i t =>
      if i = u.main then 1024 * lastPlace else lms u.mu (-2048) 2047 t (-(ef * (((codes.getD (late + i) 64 : Nat) : Int) - 64)))
    else c.taps
  let h := fun (lo hi v : Int) (a : Nat) => if u.coef then lms u.mu lo hi v (eh * rxLevel a) else v
  ({ x with codes := codes, outs := outs, paths := paths, refs := refs },
    { taps := taps, h1 := h 0 768 c.h1 before, h2 := h (-256) 256 c.h2 last })

/-- A run of symbols whose codes `code` gives, from symbol `k`. -/
def rxRun (u : RxSetup) (code : Nat → Nat) : Nat → Nat → Receiver × Coeffs → Receiver × Coeffs
  | 0, _, r => r
  | m + 1, k, r => rxRun u code m (k + 1) (rxSymbol u k (code k) r)

/-! ### One millisecond -/

/-- The known symbols of the peer's training frame at lane position `p` (R221), from symbol `phase` of it on; its control word is not
known. -/
def knownSymbols (p phase : Nat) : List (Option Nat) :=
  let f := trainingSymbols p 0
  (List.range 8192).map fun i =>
    let j := (phase + i) % 8192
    if 32 ≤ j ∧ j < 128 then none else some (f.getD j 0)

/-- Do training frames come on the lane: its group in P2 of a native mode, or the lane retraining in service? -/
def training (s : Hw) (n : Nat) : Bool :=
  decide (laneMode s n < 2) && (s.stage (laneGroup n) == 2 || retraining s n)

/-- Both indications are good and adaptation is not held (R142). -/
def mayAdapt (s : Hw) (n : Nat) : Bool :=
  !s.flag (LRX_STATUS_los n) && s.flag (LRX_STATUS_cdr_lock n) && !s.flag (LRX_STATUS_held n)

/-- A block whose mode is run (Table 04-3). -/
def runs (s : Hw) (f : Fld) : Bool := s.fld f == 0

/-- The front end in run adapts in P1 to P3 (R134, R145): the VGA brings the mean distance of a sample from mid-scale to 32 codes where
it lies more than 2 off. The CTLE stands at the seed's value while the lane acquires (R148, Table 04-4); what it settles at otherwise is
not stated, a free value. -/
def adaptFront (n sum count r : Nat) (s : Hw) : Hw :=
  let vga := s.fld (LRX_AFE_vga n)
  let v := if 30 * count ≤ sum ∧ sum ≤ 34 * count then vga
    else (clampI 0 24 (vga + roundLog 40 (32 * count) sum (-24) 48)).toNat
  setFront s n (if acquiring s n then s.fld (LRX_AFE_ctle n) else r % 16) v

/-- The coefficients into the registers, and what stands below their last place. -/
def putCoeffs (s : Hw) (n : Nat) (x : Receiver) (c : Coeffs) : Hw :=
  let s := s.each (List.range 48) fun i s => s.setFldS (LRX_FFE_tap n i) (c.taps.getD i 0 / lastPlace)
  let s := setRsse s n (c.h1 / lastPlace).toNat (c.h2 / lastPlace)
  s.updLane n fun l => { l with rx := { x with below := (c.taps ++ [c.h1, c.h2]).map fun v => (v % lastPlace).toNat } }

/-- A lane's receiver over 1 ms of symbols (R134 to R145): in run, the front end in P1 to P3, the FFE and the RSSE coefficients at every
stage, in P2 of a native mode once the lane has training sync and then against the known symbols; while adaptation is held nothing
changes (R142). -/
def adapt (s : Hw) (n : Nat) : Hw :=
  let a := runs s (LRX_ADAPT_afe n) && decide (1 ≤ laneStageOf s n ∧ laneStageOf s n ≤ 3)
  let go := !training s n || (s.lane n).sync
  let f := runs s (LRX_ADAPT_ffe n) && go
  let h := runs s (LRX_ADAPT_rsse n) && go
  if !mayAdapt s n || !(a || f || h) then s
  else
    let (r, s) := s.free
    let m := symbolsPerMs (if laneMode s n < 3 then laneMode s n else s.fld (LFM_CFG_mode_pref (laneGroup n)))
    let code := fun k => (Config.adcCode n r k).toNat
    let mu := if s.stage (laneGroup n) = 2 then s.fld (LRX_ADAPT_mu_train n) else s.fld (LRX_ADAPT_mu_track n)
    let u : RxSetup :=
      { rsse := s.flag (LRX_CFG_rsse_en n), ffe := f, coef := h, mu := mu, main := s.fld (LRX_CFG_main_pos n),
        known := if training s n then knownSymbols (n % 4) (r % 8192) else [] }
    let s := s.cond (f || h) fun s =>
      let y := rxRun u code m 0 ((s.lane n).rx, coeffs s n)
      putCoeffs s n y.1 y.2
    s.cond a (adaptFront n (sumN ((List.range m).map fun k => ((code k : Int) - 64).natAbs)) m r)

/-- Each 1 ms (R152, R154, R138): SNR from the mean squares of the ideal levels and of the error, margin, frequency
offset, the low-margin indication, and the run of good updates that convergence counts. In C2 a lane that acquires has found sync
with CDR lock and an SNR of 8.0 dB (R148). -/
def snrUpdate (n ideal error : Nat) (freq : Int) (s : Hw) : Hw :=
  if !s.ready n then s
  else
    let snr := if error = 0 then 1023 else (roundLog 100 ideal error 0 1023).toNat
    let s := adapt s n
    let margin : Int := clampI (-1024) 1023 ((snr : Int) - refSnr s (laneMode s n))
    let s := (s.setFld (LRX_MEAS_snr n) snr).setFldS (LRX_MEAS_margin n) margin
    let s := s.setFldS (LRX_FREQ_offset n) (clampI (-32768) 32767 freq)
    let s := { s with cle := { s.cle with lrxN := Map.put 0 s.cle.lrxN n (Map.get 0 s.cle.lrxN n + 1) } }
    let alarm := s.fldS (LRX_ALARM_margin_alarm n)
    let far := decide (freq.natAbs > 3000)
    let s := s.cond (far && !(s.lane n).freqFar) fun s => s.raise 0x0409 [n, enc 32 freq]
    let s := s.updLane n fun l =>
      { l with freqFar := far, best := max l.best margin,
               sync := l.sync || (laneMode s n == 2 && acquiring s n && s.flag (LRX_STATUS_cdr_lock n) && decide (80 ≤ snr)),
               goodRun := if s.fld (LRX_CFG_conv_margin n) ≤ margin then l.goodRun + 1 else 0,
               highRun := if alarm + 5 ≤ margin then l.highRun + 1 else 0 }
    if !s.flag (LRX_STATUS_margin_low n) && decide (margin < alarm) then
      ((s.setFld (LRX_STATUS_margin_low n) 1).setFld (LRX_LATCH_margin_low n) 1).raise 0x0407 [n, enc 32 margin]
    else if s.flag (LRX_STATUS_margin_low n) && decide ((s.lane n).highRun ≥ 10) then s.setFld (LRX_STATUS_margin_low n) 0
    else s

/-! ### Line samples for Gather (R156, R486) -/

/-- The receiver of a lane as its coefficients stand, nothing adapting. -/
def tapSetup (s : Hw) (n : Nat) : RxSetup :=
  { rsse := s.flag (LRX_CFG_rsse_en n), ffe := false, coef := false, mu := 0, main := s.fld (LRX_CFG_main_pos n), known := [] }

/-- A decided symbol with its error, in 1/32 of the level spacing of 32 codes and saturating (Table 16-2), from an error in 1/1024 of a
code. DEDUCED (log 114): the error is the one that adaptation uses, rounded to the nearest. -/
def decisionByte (ref : Nat) (e : Int) : Byte := BitVec.ofNat 8 (ref % 4 * 64 + enc 6 (clampI (-32) 31 ((e + 512) / 1024)))

/-- The sample at the selected point that the newest ADC code completes, and how many symbols ago that symbol crossed the pin: the FFE's
output comes the main position later, the estimator's decision the traceback depth after it. How the output's 8-bit bins lie is not
stated: free (log 114). -/
def tapSample (u : RxSetup) (point code : Nat) (r : Receiver) (c : Coeffs) : Byte × Nat :=
  if point = 0 then (BitVec.ofNat 8 (code % 128), 0)
  else if point = 1 then (Config.ffeBin (r.outs.headD 0), u.main)
  else
    let late := if u.rsse then traceback else 0
    let ref := r.refs.headD 0
    let soft := if u.rsse then
        expected (c.h1 / lastPlace) (c.h2 / lastPlace) ref (r.refs.getD 1 0) (r.refs.getD 2 0)
      else 1024 * rxLevel ref
    (decisionByte ref (r.outs.getD late 0 - soft), u.main + late)

/-- One symbol of the selected lane: its ADC code at its fine time `t` runs through the lane's receiver, and the sample that it completes,
where its symbol is kept, goes to the line store and to the threshold. -/
def lineSample (t code : Nat) (s : Hw) : Hw :=
  let n := s.fld LRX_GTH_SEL_lane
  if !s.ready n then s
  else
    let u := tapSetup s n
    let r := (rxSymbol u 0 (code % 128) (s.gth.rx, coeffs s n)).1
    let times := (t :: s.gth.times).take 84
    let s := updGth s fun g => { g with rx := r, times := times }
    let (v, ago) := tapSample u (s.fld LRX_GTH_SEL_point) code r (coeffs s n)
    match times[ago]? with
    | some t => if keepsSample s t then
        watch 0 n v.toNat t (stageUnit (updGth s fun g => { g with keptAt := some t }) 1 n t [v])
      else s
    | none => s

/-- The ADC codes of the selected lane's next symbols and detector sets, each with its fine time, go into their stores; then the write port
takes one block. -/
def captureBlockWrite (codes : List (Nat × Byte)) (sets : List (Nat × Nat)) (s : Hw) : Hw :=
  if !s.ready 17 then s
  else
    let s := codes.foldl (fun s x => lineSample x.1 x.2.toNat s) s
    let s := sets.foldl (fun s x => detectorSet x.1 x.2 s) s
    if !capturing s then s
    else match nextBlock s with
      | some (b, s) => writeBlock s b
      | none => s

end Sys2Proof.Machine
end

