-- ==== Sys2Proof/Machine/Group.lean ====
section
/-!
DEFINITION. What the chapters on timing, the line, bring-up, timed delivery and redundancy share about a lane group: its
pace and floors (R98, R102), the limits of admission (R311), the cells it sends, moving between stages, failure and loss,
and the promise (R305).
-/
namespace Sys2Proof.Machine
open Reg

/-- A group other than `g`. -/
def other (g : Nat) : Nat := 1 - g

/-- Field of a register pair that holds group A at `fa` and group B at `fb`. -/
def ab (g : Nat) (fa fb : Fld) : Fld := if g = 0 then fa else fb

def peerValid (g : Nat) : Fld := ab g PWR_PEER_VALID_group_a PWR_PEER_VALID_group_b

/-- Is the group's mode in force native (N4 or N2X)? -/
def Hw.native (s : Hw) (g : Nat) : Bool := decide (s.mode g < 2)

/-- A reference is accepted: 0 HREF, 1 LREFA, 2 LREFB. -/
def Hw.refOk (s : Hw) (r : Nat) : Bool := s.flag (PWR_REF_accepted r)

/-! ### Pace (R98 to R102, R111, R114) -/

def Hw.ceiling (s : Hw) : Nat := s.fld TDS_PACE_ceiling

/-- The local pace floor: the guaranteed pace of the lowest allowed point (R99, R103). -/
def localFloor (s : Hw) : Nat := opGuaranteed (s.fld TDS_PACE_floor)

/-- The pace floor of a group (R102), with a local floor of `f`. -/
def floorWith (s : Hw) (g f : Nat) : Nat :=
  match (s.grp g).peerFloor with
  | some x => min f x
  | none => f

def groupFloor (s : Hw) (g : Nat) : Nat := floorWith s g (localFloor s)

/-- The limit of a speed alarm or a suspension on a group. -/
def speedLimit (s : Hw) (g : Nat) : Nat :=
  let a := if s.flag PWR_SPD_STATUS_limited then groupFloor s g else 1000
  if s.flag PWR_SPD_STATUS_suspended then min a (Map.get 1000 s.pwr.susLim g) else a

/-- The pace the device advertises on a group (R101): the lower of its ceiling and its own limit. -/
def ownPace (s : Hw) (g : Nat) : Nat := min s.ceiling (speedLimit s g)

/-- The current pace of a group (R98). -/
def groupPace (s : Hw) (g : Nat) : Nat :=
  match (s.grp g).peerPace with
  | some x => min (ownPace s g) x
  | none => ownPace s g

/-! ### Limits of admission (R309 to R311) -/

/-- Per-lane slot rate of a mode (Table 05-6); 0 in C2. -/
def slotRate (mode : Nat) : Nat := if mode = 0 then 98050000 else if mode = 1 then 49400000 else 0

/-- The full slot rate of a group in its mode (R193). -/
def fullSlotRate (s : Hw) (g : Nat) : Nat := slotRate (s.mode g) * popCount 4 (s.txMask g)

/-- The mode of R311: the one in force, or else the preferred one. -/
def budgetMode (s : Hw) (g : Nat) : Nat := if s.mode g = 3 then s.fld (LFM_CFG_mode_pref g) else s.mode g

/-- The slot budget B_g with `nb` lanes and a local floor of `f`. -/
def slotBudget (s : Hw) (g nb f : Nat) : Nat := slotRate (budgetMode s g) * nb * floorWith s g f * 63 / 64000

/-- The timed cap T_g. -/
def timedCap (s : Hw) (g cap : Nat) : Nat := slotRate (budgetMode s g) * 4 * cap / 1000

/-- min(B_g, T_g) at the present settings. -/
def groupLimit (s : Hw) (g : Nat) : Nat :=
  min (slotBudget s g (s.fld TDS_CFG_budget_lanes) (localFloor s)) (timedCap s g (s.fld TDS_CFG_cap))

/-! ### Cells (R184 to R186, R195) -/

/-- A cell header with its check (R184, R185). -/
def cellHeader (type path index seq rel : Nat) : Nat :=
  let h := type * 2 ^ 53 + path * 2 ^ 52 + (index % 2 ^ 20) * 2 ^ 32 + (seq % 2 ^ 16) * 2 ^ 16 + rel % 2 ^ 16
  h * 256 + crcMsb 8 0x07 0xFF (toBE 7 h)

/-- A payload of 512 bytes with CRC-32 over bytes 0 to 507 (Tables 05-7 and 05-10). -/
def sealPayload (b : Bytes) : Bytes :=
  let x := slice b 0 508
  x ++ toBE 4 (crc32 x)

/-- An OAM payload (Table 05-7). -/
def oamPayload (s : Hw) (kind : Nat) (body : Bytes) : Bytes :=
  sealPayload (toBE 2 kind ++ toBE 2 body.length ++ toBE 4 (s.num LNK_TAG) ++ toBE 8 s.dtime ++ body)

/-- Does a group send lane frames, in a native mode? -/
def framing (s : Hw) (g : Nat) : Bool := s.native g && decide (3 ≤ s.stage g)

/-- A cell waits for its position in the cell stream. -/
def queueCell (s : Hw) (g : Nat) (c : LCell) : Hw := s.updGrp g fun x => { x with lfm := x.lfm ++ [c] }

/-- Queue an OAM cell on a group, for a position that `place` allows. -/
def placeOam (s : Hw) (g kind : Nat) (place : Place) (body : Bytes) : Hw :=
  if framing s g then
    (queueCell s g ⟨1, place, cellHeader 5 g 0 (s.grp g).oamSeq 0, oamPayload s kind body, none⟩).updGrp g fun x =>
      { x with oamSeq := (x.oamSeq + 1) % 65536 }
  else s

/-- Queue an OAM cell on a group (R192). -/
def sendOam (s : Hw) (g kind : Nat) (body : Bytes) : Hw := placeOam s g kind .any body

/-- Queue a REMAP or REMAP_ACK: four copies, each wholly within one codeword on a lane of `mask` (R192). -/
def sendFour (s : Hw) (g kind mask : Nat) (body : Bytes) : Hw :=
  s.each (List.range 4) fun _ s => placeOam s g kind (.within mask) body

/-! ### The cell stream (R165, R166, R191, R192, R198, R200) -/

/-- The bits of its outer codewords that a lane of a group has begun, from the time since its lane frame began. -/
def bitsSince (s : Hw) (g t : Nat) : Nat := bitsBegun (s.mode g) ((s.dtime - t) * symbolsPerMs (s.mode g) / 1000000)

/-- The lane codeword that a group is sending. -/
def nowQ (s : Hw) (g : Nat) : Nat := min 16383 (bitsSince s g (s.grp g).frameAt / 5440)

/-- The cell that position `k` takes of those that wait (R191): a timed cell, an OAM or time-transfer cell that may go there, a
best-effort cell. Each kind leaves in the order in which it was queued, time-transfer cells by lane (DEDUCED: log entry 30). -/
def pickCell (segs : List (Nat × Nat)) (k : Nat) (l : List LCell) : Option LCell :=
  let head := fun kind => l.find? fun c => c.kind == kind
  (head 0).orElse fun _ => ((head 1).filter fun c => fits segs k c.place).orElse fun _ =>
    (l.find? fun c => c.kind == 2 && fits segs k c.place).orElse fun _ => head 3

/-- The fine time at which the symbol of the first header bit of position `k` leaves. -/
def positionTime (s : Hw) (g k : Nat) : Nat :=
  let x := s.grp g
  let q := ((codewordPlace x.segs (headerCodeword k)).map Prod.fst).getD 0
  x.frameAt % 2 ^ 58 * 64 + x.frameFrac + bitSymbol (s.mode g) (q * 5440 + 4160 * k % 5140) * 64000000 / symbolsPerMs (s.mode g)

/-- A time-transfer payload with its departure stamp (R198). -/
def stampPayload (t : Nat) (pl : Bytes) : Bytes := sealPayload (toBE 8 t ++ (pl.drop 8).take 500)

/-- Position `k` carries a cell. -/
def carry (s : Hw) (g k header : Nat) (pl : Bytes) : Hw :=
  ((s.pmc 0x0F0).emit (.cell g k header pl)).updGrp g fun x => { x with cells := x.cells ++ [(k, header, pl)] }

/-- A STATUS that departs signals each loss whose flag it is the first to carry: event 0x0B09, with the time from the loss to the
departure (R368). -/
def tellLoss (s : Hw) (g k : Nat) (c : LCell) : Hw :=
  let fl := u8 c.payload 22
  if c.kind ≠ 1 ∨ u16 c.payload 0 ≠ 0x0001 then s
  else
    let carried := fun (e : Nat × Nat) => hasBit fl (if e.1 = 0 then 0 else 2)
    let now := positionTime s g k / 64
    (s.pwr.lossTold.filter carried).foldl (fun s e => s.raise 0x0B09 [e.1, now - e.2])
      { s with pwr := { s.pwr with lossTold := s.pwr.lossTold.filter fun e => !carried e } }

/-- A queued cell leaves in position `k`; of a request the stamp is kept for its answer (R199). -/
def leaveLine (s : Hw) (g k : Nat) (c : LCell) : Hw :=
  let s := s.cond (c.kind == 1 || c.kind == 2) fun s => s.pmc (0x022 + 8 * g)
  let s := tellLoss s g k c
  match c.stamp with
  | none => carry s g k c.header c.payload
  | some (p, q, frac, ask) =>
    let t := (positionTime s g k + frac) % 2 ^ 64
    let s := s.cond ask fun s => s.updGrp g fun x => { x with ttOut := Map.put none x.ttOut p (some (q, t)) }
    carry s g k c.header (stampPayload t c.payload)

/-- The filler cell of a group (R184, R185). DEDUCED (log 116): R184 has every cell's path name its group; the example of R185, with all
fields zero, is one of group A. -/
def fillerHeader (g : Nat) : Nat := cellHeader 0 g 0 0 0

/-- The next cell position goes by, with a filler cell where nothing else is to go (R191). -/
def onePosition (g : Nat) (s : Hw) : Hw :=
  let x := s.grp g
  let s := s.updGrp g fun x => { x with pos := x.pos + 1 }
  match pickCell x.segs x.pos x.lfm with
  | some c => leaveLine (s.updGrp g fun x => { x with lfm := x.lfm.erase c }) g x.pos c
  | none => carry (s.pmc (0x023 + 8 * g)) g x.pos (fillerHeader g) (zeros 512)

def positionsGo : Nat → Nat → Hw → Hw
  | 0, _, s => s
  | n + 1, g, s => positionsGo n g (onePosition g s)

/-- The cell positions whose codewords have begun go by, up to a remap point that has still to come. -/
def runPositions (g : Nat) (s : Hw) : Hw :=
  if !framing s g then s
  else
    let x := s.grp g
    let q := (bitsSince s g x.frameAt + 5439) / 5440
    let q := match x.txRemap with
      | some r => if r.frame = x.txFc then min q r.q else q
      | none => q
    positionsGo (positionsUntil x.segs q - x.pos) g s

/-- The OAM cells that wait leave in the next positions: their group's session ends behind them. -/
def flushOam (s : Hw) (g : Nat) : Hw :=
  ((s.grp g).lfm.filter fun c => c.kind == 1).foldl (fun s c =>
    leaveLine (s.updGrp g fun x => { x with pos := x.pos + 1, lfm := x.lfm.erase c }) g (s.grp g).pos c) s

/-- The cells of a group frame in its positions. -/
def sentCells (s : Hw) (g : Nat) : List (Nat × Bytes) :=
  (List.range (positionsOf (s.grp g).segs)).map fun k =>
    match (s.grp g).cells.find? fun c => c.1 == k with
    | some c => c.2
    | none => (fillerHeader g, zeros 512)

/-- The loss flags of R197 that hold now: core lost, group reference lost, HREF lost. -/
def lossFlags (s : Hw) (g : Nat) : Nat :=
  (if s.ready 14 then 0 else 1) + (if s.refOk (1 + g) then 0 else 2) + (if s.refOk 0 then 0 else 4)

/-- The fields of a STATUS body that change: pace, floor, mask, generation, flags. -/
def statusFields (s : Hw) (g : Nat) : Nat × Nat × Nat × Nat × Nat :=
  (ownPace s g, localFloor s, s.txMask g, s.fld (LFM_STATUS_generation g), (s.grp g).flags)

/-- The STATUS body (Table 05-9). -/
def statusBody (s : Hw) (g : Nat) : Bytes :=
  let (p, f, m, n, fl) := statusFields s g
  toBE 2 p ++ toBE 2 f ++ toBE 1 m ++ toBE 1 n ++ toBE 1 fl ++ [0]

/-- Queue a STATUS (R195). -/
def sendStatus (s : Hw) (g : Nat) : Hw :=
  (sendOam s g 0x0001 (statusBody s g)).updGrp g fun x => { x with adv := some (statusFields s g) }

/-- A STATUS goes out after any change of its fields, in P4 and P5 (R101, R102, R195). -/
def settleStatus (s : Hw) (g : Nat) : Hw :=
  let s := s.updGrp g fun x => { x with flags := x.flags &&& lossFlags s g }
  if framing s g && decide (4 ≤ s.stage g) && (s.grp g).adv != some (statusFields s g) then sendStatus s g else s

/-! ### Stages (R208 to R211) -/

/-- Enter a stage, with event 0x0601. -/
def setStage (s : Hw) (g n : Nat) : Hw :=
  let t := (s.dtime - (s.grp g).stageAt) / 1000
  let s := (s.setFld (LNK_STATUS_stage g) n).raise 0x0601 [g, n, t]
  s.updGrp g fun x => { x with stageAt := s.dtime }

def failedFld (g : Nat) : Fld := ab g RDN_STATUS_failed_a RDN_STATUS_failed_b
def peerFailFld (g : Nat) : Fld := ab g RDN_STATUS_peer_fail_a RDN_STATUS_peer_fail_b
def heldFld (g : Nat) : Fld := ab g RDN_STATUS_held_a RDN_STATUS_held_b
def reroutedFld (g : Nat) : Fld := ab g RDN_STATUS_rerouted_a RDN_STATUS_rerouted_b
def lostFld (g : Nat) : Fld := ab g RDN_STATUS_lost_a RDN_STATUS_lost_b

/-- What a session with the peer left in a group, forgotten on any return to P0 or P1 (R119, R178, R209, R243, R359);
waiting frames, counters of streams sent and the settings of the next P1 stay. -/
def Grp.forget (x : Grp) : Grp :=
  { stageAt := x.stageAt, backoffEnd := x.backoffEnd, burstAt := x.burstAt, p5At := x.p5At, oldTag := x.oldTag,
    txFc := x.txFc, oamSeq := x.oamSeq, flags := x.flags, ttSeq := x.ttSeq, fresh := x.fresh, inject := x.inject,
    tq := x.tq, be := x.be, beSeq := x.beSeq, hdrRun := x.hdrRun, lossSince := x.lossSince, txEndB := x.txEndB, deinit := x.deinit }

/-- The group leaves its stage for P0 or P1. -/
def leaveStages (s : Hw) (g : Nat) : Hw :=
  let s := s.cond (s.stage g == 5) fun s => (retainGroup s g).setFld (LNK_LATCH_p5_left g) 1
  let s := s.each (groupLanes g) fun n s =>
    (s.updLane n fun l => { l with sync := false, seedAt := s.dtime }).setFld (LRX_STATUS_converged n) 0
  let s := ((s.setFld (LFM_STATUS_mode g) 3).setFld (LFM_STATUS_generation g) 0).setFld (LFM_STATUS_tx_mask g) 0
  let s := ((s.setFld (LFM_STATUS_rx_mask g) 0).setFld (LFM_STATUS_am_lock g) 0).setFld (LFM_STATUS_seed g) 0
  let s := ((s.setFld (LFM_STATUS_far_core_lost g) 0).setFld (LFM_STATUS_far_ref_lost g) 0).setFld (LFM_STATUS_stuff_over g) 0
  let s := ((s.setFld (LNK_STATUS_excluded g) 0).setFld (LNK_STATUS_retrain g) 0).setFld (LNK_STATUS_peer_seen g) 0
  let s := (s.setFld (LNK_STATUS_mode g) 3).setNum (LNK_LSTAGE g) 0
  let s := ((s.setFld (failedFld g) 0).setFld (peerFailFld g) 0).setFld (heldFld g) 0
  (s.setFld (peerValid g) 0).updGrp g Grp.forget

/-- Does each lane of a group run its own stages: C2 under layout 0 (R236)? -/
def laneStages (s : Hw) (g : Nat) : Bool := s.fld (LFM_CFG_mode_pref g) == 2 && s.fld (LFM_CFG_c2_layout g) == 0

/-- LNK_LSTAGE of a group that enters P1. -/
def startLaneStages (s : Hw) (g : Nat) : Hw := s.setNum (LNK_LSTAGE g) (if laneStages s g then 0x1111 else 0)

/-- Back to P1: the first burst is due at once unless a backoff begins (R208, R210). -/
def toP1 (s : Hw) (g : Nat) : Hw :=
  let s := startLaneStages (setStage (leaveStages s g) g 1) g
  (s.setFld (LNK_STATUS_backoff g) 0).updGrp g fun x => { x with burstAt := s.dtime }

def toP0 (s : Hw) (g : Nat) : Hw :=
  let s := (leaveStages s g).setFld (LNK_STATUS_backoff g) 0
  if s.stage g = 0 then s else setStage s g 0

/-- Lanes that take part in the present bring-up (R218). -/
def partLanes (s : Hw) (g : Nat) : List Nat := (List.range 4).filter fun p => !hasBit (s.grp g).crossed p

def Hw.train (s : Hw) (g p : Nat) : TrainLane := Map.get {} (s.grp g).train p

/-- The control word that lane `p` sends (Table 06-5). -/
def controlWord (s : Hw) (g p : Nat) (abort : Bool := false) : Nat :=
  let t := s.train g p
  let n := 4 * g + p
  let ex := (s.grp g).exitOwn
  let h := t.reqSeq * 2 ^ 72 + t.req * 2 ^ 56 + t.acted * 2 ^ 48 + t.ack * 2 ^ 46 + s.fld (LRX_STATUS_converged n) * 2 ^ 45 +
    (if (s.lane n).sync then 2 ^ 44 else 0) + p * 2 ^ 42 + (if ex.isSome then 2 ^ 41 else 0) + (if abort then 2 ^ 40 else 0) +
    (ex.getD 0) * 2 ^ 36 + enc 16 (s.fldS (LRX_MEAS_margin n)) * 2 ^ 20 + (s.num LNK_TAG % 65536) * 16
  h / 16 * 2 ^ 20 + crcMsb 16 0x1021 0xFFFF (toBE 10 h)

/-- A training frame goes out on lane `p` (R220), and is repeated until another does. -/
def sendTraining (s : Hw) (g p : Nat) (abort : Bool := false) : Hw :=
  let w := controlWord s g p abort
  sendSymbols (4 * g + p) (trainingSymbols p w) ((s.emit (.training g p w)).updGrp g fun x => { x with txTrain := Map.put 0 x.txTrain p (w + 1) })

/-- A lane that sends training frames goes on with the present control word (R208, R220). -/
def settleTraining (n : Nat) (s : Hw) : Hw :=
  let g := laneGroup n
  let p := n % 4
  if (s.stage g = 2 ∧ !hasBit (s.grp g).crossed p ∨ retraining s n) ∧ Map.get 0 (s.grp g).txTrain p ≠ 0 then
    if Map.get 0 (s.grp g).txTrain p = controlWord s g p + 1 then s else sendTraining s g p
  else s.cond (Map.get 0 (s.grp g).txTrain p != 0) fun s => s.updGrp g fun x => { x with txTrain := Map.put 0 x.txTrain p 0 }

/-- In P2 two training frames with the abort bit on each lane, in P3 and P4 an ABORT message, while the peer can be reached (R209). -/
def tellAbort (s : Hw) (g reason : Nat) : Hw :=
  if s.stage g = 2 then s.each (partLanes s g) fun p s => sendTraining (sendTraining s g p true) g p true
  else if s.stage g = 3 ∨ s.stage g = 4 then flushOam (sendOam s g 0x0014 [BitVec.ofNat 8 reason]) g else s

/-- The backoff after the `k`-th failure, in ns (R210), with the random part drawn. -/
def backoffTime (k r : Nat) : Nat := min (50000000 * 2 ^ (k - 1)) 3200000000 + r % 50000001

/-- A failure (R209, R210): the peer is told, event 0x0602, the count, and P1 with a backoff. -/
def failGroup (s : Hw) (g reason : Nat) : Hw :=
  let s := tellAbort s g reason
  let s := ((s.setFld (LNK_STATUS_reason g) reason).setFld (LNK_LATCH_fail g) 1).count (LNK_C_FAIL g)
  let s := toP1 (s.raise 0x0602 [g, s.stage g, reason]) g
  if reason = 11 ∨ reason = 12 then s
  else
    let k := min (s.fld (LNK_STATUS_fails g) + 1) 15
    let (r, s) := s.random
    let s := (s.setFld (LNK_STATUS_fails g) k).setFld (LNK_STATUS_backoff g) 1
    s.updGrp g fun x => { x with backoffEnd := s.dtime + backoffTime k r.toNat }

/-- Admitted flows of policy 2 or 3 whose preferred group is `g`. -/
def preferring (s : Hw) (g : Nat) : Nat :=
  (s.tds.adm.filter fun e => match e.2 with
    | some a => a.path == 2 + g && !a.keyless
    | none => false).length

/-- The flows that prefer a lost group switch to the other one; those of the other group that ran here return to it if it is usable (R357,
R360). Flows that have switched already do not switch again. -/
def reroute (s : Hw) (g : Nat) : Hw :=
  let was := s.flag (reroutedFld g)
  let s := (s.setFld (reroutedFld g) 1).cond (s.stage (other g) == 5) fun s => s.setFld (reroutedFld (other g)) 0
  if was then s
  else
    let s := (s.setFld RDN_LATCH_reroute 1).count RDN_REROUTE
    { s.raise 0x0B04 [g, other g, preferring s g] with brc := { s.brc with rerouteAt := some s.dtime } }

/-- A group is lost in P5 (R353, R357); cause 0 lanes, 1 reference, 2 framing domain, 3 STATUS, 4 sprout (R235). In C2 over eight
lanes the whole device goes to P1 (R237). -/
def loseGroup (s : Hw) (g cause : Nat) : Hw :=
  if s.stage g ≠ 5 then s
  else
    let wide := s.mode g == 2 && s.fld (LFM_CFG_c2_layout g) == 1
    let s := s.raise 0x0B03 [g, cause, s.fld (failedFld g)]
    let s := (s.setFld (lostFld g) 1).setFld RDN_LATCH_lost 1
    let s := reroute (failGroup s g (if cause = 4 then 11 else 10)) g
    s.cond wide fun s => toP1 s (other g)

/-! ### The promise (R305, R316, R324, R325) -/

/-- The largest max_frame of the admitted class C flows with demand on a group. -/
def maxC (s : Hw) (g : Nat) : Nat :=
  s.tds.adm.foldl (fun m e => match e.2 with
    | some a => if a.cls = 2 ∧ !a.keyless ∧ (a.path ≥ 2 ∨ a.path = g) then max m a.maxFrame else m
    | none => m) 0

/-- The minimum delay of a published group, in ns, with `m` for M (R324): path delay in 1/64 ns rounded up. -/
def minDelay (s : Hw) (g m : Nat) : Nat := (s.num (PWR_PATH_DLY g) + 63) / 64 + 1600 + (m + 24) / 25

/-- Condition 4 of R305. -/
def demandFits (s : Hw) (g : Nat) : Bool :=
  decide (s.num (TDS_DEM_OWN g) + s.num (TDS_DEM_SB g) ≤ groupLimit s g)

/-- The condition of R305 that fails, as event 0x0A06 numbers it; 0 for none. While DTIME runs from the oscillator it is condition 3 on
each group, cause 7 (R91); of the others the first. -/
def promiseCause (s : Hw) (g : Nat) : Nat :=
  if s.fld PWR_DTIME_SRC_source = 3 then 7
  else if s.stage g ≠ 5 ∨ !s.native g ∨ !s.flag (peerValid g) then 1
  else if popCount 4 (s.txMask g) < s.fld TDS_CFG_budget_lanes ∨ popCount 4 (s.rxMask g) < s.fld TDS_CFG_budget_lanes then 2
  else if s.flag PWR_SPD_STATUS_suspended then 6
  else if !(s.grp g).fresh then 7
  else if demandFits s g then 0 else 4

/-- What class C needs besides (R325): 3 DELAY mismatch, 5 D below the minimum, 0 none. -/
def classCCause (s : Hw) (g : Nat) : Nat :=
  if (s.grp g).delay ≠ some (s.num TDS_DELAY) then 3
  else if s.num TDS_DELAY < minDelay s g (maxC s g) then 5 else 0

def promFld (g : Nat) : Fld := ab g TDS_STATUS_prom_a TDS_STATUS_prom_b
def cpromFld (g : Nat) : Fld := ab g TDS_STATUS_c_prom_a TDS_STATUS_c_prom_b
def cmisFld (g : Nat) : Fld := ab g TDS_STATUS_cmis_a TDS_STATUS_cmis_b

/-- Does the peer's last DELAY differ? -/
def delayDiffers (s : Hw) (g : Nat) : Bool :=
  match (s.grp g).delay with
  | some d => d != s.num TDS_DELAY
  | none => false

/-- The promise of a group follows its conditions, with events 0x0A05 and 0x0A06 (R305, R341), from the first admission after a power-up
of D14 on (R342). DEDUCED (log 117): no cause of Table 09-12 fits its end with D14's power, and no event records that. -/
def settlePromise (s : Hw) (g : Nat) : Hw :=
  let cause := promiseCause s g
  let cc := classCCause s g
  let was := s.flag (promFld g)
  let wasC := s.flag (cpromFld g)
  let is := cause == 0 && s.tds.begun && s.ready 14
  let isC := is && cc == 0
  let s := ((s.setFlag (promFld g) is).setFlag (cpromFld g) isC).setFlag (cmisFld g) (delayDiffers s g)
  let s := s.cond (is && !was) fun s => s.updGrp g fun x => { x with promSince := some s.dtime }
  let s := s.cond (was && !is) fun s =>
    ((s.updGrp g fun x => { x with promSince := none }).setFld TDS_LATCH_prom_lost 1).cond (cause != 0) fun s => s.raise 0x0A06 [g, cause, 0]
  let s := s.cond (is && was && wasC && !isC) fun s => s.raise 0x0A06 [g, cc, 1]
  s.cond ((is && !was) || (isC && !wasC)) fun s => s.raise 0x0A05 [g, 1, if isC then 1 else 0]

/-! ### Remaps (R351 to R359) -/

/-- The transmit mask after the waiting changes and the removal or addition at hand. -/
def wantedMask (mask : Nat) (ws : List MaskWant) : Nat := ws.foldl (fun m w => setBit m w.lane w.join) mask

/-- Events and counters of lanes shed and joined (R366, Table 10-10). -/
def noteWants (s : Hw) (g : Nat) (ws : List MaskWant) : Hw :=
  ws.foldl (fun s w =>
    if w.join then (s.count RDN_JOIN).raise 0x0B02 [g, w.lane, w.reason]
    else
      let s := ((s.count RDN_SHED).setFld RDN_LATCH_shed 1).raise 0x0B01 [g, w.lane, together 0x0B01 [w.reason, w.cause]]
      let l := (Map.get [] (s.grp g).sheds w.lane).filter (fun t => decide (s.dtime < t + 60000000000)) ++ [s.dtime]
      let s := s.updGrp g fun x =>
        { x with sheds := Map.put [] x.sheds w.lane l, leftAt := Map.put 0 x.leftAt w.lane s.dtime }
      s.cond (decide (l.length ≥ 3)) fun s => s.setFld (heldFld g) (setBit (s.fld (heldFld g)) w.lane true)) s

/-- Queue a REMAP at `frame` and `q` for the changes that wait: sheds before joins, those of one cause together, since a REMAP carries one
reason (R351, R352, R360). The point lies at least 128 codewords ahead. -/
def queueRemap (s : Hw) (g frame q : Nat) : Hw :=
  let x := s.grp g
  if x.txRemap.isSome then s
  else
    let cur := s.txMask g
    let sheds := x.wants.filter fun w => !w.join && hasBit cur w.lane
    let joins := x.wants.filter fun w => w.join && !hasBit cur w.lane
    let all := sheds ++ joins
    match all with
    | [] => s.updGrp g fun x => { x with wants := [] }
    | w :: _ =>
      let with_ := fun (v : MaskWant) => v.join == w.join && v.reason == w.reason
      let now := all.filter with_
      let later := all.filter fun v => !with_ v
      let gen := (s.fld (LFM_STATUS_generation g) + 1) % 256
      let mask := wantedMask cur now
      if mask = 0 then loseGroup (s.updGrp g fun x => { x with wants := [] }) g 0
      else
        let r : Remap := ⟨gen, mask, frame, q, w.reason, s.dtime⟩
        let s := s.updGrp g fun x => { x with txRemap := some r, noAck := x.noAck ++ [r], wants := later }
        let s := sendFour s g 0x0002 mask (toBE 1 gen ++ toBE 1 mask ++ toBE 6 frame ++ toBE 2 q ++ toBE 2 w.reason)
        noteWants s g now

/-- The remap point 128 lane codewords ahead of the one being sent (R351). -/
def pointAhead (s : Hw) (g : Nat) : Nat × Nat :=
  let n := nowQ s g + 129
  if n < 16384 then ((s.grp g).txFc, n) else (((s.grp g).txFc + 1) % 2 ^ 48, n - 16384)

/-- Queue a REMAP for the changes that wait, if there are any. -/
def nextRemap (s : Hw) (g : Nat) : Hw :=
  let (f, q) := pointAhead s g
  queueRemap s g f q

/-- A cause asks for changes of the transmit mask (R351). -/
def askMask (s : Hw) (g : Nat) (ws : List MaskWant) : Hw :=
  nextRemap (s.updGrp g fun x => { x with wants := x.wants ++ ws }) g

/-- A receive lane of a group in P5 is declared failed (R350, R352, R353); cause 0 loss of signal, 1 lock lost, 2 burst,
3 AM lock or alignment lost, 4 injected. -/
def declareFail (s : Hw) (g p cause : Nat) : Hw :=
  let s := s.updGrp g fun x => { x with causeAt := Map.put 0 x.causeAt p (s.dtime + 1) }
  if s.stage g ≠ 5 ∨ !s.native g ∨ !hasBit (s.rxMask g) p ∨ hasBit (s.fld (failedFld g)) p then s
  else
    let s := s.setFld (failedFld g) (setBit (s.fld (failedFld g)) p true)
    if s.rxMask g &&& s.fld (failedFld g) = s.rxMask g then loseGroup s g 0
    else askMask s g [⟨p, false, 2, cause⟩]

/-- The receive mask changes at its point, or is adopted. -/
def setRxMask (s : Hw) (g mask gen : Nat) : Hw :=
  (s.setFld (LFM_STATUS_rx_mask g) mask).updGrp g fun x => { x with rxGen := gen }

end Sys2Proof.Machine
end

