-- ==== Sys2Proof/Machine/Line.lean ====
section
/-!
DEFINITION. Native line format (05): lane frames and alignment markers, STATUS and REMAP messages, the LFM commands, and
P3, P4 and P5 entries of bring-up (06, R230 to R234), which markers and lane frames drive.
-/
namespace Sys2Proof.Machine
open Reg

/-- Tail allowance A of a mode (Table 05-3). -/
def stuffAllow (mode : Nat) : Nat := if mode = 0 then 23383 else 23768

/-- Content symbols C of a mode (Table 05-3). -/
def contentSymbols (mode : Nat) : Nat := if mode = 0 then 46765215 else 47535488

/-- The 48-bit serial order: `a` is at or after `b`. -/
def frameAfter (a b : Nat) : Bool := decide ((a + 2 ^ 48 - b) % 2 ^ 48 < 2 ^ 47)

def setLfmBit (s : Hw) (f : Fld) (p : Nat) (v : Bool) : Hw := s.setFld f (setBit (s.fld f) p v)

/-! ### What leads from P3 to P5 (R230 to R234) -/

/-- The features of CAPS (Table 06-6): duplication and QUIET always, the bands as enabled at the moment (R412). -/
def featureBits (s : Hw) : Nat := 3 + 4 * s.fld BRC_CFG_t1_en + 8 * s.fld BRC_CFG_t2_en

/-- The CAPS body (Table 06-6). -/
def capsBody (s : Hw) (g : Nat) : Bytes :=
  toBE 1 1 ++ toBE 1 (s.mode g) ++ toBE 1 3 ++ toBE 1 (s.txMask g) ++ toBE 2 (localFloor s) ++ toBE 2 (ownPace s g) ++
    toBE 8 (s.grp g).contrib ++ toBE 4 (s.num SEC_FW_VER) ++ toBE 2 (featureBits s) ++ toBE 2 (s.fld TDS_BUF_skew * 208 / 10000) ++ toBE 1 g ++ zeros 7

def readyBody (s : Hw) (g : Nat) : Bytes := toBE 8 (s.num64 (PWR_PEER_OFS g)) ++ toBE 4 (s.num (PWR_PATH_DLY g))

/-- Every lane of the receive mask has CDR lock, AM lock and alignment (R230). -/
def lanesLocked (s : Hw) (g : Nat) : Bool :=
  (bitsOf 4 (s.rxMask g)).all fun p =>
    s.flag (LRX_STATUS_cdr_lock (4 * g + p)) && hasBit (s.fld (LFM_STATUS_am_lock g)) p &&
      (Map.get {} (s.grp g).am p).aligned

/-- P3 passes to P4, where CAPS goes out with a fresh contribution (R230, R232). -/
def tryP4 (s : Hw) (g : Nat) : Hw :=
  if s.stage g = 3 && s.native g && lanesLocked s g then
    let s := setStage s g 4
    let (r, s) := s.random
    let s := s.updGrp g fun x => { x with contrib := r.toNat % 2 ^ 64 }
    sendOam s g 0x0010 (capsBody s g)
  else s

/-- After both CAPS_ACKs with result 0: the seed is the XOR of the contributions, and SEED_START names a frame 4 ahead
(R233; from 2 to 8 is allowed). -/
def trySeed (s : Hw) (g : Nat) : Hw :=
  let x := s.grp g
  match x.peerContrib with
  | some c =>
    if s.stage g = 4 && x.ackSent && x.ackRcvd && x.ownF.isNone then
      let f := (x.txFc + 4) % 2 ^ 48
      let s := s.updGrp g fun x => { x with ownF := some f, seed := Nat.xor x.contrib c }
      sendOam s g 0x0012 (toBE 6 f ++ zeros 2)
    else s
  | none => s

/-- A healthy receive lane for LANE_HEALTH (R354): locks, alignment and no cause in the last 10 ms. -/
def laneHealthy (s : Hw) (g p : Nat) : Bool :=
  let t := Map.get 0 (s.grp g).causeAt p
  s.flag (LRX_STATUS_cdr_lock (4 * g + p)) && hasBit (s.fld (LFM_STATUS_am_lock g)) p &&
    (Map.get {} (s.grp g).am p).aligned && !s.flag (LRX_STATUS_los (4 * g + p)) &&
    decide (t = 0 ∨ t - 1 + 10000000 ≤ s.dtime) && decide (Map.get 0 (s.grp g).inject p ≤ s.dtime)

def healthMask (s : Hw) (g : Nat) : Nat := sumN ((List.range 4).map fun p => if laneHealthy s g p then 2 ^ p else 0)

/-- Send LANE_HEALTH; a failed lane that is healthy again is no longer failed (R354). -/
def sendHealth (s : Hw) (g : Nat) : Hw :=
  let h := healthMask s g
  let f := s.fld (failedFld g)
  let f' := f - (f &&& h)
  sendOam (s.setFld (failedFld g) f') g 0x0021 (toBE 1 h ++ toBE 1 f' ++ zeros 6)

def sendDelay (s : Hw) (g : Nat) : Hw := sendOam s g 0x0020 (toBE 4 (s.num TDS_DELAY) ++ zeros 4)

/-- A lane is in P5: its 60 s to the first automatic save begin (R149). -/
def laneInP5 (s : Hw) (n : Nat) : Hw := s.updLane n fun l => { l with savedAt := none, p5At := s.dtime }

/-- On entry to P5 the flows admitted must fit the group's new limit, or event 0x0A06 says so (R316); in C2 the limit is 0 (R311). -/
def tooMuch (s : Hw) (g : Nat) : Hw := s.cond (!demandFits s g) fun s => s.raise 0x0A06 [g, 4, 0]

/-- Entry to P5 (R234, R316, R325, R354). -/
def enterP5 (s : Hw) (g : Nat) : Hw :=
  let s := setStage s g 5
  let s := ((s.count (LNK_C_UP g)).setFld (LNK_LATCH_p5_entered g) 1).setFld (lostFld g) 0
  let s := s.updGrp g fun x => { x with p5At := s.dtime }
  let s := s.each (groupLanes g) fun n s => laneInP5 s n
  sendHealth (sendDelay (tooMuch s g) g) g

/-- READY goes out once its conditions hold; with the peer's READY the group enters P5 (R234). -/
def tryReady (s : Hw) (g : Nat) : Hw :=
  let x := s.grp g
  let s := s.cond (s.stage g == 4 && x.txPast && x.rxPast && s.flag (peerValid g) && !x.readySent) fun s =>
    sendOam (s.updGrp g fun x => { x with readySent := true }) g 0x0013 (readyBody s g)
  if s.stage g = 4 && (s.grp g).readySent && (s.grp g).readyRcvd then enterP5 s g else s

/-! ### Lane frames sent (R172 to R183) -/

/-- The marker that position `p` sends (Table 05-4). -/
def markerBytes (s : Hw) (g p : Nat) : Bytes :=
  let x := s.grp g
  let b := toBE 1 (s.mode g * 64 + g * 32 + p) ++ toBE 1 (s.txMask g) ++ toBE 1 (s.fld (LFM_STATUS_generation g)) ++
    toBE 1 (s.fld (LFM_STATUS_seed g) * 8 + x.flags) ++ toBE 6 x.txFc ++ toBE 2 (min (x.stuffed.getD p 0) 0xFFFF) ++
    toBE 4 (s.num LNK_TAG) ++ List.replicate 6 (0x33 : Byte)
  toBE 8 0x9C3AB4E163C54B1E ++ b ++ toBE 2 (crcMsb 16 0x1021 0xFFFF b)

/-- The lanes active in a lane frame, for all of it or for a part. DEDUCED (log 118): a lane shed or joined within the frame is active in
it (R181). -/
def activeIn (segs : List (Nat × Nat)) : List Nat := (List.range 4).filter fun p => segs.any fun e => hasBit e.2 p

/-- Judge the stuffing of the frame that ended (R181, R183). -/
def judgeStuff (s : Hw) (g : Nat) (stuff : List Nat) : Hw :=
  let active := activeIn (s.grp g).segs
  let most := active.foldl (fun m p => if stuff.getD p 0 > stuff.getD m 0 then p else m) (active.headD 0)
  let n := if active.isEmpty then 0 else stuff.getD most 0
  let s := (s.count (LFM_STUFF_TX g) (sumN stuff)).updGrp g fun x => { x with stuffed := stuff }
  if n > stuffAllow (s.mode g) then
    (((s.setFld (LFM_STATUS_stuff_over g) 1).setFld (LFM_LATCH_stuff_over g) 1).count (LFM_STUFF_OVER g)).raise 0x0503 [g, most, n]
  else s.setFld (LFM_STATUS_stuff_over g) 0

/-- Lanes whose retraining named this frame send lane frames again (R242, item 3). -/
def resumeLanes (s : Hw) (g : Nat) : Hw :=
  s.each (List.range 4) fun p s =>
    match Map.get none (s.grp g).retrain p with
    | some r =>
      if r.phase = 4 ∧ r.frame.any fun f => frameAfter (s.grp g).txFc f then
        s.updGrp g fun x => { x with retrain := Map.put none x.retrain p (some { r with phase := 5 }) }
      else s
    | none => s

/-- The seed that scrambles the present lane frame (R178): 0 until the frame from which the agreed one applies. -/
def seedInForce (s : Hw) (g : Nat) : Nat := if s.flag (LFM_STATUS_seed g) then (s.grp g).seed else 0

/-- The present lane frame of position `p` up to its tail: the marker sent, and the content of the codewords that carry the cells of
the group frame. -/
def laneBody (s : Hw) (g p : Nat) : List Nat :=
  let x := s.grp g
  let ms := messages (codewordsOf x.segs) (sentCells s g)
  let words := (laneMessages (maskAt x.segs) laneCodewords p ms).map outerCodeword
  let (v, n) := Map.get (0, 0) x.runs p
  frameBodySymbols v n (Map.get [] x.sentAm p) (scramblerStart (seedInForce s g) x.txFc p) (laneContent (s.mode g) words)

/-- A lane frame with its tail leaves lane position `p` (R181); `most` is the largest stuff count of the group. -/
def sendBody (s : Hw) (g p most : Nat) (body : List Nat) : Hw :=
  let tail := tailSymbols (128 + contentSymbols (s.mode g) + max (stuffAllow (s.mode g)) most - body.length)
  let (v, n) := Map.get (0, 0) (s.grp g).runs p
  (sendSymbols (4 * g + p) (body ++ tail) s).updGrp g fun x => { x with runs := Map.put (0, 0) x.runs p (runAfter v n body) }

/-- The present lane frame comes to its end: its last cells, and the stuffing and the tail of every lane that sent it. -/
def finishFrame (s : Hw) (g : Nat) : Hw :=
  let s := positionsGo (positionsOf (s.grp g).segs - (s.grp g).pos) g s
  let bodies := (List.range 4).map fun p => if Map.get [] (s.grp g).sentAm p = [] then [] else laneBody s g p
  let stuff := bodies.map fun b => b.length - 128 - contentSymbols (s.mode g)
  let most := (activeIn (s.grp g).segs).foldl (fun m p => max m (stuff.getD p 0)) 0
  let s := s.each (List.range 4) fun p s => s.cond (bodies.getD p [] != []) fun s => sendBody s g p most (bodies.getD p [])
  judgeStuff s g stuff

/-- A lane frame's marker goes out on lane position `p`, or a training frame where the lane retrains (R242); a lane that R218 excludes
sends neither. -/
def startLane (s : Hw) (g p : Nat) : Hw :=
  if retraining s (4 * g + p) || hasBit (s.grp g).crossed p then
    (s.updGrp g fun x => { x with sentAm := Map.put [] x.sentAm p [], runs := Map.put (0, 0) x.runs p (0, 0) }).cond
      (!hasBit (s.grp g).crossed p) fun s => sendTraining s g p
  else
    let m := markerBytes s g p
    (s.emit (.marker g m)).updGrp g fun x => { x with sentAm := Map.put [] x.sentAm p m }

/-- The transmit mask changes at its remap point (R168, R351): the retraining of a lane that it takes in is over. -/
def applyRemap (s : Hw) (g : Nat) (r : Remap) : Hw :=
  let old := s.txMask g
  let s := (s.setFld (LFM_STATUS_tx_mask g) r.mask).setFld (LFM_STATUS_generation g) r.gen
  let s := (s.updGrp g fun x => { x with txRemap := none, segs := x.segs ++ [(r.q, r.mask)] }).raise 0x050A
    [g, 0, together 0x050A [old, r.mask, r.gen]]
  let s := s.each (List.range 4) fun p s =>
    match Map.get none (s.grp g).retrain p with
    | some t =>
      if hasBit r.mask p ∧ t.phase = 5 then
        ((s.updGrp g fun x => { x with retrain := Map.put none x.retrain p none }).setFld (LNK_STATUS_retrain g)
          (setBit (s.fld (LNK_STATUS_retrain g)) p false)).raise 0x060A [g, p, 1]
      else s
    | none => s
  nextRemap s g

/-- Lane frame `fc` begins on every lane of a group (R172, R174): the active mask at q = 0, of a remap point there too (R168, R173), the seed from frame F on (R233);
`frac` is the fraction of its moment in 1/64 ns. -/
def startFrame (s : Hw) (g fc frac : Nat) : Hw :=
  let s := s.updGrp g fun x => { x with txFc := fc, frameAt := s.dtime, frameFrac := frac, pos := 0, cells := [], segs := [] }
  let s := match (s.grp g).txRemap with
    | some r => if r.frame = fc ∧ r.q = 0 then applyRemap s g r else s
    | none => s
  let s := s.updGrp g fun x => { x with segs := [(0, s.txMask g)] }
  let x := s.grp g
  let past := x.ownF.any fun f => frameAfter x.txFc f
  let s := s.cond (past && !x.txPast) fun s =>
    (s.setFld (LFM_STATUS_seed g) 1).updGrp g fun x => { x with txPast := true }
  tryReady ((resumeLanes s g).each (List.range 4) fun p s => startLane s g p) g

/-- A remap point of the present lane frame that has not been told is at the latest its end. -/
def lateRemap (s : Hw) (g : Nat) : Hw :=
  match (s.grp g).txRemap with
  | some r => if r.frame = (s.grp g).txFc then applyRemap s g r else s
  | none => s

/-- A lane frame ends and the next begins on every lane of a group (R172 to R183). -/
def laneFrameBoundary (g frac : Nat) (s : Hw) : Hw :=
  if !framing s g then s
  else
    let s := finishFrame (lateRemap s g) g
    startFrame s g (((s.grp g).txFc + 1) % 2 ^ 48) frac

/-! ### Markers received (R175, R176, R233, R355) -/

/-- The peer's loss flags (R197, Table 05-15): event 0x0506 on their rise. -/
def setFar (s : Hw) (g flags : Nat) : Hw :=
  let core := hasBit flags 0 || hasBit flags 2
  let ref := hasBit flags 1
  let rose := (core && !s.flag (LFM_STATUS_far_core_lost g)) || (ref && !s.flag (LFM_STATUS_far_ref_lost g))
  let s := s.cond (core && !s.flag (LFM_STATUS_far_core_lost g)) fun s => s.setFld (LFM_LATCH_far_core_lost g) 1
  let s := (s.setFlag (LFM_STATUS_far_core_lost g) core).setFlag (LFM_STATUS_far_ref_lost g) ref
  s.cond rose fun s => s.raise 0x0506 [g, flags]

def updAm (s : Hw) (g p : Nat) (f : AmLane → AmLane) : Hw := s.updGrp g fun x => { x with am := Map.upd {} x.am p f }

def Hw.am (s : Hw) (g p : Nat) : AmLane := Map.get {} (s.grp g).am p

/-- Once every lane with AM lock has given its marker of the present lane frame, or missed it: the largest skew, and a lane more than 500 ns
behind is reported failed, the one that arrives latest (R176). -/
def judgeSkew (s : Hw) (g : Nat) : Hw :=
  let fc := s.num64 (LFM_FRAMES g)
  let good := (bitsOf 4 (s.fld (LFM_STATUS_am_lock g))).filter fun p => (s.am g p).bad == 0
  let here := good.filter fun p => (s.am g p).frame == fc
  if here.length < good.length ∨ here.isEmpty ∨ (s.grp g).skewFc = some fc then s
  else
    let last := here.foldl (fun m p => if (s.am g m).skew < (s.am g p).skew then p else m) (here.headD 0)
    let k := (s.am g last).skew
    let s := (s.setFld (LFM_SKEW_skew g) (min 65535 k)).updGrp g fun x => { x with skewFc := some fc }
    s.cond (decide (500 < k)) fun s => declareFail (s.raise 0x0507 [g, last, k]) g last 3

/-- A marker is missing or bad (R175): the third in a row loses AM lock. -/
def missMarker (s : Hw) (g p : Nat) : Hw :=
  let s := updAm (s.count (LFM_AM_MISS g)) g p fun a => { a with good := 0, bad := a.bad + 1 }
  if (Map.get {} (s.grp g).am p).bad ≥ 3 && hasBit (s.fld (LFM_STATUS_am_lock g)) p then
    let s := setLfmBit (updAm s g p fun a => { a with aligned := false }) (LFM_STATUS_am_lock g) p false
    let s := (s.setFld (LFM_LATCH_am_lost g) 1).raise 0x0501 [g, p, s.num64 (LFM_FRAMES g)]
    judgeSkew (declareFail s g p 3) g
  else judgeSkew s g

/-- The seed rule on a marker of a lane in the mask (R233): true for a failure. The seed shows from the peer's frame F on and not
before; no frame is F before SEED_START has come. -/
def seedWrong (s : Hw) (g fc : Nat) (seeded : Bool) : Bool :=
  match (s.grp g).peerF with
  | some f => frameAfter fc f != seeded
  | none => seeded

/-- The lane codeword that a group is receiving, from the time since its last good marker. -/
def rxQ (s : Hw) (g : Nat) : Nat := min 16383 (bitsSince s g (s.grp g).rxFrameAt / 5440)

/-- Has a remap point come, in lane frame `fc` at lane codeword `q`? -/
def pointCome (fc q : Nat) (r : Remap) : Bool := frameAfter fc r.frame && (fc != r.frame || decide (r.q ≤ q))

/-- The remap point of a direction passes (R168, R351), 0 transmit, 1 receive, once its lane frame and lane codeword have come. -/
def remapPoint (g dir : Nat) (s : Hw) : Hw :=
  if dir = 0 then
    match (s.grp g).txRemap with
    | none => s
    | some r =>
      if framing s g && pointCome (s.grp g).txFc (nowQ s g) r then applyRemap s g r else s
  else
    match (s.grp g).rxRemap with
    | none => s
    | some r =>
      if !pointCome (s.num64 (LFM_FRAMES g)) (rxQ s g) r then s
      else
        let old := s.rxMask g
        (setRxMask (s.updGrp g fun x => { x with rxRemap := none }) g r.mask r.gen).raise 0x050A
          [g, 1, together 0x050A [old, r.mask, r.gen]]

/-- The marker's mask and generation against the receive side's (R355). -/
def adoptMask (s : Hw) (g mask gen : Nat) : Hw :=
  if s.stage g = 5 ∧ (mask ≠ s.rxMask g ∨ gen ≠ (s.grp g).rxGen) then
    let old := s.rxMask g
    let s := setRxMask s g mask gen
    let s := s.updGrp g fun x => { x with rxRemap := none }
    ((s.count RDN_ADOPT).setFld RDN_LATCH_adopt 1).raise 0x0B05 [g, together 0x0B05 [old, mask], gen]
  else s

/-- A group in C2 enters P5 (R236, R316). -/
def c2Active (s : Hw) (g : Nat) : Hw :=
  let s := (((setStage s g 5).count (LNK_C_UP g)).setFld (LNK_LATCH_p5_entered g) 1).setFld (lostFld g) 0
  tooMuch (s.updGrp g fun x => { x with p5At := s.dtime }) g

/-- A C2 lane passes P3 on alignment lock (R236); under layout 1 all eight lanes pass together. -/
def c2Aligned (s : Hw) (n : Nat) : Hw :=
  let g := laneGroup n
  let p := n % 4
  if s.fld (LFM_CFG_c2_layout g) = 0 then
    if s.num (LNK_LSTAGE g) / 16 ^ p % 8 = 3 ∧ hasBit (s.fld (LFM_STATUS_am_lock g)) p then
      let v := s.num (LNK_LSTAGE g)
      let s := s.setNum (LNK_LSTAGE g) (v - v / 16 ^ p % 8 * 16 ^ p + 5 * 16 ^ p)
      laneInP5 (if s.stage g = 5 then s else c2Active s g) n
    else s
  else if s.stage 0 = 3 ∧ s.fld (LFM_STATUS_am_lock 0) = 15 ∧ s.fld (LFM_STATUS_am_lock 1) = 15 then
    s.each (List.range 8) (fun n s => laneInP5 s n) |>.each [0, 1] fun g s => c2Active s g
  else s

/-- AM lock gained after two good markers (R175). -/
def gainLock (s : Hw) (g p : Nat) : Hw :=
  if (Map.get {} (s.grp g).am p).good ≥ 2 && !hasBit (s.fld (LFM_STATUS_am_lock g)) p then
    (setLfmBit s (LFM_STATUS_am_lock g) p true).raise 0x0502 [g, p]
  else s

/-- An alignment marker arrives on lane `n`: its 32 bytes, whether it stands one lane frame after the last one within the
search window, and the ns by which this lane is later than the earliest. In C2 it is an 802.3 marker, whose content the
spec leaves to that standard. -/
def amReceived (n : Nat) (bytes : Bytes) (inStep : Bool) (skew : Nat) (s : Hw) : Hw :=
  let g := laneGroup n
  let p := n % 4
  if !s.ready n || !s.ready (12 + g) then s
  else if s.mode g = 2 then
    let s := updAm s g p fun a => { a with good := if inStep then a.good + 1 else 1, bad := 0, aligned := true }
    c2Aligned (gainLock s g p) n
  else if !framing s g then s
  else
    let body := (bytes.take 30).drop 8
    if bytes.length ≠ 32 || un bytes 0 8 != 0x9C3AB4E163C54B1E || crcMsb 16 0x1021 0xFFFF body != u16 bytes 30 then
      missMarker s g p
    else
      let fc := un bytes 12 6
      let s := updAm s g p fun a =>
        { a with good := if inStep then a.good + 1 else 1, bad := 0, frame := fc, skew := skew, aligned := decide (skew ≤ 500) }
      let s := s.updGrp g fun x => { x with rxFrameAt := s.dtime }
      let s := gainLock (s.setNum64 (LFM_FRAMES g) fc) g p
      let b11 := u8 bytes 11
      if (s.stage g = 3 ∨ s.stage g = 4) ∧ u32 bytes 20 ≠ s.num (LNK_PEER g) then failGroup s g 7
      else if hasBit (s.rxMask g) p && seedWrong s g fc (hasBit b11 3) then failGroup s g 9
      else
        let s := judgeSkew s g
        let s := s.cond ((s.grp g).peerF.any fun f => frameAfter fc f) fun s => s.updGrp g fun x => { x with rxPast := true }
        let s := setFar s g (b11 % 8)
        let s := adoptMask (remapPoint g 1 s) g (u8 bytes 9 % 16) (u8 bytes 10)
        tryReady (tryP4 s g) g

/-- The sync word did not come within 2A + 256 symbols (R182). -/
def amNotFound (n : Nat) (s : Hw) : Hw :=
  let g := laneGroup n
  let p := n % 4
  if s.mode g = 2 then missMarker s g p
  else if !framing s g then s else missMarker (s.raise 0x0504 [g, p]) g p

/-! ### STATUS and REMAP (R196, R351, R352) -/

/-- A STATUS cell: pace, floor, mask, generation and flags (Table 05-9). -/
def statusReceived (g pace floor flags : Nat) (s : Hw) : Hw :=
  if !framing s g then s
  else
    let s := s.updGrp g fun x => { x with peerPace := some pace, peerFloor := some floor }
    let s := setFar s g flags
    if hasBit flags 1 then loseGroup s g 3 else s

/-- The lanes on which a REMAP_ACK may go: those active after the remap that it answers, as far as this direction sends codewords on
them, or else all that it sends them on. -/
def ackMask (s : Hw) (g mask : Nat) : Nat :=
  let own := ((s.grp g).txRemap.map Remap.mask).getD (s.txMask g)
  if own &&& mask = 0 then own else own &&& mask

/-- A REMAP of the peer's direction: the point is kept unless it has passed, REMAP_ACK answers, and lanes that the peer drops for its own
receiver's sake leave this direction too (R351, R352). -/
def remapReceived (g gen mask frame q reason : Nat) (s : Hw) : Hw :=
  if s.stage g ≠ 5 ∨ !s.native g then s
  else
    let x := s.grp g
    let known := decide (gen = x.rxGen) || x.rxRemap.any fun r => r.gen == gen
    let r : Remap := ⟨gen, mask, frame, q, reason, s.dtime⟩
    let fc := s.num64 (LFM_FRAMES g)
    let passed := !known && frameAfter fc frame && (fc != frame || decide (q < rxQ s g))
    let s := sendFour s g 0x0003 (ackMask s g mask) (toBE 1 gen ++ toBE 1 mask ++ toBE 1 (if passed then 1 else 0))
    let s := s.cond (!known && !passed) fun s => s.updGrp g fun x => { x with rxRemap := some r }
    let asked := fun p => ((s.grp g).wants.any fun w => !w.join && w.lane == p) || ((s.grp g).txRemap.any fun r => !hasBit r.mask p)
    let gone := (bitsOf 4 (s.txMask g)).filter fun p => hasBit (s.rxMask g) p && !hasBit mask p && !asked p
    if known || reason ≠ 2 || gone.isEmpty then s else askMask s g (gone.map fun p => ⟨p, false, 1, 255⟩)

/-- A REMAP_ACK ends the wait for one, whether it accepts or refuses (R351, R355). -/
def remapAckReceived (g gen : Nat) (s : Hw) : Hw :=
  s.updGrp g fun x => { x with noAck := x.noAck.filter fun r => r.gen != gen }

/-- No REMAP_ACK within 2P + 100 µs (R355). -/
def remapAckTimeout (g : Nat) (s : Hw) : Hw :=
  let late := fun (r : Remap) => decide (r.sentAt + 2 * (s.num (PWR_PATH_DLY g) / 64) + 100000 ≤ s.dtime)
  ((s.grp g).noAck.filter late).foldl (fun s r => (s.count RDN_NOACK).raise 0x0B06 [g, r.gen, r.mask])
    (s.updGrp g fun x => { x with noAck := x.noAck.filter fun r => !late r })

/-- Every status_period (R195). -/
def statusPeriod (g : Nat) (s : Hw) : Hw := if 4 ≤ s.stage g then sendStatus s g else s

/-- The moment of the loss of D14 (0) or of HREF (1). -/
def lossTime (s : Hw) (cause : Nat) : Nat := if cause = 0 then s.pwr.coreAt else s.host.hrefAt.getD s.dtime

/-- Loss of D14 (0) or of HREF (1) reaches LFM: the flag stands in every STATUS and marker from now on (R197, R364). Event 0x0B09 follows
as the first STATUS with it departs (R368). -/
def coreLostReport (cause : Nat) (s : Hw) : Hw :=
  let b := if cause = 0 then 1 else 4
  let gs := [0, 1].filter fun g => framing s g && lossFlags s g &&& b == b && (s.grp g).flags &&& b != b
  if gs.isEmpty then s
  else
    let s := s.each gs fun g s => s.updGrp g fun x => { x with flags := x.flags ||| b }
    { s with pwr := { s.pwr with lossTold := (s.pwr.lossTold.filter fun e => e.1 != cause) ++ [(cause, lossTime s cause)] } }

/-- At the latest it does so 1 µs after the loss (R197); `was` is the time of the last command. -/
def lossDue (was cause : Nat) (s : Hw) : Hw :=
  let t := max (lossTime s cause + 1000) was
  if t < s.dtime then { coreLostReport cause { s with dtime := t } with dtime := s.dtime } else s

/-! ### Commands (Table 05-12) -/

def groupDoms : Hw → Bytes → List Nat := fun _ p => [12 + u8 p 0 % 2]

/-- Commands to different groups are concurrent (R204, R244). -/
def groupConc : Hw → Bytes → RunCmd → Bool := fun _ p r => u8 p 0 != u8 r.req.params 0

def applyLfmConfig (p : Bytes) (s : Hw) : Hw :=
  let g := u8 p 0
  let s := ((s.setFld (LFM_CFG_mode_pref g) (u8 p 1)).setFld (LFM_CFG_c2_layout g) (u8 p 2)).setFld (LFM_CFG_status_period g) (u8 p 3)
  s.cond (s.stage g == 1) fun s => startLaneStages s g

def opLfmConfig : OpSpec :=
  { OpSpec.fix headLfmConfig [.rng 1 0 1, .rng 1 0 2, .rng 1 0 1, .rng 1 5 100] fun s c =>
      let g := u8 c.p 0
      let change := u8 c.p 1 != s.fld (LFM_CFG_mode_pref g) || u8 c.p 2 != s.fld (LFM_CFG_c2_layout g)
      if change && decide (s.stage g > 1) then .refuse stCONDITIONS 1 s else .ok (applyLfmConfig c.p s) with
    doms := groupDoms, conc := groupConc, objs := fun p => [u8 p 0] }

def opLfmStatusRead : OpSpec :=
  { OpSpec.fix headLfmStatusRead [.rng 1 0 1] fun s c =>
      let g := u8 c.p 0
      .ok s (s.wordsAt [LFM_CFG g, LFM_STATUS g, LFM_LATCH g, LFM_FRAMES g, LFM_FRAMES g + 1, LFM_SKEW g] ++ s.dtimeBytes) with
    doms := groupDoms }

def lfmCounters (g : Nat) : List Nat :=
  [LFM_SKEW g, LFM_HDR_ERR g, LFM_OAM_ERR g, LFM_STUFF_TX g, LFM_STUFF_RX g, LFM_STUFF_ERR g, LFM_STUFF_OVER g,
    LFM_BE_GAP g, LFM_AM_MISS g]

def opLfmCountRead : OpSpec :=
  { OpSpec.fix headLfmCountRead [.rng 1 0 1, .msk 1 1] fun s c =>
      let g := u8 c.p 0
      .ok (s.cond (hasBit (u8 c.p 1) 0) fun s => s.zeroRegs (lfmCounters g))
        (s.wordsAt ([LFM_FRAMES g, LFM_FRAMES g + 1] ++ lfmCounters g) ++ s.dtimeBytes) with
    doms := groupDoms }

end Sys2Proof.Machine
end

