-- ==== Sys2Proof/Machine/Brc.lean ====
section
/-!
DEFINITION. The band repeater (12): detectors and the loop-gain estimate, the guard, input loss and output limits, automatic
power reduction, QUIET, the coexistence wires, and the BRC commands.
-/
namespace Sys2Proof.Machine
open Reg

def Hw.amp (s : Hw) (st : Nat) : Amp := Map.get {} s.brc.amps st
def Hw.updAmp (s : Hw) (st : Nat) (f : Amp → Amp) : Hw :=
  { s with brc := { s.brc with amps := Map.upd {} s.brc.amps st f } }
def Hw.band (s : Hw) (b : Nat) : Band := Map.get {} s.brc.bands b
def Hw.updBand (s : Hw) (b : Nat) (f : Band → Band) : Hw :=
  { s with brc := { s.brc with bands := Map.upd {} s.brc.bands b f } }

def stages4 : List Nat := [0, 1, 2, 3]

/-- A periodic act: done where its period has passed since it was last done. -/
def everyBrc (k period : Nat) (f : Hw → Hw) (s : Hw) : Hw :=
  let due := match Map.get none s.brc.acts k with
    | some t => decide (t + period ≤ s.dtime)
    | none => true
  if due then f { s with brc := { s.brc with acts := Map.put none s.brc.acts k (some s.dtime) } } else s

/-! ### Stages and fibres (R395) -/

def bandStages (b : Nat) : List Nat := [2 * b, 2 * b + 1]
def partner (st : Nat) : Nat := if st % 2 = 0 then st + 1 else st - 1

/-- The group whose fibre a stage emits into, and the one whose fibre it takes its input from: even stages run east to
west. -/
def emitGroup (s : Hw) (st : Nat) : Nat :=
  let east := s.fld BRC_CFG_east_grp
  if st % 2 = 0 then 1 - east else east
def inputGroup (s : Hw) (st : Nat) : Nat := 1 - emitGroup s st

def bandOn (s : Hw) (b : Nat) : Bool := if b = 0 then s.flag BRC_CFG_t1_en else s.flag BRC_CFG_t2_en

/-- Is the stage's FES unit in EMIT (R397)? -/
def ampEmits (s : Hw) (st : Nat) : Bool := s.fstate (8 + st) == 4
def ampMuted (s : Hw) (st : Nat) : Bool := s.fld (BRC_SSTAT_cause st) != 0

/-! ### Causes of muting (R418); bits of BRC_SSTATs.cause -/
def cGuard := 7
def cRunaway := 6
def cBandOff := 5
def cInput := 4
def cQuiet := 3
def cCoexIn := 2
def cCoexOut := 1
def cApr := 0

/-- The latch of BRC_SLATCHs that a rising cause sets. -/
def causeLatch (st c : Nat) : Option Fld :=
  if c = 7 then some (BRC_SLATCH_trip st) else if c = 6 then some (BRC_SLATCH_runaway st)
  else if c = 4 then some (BRC_SLATCH_input_lost st) else if c = 3 then some (BRC_SLATCH_quiet st)
  else if c = 2 ∨ c = 1 then some (BRC_SLATCH_coex st) else if c = 0 then some (BRC_SLATCH_apr st) else none

/-- A cause set or cleared; the stage is muted while any is set. -/
def setCause (st c : Nat) (v : Bool) (s : Hw) : Hw :=
  let old := s.fld (BRC_SSTAT_cause st)
  let s := s.setFld (BRC_SSTAT_cause st) (setBit old c v)
  let s := match causeLatch st c with
    | some f => s.cond (v && !hasBit old c) fun s => s.setFld f 1
    | none => s
  let m := ampMuted s st
  let s := s.setFlag (BRC_SSTAT_muted st) m
  s.setFlag (FES_STATE_muted (8 + st)) m

/-! ### Detectors (R396) -/

/-- `10 ^ n * b ^ k ≤ a ^ k`: whether `k * log10 (a / b) ≥ n`. -/
def logGe (k a b : Nat) (n : Int) : Bool :=
  if 0 ≤ n then decide (10 ^ n.toNat * b ^ k ≤ a ^ k) else decide (b ^ k ≤ a ^ k * 10 ^ (-n).toNat)

/-- The largest `lo + i` with `i` below `2 ^ bits` for which the falling test `f` holds, or `lo`. -/
def bisect (bits : Nat) (lo : Int) (f : Int → Bool) : Int :=
  (List.range bits).foldl (fun (r : Int) (i : Nat) => let c := r + (2 : Int) ^ (bits - 1 - i); if f c then c else r) lo

/-- A sample above the detector's dark code (R396). -/
def lit (s : Hw) (c code : Nat) : Nat := code % 4096 - s.fld (BRC_CAL_dark c)

/-- The mean power of detector `c` in 0.01 dBm over `n` samples whose `lit` codes sum to `sum`: -50.00 dBm for any lower value or for
zero. -/
def meanPower (s : Hw) (c sum n : Nat) : Int :=
  let k := s.fldS (BRC_CAL_k c)
  if sum = 0 then -5000
  else bisect 14 (-5000) fun x => logAtLeast 1000 sum (n * 4095) (x - k)

/-- The power of one sample. -/
def samplePower (s : Hw) (c code : Nat) : Int := meanPower s c (lit s c code) 1

/-- Is the power of a sample at or above a level in 0.01 dBm? Zero power is below every level. -/
def powerGe (s : Hw) (c code : Nat) (level : Int) : Bool :=
  let x := lit s c code
  x != 0 && logGe 1000 x 4095 (level - s.fldS (BRC_CAL_k c))

/-- Is it above the level? -/
def powerGt (s : Hw) (c code : Nat) (level : Int) : Bool :=
  let x := lit s c code
  x != 0 && !logGe 1000 4095 x (s.fldS (BRC_CAL_k c) - level)

/-- The last `n` entries of a list. -/
def lastN {α : Type} (n : Nat) (l : List α) : List α := l.drop (l.length - n)

/-- The power of detector `c` over the preceding 100 µs, 1000 samples (R396). -/
def detectorPower (s : Hw) (c : Nat) (codes : List Nat) : Int :=
  let l := (lastN 1000 codes).map (lit s c)
  meanPower s c (sumN l) l.length

/-! ### The estimate (R400, R401) -/

/-- The sums of R400 over samples of a detector at 10 MS/s with the pilot at `f` times 10 Hz, in fixed point: with the cosine, with the
sine. -/
def tones (f : Nat) (xs : List Nat) : Int × Int :=
  let r := xs.foldl (fun (a : Nat × Int × Int) (x : Nat) =>
    (a.1 + 1, a.2.1 + (x : Int) * cosineOf (f * a.1) (10 ^ 6), a.2.2 + (x : Int) * sineOf (f * a.1) (10 ^ 6))) ((0, 0, 0) : Nat × Int × Int)
  r.2

/-- The estimate in 0.1 dB with its floor mark, and the pilot index in 0.01 %, from the samples of the stage's two detectors (R400); where
the output tone or the output is zero the quotients have no value, and the results are free. Sines have 80 fraction bits (DEDUCED: log
entry 125). -/
def estimate (s : Hw) (st : Nat) (inCodes outCodes : List Nat) : (Int × Bool × Nat) × Hw :=
  let f := pilotFreq s (s.fld (BRC_SSEL_pilot_gen st))
  let xs := (lastN (10 * s.fld BRC_CFG_window) outCodes).map (lit s (2 * st + 1))
  let tin := tones f ((lastN (10 * s.fld BRC_CFG_window) inCodes).map (lit s (2 * st)))
  let tout := tones f xs
  let d := s.fldS (BRC_CAL_k (2 * st)) - s.fldS (BRC_CAL_k (2 * st + 1))
  let a := (tin.1 * tin.1 + tin.2 * tin.2).toNat
  let b := (tout.1 * tout.1 + tout.2 * tout.2).toNat
  let sum := sumN xs * 2 ^ 80
  let (idx, s) := if sum = 0 then let (f, s) := s.free; (f % 1024, s)
    else (min 1023 ((isqrt 130 (16 * 10 ^ 8 * b) + sum) / (2 * sum)), s)
  if b = 0 then let (f, s) := s.free; ((sx 12 f, false, idx), s)
  else if !logGe 500 a b (-3000 - d) then ((-300, true, idx), s)
  else ((bisect 12 (-300) fun m => logGe 500 a b (10 * m - 5 - d), false, idx), s)

/-- The band estimate, the larger of its stages', in 0.1 dB (R401, R402). -/
def bandEst (s : Hw) (b : Nat) : Int := max (s.fldS (BRC_EST_est (2 * b))) (s.fldS (BRC_EST_est (2 * b + 1)))

/-- The start of the estimate's window. -/
def windowStart (s : Hw) : Nat := s.brc.estAt - s.fld BRC_CFG_window * 1000

/-- Is the band estimate valid (R401)? -/
def estValid (s : Hw) (b : Nat) : Bool :=
  (bandStages b).all fun st =>
    ampEmits s st && !ampMuted s st && decide (180 ≤ s.fld (BRC_EST_pilot_idx st) ∧ s.fld (BRC_EST_pilot_idx st) ≤ 220) &&
      (match (s.fesu (8 + st)).stepAt with
       | some t => decide (t < windowStart s)
       | none => true)

def settleValid (s : Hw) : Hw := s.each stages4 fun st s => s.setFlag (BRC_SSTAT_est_valid st) (estValid s (st / 2))

/-- The prediction of a band in 0.01 dB: the estimate and every step's change in gain since its window began (R402). -/
def prediction (s : Hw) (b : Nat) : Int :=
  (bandStages b).foldl (fun (p : Int) st =>
    ((s.amp st).taken.filter fun x => decide (windowStart s ≤ x.1)).foldl (fun p x => p + x.2) p) (10 * bandEst s b)

def marginOf (s : Hw) : Int := 10 * s.fldS BRC_CFG_margin

/-! ### Targets (R397, R398) -/

/-- The gain in 0.01 dB from entry `a` to entry `b` of a stage's table. -/
def stepGain (s : Hw) (st a b : Nat) : Int := stepExpected s (8 + st) b - stepExpected s (8 + st) a

/-- A new target, with its change in gain noted. -/
def setTarget (s : Hw) (st t : Nat) : Hw :=
  let old := s.fld (BRC_SSTAT_target st)
  if t = old then s
  else
    let s := s.updAmp st fun x =>
      { x with taken := (x.taken.filter fun e => decide (s.dtime < e.1 + 10 ^ 7)) ++ [(s.dtime, stepGain s st old t)] }
    s.setFld (BRC_SSTAT_target st) t

/-- The lowest value of R398. A stage held by an inbound grant keeps its step but for limits and power reduction (R414,
R416). -/
def ampCap (s : Hw) (st : Nat) : Nat :=
  let c := min (s.fld (BRC_SSTAT_limit_ceil st)) (match (s.amp st).apr with
    | some k => k
    | none => 31)
  if s.flag (BRC_SSTAT_coex_hold st) then min c (s.fld (BRC_SSTAT_target st))
  else min c (min (s.fld (BRC_SSTAT_desired st)) (s.fesu (8 + st)).stgt)

/-- The target where no raise comes: entry 0 outside EMIT, while muted and in input loss, the APR step while power reduction
gates the stage, and at most the lowest value of R398. -/
def settleTarget (st : Nat) (s : Hw) : Hw :=
  let u := 8 + st
  let want := if s.flag (BRC_SSEL_cle_src st) then Map.get 0 s.cle.steps u else (s.fesu u).stgt
  let s := s.setFld (BRC_SSTAT_desired st) (min want 31)
  let cause := s.fld (BRC_SSTAT_cause st)
  let t := if !ampEmits s st then 0
    else if cause = 1 then (match (s.amp st).apr with
      | some k => min k (ampCap s st)
      | none => 0)
    else if cause ≠ 0 ∨ s.flag (BRC_SSTAT_held_min st) then 0
    else min (s.fld (BRC_SSTAT_target st)) (ampCap s st)
  setTarget s st t

/-- The gate of a stage opens only once its step has reached its target (R397). -/
def settleShut (st : Nat) (s : Hw) : Hw :=
  let u := 8 + st
  let there := s.fld (FES_STATE_step u) == min (s.fld (BRC_SSTAT_target st)) (lastStep s u)
  let s := s.cond (s.fld (BRC_SSTAT_cause st) == 1 && (s.amp st).apr.isSome && there && ampEmits s st) fun s =>
    setCause st cApr false s
  s.updFes u fun x =>
    { x with aprShut := if !ampEmits s st || ampMuted s st then true else if there then false else x.aprShut }

/-- The pilot of a stage runs while it is in EMIT, but for an inbound hold (R399, R414). -/
def settlePilot (st : Nat) (s : Hw) : Hw :=
  let o := s.fld (FES_MAP0_bias_out (8 + st))
  if o = 255 then s
  else
    let on := ampEmits s st && bandOn s (st / 2) && !s.flag (BRC_SSTAT_coex_hold st)
    (s.setFld (AOU_DITHER_gen o) (s.fld (BRC_SSEL_pilot_gen st))).setFlag (AOU_OSTAT_dither_on o) on

/-- Causes that follow a condition at once: band off, QUIET, outbound coexistence. -/
def settleCauses (st : Nat) (s : Hw) : Hw :=
  let s := setCause st cBandOff (!bandOn s (st / 2)) s
  let s := setCause st cQuiet (hasBit (s.fld BRC_QUIET_received) (2 * emitGroup s st + st / 2)) s
  s.cond (decide (st ≥ 2)) fun s =>
    setCause st cCoexOut (s.flag BRC_COEX_CFG_out_en && !(s.flag BRC_COEX_STATUS_xreq_out && s.flag BRC_COEX_STATUS_xgnt_in)) s

/-- Since when both stages of a band have stood at entry 0 in EMIT with the prediction above the margin (R403); an inbound hold suspends it,
and a guard that waits for a valid estimate no longer does once it is valid (R414, R415). -/
def settleFloor (b : Nat) (s : Hw) : Hw :=
  let s := s.cond (estValid s b) fun s => s.updBand b fun x => { x with waiting := false }
  if (bandStages b).any fun st => s.flag (BRC_SSTAT_coex_hold st) then s
  else
  let at0 := (bandStages b).all fun st => s.fld (BRC_SSTAT_target st) == 0 && ampEmits s st
  let above := at0 && decide (prediction s b > marginOf s)
  s.updBand b fun x => { x with floorAt := if above then some (x.floorAt.getD s.dtime) else none }

/-! ### Guard (R402 to R406) -/

def noteMute (s : Hw) (b : Nat) : Hw :=
  let l := ((s.band b).mutes.filter fun t => decide (s.dtime < t + 60 * 10 ^ 9)) ++ [s.dtime]
  let stop := decide (l.length ≥ 3)
  let s := s.cond (stop && !(s.band b).stopped) fun s => s.raise 0x0E0D [b, l.length]
  s.updBand b fun x => { x with mutes := l, mutedAt := s.dtime, stopped := x.stopped || stop }

/-- Steps of both stages of a band in one parameter. -/
def stepsParam (s : Hw) (code b : Nat) : Nat :=
  together code [s.fld (FES_STATE_step (8 + 2 * b)), s.fld (FES_STATE_step (9 + 2 * b))]

/-- A guard trip (R404): both stages muted, event 0x0E01, counted. -/
def guardTrip (s : Hw) (b : Nat) : Hw :=
  let s := (s.raise 0x0E01 [b, enc 32 (bandEst s b), stepsParam s 0x0E01 b]).count BRC_TRIPS
  noteMute (s.each (bandStages b) fun st s => settleGate (8 + st) (setCause st cGuard true s)) b

def hasCause (s : Hw) (st c : Nat) : Bool := hasBit (s.fld (BRC_SSTAT_cause st)) c

/-- The powers of a stage from the samples of its detectors, and its estimate and pilot index in EMIT. -/
def measureStage (codes : List (List Nat)) (st : Nat) (s : Hw) : Hw :=
  let inCodes := codes.getD (2 * st) []
  let outCodes := codes.getD (2 * st + 1) []
  let s := (s.setFldS (BRC_PWR_input st) (detectorPower s (2 * st) inCodes)).setFldS (BRC_PWR_output st)
    (detectorPower s (2 * st + 1) outCodes)
  let s := s.cond (s.fldS (BRC_PWR_output st) ≤ s.fldS (BRC_SCFG_limit st)) fun s => s.setFld (BRC_SSTAT_over_limit st) 0
  if !ampEmits s st then s
  else
    let ((e, low, idx), s) := estimate s st inCodes outCodes
    ((s.setFldS (BRC_EST_est st) e).setFlag (BRC_EST_below_floor st) low).setFld (BRC_EST_pilot_idx st) idx

/-- A band whose estimate is above -6 dB trips, unless both its stages are muted by the guard (R404). -/
def tripBand (b : Nat) (s : Hw) : Hw :=
  if decide (bandEst s b > -60) && (bandStages b).any (ampEmits s) && !(bandStages b).all fun st => hasCause s st cGuard
  then guardTrip s b else s

/-- One update: powers, estimates and pilot indices of the stages in EMIT, and the trip of R404. -/
def takeEstimates (codes : List (List Nat)) (s : Hw) : Hw :=
  let s := s.each stages4 (measureStage codes)
  (settleValid { s with brc := { s.brc with estAt := s.dtime } }).each [0, 1] tripBand

/-- Every 10 µs (R400). -/
def pilotEstimateUpdate (codes : List (List Nat)) (s : Hw) : Hw :=
  if !s.ready 15 then s else everyBrc 0 10000 (takeEstimates codes) s

/-- Has the power of a detector risen by more than 3 dB from one code to another? -/
def roseMore (s : Hw) (c a b : Nat) : Bool := decide (lit s c b ^ 10 > 1000 * lit s c a ^ 10)
/-- Has it risen by less than 1 dB? -/
def roseLess (s : Hw) (c a b : Nat) : Bool := decide (lit s c b ^ 10 < 10 * lit s c a ^ 10 ∨ lit s c b = lit s c a)

/-- The change of a detector's power in 0.01 dB; from or to zero power it has no value, and what is reported is free. -/
def riseOf (s : Hw) (c a b : Nat) : Nat × Hw :=
  if lit s c a = 0 ∨ lit s c b = 0 then s.free
  else (enc 32 (bisect 14 (-8192) fun x => logAtLeast 1000 (lit s c b) (lit s c a) x), s)

/-- A detector sample shows runaway on a stage in EMIT (R405): the rises within 5 µs, or the output power. -/
def runawayMute (st outThen outNow : Nat) (inp : Nat × Nat) (s : Hw) : Hw :=
  let hit := roseMore s (2 * st + 1) outThen outNow && roseLess s (2 * st) inp.1 inp.2 ||
    powerGt s (2 * st + 1) outNow (s.fldS (BRC_SCFG_limit st) + 300)
  let b := st / 2
  if s.ready 15 && ampEmits s st && hit && !(bandStages b).all fun x => hasCause s x cRunaway then
    let (x, s) := riseOf s (2 * st + 1) outThen outNow
    let (y, s) := riseOf s (2 * st) inp.1 inp.2
    let s := (s.raise 0x0E02 [st, x % 2 ^ 32, y % 2 ^ 32]).count BRC_RUNAWAY
    noteMute (s.each (bandStages b) fun x s => settleGate (8 + x) (setCause x cRunaway true s)) b
  else s

/-- The dither amplitude of a stage, at most 5 % away from the last (R399): by how much within that is free, and so is a
pilot's first amplitude. -/
def adjustPilot (st : Nat) (s : Hw) : Hw :=
  let o := s.fld (FES_MAP0_bias_out (8 + st))
  if o = 255 ∨ !s.flag (AOU_OSTAT_dither_on o) then s
  else
    let a := s.fld (AOU_DITHER_amp o)
    let idx := s.fld (BRC_EST_pilot_idx st)
    let (f, s) := s.free
    let d := f % (a / 20 + 1)
    let v := if a = 0 then f % 32768 else if idx < 200 then min 32767 (a + d) else if idx > 200 then a - d else a
    s.setFld (AOU_DITHER_amp o) v

/-- Every 1 ms (R399). -/
def pilotAmplitudeAdjust (s : Hw) : Hw := if !s.ready 15 then s else everyBrc 1 (10 ^ 6) (fun s => s.each stages4 adjustPilot) s

/-- May the stage rise (R402)? -/
def mayRise (s : Hw) (st : Nat) : Bool :=
  ampEmits s st && !ampMuted s st && !s.flag (BRC_SSTAT_held_min st) && !s.flag (BRC_SSTAT_coex_hold st) &&
    decide (s.fld (BRC_SSTAT_target st) < min (ampCap s st) (lastStep s (8 + st)))

def riseGain (s : Hw) (st : Nat) : Int :=
  let t := s.fld (BRC_SSTAT_target st)
  stepGain s st t (t + 1)

def riseOne (s : Hw) (st : Nat) : Hw := setTarget s st (s.fld (BRC_SSTAT_target st) + 1)

/-- The stage of a band at the lower step, the first where both are at the same. -/
def lowerOf (s : Hw) (b : Nat) : Nat :=
  if s.fld (BRC_SSTAT_target (2 * b + 1)) < s.fld (BRC_SSTAT_target (2 * b)) then 2 * b + 1 else 2 * b
def higherOf (s : Hw) (b : Nat) : Nat :=
  if s.fld (BRC_SSTAT_target (2 * b)) < s.fld (BRC_SSTAT_target (2 * b + 1)) then 2 * b + 1 else 2 * b

/-- A band with a valid estimate raises its stages whose prediction meets the margin (R402). -/
def raiseBand (b : Nat) (s : Hw) : Hw :=
  let p := prediction s b
  let ok := fun (g : Int) => decide (p + g ≤ marginOf s)
  if !estValid s b then s
  else match (bandStages b).filter (mayRise s) with
    | [x, y] =>
      if ok (riseGain s x + riseGain s y) then riseOne (riseOne s x) y
      else if ok (riseGain s (lowerOf s b)) then riseOne s (lowerOf s b) else s
    | [x] => if ok (riseGain s x) then riseOne s x else s
    | _ => s

/-- Every 1 ms BRC raises the stages whose prediction meets the margin (R402). -/
def guardRaiseTick (s : Hw) : Hw := if !s.ready 15 then s else everyBrc 2 (10 ^ 6) (fun s => s.each [0, 1] raiseBand) s

/-- Does the guard of a band rest: in an inbound hold, and after it until the estimate is valid (R414, R415)? -/
def guardRests (s : Hw) (b : Nat) : Bool :=
  ((bandStages b).any fun st => s.flag (BRC_SSTAT_coex_hold st)) || (s.band b).waiting && !estValid s b

/-- One stage of a band goes down one entry while its prediction is above the margin (R403). -/
def lowerBand (b : Nat) (s : Hw) : Hw :=
  if guardRests s b then s
  else if prediction s b ≤ marginOf s then s.updBand b fun x => { x with lowering := false }
  else
    let st := higherOf s b
    let t := s.fld (BRC_SSTAT_target st)
    if t = 0 then s
    else
      let s := s.cond (!(s.band b).lowering) fun s =>
        (s.raise 0x0E0C [b, enc 32 (bandEst s b), stepsParam s 0x0E0C b]).updBand b fun x => { x with lowering := true }
      setTarget s st (t - 1)

/-- Every 100 µs (R403). -/
def guardLowerTick (s : Hw) : Hw := if !s.ready 15 then s else everyBrc 3 100000 (fun s => s.each [0, 1] lowerBand) s

/-- Both stages at entry 0 with the prediction above the margin for 10 ms: the band is muted as by R404. -/
def guardBandMute (b : Nat) (s : Hw) : Hw :=
  let due := match (s.band b).floorAt with
    | some t => decide (t + 10 ^ 7 ≤ s.dtime)
    | none => false
  if s.ready 15 && due && !guardRests s b &&
      !((bandStages b).all fun st => hasCause s st cGuard) then guardTrip s b
  else s

def clearGuard (st : Nat) (s : Hw) : Hw := setCause st cRunaway false (setCause st cGuard false s)

/-- 1 s after the mute, with auto_retry, unless automatic release has stopped (R406). -/
def autoRetryRelease (b : Nat) (s : Hw) : Hw :=
  if s.ready 15 && decide ((s.band b).mutedAt + 10 ^ 9 ≤ s.dtime) && s.flag BRC_CFG_auto_retry && !(s.band b).stopped then s.each (bandStages b) clearGuard else s

/-! ### Input loss and limits (R407, R408) -/

def timersHeld (s : Hw) (st : Nat) : Bool := s.flag (BRC_SSTAT_coex_hold st)

/-- Is the input below in_los? -/
def inputLow (s : Hw) (st code : Nat) : Bool := !powerGe s (2 * st) code (s.fldS (BRC_SCFG_in_los st))

/-- The input has stayed below in_los for 50 µs. -/
def inputLossHold (st code : Nat) (s : Hw) : Hw :=
  if s.ready 15 && !timersHeld s st && inputLow s st code && !s.flag (BRC_SSTAT_held_min st) then
    ((s.setFld (BRC_SSTAT_held_min st) 1).updAmp st fun x => { x with lossAt := s.dtime }).raise 0x0E03
      [st, enc 32 (samplePower s (2 * st) code)]
  else s

/-- 5 ms after the input fell below in_los; the stage was held at 50 µs or later. -/
def inputLossMute (st code : Nat) (s : Hw) : Hw :=
  if s.ready 15 && !timersHeld s st && inputLow s st code && s.flag (BRC_SSTAT_held_min st) &&
      !s.flag (BRC_SSTAT_input_lost st) && decide ((s.amp st).lossAt + 4950000 ≤ s.dtime) then
    let s := (s.setFld (BRC_SSTAT_input_lost st) 1).raise 0x0E04 [st]
    settleGate (8 + st) (setCause st cInput true s)
  else s

/-- The input has stayed at or above in_los + 1 dB for 1 ms. -/
def inputRestored (st code : Nat) (s : Hw) : Hw :=
  if s.ready 15 && !timersHeld s st && powerGe s (2 * st) code (s.fldS (BRC_SCFG_in_los st) + 100) then
    setCause st cInput false ((s.setFld (BRC_SSTAT_held_min st) 0).setFld (BRC_SSTAT_input_lost st) 0)
  else s

/-- Every 100 µs while the output has exceeded the limit for 10 µs or more. -/
def limitCeilingFall (st code : Nat) (s : Hw) : Hw :=
  if s.ready 15 && powerGt s (2 * st + 1) code (s.fldS (BRC_SCFG_limit st)) then everyBrc (4 + st) 100000 (fun s =>
    let s := s.cond (!s.flag (BRC_SSTAT_over_limit st)) fun s =>
      (((s.setFld (BRC_SSTAT_over_limit st) 1).setFld (BRC_SLATCH_over_limit st) 1)).raise 0x0E05
        [st, enc 32 (samplePower s (2 * st + 1) code), s.fld (BRC_SSTAT_limit_ceil st)]
    s.setFld (BRC_SSTAT_limit_ceil st) (s.fld (BRC_SSTAT_limit_ceil st) - 1)) s
  else s

/-- Every 1 ms, where the output power and the step's change in gain stay at or below the limit less 0.5 dB. -/
def limitCeilingRise (st code : Nat) (s : Hw) : Hw :=
  if !s.ready 15 then s
  else everyBrc (8 + st) (10 ^ 6) (fun s =>
    let c := s.fld (BRC_SSTAT_limit_ceil st)
    let s := s.cond (!powerGt s (2 * st + 1) code (s.fldS (BRC_SCFG_limit st))) fun s => s.setFld (BRC_SSTAT_over_limit st) 0
    if c < 31 ∧ powerGt s (2 * st + 1) code (s.fldS (BRC_SCFG_limit st) - 50 - stepGain s st c (c + 1)) = false then
      s.setFld (BRC_SSTAT_limit_ceil st) (c + 1)
    else s) s

/-! ### Automatic power reduction (R409, R410) -/

def aprFld (g : Nat) : Fld := if g = 0 then BRC_APR_red_a else BRC_APR_red_b

/-- The highest valid entry of a declared table whose expected output is at or below the level. -/
def aprStep (s : Hw) (u : Nat) : Option Nat :=
  if !tableOk s u then none
  else (List.range (lastStep s u + 1)).foldl (fun r e =>
    if stepValid s u e && decide (stepExpected s u e ≤ s.fldS BRC_APR_level) then some e else r) none

def emitters (s : Hw) (g : Nat) : List Nat := stages4.filter fun st => emitGroup s st == g

/-- The condition of R409 holds for the fibre of group `g`. -/
def aprCondition (s : Hw) (g : Nat) : Bool :=
  s.flag BRC_CFG_apr_en && (groupLanes g).all (fun n => s.flag (LRX_STATUS_los n)) &&
    stages4.all fun st => !(bandOn s (st / 2) && inputGroup s st == g) || s.flag (BRC_SSTAT_held_min st)

/-- The condition has held for 100 µs without a break. -/
def aprDue (s : Hw) (g : Nat) : Bool :=
  aprCondition s g && (match Map.get none s.brc.condAt g with
    | some t => decide (t + 100000 ≤ s.dtime)
    | none => false)

def aprStart (g : Nat) (s : Hw) : Hw :=
  if !s.ready 15 || s.flag (aprFld g) || !aprDue s g then s
  else
    let gated := sumN ((groupLanes g).map fun u => 2 ^ u) + sumN ((emitters s g).map fun st => 2 ^ (8 + st))
    let s := ((s.setFld (aprFld g) 1).count BRC_APR_N).raise 0x0E06 [g, gated, enc 32 (s.fldS BRC_APR_level)]
    let s := { s with brc := { s.brc with aprAt := Map.put 0 s.brc.aprAt g s.dtime,
                                          enterP2 := Map.put false s.brc.enterP2 g false } }
    let s := s.each (groupLanes g) fun u s =>
      settleGate u (s.updFes u fun x => { x with apr := some (aprStep s u), aprShut := true })
    s.each (emitters s g) fun st s =>
      let s := (s.updAmp st fun x => { x with apr := aprStep s (8 + st) }).setFld (BRC_SSTAT_apr st) 1
      settleGate (8 + st) (setCause st cApr true s)

/-- Is the group in C2, or on its way there with no mode agreed yet? -/
def inC2 (s : Hw) (g : Nat) : Bool := s.mode g == 2 || s.mode g == 3 && s.fld (LFM_CFG_mode_pref g) == 2

/-- The group has entered P2 since the reduction began, or in C2 a lane has shown los 0 for 10 ms (R410). -/
def aprEnd (g : Nat) (s : Hw) : Hw :=
  let isOver := if inC2 s g then
      (groupLanes g).any fun n => !s.flag (LRX_STATUS_los n) && decide ((s.lane n).sigAt + 10 ^ 7 ≤ s.dtime)
    else Map.get false s.brc.enterP2 g
  if !s.ready 15 || !s.flag (aprFld g) || !isOver then s
  else
    let s := (s.setFld (aprFld g) 0).raise 0x0E07 [g, (s.dtime - Map.get 0 s.brc.aprAt g) / 10 ^ 6]
    let s := { s with brc := { s.brc with ending := Map.put false s.brc.ending g true } }
    let s := s.each (groupLanes g) fun u s => s.updFes u fun x => { x with apr := none, aprShut := false }
    s.each (emitters s g) fun st s =>
      setCause st cApr false ((s.updAmp st fun x => { x with apr := none }).setFld (BRC_SSTAT_apr st) 0)

/-- Of a group's fibre (R409, R410, R414): since when the condition of power reduction holds, an entry to P2 since a reduction began, and
the end of a reduction until its transmitters are back at their targets. -/
def settleFibre (g : Nat) (s : Hw) : Hw :=
  let at0 := if aprCondition s g then some ((Map.get none s.brc.condAt g).getD s.dtime) else none
  let enters := Map.get false s.brc.enterP2 g || s.stage g == 2 && Map.get 0 s.brc.stages g != 2
  let goes := Map.get false s.brc.ending g &&
    (groupLanes g).any fun u => decide (s.fstate u ≥ 2) && s.fld (FES_STATE_step u) != stepTarget s u
  { s with brc := { s.brc with condAt := Map.put none s.brc.condAt g at0,
                               enterP2 := Map.put false s.brc.enterP2 g enters,
                               stages := Map.put 0 s.brc.stages g (s.stage g),
                               ending := Map.put false s.brc.ending g goes } }

/-- Everything in BRC that follows at once from the state. -/
def settleBrc (s : Hw) : Hw :=
  if !s.ready 15 then s
  else
    let s := s.each stages4 fun st s => settlePilot st (settleShut st (settleTarget st (settleCauses st s)))
    let s := s.each stages4 fun st s =>
      s.setFlag (BRC_SSTAT_rising st) (decide (s.fld (BRC_SSTAT_target st) > s.fld (FES_STATE_step (8 + st))))
    let s := s.setFlag BRC_COEX_STATUS_out_granted (s.flag BRC_COEX_STATUS_xreq_out && s.flag BRC_COEX_STATUS_xgnt_in)
    let s := s.cond (s.flag BRC_COEX_STATUS_in_stuck && !s.brc.xreqPin && decide (s.brc.xlowAt + 10 ^ 6 ≤ s.dtime)) fun s =>
      s.setFld BRC_COEX_STATUS_in_stuck 0
    settleValid ((s.each [0, 1] settleFibre).each [0, 1] settleFloor)

/-! ### QUIET (R411, R412) -/

/-- The register bits 2g + b of the bands in a mask on a group. -/
def quietBits (g bands : Nat) : List Nat := ([0, 1].filter (hasBit bands)).map (2 * g + ·)

/-- A QUIET OAM cell on group `g`. -/
def quietReceived (g bands : Nat) (release : Bool) (s : Hw) : Hw :=
  if !s.ready 15 || !s.native g then s
  else
    let old := s.fld BRC_QUIET_received
    let m := bands % 4 * 4 ^ g
    if release then
      let hit := (old &&& m) / 4 ^ g
      let s := s.setFld BRC_QUIET_received (old - (old &&& m))
      s.cond (decide (hit ≠ 0)) fun s => s.raise 0x0E08 [g, hit, 1]
    else
      let new := (m - (old &&& m)) / 4 ^ g
      let s := s.each (quietBits g bands) fun k s => { s with brc := { s.brc with quietAt := Map.put 0 s.brc.quietAt k s.dtime } }
      let s := (s.setFld BRC_QUIET_received (old ||| m)).count BRC_QUIET_N
      let s := s.cond (decide (new ≠ 0)) fun s => s.raise 0x0E08 [g, new, 0]
      (s.each stages4 settleCauses).each stages4 fun st s => settleGate (8 + st) s

/-- 10 ms without a QUIET mute for a band on a group. -/
def quietSilenceEnd (g b : Nat) (s : Hw) : Hw :=
  if s.ready 15 && hasBit (s.fld BRC_QUIET_received) (2 * g + b) &&
      decide (Map.get 0 s.brc.quietAt (2 * g + b) + 10 ^ 7 ≤ s.dtime) then
    (s.setFld BRC_QUIET_received (setBit (s.fld BRC_QUIET_received) (2 * g + b) false)).raise 0x0E08 [g, 2 ^ b, 2]
  else s

/-- How many releases of a group's band are still to be sent. -/
def setRelease (k n : Nat) (s : Hw) : Hw := { s with brc := { s.brc with release := Map.put 0 s.brc.release k n } }

def quietBody (bands action : Nat) : Bytes := toBE 1 bands ++ toBE 1 action

/-- A QUIET mute that stands, or the second and third release. -/
def quietCells (g : Nat) (s : Hw) : Hw :=
    let m := s.fld BRC_QUIET_sending / 4 ^ g % 4
    let s := s.cond (decide (m ≠ 0)) fun s => sendOam s g 0x0004 (quietBody m 0)
    let l := (quietBits g 3).filter fun k => decide (Map.get 0 s.brc.release k ≠ 0)
    if l.isEmpty then s
    else
      let s := sendOam s g 0x0004 (quietBody (sumN (l.map (2 ^ ·)) / 4 ^ g) 1)
      s.each l fun k s => setRelease k (Map.get 0 s.brc.release k - 1) s

/-- Every 1 ms (R412), from the first cell on. -/
def quietResend (g : Nat) (s : Hw) : Hw := if !s.ready 15 then s else everyBrc (12 + g) (10 ^ 6) (quietCells g) s

/-- A first cell of BRC_QUIET_SEND starts the 1 ms anew. -/
def quietFrom (g : Nat) (s : Hw) : Hw := { s with brc := { s.brc with acts := Map.put none s.brc.acts (12 + g) (some s.dtime) } }

/-! ### Coexistence (R413 to R417) -/

/-- The entry at which a stage's step stands, or that it approaches (R385). -/
def heldStep (s : Hw) (st : Nat) : Nat :=
  match (s.fesu (8 + st)).ramp with
  | some (b, _) => b
  | none => s.fld (FES_STATE_step (8 + st))

/-- Stages 2 and 3 enter the inbound mode: muted, or with their steps frozen. -/
def enterMode (s : Hw) : Hw :=
  let s : Hw := { s with brc := { s.brc with holdAt := s.dtime } }
  s.each [2, 3] fun st s =>
    if s.flag BRC_COEX_CFG_mode then ((setTarget s st (heldStep s st)).setFld (BRC_SSTAT_coex_hold st) 1).setFld (BRC_SLATCH_coex st) 1
    else settleGate (8 + st) (setCause st cCoexIn true s)

/-- The timers of R403 and R407 go on where an inbound hold suspended them, and the guard waits for a valid estimate (R414, R415). -/
def resumeTimers (s : Hw) : Hw :=
  let d := s.dtime - s.brc.holdAt
  let s := s.each [2, 3] fun st s => s.updAmp st fun x => { x with lossAt := x.lossAt + d }
  s.updBand 1 fun x => { x with floorAt := x.floorAt.map (· + d), waiting := true }

def leaveMode (s : Hw) : Hw :=
  let s := s.cond (s.flag (BRC_SSTAT_coex_hold 2)) resumeTimers
  let s := (s.setFld BRC_COEX_STATUS_xgnt_out 0).setFld BRC_COEX_STATUS_in_granted 0
  (s.setFld BRC_COEX_STATUS_deferring 0).each [2, 3] fun st s =>
    setCause st cCoexIn false (s.setFld (BRC_SSTAT_coex_hold st) 0)

/-- Is a reduction of the fibre of group `g` starting: a unit with an APR step is still gated, on its way to that step (R409)? -/
def aprStarting (s : Hw) (g : Nat) : Bool :=
  s.flag (aprFld g) &&
    ((emitters s g).any (fun st => hasCause s st cApr && (s.amp st).apr.isSome && ampEmits s st) ||
      (groupLanes g).any fun u => (s.fesu u).aprShut && decide (s.fstate u ≥ 2) && (match (s.fesu u).apr with
        | some (some _) => true
        | _ => false))

/-- A protection event is in progress (R414): power reduction starting or ending (DEDUCED: log entry 124), a trip or runaway mute of T2, a
reroute within the preceding 1 ms. -/
def protection (s : Hw) : Bool :=
  [0, 1].any (fun g => aprStarting s g || Map.get false s.brc.ending g) ||
    [2, 3].any (fun st => hasCause s st cGuard || hasCause s st cRunaway) ||
    (match s.brc.rerouteAt with
     | some t => decide (s.dtime < t + 10 ^ 6)
     | none => false)

/-- Does the mode of an inbound request stand? -/
def inbound (s : Hw) : Bool :=
  s.flag (BRC_SSTAT_coex_hold 2) || hasCause s 2 cCoexIn

/-- The accepted high on XREQ_IN acts (R414). -/
def takeRequest (s : Hw) : Hw :=
  let s := s.setFld BRC_COEX_STATUS_xreq_in 1
  if s.flag BRC_COEX_CFG_in_en && !s.flag BRC_COEX_STATUS_in_stuck then
    let s := enterMode { s with brc := { s.brc with xreqAt := s.dtime } }
    s.setFlag BRC_COEX_STATUS_deferring (protection s)
  else s

/-- XREQ_IN is accepted high; a stuck request is over where the wire has been low for 1 ms (R415). -/
def xreqInHigh (s : Hw) : Hw :=
  let s := s.cond (!s.brc.xreqPin && decide (s.brc.xlowAt + 10 ^ 6 ≤ s.dtime)) fun s => s.setFld BRC_COEX_STATUS_in_stuck 0
  let s := { s with brc := { s.brc with xreqPin := true } }
  if s.ready 15 then takeRequest s else s

/-- XGNT_OUT rises, after a protection event in progress, and 2 ms after the acceptance at the latest. -/
def inboundGrant (s : Hw) : Hw :=
  if !s.ready 15 || !s.flag BRC_COEX_STATUS_xreq_in || !s.flag BRC_COEX_CFG_in_en || s.flag BRC_COEX_STATUS_in_granted ||
      s.flag BRC_COEX_STATUS_in_stuck || !inbound s then s
  else if protection s && decide (s.dtime < s.brc.xreqAt + 2 * 10 ^ 6) then s.setFld BRC_COEX_STATUS_deferring 1
  else
    let d := s.fld BRC_COEX_STATUS_deferring
    let s := ((s.setFld BRC_COEX_STATUS_xgnt_out 1).setFld BRC_COEX_STATUS_in_granted 1).setFld BRC_COEX_STATUS_deferring 0
    (s.count BRC_GRANTS).raise 0x0E09 [(s.dtime - s.brc.xreqAt) / 1000, d, s.fld BRC_COEX_CFG_mode]

def xreqInLow (s : Hw) : Hw :=
  let s := { s with brc := { s.brc with xreqPin := false, xlowAt := s.dtime } }
  if s.ready 15 then leaveMode (s.setFld BRC_COEX_STATUS_xreq_in 0) else s

/-- A request held for req_max ends as stuck (R415). -/
def inboundRequestStuck (s : Hw) : Hw :=
  if s.ready 15 && s.flag BRC_COEX_STATUS_xreq_in && s.flag BRC_COEX_CFG_in_en && !s.flag BRC_COEX_STATUS_in_stuck &&
      decide (s.brc.xreqAt + s.fld BRC_COEX_CFG_req_max * 10 ^ 9 ≤ s.dtime) then
    let s := ((leaveMode s).setFld BRC_COEX_STATUS_in_stuck 1).count BRC_STUCK
    s.raise 0x0E0A [(s.dtime - s.brc.xreqAt) / 10 ^ 9]
  else s

def isCoex (r : RunCmd) : Bool := r.wait == .coex

def xgntInHigh (s : Hw) : Hw :=
  let s := { s with brc := { s.brc with xgntPin := true } }
  if !s.ready 15 then s
  else
    let s := s.setFld BRC_COEX_STATUS_xgnt_in 1
    s.cond (s.flag BRC_COEX_STATUS_xreq_out && s.flag BRC_COEX_CFG_out_en) fun s => setOutcome s isCoex stOK 0

def xgntInLow (s : Hw) : Hw :=
  let s := { s with brc := { s.brc with xgntPin := false } }
  if !s.ready 15 then s
  else
    let s := s.setFld BRC_COEX_STATUS_xgnt_in 0
    (s.each [2, 3] settleCauses).each [2, 3] fun st s => settleGate (8 + st) s

def outboundGrantTimeout (s : Hw) : Hw :=
  if s.ready 15 && !(s.flag BRC_COEX_STATUS_xreq_out && s.flag BRC_COEX_STATUS_xgnt_in) && waiting s isCoex &&
      decide (s.brc.xoutAt + s.fld BRC_COEX_CFG_grant_timeout * 10 ^ 6 ≤ s.dtime) then
    let s := (s.setFld BRC_COEX_STATUS_xreq_out 0).raise 0x0E0B [s.fld BRC_COEX_CFG_grant_timeout]
    setOutcome s isCoex stREFUSED 0x0E02
  else s

/-! ### Commands (Table 12-4) -/

def brcDoms : Hw → Bytes → List Nat := fun _ _ => [15]

/-- BRC_COEX_REQ is concurrent with every other BRC command, and it alone waits (R419): a second one is not concurrent with it. -/
def brcConc (opc : Nat) : Hw → Bytes → RunCmd → Bool := fun _ _ r => (opc == 0x0E07) != (r.opcode == 0x0E07)

def applyBrcConfig (p : Bytes) (s : Hw) : Hw :=
  let f := u8 p 4
  let s := (s.setFldS BRC_CFG_margin (s16 p 0)).setFld BRC_CFG_window (u16 p 2)
  let s := ((s.setFld BRC_CFG_t1_en (bit f 0)).setFld BRC_CFG_t2_en (bit f 1)).setFld BRC_CFG_east_grp (bit f 2)
  let s := ((s.setFld BRC_CFG_auto_retry (bit f 3)).setFld BRC_CFG_apr_en (bit f 4)).setFldS BRC_APR_level (s16 p 5)
  let s := (s.setFld (BRC_PILOT_lo 0) (u16 p 7)).setFld (BRC_PILOT_hi 0) (u16 p 9)
  (s.setFld (BRC_PILOT_lo 1) (u16 p 11)).setFld (BRC_PILOT_hi 1) (u16 p 13)

/-- Is the stage muted or not in EMIT? -/
def quietStage (s : Hw) (st : Nat) : Bool := ampMuted s st || !ampEmits s st

def opBrcConfig : OpSpec :=
  { OpSpec.fix headBrcConfig [.srng 2 (-250) (-70), .rng 2 100 2000, .msk 1 31, .srng 2 (-2000) 2000, .rng 2 1000 20000,
      .rng 2 1000 20000, .rng 2 1000 20000, .rng 2 1000 20000] fun s c =>
      let east := bit (u8 c.p 4) 2 != s.fld BRC_CFG_east_grp
      let freq := [0, 1, 2, 3].any fun g => genNamed s g && u16 c.p (7 + 2 * g) != pilotFreq s g
      if (east || freq) && !stages4.all (quietStage s) then .refuse stCONDITIONS 1 s else .ok (applyBrcConfig c.p s) with
    doms := brcDoms
    conc := brcConc 0x0E01
    objs := fun _ => [0] }

def applyBrcStage (p : Bytes) (s : Hw) : Hw :=
  let st := u8 p 0
  let s := (s.setFldS (BRC_SCFG_limit st) (s16 p 1)).setFldS (BRC_SCFG_in_los st) (s16 p 3)
  (s.setFld (BRC_SSEL_pilot_gen st) (u8 p 5)).setFld (BRC_SSEL_cle_src st) (bit (u8 p 6) 0)

def opBrcStageConfig : OpSpec :=
  { OpSpec.fix headBrcStageConfig [.rng 1 0 3, .srng 2 (-2000) 2500, .srng 2 (-5000) 0, .rng 1 0 3, .msk 1 1] fun s c =>
      let st := u8 c.p 0
      if u8 c.p 5 = s.fld (BRC_SSEL_pilot_gen (partner st)) then .refuse stCONDITIONS 1 s
      else if u8 c.p 5 ≠ s.fld (BRC_SSEL_pilot_gen st) ∧ !quietStage s st then .refuse stCONDITIONS 2 s
      else .ok (applyBrcStage c.p s) with
    doms := brcDoms
    conc := brcConc 0x0E02
    objs := fun p => [u8 p 0] }

def applyBrcCal (p : Bytes) (s : Hw) : Hw :=
  (s.setFldS (BRC_CAL_k (u8 p 0)) (s16 p 1)).setFld (BRC_CAL_dark (u8 p 0)) (u16 p 3)

def opBrcCalSet : OpSpec :=
  { OpSpec.fix headBrcCalSet [.rng 1 0 7, .srng 2 (-4000) 2500, .rng 2 0 4095] fun s c => .ok (applyBrcCal c.p s) with
    doms := brcDoms
    conc := brcConc 0x0E03
    objs := fun p => [u8 p 0] }

/-- The causes guard_trip and runaway of the named stages clear, with the count of R406; one byte of causes cleared per
stage. -/
def opBrcUnmute : OpSpec :=
  { OpSpec.fix headBrcUnmute [.rng 1 1 15] fun s c =>
      let sts := bitsOf 4 (u8 c.p 0)
      let out := stages4.flatMap fun st => toBE 1 (if sts.contains st then s.fld (BRC_SSTAT_cause st) / 64 * 64 else 0)
      let s := s.each sts fun st s =>
        (clearGuard st s).updBand (st / 2) fun x => { x with mutes := [], stopped := false }
      .ok s out with
    doms := brcDoms
    conc := brcConc 0x0E04 }

def opBrcQuietSend : OpSpec :=
  { OpSpec.fix headBrcQuietSend [.rng 1 0 1, .rng 1 1 3, .rng 1 0 1] fun s c =>
      let g := u8 c.p 0
      let m := u8 c.p 1
      let old := s.fld BRC_QUIET_sending
      if s.stage g ≠ 5 ∨ !s.native g then .refuse stCONDITIONS 1 s
      else if !hasBit (s.fld (LNK_PEER_INFO_features g)) 1 then .refuse stCONDITIONS 2 s
      else if u8 c.p 2 = 0 then
        let s := s.setFld BRC_QUIET_sending (old ||| m * 4 ^ g)
        let s := s.each (quietBits g m) fun k s => setRelease k 0 s
        .ok (quietFrom g (sendOam s g 0x0004 (quietBody (s.fld BRC_QUIET_sending / 4 ^ g % 4) 0)))
      else
        let s := s.setFld BRC_QUIET_sending (old - (old &&& m * 4 ^ g))
        let s := s.each (quietBits g m) fun k s => setRelease k 2 s
        .ok (quietFrom g (sendOam s g 0x0004 (quietBody m 1))) with
    doms := brcDoms
    conc := brcConc 0x0E05 }

/-- With in_en 0 XREQ_IN is ignored and XGNT_OUT stays low. -/
def applyBrcCoex (p : Bytes) (s : Hw) : Hw :=
  let f := u8 p 0
  let s := ((s.setFld BRC_COEX_CFG_in_en (bit f 0)).setFld BRC_COEX_CFG_mode (bit f 1)).setFld BRC_COEX_CFG_out_en (bit f 2)
  let s := (s.setFld BRC_COEX_CFG_req_max (u16 p 1)).setFld BRC_COEX_CFG_grant_timeout (u8 p 3)
  if hasBit f 0 then s else leaveMode s

def opBrcCoexConfig : OpSpec :=
  { OpSpec.fix headBrcCoexConfig [.msk 1 7, .rng 2 1 3600, .rng 1 1 100] fun s c =>
      let f := u8 c.p 0
      let change := bit f 1 != s.fld BRC_COEX_CFG_mode || bit f 2 != s.fld BRC_COEX_CFG_out_en
      if change && (s.flag BRC_COEX_STATUS_in_granted || s.flag BRC_COEX_STATUS_out_granted) then .refuse stCONDITIONS 1 s
      else .ok (applyBrcCoex c.p s) with
    doms := brcDoms
    conc := brcConc 0x0E06
    objs := fun _ => [0] }

def opBrcCoexReq : OpSpec :=
  { OpSpec.fix headBrcCoexReq [.rng 1 0 1] fun s c =>
      if !s.flag BRC_COEX_CFG_out_en then .refuse stCONDITIONS 1 s
      else if u8 c.p 0 = 0 then
        let s := s.setFld BRC_COEX_STATUS_xreq_out 0
        .ok ((s.each [2, 3] settleCauses).each [2, 3] fun st s => settleGate (8 + st) s)
      else
        let s := s.setFld BRC_COEX_STATUS_xreq_out 1
        let s := { s with brc := { s.brc with xoutAt := s.dtime } }
        if s.flag BRC_COEX_STATUS_xgnt_in then .ok s else .wait .coex s with
    doms := brcDoms
    conc := brcConc 0x0E07 }

def brcCounters : List Nat := [BRC_TRIPS, BRC_RUNAWAY, BRC_APR_N, BRC_QUIET_N, BRC_GRANTS, BRC_STUCK]

/-- The control-unit and coexistence registers in address order. -/
def brcRegs : List Nat :=
  [BRC_COEX_CFG, BRC_COEX_STATUS, BRC_CFG, BRC_APR, BRC_PILOT 0, BRC_PILOT 1, BRC_QUIET] ++ brcCounters

def opBrcStatusRead : OpSpec :=
  { OpSpec.fix headBrcStatusRead [.rng 1 1 15, .msk 1 1] fun s c =>
      let sts := (bitsOf 4 (u8 c.p 0)).flatMap fun st => [BRC_SSTAT st, BRC_EST st, BRC_PWR st, BRC_SLATCH st]
      .ok (s.cond (hasBit (u8 c.p 1) 0) fun s => s.zeroRegs brcCounters) (s.wordsAt (brcRegs ++ sts) ++ s.dtimeBytes) with
    doms := brcDoms }

/-- The settings take their stored values, or those of a cold start where none are stored (R422). -/
def restoreBrc (s : Hw) : Hw :=
  let put := fun (n : Nat) (l : List Nat) (f : Bytes → Hw → Hw) (s : Hw) =>
    match adoptedBody s n with
    | some p => f p (s.coldRegs l)
    | none => s.coldRegs l
  let s := put 0x0E010000 [BRC_CFG, BRC_APR, BRC_PILOT 0, BRC_PILOT 1] applyBrcConfig s
  let s := s.each stages4 fun st s => put (0x0E020000 + st) [BRC_SCFG st, BRC_SSEL st] applyBrcStage s
  let s := s.each (List.range 8) fun c s => put (0x0E030000 + c) [BRC_CAL c] applyBrcCal s
  put 0x0E060000 [BRC_COEX_CFG] applyBrcCoex s

/-- D15 powers up (R422): band_off mutes, no pilot, no estimate, no power reduction, no QUIET; a request already high on
XREQ_IN is accepted now (R413). -/
def brcPowerUp (s : Hw) : Hw :=
  let s := s.each stages4 fun st s =>
    (s.coldRegs [BRC_SSTAT st, BRC_EST st, BRC_PWR st, BRC_SLATCH st]).setFld (FES_STATE_muted (8 + st)) 1
  let s := s.coldRegs ([BRC_COEX_STATUS, BRC_QUIET] ++ brcCounters)
  let s := restoreBrc s
  let s := { s with brc := { xreqPin := s.brc.xreqPin, xgntPin := s.brc.xgntPin, rerouteAt := s.brc.rerouteAt, stages := s.brc.stages } }
  let s := s.setFlag BRC_COEX_STATUS_xgnt_in s.brc.xgntPin
  if s.brc.xreqPin then takeRequest s else s

/-- D15 is lost: every stage's word and the coexistence status return to their start. -/
def brcDown (s : Hw) : Hw :=
  let s := s.each stages4 fun st s => s.coldRegs [BRC_SSTAT st, BRC_EST st, BRC_PWR st]
  s.coldRegs [BRC_COEX_STATUS, BRC_QUIET]

end Sys2Proof.Machine
end

