-- ==== Sys2Proof/Machine/Link.lean ====
section
/-!
DEFINITION. Parison (06): sprout detection, training, the exchange, C2, wake from the line, retraining in service, and the
LNK commands.
-/
namespace Sys2Proof.Machine
open Reg

/-! ### Sprout frames (R213 to R218) -/

/-- A sprout frame's 96 data bits (Table 06-3). -/
def sproutBits (s : Hw) (g p seen : Nat) : Nat :=
  let pref := s.fld (LFM_CFG_mode_pref g)
  let h := 1 * 2 ^ 72 + s.num LNK_TAG * 2 ^ 40 + g * 2 ^ 39 + s.fld (LNK_CFG_wake_tx g) * 2 ^ 38 + seen * 2 ^ 37 +
    (pref % 2) * 2 ^ 36 + 3 * 2 ^ 34 + p * 2 ^ 32
  h * 65536 + crcMsb 16 0x1021 0xFFFF (toBE 10 h)

/-- Is the group in P1 of a native bring-up and free to send? -/
def inP1 (s : Hw) (g : Nat) : Bool :=
  s.stage g == 1 && !s.flag (LNK_STATUS_backoff g) && !(s.grp g).relock && s.fld (LFM_CFG_mode_pref g) != 2 && s.ready (12 + g)

/-- What a lane sends in P1 (R215, R216): 1 sprout in a burst, 2 sprout with peer_seen, without a break, once the peer has been
detected; 0 nothing, as in backoff (R210) and until its transmitter is in EMIT. -/
def sproutKind (s : Hw) (n : Nat) : Nat :=
  let g := laneGroup n
  if !s.ready n || !inP1 s g || !canEmit s n then 0
  else if (s.grp g).seenAt.isSome then 2 else if (s.grp g).bursting then 1 else 0

/-- What LNK does with a lane's transmitter (R131, R133, R215): it owns the taps in P2 of a native mode; in P1 it drives the sprout
pattern, whose first frame of a kind goes out when the lane begins it. -/
def settleTx (n : Nat) (s : Hw) : Hw :=
  let g := laneGroup n
  let p := n % 4
  let k := sproutKind s n
  let s := s.setFlag (LTX_STATUS_training n) (s.ready n && s.stage g == 2 && decide (s.mode g < 2))
  let s := s.setFlag (LTX_STATUS_sprout n) (k != 0)
  if (Map.get (0, 0) (s.grp g).txSprout p).1 = k then s
  else
    let s := s.updGrp g fun x => { x with txSprout := Map.put (0, 0) x.txSprout p (if k = 0 then (0, 0) else (k, s.dtime)) }
    s.cond (k != 0) fun s => s.emit (.sprout g p (sproutCodes (toBE 12 (sproutBits s g p (k - 1)))))

/-- The agreed mode (R217). -/
def agreedMode (own peer modes : Nat) : Option Nat :=
  if own = 0 ∧ peer = 0 ∧ hasBit modes 0 then some 0 else if hasBit modes 1 then some 1 else none

/-- Each lane that can reach EMIT has sent 8 frames with peer_seen, of 20.8896 µs each, and there is one (R215, R216). -/
def framesSent (s : Hw) (g : Nat) : Bool :=
  let ls := (partLanes s g).filter fun p => s.ready (4 * g + p) && mayEmit s (4 * g + p)
  !ls.isEmpty && ls.all fun p =>
    let (k, t) := Map.get (0, 0) (s.grp g).txSprout p
    k == 2 && decide (8 * 208896 ≤ (s.dtime - t) * 10)

/-- P1 is left once a frame with peer_seen has arrived and the lanes have sent theirs; the mode is agreed, and the PLLs relock (R217 to
R219). Without a common mode the lanes return to bursts until the next one. -/
def tryP1Exit (g : Nat) (s : Hw) : Hw :=
  let x := s.grp g
  if !(x.seenAt.isSome && inP1 s g && x.peerSeen && framesSent s g) then s
  else
    let (_, pref, modes) := x.offer
    match agreedMode (s.fld (LFM_CFG_mode_pref g)) pref modes with
    | none =>
      let s := (s.setFld (LNK_STATUS_peer_seen g) 0).raise 0x0604 [g, 3, modes]
      s.updGrp g fun x => { x with seenAt := none, peerSeen := false, sprout := [], bursting := false, noMode := true }
    | some m =>
      if (partLanes s g).length < s.fld (LNK_CFG_min_lanes g) then failGroup s g 2
      else
        let s := (s.setFld (LNK_STATUS_mode g) m).setFld (LFM_STATUS_mode g) m
        let s := s.each (groupLanes g) fun n s => s.setFld (LTX_STATUS_pll_lock n) 0
        s.updGrp g fun x => { x with relock := true, bursting := false }

/-- A burst begins, every 2 s (R215). -/
def burstStart (g : Nat) (s : Hw) : Hw :=
  let x := s.grp g
  if inP1 s g && x.seenAt.isNone && decide (x.burstAt ≤ s.dtime) then
    s.updGrp g fun x => { x with bursting := true, burstAt := s.dtime + 2000000000, noMode := false }
  else s

/-- A burst ends after 10 ms; the transmitter returns to LIT unless the peer has been detected. -/
def burstEnd (g : Nat) (s : Hw) : Hw :=
  if (s.grp g).burstAt ≤ s.dtime + 1990000000 then s.updGrp g fun x => { x with bursting := false } else s

/-- The peer is detected (R215), event 0x0603; another peer than the last sets tag_changed. -/
def detectPeer (s : Hw) (g tag pref modes fgrp : Nat) : Hw :=
  let old := s.num (LNK_PEER g)
  let s := s.cond (old != 0 && old != tag) fun s => (s.setFld (LNK_LATCH_tag_changed g) 1).raise 0x0609 [g, old, tag]
  let s := (s.setNum (LNK_PEER g) tag).setFld (LNK_STATUS_peer_seen g) 1
  let s := ((s.setFld (LNK_PEER_INFO_mode_pref g) pref).setFld (LNK_PEER_INFO_modes g) modes).setFld (LNK_PEER_INFO_group g) fgrp
  let s := s.updGrp g fun x => { x with seenAt := some s.dtime, offer := (tag, pref, modes) }
  s.raise 0x0603 [g, tag, together 0x0603 [pref, modes]]

/-- A frame from the line is a valid sprout frame (R214). -/
def sproutValid (clean : Bool) (bits : Nat) : Bool :=
  clean && decide (bits < 2 ^ 96) && bits / 2 ^ 88 == 1 && bits % 65536 == crcMsb 16 0x1021 0xFFFF (toBE 10 (bits / 65536))

/-- A sprout frame on lane `n`: `clean` says that its sync and Manchester coding are good. -/
def sproutFrame (n : Nat) (clean : Bool) (bits : Nat) (s : Hw) : Hw :=
  let g := laneGroup n
  let p := n % 4
  if s.stage g = 0 ∨ !s.ready (12 + g) ∨ s.fld (LFM_CFG_mode_pref g) = 2 then s
  else if !sproutValid clean bits then
    (s.count (LNK_SPROUT_ERR g)).updGrp g fun x => { x with sprout := Map.put (0, 0, 0) x.sprout p (0, 0, 0) }
  else
    let tag := bits / 2 ^ 56 % 2 ^ 32
    let (t, k, all) := Map.get (0, 0, 0) (s.grp g).sprout p
    let run := if t = tag then k + 1 else 1
    let s := s.updGrp g fun x => { x with sprout := Map.put (0, 0, 0) x.sprout p (tag, run, all + 1) }
    if s.stage g ≥ 2 then
      if all < 1 then s else if s.stage g = 5 then loseGroup s g 4 else failGroup s g 11
    else if (s.grp g).relock || (s.grp g).noMode then s
    else
      let pos := bits / 2 ^ 48 % 4
      let s := s.cond (pos != p && !hasBit (s.grp g).crossed p) fun s =>
        let c := setBit (s.grp g).crossed p true
        ((s.updGrp g fun x => { x with crossed := c }).setFld (LNK_STATUS_excluded g) c).raise 0x0606 [g, p, pos]
      let s := s.cond (run ≥ 2 && (s.grp g).seenAt.isNone) fun s =>
        detectPeer s g tag (bits / 2 ^ 52 % 2) (bits / 2 ^ 50 % 4) (bits / 2 ^ 55 % 2)
      let (ptag, _, _) := (s.grp g).offer
      s.cond (hasBit bits 53 && (s.grp g).seenAt.isSome && ptag == tag) fun s => s.updGrp g fun x => { x with peerSeen := true }

/-- The backoff ends: a burst at once (R210). -/
def backoffEnd (g : Nat) (s : Hw) : Hw :=
  if s.flag (LNK_STATUS_backoff g) && decide ((s.grp g).backoffEnd ≤ s.dtime) then
    burstStart g ((s.setFld (LNK_STATUS_backoff g) 0).updGrp g fun x => { x with burstAt := s.dtime })
  else s

def failureCountReset (g : Nat) (s : Hw) : Hw :=
  if s.stage g = 5 ∧ (s.grp g).p5At + 10000000000 ≤ s.dtime then s.setFld (LNK_STATUS_fails g) 0 else s

/-! ### P2 (R219 to R229) -/

def updTrain (s : Hw) (g p : Nat) (f : TrainLane → TrainLane) : Hw :=
  s.updGrp g fun x => { x with train := Map.upd {} x.train p f }

/-- P2 begins when every lane's PLL has locked at the agreed mode (R219); each lane takes its first seed (R146) and sends training
frames (R208). A change of min_lanes applies from the next P2 (R244). -/
def p2Start (g : Nat) (s : Hw) : Hw :=
  if (s.grp g).relock && s.stage g == 1 && (groupLanes g).all fun n => s.flag (LTX_STATUS_pll_lock n) then
    let s := (setStage s g 2).updGrp g fun x =>
      { x with relock := false, train := [], exitOwn := none, sprout := [], minLanes := s.fld (LNK_CFG_min_lanes g) }
    s.each (partLanes s g) fun p s => sendTraining (seedLane s (4 * g + p)) g p
  else s

/-- The ready mask of this end (R227). -/
def readyMask (s : Hw) (g : Nat) : Nat :=
  sumN ((List.range 4).map fun p =>
    if !hasBit (s.fld (LNK_STATUS_excluded g)) p && s.flag (LRX_STATUS_converged (4 * g + p)) && (s.train g p).peerReady
    then 2 ^ p else 0)

/-- From P2 to P3 with active mask `m` (R228 to R230). -/
def toP3 (s : Hw) (g m : Nat) : Hw :=
  let t := (s.dtime - (s.grp g).stageAt) / 1000
  let left := (partLanes s g).filter fun p => !hasBit m p
  let s := s.each left fun p s => s.raise 0x0605
    [g, p, together 0x0605 [s.fld (LRX_STATUS_converged (4 * g + p)), if (s.train g p).peerReady then 1 else 0]]
  let s := ((s.setNum (LNK_T_P2 g) (min t (2 ^ 32 - 1))).setFld (LFM_STATUS_tx_mask g) m).setFld (LFM_STATUS_rx_mask g) m
  let s := (s.setFld (LNK_STATUS_excluded g) (15 - m)).setFld (LFM_STATUS_generation g) 0
  let s := (setStage s g 3).updGrp g fun x =>
    { x with am := [], rxGen := 0, exitOwn := none, stuffed := [], leftAt := left.foldl (fun l p => Map.put 0 l p s.dtime) x.leftAt }
  startFrame s g 0 0

/-- Propose exit when R228 allows it; leave P2 once the peer has answered on every lane of the AND of the masks. DEDUCED (log 119): not before
two training frames with exit 1 have gone out, which the peer needs of this end. -/
def tryP2Exit (s : Hw) (g : Nat) (limit : Bool) : Hw :=
  if s.stage g ≠ 2 then s
  else
    let r := readyMask s g
    let lanes := (List.range 4).filter fun p =>
      !hasBit (s.fld (LNK_STATUS_excluded g)) p && !s.flag (LRX_STATUS_los (4 * g + p))
    let min := (s.grp g).minLanes
    let due := limit || (decide (min ≤ popCount 4 r) && lanes.all fun p => hasBit r p)
    let s := s.cond (due && (s.grp g).exitOwn.isNone) fun s => s.updGrp g fun x => { x with exitOwn := some r, exitAt := s.dtime }
    match (s.grp g).exitOwn with
    | none => s
    | some own =>
      if (s.dtime - (s.grp g).exitAt) * symbolsPerMs (s.mode g) < 2 * 8192 * 1000000 then s else
      match (List.range 4).find? fun p => decide ((s.train g p).exitRun ≥ 2) with
      | none => s
      | some q =>
        let m := own &&& (s.train g q).exitMask
        if popCount 4 m < min then failGroup s g 2
        else if (bitsOf 4 m).all fun p => decide ((s.train g p).exitRun ≥ 2) then toP3 s g m else s

/-- P2 reaches 300 ms: exit is proposed, or the failure is reason 1 if the peer has proposed none (R228). -/
def p2Limit (g : Nat) (s : Hw) : Hw :=
  if s.stage g = 2 ∧ (s.grp g).stageAt + 300000000 ≤ s.dtime then
    if (List.range 4).any fun p => (s.train g p).exitSeen then tryP2Exit s g true else failGroup s g 1
  else s

/-! ### The back channel (R224, R225) -/

/-- Tap `i` of a lane, c(-2) first. -/
def tapAt (s : Hw) (n i : Nat) : Int :=
  sx 8 (if i < 4 then s.num (LTX_TAPS n 0) / 2 ^ (24 - 8 * i) else s.num (LTX_TAPS n 1) / 2 ^ (24 - 8 * (i - 4)))

def tapBytes (s : Hw) (n : Nat) : Bytes := toBE 4 (s.num (LTX_TAPS n 0)) ++ toBE 3 (s.num (LTX_TAPS n 1) / 256)

/-- The taps with tap `i` set to `v`. -/
def withTap (s : Hw) (n i : Nat) (v : Int) : Bytes := (tapBytes s n).set i (BitVec.ofInt 8 v)

/-- The largest change of at most `k` steps in a direction that keeps R127. -/
def bestStep (s : Hw) (n i : Nat) (dir : Int) : Nat → Nat
  | 0 => 0
  | k + 1 =>
    let v := tapAt s n i + dir * (k + 1 : Nat)
    if decide (-128 ≤ v ∧ v ≤ 127) && tapsOk (withTap s n i v) then k + 1 else bestStep s n i dir k

/-- Act on a request: op, tap and value. The result is 0 applied, 1 limited or 2 refused. -/
def tapRequest (s : Hw) (n op tap val : Nat) : Nat × Hw :=
  if s.stage (laneGroup n) ≠ 2 then (2, s)
  else if op = 0 then (0, s)
  else if op = 1 ∨ op = 2 then
    if tap > 6 ∨ val > 8 then (2, s)
    else
      let dir : Int := if op = 1 then 1 else -1
      let k := bestStep s n tap dir val
      let s' := setTaps s n (withTap s n tap (tapAt s n tap + dir * (k : Nat)))
      if k < val then (1, s'.raise 0x0302 [n, tap, enc 32 (tapAt s n tap + dir * (val : Nat))]) else (0, s')
  else if op = 4 then (0, (s.setNum (LTX_TAPS n 0) (s.lane n).taps0).setNum (LTX_TAPS n 1) (s.lane n).taps1)
  else if op = 5 then
    (0, setTaps s n (factoryBody n (laneMode s n)))
  else (2, s)

/-- A valid control word on lane `n`. -/
def takeControl (s : Hw) (g p w : Nat) : Hw :=
  let n := 4 * g + p
  let s := updTrain s g p fun t =>
    { t with badCtl := 0, peerReady := hasBit w 61, exitRun := if hasBit w 57 then t.exitRun + 1 else 0, exitSeen := t.exitSeen || hasBit w 57,
             exitMask := if hasBit w 57 then w / 2 ^ 52 % 16 else t.exitMask }
  let q := w / 2 ^ 88 % 256
  if q = (s.train g p).acted then s
  else
    let (r, s) := tapRequest s n (w / 2 ^ 84 % 16) (w / 2 ^ 80 % 16) (w / 2 ^ 72 % 256)
    updTrain s g p fun t => { t with acted := q, ack := r }

/-- A request to the peer's transmitter, which the device is free to choose within R224 to R226: op, tap and, by the op, steps
1 to 8 or a signed value. -/
def chosenRequest (v : Nat) : Nat :=
  let op := v % 6
  let x := v / 42
  op * 2 ^ 12 + v / 6 % 7 * 2 ^ 8 + (if op = 1 ∨ op = 2 then x % 8 + 1 else if op = 3 then x % 256 else 0)

/-- Once the lane has training sync and the peer has acknowledged the request in flight, a new one may be made (R148, R226). -/
def makeRequest (s : Hw) (g p w : Nat) : Hw :=
  let t := s.train g p
  if s.stage g = 2 ∧ (s.lane (4 * g + p)).sync ∧ w / 2 ^ 64 % 256 = t.reqSeq then
    let (v, s) := s.free
    s.cond (v % 2 == 1) fun s => updTrain s g p fun t => { t with reqSeq := (t.reqSeq + 1) % 256, req := chosenRequest (v / 2) }
  else s

/-- Training sync (R222): the marker of two frames in a row, and then the PRBS of the next. -/
def trackSync (s : Hw) (g p : Nat) (marker : Bool) (wrong : Nat) : Hw :=
  let n := 4 * g + p
  let found := (s.train g p).marks
  let s := updTrain s g p fun t =>
    if marker then { t with marks := t.marks + 1, misses := 0 } else { t with marks := 0, misses := t.misses + 1 }
  if found ≥ 2 && decide (wrong * 16 < 8064) then s.updLane n fun l => { l with sync := true }
  else if (s.train g p).misses ≥ 4 then s.updLane n fun l => { l with sync := false } else s

/-- Both ends of a retraining lane have converged: phase 4, and from the lower tag phase 5 (R242, item 3). -/
def retrainOn (s : Hw) (g p : Nat) : Hw :=
  let body := fun (ph f : Nat) => toBE 1 p ++ toBE 1 ph ++ toBE 6 f
  let put := fun (s : Hw) (r : Retrain) => s.updGrp g fun x => { x with retrain := Map.put none x.retrain p (some r) }
  match Map.get none (s.grp g).retrain p with
  | none => s
  | some r =>
    if r.phase = 2 ∧ s.flag (LRX_STATUS_converged (4 * g + p)) ∧ (s.train g p).peerReady then
      let s := sendOam (put s { r with phase := 3 }) g 0x0015 (body 4 0)
      if r.peer4 && decide (s.num LNK_TAG < s.num (LNK_PEER g)) then
        let f := ((s.grp g).txFc + 4) % 2 ^ 48
        sendOam (put s { r with phase := 4, frame := some f }) g 0x0015 (body 5 f)
      else s
    else if r.phase = 3 ∧ r.peer4 ∧ s.num LNK_TAG < s.num (LNK_PEER g) then
      let f := ((s.grp g).txFc + 4) % 2 ^ 48
      sendOam (put s { r with phase := 4, frame := some f }) g 0x0015 (body 5 f)
    else s

/-- A training frame on lane `n`: whether its marker was found, PRBS symbols decided wrongly, and its control word. -/
def trainingFrame (n : Nat) (marker : Bool) (wrong : Nat) (w : Nat) (s : Hw) : Hw :=
  let g := laneGroup n
  let p := n % 4
  let again := s.stage g == 5 && retraining s n
  if !s.ready n || !((s.stage g == 2 && !hasBit (s.fld (LNK_STATUS_excluded g)) p) || again) then s
  else
    let s := trackSync s g p marker wrong
    if !marker then s
    else if w % 65536 ≠ crcMsb 16 0x1021 0xFFFF (toBE 10 (w / 65536)) then
      let s := updTrain s g p fun t => { t with badCtl := t.badCtl + 1, exitRun := 0 }
      s.cond ((s.train g p).badCtl == 64) fun s => s.setFld (LNK_LATCH_ctl_err g) 1
    else if s.stage g = 2 && hasBit w 56 then failGroup s g 5
    else if s.stage g = 2 && w / 2 ^ 20 % 65536 != s.num (LNK_PEER g) % 65536 then failGroup s g 7
    else
      let s := makeRequest (takeControl s g p w) g p w
      let s := s.cond (s.stage g == 2) fun s => tryP2Exit s g false
      s.cond again fun s => retrainOn s g p

/-- A lane converges (R148), which may let its group propose exit or its retraining go on (R227). -/
def laneConvergedLink (n : Nat) (s : Hw) : Hw :=
  let s := laneConverged n s
  let g := laneGroup n
  retrainOn (tryP2Exit s g false) g (n % 4)

/-- Lock regained may complete P3 (R230). -/
def lockRegainedLink (n : Nat) (s : Hw) : Hw := tryP4 (lrxLockRegained n s) (laneGroup n)

/-! ### P3 and P4 (R230 to R235) -/

def p3Limit (g : Nat) (s : Hw) : Hw :=
  if s.stage g = 3 ∧ s.native g ∧ (s.grp g).stageAt + 5000000 ≤ s.dtime then failGroup s g 3 else s

def p4Limit (g : Nat) (s : Hw) : Hw :=
  if s.stage g = 4 ∧ (s.grp g).stageAt + 20000000 ≤ s.dtime then failGroup s g 4 else s

/-- Every 100 µs the messages that have not ended are repeated (R231). -/
def p4Repeat (g : Nat) (s : Hw) : Hw :=
  let x := s.grp g
  if s.stage g ≠ 4 then s
  else
    let s := s.cond (!x.ackRcvd) fun s => sendOam s g 0x0010 (capsBody s g)
    let s := match x.ownF with
      | some f => s.cond (!x.txPast) fun s => sendOam s g 0x0012 (toBE 6 f ++ zeros 2)
      | none => s
    s.cond (x.readySent && !x.readyRcvd) fun s => sendOam s g 0x0013 (readyBody s g)

/-- A CAPS from the peer (R232): answered, its tag checked, the seed contribution, pace and floor kept. -/
def capsReceived (g tag version mode mask floor pace : Nat) (contrib features : Nat) (s : Hw) : Hw :=
  if !framing s g then s
  else if s.stage g < 5 ∧ tag ≠ s.num (LNK_PEER g) then failGroup s g 7
  else
    let res := if version ≠ 1 then 2 else if mode ≠ s.mode g then 1 else if s.stage g < 5 ∧ mask ≠ s.rxMask g then 3 else 0
    let s := sendOam s g 0x0011 (toBE 1 res ++ zeros 7)
    if s.stage g = 5 then s
    else if res ≠ 0 then failGroup s g 6
    else
      let s := s.updGrp g fun x =>
        { x with peerContrib := some contrib, ackSent := true, peerPace := some pace, peerFloor := some floor }
      trySeed (s.setFld (LNK_PEER_INFO_features g) features) g

def capsAckReceived (g result : Nat) (s : Hw) : Hw :=
  if s.stage g ≠ 4 then s
  else if result ≠ 0 then failGroup s g 6
  else trySeed (s.updGrp g fun x => { x with ackRcvd := true }) g

def seedStartReceived (g f : Nat) (s : Hw) : Hw :=
  if s.stage g = 4 then s.updGrp g fun x => { x with peerF := some (f % 2 ^ 48) } else s

def readyReceived (g : Nat) (s : Hw) : Hw :=
  if s.stage g = 4 then tryReady (s.updGrp g fun x => { x with readyRcvd := true }) g else s

def abortReceived (g : Nat) (s : Hw) : Hw :=
  if framing s g ∧ s.stage g ≠ 5 then failGroup s g 5 else s

/-- Loss of signal on every lane of the group for 1 ms in P2 to P4 (reason 8). -/
def signalLossFailure (g : Nat) (s : Hw) : Hw :=
  if 2 ≤ s.stage g && s.stage g ≤ 4 && s.mode g < 2 && (groupLanes g).all fun n => s.flag (LRX_STATUS_los n) then
    failGroup s g 8
  else s

/-! ### C2 (R202, R236, R237) -/

/-- In C2 a lane has kept its signal for 10 ms with its PLL locked and its transmitter in EMIT. -/
def c2LaneReady (s : Hw) (n : Nat) : Bool :=
  s.ready n && s.flag (LTX_STATUS_pll_lock n) && s.fld (FES_STATE_state n) == 4 && !s.flag (LRX_STATUS_los n) &&
    decide ((s.lane n).sigAt + 10000000 ≤ s.dtime)

def c2Layout (s : Hw) (g : Nat) : Nat := s.fld (LFM_CFG_c2_layout g)

def enterC2 (s : Hw) (g n : Nat) : Hw :=
  let s := (s.setFld (LNK_STATUS_mode g) 2).setFld (LFM_STATUS_mode g) 2
  if s.stage g ≥ n then s else setStage s g n

/-- The local check of P1 in C2: a lane passes to P3 (layout 0), or all eight together (layout 1). -/
def c2P1Check (n : Nat) (s : Hw) : Hw :=
  let g := laneGroup n
  let p := n % 4
  if s.stage g = 0 ∨ s.fld (LFM_CFG_mode_pref g) ≠ 2 ∨ s.mode g < 2 then s
  else if c2Layout s g = 0 then
    let v := s.num (LNK_LSTAGE g)
    if v / 16 ^ p % 8 ≥ 3 || decide (s.dtime < Map.get 0 (s.grp g).lback p) || !c2LaneReady s n then s
    else
      let s := s.setNum (LNK_LSTAGE g) (v - v / 16 ^ p % 8 * 16 ^ p + 3 * 16 ^ p)
      seedLane (enterC2 s g 3) n
  else if s.fld (LFM_CFG_mode_pref (other g)) ≠ 2 ∨ c2Layout s (other g) ≠ 1 then
    s.raise 0x0508 [c2Layout s 0, c2Layout s 1]
  else if s.stage 0 ≠ 1 ∨ s.stage 1 ≠ 1 ∨ s.dtime < Map.get 0 (s.grp 0).lback 0 then s
  else if (List.range 8).all fun n => c2LaneReady s n then
    s.each (List.range 8) fun n s => seedLane (enterC2 s (laneGroup n) 3) n
  else s

/-- A lane of C2 is not aligned 305 ms after it entered P3: it returns to P1 with a backoff, or under layout 1 the whole
device does. -/
def c2P3Timeout (n : Nat) (s : Hw) : Hw :=
  let g := laneGroup n
  let p := n % 4
  if s.mode g ≠ 2 ∨ s.dtime < (s.lane n).p2At + 305000000 then s
  else if c2Layout s g = 0 then
    let v := s.num (LNK_LSTAGE g)
    if v / 16 ^ p % 8 ≠ 3 then s
    else
      let s := ((s.setFld (LNK_STATUS_reason g) 3).setFld (LNK_LATCH_fail g) 1).count (LNK_C_FAIL g)
      let s := (s.raise 0x0602 [g, 3, 3]).setNum (LNK_LSTAGE g) (v - 3 * 16 ^ p + 1 * 16 ^ p)
      let k := min (s.fld (LNK_STATUS_fails g) + 1) 15
      let (r, s) := s.random
      let s := (s.setFld (LNK_STATUS_fails g) k).setFld (LNK_STATUS_backoff g) 1
      let t := s.dtime + backoffTime k r.toNat
      let s := s.updGrp g fun x => { x with lback := Map.put 0 x.lback p t, backoffEnd := t }
      let most := (List.range 4).foldl (fun m p => max m (s.num (LNK_LSTAGE g) / 16 ^ p % 8)) 0
      if most ≠ s.stage g then setStage s g most else s
  else if s.stage g = 3 then
    let s := failGroup s g 3
    let s := toP1 s (other g)
    let t := (s.grp g).backoffEnd
    s.each [0, 1] fun g s => (s.setFld (LNK_STATUS_backoff g) 1).updGrp g fun x =>
      { x with lback := Map.put 0 x.lback 0 t, backoffEnd := t }
  else s

/-! ### Wake from the line (R238 to R240) -/

def pendingFld (g : Nat) : Fld := ab g LNK_WAKE_STATUS_pending_a LNK_WAKE_STATUS_pending_b
def wokeFld (g : Nat) : Fld := ab g LNK_WAKE_STATUS_woke_a LNK_WAKE_STATUS_woke_b

/-- The domains of a group begin to wake. -/
def wakeDomains (s : Hw) (g cause : Nat) : Hw := s.each ((12 + g) :: groupLanes g) fun d s => s.wake d cause

/-- Do a group's domains prepare to sleep, or stand stopped, under the two-phase protocol (R240)? -/
def goingToSleep (s : Hw) (g : Nat) : Bool :=
  s.domState (12 + g) == 3 || s.domState (12 + g) == 4 ||
    s.pwr.sleep.any fun z => hasBit z.mask (12 + g) && s.domState (12 + g) != 0

/-- A wake is acted on: event 0x0607, and the domains wake (R239). -/
def actWake (s : Hw) (g cause tag : Nat) : Hw := wakeDomains ((s.setFld (wokeFld g) 1).raise 0x0607 [g, cause, tag]) g 2

/-- A detector's signal is acted on, or latched, with its cause and tag, under low power or while the domains prepare to sleep (R239,
R240). -/
def lineWake (s : Hw) (g cause tag : Nat) : Hw :=
  let latch := fun (s : Hw) =>
    { s.setFld (pendingFld g) 1 with pwr := { s.pwr with lineWakes := Map.put (0, 0) s.pwr.lineWakes g (cause, tag) } }
  if s.pwr.lowPower then (latch s).raise 0x0608 [g, cause]
  else if goingToSleep s g then latch s
  else actWake s g cause tag

/-- The detectors of a group are armed while its domain sleeps or goes to sleep (R238, R240). -/
def armedFor (s : Hw) (g : Nat) : Bool := s.domState (12 + g) == 0 || goingToSleep s g

/-- Two consecutive valid sprout frames with the wake flag from a sender of this tag. -/
def sproutWake (n tag : Nat) (s : Hw) : Hw :=
  let g := laneGroup n
  let f := s.num LNK_WAKE_CFG
  if armedFor s g && (f == 0 || f == tag) then lineWake s g 0 tag else s

/-- Input above los_thr for 1 ms. -/
def lightWake (n mv : Nat) (s : Hw) : Hw :=
  let g := laneGroup n
  if armedFor s g && s.flag (LNK_CFG_wake_light g) && decide (mv > s.fld (LRX_CFG_los_thr n)) then lineWake s g 1 0 else s

/-- A latched wake acts (R240). -/
def actPending (s : Hw) (g : Nat) : Hw :=
  if s.flag (pendingFld g) && !s.pwr.lowPower && !goingToSleep s g then
    let (cause, tag) := Map.get (0, 0) s.pwr.lineWakes g
    let s := s.setFld (pendingFld g) 0
    actWake { s with pwr := { s.pwr with lineWakes := Map.put (0, 0) s.pwr.lineWakes g (0, 0) } } g cause tag
  else s

/-! ### Retraining in service (R241 to R243) -/

def setRetrain (s : Hw) (g p : Nat) (r : Option Retrain) : Hw :=
  (s.updGrp g fun x => { x with retrain := Map.put none x.retrain p r }).setFld (LNK_STATUS_retrain g)
    (setBit (s.fld (LNK_STATUS_retrain g)) p r.isSome)

/-- Send a LANE_TRAIN request for lane position `p`. -/
def startRetrain (s : Hw) (g p : Nat) : Hw :=
  let s := setRetrain s g p (some { phase := 1, t0 := s.dtime })
  (sendOam s g 0x0015 (toBE 1 p ++ toBE 1 1 ++ zeros 6)).raise 0x060A [g, p, 0]

/-- Training frames replace lane frames on the lane. -/
def beginTraining (s : Hw) (g p : Nat) (t0 : Nat) : Hw :=
  let s := setRetrain s g p (some { phase := 2, t0 := t0 })
  seedLane (s.updGrp g fun x => { x with train := Map.put {} x.train p {} }) (4 * g + p)

/-- 1 s after a lane left the mask without lock (R241). -/
def autoRejoin (n : Nat) (s : Hw) : Hw :=
  let g := laneGroup n
  let p := n % 4
  let x := s.grp g
  let unlocked := !s.flag (LRX_STATUS_cdr_lock n) || !hasBit (s.fld (LFM_STATUS_am_lock g)) p
  let peerBad := match x.health.head? with
    | some (h, _) => !hasBit h p
    | none => false
  if s.stage g = 5 && s.native g && !hasBit (s.txMask g) p && s.flag (LNK_CFG_auto_rejoin g) &&
      decide (Map.get 0 x.leftAt p + 1000000000 ≤ s.dtime) && (unlocked || peerBad) &&
      !hasBit x.crossed p && (Map.get none x.retrain p).isNone && decide ((Map.get [] x.rtFails p).length < 3) && s.ready n then startRetrain s g p
  else s

/-- A LANE_TRAIN message (R241, R242): lane position, phase and frame. -/
def laneTrain (g p phase f : Nat) (s : Hw) : Hw :=
  let n := 4 * g + p
  if s.stage g ≠ 5 ∨ !s.native g ∨ p > 3 then s
  else
    let r := Map.get none (s.grp g).retrain p
    let reply := fun (s : Hw) (ph : Nat) => sendOam s g 0x0015 (toBE 1 p ++ toBE 1 ph ++ zeros 6)
    match phase with
    | 1 =>
      if !s.ready n || s.fenced n || hasBit (s.grp g).crossed p || (r.any fun r => r.phase != 1) then (reply s 3).raise 0x060A [g, p, 3]
      else beginTraining (reply s 2) g p s.dtime
    | 2 =>
      match r with
      | some r => if r.phase = 1 then beginTraining s g p r.t0 else s
      | none => s
    | 3 => if r.isSome then (setRetrain s g p none).raise 0x060A [g, p, 3] else s
    | 4 =>
      match r with
      | some r => retrainOn (setRetrain s g p (some { r with peer4 := true })) g p
      | none => s
    | 5 =>
      match r with
      | some r => setRetrain s g p (some { r with phase := 4, frame := some (f % 2 ^ 48) })
      | none => s
    | _ => s

/-- 310 ms without return to the mask (R242): idle codewords, event 0x060A; the third failure in 60 s stops automatic
retraining. -/
def retrainTimeout (n : Nat) (s : Hw) : Hw :=
  let g := laneGroup n
  let p := n % 4
  match Map.get none (s.grp g).retrain p with
  | none => s
  | some r =>
    if s.dtime < r.t0 + 310000000 then s
    else
      let l := (Map.get [] (s.grp g).rtFails p).filter (fun t => decide (s.dtime < t + 60000000000)) ++ [s.dtime]
      let s := setRetrain s g p none
      (s.updGrp g fun x => { x with rtFails := Map.put [] x.rtFails p l }).raise 0x060A [g, p, 2]

/-! ### Commands (Table 06-7) -/

def applyLnkConfig (p : Bytes) (s : Hw) : Hw :=
  let g := u8 p 0
  let f := u8 p 2
  let s := (s.setFld (LNK_CFG_min_lanes g) (u8 p 1)).setFld (LNK_CFG_enable g) (bit f 0)
  ((s.setFld (LNK_CFG_wake_tx g) (bit f 1)).setFld (LNK_CFG_wake_light g) (bit f 2)).setFld (LNK_CFG_auto_rejoin g) (bit f 3)

def opLnkConfig : OpSpec :=
  { OpSpec.fix headLnkConfig [.rng 1 0 1, .rng 1 1 4, .msk 1 15] fun s c => .ok (applyLnkConfig c.p s) with
    conc := groupConc, objs := fun p => [u8 p 0] }

/-- All domains of a group are ready, its line reference accepted, and no low power holds it in P0. -/
def groupAwake (s : Hw) (g : Nat) : Bool :=
  s.ready (12 + g) && ((groupLanes g).all fun n => s.ready n) && s.refOk (1 + g) && !s.pwr.lowPower && !(s.grp g).deinit

/-- A group that is enabled and awake enters P1 (R239, R246). -/
def enterIfEnabled (s : Hw) (g : Nat) : Hw :=
  if s.stage g = 0 && s.flag (LNK_CFG_enable g) && groupAwake s g then
    burstStart g (toP1 s g)
  else s

def opLnkUp : OpSpec :=
  { OpSpec.fix headLnkUp [.rng 1 0 1] fun s c =>
      let g := u8 c.p 0
      if s.fenced (12 + g) then .refuse stFENCED (12 + g) s
      else .ok (enterIfEnabled (wakeDomains (s.setFld (LNK_CFG_enable g) 1) g 1) g) with
    conc := groupConc }

def opLnkDown : OpSpec :=
  { OpSpec.fix headLnkDown [.rng 1 0 1] fun s c => .ok (toP0 (s.setFld (LNK_CFG_enable (u8 c.p 0)) 0) (u8 c.p 0)) with
    conc := groupConc }

def opLnkRestart : OpSpec :=
  { OpSpec.fix headLnkRestart [.rng 1 0 1] fun s c =>
      if s.stage (u8 c.p 0) = 0 then .refuse stCONDITIONS 1 s else .ok (failGroup s (u8 c.p 0) 12) with
    conc := groupConc }

def opLnkStatusRead : OpSpec :=
  { OpSpec.fix headLnkStatusRead [.rng 1 0 1] fun s c =>
      let g := u8 c.p 0
      .ok s (s.wordsAt [LNK_CFG g, LNK_STATUS g, LNK_LATCH g, LNK_PEER g, LNK_PEER_INFO g, LNK_LSTAGE g, LNK_T_P2 g,
        LNK_C_UP g, LNK_C_FAIL g, LNK_SPROUT_ERR g] ++ s.dtimeBytes) with
    doms := groupDoms }

def opLnkLaneRejoin : OpSpec :=
  { OpSpec.fix headLnkLaneRejoin [.rng 1 0 1, .nzm 1 15] fun s c =>
      let g := u8 c.p 0
      let m := u8 c.p 1
      if s.stage g ≠ 5 then .refuse stCONDITIONS 1 s
      else if s.txMask g &&& m ≠ 0 then .refuse stCONDITIONS 2 s
      else .ok (s.each (bitsOf 4 m) fun p s =>
        let s := s.updGrp g fun x => { x with rtFails := Map.put [] x.rtFails p [] }
        if (Map.get none (s.grp g).retrain p).isSome || hasBit (s.grp g).crossed p then s else startRetrain s g p) with
    conc := groupConc }

def applyLnkWakeConfig (p : Bytes) (s : Hw) : Hw := s.setNum LNK_WAKE_CFG (u32 p 0)

def opLnkWakeConfig : OpSpec :=
  { OpSpec.fix headLnkWakeConfig [.any 4] fun s c => .ok (applyLnkWakeConfig c.p s) with
    objs := fun _ => [0] }

end Sys2Proof.Machine
end

