-- ==== Sys2Proof/Machine/Tds.lean ====
section
/-!
DEFINITION. Timed delivery, admission (09): demand, the checks of R312 and R313, the skew-store check, DELAY messages, and
the TDS commands.
-/
namespace Sys2Proof.Machine
open Reg

/-- Cells of a frame of `l` bytes (R188, R309). -/
def cellsOf (l : Nat) : Nat := 1 + ((l - 510) + 511) / 512

/-- The demand of an admission with policing tolerance `tol`, in slots per second (R309). -/
def demand (a : Adm) (tol : Nat) : Nat :=
  let iv := max 1 (a.minIv - tol)
  (cellsOf a.maxFrame * 1953125 + iv - 1) / iv

/-- Own and standby demand of path policy `path` on group `g` (Table 09-2): 0 none, 1 own, 2 standby. -/
def demandKind (path g : Nat) : Nat :=
  match path with
  | 0 => if g = 0 then 1 else 0
  | 1 => if g = 1 then 1 else 0
  | 2 => if g = 0 then 1 else 2
  | 3 => if g = 1 then 1 else 2
  | _ => 1

/-- The settings that admission is computed with: tolerance, budget lanes, cap, local floor, D, skew places. -/
structure Terms where
  tol   : Nat
  lanes : Nat
  cap   : Nat
  floor : Nat
  delay : Nat
  skew  : Nat
  deriving DecidableEq, Repr

def Hw.terms (s : Hw) : Terms :=
  ⟨s.fld TDS_CFG_pol_tol, s.fld TDS_CFG_budget_lanes, s.fld TDS_CFG_cap, localFloor s, s.num TDS_DELAY, s.fld TDS_BUF_skew⟩

/-- Sums that admission keeps: own and standby of each group, and the class C demand. -/
structure Sums where
  own : Nat × Nat := (0, 0)
  sb  : Nat × Nat := (0, 0)
  c   : Nat := 0
  deriving DecidableEq, Repr

def pairGet (x : Nat × Nat) (g : Nat) : Nat := if g = 0 then x.1 else x.2
def pairAdd (x : Nat × Nat) (g d : Nat) : Nat × Nat := if g = 0 then (x.1 + d, x.2) else (x.1, x.2 + d)

/-- The sums with one more admission. -/
def Sums.add (t : Terms) (x : Sums) (a : Adm) : Sums :=
  let d := demand a t.tol
  let x := { x with c := if a.cls = 2 then x.c + d else x.c }
  if a.keyless then x
  else [0, 1].foldl (fun (x : Sums) g =>
    match demandKind a.path g with
    | 1 => { x with own := pairAdd x.own g d }
    | 2 => { x with sb := pairAdd x.sb g d }
    | _ => x) x

def admissions (s : Hw) : List Adm := s.tds.adm.filterMap fun e => e.2

def allSums (s : Hw) (t : Terms) : Sums := (admissions s).foldl (Sums.add t) {}

/-- The skew places that class C demand needs (R323). -/
def skewNeed (t : Terms) (x : Sums) : Nat := (x.c * t.delay + 999999999) / 1000000000

/-- The checks of R312 on a group's sums. -/
def groupCheck (s : Hw) (t : Terms) (x : Sums) (g : Nat) : Option Nat :=
  let b := slotBudget s g t.lanes t.floor
  let c := timedCap s g t.cap
  let own := pairGet x.own g
  if own > b then some 1
  else if own > c then some 2
  else if own + pairGet x.sb g > min b c then some 3 else none

/-- R312 for an admission added to sums `x`: group A before group B, where it has demand. -/
def budgetCheck (s : Hw) (t : Terms) (x : Sums) (a : Adm) : Option (Nat × Nat) :=
  if a.keyless then none
  else [0, 1].findSome? fun g =>
    if demandKind a.path g = 0 then none
    else (groupCheck s t x g).map fun r => (stADMIT_REFUSED, g * 256 + r)

/-- R323 and R324 for a class C admission added to sums `x`. -/
def classCCheck (s : Hw) (t : Terms) (x : Sums) (a : Adm) : Option (Nat × Nat) :=
  if a.cls ≠ 2 then none
  else if skewNeed t x > t.skew then some (stREFUSED, 0x0A01)
  else if [0, 1].any fun g =>
      !a.keyless && demandKind a.path g != 0 && s.flag (peerValid g) &&
        decide (t.delay < minDelay s g (max a.maxFrame (maxC s g))) then some (stREFUSED, 0x0A04)
  else none

/-- Re-run R312 and R323 over every admitted flow with new settings (R315): the first failing flow's answer. -/
def recheck (s : Hw) (t : Terms) : Option (Nat × Nat) :=
  ((admissions s).foldl (fun (acc : Sums × Option (Nat × Nat)) a =>
    match acc.2 with
    | some r => (acc.1, some r)
    | none =>
      let x := acc.1.add t a
      match budgetCheck s t x a with
      | some r => (x, some r)
      | none => (x, if a.cls = 2 ∧ skewNeed t x > t.skew then some (stREFUSED, 0x0A01) else none)) ({}, none)).2

/-- The registers of Table 09-10 follow the admissions. -/
def setSums (s : Hw) : Hw :=
  let t := s.terms
  let x := allSums s t
  let s := (s.setNum (TDS_DEM_OWN 0) x.own.1).setNum (TDS_DEM_OWN 1) x.own.2
  let s := (s.setNum (TDS_DEM_SB 0) x.sb.1).setNum (TDS_DEM_SB 1) x.sb.2
  (s.setFld TDS_FLOWS_admitted (admissions s).length).setFld TDS_SKEW_USE_reserved_places (skewNeed t x)

/-! ### Commands (Table 09-5) -/

def tdsDoms : Hw → Bytes → List Nat := fun s _ => if tablesReady s then [14] else []

/-- State-changing TDS commands and PWR_FLOOR_SET exclude one another (R338). -/
def tdsBusy (opc : Nat) : Hw → Bytes → Bool :=
  fun s _ => s.cmd.running.any fun r => r.index != 0 && r.opcode == opc

def admitPayload (s : Hw) (done : Nat) : Bytes := toBE 2 done ++ zeros 2 ++ toBE 4 (s.fld TDS_SKEW_USE_reserved_places)

def admOf (c : Nat) : Adm := ⟨cxClass c, cxPath c, cxMaxFrame c, cxMinIv c, !cxHasKey c⟩

/-- The first group on which a path has demand. -/
def firstGroup (path : Nat) : Nat := if path = 1 then 1 else 0

/-- Admit one flow (R312 to R314). DEDUCED (log 78): a quarantined context, whose class field reads 0, is refused as quarantined, before its
class is looked at. -/
def admitOne (s : Hw) (i : Nat) : Except (Nat × Nat) Hw :=
  let c := s.ctx i
  if cxState c = 0 ∨ (cxHasKey c && !indexKeyed s i) then .error (stADMIT_REFUSED, firstGroup (cxPath c) * 256 + 4)
  else if cxState c = 2 then .error (stREFUSED, 0x0A02)
  else if cxState c = 3 then .error (stREFUSED, 0x0A05)
  else if cxClass c = 0 ∨ cxClass c = 3 then .error (stREFUSED, 0x0A03)
  else if s.flag PWR_SPD_STATUS_suspended then .error (stREFUSED, 0x0211)
  else if s.fld PWR_DTIME_SRC_source = 3 then .error (stREFUSED, 0x0215)
  else
    let a := admOf c
    let t := s.terms
    let x := (allSums s t).add t a
    match budgetCheck s t x a with
    | some r => .error r
    | none =>
      match classCCheck s t x a with
      | some r => .error r
      | none => .ok (setSums { s.setCtx i (cset c 126 2 2) with tds := { s.tds with adm := Map.put none s.tds.adm i (some a), begun := true } })

def withdrawOne (s : Hw) (i : Nat) : Except (Nat × Nat) Hw :=
  if admHeld s i then
    let c := s.ctx i
    let s' := if cxState c = 2 then s.setCtx i (cset c 126 2 1) else s
    .ok (setSums { s' with tds := { s'.tds with adm := Map.put none s'.tds.adm i none } })
  else .error (stREFUSED, 0x0A06)

/-- Items in order, stopping at the first that fails (R339). -/
def runIndices (f : Hw → Nat → Except (Nat × Nat) Hw) (p : Bytes) : Nat → Nat → Hw → Res
  | 0, j, s => .ok s (admitPayload s j)
  | n + 1, j, s =>
    match f s (u32 p (4 + 4 * j)) with
    | .error (st, det) => .done st det (admitPayload s j) s
    | .ok s' => runIndices f p n (j + 1) s'

/-- Indices above 20 bits, numbered as R298 numbers items. -/
def indexBad (p : Bytes) : Option Nat :=
  (List.range (u16 p 0)).findSome? fun j => if u32 p (4 + 4 * j) ≥ 2 ^ 20 then some (100 * (j + 1) + 1) else none

def indexCheck : Hw → Bytes → Option Nat := fun _ p =>
  match runChks [.any 2, .res 2] 1 0 p with
  | some k => some k
  | none => indexBad p

def opTdsAdmit : OpSpec :=
  { OpSpec.list headTdsAdmit [.any 2, .res 2] 1 0 2 1 511 4 fun s c =>
      if !tablesReady s then .refuse stCONDITIONS 1 s else runIndices admitOne c.p (u16 c.p 0) 0 s with
    check := indexCheck, doms := tdsDoms, busy := tdsBusy 0x0213 }

def opTdsWithdraw : OpSpec :=
  { OpSpec.list headTdsWithdraw [.any 2, .res 2] 1 0 2 1 511 4 fun s c =>
      if !tablesReady s then .refuse stCONDITIONS 1 s else runIndices withdrawOne c.p (u16 c.p 0) 0 s with
    check := indexCheck, doms := tdsDoms, busy := tdsBusy 0x0213 }

def applyTdsConfig (p : Bytes) (s : Hw) : Hw :=
  setSums (((s.setFld TDS_CFG_cap (u8 p 0)).setFld TDS_CFG_budget_lanes (u8 p 1)).setFld TDS_CFG_pol_tol (u8 p 2))

def opTdsConfig : OpSpec :=
  { OpSpec.fix headTdsConfig [.rng 1 0 250, .rng 1 1 4, .rng 1 0 15, .res 1] fun s c =>
      if !tablesReady s then .refuse stCONDITIONS 1 s
      else match recheck s { s.terms with cap := u8 c.p 0, lanes := u8 c.p 1, tol := u8 c.p 2 } with
        | some (st, det) => .refuse st det s
        | none => .ok (applyTdsConfig c.p s) with
    doms := tdsDoms, busy := tdsBusy 0x0213, objs := fun _ => [0] }

/-- A new D (R325): a mismatch with the peer's that it makes is reported. -/
def applyTdsDelay (p : Bytes) (s : Hw) : Hw :=
  let was := fun g => delayDiffers s g
  let s := setSums (s.setNum TDS_DELAY (u32 p 0))
  s.each [0, 1] fun g s => s.cond (delayDiffers s g && !was g) fun s => s.raise 0x0A07 [g, s.num TDS_DELAY, (s.grp g).delay.getD 0]

/-- A new D below the minimum of a published group is refused (R324). DEDUCED (log 77): with no class C flow on the group M is 0. -/
def delayLow (s : Hw) (d : Nat) : Bool :=
  [0, 1].any fun g => s.flag (peerValid g) && decide (d < minDelay s g (maxC s g))

def opTdsDelaySet : OpSpec :=
  { OpSpec.fix headTdsDelaySet [.rng 4 2000 250000] fun s c =>
      let d := u32 c.p 0
      let t := { s.terms with delay := d }
      if !tablesReady s then .refuse stCONDITIONS 1 s
      else if skewNeed t (allSums s t) > t.skew then .refuse stREFUSED 0x0A01 s
      else if delayLow s d then .refuse stREFUSED 0x0A04 s
      else
        let s := applyTdsDelay c.p s
        .ok (s.each [0, 1] fun g s => s.cond (s.stage g == 5) fun s => sendDelay s g) with
    check := fun _ p => if u32 p 0 < 2000 ∨ u32 p 0 > 250000 ∨ u32 p 0 % 4 ≠ 0 then some 1 else none
    doms := tdsDoms, busy := tdsBusy 0x0213, objs := fun _ => [0] }

def applyTdsBuf (p : Bytes) (s : Hw) : Hw :=
  setSums ((s.setFld TDS_BUF_skew (u16 p 0)).setFld TDS_BUF_elastic (16128 - u16 p 0))

def opTdsBufConfig : OpSpec :=
  { OpSpec.fix headTdsBufConfig [.rng 2 0 16128, .res 2] fun s c =>
      if !tablesReady s then .refuse stCONDITIONS 1 s
      else match recheck s { s.terms with skew := u16 c.p 0 } with
        | some (st, det) => .refuse st det s
        | none => .ok (applyTdsBuf c.p s) with
    doms := tdsDoms, busy := tdsBusy 0x0213, objs := fun _ => [0] }

def tdsCounters : List Nat :=
  [TDS_UNPROM, TDS_UNPROM + 1, TDS_LATE_C_TX, TDS_LATE_C_RX, TDS_LATE_B, TDS_POL_DEMOTE, TDS_POL_DROP, TDS_NOPATH,
    TDS_STORE_DROP, TDS_BE_DROP, TDS_DISPLACED]

def tdsAdmRegs : List Nat :=
  [TDS_DEM_OWN 0, TDS_DEM_OWN 1, TDS_DEM_SB 0, TDS_DEM_SB 1, TDS_LIMIT 0, TDS_LIMIT 1, TDS_FLOWS, TDS_SKEW_USE]

def tdsRegs : List Nat := [TDS_CFG, TDS_DELAY, TDS_BUF, TDS_STATUS, TDS_LATCH] ++ tdsAdmRegs ++ tdsCounters

def opTdsStatusRead : OpSpec :=
  OpSpec.fix headTdsStatusRead [.msk 1 1] fun s c =>
    .ok (s.cond (hasBit (u8 c.p 0) 0) fun s => (s.zeroRegs tdsCounters).setFld TDS_SKEW_USE_peak 0)
      (s.wordsAt tdsRegs ++ s.dtimeBytes)

/-! ### What happens (R325, R342) -/

/-- A DELAY cell (R325): a D that differs from the local one is reported when it first does. -/
def delayReceived (g d : Nat) (s : Hw) : Hw :=
  if !framing s g then s
  else
    let differs := d != s.num TDS_DELAY
    let s := s.cond (differs && (s.grp g).delay != some d) fun s => s.raise 0x0A07 [g, s.num TDS_DELAY, d]
    s.updGrp g fun x => { x with delay := some d }

def delayPeriod (g : Nat) (s : Hw) : Hw := if s.stage g = 5 then sendDelay s g else s

/-- The settings take their stored values, or those of a cold start where none are stored (R342). -/
def restoreTds (s : Hw) : Hw :=
  let stored := fun (op : Nat) => adoptedBody s (op * 65536)
  let put := fun op (a : Nat) (f : Bytes → Hw → Hw) (s : Hw) => match stored op with
    | some p => f p s
    | none => s.coldRegs [a]
  put 0x0A05 TDS_BUF applyTdsBuf (put 0x0A04 TDS_DELAY applyTdsDelay (put 0x0A03 TDS_CFG applyTdsConfig s))

/-! ### Frames in reassembly (R327, R330, R347) -/

def Hw.asm (s : Hw) (i : Nat) : Asm := Map.get {} s.tds.asm i
def updAsm (s : Hw) (i : Nat) (f : Asm → Asm) : Hw := { s with tds := { s.tds with asm := Map.upd {} s.tds.asm i f } }

/-- How far sequence number `q` lies after `a`. -/
def seqAfter (a q : Nat) : Nat := (q + 65536 - a) % 65536

/-- The cells of the frame whose start cell this is (R188). -/
def startSize (c : ACell) : Nat := cellsOf (u16 c.payload 0 % 2 ^ 14)

/-- The start cell whose frame takes in sequence number `q`. -/
def startOf (cells : List ACell) (q : Nat) : Option ACell := cells.find? fun c => c.start && decide (seqAfter c.seq q < startSize c)

/-- The cells of the frame of `c`, in the order of their acceptance: those that its start cell's length takes in, or, before that has come,
those of its release field that no start cell takes in (DEDUCED: log 76). -/
def mates (cells : List ACell) (c : ACell) : List ACell :=
  match startOf cells c.seq with
  | some d => cells.filter fun x => decide (seqAfter d.seq x.seq < startSize d)
  | none => cells.filter fun x => x.fld == c.fld && (startOf cells x.seq).isNone

/-- The frames in progress. -/
def asmFrames (cells : List ACell) : List (List ACell) := (cells.map (mates cells)).eraseDups

/-- Does a cell belong to a frame that has been dropped? -/
def DeadFrame.takes (d : DeadFrame) (seq fld : Nat) : Bool :=
  match d.size with
  | some n => decide (seqAfter d.seq seq < n)
  | none => fld == d.fld && decide (seqAfter d.seq seq < 33 ∨ seqAfter seq d.seq < 33)

/-- A dropped frame is remembered while a cell of it could still be accepted: within a frame and the window of R346, and, of one whose length
is not known, within half the window of its release field. -/
def DeadFrame.lasts (d : DeadFrame) (last now : Nat) : Bool :=
  decide (seqAfter d.seq last < 66 ∨ 0x8000 ≤ seqAfter d.seq last) && (d.size.isSome || decide (now < d.time + 131072))

/-- A frame goes, and its later cells with it (R330). -/
def dropFrame (s : Hw) (i : Nat) (frame : List ACell) : Hw :=
  match (frame.find? ACell.start).orElse fun _ => frame.head? with
  | none => s
  | some c =>
    let d : DeadFrame := ⟨c.seq, if c.start then some (startSize c) else none, c.fld, s.dtime⟩
    updAsm s i fun x => { cells := x.cells.filter fun c => !frame.contains c, dead := x.dead ++ [d] }

/-- A class that the skew store holds: class C, and duplicated flows until their frame is whole (R334). -/
def inSkew (cx : Nat) : Bool := cxClass cx == 2 || cxPath cx == 4

/-- Cells take the next `n` places of the cell buffer, in rotation over its 16 banks (R336, Table 17-4): the first of them. -/
def takePlaces (s : Hw) (n : Nat) : Nat × Hw := (s.tds.place, { s with tds := { s.tds with place := s.tds.place + n } })

/-- The bank of a place. -/
def placeBank (k : Nat) : Nat := k % 16

/-- D14 powers up (R340, R342): no admission, empty stores, registers of Tables 09-9 to 09-11 at their start. -/
def tdsPowerUp (s : Hw) : Hw :=
  let s := s.zeroRegs ([TDS_LATCH] ++ tdsAdmRegs ++ tdsCounters)
  let s := restoreTds { s with tds := {} }
  s.each [0, 1] fun g s => s.updGrp g fun x => { x with tq := [], be := [], beRx := [] }

end Sys2Proof.Machine
end

