-- ==== Sys2Proof/Machine/Host.lean ====
section
/-!
DEFINITION. Host lanes and ports (07): the port map, lane and port states, and the HSL and HPC commands.
-/
namespace Sys2Proof.Machine
open Reg

def Hw.port (s : Hw) (p : Nat) : Port := Map.get {} s.host.ports p

def hslStatus (l : Nat) : Nat := HSL_STATUS (l / 4) (l % 4)
def hrxLos (l : Nat) : Fld := HSL_STATUS_los (l / 4) (l % 4)
def hrxLock (l : Nat) : Fld := HSL_STATUS_lock (l / 4) (l % 4)
def htxPll (l : Nat) : Fld := HSL_STATUS_pll_lock (l / 4) (l % 4)

/-- Host lanes of a rate code (Table 07-1). -/
def rateLanes (r : Nat) : Nat := 2 ^ r

/-- An entry of the port map (R257). -/
structure MapEntry where
  enable : Bool
  rate   : Nat
  first  : Nat
  group  : Nat
  line   : Nat
  deriving DecidableEq, Repr

def Hw.mapEntry (s : Hw) (p : Nat) : MapEntry :=
  ⟨s.flag (HPC_PORT_enable p), s.fld (HPC_PORT_rate p), s.fld (HPC_PORT_first_lane p), s.fld (HPC_PORT_group p),
    s.fld (HPC_PORT_line_lane p)⟩

def MapEntry.lanes (e : MapEntry) : List Nat := (List.range (rateLanes e.rate)).map (e.first + ·)

/-- The host lanes of port `p`. -/
def portLanes (s : Hw) (p : Nat) : List Nat := (s.mapEntry p).lanes

/-- The quads of a list of lanes. -/
def quadsOf (ls : List Nat) : List Nat := (List.range 4).filter fun q => ls.any fun l => l / 4 == q

def quadDomains (ls : List Nat) : List Nat := (quadsOf ls).map (8 + ·)

def portEnabled (s : Hw) (p : Nat) : Bool := s.flag (HPC_PORT_enable p)

/-! ### The map's rules (R257, R258) -/

/-- Table 07-1's rule on the first lane, within lanes 0 to 15. -/
def firstLaneOk (e : MapEntry) : Bool :=
  decide (e.first % rateLanes e.rate = 0 ∧ e.first + rateLanes e.rate ≤ 16)

def sharesLane (a b : MapEntry) : Bool := a.lanes.any fun l => b.lanes.contains l

/-- The mode that the map is checked against: the one in force, or else the preferred one. -/
def mapMode (s : Hw) (g : Nat) : Nat := budgetMode s g

/-- The sum of the rates of a group's enabled ports, in 200 Gb/s. -/
def groupRate (es : List MapEntry) (g : Nat) : Nat :=
  sumN ((es.filter fun e => e.enable && e.group == g).map fun e => rateLanes e.rate)

/-- A group's rule of R258. -/
def mapFits (s : Hw) (es : List MapEntry) (g : Nat) : Bool :=
  let on := es.filter fun e => e.enable
  let mine := on.filter fun e => e.group == g
  match mapMode s g with
  | 0 => decide (groupRate es g ≤ 8)
  | 1 => decide (groupRate es g ≤ 4)
  | _ =>
    if s.fld (LFM_CFG_c2_layout g) = 0 then
      mine.all fun e => e.rate == 0 && e.line / 4 == g && ((mine.filter fun f => f.line == e.line).length == 1)
    else match on with
      | [e] => e.rate == 3
      | _ => false

/-- The map with entry `p` replaced. -/
def mapWith (s : Hw) (p : Nat) (e : MapEntry) : List MapEntry :=
  (List.range 8).map fun i => if i = p then e else s.mapEntry i

/-! ### Commands (Table 07-2) -/

def hostMask (p : Bytes) : List Nat := bitsOf 16 (u16 p 0)

/-- The stored equaliser setting of lane `l`. -/
def applyHslEq (l : Nat) (p : Bytes) (s : Hw) : Hw :=
  let q := l / 4
  let i := l % 4
  ((s.setFld (HSL_TXEQ_pre q i) (u8 p 2)).setFld (HSL_TXEQ_post q i) (u8 p 3)).setFld (HSL_TXEQ_amp q i) (u8 p 4)

def opHslEqSet : OpSpec :=
  { OpSpec.fix headHslEqSet [.nzm 2 0xFFFF, .rng 1 0 7, .rng 1 0 7, .rng 1 0 3] fun s c =>
      .ok (s.each (hostMask c.p) fun l s => applyHslEq l c.p s) with
    doms := fun _ p => quadDomains (hostMask p)
    conc := fun _ p r => r.opcode == 0x0701 && !((quadsOf (hostMask p)).any fun q => (quadsOf (hostMask r.req.params)).contains q)
    objs := hostMask }

def opHslStatusRead : OpSpec :=
  { OpSpec.fix headHslStatusRead [.any 2] fun s c =>
      .ok s ((hostMask c.p).flatMap (fun l => s.wordsAt [HSL_TXEQ (l / 4) (l % 4), hslStatus l]) ++ s.dtimeBytes) with
    doms := fun _ p => quadDomains (hostMask p) }

def applyHslConfig (p : Bytes) (s : Hw) : Hw := s.setFld HSL_CFG_wake_hrx0 (bit (u8 p 0) 0)

def opHslConfig : OpSpec :=
  { OpSpec.fix headHslConfig [.msk 1 1] fun s c => .ok (applyHslConfig c.p s) with objs := fun _ => [0] }

def entryOf (p : Bytes) : MapEntry := ⟨hasBit (u8 p 1) 0, u8 p 2, u8 p 3, u8 p 4, u8 p 5⟩

def applyPort (p : Bytes) (s : Hw) : Hw :=
  let i := u8 p 0
  let e := entryOf p
  let s := ((s.setFlag (HPC_PORT_enable i) e.enable).setFld (HPC_PORT_rate i) e.rate).setFld (HPC_PORT_first_lane i) e.first
  (s.setFld (HPC_PORT_group i) e.group).setFld (HPC_PORT_line_lane i) e.line

/-- The frames in reassembly of a flow that leave by port `p`. -/
def asmFor (s : Hw) (i p : Nat) : List (List ACell) := (asmFrames (s.asm i).cells).filter fun f => f.head?.any fun c => cxPort c.cx == p

/-- The frames that the device holds for a port that is disabled are discarded and counted (R260): those that came in by it and wait for
cells or slots, and those that would leave by it, whole or not. DEDUCED (log 120): of a best-effort frame of which cells have left the next
sequence number is passed over, so that the peer finds the gap of R190. -/
def dropHeld (s : Hw) (p : Nat) : Hw :=
  let mine := fun (f : BeFrame) => f.port == p
  let begun := fun g => (s.grp g).be.any fun f => mine f && decide (f.off ≠ 0)
  let timed := (([0, 1].flatMap fun g => (s.grp g).tq).filter fun c => c.port == p).map TCell.frame
  let inRx := fun g => (Map.get {} (s.grp g).beRx p).len.isSome
  let flows := s.tds.asm.map Prod.fst
  let n := sumN ([0, 1].map fun g => ((s.grp g).be.filter mine).length + (if inRx g then 1 else 0)) + timed.eraseDups.length +
    (s.port p).q.length + (s.tds.store.filter fun f => f.port == p).length + sumN (flows.map fun i => (asmFor s i p).length)
  let s := s.each [0, 1] fun g s => s.updGrp g fun x =>
    { x with be := x.be.filter fun f => !mine f
             tq := x.tq.filter fun c => c.port != p
             beSeq := if begun g then Map.upd 0 x.beSeq p (fun q => (q + 1) % 65536) else x.beSeq
             beRx := Map.upd {} x.beRx p fun r => { next := r.next, sync := true } }
  let s := s.each flows fun i s => (asmFor s i p).foldl (fun s f => dropFrame s i f) s
  let s := updPort s p fun x => { x with q := [] }
  { s with tds := { s.tds with store := s.tds.store.filter fun f => f.port != p } }.count (HPC_RX_DROP p) n

def opHpcPortSet : OpSpec :=
  { OpSpec.fix headHpcPortSet [.rng 1 0 7, .msk 1 1, .rng 1 0 3, .rng 1 0 15, .rng 1 0 1, .rng 1 0 7] fun s c =>
      let i := u8 c.p 0
      let e := entryOf c.p
      let old := s.mapEntry i
      let es := mapWith s i e
      if old.enable && { e with enable := true } != old then .refuse stCONDITIONS 1 s
      else if !firstLaneOk e then .refuse stCONDITIONS 2 s
      else if e.enable && (List.range 8).any fun j => j != i && (s.mapEntry j).enable && sharesLane e (s.mapEntry j) then
        .refuse stCONDITIONS 3 s
      else if !([0, 1].all fun g => mapFits s es g) then .refuse stCONDITIONS 4 s
      else
        let w := s.num (HPC_PORT i)
        let s := applyPort c.p s
        let s := s.cond (w != s.num (HPC_PORT i)) fun s => s.raise 0x0806 [i, w, s.num (HPC_PORT i)]
        let s := s.cond (e.enable && !old.enable) fun s => updPort s i fun x => { x with since := s.dtime }
        let s := s.cond (!e.enable && old.enable) fun s => (dropHeld s i).setFld (HPC_PORT_STATUS_aligned i) 0
        .ok s with
    doms := fun _ p => if hasBit (u8 p 1) 0 && firstLaneOk (entryOf p) then quadDomains (entryOf p).lanes else []
    conc := fun _ p r => r.opcode == 0x0801 && u8 p 0 != u8 r.req.params 0
    objs := fun p => [u8 p 0] }

def opHpcPortRead : OpSpec :=
  OpSpec.fix headHpcPortRead [.rng 1 0 7] fun s c =>
    .ok s (s.wordsAt [HPC_PORT (u8 c.p 0), HPC_PORT_STATUS (u8 c.p 0)] ++ s.dtimeBytes)

/-- The words of Table 07-7 of a port. -/
def hpcCounters (p : Nat) : List Nat := (List.range 10).map (HPC_RX_FRAMES p + ·)

def opHpcCountRead : OpSpec :=
  OpSpec.fix headHpcCountRead [.rng 1 0 7, .msk 1 1] fun s c =>
    let l := hpcCounters (u8 c.p 0)
    .ok (s.cond (hasBit (u8 c.p 1) 0) fun s => s.zeroRegs l) (s.wordsAt l ++ s.dtimeBytes)

def applyHpcPtp (p : Bytes) (s : Hw) : Hw := s.setFld HPC_PTP_CFG_en (u8 p 0)

def opHpcPtpConfig : OpSpec :=
  { OpSpec.fix headHpcPtpConfig [.any 1] fun s c => .ok (applyHpcPtp c.p s) with objs := fun _ => [0] }

/-! ### Lanes and ports (R249 to R252, R262) -/

/-- A port loses alignment (R262). -/
def loseAlignment (p : Nat) (s : Hw) : Hw :=
  if !s.flag (HPC_PORT_STATUS_aligned p) then s
  else
    let bad := sumN (((portLanes s p).filter fun l => s.flag (hrxLos l) || !s.flag (hrxLock l)).map fun l => 2 ^ l)
    let s := (s.setFld (HPC_PORT_STATUS_aligned p) 0).setFld (HPC_PORT_STATUS_align_lost p) 1
    (updPort s p fun x => { x with since := s.dtime }).raise 0x0801 [p, bad]

/-- Enabled ports that use lane `l`. -/
def portsOn (s : Hw) (l : Nat) : List Nat :=
  (List.range 8).filter fun p => portEnabled s p && (portLanes s p).contains l

def hrxLossOfSignal (l mv : Nat) (s : Hw) : Hw :=
  if !s.ready (8 + l / 4) || s.flag (hrxLos l) || decide (mv ≥ 50) then s
  else (s.setFld (hrxLos l) 1).raise 0x0701 [l, mv]

def hrxSignalRestored (l mv : Nat) (s : Hw) : Hw :=
  if !s.ready (8 + l / 4) || !s.flag (hrxLos l) || decide (mv ≤ 75) then s else s.setFld (hrxLos l) 0

def hrxLockLost (l : Nat) (s : Hw) : Hw :=
  if !s.flag (hrxLock l) then s
  else
    let s := (s.setFld (hrxLock l) 0).raise 0x0702 [l]
    s.each (portsOn s l) loseAlignment

def hrxLockRegained (l : Nat) (s : Hw) : Hw :=
  if !s.ready (8 + l / 4) || s.flag (hrxLock l) || !s.refOk 0 then s else s.setFld (hrxLock l) 1

/-- 100 µs above 75 mVppd on HRX0 (R252). -/
def hrx0Wake (mv : Nat) (s : Hw) : Hw :=
  if s.domState 8 = 0 ∧ s.flag HSL_CFG_wake_hrx0 ∧ 75 < mv then (s.wake 8 3).raise 0x0703 else s

/-- The PLLs of quad `q` lock once it is ready and HREF is accepted (R250, R251); the quad is then ready for analogue
work. -/
def hostPllLock (q : Nat) (s : Hw) : Hw :=
  if !s.ready (8 + q) || !s.refOk 0 || s.flag (htxPll (4 * q)) then s
  else (s.each (groupLanes q) fun l s => s.setFld (htxPll l) 1).setFld (PWR_DOM_analog (8 + q)) 1

/-- The quads down in their held state, HREF rejected, or not yet out of it (R251). -/
def quadHeld (s : Hw) (q : Nat) : Bool := hasBit s.host.held q

/-- Is one of the port's quads held down? -/
def portHeld (s : Hw) (p : Nat) : Bool := (quadsOf (portLanes s p)).any (quadHeld s)

/-- HREF is rejected (R251): every ready quad is held down, its PLLs lose lock and its ports lose alignment. -/
def holdQuads (s : Hw) : Hw :=
  let m := sumN (((List.range 4).filter fun q => s.ready (8 + q)).map fun q => 2 ^ q)
  let h := s.host
  let s : Hw := { s with host := { h with hrefAt := some (h.hrefAt.getD s.dtime), held := h.held ||| m, hit := h.hit ||| m } }
  let s := s.each (List.range 16) fun l s => s.setFld (htxPll l) 0
  s.each ((List.range 8).filter fun p => portEnabled s p) loseAlignment

/-- A quad leaves the held state once HREF has been accepted for 10 ms, its PLLs have relocked and its enabled ports have realigned, or
its domain is no longer ready (R251). -/
def quadLeaves (s : Hw) (q : Nat) : Bool :=
  let ok := Map.get 0 s.pwr.refOkSince 0
  !s.ready (8 + q) ||
    (s.refOk 0 && decide (ok ≠ 0 ∧ ok - 1 + 10000000 ≤ s.dtime) && s.flag (htxPll (4 * q)) &&
      (List.range 8).all fun p => !portEnabled s p || !(quadsOf (portLanes s p)).contains q || s.flag (HPC_PORT_STATUS_aligned p))

/-- Quads leave the held state as they can (R251); event 0x0803 once the last has left. -/
def hostQuadRestore (s : Hw) : Hw :=
  match s.host.hrefAt with
  | none => s
  | some t =>
    let left := sumN (((List.range 4).filter fun q => quadHeld s q && !quadLeaves s q).map fun q => 2 ^ q)
    let hit := s.host.hit
    if left = 0 ∧ s.refOk 0 then
      { s with host := { s.host with hrefAt := none, held := 0, hit := 0 } }.raise 0x0803 [(s.dtime - t) / 1000, hit]
    else { s with host := { s.host with held := left } }

/-- Port `p` has alignment-marker lock and deskew: it is aligned when every one of its lanes is locked (R262). -/
def portAligned (p : Nat) (s : Hw) : Hw :=
  if portEnabled s p && !s.flag (HPC_PORT_STATUS_aligned p) && s.refOk 0 &&
      (portLanes s p).all fun l => s.ready (8 + l / 4) && s.flag (hrxLock l) then
    (s.setFld (HPC_PORT_STATUS_aligned p) 1).raise 0x0802 [p, (s.dtime - (s.port p).since) / 1000]
  else s

/-! ### What HTX sends (R250, R263) -/

/-- The port's line PHY is aligned in C2. -/
def c2PortAligned (s : Hw) (p : Nat) : Bool :=
  let e := s.mapEntry p
  if s.fld (LFM_CFG_c2_layout (e.line / 4)) = 0 then s.num (LNK_LSTAGE (e.line / 4)) / 16 ^ (e.line % 4) % 8 == 5
  else s.stage 0 == 5 && s.stage 1 == 5

/-- The line lanes of a port in C2 (R202, R257). -/
def c2Lanes (s : Hw) (p : Nat) : List Nat :=
  let e := s.mapEntry p
  if s.fld (LFM_CFG_c2_layout (e.line / 4)) = 0 then [e.line] else List.range 8

/-- A condition of R263 holds for port `p`. -/
def cannotDeliver (s : Hw) (p : Nat) : Bool :=
  let g := s.fld (HPC_PORT_group p)
  !s.ready 14 || (if s.mode g = 2 then !c2PortAligned s p else s.stage g != 5 || s.flag (LFM_STATUS_far_core_lost g))

/-- Lane `l` sends the end of a frame of a port that has been disabled (R260). -/
def frameEnds (s : Hw) (l : Nat) : Bool :=
  (List.range 8).any fun p => (portLanes s p).contains l && decide (s.dtime * 64 < (s.port p).free)

/-- A condition of the squelched state of R250 holds for lane `l`. -/
def htxSquelched (s : Hw) (l : Nat) : Bool :=
  !s.ready (8 + l / 4) || !s.flag (htxPll l) || !s.refOk 0 || quadHeld s (l / 4) || ((portsOn s l).isEmpty && !frameEnds s l)

/-- In C2 the device sends Local Fault ordered sets on the line lanes of the port (R264). -/
def c2LineFault (s : Hw) (p : Nat) : Bool :=
  portEnabled s p && s.mode (s.fld (HPC_PORT_group p)) == 2 && (!s.ready 14 || !s.flag (HPC_PORT_STATUS_aligned p))

def settleHostLane (s : Hw) (l : Nat) : Hw :=
  let q := htxSquelched s l
  let f := !q && (portsOn s l).any fun p => cannotDeliver s p
  (s.setFlag (HSL_STATUS_squelch (l / 4) (l % 4)) q).setFlag (HSL_STATUS_local_fault (l / 4) (l % 4)) f

/-- Squelch and local fault follow their conditions at once. -/
def settleHost (s : Hw) : Hw :=
  let s := s.each (List.range 16) fun l s => settleHostLane s l
  let s := s.each (List.range 8) fun p s =>
    s.setFlag (HPC_PORT_STATUS_local_fault p)
      (portEnabled s p && cannotDeliver s p && (portLanes s p).any fun l => !htxSquelched s l)
  s.each (List.range 8) fun p s => updPort s p fun x => { x with lineFault := c2LineFault s p }

/-- The quad's domain powers up: its lanes start as at cold start, and its ports realign. -/
def quadPowerUp (s : Hw) (q : Nat) : Hw :=
  let s := s.each (List.range 8) fun p s =>
    s.cond ((quadsOf (portLanes s p)).contains q) fun s => s.setFld (HPC_PORT_STATUS_aligned p) 0
  s.coldRegs ((groupLanes q).map hslStatus)

end Sys2Proof.Machine
end

