-- ==== Sys2Proof/Machine/Timing.lean ====
section
/-!
DEFINITION. Clockless timing (03): pace commands, operating points and AVSBus moves, speed readings and alarms, suspension,
references and the source of DTIME, and the time transfer that publishes the peer's offset.
-/
namespace Sys2Proof.Machine
open Reg

/-! ### Voltage moves (R105 to R109, R112) -/

/-- VCORE of an operating point in mV (Table 03-1). -/
def opMv (op : Nat) : Nat := opVcore op

/-- The next voltage towards the goal, at most 10 mV away (R106). -/
def nextMv (v goal : Nat) : Nat := if v < goal then min goal (v + 10) else max goal (v - 10)

def setMove (s : Hw) (m : Option VMove) : Hw :=
  { s.setFlag PWR_OP_STATUS_moving m.isSome with pwr := { s.pwr with move := m } }

/-- Begin a move to point `target`; at the same voltage it is settled at once. -/
def beginMove (s : Hw) (auto : Bool) (target : Nat) (endCeil : Option Nat) : Hw :=
  let v := s.fld PWR_OP_STATUS_vcore_mv
  let goal := opMv target
  let same := v == goal
  let m : VMove := { auto := auto, origin := s.fld PWR_OP_STATUS_current, target := target, goal := goal,
                     cmdMv := nextMv v goal, startMv := v, startCeil := s.ceiling, endCeil := endCeil,
                     settled := if same then some s.dtime else none, asked := !same }
  let s := setMove (s.setFld PWR_OP_STATUS_target target) (some m)
  s.cond (!same) fun s => s.emit (.avs m.cmdMv)

/-- Is a domain from D00 to D14 in alarm? -/
def alarmed (s : Hw) : Bool := decide (s.fld PWR_SPD_STATUS_alarm % 2 ^ 15 ≠ 0)

/-- An automatic raise begins when it is called for and nothing stands against it (R112, R117). -/
def autoRaise (s : Hw) : Hw :=
  let cur := s.fld PWR_OP_STATUS_current
  if alarmed s && s.flag PWR_SPD_CFG_auto_raise && cur != 0 && s.pwr.move.isNone &&
      !waiting s (fun r => r.wait == .opMove) then beginMove s true (cur - 1) none
  else s

def isMove (r : RunCmd) : Bool := r.wait == .opMove

/-- A command's move ends: the outcome, and an automatic raise that waited. -/
def endMove (s : Hw) (status detail : Nat) : Hw :=
  autoRaise (setOutcome (setMove s none) isMove status detail)

/-- Turn a move back towards its start (R108, R109): a step that the regulator has still to answer is waited for first (R106). Event 0x0214 carries 0 for a move that ends TIMEOUT: Table 03-11 gives the number
of a CONDITIONS only (DESIGN CHOICE: log entry 91). -/
def rollBack (s : Hw) (m : VMove) (status detail : Nat) : Hw :=
  let s := s.raise 0x0214 [m.target, if status = stCONDITIONS then detail else 0]
  let m := { m with goal := m.startMv, settled := none, aborted := some (status, detail) }
  let v := nextMv m.cmdMv m.startMv
  if m.asked then setMove s (some m)
  else if m.cmdMv = m.startMv then setMove s (some { m with settled := some s.dtime })
  else (setMove s (some { m with cmdMv := v, asked := true })).emit (.avs v)

/-- Abort a commanded move with a CONDITIONS number. -/
def abortMove (s : Hw) (k : Nat) : Hw :=
  match s.pwr.move with
  | some m => if m.auto || m.aborted.isSome then s else rollBack s m stCONDITIONS k
  | none => s

/-- The domains that give readings (R96): all but those off, waking, stopped, testing or fenced. -/
def reading (s : Hw) (d : Nat) : Bool := (s.ready d || s.domState d == 3) && !s.fenced d

/-- The conditions of R106 after the voltage has settled. -/
def moveSettled (s : Hw) (m : VMove) : Bool :=
  match m.settled with
  | none => false
  | some t => decide (t + 50000 ≤ s.dtime) && (m.auto || m.aborted.isSome ||
      (List.range 15).all fun d => !s.ready d || s.fenced d || hasBit m.reads d)

/-- A commanded move completes when R106 holds; one that was rolled back answers with its abort (R108). -/
def tryEndMove (s : Hw) : Hw :=
  match s.pwr.move with
  | none => s
  | some m =>
    if m.auto || !moveSettled s m then s
    else match m.aborted with
      | some (st, det) => endMove (s.setFld TDS_PACE_ceiling m.startCeil) st det
      | none =>
        let s := s.setFld PWR_OP_STATUS_current m.target
        let s := match m.endCeil with
          | some c => s.setFld TDS_PACE_ceiling c
          | none => s
        endMove s stOK 0

/-- The regulator reports a step complete, with its read-back in mV (R106). -/
def avsStepDone (mv : Nat) (s : Hw) : Hw :=
  match s.pwr.move with
  | none => s
  | some m =>
    let s := s.setFld PWR_OP_STATUS_vcore_mv mv
    if m.cmdMv ≠ m.goal then
      let v := nextMv m.cmdMv m.goal
      (setMove s (some { m with cmdMv := v, asked := true })).emit (.avs v)
    else
      let near := decide (mv ≤ m.goal + 8 ∧ m.goal ≤ mv + 8)
      tryEndMove (setMove s (some { m with asked := false, settled := if near then some (m.settled.getD s.dtime) else none,
                                           reads := if m.settled.isNone then 0 else m.reads }))

/-- The point of highest VCORE that does not exceed `mv` (R109). -/
def pointOf (mv : Nat) : Nat := ((List.range 4).find? fun op => decide (opMv op ≤ mv)).getD 3

/-- The start checks of a move in the order of R108. -/
def moveCheck (s : Hw) (target ceil : Nat) : Option (Nat × Nat) :=
  if target > s.fld TDS_PACE_floor then some (stCONDITIONS, 1)
  else if opGuaranteed target < ceil then some (stINTERLOCK, target)
  else if s.pwr.lehr.isSome then some (stCONDITIONS, 4)
  else if target > s.fld PWR_OP_STATUS_current && alarmed s then some (stCONDITIONS, 2)
  else none

/-- PWR_OP_SET and PWR_OP_MOVE, once no automatic raise is stepping. -/
def startOp (s : Hw) (opc : Nat) (p : Bytes) : Res :=
  let target := u8 p 0
  let ceil := if opc = 0x0211 then s.ceiling else u16 p 1
  match moveCheck s target ceil with
  | some (st, det) => .refuse st det s
  | none =>
    let lowering := decide (target > s.fld PWR_OP_STATUS_current)
    let s' := beginMove s false target (if opc = 0x0211 then none else some ceil)
    .wait .opMove (s'.cond (opc == 0x0212 && lowering) fun s => s.setFld TDS_PACE_ceiling ceil)

def opBody (opc : Nat) (s : Hw) (p : Bytes) : Res :=
  match s.pwr.move with
  | some _ => .wait .opMove s
  | none => startOp s opc p

/-- An automatic raise has ended: the command that waited for it runs, or the next raise begins (R112, R117). After an AVSBus fault the
spec does not say whether PWR tries again while an alarm stands: the next raise begins at once (DESIGN CHOICE: log entry 109). -/
def afterRaise (s : Hw) : Hw :=
  match s.cmd.running.find? fun r => isMove r && r.outcome.isNone with
  | none => autoRaise s
  | some r =>
    match startOp s r.opcode (coreParams r.req) with
    | .done st det pl s' => autoRaise (setOutcome s' (fun x => x.id == r.id) st det pl)
    | .wait _ s' => s'

/-- An automatic raise has settled: event 0x0213, then what waited. -/
def autoRaiseComplete (s : Hw) : Hw :=
  match s.pwr.move with
  | none => s
  | some m =>
    if !m.auto || !moveSettled s m then s
    else afterRaise ((setMove (s.setFld PWR_OP_STATUS_current m.target) none).raise 0x0213 [m.origin, m.target])

/-- An AVSBus fault: the last acknowledged VCORE is held (R109). The ceiling of an automatic raise is the one in force: a pace command
may have changed it since the raise began. -/
def avsFault (mv status : Nat) (s : Hw) : Hw :=
  let s := s.raise 0x0217 [mv, status]
  match s.pwr.move with
  | none => s
  | some m =>
    let op := pointOf mv
    let s := (s.setFld PWR_OP_STATUS_vcore_mv mv).setFld PWR_OP_STATUS_current op
    let s := s.setFld TDS_PACE_ceiling (min (if m.auto then s.ceiling else m.startCeil) (opGuaranteed op))
    if m.auto then afterRaise (setMove s none)
    else match m.aborted with
      | some (st, det) => endMove s st det
      | none => endMove (s.raise 0x0214 [m.target, 3]) stCONDITIONS 3

/-- A move that an accepted command has begun and that meets R106 by now ends, whether or not a domain gives readings. -/
def settleMove (s : Hw) : Hw := tryEndMove s

/-! ### Speed readings, alarms and suspension (R96, R111 to R118) -/

/-- The alarm bit of a domain, and its latch when the bit is set by a reading. Whether a latch bit that is cleared while its status bit
stands sets again the spec does not say: that of D00 to D14, of limited and of suspended stays clear until the status is set anew,
that of D15 to D18 is set by the next reading below the threshold (DESIGN CHOICE: log entry 110). -/
def setAlarm (s : Hw) (d : Nat) (v : Bool) : Hw :=
  let s := s.setFld PWR_SPD_STATUS_alarm (setBit (s.fld PWR_SPD_STATUS_alarm) d v)
  s.cond v fun s => s.setFld PWR_SPD_LATCH_alarm (setBit (s.fld PWR_SPD_LATCH_alarm) d true)

def inAlarm (s : Hw) (d : Nat) : Bool := hasBit (s.fld PWR_SPD_STATUS_alarm) d

/-- A domain leaves alarm, and its next readings are judged afresh; with the last of D00 to D14 the limit may go (R111, R113). -/
def leaveAlarm (s : Hw) (d : Nat) : Hw :=
  let s : Hw := { s with pwr := { s.pwr with okSince := Map.put 0 s.pwr.okSince d 0 } }
  if !inAlarm s d then s
  else
    let s := setAlarm s d false
    if d < 15 && !alarmed s && s.flag PWR_SPD_CFG_auto_restore then s.setFld PWR_SPD_STATUS_limited 0 else s

/-- Every margin of D00 to D14 stands at or above crit + hyst. -/
def marginsOk (s : Hw) : Bool :=
  let lim : Int := s.fld PWR_SPD_CFG_crit + s.fld PWR_SPD_CFG_hyst
  (List.range 15).all fun d => !reading s d || decide (lim ≤ s.fldS (PWR_SPD_MARGIN_margin d))

/-- A first reading below the alarm threshold in D00 to D14 (R111, R115). -/
def enterAlarm (s : Hw) (d : Nat) (m : Int) : Hw :=
  let before := s.fld TDS_PACE_current
  let s := setAlarm s d true
  let s := (s.setFld PWR_SPD_STATUS_limited 1).setFld PWR_SPD_LATCH_limited 1
  let s := s.raise 0x0210 [d, enc 32 m, before]
  let s := match s.pwr.move with
    | some v => s.cond (!v.auto && decide (v.target > v.origin)) fun s => abortMove s 2
    | none => s
  autoRaise s

/-- A reading of domain `d`: its sustainable pace, in per mille (R96). In D15 to D18 the first reading below the threshold records event
0x0210, not every one; "while the pace is at the pace floor" is both groups' own pace, the peer's advertisement left out, at or below
their floors (DESIGN CHOICE: log entry 91). While DTIME runs from the oscillator no reading suspends the promise (R91). Which pace
event 0x0211 carries where the groups' paces differ the spec does not say: the higher of the two (DESIGN CHOICE: log entry 108). -/
def speedReading (d sustain : Nat) (s : Hw) : Hw :=
  if d > 18 || !reading s d then s
  else
    let pace := max (groupPace s 0) (groupPace s 1)
    let m := clampI (-1024) 1023 ((sustain : Int) - pace)
    let atFloor := [0, 1].all fun g => decide (ownPace s g ≤ groupFloor s g)
    let s := s.setFldS (PWR_SPD_MARGIN_margin d) m
    let s := s.cond (decide (m < s.fldS (PWR_SPD_MARGIN_min_margin d))) fun s => s.setFldS (PWR_SPD_MARGIN_min_margin d) m
    let alarm : Int := s.fld PWR_SPD_CFG_alarm
    if d ≥ 15 then
      if m < alarm then
        (setAlarm s d true).cond (!inAlarm s d) fun s => s.raise 0x0210 [d, enc 32 m, s.fld TDS_PACE_current]
      else setAlarm s d false
    else
      let s := s.cond (!inAlarm s d && decide (m < alarm)) fun s => enterAlarm s d m
      let ok := decide (alarm + s.fld PWR_SPD_CFG_hyst ≤ m)
      let since := Map.get 0 s.pwr.okSince d
      let start := if since = 0 then s.dtime + 1 else since
      let marks := Map.put 0 s.pwr.okSince d (if ok then start else 0)
      let s := { s with pwr := { s.pwr with okSince := marks } }
      let s := s.cond (!s.flag PWR_SPD_STATUS_suspended && atFloor && s.fld PWR_DTIME_SRC_source != 3 && decide (m < s.fld PWR_SPD_CFG_crit)) fun s =>
        let s := (s.setFld PWR_SPD_STATUS_suspended 1).setFld PWR_SPD_LATCH_suspended 1
        let s := s.raise 0x0211 [d, enc 32 m, pace]
        { s with pwr := { s.pwr with susAt := s.dtime, susUp := false,
                                     susLim := [0, 1].foldl (fun l g => Map.put 1000 l g (ownPace s g)) [] } }
      match s.pwr.move with
      | some v =>
        if v.settled.isSome && decide (alarm ≤ m) then
          tryEndMove { s with pwr := { s.pwr with move := some { v with reads := setBit v.reads d true } } }
        else s
      | none => s

/-- 10 ms of readings at or above alarm + hyst (R111). -/
def speedAlarmEnd (d : Nat) (s : Hw) : Hw :=
  let since := Map.get 0 s.pwr.okSince d
  if inAlarm s d && d < 15 && since != 0 && decide (since - 1 + 10000000 ≤ s.dtime) then leaveAlarm s d else s

/-- Every 2 µs of a suspension (R114). While DTIME runs from the oscillator the pace is not lowered, and the end of a suspension that began
before records no event (R91). -/
def suspensionStep (s : Hw) : Hw :=
  if !s.flag PWR_SPD_STATUS_suspended then s
  else
    let ok := marginsOk s
    let lim := fun g => Map.get 1000 s.pwr.susLim g
    if ok then
      let l := [0, 1].foldl (fun l g => Map.put 1000 l g (min (groupFloor s g) (lim g + 50))) s.pwr.susLim
      let s := { s with pwr := { s.pwr with susLim := l, susUp := true } }
      if [0, 1].all fun g => decide (groupFloor s g ≤ Map.get 1000 l g) then
        let s := (s.setFld PWR_SPD_STATUS_suspended 0).cond (s.fld PWR_DTIME_SRC_source != 3) fun s =>
          s.raise 0x0212 [(s.dtime - s.pwr.susAt) / 1000]
        { s with pwr := { s.pwr with susLim := [], susUp := false } }
      else s
    else if s.pwr.susUp ∨ s.fld PWR_DTIME_SRC_source = 3 then s
    else { s with pwr := { s.pwr with susLim := [0, 1].foldl (fun l g => Map.put 1000 l g (max 250 (lim g - 50))) s.pwr.susLim } }

/-! ### References and DTIME (R89, R91, R125, R251, R587, R588) -/

/-- The source that a reference gives: PWR_DTIME_SRC numbers LREFA 0, LREFB 1, HREF 2, the oscillator 3. -/
def sourceRef (src : Nat) : Nat := if src = 0 then 1 else if src = 1 then 2 else 0

/-- DTIME moves to another source: the step is at most 1 ns and the spec states no more of it, a free value. From the oscillator on, the
promise waits for 16 exchanges made since the return (R91). -/
def changeSource (s : Hw) (src : Nat) : Hw :=
  let old := s.fld PWR_DTIME_SRC_source
  if src = old then s
  else
    let (r, s) := s.free
    let s := (s.setFld PWR_DTIME_SRC_source src).raise 0x0215 [old, src, r % 65]
    s.cond (src == 3 || old == 3) fun s => s.each [0, 1] fun g s => s.updGrp g fun x => { x with fresh := false, exch := 0, exchOffs := 0 }

/-- The most preferred source whose reference is accepted. -/
def bestSource (s : Hw) : Nat := ([0, 1, 2].find? fun src => s.refOk (sourceRef src)).getD 3

/-- A reference is rejected: the source of DTIME, the group of a line reference, the host quads for HREF. -/
def rejectRef (s : Hw) (r : Nat) : Hw :=
  if !s.refOk r then s
  else
    let s := s.setFld (PWR_REF_accepted r) 0
    let s := { s with pwr := { s.pwr with refOkSince := Map.put 0 s.pwr.refOkSince r 0 } }
    let s := s.cond (sourceRef (s.fld PWR_DTIME_SRC_source) == r && s.fld PWR_DTIME_SRC_source != 3) fun s =>
      changeSource s (bestSource s)
    if r = 0 then holdQuads s
    else
      let g := r - 1
      let s := s.updGrp g fun x => { x with flags := x.flags ||| 2 }
      let s := settleStatus s g
      let s := s.cond (framing s g) fun s => flushOam s g
      let s := s.each (groupLanes g) fun n s =>
        let s := s.cond (s.flag (LTX_STATUS_pll_lock n)) fun s => (s.setFld (LTX_STATUS_pll_lock n) 0).raise 0x0301 [n]
        s.cond (s.flag (LRX_STATUS_cdr_lock n)) fun s => (dropLock s n).raise 0x0402 [n, enc 32 (s.fldS (LRX_FREQ_offset n))]
      loseGroup s g 1

/-- The median of three. -/
def median (a b c : Int) : Int := max (min a b) (min (max a b) c)

/-- What each present reference's offset is measured against (R587): the frequencies of HREF, LREFA and LREFB against the
internal oscillator, in 0.1 ppm. -/
def refBase (ps : List Int) : Int :=
  match ps with
  | [a, b, c] => median a b c
  | [a, b] => (a + b) / 2
  | _ => 0

/-- Reference `r` is out of range, or absent, at this moment: what a new acceptance is counted from (R588). -/
def refOut (s : Hw) (r : Nat) : Hw := { s with pwr := { s.pwr with refBad := Map.put 0 s.pwr.refBad r (s.dtime + 1) } }

/-- Is a measurement due: 100 µs after the last (R587)? -/
def measureDue (s : Hw) : Bool := s.pwr.measAt.all fun t => decide (t + 100000 ≤ s.dtime)

/-- A measurement of the present references, every 100 µs (R587). -/
def referenceMeasure (h a b : Int) (s : Hw) : Hw :=
  if !measureDue s then s
  else
  let s : Hw := { s with pwr := { s.pwr with measAt := some s.dtime } }
  let f := fun r => if r = 0 then h else if r = 1 then a else b
  let present := [0, 1, 2].filter fun r => s.flag (PWR_REF_present r)
  let base := refBase (present.map f)
  let lone := present.length == 1
  let apart := match present.map f with
    | [x, y] => decide ((x - y).natAbs > 3000)
    | _ => false
  s.each present fun r s =>
    let o := f r - base
    let s := s.setFldS (PWR_REF_offset r) (clampI (-32768) 32767 o)
    s.cond (apart || decide (o.natAbs > if lone then 11500 else 1500)) fun s => rejectRef (refOut s r) r

/-- A reference below 150 mVppd for 1 µs. -/
def referenceAbsent (r : Nat) (s : Hw) : Hw := rejectRef (refOut (s.setFld (PWR_REF_present r) 0) r) r

/-- Has reference `r` been in range for 10 ms without a break, as far as the measurements tell (R588)? -/
def refGood (s : Hw) (r : Nat) : Bool :=
  let t := Map.get 0 s.pwr.refBad r
  t == 0 || decide (t - 1 + 10000000 ≤ s.dtime)

/-- A rejected reference has been present and in range for 10 ms (R588). -/
def referenceAccepted (r : Nat) (s : Hw) : Hw :=
  if s.refOk r || !refGood s r then s
  else
    let s := (s.setFld (PWR_REF_present r) 1).setFld (PWR_REF_accepted r) 1
    let s := { s with pwr := { s.pwr with refOkSince := Map.put 0 s.pwr.refOkSince r (s.dtime + 1) } }
    if r = 0 then s else enterIfEnabled s (r - 1)

/-- A preferred source has been accepted for 1 s (R89). -/
def dtimeSourceReturn (s : Hw) : Hw :=
  let cur := s.fld PWR_DTIME_SRC_source
  let ok := fun src =>
    let t := Map.get 0 s.pwr.refOkSince (sourceRef src)
    s.refOk (sourceRef src) && decide (t = 0 ∨ t - 1 + 1000000000 ≤ s.dtime)
  match [0, 1, 2].find? ok with
  | some src => if src < cur then changeSource s src else s
  | none => s

/-! ### Time transfer (R92 to R95, R198, R199) -/

/-- A time-transfer payload (Table 05-10). -/
def timePayload (s : Hw) (a b c seq : Nat) : Bytes :=
  sealPayload (toBE 8 a ++ toBE 8 b ++ toBE 8 c ++ toBE 2 seq ++ zeros 2 ++ toBE 4 (s.num LNK_TAG))

/-- Queue a time-transfer cell for a position of lane `p` (R192); its departure stamp is put in as it leaves, `frac` 1/64 ns into its
nanosecond (R198). -/
def sendTime (s : Hw) (g p kind seq frac : Nat) (payload : Bytes) : Hw :=
  queueCell s g ⟨2, .lane p, cellHeader 6 g (kind * 2 ^ 16 + p * 2 ^ 14) seq 0, payload, some (p, seq, frac, kind == 1)⟩

/-- Every 1 ms on each active lane a request is queued. -/
def timeTick (n frac : Nat) (s : Hw) : Hw :=
  let g := laneGroup n
  let p := n % 4
  if framing s g && decide (4 ≤ s.stage g) && hasBit (s.txMask g) p then
    let q := (Map.get 0 (s.grp g).ttSeq p + 1) % 65536
    let s := s.updGrp g fun x => { x with ttSeq := Map.put 0 x.ttSeq p q }
    sendTime s g p 1 q frac (timePayload s 0 0 0 0)
  else s

/-- A request arrives, `frac` 1/64 ns into its nanosecond, and is answered at the lane's next position, at most 20 µs later. -/
def timeRequest (n t1 seq frac depart : Nat) (s : Hw) : Hw :=
  let g := laneGroup n
  let p := n % 4
  if framing s g && hasBit (s.fld (LFM_STATUS_am_lock g)) p then
    sendTime s g p 2 seq depart (timePayload s 0 (fine s frac) t1 seq)
  else s

/-- The mean of a list of doubled values, rounded down; the spec states no rounding. -/
def meanHalf (l : List Int) : Int := l.foldl (· + ·) 0 / (2 * (l.length : Int))

/-- The 16 most recent raw offsets of the group's active lanes (R93). -/
def recentOffs (s : Hw) (g : Nat) : List Int :=
  (((s.grp g).offs.filter fun e => hasBit (s.txMask g) e.1).map Prod.snd).take 16

/-- The published offsets of the last second, newest first, with one more (R94). -/
def driftWith (s : Hw) (g : Nat) (o : Int) : List (Nat × Int) :=
  (s.dtime, o) :: (s.grp g).drift.filter fun e => decide (s.dtime < e.1 + 1000000000)

/-- Are the 16 offsets that the mean is taken from all of exchanges made since DTIME last changed to or from the oscillator? -/
def offsFresh (s : Hw) (g : Nat) : Bool :=
  decide (16 ≤ (((s.grp g).offs.take (s.grp g).exchOffs).filter fun e => hasBit (s.txMask g) e.1).length)

/-- Publish an offset, and the path delay: the largest mean delay over the active lanes (R93). The promise may stand again once the
offset comes from 16 exchanges made since DTIME left the oscillator (R91). -/
def publish (s : Hw) (g : Nat) (l : List Int) : Hw :=
  let dly := (bitsOf 4 (s.txMask g)).foldl (fun (m : Int) p =>
    let l := Map.get [] (s.grp g).dlys p
    if l.isEmpty then m else max m (meanHalf l)) 0
  let o := meanHalf l
  let s := (s.setNum64 (PWR_PEER_OFS g) (enc 64 o)).setNum (PWR_PATH_DLY g) (enc 32 dly)
  (s.setFld (peerValid g) 1).updGrp g fun x =>
    { x with drift := driftWith s g o,
             fresh := x.fresh || (offsFresh s g && s.fld PWR_DTIME_SRC_source != 3) }

/-- One exchange's doubled raw offset and delay (R92): stamps in serial arithmetic modulo 2^64. -/
def exchange (s : Hw) (g t1 t2 t3 t4 : Nat) : Int × Int :=
  let a := sx 64 ((t2 + 2 ^ 64 - t1) % 2 ^ 64)
  let b := sx 64 ((t4 + 2 ^ 64 - t3) % 2 ^ 64)
  (a - b - s.int (PWR_ASYM g), a + b)

/-- An answer completes an exchange on lane `n`. A raw offset more than 20 ns from the published one is set aside; eight of them in a
row on one side are published in its place (R95). -/
def timeAnswer (n t1 t2 t3 seq frac : Nat) (s : Hw) : Hw :=
  let g := laneGroup n
  let p := n % 4
  if !(framing s g && decide (4 ≤ s.stage g)) || Map.get none (s.grp g).ttOut p != some (seq, t1) then s
  else
    let (o, d) := exchange s g t1 t2 t3 (fine s frac)
    let s := s.updGrp g fun x =>
      { x with ttOut := Map.put none x.ttOut p none, dlys := Map.put [] x.dlys p ((d :: Map.get [] x.dlys p).take 16)
               exch := x.exch + 1 }
    let valid := s.flag (peerValid g)
    let ofs := sx 64 (s.num64 (PWR_PEER_OFS g))
    if valid && decide ((o - 2 * ofs).natAbs > 2560) then
      let same := match (s.grp g).aside with
        | [] => true
        | (_, q) :: _ => decide (q > 2 * ofs) == decide (o > 2 * ofs)
      let l := if same then (p, o) :: (s.grp g).aside else [(p, o)]
      let s := (s.updGrp g fun x => { x with aside := l }).raise 0x0216 [g, enc 32 ((o - 2 * ofs) / 2), 0]
      if l.length ≥ 8 then
        let s := s.updGrp g fun x => { x with offs := l, aside := [], drift := [], exchOffs := min l.length x.exch }
        let s := publish s g (l.map Prod.snd)
        s.raise 0x0216 [g, enc 32 (meanHalf (l.map Prod.snd) - ofs), 1]
      else s
    else
      let s := s.updGrp g fun x => { x with offs := ((p, o) :: x.offs).take 64, aside := [], exchOffs := min 64 (x.exchOffs + 1) }
      let l := recentOffs s g
      tryReady (if !l.isEmpty && (valid || decide (l.length ≥ 16)) then publish s g l else s) g

/-- The peer's offset now: the published one, carried on with the rate ratio between the oldest and the newest offset published in
the last second (R94; the estimator is a DESIGN CHOICE: log entry 95). -/
def peerOffset (s : Hw) (g : Nat) : Int :=
  let last := sx 64 (s.num64 (PWR_PEER_OFS g))
  match (s.grp g).drift with
  | (t1, o1) :: rest =>
    match rest.getLast? with
    | some (t0, o0) => if t1 ≤ t0 then last else last + (o1 - o0) * ((s.dtime : Int) - t1) / ((t1 : Int) - t0)
    | none => last
  | [] => last

/-! ### Commands (Table 03-3) -/

/-- Timing commands exclude one another, and none of the domain commands (R117, R547). -/
def timingConc : Hw → Bytes → RunCmd → Bool := fun _ _ r => decide (r.opcode < 0x0210)

def opPwrPaceSet : OpSpec :=
  { OpSpec.fix headPwrPaceSet [.any 2] fun s c =>
      let n := u16 c.p 0
      let cur := s.fld PWR_OP_STATUS_current
      if n > opGuaranteed cur then .refuse stINTERLOCK cur s
      else
        let s := s.setFld TDS_PACE_ceiling n
        .ok (if alarmed s then s else s.setFld PWR_SPD_STATUS_limited 0) with
    check := fun s p => if u16 p 0 < 250 ∨ u16 p 0 > 1000 ∨ u16 p 0 < localFloor s then some 1 else none
    conc := timingConc }

/-- What a command that waits for an automatic raise would answer: its start checks as they stand once that raise has ended (R52). -/
def foreseeOp (opc : Nat) (s : Hw) (p : Bytes) : Nat × Nat :=
  match s.pwr.move with
  | some m =>
    if m.auto then
      (moveCheck (s.setFld PWR_OP_STATUS_current m.target) (u8 p 0) (if opc = 0x0211 then s.ceiling else u16 p 1)).getD (stOK, 0)
    else (stOK, 0)
  | none => (stOK, 0)

def opPwrOpSet : OpSpec :=
  { OpSpec.fix headPwrOpSet [.rng 1 0 3] (fun s c => opBody 0x0211 s c.p) with conc := timingConc, foresee := foreseeOp 0x0211 }

def opPwrOpMove : OpSpec :=
  { OpSpec.fix headPwrOpMove [.rng 1 0 3, .any 2] fun s c => opBody 0x0212 s c.p with
    check := fun s p =>
      if u8 p 0 > 3 then some 1
      else if u16 p 1 < 250 ∨ u16 p 1 > 1000 ∨ u16 p 1 < localFloor s then some 2 else none
    conc := timingConc
    foresee := foreseeOp 0x0212 }

/-- R110. -/
def opPwrFloorSet : OpSpec :=
  { OpSpec.fix headPwrFloorSet [.rng 1 0 3] fun s c =>
      let f := u8 c.p 0
      if f < s.fld PWR_OP_STATUS_current then .refuse stCONDITIONS 1 s
      else match recheck s { s.terms with floor := opGuaranteed f } with
        | some (st, det) => .refuse st det s
        | none =>
          let s := s.setFld TDS_PACE_floor f
          .ok (s.cond (decide (s.ceiling < opGuaranteed f)) fun s => s.setFld TDS_PACE_ceiling (opGuaranteed f)) with
    conc := timingConc
    busy := fun s p => tdsBusy 0x0A01 s p || tdsBusy 0x0A02 s p || tdsBusy 0x0A03 s p || tdsBusy 0x0A04 s p || tdsBusy 0x0A05 s p }

def opPwrSpeedCfg : OpSpec :=
  { OpSpec.fix headPwrSpeedCfg [.any 1, .any 1, .rng 1 1 63, .msk 1 7] fun s c =>
      let s := ((s.setFld PWR_SPD_CFG_alarm (u8 c.p 0)).setFld PWR_SPD_CFG_crit (u8 c.p 1)).setFld PWR_SPD_CFG_hyst (u8 c.p 2)
      let f := u8 c.p 3
      let s := (s.setFld PWR_SPD_CFG_auto_raise (bit f 0)).setFld PWR_SPD_CFG_auto_restore (bit f 1)
      .ok (s.cond (hasBit f 2) fun s => s.each (List.range 19) fun d s => s.setFld (PWR_SPD_MARGIN_min_margin d) 0x3FF) with
    check := fun _ p =>
      if u8 p 1 ≥ u8 p 0 then some 2 else runChks [.any 1, .any 1, .rng 1 1 63, .msk 1 7] 1 0 p
    conc := timingConc }

def opPwrSpeedRead : OpSpec :=
  OpSpec.fix headPwrSpeedRead [] fun s _ => .ok s (s.wordsAt (PWR_SPD_STATUS :: (List.range 19).map PWR_SPD_MARGIN))

/-- DTIME's fraction is not kept between stamps: a free value of 6 bits. -/
def opPwrTimeRead : OpSpec :=
  OpSpec.fix headPwrTimeRead [] fun s _ =>
    let (r, s) := s.free
    .ok s (toBE 8 (fine s (r % 64)) ++ toBE 1 (s.fld PWR_DTIME_SRC_source) ++ zeros 3 ++
      [0, 1].flatMap fun g => s.words (PWR_PEER_OFS g) 2 ++ s.words (PWR_PATH_DLY g) 1 ++ toBE 1 (s.fld (peerValid g)) ++ zeros 3)

end Sys2Proof.Machine
end

