-- ==== Sys2Proof/Machine/Data.lean ====
section
/-!
DEFINITION. The data path (05, 07, 08, 09, 10): host frames and their classes, policing and cell assembly, the slots of the
pace governor, cells received, elimination and reassembly, the stores, and frames sent to the host.
-/
namespace Sys2Proof.Machine
open Reg

/-! ### Frames -/

/-- A good FCS: the last four bytes are CRC-32 of the rest, least significant byte first. -/
def fcsGood (b : Bytes) : Bool := decide (4 ≤ b.length) && fcsOf (b.take (b.length - 4)) == b.drop (b.length - 4)

def frameDst (b : Bytes) : Nat := un b 0 6
def frameTagged (b : Bytes) : Bool := u16 b 12 == 0x8100
/-- VLAN identifier; 0 for an untagged frame. -/
def frameVid (b : Bytes) : Nat := if frameTagged b then u16 b 14 % 4096 else 0
/-- Where the payload begins, after at most one VLAN tag, and the EtherType before it. -/
def frameBody (b : Bytes) : Nat := if frameTagged b then 18 else 14
def frameType (b : Bytes) : Nat := u16 b (frameBody b - 2)

def ptpFrame (b : Bytes) : Bool := frameType b == 0x88F7
def ptpVersion (b : Bytes) : Nat := u8 b (frameBody b + 1) % 16

/-- An event message of version 2 (R269). -/
def ptpEvent (b : Bytes) : Bool := ptpFrame b && ptpVersion b == 2 && decide (u8 b (frameBody b) % 16 ≤ 3)

/-- `b` with `d` added to the correctionField and a new FCS (R271); `d` in units of 2^-16 ns, modulo 2^64. -/
def ptpAdd (b : Bytes) (d : Int) : Bytes :=
  let o := frameBody b + 8
  let v := enc 64 ((un b o 8 : Int) + d)
  let c := b.take o ++ toBE 8 v ++ (b.drop (o + 8)).take (b.length - o - 12)
  c ++ fcsOf c

/-- Correct a frame on port `p`, where its enable bit is set (R269, R271). -/
def ptpCorrect (s : Hw) (p : Nat) (b : Bytes) (d : Int) : Bytes × Hw :=
  if ptpEvent b && hasBit (s.fld HPC_PTP_CFG_en) p then (ptpAdd b d, s.count (HPC_PTP_CORR p)) else (b, s)

/-- A PTP frame of another version passes unaltered (R269). -/
def ptpNote (s : Hw) (p : Nat) (b : Bytes) : Hw :=
  if ptpFrame b && ptpVersion b != 2 then s.raiseOnce 0x0807 p [p, ptpVersion b] else s

/-! ### The stores (R333 to R335) -/

/-- Elasticity places in use, both directions together. -/
def elasticUsed (s : Hw) : Nat :=
  sumN ([0, 1].map fun g => sumN ((s.grp g).be.map fun f => cellsOf f.bytes.length)) +
    sumN ((List.range 8).map fun p =>
      sumN (((s.port p).q.filter fun f => !f.timed && f.grp != 2).map fun f => cellsOf f.bytes.length))

/-- A frame enters the elasticity store whole at its first place, or is dropped (R335); `dir` 0 to the line, 1 to the host. -/
def intoElastic (s : Hw) (dir len : Nat) (put : Nat → Hw → Hw) : Hw :=
  if elasticUsed s + cellsOf len ≤ s.fld TDS_BUF_elastic then
    let (k, s) := takePlaces s (cellsOf len)
    put k s
  else ((s.count TDS_BE_DROP).setFld TDS_LATCH_be_drop 1).countSec 0x0A09 0 1 dir

/-- Skew places in use: frames held for release, and cells of class C or duplicated flows (R334). -/
def skewUsed (s : Hw) : Nat :=
  sumN (s.tds.store.map fun f => f.places.length) + sumN (s.tds.asm.map fun e => (e.2.cells.filter fun c => inSkew c.cx).length)

def setPeak (s : Hw) : Hw := s.setFld TDS_SKEW_USE_peak (max (s.fld TDS_SKEW_USE_peak) (skewUsed s))

/-! ### From the host: classification (R255, R256, R266) -/

/-- Frames pass between the host and the line only through D14 (R35). -/
def bestEffortFrame (s : Hw) (p : Nat) (b : Bytes) : Hw :=
  if !s.ready 14 then s
  else intoElastic s 0 b.length fun k s =>
    s.updGrp (s.fld (HPC_PORT_group p)) fun x => { x with be := x.be ++ [{ port := p, place := k, bytes := b }] }

/-- Host FEC codewords since the last frame (R255). -/
def countFec (s : Hw) (p corr uncorr : Nat) : Hw :=
  let s := (s.count (HPC_FEC_CORR p) corr).count (HPC_FEC_UNCORR p) uncorr
  if uncorr = 0 then s
  else
    let l := ((s.port p).fec.filter fun e => decide (s.dtime < e.1 + 1000000)) ++ [(s.dtime, uncorr)]
    let n := sumN (l.map (·.2))
    (updPort s p fun x => { x with fec := l }).cond (decide (n > 100)) fun s => s.raiseOnce 0x0804 p [p, n]

/-- The drops of R256; a frame kept is counted. -/
def keepFrame (s : Hw) (p : Nat) (b : Bytes) : Bool × Hw :=
  let bad := decide (64 ≤ b.length) && !fcsGood b
  let s := s.cond bad fun s => s.count (HPC_RX_FCS_ERR p)
  if bad || decide (b.length < 64 ∨ b.length > 16383) then (false, s.count (HPC_RX_DROP p))
  else (true, s.count64 (HPC_RX_FRAMES p))

/-- A group carries timed frames while it is in P5 in a native mode (R343). -/
def usableGroup (s : Hw) (g : Nat) : Bool := s.stage g == 5 && s.native g

/-- The groups that take the copies of a frame (Table 10-1). -/
def sendGroups (s : Hw) (path : Nat) : List Nat :=
  let u := fun g => usableGroup s g
  match path with
  | 0 => if u 0 then [0] else []
  | 1 => if u 1 then [1] else []
  | 4 => [0, 1].filter u
  | 2 => if u 0 && (!u 1 || !s.flag (reroutedFld 0)) then [0] else if u 1 then [1] else []
  | 3 => if u 1 && (!u 0 || !s.flag (reroutedFld 1)) then [1] else if u 0 then [0] else []
  | _ => []

/-- A device's latency terms A_in and A_out in ns (Table 09-3). -/
def latencyTerms (mode floor : Nat) : Nat × Nat :=
  if mode = 0 then
    if floor ≥ 1000 then (450, 690) else if floor ≥ 880 then (470, 710) else if floor ≥ 700 then (520, 760) else (640, 880)
  else
    if floor ≥ 1000 then (530, 820) else if floor ≥ 880 then (550, 840) else if floor ≥ 700 then (600, 890) else (720, 1010)

/-- Time of `n` bytes on a host port of rate code `r`, in 1/64 ns. -/
def hostTime (r n : Nat) : Nat := (n * 512 + 200 * 2 ^ r - 1) / (200 * 2 ^ r)

/-- Time of `k` slots (R320), in 1/64 ns. -/
def slotTime (s : Hw) (g k : Nat) : Nat :=
  let d := slotRate (budgetMode s g) * s.fld TDS_CFG_budget_lanes * groupFloor s g
  if d = 0 then 0 else k * 64000000000000 / d

/-- The moment that the release field of a frame names, in 1/64 ns of the peer's DTIME: R of R326 before its rounding, or
the class B deadline of R322. `t` is host-in in 1/64 ns. DESIGN CHOICE (log 79): the egress port stands at the peer, and its rate is
taken to be that of the port of entry. -/
def releaseMoment (s : Hw) (g p cls t len : Nat) : Int :=
  if cls = 2 then (t : Int) + 64 * s.num TDS_DELAY + peerOffset s g
  else
    let (i, o) := latencyTerms (budgetMode s g) (groupFloor s g)
    let r := s.fld (HPC_PORT_rate p)
    (t : Int) + 64 * (i + o) + hostTime r len + hostTime r 16383 + slotTime s g (cellsOf len - 1) + s.num (PWR_PATH_DLY g) +
      peerOffset s g

/-- The nearest multiple of 4 ns, ties upward, in units of 4 ns (R326). -/
def roundRelease (m : Int) : Int := (m + 128) / 256

/-- A frame's cell payloads (R188). -/
def frameCells (b : Bytes) : List Bytes :=
  (slice (toBE 2 b.length ++ b) 0 512) :: (List.range (cellsOf b.length - 1)).map fun k => slice b (510 + 512 * k) 512

/-- Do flows of this path policy prefer group `g` (R357, R358)? -/
def prefers (path g : Nat) : Bool := path == 2 + g

/-- The cells of a frame from port `p` wait for slots on a group, `q` its release moment in units of 4 ns. -/
def queueCells (s : Hw) (g p idx cls path seq : Nat) (q : Int) (dup : Bool) (b : Bytes) : Hw :=
  let latest := 256 * q - peerOffset s g - s.num (PWR_PATH_DLY g) - 12800
  let gap := cls == 1 && prefers path g && (s.grp g).revertAt != 0
  let cells := (frameCells b).zipIdx.map fun x =>
    TCell.mk idx cls path p s.tds.frameN (x.2 == 0) ((seq + x.2) % 65536) (enc 16 q) latest dup none gap x.1
  s.updGrp g fun x => { x with tq := x.tq ++ cells }

/-- Is the promise in force for a class on a group (R305, R325)? -/
def promised (s : Hw) (g cls : Nat) : Bool := s.flag (if cls = 2 then cpromFld g else promFld g)

/-- A frame that has passed the policer (R306, R307, R343, R344): a class C moment is rounded (R326), of a class B deadline the field takes
bits [17:2] (R186, R322). DEDUCED (log 80): the copies of a duplicated cell carry one release
field (R344), computed for the first group. -/
def assemble (s : Hw) (p idx t : Nat) (b : Bytes) : Hw :=
  let c := s.ctx idx
  let gs := sendGroups s (cxPath c)
  if gs.isEmpty then s.count TDS_NOPATH
  else
    let seq := cxTxSeq c
    let held := fun g => cxClass c == 1 && prefers (cxPath c) g && (s.grp g).revertAt != 0
    let ok := gs.any fun g => promised s g (cxClass c) && !held g
    let m := releaseMoment s (gs.headD 0) p (cxClass c) t b.length
    let q := if cxClass c = 2 then roundRelease m else m / 256
    let s := gs.foldl (fun s g => queueCells s g p idx (cxClass c) (cxPath c) seq q (gs.length == 2) b) s
    let s := { s with tds := { s.tds with frameN := s.tds.frameN + 1 } }
    let s := s.updCtx idx fun c => cset c 68 16 ((seq + cellsOf b.length) % 65536)
    if ok then s.pmc 0x040 else s.count64 TDS_UNPROM

/-- Flows policed in the present second, other than `idx` (R332). -/
def policedNow (s : Hw) (idx : Nat) : Nat :=
  (s.evr.counts.filter fun e => e.1 / 2 ^ 24 == 0x0A03 && e.2.1 == s.second && e.1 % 2 ^ 24 != idx).length

/-- The policer (R332): a conforming frame moves the stamp and goes on; another is dropped or demoted. -/
def police (s : Hw) (p idx t : Nat) (b : Bytes) : Hw :=
  let c := s.ctx idx
  let now := s.dtime / 512 % 2 ^ 19
  let e := (now + 2 ^ 19 - cxPolStamp c) % 2 ^ 19
  let ok := decide (b.length ≤ cxMaxFrame c) &&
    (cxPolAged c || decide (max 1 (cxMinIv c - s.fld TDS_CFG_pol_tol) ≤ e))
  if ok then assemble (s.setCtx idx (cset c 0 20 (now * 2))) p idx t b
  else
    let drop := cxPoliceDrop c
    let s := (s.setFld TDS_LATCH_policed 1).pmc 0x044
    let s := s.cond (decide (policedNow s idx < 16)) fun s => s.countSec 0x0A03 idx 1 (if drop then 1 else 0)
    if drop then s.count TDS_POL_DROP else bestEffortFrame (s.count TDS_POL_DEMOTE) p b

/-- Step 3 of R266: the key's flow, or best effort. -/
def timedFrame (s : Hw) (p t : Nat) (b : Bytes) : Hw :=
  match lookupKey s (frameDst b * 4096 + frameVid b) with
  | (none, s) => bestEffortFrame s p b
  | (some k, s) =>
    if slotClass (s.slot k) = 0 then bestEffortFrame s p b
    else
      let i := slotIndex (s.slot k)
      match cxState (s.ctx i) with
      | 2 => police s p i t b
      | 3 => s.count FLW_QUAR_DROP
      | 1 => bestEffortFrame (s.count FLW_UNADMIT) p b
      | _ => bestEffortFrame s p b

/-- In C2 a frame waits in the elasticity store for its line PHY (R34): its fine time of arrival, and the latency that the part adds
of itself. -/
def c2Frame (s : Hw) (p t res : Nat) (b : Bytes) : Hw :=
  if !s.ready 14 then s
  else intoElastic s 0 b.length fun k s =>
    s.updGrp (s.fld (HPC_PORT_group p)) fun x => { x with be := x.be ++ [{ port := p, since := some (t, res), place := k, bytes := b }] }

/-- The frames of a port that its line PHY has taken by now, one after another, each with its residence time (R34, R271). -/
def lineTakes : Nat → Nat → Hw → Hw
  | 0, _, s => s
  | n + 1, p, s =>
    let g := s.fld (HPC_PORT_group p)
    match (s.grp g).be.find? fun f => f.port == p with
    | none => s
    | some f =>
      let (t, res) := f.since.getD (s.dtime * 64, 0)
      let now := max t (s.port p).lineFree
      if s.dtime * 64 + 63 < now then s
      else
        let (b, s) := ptpCorrect s p f.bytes (((now - t + res) * 1024 : Nat))
        let s := s.updGrp g fun x => { x with be := x.be.erase f }
        let s := updPort s p fun x => { x with lineFree := now + hostTime (s.fld (HPC_PORT_rate p)) (b.length + 16) }
        let s := s.each (c2Lanes s p) fun l s =>
          let x := pcsFrame (s.fld (LFM_CFG_c2_layout g)) l (s.lane l).blocks b
          sendSymbols l x.1 (s.updLane l fun y => { y with blocks := x.2 })
        lineTakes n p (s.emit (.line p b))

/-- None before the PHY is aligned (R207, R236), nor while Local Fault goes out in their place (R264). -/
def settleC2 (p : Nat) (s : Hw) : Hw :=
  let g := s.fld (HPC_PORT_group p)
  if portEnabled s p && s.mode g == 2 && c2PortAligned s p && !c2LineFault s p then lineTakes (s.grp g).be.length p s else s

/-- A whole frame arrives on port `p` with the fraction of its fine timestamp, the codewords its FEC has corrected and
not corrected since the last frame, whether one of those touches it, and, for C2, the latency that the part adds of itself in 1/64 ns.
`command` serves a frame to CMD (step 1 of R266). -/
def hostFrame (command : Nat → Bytes → Hw → Hw) (p frac corr uncorr : Nat) (marked : Bool) (res : Nat) (b : Bytes)
    (s : Hw) : Hw :=
  if !portEnabled s p || !((portLanes s p).all fun l => s.ready (8 + l / 4)) then s
  else
    let s := countFec s p corr uncorr
    if marked || !s.flag (HPC_PORT_STATUS_aligned p) || portHeld s p then s
    else
      let (keep, s) := keepFrame s p b
      if !keep then s
      else if frameDst b = s.mac ∧ frameType b = s.fld CMD_CFG_inband_etype then command p b s
      else
        let s := ptpNote s p b
        let g := s.fld (HPC_PORT_group p)
        let t := s.dtime * 64 + frac
        if budgetMode s g = 2 then c2Frame s p (fine s frac) res b
        else if ptpFrame b then
          let (b, s) := ptpCorrect s p b (-(fine s frac * 1024 : Int))
          bestEffortFrame s p b
        else if tablesReady s && s.ready 14 then timedFrame s p t b
        else bestEffortFrame s p b

/-! ### Slots (R189, R317, R318, R337) -/

/-- The timed cell with the earliest latest-issue time; ties go to the one that waited first. -/
def pickTimed (held : Bool) : List TCell → Option TCell
  | [] => none
  | c :: l =>
    if held && c.gap then pickTimed held l
    else match pickTimed held l with
      | some d => if d.latest < c.latest then some d else some c
      | none => some c

/-- Fill what is left of a best-effort cell from the frames of one port: bytes so far, offset of the first length word. Where no frame
is left and two bytes are, the length word 0x0000 of the padding follows (R187, R189). -/
def fillCell : List BeFrame → Bytes → Option Nat → Bytes × Option Nat × List BeFrame
  | [], acc, lw => (acc, lw.orElse fun _ => if acc.length ≤ 510 then some acc.length else none, [])
  | f :: fs, acc, lw =>
    let room := 512 - acc.length
    if f.off = 0 ∧ room < 2 then (acc, lw, f :: fs)
    else
      let acc' := if f.off = 0 then acc ++ toBE 2 f.bytes.length else acc
      let lw := if f.off = 0 then lw.orElse (fun _ => some acc.length) else lw
      let off := if f.off = 0 then 2 else f.off
      let k := min (512 - acc'.length) (f.bytes.length - (off - 2))
      let acc' := acc' ++ (f.bytes.drop (off - 2)).take k
      if off + k = f.bytes.length + 2 then fillCell fs acc' lw else (acc', lw, { f with off := off + k } :: fs)

/-- The next best-effort cell of the port whose frame has waited longest. -/
def issueBest (s : Hw) (g : Nat) : Hw :=
  match (s.grp g).be with
  | [] => s
  | f :: _ =>
    let p := f.port
    let mine := (s.grp g).be.filter fun x => x.port == p
    let (data, lw, rest) := fillCell mine [] none
    let q := Map.get 0 (s.grp g).beSeq p
    let type := if lw = some 0 then 1 else 2
    let left := mine.length - rest.length
    let keep := fun (l : List BeFrame) =>
      (l.foldl (fun (x : List BeFrame × Nat × List BeFrame) e =>
        if e.port ≠ p then (x.1 ++ [e], x.2)
        else if x.2.1 > 0 then (x.1, x.2.1 - 1, x.2.2)
        else match x.2.2 with
          | r :: rs => (x.1 ++ [r], 0, rs)
          | [] => (x.1 ++ [e], 0, [])) ([], left, rest)).1
    let s := s.updGrp g fun x => { x with be := keep x.be, beSeq := Map.put 0 x.beSeq p ((q + 1) % 65536) }
    queueCell s g ⟨3, .any, cellHeader type g p q (lw.getD 0xFFFF), slice data 0 512, none⟩

/-- When a cell issued now reaches the far end: its issue time and its group's path delay, in 1/64 ns. -/
def arrives (s : Hw) (g : Nat) : Nat := s.dtime * 64 + s.num (PWR_PATH_DLY g)

/-- One copy of a duplicated cell is wasted (R337): the one that arrives later. DEDUCED (log 121): a copy is classed as it is issued, the
first one as wasted where its path is the longer, and moved to the other class if the second copy shows it otherwise. -/
def wastedCopy (s : Hw) (g : Nat) (c : TCell) : Bool :=
  c.dup && match c.mate with
    | some (a, _) => decide (a ≤ arrives s g)
    | none => decide (s.num (PWR_PATH_DLY g) > s.num (PWR_PATH_DLY (other g)))

/-- The class of the first copy, once the second shows which one is wasted. -/
def reclass (s : Hw) (g : Nat) (c : TCell) (w : Bool) : Hw :=
  let o := 8 * other g
  match c.mate with
  | some (_, v) => if v && w then s.pmcMove (0x011 + o) (0x010 + o) else if !v && !w then s.pmcMove (0x010 + o) (0x011 + o) else s
  | none => s

/-- Class C frames late, at the sender (place 0) or the receiver (1): counted, latched, and reported with the first flow
index and the count of the second (R330). -/
def noteLateC (s : Hw) (g place idx : Nat) : Hw :=
  let s := (s.count (if place = 0 then TDS_LATE_C_TX else TDS_LATE_C_RX)).setFld TDS_LATCH_late_c 1
  (s.pmc 0x045).countSec 0x0A01 (2 * g + place) 1 idx

/-- Issue a timed cell. -/
def issueTimed (s : Hw) (g : Nat) (c : TCell) : Hw :=
  let w := wastedCopy s g c
  let s := (reclass s g c w).updGrp g fun x =>
    { x with tq := x.tq.erase c, txEndB := if c.cls = 1 ∧ prefers c.path (other g) then s.dtime else x.txEndB }
  let s := s.cond c.dup fun s => s.updGrp (other g) fun x =>
    { x with tq := x.tq.map fun d => if d.frame = c.frame ∧ d.seq = c.seq then { d with mate := some (arrives s g, w) } else d }
  let s := (s.pmc ((if w then 0x011 else 0x010) + 8 * g)).pmc (0x020 + 8 * g)
  queueCell s g ⟨0, .any, cellHeader (if c.start then 3 else 4) g c.flow c.seq c.rel, c.payload, none⟩

/-- A slot, in the unit in which the governor counts: 10^-12 of one. -/
def wholeSlot : Nat := 1000000000000

/-- Time passes for the pace governor (R98, R100, R193): slots run up at the group's current pace of its full slot rate; one that is
due and one more can wait to be issued (DESIGN CHOICE: log entry 96). -/
def runSlots (dt g : Nat) (s : Hw) : Hw :=
  if !usableGroup s g || !s.ready 14 then s
  else s.updGrp g fun x => { x with credit := min (2 * wholeSlot) (x.credit + dt * fullSlotRate s g * groupPace s g) }

/-- The pace governor issues a slot to group `g` once its pace has one due; `takes` says whether LFM takes a cell that it may defer
(R183) or hold back in a remap. -/
def slotIssue (g : Nat) (takes : Bool) (s : Hw) : Hw :=
  if !usableGroup s g || !s.ready 14 || decide ((s.grp g).credit < wholeSlot) then s
  else
    let s := s.updGrp g fun x => { x with credit := x.credit - wholeSlot }
    let s := s.setNum64 (GTH_SLOTS g) ((s.num64 (GTH_SLOTS g) + 1) % 2 ^ 64)
    let s := s.pmc (0x014 + 8 * g)
    let x := s.grp g
    let remap := x.txRemap.isSome
    let filler := fun (s : Hw) (cls : Nat) => s.pmc (cls + 8 * g)
    match pickTimed (x.revertAt != 0) x.tq with
    | some c =>
      if !takes && remap then filler s 0x013
      else if c.cls = 2 ∧ c.latest < s.dtime * 64 then
        let s := s.updGrp g fun x => { x with tq := x.tq.filter fun d => d.frame != c.frame }
        filler (noteLateC s g 0 c.flow) 0x011
      else issueTimed s g c
    | none =>
      if x.be.isEmpty then filler s 0x012
      else if !takes && (remap || s.flag (LFM_STATUS_stuff_over g)) then filler s 0x013
      else ((issueBest s g).pmc (0x010 + 8 * g)).pmc (0x021 + 8 * g)

/-! ### Best-effort cells received (R187, R189, R190, R259) -/

/-- A cell or frame for a port that cannot take it (R259, R294). -/
def portMiss (s : Hw) (p g : Nat) : Hw :=
  ((s.count (HPC_PORT_MISS p)).setFld (HPC_PORT_STATUS_miss p) 1).raiseOnce 0x0805 p [p, g]

/-- A best-effort frame from group `g` goes to the queue of port `p`; one marked with a bad FCS is discarded (R256). -/
def toHost (s : Hw) (p g : Nat) (bad : Bool) (b : Bytes) : Hw :=
  if bad then s.count (HPC_RX_DROP p)
  else intoElastic s 1 b.length fun k s =>
    updPort s p fun x => { x with q := x.q ++ [{ came := s.dtime, timed := false, flow := 0, grp := g, place := k, bytes := b }] }

/-- Unpack a cell's payload from byte `pos` (R189): frames that end in it, oldest first, and the stream's state after it. -/
def unpack : Nat → Bytes → Nat → BeRx → List (Bool × Bytes) → List (Bool × Bytes) × BeRx
  | 0, _, _, x, out => (out, x)
  | fuel + 1, pl, pos, x, out =>
    match x.len with
    | none =>
      if pos + 2 > 512 then (out, x)
      else
        let w := u16 pl pos
        if w % 2 ^ 14 = 0 then (out, x)
        else unpack fuel pl (pos + 2) { x with len := some (w % 2 ^ 14), bad := hasBit w 15, data := [] } out
    | some n =>
      let k := min (n - x.data.length) (512 - pos)
      let d := x.data ++ (pl.drop pos).take k
      if d.length = n then unpack fuel pl (pos + k) { x with len := none, data := [] } (out ++ [(x.bad, d)])
      else (out, { x with data := d })

def bestCell (s : Hw) (g p seq rel : Nat) (pl : Bytes) : Hw :=
  if !s.ready 14 then s
  else if !portEnabled s p || s.fld (HPC_PORT_group p) != g then portMiss s p g
  else
    let x := Map.get {} (s.grp g).beRx p
    let gap := x.next.any fun q => q != seq
    let s := s.cond (gap && x.len.isSome) fun s => s.count (LFM_BE_GAP g)
    let x := if gap then { next := x.next, sync := true } else x
    let wait := x.sync || x.next.isNone
    let (out, x) :=
      if wait && rel == 0xFFFF then ([], { x with sync := true })
      else unpack 600 pl (if wait then rel else 0) { x with sync := false } []
    let s := s.updGrp g fun y => { y with beRx := Map.put {} y.beRx p { x with next := some ((seq + 1) % 65536) } }
    out.foldl (fun s f => toHost s p g f.1 f.2) s

/-! ### Timed cells received (R294, R327, R334, R345 to R347) -/

/-- Elimination (R346) of sequence number `seq` against a context: 0 accept, 1 second copy, 2 too old, and the context. -/
def eliminate (c seq : Nat) : Nat × Nat :=
  let last := cxRxLast c
  let hist := cxRxHist c
  let put := fun l h => cset (cset c 52 16 l) 20 32 h
  if hist = 0 then (0, put seq 1)
  else
    let d := (seq + 65536 - last) % 65536
    if d = 0 then (1, c)
    else if d < 0x8000 then (0, put seq (if d ≥ 32 then 1 else (hist * 2 ^ d ||| 1) % 2 ^ 32))
    else
      let back := 65536 - d
      if back ≥ 32 then (2, c)
      else if hasBit hist back then (1, c) else (0, put last (hist ||| 2 ^ back))

/-- The unique moment whose bits [17:2] are `r`, from `a` - 8192 to `a` + 253951 (R327). -/
def resolve (a : Nat) (r : Nat) : Int :=
  let base : Int := (a : Int) - 8192
  base + ((4 * r : Int) - base) % 262144

/-- A class C frame is late at the receiver (Table 09-4, R331). -/
def lateAtReceiver (s : Hw) (g i : Nat) (frame : List ACell) : Hw :=
  (noteLateC (dropFrame s i frame) g 1 i).cond (!promised s g 2) fun s => s.count64 TDS_UNPROM

/-- Sequence numbers that a frame still needs, as far as its cells tell. -/
def missing (cells : List ACell) : List Nat :=
  let have_ := cells.map fun c => c.seq
  match cells.find? fun c => c.start with
  | some c => ((List.range (cellsOf (u16 c.payload 0 % 2 ^ 14))).map fun k => (c.seq + k) % 65536).filter fun q => !have_.contains q
  | none => (have_.map fun q => (q + 65535) % 65536).filter fun q => !have_.contains q

/-- The bytes of a whole frame. -/
def joinCells (cells : List ACell) : Bytes :=
  match cells.find? fun c => c.start with
  | none => []
  | some c =>
    let n := u16 c.payload 0 % 2 ^ 14
    let rest := (List.range (cellsOf n - 1)).flatMap fun k =>
      match cells.find? fun d => d.seq == (c.seq + 1 + k) % 65536 with
      | some d => d.payload
      | none => []
    (c.payload.drop 2 ++ rest).take n

/-- Does a path policy name group `g`? -/
def pathGroup (path g : Nat) : Bool := decide (path ≥ 2) || path == g

/-- May a frame that came on group `g` leave by port `p`? DEDUCED (log 76): a port is "mapped to the other group" of R294 where it is mapped
neither to the group that the frame came on nor to one that the flow's path names, since a flow is taken from either group (R345) and its
rerouted and second copies leave too (R357). -/
def portTakes (s : Hw) (p g path : Nat) : Bool :=
  let m := s.fld (HPC_PORT_group p)
  portEnabled s p && (m == g || pathGroup path m)

/-- A whole timed frame (R294, R308, R328): to the skew store, or to the timed queue of its port. -/
def frameWhole (s : Hw) (i : Nat) (frame : List ACell) : Hw :=
  match frame with
  | [] => s
  | first :: _ =>
    let c := first.cx
    let p := cxPort c
    let g := first.grp
    let b := joinCells frame
    let s := updAsm s i fun x => { x with cells := x.cells.filter fun d => !frame.contains d }
    if ((frame.find? ACell.start).any fun c => hasBit (u16 c.payload 0) 15) then s.count (HPC_RX_DROP p)
    else if !portTakes s p g (cxPath c) then portMiss s p g
    else if cxClass c = 2 then
      setPeak { s with tds := { s.tds with store := s.tds.store ++ [⟨p, i, g, first.moment, frame.map ACell.place, b⟩] } }
    else if cxClass c = 1 then
      updPort s p fun x =>
        { x with q := x.q ++ [{ came := s.dtime, timed := true, flow := i, grp := g, deadline := some first.moment, prom := promised s g 1, bytes := b }] }
    else toHost s p g false b

/-- Frames of a flow of which a cell has fallen 32 or more behind without having been accepted are lost (R347). -/
def loseOld (s : Hw) (i : Nat) : Hw :=
  let last := cxRxLast (s.ctx i)
  (asmFrames (s.asm i).cells).foldl (fun s f =>
    let gone := (missing f).any fun q => let d := seqAfter q last; decide (32 ≤ d ∧ d < 0x8000)
    s.cond gone fun s => (dropFrame s i f).count RDN_FRAME_LOST) s

/-- An accepted cell joins its frame, which takes the moment and the class of its first cell (R308, R327). A class C frame that comes to be
late is dropped, and counted as lost if cells of it were held (R330, R347). -/
def joinFrame (s : Hw) (g i seq fld : Nat) (start : Bool) (pl : Bytes) : Hw :=
  let x := s.asm i
  if x.dead.any fun d => d.takes seq fld then s
  else
    let (k, s) := takePlaces s 1
    let new : ACell := ⟨seq, start, fld, resolve s.dtime fld, s.dtime, g, s.ctx i, k, pl⟩
    let first := (mates (x.cells ++ [new]) new).headD new
    let new := { new with moment := first.moment, cx := first.cx }
    let mine := mates (x.cells ++ [new]) new
    if cxClass new.cx = 2 ∧ new.moment < (s.dtime : Int) + 200 then
      (lateAtReceiver s g i mine).cond (decide (2 ≤ mine.length)) fun s => s.count RDN_FRAME_LOST
    else if inSkew new.cx ∧ s.fld TDS_BUF_skew ≤ skewUsed s then
      let n := skewUsed s
      ((dropFrame s i mine).count TDS_STORE_DROP).setFld TDS_LATCH_store_full 1 |>.raise 0x0A04 [g, n, i]
    else
      let s := updAsm s i fun x => { x with cells := x.cells ++ [new] }
      let s := s.cond (inSkew new.cx) setPeak
      loseOld (if (mine.any ACell.start) && (missing mine).isEmpty then frameWhole s i mine else s) i

/-- A timed cell (R294, R345, R346). -/
def timedCell (s : Hw) (g i seq fld : Nat) (start : Bool) (pl : Bytes) : Hw :=
  if !s.ready 14 then s
  else if !tablesReady s then s.count FLW_RX_UNKNOWN
  else
    let c := s.ctx i
    match cxState c with
    | 0 => s.count FLW_RX_UNKNOWN
    | 3 => s.count FLW_QUAR_DROP
    | _ =>
      match eliminate c seq with
      | (0, c') =>
        let s := updAsm s i fun x => { x with dead := if cxRxHist c = 0 then [] else x.dead.filter fun d => d.lasts (cxRxLast c') s.dtime }
        joinFrame (s.setCtx i c') g i seq fld start pl
      | (1, _) => (s.count64 RDN_ELIM).pmc 0x043
      | _ => ((s.count RDN_OLD).setFld RDN_LATCH_old 1).countSec 0x0B08 0 1 i

/-- The difference of the groups' published path delays, in ns. -/
def delayGap (s : Hw) : Nat :=
  let a := s.num (PWR_PATH_DLY 0)
  let b := s.num (PWR_PATH_DLY 1)
  (max a b - min a b) / 64

/-- Incomplete frames of flow `i` whose limit has passed are discarded (R330, R347). -/
def reassemblyTimeout (i : Nat) (s : Hw) : Hw :=
  if !s.ready 14 then s
  else
    (asmFrames (s.asm i).cells).foldl (fun s f =>
      match f with
      | [] => s
      | d :: _ =>
        let limit := s.fld RDN_CFG_reasm_us * 1000 + (if cxPath d.cx = 4 then delayGap s else 0)
        if cxClass d.cx = 2 ∧ d.moment ≤ (s.dtime : Int) + 200 then (lateAtReceiver s d.grp i f).count RDN_FRAME_LOST
        else if d.time + limit ≤ s.dtime then (dropFrame s i f).count RDN_FRAME_LOST
        else s) s

/-! ### To the host (R265, R267, R271, R328, R329) -/

/-- HTX of port `p` runs: it neither squelches nor sends local fault (R250). -/
def htxRuns (s : Hw) (p : Nat) : Bool :=
  portEnabled s p && !cannotDeliver s p && (portLanes s p).all fun l => !htxSquelched s l

/-- A frame goes out by its port's PCS (R253); HTX is free again after it, 8 bytes of gap and the next preamble (R265). -/
def htxSend (s : Hw) (p now : Nat) (b : Bytes) : Hw :=
  let r := s.fld (HPC_PORT_rate p)
  let s := updPort s p fun x => { x with free := now + hostTime r (b.length + 16) }
  let s := (s.count64 (HPC_TX_FRAMES p)).emit (.frame p b)
  s.each (portLanes s p) fun l s =>
    let x := pcsFrame (2 + r) l (Map.get [] (s.port p).blocks l) b
    (updPort s p fun y => { y with blocks := Map.put [] y.blocks l x.2 }).emit (.htx l x.1)

/-- When HTX may take a frame that came to wait at `came` ns: after 8 bytes of gap if it waited while they went, after 12 otherwise
(R265). -/
def gapEnds (s : Hw) (p came : Nat) : Nat :=
  let r := s.fld (HPC_PORT_rate p)
  let free := (s.port p).free
  if 64 * came + hostTime r 8 ≤ free then free else free + hostTime r 4

/-- The class C frame of port `p` with the earliest release moment. -/
def nextRelease (s : Hw) (p : Nat) : Option SkewFrame :=
  (s.tds.store.filter fun f => f.port == p).foldl (fun (m : Option SkewFrame) f =>
    match m with
    | some e => if f.rel < e.rel then some f else some e
    | none => some f) none

/-- The release moments to come on port `p`: of the whole class C frames, and of those of which cells are held (R328). -/
def releases (s : Hw) (p : Nat) : List Int :=
  ((s.tds.store.filter fun f => f.port == p).map SkewFrame.rel) ++ s.tds.asm.flatMap fun e =>
    (asmFor s e.1 p).filterMap fun f => (f.head?.filter fun c => cxClass c.cx == 2 && decide ((s.dtime : Int) < c.moment)).map ACell.moment

/-- A class C frame leaves the skew store at its release moment (R328), or, behind another class C frame, after it and 8
bytes of gap (R329). One whose port cannot send is dropped late. -/
def classCRelease (p frac : Nat) (s : Hw) : Hw :=
  match nextRelease s p with
  | none => s
  | some f =>
    let now := s.dtime * 64 + frac
    if (s.dtime : Int) + 4 < f.rel ∨ !s.ready 14 then s
    else if !htxRuns s p then
      (noteLateC { s with tds := { s.tds with store := s.tds.store.erase f } } f.grp 1 f.flow).cond (!promised s f.grp 2) fun s =>
        s.count64 TDS_UNPROM
    else if now < (s.port p).free then s
    else
      let moved := decide (64 * f.rel < ((s.port p).lastC : Int))
      let s := { s with tds := { s.tds with store := s.tds.store.erase f } }
      let s := s.cond moved fun s => (s.count TDS_DISPLACED).raise 0x0A08 [p, f.flow, ((s.dtime : Int) - f.rel).toNat]
      let s := (htxSend s p now f.bytes).pmc 0x041
      updPort s p fun x => { x with lastC := x.free }

/-- A class B frame's host-out, with the fraction of its moment, against its deadline (R322, R330, R331). -/
def judgeB (s : Hw) (f : TxFrame) (frac : Nat) : Hw :=
  match f.deadline with
  | none => s
  | some d =>
    let s := s.pmc 0x042
    if (s.dtime * 64 + frac : Int) ≤ 64 * d then s
    else
      let s := ((s.count TDS_LATE_B).setFld TDS_LATCH_late_b 1).countSec 0x0A02 f.grp 1 f.flow ((s.dtime : Int) - d).toNat
      s.cond (!f.prom) fun s => s.count64 TDS_UNPROM

/-- A frame comes from the line PHY of port `p` in C2 and waits in the elasticity store (R34, R335): the latency that the part adds of
itself in 1/64 ns, and its bytes. -/
def lineFrame (p frac res : Nat) (b : Bytes) (s : Hw) : Hw :=
  let g := s.fld (HPC_PORT_group p)
  if !(portEnabled s p && s.mode g == 2 && s.ready 14 && c2PortAligned s p) then s
  else intoElastic (ptpNote s p b) 1 b.length fun k s => updPort s p fun x =>
    { x with q := x.q ++ [{ came := s.dtime, timed := false, flow := 0, grp := g, since := some (fine s frac, res), place := k, bytes := b }] }

/-- What a best-effort frame's correction field gains as it leaves to the host (R271): its residence in C2, the local time and the
peer's offset in a native mode. -/
def leaveGain (s : Hw) (f : TxFrame) (frac : Nat) : Int :=
  match f.since with
  | some (t, res) => ((fine s frac : Int) - t + res) * 1024
  | none => (fine s frac + peerOffset s f.grp) * 1024

/-- Port `p` sends its next frame: timed before best effort (R321), none that would still be on HTX at a class C release
moment (R328). In C2, `c2` is a frame that comes from the line PHY at this moment. -/
def hostFrameSend (p frac : Nat) (c2 : Option (Nat × Bytes)) (s : Hw) : Hw :=
  let s := match c2 with
    | some (res, b) => lineFrame p frac res b s
    | none => s
  let now := s.dtime * 64 + frac
  if !htxRuns s p || decide (now < (s.port p).free) then s
  else
    let q := (s.port p).q
    match (q.find? fun f => f.timed).orElse fun _ => q.head? with
    | none => s
    | some f =>
      let stop := (releases s p).any fun r => decide (64 * r ≤ (now : Int) + hostTime (s.fld (HPC_PORT_rate p)) f.bytes.length)
      if stop || decide (now < gapEnds s p f.came) || (!s.ready 14 && f.grp != 2) then s
      else
        let s := judgeB (updPort s p fun x => { x with q := x.q.erase f }) f frac
        if !f.timed && decide (f.grp < 2) then
          let (b, s) := ptpCorrect s p f.bytes (leaveGain s f frac)
          htxSend s p now b
        else htxSend s p now f.bytes

end Sys2Proof.Machine
end

