-- ==== Sys2Proof/Machine/Rdn.lean ====
section
/-!
DEFINITION. Redundancy (10): lane failures and health, joining, group loss, reroute and revert, clearing of receive state,
and the RDN commands.
-/
namespace Sys2Proof.Machine
open Reg

/-! ### Lane failures (R350, R360) -/

/-- Does cause `cause` of R350 hold on a receive lane? `n` counts uncorrectable outer codewords within 1 µs. -/
def failCause (s : Hw) (g p cause n : Nat) : Bool :=
  match cause with
  | 0 => s.flag (LRX_STATUS_los (4 * g + p))
  | 1 => !s.flag (LRX_STATUS_cdr_lock (4 * g + p))
  | 2 => decide (s.fld RDN_CFG_burst_n ≤ n)
  | 3 => !hasBit (s.fld (LFM_STATUS_am_lock g)) p || !(Map.get {} (s.grp g).am p).aligned
  | _ => decide (s.dtime < Map.get 0 (s.grp g).inject p)

/-- The retraining of a lane that fails is abandoned (R360). -/
def abandonRetrain (s : Hw) (g p : Nat) : Hw :=
  if (Map.get none (s.grp g).retrain p).isSome then (setRetrain s g p none).raise 0x060A [g, p, 2] else s

/-- A side-band cause declares the receive lane `n` failed. -/
def laneFailDeclare (n cause codewords : Nat) (s : Hw) : Hw :=
  let g := laneGroup n
  let p := n % 4
  if s.stage g = 5 && s.native g && failCause s g p cause codewords then declareFail (abandonRetrain s g p) g p cause else s

/-- The injected failure ends (R366); the lane's last cause is now. -/
def faultInjectEnd (n : Nat) (s : Hw) : Hw :=
  let g := laneGroup n
  let p := n % 4
  let t := Map.get 0 (s.grp g).inject p
  if t ≠ 0 ∧ t ≤ s.dtime then
    s.updGrp g fun x => { x with inject := Map.put 0 x.inject p 0, causeAt := Map.put 0 x.causeAt p (s.dtime + 1) }
  else s

/-! ### Lane health and joining (R354, R359) -/

/-- The peer's last two LANE_HEALTH messages show lane `p` healthy. -/
def shownHealthy (s : Hw) (g p : Nat) : Bool :=
  match (s.grp g).health with
  | a :: b :: _ => hasBit a.1 p && hasBit b.1 p
  | _ => false

/-- Lane `p` qualifies for joining (R359); not while it is declared failed here, since it is shed both ways (R352). -/
def mayJoin (s : Hw) (g p : Nat) : Bool :=
  let r := Map.get none (s.grp g).retrain p
  s.flag RDN_CFG_auto_join && !hasBit (s.txMask g) p && s.fld (FES_STATE_state (4 * g + p)) == 4 && shownHealthy s g p &&
    !hasBit (s.fld (heldFld g)) p && !hasBit (s.fld (failedFld g)) p && !hasBit (s.grp g).handShed p && r.all (fun r => r.phase == 5) &&
    !((s.grp g).wants.any fun w => w.join && w.lane == p) &&
    !((s.grp g).txRemap.any fun r => hasBit r.mask p)

/-- A LANE_HEALTH message: the peer's healthy and failed receive lanes (R352, R354, R359). -/
def laneHealthReceived (g healthy failed : Nat) (s : Hw) : Hw :=
  if s.stage g ≠ 5 ∨ !s.native g then s
  else
    let prev := (s.grp g).health.head?
    let s := (s.setFld (peerFailFld g) failed).updGrp g fun x => { x with health := ((healthy % 16, failed % 16) :: x.health).take 2 }
    let gone := (bitsOf 4 (failed &&& ((prev.map (·.2)).getD 0))).filter fun p => hasBit (s.txMask g) p
    let s := s.cond (!gone.isEmpty) fun s => askMask s g (gone.map fun p => ⟨p, false, 1, 255⟩)
    let s := s.cond (s.stage g == 5) fun s =>
      let new := (List.range 4).filter fun p => mayJoin s g p
      s.cond (!new.isEmpty) fun s => askMask s g (new.map fun p => ⟨p, true, 3, 255⟩)
    s

def laneHealthPeriod (g : Nat) (s : Hw) : Hw := if s.stage g = 5 && s.native g then sendHealth s g else s

/-- The causes of R350 that last, on a receive lane. -/
def inTrouble (s : Hw) (g p : Nat) : Bool := [0, 1, 3, 4].any fun c => failCause s g p c 0

/-- A lane's last cause ends now while one lasts, and when the last one ends (R354). -/
def settleTrouble (g : Nat) (s : Hw) : Hw :=
  let now := (List.range 4).filter (inTrouble s g)
  let m := sumN (now.map fun p => 2 ^ p)
  s.updGrp g fun x =>
    { x with troubled := m
             causeAt := (List.range 4).foldl (fun c p => if now.contains p || hasBit x.troubled p then Map.put 0 c p (s.dtime + 1) else c) x.causeAt }

/-- LANE_HEALTH follows any change of its fields (R354). -/
def settleHealth (s : Hw) (g : Nat) : Hw :=
  if s.stage g = 5 && s.native g then
    let h := healthMask s g
    let f := s.fld (failedFld g) - (s.fld (failedFld g) &&& h)
    if (s.grp g).healthAt = some (h, f) then s
    else (sendHealth s g).updGrp g fun x => { x with healthAt := some (h, f) }
  else s

/-! ### Group loss, reroute and revert (R353, R357, R358) -/

/-- A cause of R353 holds at this device: 0 every lane failed, 1 the reference, 2 the framing domain. -/
def lossCause (s : Hw) (g cause : Nat) : Bool :=
  match cause with
  | 0 => s.rxMask g &&& s.fld (failedFld g) == s.rxMask g
  | 1 => !s.refOk (1 + g)
  | 2 => !s.ready (12 + g)
  | _ => false

def groupLoss (g cause : Nat) (s : Hw) : Hw := if lossCause s g cause then loseGroup s g cause else s

/-- Flows that prefer group `g` return to it (R358); cause 0 hold, 1 command. Class B flows wait through the gap. -/
def revert (s : Hw) (g cause : Nat) : Hw :=
  let s := (s.setFld (reroutedFld g) 0).raise 0x0B07 [g, cause]
  s.updGrp g fun x => { x with revertAt := s.dtime + 1 }

/-- The hold of R358 has run. -/
def revertHoldExpiry (g : Nat) (s : Hw) : Hw :=
  let hold := s.fld RDN_CFG_revert_s
  match (s.grp g).promSince with
  | some t =>
    if s.flag (reroutedFld g) && hold != 0 && s.stage g == 5 && decide (t + hold * 1000000000 ≤ s.dtime) then revert s g 0 else s
  | none => s

/-- The gap of class B flows ends: no class B cell waits on the other group, and max(0, P_other - P_preferred) + 2 µs
have passed since the last one there (R358). -/
def revertGapEnd (g : Nat) (s : Hw) : Hw :=
  let o := other g
  let gap := (s.num (PWR_PATH_DLY o) - s.num (PWR_PATH_DLY g)) / 64 + 2000
  if (s.grp g).revertAt ≠ 0 && !((s.grp o).tq.any fun c => c.cls == 1 && prefers c.path g) &&
      decide ((s.grp o).txEndB + gap ≤ s.dtime) then
    s.updGrp g fun x => { x with revertAt := 0, tq := x.tq.map fun c => { c with gap := false } }
  else s

/-! ### Clearing of receive state (R348) -/

/-- The flow of a path can no longer arrive on group `g`. -/
def cannotArrive (s : Hw) (g : Nat) : Bool := s.stage g != 5 || s.flag (LFM_STATUS_far_core_lost g)

def pathDead (s : Hw) (path : Nat) : Bool := ([0, 1].filter (pathGroup path)).all (cannotArrive s)

/-- rx_hist becomes 0 in every context whose path names only groups on which the flow cannot arrive. -/
def rxHistoryClear (s : Hw) : Hw :=
  if !s.ready 14 then s
  else s.flw.ctxs.foldl (fun s e =>
    if cxState e.2 ≠ 0 && cxRxHist e.2 != 0 && pathDead s (cxPath e.2) then s.setCtx e.1 (cset e.2 20 32 0) else s) s

/-! ### Signals that follow the state -/

/-- RDN_STATUS.remap and revert_hold (Table 10-7). -/
def settleRdn (s : Hw) : Hw :=
  let s := (s.setFlag RDN_STATUS_remap_a (s.grp 0).txRemap.isSome).setFlag RDN_STATUS_remap_b (s.grp 1).txRemap.isSome
  s.setFlag RDN_STATUS_revert_hold (s.fld RDN_CFG_revert_s != 0 && [0, 1].any fun g =>
    s.flag (reroutedFld g) && s.stage g == 5 && (s.grp g).promSince.isSome)

/-! ### Commands (Table 10-4) -/

def applyRdnConfig (p : Bytes) (s : Hw) : Hw :=
  let s := ((s.setFld RDN_CFG_revert_s (u8 p 0)).setFld RDN_CFG_reasm_us (u8 p 1)).setFld RDN_CFG_burst_n (u8 p 2)
  s.setFld RDN_CFG_auto_join (bit (u8 p 3) 0)

/-- Commands naming different groups are concurrent (R366); RDN_CONFIG names none. -/
def rdnConc (opc : Nat) : Hw → Bytes → RunCmd → Bool :=
  fun _ p r => opc != 0x0B01 && r.opcode != 0x0B01 && u8 p 0 != u8 r.req.params 0

def opRdnConfig : OpSpec :=
  { OpSpec.fix headRdnConfig [.any 1, .rng 1 1 255, .rng 1 1 15, .msk 1 1] fun s c => .ok (applyRdnConfig c.p s) with
    objs := fun _ => [0] }

/-- DEDUCED (log 81): condition 2 is on what a shed leaves, so that a command that sheds no lane meets it. -/
def opRdnLaneSet : OpSpec :=
  { OpSpec.fix headRdnLaneSet [.rng 1 0 1, .rng 1 0 15, .rng 1 0 15] fun s c =>
      let g := u8 c.p 0
      let shed := u8 c.p 1
      let join := u8 c.p 2
      let left := popCount 4 (s.txMask g) - popCount 4 (s.txMask g &&& shed)
      let ok := (bitsOf 4 join).all fun p => (match (s.grp g).health.head? with
        | some h => hasBit h.1 p
        | none => false) && (Map.get none (s.grp g).retrain p).isNone
      if s.stage g ≠ 5 then .refuse stCONDITIONS 1 s
      else if shed ≠ 0 ∧ left < s.fld (LNK_CFG_min_lanes g) then .refuse stCONDITIONS 2 s
      else if !ok then .refuse stCONDITIONS 3 s
      else
        let held := s.fld (heldFld g)
        let held := (bitsOf 4 shed).foldl (fun h p => setBit h p true) held
        let held := (bitsOf 4 join).foldl (fun h p => setBit h p false) held
        let s := s.setFld (heldFld g) held
        let s := s.updGrp g fun x =>
          { x with handShed := (bitsOf 4 join).foldl (fun h p => setBit h p false) ((bitsOf 4 shed).foldl (fun h p => setBit h p true) x.handShed)
                   sheds := (bitsOf 4 join).foldl (fun m p => Map.put [] m p []) x.sheds }
        .ok (askMask s g ((bitsOf 4 shed).map (fun p => ⟨p, false, 4, 255⟩) ++ (bitsOf 4 join).map fun p => ⟨p, true, 4, 255⟩)) with
    check := fun _ p =>
      match runChks [.rng 1 0 1, .rng 1 0 15, .rng 1 0 15] 1 0 p with
      | some k => some k
      | none => if u8 p 1 &&& u8 p 2 ≠ 0 then some 3 else none
    conc := rdnConc 0x0B02 }

def opRdnRevert : OpSpec :=
  { OpSpec.fix headRdnRevert [.rng 1 0 1] fun s c =>
      let g := u8 c.p 0
      if s.stage g ≠ 5 ∨ !s.flag (promFld g) then .refuse stCONDITIONS 1 s
      else .ok (s.cond (s.flag (reroutedFld g)) fun s => revert s g 1) with
    conc := rdnConc 0x0B03 }

def rdnCounters : List Nat :=
  [RDN_ELIM, RDN_ELIM + 1, RDN_OLD, RDN_FRAME_LOST, RDN_SHED, RDN_JOIN, RDN_REROUTE, RDN_ADOPT, RDN_NOACK]

def opRdnStatusRead : OpSpec :=
  OpSpec.fix headRdnStatusRead [.msk 1 1] fun s c =>
    .ok (s.cond (hasBit (u8 c.p 0) 0) fun s => s.zeroRegs rdnCounters)
      (s.wordsAt ([RDN_CFG, RDN_STATUS, RDN_LATCH] ++ rdnCounters) ++ s.dtimeBytes)

def opRdnFaultInject : OpSpec :=
  { OpSpec.fix headRdnFaultInject [.rng 1 0 1, .rng 1 0 3, .rng 2 1 1000] fun s c =>
      let g := u8 c.p 0
      let p := u8 c.p 1
      if s.stage g ≠ 5 then .refuse stCONDITIONS 1 s
      else
        let s := s.updGrp g fun x => { x with inject := Map.put 0 x.inject p (s.dtime + u16 c.p 2 * 1000000) }
        .ok (declareFail (abandonRetrain s g p) g p 4) with
    conc := rdnConc 0x0B05 }

end Sys2Proof.Machine
end

