-- ==== Sys2Proof/Machine/Cells.lean ====
section
/-!
DEFINITION. A received cell (05, R180, R184 to R199): the check of its header, and its way by type.
-/
namespace Sys2Proof.Machine
open Reg

/-- The OAM kinds that the device knows (Table 05-8). -/
def oamKinds : List Nat := [1, 2, 3, 4, 0x10, 0x11, 0x12, 0x13, 0x14, 0x15, 0x20, 0x21]

/-- An OAM or time-transfer payload whose CRC-32 is good (Tables 05-7 and 05-10). -/
def sealOk (pl : Bytes) : Bool := pl.length == 512 && crc32 (pl.take 508) == u32 pl 508

/-- An OAM message by its kind, `b` the bytes of its body (Tables 05-9, 06-6 and those of 09, 10 and 12). -/
def oamBody (g kind tag : Nat) (b : Bytes) (s : Hw) : Hw :=
  match kind with
  | 0x01 => statusReceived g (u16 b 0) (u16 b 2) (u8 b 6 % 8) s
  | 0x02 => remapReceived g (u8 b 0) (u8 b 1 % 16) (un b 2 6) (u16 b 8) (u16 b 10) s
  | 0x03 => remapAckReceived g (u8 b 0) s
  | 0x04 => quietReceived g (u8 b 0 % 4) (u8 b 1 == 1) s
  | 0x10 => capsReceived g tag (u8 b 0) (u8 b 1) (u8 b 3 % 16) (u16 b 4) (u16 b 6) (un b 8 8) (u16 b 20) s
  | 0x11 => capsAckReceived g (u8 b 0) s
  | 0x12 => seedStartReceived g (un b 0 6) s
  | 0x13 => readyReceived g s
  | 0x14 => abortReceived g s
  | 0x15 => laneTrain g (u8 b 0) (u8 b 1) (un b 2 6) s
  | 0x20 => delayReceived g (u32 b 0) s
  | 0x21 => laneHealthReceived g (u8 b 0 % 16) (u8 b 1 % 16) s
  | _ => s

/-- An OAM cell (R195): discarded and counted where its CRC fails or its kind is unknown; in P3 and P4 a peer tag other than
the one of P1 fails the group (R232). -/
def oamCell (s : Hw) (g : Nat) (pl : Bytes) : Hw :=
  if !sealOk pl || !oamKinds.contains (u16 pl 0) || decide (u16 pl 2 > 488) then s.count (LFM_OAM_ERR g)
  else if (s.stage g = 3 ∨ s.stage g = 4) ∧ u32 pl 4 ≠ s.num (LNK_PEER g) then failGroup s g 7
  else oamBody g (u16 pl 0) (u32 pl 4) ((pl.drop 16).take (u16 pl 2)) s

/-- A time-transfer cell (R198, R199): index bits [59:56] 1 request or 2 answer, [55:54] the lane position. -/
def timeCell (s : Hw) (g index seq : Nat) (pl : Bytes) (frac depart : Nat) : Hw :=
  if !sealOk pl then s.count (LFM_OAM_ERR g)
  else
    let n := 4 * g + index / 2 ^ 14 % 4
    match index / 2 ^ 16 with
    | 1 => timeRequest n (un pl 0 8) seq frac depart s
    | 2 => timeAnswer n (un pl 16 8) (un pl 8 8) (un pl 0 8) (u16 pl 24) frac s
    | _ => s

/-- A cell is discarded under R185. -/
def cellDiscarded (s : Hw) (g : Nat) : Hw := (s.count (LFM_HDR_ERR g)).pmc (0x025 + 8 * g)

/-- A header check fails (R185, Table 05-16): event 0x0505 once the failures of the last 1 ms exceed 1000. -/
def headerFailure (s : Hw) (g : Nat) : Hw :=
  let s := ((cellDiscarded s g).setFld (LFM_LATCH_hdr_err g) 1).updGrp g fun x =>
    { x with hdrRun := (x.hdrRun.filter fun t => decide (s.dtime < t + 1000000)) ++ [s.dtime] }
  let k := (s.grp g).hdrRun.length
  s.cond (k == 1001) fun s => s.raise 0x0505 [g, k]

/-- Stuff symbols removed since the last cell, and the lane positions of those that had not the value of R179 (R180). -/
def stuffRemoved (s : Hw) (g removed : Nat) (wrong : List Nat) : Hw :=
  (s.count (LFM_STUFF_RX g) removed).each wrong fun p s =>
    ((s.count (LFM_STUFF_ERR g)).setFld (LFM_LATCH_stuff_err g) 1).raise 0x0509 [g, p % 4]

/-- A cell arrives on group `g`: 64-bit header and 512 payload bytes; `frac` is the fraction of its arrival in 1/64 ns, `depart`
that of the answer to a time-transfer request as it leaves; `on` names the lane positions of its codewords. A cell that lies in a
codeword of a lane declared failed is discarded (R350). -/
def cellReceived (g on header : Nat) (payload : Bytes) (frac depart removed : Nat) (wrong : List Nat) (s : Hw) : Hw :=
  if !framing s g then s
  else
    let s := (stuffRemoved s g removed wrong).pmc 0x0F0
    let h := header / 256 % 2 ^ 56
    let type := h / 2 ^ 53
    if on &&& s.fld (failedFld g) ≠ 0 then s
    else if crcMsb 8 0x07 0xFF (toBE 7 h) ≠ header % 256 then headerFailure s g
    else
      let s := s.pmc (0x024 + 8 * g)
      let index := h / 2 ^ 32 % 2 ^ 20
      let seq := h / 2 ^ 16 % 2 ^ 16
      let rel := h % 2 ^ 16
      let pl := slice payload 0 512
      match type with
      | 1 | 2 => bestCell s g (index % 8) seq rel pl
      | 3 => timedCell s g index seq rel true pl
      | 4 => timedCell s g index seq rel false pl
      | 5 => oamCell s g pl
      | 6 => timeCell s g index seq pl frac depart
      | 7 => cellDiscarded s g
      | _ => s

end Sys2Proof.Machine
end

