-- ==== Sys2Proof/Machine/Cle.lean ====
section
/-!
DEFINITION. The control engine (13): sources and destinations, the control law, repetitive control, test signals, lock-in
demodulators, and the CLE commands.
-/
namespace Sys2Proof.Machine
open Reg

def Hw.loop (s : Hw) (l : Nat) : Loop := Map.get {} s.cle.loops l
def Hw.updLoop (s : Hw) (l : Nat) (f : Loop → Loop) : Hw :=
  { s with cle := { s.cle with loops := Map.upd {} s.cle.loops l f } }
def loops32 : List Nat := List.range 32
def loopMode (s : Hw) (l : Nat) : Nat := s.fld (CLE_STATUS_mode l)

/-- Coefficient word `w` of loop `l` (Table 13-7). -/
def coefN (s : Hw) (l w : Nat) : Nat := s.num (CLE_COEF l w)
def coefI (s : Hw) (l w : Nat) : Int := s.int (CLE_COEF l w)

/-- An integer limited to a signed 32-bit word. -/
def sat32 (i : Int) : Int := clampI (-(2 : Int) ^ 31) ((2 : Int) ^ 31 - 1) i

/-- An arithmetic shift right by 16. -/
def shr16 (i : Int) : Int := i / 65536

/-! ### Sources and destinations (R424 to R426, R431) -/

/-- Does a loop follow the mains period (R435)? -/
def byMains (s : Hw) (l : Nat) : Bool := decide (l < 16) && s.flag (CLE_CFG_rep_en l)

/-- The samples of a mains cycle. -/
def cycleSamples (s : Hw) (l : Nat) : Nat := 256 * 2 ^ s.fld (CLE_CFG_sub l)

/-- The sample period of a loop in units of 1/2048 ns; a loop with repetitive control follows the mains period (R428, R435). -/
def samplePeriod (s : Hw) (l : Nat) : Nat :=
  if byMains s l then s.fld CLE_MAINS_period * 10 * 2048 / cycleSamples s l
  else s.fld (CLE_PERIOD_period l) * 1000 * 2048

/-- The raw value of a loop's source; that of a BRC detector is the mean power of its samples, taken at 10 MS/s, over the loop period
(R396). -/
def rawValue (s : Hw) (l : Nat) (codes : List (List Nat)) : Int :=
  let k := s.fld (CLE_CFG_src_idx l)
  match s.fld (CLE_CFG_src_kind l) with
  | 0 => s.int (MCV_RES k)
  | 1 =>
    let xs := (lastN (samplePeriod s l / (100 * 2048)) (codes.getD k [])).map (lit s k)
    meanPower s k (sumN xs) xs.length
  | 2 =>
    let n := k / 4
    (match k % 4 with
     | 0 => (s.fld (LRX_MEAS_snr n) : Int)
     | 1 => s.fldS (LRX_MEAS_margin n)
     | 2 => s.fldS (LRX_FREQ_offset n)
     | _ => s.fldS (LRX_PREFEC_log n))
  | 3 => s.int (CLE_LIA_OUT k)
  | _ => s.int (CLE_Y k)

/-- How many values the source has delivered, as far as a loop can tell. -/
def sourceCount (s : Hw) (l : Nat) : Nat :=
  let k := s.fld (CLE_CFG_src_idx l)
  match s.fld (CLE_CFG_src_kind l) with
  | 0 => s.fld (MCV_TAG_seq k)
  | 2 => if k % 4 = 3 then s.fld (LRX_PREFEC_updates (k / 4)) else Map.get 0 s.cle.lrxN (k / 4)
  | 3 => Map.get 0 s.cle.liaN k
  | 4 => (s.loop k).samples
  | _ => 0

/-- Has the source delivered a new value since the loop last took one (R431)? -/
def sourceNew (s : Hw) (l : Nat) : Bool :=
  let k := s.fld (CLE_CFG_src_idx l)
  let kind := s.fld (CLE_CFG_src_kind l)
  let differs := sourceCount s l != (s.loop l).taken
  if kind = 1 then true
  else if kind = 0 then
    s.ready 16 && differs && !s.flag (MCV_TAG_suppressed k) && !s.flag (MCV_TAG_quarantined k)
  else if kind = 2 then s.ready (k / 4) && differs
  else differs

/-- The step destination of a loop: transmitters 0 to 7, stages as 8 to 11. -/
def stepUnit (s : Hw) (l : Nat) : Option Nat :=
  let k := s.fld (CLE_CFG_dst_idx l)
  match s.fld (CLE_CFG_dst_kind l) with
  | 2 => some k
  | 3 => some (8 + k)
  | _ => none

/-- dest_below and dest_above (R433). -/
def destHeld (s : Hw) (l : Nat) : Bool × Bool :=
  match stepUnit s l with
  | some u =>
    let want := Map.get 0 s.cle.steps u
    let now := s.fld (FES_STATE_step u)
    (decide (now < want), decide (now > want))
  | none =>
    if s.fld (CLE_CFG_dst_kind l) = 1 then
      let r := s.flag (AOU_OSTAT_ranging (s.fld (CLE_CFG_dst_idx l)))
      (r, r)
    else (false, false)

/-- A loop's output goes to its destination (R426, R428): an output that FES names keeps the write of FES. -/
def writeDest (s : Hw) (l : Nat) (y : Int) : Hw :=
  let k := s.fld (CLE_CFG_dst_idx l)
  match s.fld (CLE_CFG_dst_kind l) with
  | 1 =>
    let code := (clampI 0 65535 y).toNat
    if (fesOwners s k).isEmpty then aouWrite (s.setFld (CLE_STATUS_conflict l) 0) k code 3
    else
      let s := s.cond (!s.flag (CLE_STATUS_conflict l)) fun s => (s.setFld (CLE_LATCH_conflict l) 1).raise 0x0F07 [l, k]
      s.setFld (CLE_STATUS_conflict l) 1
  | 2 => { s with cle := { s.cle with steps := Map.put 0 s.cle.steps k (clampI 0 31 y).toNat } }
  | 3 => { s with cle := { s.cle with steps := Map.put 0 s.cle.steps (8 + k) (clampI 0 31 y).toNat } }
  | 4 => s.setInt (CLE_SETPT k) y
  | _ => s

/-! ### Sample instants (R428, R429, R435) -/

/-- When sample `j` of a mains cycle that starts at `z` with period `tm`, in 10 ns, falls (R435). -/
def cycleInstant (s : Hw) (l z tm j : Nat) : Nat := z + j * (tm * 10) / cycleSamples s l

/-- When sample `j` of the present mains cycle falls. -/
def mainsInstant (s : Hw) (l j : Nat) : Nat := cycleInstant s l (s.num64 MCV_MAINS_T) (s.fld CLE_MAINS_period) j

/-- The number of the last sample instant at or before now: of the cycle for a loop with repetitive control. -/
def instantNow (s : Hw) (l : Nat) : Nat :=
  if byMains s l then
    min (cycleSamples s l - 1) (((s.dtime - s.num64 MCV_MAINS_T + 1) * cycleSamples s l - 1) / (s.fld CLE_MAINS_period * 10))
  else s.dtime / (s.fld (CLE_PERIOD_period l) * 1000)

/-- The number of the next sample instant that the loop has not taken or missed. -/
def instantNext (s : Hw) (l : Nat) : Nat := if byMains s l then (s.loop l).j else (s.loop l).instant + 1

/-- Has the next sample instant of a loop come (R428, R435)? With mains reported invalid the instants of a loop with repetitive control
have no schedule. -/
def instantDue (s : Hw) (l : Nat) : Bool :=
  byMains s l && !s.flag CLE_MAINS_valid || decide (instantNext s l ≤ instantNow s l)

/-- The instants whose deadline, the instant after, has come too (R429). -/
def instantsMissed (s : Hw) (l : Nat) : Nat :=
  if byMains s l && !s.flag CLE_MAINS_valid then 0 else instantNow s l - instantNext s l

/-- The loop goes on to instant `n` of its schedule. -/
def goTo (s : Hw) (l n : Nat) : Hw :=
  if byMains s l then s.updLoop l fun x => { x with j := n } else s.updLoop l fun x => { x with instant := n - 1 }

/-- When the present sample of a loop is due, in a schedule. -/
def dueAt (s : Hw) (l : Nat) : Nat :=
  if byMains s l then mainsInstant s l (instantNow s l) else instantNow s l * (s.fld (CLE_PERIOD_period l) * 1000)

/-! ### Test signals (R439, R440) -/

/-- `a / n` of integers: where it falls between two integers, which of the two is free. -/
def ratio (s : Hw) (a : Int) (n : Nat) : Int × Hw :=
  if n = 0 then (0, s)
  else if a % n = 0 then (a / n, s)
  else let (f, s) := s.free; (a / n + (f % 2 : Nat), s)

/-- An integer from fixed point: the one that the value is to within its error, or else one of its two neighbours, which is free. -/
def fixInt (s : Hw) (v : Int) : Int × Hw :=
  let k := (v + fixOne / 2) / fixOne
  if (v - k * fixOne).natAbs < 2 ^ 40 then (k, s) else ratio s v (2 ^ 80)

/-- The phase in turns of a chirp at sample `k`, as a numerator over `20000000000 * 2048 * len`: f0 k T + (f1 - f0) k k T / (2 len). -/
def chirpPhase (t : TestSig) (period : Nat) : Int :=
  (2 * t.len * t.f0 * t.k * period : Nat) + ((t.f1 : Int) - t.f0) * (t.k * t.k * period : Nat)

/-- A chirp sample, A sin(2 pi x) (Table 13-2); the spec states no rounding, and which neighbour it takes is free. -/
def chirpValue (s : Hw) (t : TestSig) (period : Nat) : Int × Hw :=
  let d := 20000000000 * 2048 * t.len
  fixInt s (t.amp * sineOf (chirpPhase t period % d).toNat d)

/-- One step of x^11 + x^9 + 1. -/
def prbsStep (r : Nat) : Nat := (r * 2 + (bit r 10 + bit r 8) % 2) % 2048

/-- The value of the signal at its sample (Table 13-2), 0 after its duration. -/
def testValue (s : Hw) (l : Nat) (t : TestSig) : Int × Hw :=
  if t.k ≥ t.len then (0, s)
  else match s.fld CLE_TEST_type with
  | 0 => (t.amp, s)
  | 1 => (if t.k / t.h % 2 = 0 then t.amp else -t.amp, s)
  | 2 => chirpValue s t (samplePeriod s l)
  | _ => (if hasBit t.prbs 10 then t.amp else -t.amp, s)

/-- The running signal on loop `l`. -/
def testOn (s : Hw) (l : Nat) : Option TestSig :=
  if s.flag CLE_TEST_running && s.fld CLE_TEST_loop == l then s.cle.test else none

/-- The injections at points 0, 1 and 2 for this sample; points 0 and 1 act only in auto. -/
def injections (s : Hw) (l : Nat) : (Int × Int × Int) × Hw :=
  match testOn s l with
  | none => ((0, 0, 0), s)
  | some t =>
    let (v, s) := testValue s l t
    let auto := loopMode s l == 2
    match s.fld CLE_TEST_point with
    | 0 => ((if auto then v else 0, 0, 0), s)
    | 1 => ((0, if auto then v else 0, 0), s)
    | _ => ((0, 0, v * 65536), s)

/-- `n` samples of the loop use up as many of its signal, missed and stale ones included. -/
def testConsume (s : Hw) (l n : Nat) : Hw :=
  match testOn s l with
  | none => s
  | some t =>
    let k := min t.len (t.k + n)
    let t' := { t with k := k, prbs := (List.range (k / t.h - t.k / t.h)).foldl (fun r _ => prbsStep r) t.prbs }
    ({ s with cle := { s.cle with test := some t' } }).setNum CLE_TEST_DONE k

/-- The running signal ends (event 0x0F06): 0 duration complete, 1 CLE_TEST_STOP, 2 mode changed, 3 D15 reset. -/
def endTest (s : Hw) (reason : Nat) : Hw :=
  if !s.flag CLE_TEST_running then s
  else
    let s := s.raise 0x0F06 [s.fld CLE_TEST_loop, reason, s.num CLE_TEST_DONE]
    let s := s.setFld (CLE_STATUS_test (s.fld CLE_TEST_loop)) 0
    { s.setFld CLE_TEST_running 0 with cle := { s.cle with test := none } }

def testSignalEnd (s : Hw) : Hw :=
  match s.cle.test with
  | some t => if s.ready 15 && decide (t.k ≥ t.len) then endTest s 0 else s
  | none => s

/-! ### The control law (R433, R434) -/

/-- The bin of the loop's next sample in its mains cycle (R435); while mains is invalid the last bin stands (R438). -/
def binOf (s : Hw) (l : Nat) : Nat :=
  (if s.flag CLE_MAINS_valid then (s.loop l).j else (s.loop l).j - 1) / 2 ^ s.fld (CLE_CFG_sub l)

/-- The weight of the repetitive term for this sample (R437, R438). -/
def weightNow (s : Hw) (l : Nat) : Nat :=
  let x := s.loop l
  let rising := min 65536 (65536 * x.j / cycleSamples s l)
  match x.offAt with
  | some t => x.weight * (20000000 - min 20000000 (s.dtime - t)) / 20000000
  | none => match s.fld (CLE_STATUS_rep l) with
    | 2 => rising
    | 3 => if x.back then rising else 65536
    | _ => 0

/-- The repetitive part of ff in Q16.16. -/
def repPart (s : Hw) (l : Nat) : Int :=
  if l < 16 ∧ s.flag (CLE_CFG_rep_en l) then
    shr16 ((weightNow s l : Int) * s.int (CLE_REP l (min 255 (binOf s l))))
  else 0

/-- The terms of one sample before the integrator is settled. -/
structure Terms13 where
  x : Int
  r : Int
  e : Int
  p : Int
  d : Int
  ff : Int
  injU : Int
  inj : Int

/-- The loop starts afresh from off: i, d and y from CLE_Y, x_prev from the first x, r from CLE_SETPT (R434). -/
def startLoop (s : Hw) (l : Nat) (x : Int) : Hw :=
  let y := s.int (CLE_Y l) * 65536
  (s.setInt (CLE_R l) (s.int (CLE_SETPT l))).updLoop l fun z => { z with i := y, d := y, xPrev := x }

def slewed (old target slew : Int) : Int := if slew = 0 then target else old + clampI (-slew) slew (target - old)

def loopTerms (s : Hw) (l : Nat) (x : Int) (injR injU inj : Int) : Terms13 :=
  let z := s.loop l
  let r := sat32 (slewed (s.int (CLE_R l)) (s.int (CLE_SETPT l)) (coefN s l 9))
  let e := sat32 (r + injR - x)
  let ad : Int := coefN s l 3 / 65536
  { x := x, r := r, e := e
    p := coefI s l 0 * e
    d := shr16 (ad * z.d + (65536 - ad) * coefI s l 2 * (z.xPrev - x))
    ff := coefI s l 10 * 65536 + repPart s l
    injU := injU, inj := inj }

/-- The error of a completed sample enters its bin while the loop records (R436 to R438). -/
def recordError (s : Hw) (l : Nat) (e : Int) : Hw :=
  let x := s.loop l
  let ph := s.fld (CLE_STATUS_rep l)
  if l < 16 && loopMode s l == 2 && x.begun && (ph == 1 || ph == 3) && !s.flag (CLE_STATUS_rep_held l) &&
      x.offAt.isNone && !x.back then
    let b := min 255 (binOf s l)
    let (a, n) := Map.get (0, 0) x.errs b
    s.updLoop l fun x => { x with errs := Map.put (0, 0) x.errs b (a + e, n + 1) }
  else s

/-- What Gather and the counters see of a completed sample (Tables 16-2 and 16-6): r, x, e, y, the injection, the repetitive part. -/
def showSample (s : Hw) (l : Nat) (inj : Int) : Hw :=
  let unit := toBE 4 (s.num (CLE_R l)) ++ toBE 4 (s.num (CLE_X l)) ++ toBE 4 (s.num (CLE_E l)) ++ toBE 4 (s.num (CLE_Y l)) ++
    toBE 4 (enc 32 inj) ++ toBE 4 (enc 32 (shr16 (repPart s l))) ++ toBE 4 (s.num (CLE_STATUS l))
  let s := (stageUnit s 2 l (fine s 0) unit).pmc 0x0A0
  watch 1 l (match s.fld GTH_TRIG_thr_sig with
    | 0 => s.int (CLE_R l)
    | 1 => s.int (CLE_X l)
    | 2 => s.int (CLE_E l)
    | _ => s.int (CLE_Y l)) (fine s 0) s

/-- The completed sample: integrator with anti-windup, limits, slew, registers and destination. DEDUCED (log 82): a signal injected at
the output in manual reaches the output, since only points 0 and 1 want auto (R439). -/
def completeSample (s : Hw) (l : Nat) (t : Terms13) : Hw :=
  let z := s.loop l
  let lo := coefI s l 6 * 65536
  let hi := coefI s l 7 * 65536
  let ki := coefI s l 1
  let (below, above) := destHeld s l
  let s := (s.setFlag (CLE_STATUS_dest_below l) below).setFlag (CLE_STATUS_dest_above l) above
  let iTry := z.i + ki * t.e
  let v := t.p + iTry + t.d + t.ff + t.injU
  let heldHi := decide (v > hi) || below
  let heldLo := decide (v < lo) || above
  let iTry := if heldHi && decide (ki * t.e > 0) || heldLo && decide (ki * t.e < 0) then z.i else iTry
  let manual := loopMode s l == 1
  let i := if manual then s.int (CLE_MANUAL l) * 65536 - t.p - t.d - t.ff else clampI lo hi iTry
  let u := clampI lo hi (t.p + i + t.d + t.ff + t.injU)
  let yNew := shr16 (u + 32768)
  let y := if manual then (if t.injU = 0 then s.int (CLE_MANUAL l) else yNew) else sat32 (slewed (s.int (CLE_Y l)) yNew (coefN s l 8))
  let side := if u = hi then some 1 else if u = lo then some 0 else none
  let rose := side.isSome && !(s.flag (CLE_STATUS_sat_hi l) || s.flag (CLE_STATUS_sat_lo l))
  let s := (s.setFlag (CLE_STATUS_sat_hi l) (u == hi)).setFlag (CLE_STATUS_sat_lo l) (u == lo)
  let s := s.cond rose fun s => s.setFld (CLE_LATCH_sat l) 1
  let s := (((s.setInt (CLE_X l) t.x).setInt (CLE_E l) t.e).setInt (CLE_R l) t.r).setInt (CLE_Y l) y
  let s := s.setFld (CLE_STATUS_miss l) 0
  let s := s.updLoop l fun x =>
    { x with i := i, d := t.d, xPrev := t.x, samples := x.samples + 1, fresh := false
             satAt := match side, x.satAt with
               | none, _ => none
               | some k, some (k', since) => if k = k' then some (k', since) else some (k, s.dtime)
               | some k, none => some (k, s.dtime)
             satSaid := x.satSaid && side.isSome && side == x.satAt.map Prod.fst }
  writeDest (showSample (recordError s l t.e) l t.inj) l y

/-- A sample of a loop whose input is stale: the output, integrator and derivative state stand (R431), and the sample is complete. -/
def staleSample (s : Hw) (l : Nat) (inj : Int) : Hw :=
  let s := s.cond (!s.flag (CLE_STATUS_stale l)) fun s => (s.setFld (CLE_LATCH_stale l) 1).raise 0x0F02
    [l, together 0x0F02 [s.fld (CLE_CFG_src_kind l), s.fld (CLE_CFG_src_idx l)]]
  let s := ((s.setFld (CLE_STATUS_stale l) 1).setFld (CLE_STATUS_miss l) 0).updLoop l fun x => { x with samples := x.samples + 1 }
  showSample s l inj

/-- u at a limit for 1 s without a break (R434). -/
def outputLimitAlarm (l : Nat) (s : Hw) : Hw :=
  match (s.loop l).satAt with
  | some (k, since) =>
    if s.ready 15 && loopMode s l != 0 && !(s.loop l).satSaid && decide (since + 10 ^ 9 ≤ s.dtime) then
      (s.updLoop l fun x => { x with satSaid := true }).raise 0x0F08 [l, k, s.num (CLE_Y l)]
    else s
  | none => s

/-! ### Repetitive control (R435 to R438) -/

/-- The bins' mean errors, 0 for a bin with none. -/
def meanErrors (s : Hw) (l : Nat) : List Int × Hw :=
  (List.range 256).foldl (fun (x : List Int × Hw) b =>
    let (a, n) := Map.get (0, 0) (s.loop l).errs b
    let (v, s') := ratio x.2 a n
    (x.1 ++ [v], s')) ([], s)

/-- A cyclic first-order low-pass run twice round the points; the second pass is the result. -/
def lowPass (a : Nat) (v : List Int) : List Int :=
  let pass := fun (y : Int) => v.foldl (fun (x : List Int × Int) p =>
    let y := x.2 + shr16 ((a : Int) * (p - x.2)); (x.1 ++ [y], y)) ([], y)
  (pass (pass 0).2).1

/-- Integers from points in fixed point. -/
def fixInts (s : Hw) (v : List Int) : List Int × Hw :=
  v.foldl (fun (x : List Int × Hw) p => let (k, s') := fixInt x.2 p; (x.1 ++ [k], s')) ([], s)

/-- The shaping of R436. The notch is real arithmetic with no rounding stated: which neighbour a point takes is free. -/
def shape (s : Hw) (l : Nat) (e : List Int) : List Int × Hw :=
  let f := coefN s l 12 % 65536
  let r := coefN s l 12 / 65536
  let a := coefN s l 13 / 65536
  let lead := coefN s l 13 / 256 % 256
  let tm := s.fld CLE_MAINS_period
  let v := (List.range 256).map fun b => e.getD ((b + lead) % 256) 0
  let (v, s) := if f > 0 ∧ tm > 0 ∧ f * tm < 128 * 10 ^ 8 then fixInts s (notch f r tm v) else (v, s)
  (if a > 0 then (lowPass a (lowPass a v).reverse).reverse else v, s)

/-- The shaped record joins the table (R436); an entry at ±rep_lim sets the latch, and event 0x0F09 once per episode. -/
def addRecord (s : Hw) (l : Nat) (delta : List Int) : Hw :=
  let lim := min ((coefN s l 14 : Int) * 65536) ((2 : Int) ^ 31 - 1)
  let new := (List.range 256).map fun b => clampI (-lim) lim (s.int (CLE_REP l b) + delta.getD b 0)
  let s := putWords s (CLE_REP l 0) (new.map (enc 32))
  match (List.range 256).find? fun b => (new.getD b 0).natAbs == lim.natAbs with
  | some b =>
    let s := s.setFld (CLE_LATCH_rep_lim l) 1
    (s.cond (!(s.loop l).limSaid) fun s => s.raise 0x0F09 [l, b]).updLoop l fun x => { x with limSaid := true }
  | none => s.updLoop l fun x => { x with limSaid := false }

/-- Entries loaded during phases 2 and 3 apply at the cycle start (Table 13-3a). -/
def applyLoads (s : Hw) (l : Nat) : Hw :=
  let s := (s.loop l).load.foldl (fun s e => putTable s (CLE_REP l e.1) (BitVec.ofNat 32 e.2)) s
  s.updLoop l fun x => { x with load := [] }

/-- kr v / n for every point; which neighbour a quotient takes is free. -/
def learned (s : Hw) (kr : Int) (n : Nat) (v : List Int) : List Int × Hw :=
  v.foldl (fun (x : List Int × Hw) p => let (k, s') := ratio x.2 (kr * p) n; (x.1 ++ [k], s')) ([], s)

/-- Was the cycle that ends within 2 % of the one before, with mains valid and the record not held (R436)? -/
def cycleSteady (s : Hw) (l : Nat) : Bool :=
  let x := s.loop l
  let tm := s.fld CLE_MAINS_period
  decide (x.period ≠ 0 ∧ 50 * (max tm x.period - min tm x.period) ≤ x.period) && s.flag CLE_MAINS_valid &&
    !s.flag (CLE_STATUS_rep_held l)

/-- The phase that begins with a cycle (R437): learning ends with the record of its last cycle applied (`applied`), on request, or
at once where it has no cycles; engaging ends after one cycle. -/
def nextPhase (s : Hw) (l : Nat) (applied : Bool) : Hw :=
  let x := s.loop l
  let ph := s.fld (CLE_STATUS_rep l)
  let done := x.begun && applied && decide (s.fld (CLE_STATUS_cycles l) ≥ s.fld (CLE_LEARN_learn_cycles l))
  if ph == 1 && (x.engage || s.fld (CLE_LEARN_learn_cycles l) == 0 || done) then
    (s.setFld (CLE_STATUS_rep l) 2).updLoop l fun x => { x with engage := false }
  else if ph == 2 then (s.setFld (CLE_STATUS_rep l) 3).raise 0x0F03 [l, s.fld (CLE_STATUS_cycles l)]
  else s

/-- Is the cycle that ends, begun in phase `ph`, recorded (R436, R438)? -/
def cycleRecorded (s : Hw) (l ph : Nat) (steady : Bool) : Bool :=
  let x := s.loop l
  steady && x.offAt.isNone && !x.back && x.begun && (ph == 3 || ph == 1 && s.fld (CLE_STATUS_rep l) == 1 &&
    decide (s.fld (CLE_STATUS_cycles l) < s.fld (CLE_LEARN_learn_cycles l)))

/-- Its record: the bins' mean errors shaped and weighted, n the cycles of learning or 1 (R436). -/
def cycleRecord (s : Hw) (l ph : Nat) : List Int × Hw :=
  let (e, s) := meanErrors s l
  let n := if ph = 1 then max 1 (s.fld (CLE_LEARN_learn_cycles l)) else 1
  let (v, s) := shape s l e
  let (d, s) := learned s (coefI s l 11) n v
  (d, s.countFld (CLE_STATUS_cycles l))

/-- Has the mains period been valid for 1 s? -/
def mainsGood (s : Hw) : Bool :=
  s.flag CLE_MAINS_valid && (match s.cle.goodAt with
    | some t => decide (t + 10 ^ 9 ≤ s.dtime)
    | none => false)

/-- A cycle begins, with the record `delta` of the one before; the weight returns once the period has been valid for 1 s (R438). -/
def cycleBegins (s : Hw) (l : Nat) (delta : List Int) : Hw :=
  let back := (s.loop l).offAt.isSome && mainsGood s
  let off := if mainsGood s then none else (s.loop l).offAt
  let s := s.cond back fun s => s.setFld (CLE_STATUS_rep_held l) 0
  let tm := s.fld CLE_MAINS_period
  s.updLoop l fun z => { z with errs := [], begun := true, period := tm, delta := delta, back := back, offAt := off }

/-- What a cycle start does in auto: the record of the cycle before and the loaded entries apply, the phase goes on, and the cycle that
ends is recorded. DEDUCED (log 82): the cycle of phase 2 is not recorded, since R436 gives n for learning and engaged only. -/
def turnCycle (s : Hw) (l : Nat) : Hw :=
  let d := (s.loop l).delta
  let steady := cycleSteady s l
  let ph := s.fld (CLE_STATUS_rep l)
  let s := nextPhase (applyLoads (s.cond (!d.isEmpty) fun s => addRecord s l d) l) l (!d.isEmpty)
  let (delta, s) := if cycleRecorded s l ph steady then cycleRecord s l ph else ([], s)
  cycleBegins s l delta

/-- `n` samples not computed by the next instant (R429): the loop keeps its state, and its schedule goes past them. -/
def missSamples (s : Hw) (l n : Nat) : Hw :=
  if n = 0 then s
  else
    let (sec, k) := (s.loop l).misses
    let now := s.second
    let s := s.cond (sec != now) fun s => s.raise 0x0F01 [l, if sec + 1 = now then k else 0]
    let s := s.updLoop l fun x => { x with misses := if sec = now then (sec, k + n) else (now, n) }
    let s := ((s.setFld (CLE_STATUS_miss l) 1).setFld (CLE_LATCH_miss l) 1).count (CLE_MISS l) n
    testConsume (s.pmc 0x0A1 n) l n

/-- The instants of the mains cycle that ends which the loop has neither taken nor missed: those before the new start. -/
def cycleLeft (s : Hw) (l : Nat) : Nat :=
  let x := s.loop l
  let len := s.num64 MCV_MAINS_T - x.cycle
  min (cycleSamples s l) ((len * cycleSamples s l + x.cycleT * 10 - 1) / (x.cycleT * 10)) - x.j

/-- The detector has reported a new mains cycle since the loop's schedule last began one: samples of the old cycle that are left have
missed their deadline, in auto the repetitive term goes on (R436, R437), and the schedule restarts (R435). -/
def endCycle (l : Nat) (s : Hw) : Hw :=
  let z := s.num64 MCV_MAINS_T
  if !byMains s l || loopMode s l == 0 || !s.flag CLE_MAINS_valid || (s.loop l).cycle == z then s
  else
    let s := s.cond (decide ((s.loop l).cycleT ≠ 0)) fun s => missSamples s l (cycleLeft s l)
    let s := s.cond (loopMode s l == 2) fun s => turnCycle s l
    s.updLoop l fun x => { x with j := 0, cycle := z, cycleT := s.fld CLE_MAINS_period }

/-- REP_CYCLE_END: the end of a mains cycle for a loop with repetitive control. -/
def repCycleEnd (l : Nat) (s : Hw) : Hw := if s.ready 15 then endCycle l s else s

/-! ### Samples (R428, R429, R433) -/

/-- Samples of a loop whose deadline has passed are abandoned. -/
def takeMisses (l : Nat) (s : Hw) : Hw :=
  let n := instantsMissed s l
  if n = 0 then s else goTo (missSamples s l n) l (instantNow s l)

/-- The loop computes the sample that is due (R433), and goes on to its next instant; with mains invalid its schedule stands. -/
def computeSample (codes : List (List Nat)) (l : Nat) (s : Hw) : Hw :=
  let new := sourceNew s l
  let n := if new then 0 else (s.loop l).unchanged + 1
  let staleN := coefN s l 3 % 65536
  let stale := decide (staleN ≠ 0 ∧ n ≥ staleN)
  let s := s.updLoop l fun x => { x with unchanged := n, taken := if new then sourceCount s l else x.taken }
  let ((injR, injX, injU), s) := injections s l
  let inj := injR + injX + shr16 injU
  let s :=
    if stale then staleSample s l inj
    else
      let s := s.setFld (CLE_STATUS_stale l) 0
      let x := sat32 (shr16 ((rawValue s l codes - coefI s l 5) * coefI s l 4) + injX)
      let s := s.cond (s.loop l).fresh fun s => startLoop s l x
      completeSample s l (loopTerms s l x injR injU inj)
  let s := testConsume s l 1
  if byMains s l && !s.flag CLE_MAINS_valid then s else goTo s l (instantNow s l + 1)

/-- A loop's schedule up to now: a new mains cycle, then the samples that missed their deadline. -/
def catchUp (l : Nat) (s : Hw) : Hw := if loopMode s l = 0 then s else takeMisses l (endCycle l s)

/-- May the loop compute a sample now? -/
def sampleDue (s : Hw) (l : Nat) : Bool := loopMode s l != 0 && s.declared (19 + l) && instantDue s l

/-- The loops below `l` whose instant coincides with that of `l`, both in a schedule. -/
def coinciding (s : Hw) (l : Nat) : List Nat :=
  (List.range l).filter fun k => sampleDue s k && dueAt s k == dueAt s l &&
    (s.flag CLE_MAINS_valid || !(byMains s k || byMains s l))

/-- A sample instant of loop `l` (R428). Loops with a lower number whose instant coincides are computed first, in ascending order, where
they have not been. -/
def loopSample (l : Nat) (codes : List (List Nat)) (s : Hw) : Hw :=
  if !s.ready 15 then s
  else
    let s := s.each (List.range (l + 1)) catchUp
    if !sampleDue s l then s
    else s.each (coinciding s l ++ [l]) (computeSample codes)

/-- Samples not computed by the next instant (R429). -/
def deadlineMiss (l : Nat) (s : Hw) : Hw := if s.ready 15 then catchUp l s else s

/-- 1 s of invalid mains: the weight ramps out over 20 ms (R438). -/
def mainsInvalidDisengage (l : Nat) (s : Hw) : Hw :=
  let w := weightNow s l
  if s.ready 15 && s.flag (CLE_CFG_rep_en l) && decide (l < 16) && loopMode s l == 2 && !s.flag CLE_MAINS_valid &&
      (s.loop l).offAt.isNone && (match s.cle.badAt with
        | some t => decide (t + 10 ^ 9 ≤ s.dtime)
        | none => false) then
    (s.updLoop l fun x => { x with offAt := some s.dtime, weight := w, back := false }).raise 0x0F04 [l, s.fld CLE_MAINS_period]
  else s

/-- The engine load of the loops for which `on` holds, as a fraction of samples per microsecond. DESIGN CHOICE (log 98): until a mains
period has been reported, a loop with repetitive control counts as at 50 Hz. -/
def engineLoad (s : Hw) (on : Nat → Bool) : Nat × Nat :=
  loops32.foldl (fun (x : Nat × Nat) l =>
    if !on l then x
    else
      let (a, b) := if byMains s l then
          (2 * 256 * 2 ^ s.fld (CLE_CFG_sub l) * 100, if s.fld CLE_MAINS_period = 0 then 2000000 else s.fld CLE_MAINS_period)
        else (1, max 1 (s.fld (CLE_PERIOD_period l)))
      (x.1 * b + a * x.2, x.2 * b)) (0, 1)

/-- CLE_LOAD in per mille of 3.0. -/
def settleLoad (s : Hw) : Hw :=
  let (a, b) := engineLoad s fun l => loopMode s l != 0
  s.setFld CLE_LOAD_load (min 1023 (a * 1000 / (3 * b)))

/-- dest_below and dest_above follow the destination of a loop that is not off (R433). -/
def settleHeldDest (l : Nat) (s : Hw) : Hw :=
  if loopMode s l = 0 then s
  else
    let (below, above) := destHeld s l
    (s.setFlag (CLE_STATUS_dest_below l) below).setFlag (CLE_STATUS_dest_above l) above

/-- The mains period as CLE uses it, and the hold of recording while it is invalid (R435, R438); the load follows it (R430). -/
def settleCle (s : Hw) : Hw :=
  let v := s.ready 16 && s.flag MCV_MAINS_valid
  let s := s.setFlag CLE_MAINS_valid v
  let s := s.cond (v && s.fld CLE_MAINS_period != s.fld MCV_MAINS_period) fun s =>
    settleLoad (s.setFld CLE_MAINS_period (s.fld MCV_MAINS_period))
  let s := { s with cle := { s.cle with goodAt := if v then some (s.cle.goodAt.getD s.dtime) else none,
                                        badAt := if v then none else some (s.cle.badAt.getD s.dtime) } }
  let s := s.each (s.cle.loops.map Prod.fst) settleHeldDest
  s.each (List.range 16) fun l s =>
    if !s.flag (CLE_CFG_rep_en l) || loopMode s l != 2 then s.setFld (CLE_STATUS_rep_held l) 0
    else if !v then s.setFld (CLE_STATUS_rep_held l) 1
    else if (s.loop l).offAt.isNone then s.setFld (CLE_STATUS_rep_held l) 0
    else s

/-! ### Lock-in demodulators (R427) -/

/-- The reference of demodulator `d` in fixed point, `k` update instants before the last one: sin of harmonic h of the generator's phase,
shifted by the configured phase. -/
def liaReference (s : Hw) (d k : Nat) : Int :=
  let g := s.fld (CLE_LIA_CFG_generator d)
  let back := k * s.num (AOU_GEN_INC g) % 2 ^ 32
  let phi := (s.num (AOU_GEN_PHASE g) + 2 ^ 32 - back) % 2 ^ 32
  sineOf (((s.fld (CLE_LIA_CFG_harmonic d) + 1) * phi + s.fld (CLE_LIA_CFG_phase d) * 2 ^ 22) % 2 ^ 32) (2 ^ 32)

/-- The source's value in source units: a result word, or the power of a detector's sample (R424). -/
def liaSource (s : Hw) (d : Nat) (v : Int) : Int :=
  if s.fld (CLE_LIA_CFG_src_kind d) = 0 then v else samplePower s (s.fld (CLE_LIA_CFG_src_idx d)) v.toNat

/-- The mean over the window of the source times the reference, one product at each update instant (DESIGN CHOICE: log entry 98); the spec
states no rounding, and which neighbour the mean takes is free. -/
def liaMean (s : Hw) (d : Nat) (values : List Int) : Int × Hw :=
  let vs := (lastN (s.fld (CLE_LIA_WIN_window d)) values).reverse
  let sum := (vs.foldl (fun (a : Int × Nat) v => (a.1 + liaSource s d v * liaReference s d a.2, a.2 + 1)) (0, 0)).1
  if vs.isEmpty then (let (f, s) := s.free; (sx 32 f, s)) else ratio s sum (vs.length * 2 ^ 80)

/-- The mean of a window is published, at the end of the window (R427). -/
def lockinWindowEnd (d : Nat) (values : List Int) (s : Hw) : Hw :=
  if !s.ready 15 || decide (s.dtime < Map.get 0 s.cle.liaAt d + s.fld (CLE_LIA_WIN_window d) * 1000) then s
  else
    let (r, s) := liaMean s d values
    let s := s.setInt (CLE_LIA_OUT d) r
    { s with cle := { s.cle with liaN := Map.put 0 s.cle.liaN d (Map.get 0 s.cle.liaN d + 1),
                                 liaAt := Map.put 0 s.cle.liaAt d s.dtime } }

/-! ### Modes and load (R425, R430, R434, R437) -/

/-- Two loops name the same destination. -/
def sameDest (s : Hw) (a b : Nat) : Bool :=
  s.fld (CLE_CFG_dst_kind a) != 0 && s.fld (CLE_CFG_dst_kind a) == s.fld (CLE_CFG_dst_kind b) &&
    s.fld (CLE_CFG_dst_idx a) == s.fld (CLE_CFG_dst_idx b)

/-- A loop changes its mode: the test signal on it ends, phase 1 or 0 of the repetitive term, a fresh start from off at the next instant
of its schedule; entries loaded for the next cycle start apply where it leaves auto (DEDUCED: log entry 127). -/
def changeMode (s : Hw) (l m : Nat) : Hw :=
  let old := loopMode s l
  if old = m then s
  else
    let s := s.cond (s.fld CLE_TEST_loop == l) fun s => endTest s 2
    let s := s.setFld (CLE_STATUS_mode l) m
    let s := s.cond (old == 2) fun s => (applyLoads s l).updLoop l fun x => { x with engage := false }
    let s := s.cond (old == 0) fun s => s.updLoop l fun x =>
      { x with fresh := true, unchanged := 0, taken := sourceCount s l, instant := instantNow s l, j := instantNow s l + 1
               cycle := s.num64 MCV_MAINS_T, cycleT := if s.flag CLE_MAINS_valid then s.fld CLE_MAINS_period else 0 }
    let s := s.cond (m == 0) fun s =>
      let s := [CLE_STATUS_stale l, CLE_STATUS_sat_hi l, CLE_STATUS_sat_lo l, CLE_STATUS_dest_below l,
        CLE_STATUS_dest_above l, CLE_STATUS_miss l, CLE_STATUS_conflict l].foldl (fun s f => s.setFld f 0) s
      s.updLoop l fun x => { x with satAt := none, satSaid := false }
    if m = 2 then
      if byMains s l then
        ((s.setFld (CLE_STATUS_rep l) 1).setFld (CLE_STATUS_cycles l) 0).updLoop l fun x =>
          { x with begun := false, errs := [], delta := [], period := 0, offAt := none, back := false }
      else s
    else s.setFld (CLE_STATUS_rep l) 0

/-- A loop goes off, its destination keeping its last value. -/
def loopOff (s : Hw) (l : Nat) : Hw := settleLoad (changeMode s l 0)

/-! ### Commands (Table 13-5) -/

def cleDoms : Hw → Bytes → List Nat := fun _ _ => [15]

/-- The loops that a CLE command names, as a mask. -/
def cleNames (opc : Nat) (p : Bytes) : Nat :=
  match opc with
  | 0x0F03 => u32 p 0
  | 0x0F07 => u16 p 0
  | 0x0F08 => 0
  | 0x0F0A => 0
  | 0x0F0C => 2 ^ 32 - 1
  | _ => 2 ^ u8 p 0

/-- Commands that name disjoint loops are concurrent, and CLE_TEST_STOP with every one (R442). -/
def cleConc (opc : Nat) : Hw → Bytes → RunCmd → Bool := fun _ p r =>
  cleNames opc p &&& cleNames r.opcode (coreParams r.req) == 0

def srcMax (k l : Nat) : Nat := if k = 0 then 63 else if k = 1 then 7 else if k = 2 then 31 else if k = 3 then 7 else l - 1

/-- Do the source and destination of a loop follow Table 13-1? The number of the first parameter that does not. -/
def loopBad (p : Bytes) : Option Nat :=
  let l := u8 p 0
  if u8 p 2 > srcMax (u8 p 1) l ∨ (u8 p 1 = 4 ∧ l = 0) then some 3
  else
    let k := u8 p 3
    let i := u8 p 4
    let ok := if k = 1 then decide (i ≤ 23) else if k = 2 then decide (i ≤ 7) else if k = 3 then decide (i ≤ 3)
      else if k = 4 then decide (l < i ∧ i ≤ 31) else decide (i ≤ 31)
    if ok then none else some 5

def applyCleLoop (p : Bytes) (s : Hw) : Hw :=
  let l := u8 p 0
  let s := ((s.setFld (CLE_CFG_src_kind l) (u8 p 1)).setFld (CLE_CFG_src_idx l) (u8 p 2)).setFld (CLE_CFG_dst_kind l) (u8 p 3)
  let s := ((s.setFld (CLE_CFG_dst_idx l) (u8 p 4)).setFld (CLE_PERIOD_period l) (u32 p 5)).setFld (CLE_CFG_rep_en l) (bit (u8 p 9) 0)
  (s.setFld (CLE_CFG_sub l) (u8 p 9 / 2 % 4)).setFld (CLE_LEARN_learn_cycles l) (u16 p 10)

def cleLoopChks : List Chk :=
  [.rng 1 0 31, .rng 1 0 4, .any 1, .rng 1 0 4, .any 1, .rng 4 1 100000, .msk 1 7, .any 2]

def opCleLoopConfig : OpSpec :=
  { OpSpec.fix headCleLoopConfig cleLoopChks fun s c =>
      let l := u8 c.p 0
      if loopMode s l ≠ 0 then .refuse stCONDITIONS 1 s
      else if hasBit (u8 c.p 9) 0 ∧ l > 15 then .refuse stCONDITIONS 2 s
      else .ok (applyCleLoop c.p s) with
    check := fun _ p => match runChks cleLoopChks 1 0 p with
      | some k => (match loopBad p with
        | some j => some (min k j)
        | none => some k)
      | none => loopBad p
    doms := cleDoms
    conc := cleConc 0x0F01
    objs := fun p => [u8 p 0] }

def opCleCoefLoad : OpSpec :=
  { OpSpec.fix headCleCoefLoad ([.rng 1 0 31, .msk 1 1] ++ List.replicate 16 (.any 4)) fun s c =>
      let l := u8 c.p 0
      let declare := hasBit (u8 c.p 1) 0
      let s' := putWords s (CLE_COEF l 0) ((List.range 16).map fun w => u32 c.p (2 + 4 * w))
      if loopMode s l ≠ 0 ∧ !declare then .refuse stCONDITIONS 1 s
      else if declare then .ok ((setDeclared s' (19 + l) true).raise 0x0C07 [19 + l, Map.get 0 s.mem.preN (19 + l)])
      else .ok s' with
    check := fun _ p =>
      match runChks [.rng 1 0 31, .msk 1 1] 1 0 p with
      | some k => some k
      | none =>
        if s32 p (2 + 4 * 6) > s32 p (2 + 4 * 7) then some 7
        else if u32 p (2 + 4 * 13) % 256 ≠ 0 ∨ u32 p (2 + 4 * 13) / 256 % 256 > 63 then some 16 else none
    doms := cleDoms
    conc := cleConc 0x0F02 }

/-- The destination's range for out_min and out_max (Table 13-1). -/
def destMax (s : Hw) (l : Nat) : Option Int :=
  match s.fld (CLE_CFG_dst_kind l) with
  | 1 => some 65535
  | 2 | 3 => some 31
  | _ => none

/-- Does a loop meet condition `k` of R442 for manual or auto? -/
def modeMeets (s : Hw) (k l : Nat) : Bool :=
  match k with
  | 1 => s.declared (19 + l)
  | 2 => !s.flag (CLE_CFG_rep_en l) || s.declared (51 + l)
  | _ => match destMax s l with
    | some m => decide (0 ≤ coefI s l 6 ∧ coefI s l 6 ≤ m ∧ 0 ≤ coefI s l 7 ∧ coefI s l 7 ≤ m)
    | none => true

/-- Why loops cannot go to manual or auto: the lowest CONDITIONS detail that holds of any of them (R442). -/
def modeRefused (s : Hw) (ls : List Nat) : Option Nat := [1, 2, 3].find? fun k => !ls.all (modeMeets s k)

def opCleModeSet : OpSpec :=
  { OpSpec.fix headCleModeSet [.nzm 4 0xFFFFFFFF, .rng 1 0 2] fun s c =>
      let ls := bitsOf 32 (u32 c.p 0)
      let m := u8 c.p 4
      let on := fun l => if ls.contains l then m != 0 else loopMode s l != 0
      let out := fun (s : Hw) => toBE 2 (s.fld CLE_LOAD_load) ++ [0, 0]
      match (if m = 0 then none else modeRefused s ls) with
      | some d => .refuse stCONDITIONS d s
      | none =>
        let clash := m != 0 && loops32.any fun a => on a && loops32.any fun b => decide (a < b) && on b && sameDest s a b
        let (a, b) := engineLoad s on
        if clash then .refuse stREFUSED 0x0F01 s
        else if m ≠ 0 ∧ a > 3 * b then .refuse stREFUSED 0x0F03 s
        else
          let s := settleLoad (s.each ls fun l s => changeMode s l m)
          .ok s (out s) with
    doms := cleDoms
    conc := cleConc 0x0F03 }

/-- Does a loop that is not off write the set-point of loop `l`? -/
def cascaded (s : Hw) (l : Nat) : Bool :=
  loops32.any fun a => loopMode s a != 0 && s.fld (CLE_CFG_dst_kind a) == 4 && s.fld (CLE_CFG_dst_idx a) == l

def opCleSetpoint : OpSpec :=
  { OpSpec.fix headCleSetpoint [.rng 1 0 31, .any 4, .any 4, .msk 1 3] fun s c =>
      let l := u8 c.p 0
      if cascaded s l then .refuse stCONDITIONS 1 s
      else
        let s := s.cond (hasBit (u8 c.p 9) 0) fun s => s.setNum (CLE_SETPT l) (u32 c.p 1)
        .ok (s.cond (hasBit (u8 c.p 9) 1) fun s => s.setNum (CLE_MANUAL l) (u32 c.p 5)) with
    doms := cleDoms
    conc := cleConc 0x0F04 }

/-- Entries of a repetitive table in a CLE_REP_LOAD: loop, first bin, count in 2 bytes, flags, the entries. -/
def opCleRepLoad : OpSpec :=
  { OpSpec.list headCleRepLoad [.rng 1 0 15, .any 1, .any 2, .msk 1 3] 3 2 2 1 256 4 fun s c =>
      let l := u8 c.p 0
      let declare := hasBit (u8 c.p 4) 0
      let vs := (List.range (u16 c.p 2)).map fun i => u32 c.p (5 + 4 * i)
      let ph := s.fld (CLE_STATUS_rep l)
      let s' := putWords s (CLE_REP l (u8 c.p 1)) vs
      if loopMode s l = 2 ∧ !declare then .refuse stCONDITIONS 1 s
      else if declare ∧ !coverFull s' (51 + l) then .refuse stCONDITIONS 2 s
      else
        let s := if ph ≥ 2 then
            s.updLoop l fun x => { x with load := x.load ++ (List.range vs.length).map fun i => (u8 c.p 1 + i, vs.getD i 0) }
          else s'.updLoop l fun x => { x with engage := hasBit (u8 c.p 4) 1 }
        .ok (s.cond declare fun s => (setDeclared s (51 + l) true).raise 0x0C07 [51 + l, Map.get 0 s.mem.preN (51 + l)]) with
    check := fun _ p =>
      match runChks [.rng 1 0 15, .any 1, .any 2, .msk 1 3] 1 0 p with
      | some k => some k
      | none => if u8 p 1 + u16 p 2 > 256 then some 3 else none
    doms := cleDoms
    conc := cleConc 0x0F05 }

/-- A table that is not declared answers with its raw contents and UNINIT_REGION, as a fabric read of it does (R513). -/
def opCleRepRead : OpSpec :=
  { OpSpec.fix headCleRepRead [.rng 1 0 15, .any 1, .rng 2 1 256] fun s c =>
      let a := CLE_REP (u8 c.p 0) (u8 c.p 1)
      let b := (List.range (u16 c.p 2)).flatMap (fun i => toBE 4 (tableWord s (a + i)).toNat) ++ toBE 8 (s.num64 MCV_MAINS_T)
      if s.declared (51 + u8 c.p 0) then .ok s b else .done stUNINIT (a % 2 ^ 16) b s with
    check := fun _ p =>
      match runChks [.rng 1 0 15, .any 1, .rng 2 1 256] 1 0 p with
      | some k => some k
      | none => if u8 p 1 + u16 p 2 > 256 then some 3 else none
    doms := cleDoms }

/-- A table filled with zeros and declared. -/
def zeroTable (s : Hw) (t : Nat) : Hw :=
  let (b, n) := tableWords t
  let s := putWords s b (List.replicate n 0)
  (setDeclared s t true).raise 0x0C07 [t, Map.get 0 s.mem.preN t]

def opCleRepReset : OpSpec :=
  { OpSpec.fix headCleRepReset [.any 2] fun s c =>
      .ok (s.each (bitsOf 16 (u16 c.p 0)) fun l s =>
        let s := (zeroTable s (51 + l)).updLoop l fun x => { x with load := [], engage := false }
        if loopMode s l = 2 ∧ s.flag (CLE_CFG_rep_en l) then
          ((s.setFld (CLE_STATUS_rep l) 1).setFld (CLE_STATUS_cycles l) 0).updLoop l fun x =>
            { x with begun := false, errs := [], delta := [], offAt := none, back := false }
        else s) with
    doms := cleDoms
    conc := cleConc 0x0F07 }

def applyCleLia (p : Bytes) (s : Hw) : Hw :=
  let d := u8 p 0
  let s := ((s.setFld (CLE_LIA_CFG_src_kind d) (u8 p 1)).setFld (CLE_LIA_CFG_src_idx d) (u8 p 2)).setFld
    (CLE_LIA_CFG_generator d) (u8 p 3)
  ((s.setFld (CLE_LIA_CFG_harmonic d) (u8 p 4 - 1)).setFld (CLE_LIA_CFG_phase d) (u16 p 5)).setFld (CLE_LIA_WIN_window d) (u16 p 7)

def cleLiaChks : List Chk := [.rng 1 0 7, .rng 1 0 1, .rng 1 0 63, .rng 1 0 3, .rng 1 1 2, .rng 2 0 1023, .rng 2 10 10000]

def opCleLiaConfig : OpSpec :=
  { OpSpec.fix headCleLiaConfig cleLiaChks fun s c => .ok (applyCleLia c.p s) with
    check := fun _ p => match runChks (cleLiaChks.take 2) 1 0 p with
      | some k => some k
      | none => if u8 p 1 = 1 ∧ u8 p 2 > 7 then some 3 else runChks cleLiaChks 1 0 p
    doms := cleDoms
    conc := cleConc 0x0F08
    objs := fun p => [u8 p 0] }

/-- The DTIME of the loop's first sample instant after now (R428, R435). -/
def nextSample (s : Hw) (l : Nat) : Nat :=
  if byMains s l then
    mainsInstant s l (instantNow s l + 1)
  else (instantNow s l + 1) * (s.fld (CLE_PERIOD_period l) * 1000)

def opCleTestStart : OpSpec :=
  { OpSpec.fix headCleTestStart
      [.rng 1 0 31, .rng 1 0 2, .rng 1 0 3, .any 4, .rng 2 1 65535, .any 4, .any 4, .rng 4 1 16777215] fun s c =>
      let l := u8 c.p 0
      if s.flag CLE_TEST_running then .refuse stCONDITIONS 1 s
      else if loopMode s l = 0 then .refuse stCONDITIONS 2 s
      else
        let t : TestSig := { amp := s32 c.p 3, h := u16 c.p 7, f0 := u32 c.p 9, f1 := u32 c.p 13, len := u32 c.p 17 }
        let s := ((s.setFld CLE_TEST_running 1).setFld CLE_TEST_point (u8 c.p 1)).setFld CLE_TEST_type (u8 c.p 2)
        let s := ((s.setFld CLE_TEST_loop l).setNum CLE_TEST_DONE 0).setFld (CLE_STATUS_test l) 1
        let s : Hw := { s with cle := { s.cle with test := some t } }
        .ok (s.raise 0x0F05 [l, u8 c.p 1, u8 c.p 2]) (toBE 8 (nextSample s l % 2 ^ 64)) with
    doms := cleDoms
    conc := cleConc 0x0F09 }

def opCleTestStop : OpSpec :=
  { OpSpec.fix headCleTestStop [] fun s _ => .ok (endTest s 1) (toBE 4 (s.num CLE_TEST_DONE)) with
    doms := cleDoms
    conc := fun _ _ _ => true }

/-- Words 0 to 10 of Table 13-6. -/
def loopWords (l : Nat) : List Nat :=
  [CLE_CFG l, CLE_PERIOD l, CLE_SETPT l, CLE_MANUAL l, CLE_STATUS l, CLE_X l, CLE_E l, CLE_Y l, CLE_R l, CLE_MISS l, CLE_LATCH l]

def opCleStatusRead : OpSpec :=
  { OpSpec.fix headCleStatusRead [.any 4, .msk 1 1] fun s c =>
      .ok (s.cond (hasBit (u8 c.p 4) 0) fun s => s.zeroRegs (loops32.map CLE_MISS))
        (s.wordsAt ([CLE_COEF_INIT, CLE_REP_INIT, CLE_LOAD, CLE_MAINS] ++ (bitsOf 32 (u32 c.p 0)).flatMap loopWords) ++ s.dtimeBytes) with
    doms := cleDoms }

def opCleInit : OpSpec :=
  { OpSpec.fix headCleInit [] fun s _ =>
      let s := settleLoad (s.each loops32 fun l s => changeMode s l 0)
      let s := s.each loops32 fun l s => s.updLoop l fun x => { x with engage := false }
      .ok (s.each ((List.range 48).map (19 + ·)) fun t s => zeroTable s t) with
    doms := cleDoms
    conc := cleConc 0x0F0C }

/-- The configuration of loops and demodulators takes its stored values, or those of a cold start where none are stored (R444). -/
def restoreCle (s : Hw) : Hw :=
  let put := fun (n : Nat) (l : List Nat) (f : Bytes → Hw → Hw) (s : Hw) =>
    match adoptedBody s n with
    | some p => f p (s.coldRegs l)
    | none => s.coldRegs l
  let s := s.each loops32 fun l s => put (0x0F010000 + l) [CLE_CFG l, CLE_PERIOD l, CLE_LEARN l] applyCleLoop s
  s.each (List.range 8) fun d s => put (0x0F080000 + d) [CLE_LIA_CFG d, CLE_LIA_WIN d] applyCleLia s

/-- D15 powers up (R444): every loop off, no test signal, no load. -/
def clePowerUp (s : Hw) : Hw :=
  let s := restoreCle (s.each loops32 fun l s => s.coldRegs ((loopWords l).drop 2))
  let s := s.coldRegs ([CLE_TEST, CLE_TEST_DONE, CLE_LOAD, CLE_MAINS] ++ (List.range 8).map CLE_LIA_OUT)
  { s with cle := { lrxN := s.cle.lrxN } }

/-- D15 is lost: a running test signal ends with reason 3, every loop is off (Table 13-3a). -/
def cleDown (s : Hw) : Hw :=
  let s := endTest s 3
  let s := s.each loops32 fun l s => s.coldRegs [CLE_STATUS l]
  s.coldRegs [CLE_LOAD]

end Sys2Proof.Machine
end

