-- ==== Sys2Proof/Machine/Mcv.lean ====
section
/-!
DEFINITION. Monitor converters (15): the mains detector, the sequence table and its converters, results and thresholds,
plausibility and quarantine, and the MCV commands.
-/
namespace Sys2Proof.Machine
open Reg

def Hw.conv (s : Hw) (c : Nat) : Conv := Map.get {} s.mcv.conv c
def Hw.updConv (s : Hw) (c : Nat) (f : Conv → Conv) : Hw :=
  { s with mcv := { s.mcv with conv := Map.upd {} s.mcv.conv c f } }
def convs : List Nat := [0, 1, 2, 3]
def convPartner (c : Nat) : Nat := if c % 2 = 0 then c + 1 else c - 1
def pairOf (c : Nat) : Nat := c / 2

/-! ### The mains period (R464, R465) -/

def mainsSrc (s : Hw) : Nat := s.fld MCV_CFG_mains_src

/-- The period of a fixed source in ns. -/
def fixedPeriod (src : Nat) : Nat := if src = 1 then 20000000 else 16666670

/-- The MAINS_SNS period becomes invalid: cause 0 no edge, 1 out of range. -/
def mainsInvalid (s : Hw) (cause : Nat) : Hw :=
  let s := { s with mcv := { s.mcv with goodRun := 0 } }
  if !s.flag MCV_MAINS_valid then s
  else
    let s := ((s.setFld MCV_MAINS_valid 0).setFld MCV_MAINS_fallback 1).setFld MCV_LATCH_mains_lost 1
    (s.count MCV_MAINS_LOST).raise 0x1107 [s.fld MCV_MAINS_period, cause]

/-- An accepted rising edge on MAINS_SNS, stamped 20 µs back; edges within 10 ms of the last accepted one are ignored. -/
def mainsEdge (s : Hw) : Hw :=
  if !s.ready 16 || mainsSrc s != 0 then s
  else
    let t := s.dtime - 20000
    match s.mcv.edge with
    | none => { s.setNum64 MCV_MAINS_T (t % 2 ^ 64) with mcv := { s.mcv with edge := some t } }
    | some last =>
      if t < last + 10 ^ 7 then s
      else
        let p := t - last
        let prev := s.mcv.period
        let inRange := decide (10 ^ 9 ≤ p * 62 ∧ p * 48 ≤ 10 ^ 9)
        let close := decide (prev ≠ 0 ∧ 100 * (max p prev - min p prev) ≤ prev)
        let s := s.setNum64 MCV_MAINS_T (t % 2 ^ 64)
        let run := if inRange && close then s.mcv.goodRun + 1 else 0
        let s := { s with mcv := { s.mcv with edge := some t, period := p } }
        if !inRange then mainsInvalid s 1
        else
          let s := { s.setFld MCV_MAINS_period (p / 10) with mcv := { s.mcv with goodRun := run } }
          if decide (run ≥ 4) && !s.flag MCV_MAINS_valid then
            ((s.setFld MCV_MAINS_valid 1).setFld MCV_MAINS_fallback 0).raise 0x1108 [p / 10]
          else s

/-- No edge for 25 ms; the row does nothing before that. -/
def mainsTimeout (s : Hw) : Hw :=
  if s.ready 16 && mainsSrc s == 0 && (match s.mcv.edge with
      | some t => decide (t + 25 * 10 ^ 6 ≤ s.dtime)
      | none => false) then
    mainsInvalid { s with mcv := { s.mcv with edge := none, period := 0 } } 0
  else s

/-- A fixed source is always valid, its cycles starting at multiples of its period. -/
def settleMains (s : Hw) : Hw :=
  if !s.ready 16 || mainsSrc s == 0 then s
  else
    let p := fixedPeriod (mainsSrc s)
    let s := ((s.setFld MCV_MAINS_valid 1).setFld MCV_MAINS_fallback 0).setFld MCV_MAINS_period (p / 10)
    s.setNum64 MCV_MAINS_T (s.dtime / p * p % 2 ^ 64)

/-! ### Sequence entries (R466 to R470) -/

def seqWords (s : Hw) (e : Nat) : List Nat := (List.range 8).map fun j => s.num (MCV_SEQ e j)
def ew (w : List Nat) (j : Nat) : Nat := w.getD j 0
def eValid (w : List Nat) : Bool := ew w 0 / 2 ^ 31 == 1
def eConv (w : List Nat) : Nat := ew w 0 / 2 ^ 26 % 4
def eChan (w : List Nat) : Nat := ew w 0 / 2 ^ 20 % 64
def eProf (w : List Nat) : Nat := ew w 0 / 2 ^ 17 % 8
def eMains (w : List Nat) : Bool := hasBit (ew w 0) 16
def eWindow (w : List Nat) : Nat := ew w 0 % 2 ^ 14
def eRepeat (w : List Nat) : Nat := ew w 1 / 65536
def eDelay (w : List Nat) : Nat := ew w 1 % 65536

/-- A profile's output interval in 10^-6 µs (Table 15-3); 0 for the count over a window. -/
def profInterval (p : Nat) : Nat :=
  if p = 0 then 0 else if p ≤ 2 then 1562500 else if p ≤ 4 then 12500000 else if p ≤ 6 then 100000000 else 390625

/-- Why an entry does not run (R469): the number of its field in the order of Table 15-2. -/
def entryBad (w : List Nat) : Option Nat :=
  if eChan w > 34 then some 4
  else if !eMains w && (decide (eWindow w < 2) || decide (eWindow w > 10000) ||
      decide (eWindow w * 10 ^ 6 < profInterval (eProf w))) then some 8
  else if eRepeat w = 0 then some 9
  else none

/-- As `entryBad`, with field 0 for an entry that holds an uncorrectable word (Table 17-2). -/
def entryFault (s : Hw) (e : Nat) : Option Nat :=
  if (List.range 8).any fun j => poisoned s (MCV_SEQ e j) then some 0 else entryBad (seqWords s e)

def quarantined (s : Hw) (c : Nat) : Bool := hasBit (s.fld MCV_STATUS_quar) c
def inPlaus (s : Hw) (c : Nat) : Bool := hasBit (s.fld MCV_STATUS_plaus) c

/-- The valid entries that converter `c` runs: its own, and its partner's while that one is quarantined (R478). -/
def entriesOf (s : Hw) (c : Nat) : List Nat :=
  if quarantined s c then []
  else (List.range 64).filter fun e =>
    let w := seqWords s e
    eValid w && (eConv w == c || eConv w == convPartner c && quarantined s (convPartner c))

/-- The suppression time of a profile in ns (Table 15-3), that of profile 7 rounded up. -/
def profSuppression (p : Nat) : Nat :=
  if p = 0 then 2000 else if p ≤ 2 then 55125 else if p ≤ 4 then 427000 else if p ≤ 6 then 3402000 else 15282

/-- The mains period in force in ns: the detector's while it is valid, or else the fixed fallback (R465). -/
def periodNow (s : Hw) : Nat :=
  if s.flag MCV_MAINS_valid then s.fld MCV_MAINS_period * 10
  else if s.flag MCV_CFG_fallback then 16666670 else 20000000

/-- A window of the visit begins: its length is fixed now, a mains window's by the period in force (R470). -/
def beginWindow (s : Hw) (c : Nat) (w : List Nat) : Hw :=
  let fellBack := eMains w && !s.flag MCV_MAINS_valid
  let len := if eMains w then periodNow s else eWindow w * 1000
  s.updConv c fun x => { x with phase := 2, since := s.dtime, len := len, fellBack := fellBack }

/-- Begin a visit: suppression, or at once the first window where channel and profile are those of the entry before (R467). -/
def beginVisit (s : Hw) (c e : Nat) : Hw :=
  let w := seqWords s e
  let skip := (s.conv c).prev == some (eChan w, eProf w)
  let s := s.cond (!skip) fun s => s.setFld (MCV_TAG_suppressed e) 1
  let s := s.updConv c fun x =>
    { x with phase := 1, entry := e, left := eRepeat w, words := w, prev := some (eChan w, eProf w), since := s.dtime }
  if skip then beginWindow s c w else s

/-- An entry that does not run is skipped, with event 0x1109. -/
def skipEntry (s : Hw) (e field : Nat) : Hw := (s.count MCV_SKIP_N).raise 0x1109 [e, field]

/-- Walk the entries from a list until one runs. -/
def walk (s : Hw) (c : Nat) : List Nat → Option Hw
  | [] => none
  | e :: es =>
    match entryFault s e with
    | some f => walk (skipEntry s e f) c es
    | none => some (beginVisit s c e)

/-- The converter goes on from entry `from` (inclusive), round the table; a new lap is timed. -/
def goOn (s : Hw) (c start : Nat) : Hw :=
  let es := entriesOf s c
  let later := es.filter (start ≤ ·)
  let idle := fun (s : Hw) => s.updConv c fun x => { x with phase := 0, resume := 0 }
  if es.isEmpty || !s.declared 2 || inPlaus s c then idle s
  else if !es.any fun e => (entryFault s e).isNone then
    let s := s.cond (!(s.conv c).told) fun s => es.foldl (fun s e => skipEntry s e ((entryFault s e).getD 0)) s
    idle (s.updConv c fun x => { x with told := true })
  else match walk s c later with
    | some s' => s'
    | none =>
      let s := (later.foldl (fun s e => skipEntry s e ((entryFault s e).getD 0)) s)
      let s := match (s.conv c).lapAt with
        | some t => s.setNum (MCV_LAP c) (min ((s.dtime - t) / 1000) (2 ^ 32 - 1))
        | none => s
      let s := s.updConv c fun x => { x with lapAt := some s.dtime }
      (walk s c (es.filter (· < start))).getD s

/-- An idle converter with entries to run begins (R470). A lap that plausibility broke off, and goes on in the middle of the table, is not a
complete one. -/
def settleConv (c : Nat) (s : Hw) : Hw :=
  let x := s.conv c
  if s.ready 16 && x.phase == 0 && !x.told && s.declared 2 && !inPlaus s c && !(entriesOf s c).isEmpty then
    let whole := (entriesOf s c).all (x.resume ≤ ·)
    goOn (s.updConv c fun y => { y with lapAt := if whole then some s.dtime else none }) c x.resume
  else s

def settleMcv (s : Hw) : Hw := (settleMains s).each convs settleConv

/-- The suppression time ends and windows begin. -/
def suppressionEnd (c : Nat) (s : Hw) : Hw :=
  let x := s.conv c
  if s.ready 16 && x.phase == 1 && decide (x.since + profSuppression (eProf x.words) ≤ s.dtime) then beginWindow s c x.words
  else s

/-! ### Results and thresholds (R463, R474, R475) -/

/-- The threshold states of entry `e` after a result, with their events. -/
def thresholds (s : Hw) (e c : Nat) (r : Int) : Hw :=
  let w := seqWords s e
  let hi := sx 32 (ew w 4)
  let lo := sx 32 (ew w 5)
  let hy : Int := ew w 6
  let par := enc 32 r
  let above := s.flag (MCV_TAG_above e)
  let below := s.flag (MCV_TAG_below e)
  let s :=
    if !hasBit (ew w 7) 1 then s.setFld (MCV_TAG_above e) 0
    else if !above && decide (r > hi) then
      ((s.setFld (MCV_TAG_above e) 1).setFld MCV_LATCH_threshold 1).raise 0x1101 [e, par, c]
    else if above && decide (r < hi - hy) then (s.setFld (MCV_TAG_above e) 0).raise 0x1103 [e, 0, par]
    else s
  if !hasBit (ew w 7) 0 then s.setFld (MCV_TAG_below e) 0
  else if !below && decide (r < lo) then
    ((s.setFld (MCV_TAG_below e) 1).setFld MCV_LATCH_threshold 1).raise 0x1102 [e, par, c]
  else if below && decide (r > lo + hy) then (s.setFld (MCV_TAG_below e) 0).raise 0x1103 [e, 1, par]
  else s

/-- Are `n` the balancing periods, at 10.24 MHz, of a window of `len` ns, to within the one that its ends cut? -/
def periodsFit (len n : Nat) : Bool := decide (len * 256 < (n + 1) * 25000 ∧ n * 25000 < len * 256 + 25000)

/-- The value of a window with its entry's offset and gain, limited to 32 bits (R463, R474): `ones` of its `n` balancing periods
delivered charge; `fir` is the mean of the FIR outputs in the window for a profile other than 0, whose taps Table 15-3 does not
give (DESIGN CHOICE: log 99). -/
def windowResult (w : List Nat) (ones n fir : Nat) : Int :=
  let value : Int := if eProf w = 0 then ((2 * ones * 2 ^ 24 + n) / (2 * n) : Nat) else (fir : Nat)
  clampI (-(2 : Int) ^ 31) ((2 : Int) ^ 31 - 1) (((value - sx 32 (ew w 3)) * sx 32 (ew w 2)) / 65536)

/-- Converter `c` publishes a result of its entry with its tag; its overrange and thresholds are told, and GTH sees it. -/
def publishResult (s : Hw) (c : Nat) (r : Int) (isOver : Bool) : Hw :=
  let x := s.conv c
  let e := x.entry
  let s := s.setInt (MCV_RES e) r
  let s := (s.setFld (MCV_TAG_seq e) ((s.fld (MCV_TAG_seq e) + 1) % 65536)).setFld (MCV_TAG_suppressed e) 0
  let s := ((s.setFld (MCV_TAG_quarantined e) 0).setFlag (MCV_TAG_overrange e) isOver).setFld (MCV_TAG_converter e) c
  let s := s.setFlag (MCV_TAG_fallback e) x.fellBack
  let s := s.cond isOver fun s =>
    ((s.count MCV_OVER_N).setFld MCV_LATCH_overrange 1).raiseOnce 0x1104 e [e, eChan x.words, c]
  let s := thresholds s e c r
  let s := stageUnit s 3 e (fine s 0) (toBE 4 (s.num (MCV_TAG e)) ++ toBE 4 (s.num (MCV_RES e)))
  watch 2 e r (fine s 0) s

/-- After a window comes the next of the visit, the entry's delay, or the next entry (R467). -/
def afterWindow (s : Hw) (c : Nat) : Hw :=
  let x := s.conv c
  if x.left > 1 then beginWindow (s.updConv c fun y => { y with left := y.left - 1 }) c x.words
  else if eDelay x.words = 0 then goOn s c (x.entry + 1)
  else s.updConv c fun y => { y with left := 0, phase := 3, since := s.dtime }

/-- A window ends. -/
def conversionWindowEnd (c ones n fir : Nat) (s : Hw) : Hw :=
  let x := s.conv c
  if !s.ready 16 || x.phase != 2 || n == 0 || !periodsFit x.len n || decide (n < ones) || decide (s.dtime < x.since + x.len) then s
  else
    afterWindow (publishResult s c (windowResult x.words ones n fir) (decide (ones * 1000 > 999 * n) || decide (ones * 1000 < n))) c

/-- The entry's delay ends and the converter moves to its next entry. -/
def entryDelayEnd (c : Nat) (s : Hw) : Hw :=
  let x := s.conv c
  if s.ready 16 && x.phase == 3 && decide (x.since + eDelay x.words * 1000 ≤ s.dtime) then goOn s c ((s.conv c).entry + 1) else s

/-! ### Plausibility and quarantine (R476 to R479) -/

def pairConvs (p : Nat) : List Nat := [2 * p, 2 * p + 1]

/-- A pair begins plausibility rounds: its entries stop, and resume after the one interrupted (R477). -/
def beginPlaus (s : Hw) (p : Nat) (x : Plaus) : Hw :=
  let s := { s with mcv := { s.mcv with plaus := Map.put none s.mcv.plaus p (some { x with since := s.dtime }) } }
  s.each (pairConvs p) fun c s =>
    let s := s.setFld MCV_STATUS_plaus (setBit (s.fld MCV_STATUS_plaus) c true)
    s.updConv c fun y => { y with phase := 0, prev := none, told := false, resume := if y.phase = 0 then y.resume else y.entry + 1 }

def endPlaus (s : Hw) (p : Nat) : Hw :=
  let s := { s with mcv := { s.mcv with plaus := Map.put none s.mcv.plaus p none } }
  s.each (pairConvs p) fun c s => s.setFld MCV_STATUS_plaus (setBit (s.fld MCV_STATUS_plaus) c false)

/-- Converter `c` is quarantined: its window is discarded, its entries are marked and move to its partner. -/
def quarantine (s : Hw) (c ea eb : Nat) : Hw :=
  if quarantined s c then s
  else
    let mine := (List.range 64).filter fun e => s.declared 2 && eValid (seqWords s e) && eConv (seqWords s e) == c
    let s := (s.setFld MCV_STATUS_quar (setBit (s.fld MCV_STATUS_quar) c true)).setFld MCV_LATCH_quarantine 1
    let s := (s.count MCV_QUAR_N).updConv c fun x => { x with phase := 0, prev := none }
    let s := s.updConv (convPartner c) fun x => { x with told := false }
    let s := mine.foldl (fun s e => s.setFld (MCV_TAG_quarantined e) 1) s
    s.raise 0x1105 [c, convPartner c, together 0x1105 [ea, eb]]

def absDiff (a b : Nat) : Nat := max a b - min a b

/-- Results of the last round and of the run of a pair. -/
def notePlaus (s : Hw) (p : Nat) (pass passed most : Nat) : Hw :=
  { s with mcv := { s.mcv with results := Map.put (0, 0, 0) s.mcv.results p (pass, passed, most) } }

def plausBytes (s : Hw) (p : Nat) : Bytes :=
  let (a, b, c) := Map.get (0, 0, 0) s.mcv.results p
  toBE 1 a ++ toBE 1 b ++ toBE 4 c

/-- Commands that wait for the pairs end once none of those runs any more. -/
def endPlausCommands (s : Hw) : Hw :=
  let isOver := fun (ps : Nat) => (bitsOf 2 ps).all fun p => (Map.get none s.mcv.plaus p).isNone
  { s with cmd := { s.cmd with running := s.cmd.running.map fun r =>
      match r.wait, r.outcome with
      | .plaus ps, none =>
        if isOver ps then { r with outcome := some (stOK, 0, (bitsOf 2 ps).flatMap (plausBytes s)) } else r
      | .unquar c, none =>
        if isOver (2 ^ pairOf c) then
          let e := fun k => Map.get 0 s.mcv.errs k
          let (pass, _, _) := Map.get (0, 0, 0) s.mcv.results (pairOf c)
          { r with outcome := some (stOK, 0, toBE 1 pass ++ [0, 0, 0] ++ toBE 4 (e c) ++ toBE 4 (e (convPartner c))) }
        else r
      | _, _ => r } }

/-- A run of pair `p` has passed its last round (R477, R479): event 0x1106, the quarantine asked about ends. -/
def plausPassed (s : Hw) (p : Nat) (x : Plaus) (most : Nat) : Hw :=
  let s := (endPlaus (notePlaus s p 1 x.total most) p).raise 0x1106 [p, x.total, most]
  let s := s.cond (x.why == 2) fun s =>
    let s := s.setFld MCV_STATUS_quar (setBit (s.fld MCV_STATUS_quar) x.conv false)
    s.updConv (convPartner x.conv) fun y => { y with told := false }
  let s := s.cond (x.why == 0) fun s => s.each (pairConvs p) fun c s => s.updConv c fun y => { y with resume := 0 }
  endPlausCommands s

/-- A run of pair `p` fails (R478): the converter with the greater error is quarantined, and each whose error is above 1 %; `offs` are
the four differences from nominal and zero, for event 0x110A when both are. -/
def plausFailed (s : Hw) (p : Nat) (x : Plaus) (most ea eb : Nat) (offs : List Nat) : Hw :=
  let ca := 2 * p
  let s := (s.count MCV_PLAUS_FAIL).setFld MCV_LATCH_plaus_fail 1
  let s := endPlaus (notePlaus s p 0 x.passed most) p
  let s := if ea > eb then quarantine s ca ea eb else quarantine s (ca + 1) eb ea
  let s := s.cond (decide (ea > 167772)) fun s => quarantine s ca ea eb
  let s := s.cond (decide (eb > 167772)) fun s => quarantine s (ca + 1) eb ea
  let both := quarantined s ca && quarantined s (ca + 1)
  let s := s.cond both fun s =>
    let all := (List.range 64).filter fun e => s.declared 2 && eValid (seqWords s e) && pairOf (eConv (seqWords s e)) == p
    let s := all.foldl (fun s e => s.setFld (MCV_TAG_quarantined e) 1) s
    s.raise 0x110A [p, together 0x110A offs]
  endPlausCommands s

/-- A round of pair `p` ends, after 4004 µs, with the values of both converters on channels 33 and 34. DEDUCED (log 83): a round that
fails ends the run; errors are judged in a round that fails. -/
def plausRoundEnd (p a33 b33 a34 b34 : Nat) (s : Hw) : Hw :=
  match Map.get none s.mcv.plaus p with
  | none => s
  | some x =>
    if !s.ready 16 || decide (s.dtime < x.since + 4004000) then s
    else
      let nom := s.fld MCV_CHECK_NOM_nominal
      let ea := max (absDiff a33 nom) a34
      let eb := max (absDiff b33 nom) b34
      let d := max (absDiff a33 b33) (absDiff a34 b34)
      let most := max x.most d
      let s := { s with mcv := { s.mcv with errs := Map.put 0 (Map.put 0 s.mcv.errs (2 * p) ea) (2 * p + 1) eb } }
      if d > s.fld MCV_CFG_tol then plausFailed s p x most ea eb [absDiff a33 nom, a34, absDiff b33 nom, b34]
      else if x.passed + 1 < x.total then
        { s with mcv := { s.mcv with plaus := Map.put none s.mcv.plaus p (some { x with passed := x.passed + 1, most := most, since := s.dtime }) } }
      else plausPassed s p x most

/-! ### Commands (Table 15-7) -/

def mcvDoms : Hw → Bytes → List Nat := fun _ _ => [16]

/-- The pairs an MCV_PLAUS_RUN or MCV_UNQUARANTINE names. -/
def plausPairs (opc : Nat) (p : Bytes) : Nat := if opc = 0x1106 then u8 p 0 else 2 ^ pairOf (u8 p 0)

/-- The two that run rounds are concurrent where they name different pairs (R481). -/
def plausConc (opc : Nat) : Hw → Bytes → RunCmd → Bool := fun _ p r =>
  (r.opcode == 0x1106 || r.opcode == 0x1107) && plausPairs opc p &&& plausPairs r.opcode (coreParams r.req) == 0

/-- MCV_PLAUS_RUN finds a named pair in plausibility (Table 15-5). -/
def pairBusy (opc : Nat) : Hw → Bytes → Bool := fun s p =>
  (bitsOf 2 (plausPairs opc p)).any fun k => (Map.get none s.mcv.plaus k).isSome

/-- The settings of a MCV_CONFIG. DESIGN CHOICE (log 99): a change to MAINS_SNS starts its detector afresh, with neither event nor count
of a loss. -/
def applyMcvConfig (p : Bytes) (s : Hw) : Hw :=
  let old := mainsSrc s
  let s := ((s.setFld MCV_CFG_mains_src (u8 p 0)).setFld MCV_CFG_fallback (u8 p 1)).setFld MCV_CFG_tol (u16 p 2)
  if u8 p 0 = 0 ∧ old ≠ 0 then
    { (s.setFld MCV_MAINS_valid 0).setFld MCV_MAINS_fallback 1 with mcv := { s.mcv with edge := none, period := 0, goodRun := 0 } }
  else s

def opMcvConfig : OpSpec :=
  { OpSpec.fix headMcvConfig [.rng 1 0 2, .rng 1 0 1, .rng 2 1 65535] fun s c => .ok (applyMcvConfig c.p s) with
    doms := mcvDoms
    objs := fun _ => [0] }

/-- The first failing field of an entry of a MCV_SEQ_LOAD: reserved bits in any entry, the checks of R469 in a valid one. -/
def seqItemBad (w : List Nat) : Option Nat :=
  let m (k : Nat) (b : Bool) : Option Nat := if b then some k else none
  match m 2 (ew w 0 / 2 ^ 28 % 8 != 0) with
  | some k => some k
  | none =>
    let v := if eValid w then entryBad w else none
    let r7 := m 7 (ew w 0 / 2 ^ 14 % 4 != 0)
    let r16 := m 16 (decide (ew w 7 ≥ 4))
    match v with
    | some k => if k ≤ 7 then some k else (match r7 with
      | some j => some j
      | none => some k)
    | none => (match r7 with
      | some j => some j
      | none => r16)

def seqItem (p : Bytes) (j : Nat) : List Nat := (List.range 8).map fun i => u32 p (4 + 32 * j + 4 * i)

def opMcvSeqLoad : OpSpec :=
  { OpSpec.list headMcvSeqLoad [.rng 1 0 63, .any 1, .msk 1 1, .res 1] 2 1 1 1 63 32 fun s c =>
      let s' := putWords s (MCV_SEQ (u8 c.p 0) 0) ((List.range (8 * u8 c.p 1)).map fun i => u32 c.p (4 + 4 * i))
      if !hasBit (u8 c.p 2) 0 then .ok s'
      else if coverFull s' 2 then .ok ((setDeclared s' 2 true).raise 0x0C07 [2, Map.get 0 s.mem.preN 2])
      else .refuse stCONDITIONS 1 s with
    check := fun _ p =>
      match runChks [.rng 1 0 63, .any 1, .msk 1 1, .res 1] 1 0 p with
      | some k => some k
      | none =>
        if u8 p 0 + u8 p 1 > 64 then some 2
        else (List.range (u8 p 1)).findSome? fun j => (seqItemBad (seqItem p j)).map fun k => 100 * (j + 1) + k
    doms := mcvDoms }

def opMcvSeqStore : OpSpec :=
  { OpSpec.fix headMcvSeqStore [] fun s _ =>
      if !s.flag MCV_STATUS_declared then .refuse stCONDITIONS 1 s else .ok (s.setFld MCV_STATUS_stored 1) with
    doms := mcvDoms
    objs := fun _ => [0] }

/-- A table that is not declared answers with its raw contents and UNINIT_REGION, as a fabric read of it does (R513). -/
def opMcvSeqRead : OpSpec :=
  { OpSpec.fix headMcvSeqRead [.rng 1 0 63, .rng 1 1 63] fun s c =>
      let a := MCV_SEQ (u8 c.p 0) 0
      let b := (List.range (8 * u8 c.p 1)).flatMap fun i => toBE 4 (tableWord s (a + i)).toNat
      if s.declared 2 then .ok s b else .done stUNINIT (a % 2 ^ 16) b s with
    check := fun _ p =>
      match runChks [.rng 1 0 63, .rng 1 1 63] 1 0 p with
      | some k => some k
      | none => if u8 p 0 + u8 p 1 > 64 then some 2 else none
    doms := mcvDoms }

def opMcvResultRead : OpSpec :=
  { OpSpec.fix headMcvResultRead [.nzm 8 0xFFFFFFFFFFFFFFFF] fun s c =>
      .ok s (s.wordsAt ((bitsOf 64 (un c.p 0 8)).flatMap fun e => [MCV_TAG e, MCV_RES e]) ++ s.dtimeBytes) with
    doms := mcvDoms }

def opMcvPlausRun : OpSpec :=
  { OpSpec.fix headMcvPlausRun [.rng 1 1 3, .rng 1 1 16] fun s c =>
      let ps := bitsOf 2 (u8 c.p 0)
      if ps.any (fun p => (pairConvs p).any (quarantined s)) then .refuse stCONDITIONS 1 s
      else .wait (.plaus (u8 c.p 0)) (s.each ps fun p s => beginPlaus s p { total := u8 c.p 1, why := 1 }) with
    doms := mcvDoms
    conc := plausConc 0x1106
    busy := pairBusy 0x1106 }

def opMcvUnquarantine : OpSpec :=
  { OpSpec.fix headMcvUnquarantine [.rng 1 0 3] fun s c =>
      let k := u8 c.p 0
      if !quarantined s k then .refuse stCONDITIONS 1 s
      else if quarantined s (convPartner k) then .refuse stCONDITIONS 2 s
      else .wait (.unquar k) (beginPlaus s (pairOf k) { total := 8, why := 2, conv := k }) with
    doms := mcvDoms
    conc := plausConc 0x1107 }

def mcvCounters : List Nat := [MCV_OVER_N, MCV_PLAUS_FAIL, MCV_QUAR_N, MCV_MAINS_LOST, MCV_SKIP_N]

/-- The registers of Tables 15-8 and 15-9 in address order. -/
def mcvRegs : List Nat :=
  [MCV_MAINS, MCV_MAINS_T, MCV_MAINS_T + 1, MCV_CFG, MCV_STATUS, MCV_LATCH, MCV_CHECK_NOM] ++ convs.map MCV_LAP ++ mcvCounters

def opMcvStatusRead : OpSpec :=
  { OpSpec.fix headMcvStatusRead [.msk 1 1] fun s c =>
      .ok (s.cond (hasBit (u8 c.p 0) 0) fun s => s.zeroRegs mcvCounters) (s.wordsAt mcvRegs ++ s.dtimeBytes) with
    doms := mcvDoms }

/-- The stored copy of the sequence table, written to every entry and declared; a copy whose CRC fails is not used (R471). -/
def restoreSeq (s : Hw) : Hw :=
  let o := Map.get {} s.nv.objs 0x11030000
  match o.adopted with
  | some b =>
    let s := putWords s (MCV_SEQ 0 0) ((List.range 512).map fun i => u32 b (4 * i))
    (((setDeclared s 2 true).setFld MCV_STATUS_stored 1).raise 0x0C07 [2, Map.get 0 s.mem.preN 2]).raise 0x110B [0]
  | none => s.cond o.spoilt fun s => s.raise 0x110B [1]

/-- D16 powers up (R484): tags and counters at their start, the table restored or left undeclared, eight plausibility rounds
on both pairs. -/
def mcvPowerUp (s : Hw) : Hw :=
  let s := s.coldRegs ((List.range 64).flatMap fun e => [MCV_TAG e, MCV_RES e])
  let s := s.coldRegs ([MCV_MAINS, MCV_MAINS_T, MCV_MAINS_T + 1, MCV_STATUS, MCV_LATCH] ++ convs.map MCV_LAP ++ mcvCounters)
  let s := s.coldRegs [MCV_CFG]
  let s := match adoptedBody s 0x11010000 with
    | some p => applyMcvConfig p s
    | none => s
  let s := restoreSeq { s with mcv := {} }
  s.each [0, 1] fun p s => beginPlaus s p { total := 8, why := 0 }

end Sys2Proof.Machine
end

