-- ==== Sys2Proof/Machine/Fabric.lean ====
section
/-!
DEFINITION. The control fabric (R18 to R30): reads and writes of register words, the pair latch, errors that a read of a mapped
memory meets, packets, what a unit does with them, and the queues at the domain boundaries.
-/
namespace Sys2Proof.Machine
open Reg

/-! ### Errors in mapped memories (R507, R508, R513, Table 17-2) -/

/-- The first table of a mapped host-owned memory. -/
def firstTable (t : Nat) : Nat := if t ≤ 2 then t else if t ≤ 6 then 3 else if t ≤ 18 then 7 else if t ≤ 50 then 19 else 51

/-- The offset of a protected word within its memory. -/
def tableOffset (t a : Nat) : Nat := let (b, n) := tableWords t; (t - firstTable t) * (n / 2) + (a - b) / 2

/-- What an uncorrectable word at address `a` of table `t` brings about beyond its poison. -/
def tableLost (s : Hw) (t a : Nat) : Hw :=
  if 7 ≤ t ∧ t ≤ 18 then setFault s (t - 7) 3 ((a - (tableWords t).1) / 2)
  else if 19 ≤ t ∧ t ≤ 50 then setDeclared (loopOff s (t - 19)) t false
  else if 51 ≤ t ∧ t ≤ 66 then putWords s (a / 2 * 2) [0, 0]
  else s

/-- A read finds an error in the mapped memory at address `a`: corrected, or uncorrectable. In a table that is not declared it
counts as a pre-initialisation error only. -/
def mappedError (s : Hw) (a synd : Nat) (uncorrectable : Bool) : Hw :=
  match tableOf a with
  | some t =>
    if !s.declared t then memPreInit s t
    else if uncorrectable then tableLost (memUncorrectable s (tableMem t) 0 (tableOffset t a) 0 synd (a / 2 * 2)) t a
    else memCorrected s (tableMem t) 0 (tableOffset t a) 0 synd
  | none =>
    if LRX_HIST 0 0 ≤ a ∧ a / 2 ^ 16 = 4 ∧ 0x800 ≤ a % 2 ^ 12 ∧ a % 2 ^ 12 < 0x900 then
      let off := a % 2 ^ 12 / 2 % 128
      if uncorrectable then memUncorrectable s 12 (a / 2 ^ 12 % 16) off 0 synd (a / 2 * 2)
      else memCorrected s 12 (a / 2 ^ 12 % 16) off 0 synd
    else s

/-! ### One word (R8, R19, R28, R29) -/

/-- A field limited to a range. -/
def clampFld (lo hi : Nat) (f : Fld) (s : Hw) : Hw := s.setFld f (max lo (min hi (s.fld f)))

/-- Written fields outside their ranges take the nearest limit (R158, R392), and the main tap of a new main position is 1024 (R136). An
adaptation mode 3 stands: it is treated as freeze (Table 04-3). -/
def clampWord (a : Nat) (s : Hw) : Hw :=
  let n := a / 2 ^ 12 % 16
  if a = LRX_CFG n ∧ n < 8 then holdMain (clampFld 8 24 (LRX_CFG_main_pos n) (clampFld 20 80 (LRX_CFG_los_thr n) s)) n
  else if a = LTX_LEVELS n ∧ n < 8 then clampFld 64 106 (LTX_LEVELS_inner_pos n) (clampFld 64 106 (LTX_LEVELS_inner_neg n) s)
  else if a = FES_CFG then clampFld 100 5000 FES_CFG_settle_max (clampFld 1 1000 FES_CFG_deadline s)
  else s

/-- The table of a word that a host writes; the entries of a sine table and of a repetitive table are read-only (R27, 14 Table 14-6,
13 Table 13-7). -/
def hostTable (a : Nat) : Option Nat := (tableOf a).filter fun t => decide (t = 2 ∨ 7 ≤ t ∧ t ≤ 50)

/-- A word takes a written value: read-write bits take it, clear-on-one bits written one clear, unless the hardware sets them
within the same handshake (`during`); every other bit stays. -/
def writeWord (a v during : Nat) (s : Hw) : Hw :=
  match regFind a with
  | none => s
  | some (d, _) =>
    if (hostTable a).isSome then putTable s a (BitVec.ofNat 32 v)
    else
      let rw := BitVec.ofNat 32 d.rw
      let c1 := BitVec.ofNat 32 d.c1
      let x := s.reg a
      let w := BitVec.ofNat 32 v
      clampWord a (s.setReg a ((x &&& ~~~(rw ||| (c1 &&& w))) ||| (w &&& rw) ||| (BitVec.ofNat 32 during &&& c1)))

/-- Words written one after another from address `a`; `during` is what the hardware sets in the first within its handshake. -/
def writeWords (a during : Nat) (vs : List Nat) (s : Hw) : Hw :=
  let s := (vs.foldl (fun (x : Hw × Nat) v => (writeWord x.2 v (if x.2 = a then during else 0) x.1, x.2 + 1)) (s, a)).1
  let s := s.each ((wholeWords a vs.length).filter fun w => (hostTable (2 * w)).isSome) fun w s => wroteWhole s w
  s

/-! ### Packets (R18, Table 01-3) -/

/-- A packet's header: kind (1 read, 2 write, 3 read reply, 4 write acknowledge), source, tag, first address, status, word count. -/
def packetHeader (kind src tag a status n : Nat) : BitVec 64 :=
  BitVec.ofNat 64 (kind % 16 * 2 ^ 60 + src % 16 * 2 ^ 56 + tag % 256 * 2 ^ 48 + a % 2 ^ 24 / 2 ^ 16 * 2 ^ 40 +
    a % 2 ^ 16 / 2 ^ 12 * 2 ^ 36 + a % 2 ^ 12 * 2 ^ 24 + status % 256 * 2 ^ 16 + n % 256 * 2 ^ 8)

def Packet.fld (p : Packet) (lo w : Nat) : Nat := p.head.toNat / 2 ^ lo % 2 ^ w
def Packet.kind (p : Packet) : Nat := p.fld 60 4
def Packet.source (p : Packet) : Nat := p.fld 56 4
def Packet.tag (p : Packet) : Nat := p.fld 48 8
def Packet.addr (p : Packet) : Nat := p.fld 40 8 * 2 ^ 16 + p.fld 36 4 * 2 ^ 12 + p.fld 24 12
def Packet.status (p : Packet) : Nat := p.fld 16 8
def Packet.count (p : Packet) : Nat := p.fld 8 8

/-- The statuses of a reply. -/
def fsDone := 0
def fsFenced := 1
def fsUnimpl := 2
def fsUncorr := 3
def fsUninit := 4

/-- Ehrik, and the EVR snapshot reader, as fabric sources. -/
def ehrik : Nat := 0
def evrReader : Nat := 2

/-- The fabric status of a read of `a`. -/
def readStatus (s : Hw) (a : Nat) : Nat :=
  if (regFind a).isNone then fsUnimpl
  else if poisoned s a then fsUncorr
  else match tableOf a with
    | some t => if s.declared t then fsDone else fsUninit
    | none => fsDone

/-- A source reads the words of a list in their order, meeting the errors `ups`: the words, the first status that is not done, and
the word it stands at. -/
def readRange (src : Nat) (ups : List (Nat × Nat)) : List Nat → Hw → List Nat → Option (Nat × Nat) → Hw × List Nat × Option (Nat × Nat)
  | [], s, ws, bad => (s, ws, bad)
  | a :: t, s, ws, bad =>
    let s := match ups.find? fun u => u.1 == a with
      | some u => mappedError s a (u.2 / 2) (u.2 % 2 == 1)
      | none => s
    let st := readStatus s a
    let (v, s) := readWord src a s
    readRange src ups t s (ws ++ [v.toNat]) (if bad.isSome || st = fsDone then bad else some (st, a))

/-- The packet's answer reaches its source with its tag (R18). What another source than Ehrik does with it the spec does not say. -/
def reply (p : Packet) (status : Nat) (data : List Nat) (bad : Option Nat) (s : Hw) : Hw :=
  let kind := if p.kind = 1 then 3 else 4
  let r : Packet := { head := packetHeader kind p.source p.tag p.addr status p.count, data := data, bad := bad }
  s.cond (p.source == ehrik) fun s => { s with fab := { s.fab with back := s.fab.back ++ [r] } }

/-- The unit does what the packet asks and answers it (R19 to R21): a read gives every word, each as read, and the first status that is
not done; a write takes every word that is implemented, and its acknowledge has status 0x02 where one is not. -/
def atUnit (p : Packet) (s : Hw) : Hw :=
  let as := (List.range p.count).map (p.addr + ·)
  if p.kind = 1 then
    let (s, ws, bad) := readRange p.source p.ups as s [] none
    reply p ((bad.map Prod.fst).getD fsDone) ws (bad.map Prod.snd) s
  else
    let bad := as.find? fun a => (regFind a).isNone
    reply p (if bad.isSome then fsUnimpl else fsDone) [] bad (writeWords p.addr p.during p.data s)

/-- The packet comes to the boundary of its unit's domain (R22 to R25): AON has none; a fenced domain answers at once; a ready one
delivers; at any other the packet waits in the queue of 16 and wakes the domain, or, with the queue full, is held by its source. A
read by the EVR snapshot reader neither waits nor wakes: its words are not read (R30). -/
def atBoundary (p : Packet) (s : Hw) : Hw :=
  match addrDomain p.addr with
  | none => atUnit p s
  | some d =>
    if s.fenced d then reply p fsFenced [] (some p.addr) s
    else if s.ready d then atUnit p s
    else if p.kind = 1 ∧ p.source = evrReader then s
    else if (s.dom d).packets.length < 16 then
      let s := s.access d
      s.setDom d { s.dom d with packets := (s.dom d).packets ++ [p] }
    else { s with fab := { s.fab with held := s.fab.held ++ [p] } }

/-- A source issues a packet, behind those that it has to hold (R20, R23). -/
def sendPacket (p : Packet) (s : Hw) : Hw :=
  if s.fab.held.any fun q => q.source == p.source then { s with fab := { s.fab with held := s.fab.held ++ [p] } }
  else atBoundary p s

/-- Held packets are tried again in the order of their issue. -/
def releaseHeld (s : Hw) : Hw :=
  s.fab.held.foldl (fun s p => sendPacket p s) { s with fab := { s.fab with held := [] } }

/-- Domain `d` is ready: its boundary delivers the packets in the order of their arrival, and takes what was held (R22, R23). -/
def deliverPackets (d : Nat) (s : Hw) : Hw :=
  let q := (s.dom d).packets
  let s := s.setDom d { s.dom d with packets := [] }
  releaseHeld (q.foldl (fun s p => atUnit p s) s)

/-- Domain `d` is fenced: the packets queued at its boundary return fenced (R24). -/
def fencePackets (d : Nat) (s : Hw) : Hw :=
  let q := (s.dom d).packets
  let s := s.setDom d { s.dom d with packets := [] }
  releaseHeld (q.foldl (fun s p => reply p fsFenced [] (some p.addr) s) s)

/-- The tags of the packets that a command waits for. -/
def tagsOf (r : RunCmd) : List Nat :=
  match r.wait with
  | .wakingRead t => [t]
  | .words ts => ts
  | _ => []

/-- Is a tag of a source outstanding: its packet queued or held, its reply not used, or a command waiting for it (R18)? -/
def tagBusy (src t : Nat) (s : Hw) : Bool :=
  let hit := fun (p : Packet) => p.source == src && p.tag == t
  s.fab.held.any hit || s.fab.back.any hit || (s.pwr.doms.any fun d => d.2.packets.any hit) ||
    (src == ehrik && s.cmd.running.any fun r => (tagsOf r).contains t)

/-- The first tag from `t` on that is not outstanding; with all 256 outstanding, `t` itself (DESIGN CHOICE: log entry 130). -/
def freeTag (src : Nat) (s : Hw) : Nat → Nat → Nat
  | 0, t => t % 256
  | k + 1, t => if tagBusy src (t % 256) s then freeTag src s k (t + 1) else t % 256

/-- A source's next tag: the next in order that is not outstanding. -/
def nextTag (src : Nat) (s : Hw) : Nat × Hw :=
  let t := freeTag src s 256 (Map.get 0 s.fab.tags src)
  (t, { s with fab := { s.fab with tags := Map.put 0 s.fab.tags src ((t + 1) % 256) } })

/-- A source issues a read of `n` words from address `a`; the tag. -/
def issueRead (src a n : Nat) (ups : List (Nat × Nat)) (s : Hw) : Nat × Hw :=
  let (t, s) := nextTag src s
  (t, sendPacket { head := packetHeader 1 src t a 0 n, ups := ups } s)

/-- A source issues a write of words from address `a`; the tag. -/
def issueWrite (src a during : Nat) (vs : List Nat) (s : Hw) : Nat × Hw :=
  let (t, s) := nextTag src s
  (t, sendPacket { head := packetHeader 2 src t a 0 vs.length, data := vs, during := during } s)

end Sys2Proof.Machine
end

