-- ==== Sys2Proof/Machine/Power.lean ====
section
/-!
DEFINITION. Power domains, low power and Lehr (18): what a domain loses and how it starts, wake, failure, fences, the
two-phase sleep, the low-power sleep and its end, Lehr runs and their records, and the PWR domain commands.
-/
namespace Sys2Proof.Machine
open Reg

def updPwr (s : Hw) (f : Pwr → Pwr) : Hw := { s with pwr := f s.pwr }
def domains20 : List Nat := List.range 20

/-- A reset follows the reply (R70): 1 management, 4 warm; a wider one takes the narrower's place (R39). -/
def askReset (s : Hw) (kind : Nat) : Hw :=
  updPwr s fun x => { x with resetting := max x.resetting kind, resetAt := s.dtime }

/-! ### What a domain loses, and how it starts (R36, R514, R518, R523) -/

/-- The cause that a chapter's own power-up event carries: 0 cold start, 1 warm reset, 2 domain reset, 3 wake. -/
def startKind (cause : Nat) : Nat := if cause = 4 then 0 else if cause = 7 then 1 else if cause = 6 then 2 else 3

/-- The registers of a group's framing and bring-up units. -/
def groupRegs (g : Nat) : List Nat :=
  [LFM_STATUS g, LFM_LATCH g, LFM_FRAMES g, LFM_FRAMES g + 1, LFM_SKEW g, LFM_HDR_ERR g, LFM_OAM_ERR g, LFM_STUFF_TX g,
    LFM_STUFF_RX g, LFM_STUFF_ERR g, LFM_STUFF_OVER g, LFM_BE_GAP g, LFM_AM_MISS g, LNK_STATUS g, LNK_LATCH g, LNK_PEER g,
    LNK_PEER_INFO g, LNK_LSTAGE g, LNK_T_P2 g, LNK_C_UP g, LNK_C_FAIL g, LNK_SPROUT_ERR g]

/-- A group's framing domain powers up (05, 06): nothing of an earlier session is left; what D14 holds for the group stays. -/
def groupPowerUp (s : Hw) (g : Nat) : Hw :=
  (s.coldRegs (groupRegs g)).updGrp g fun x =>
    { deinit := x.deinit, tq := x.tq, be := x.be, beSeq := x.beSeq, beRx := x.beRx, flowSeq := x.flowSeq, fresh := x.fresh,
      inject := x.inject, lossSince := x.lossSince, txEndB := x.txEndB }

/-- What the units of domain `d` do when their power comes. -/
def domainUp (d cause : Nat) (s : Hw) : Hw :=
  let k := startKind cause
  let s := tablesPowerUp (repairDomain s d) d
  if d < 8 then lanePowerUp s d
  else if d < 12 then quadPowerUp s (d - 8)
  else if d < 14 then groupPowerUp s (d - 12)
  else if d = 14 then tdsPowerUp (flowPowerUp s k)
  else if d = 15 then brcPowerUp (aouPowerUp (clePowerUp (fesPowerUp s k)))
  else if d = 16 then mcvPowerUp s
  else if d = 17 then gthPowerUp s k
  else s

/-- What the loss of domain `d`'s power does beyond it (Table 10-3, R501, R560). -/
def domainDown (d : Nat) (s : Hw) : Hw :=
  if d < 8 then
    let s := (s.setFld (LTX_STATUS_pll_lock d) 0).cond (s.flag (LRX_STATUS_cdr_lock d)) fun s => dropLock s d
    declareFail (abandonRetrain s (laneGroup d) (d % 4)) (laneGroup d) (d % 4) 1
  else if d < 12 then
    let s := s.each (groupLanes (d - 8)) fun l s => (s.setFld (htxPll l) 0).setFld (hrxLock l) 0
    s.each ((List.range 8).filter fun p => portEnabled s p && (quadsOf (portLanes s p)).contains (d - 8)) loseAlignment
  else if d < 14 then toP0 (loseGroup s (d - 12) 2) (d - 12)
  else if d = 14 then
    let s := s.each (List.range 8) fun p s => updPort s p fun x => { x with q := x.q.filter fun f => f.grp == 2 }
    updPwr s fun x => { x with coreAt := s.dtime }
  else if d = 15 then
    let s := s.each [0, 1] fun g s =>
      s.cond (s.stage g == 5 && s.native g) fun s => loseGroup (s.setFld (failedFld g) (s.rxMask g)) g 0
    aouDown (cleDown (brcDown (fesDown s)))
  else if d = 17 then (s.setFld GTH_STATE_state 0).cond (capturing s) fun s => updGth s fun x => { x with stores := [], urgent := [] }
  else if d = 19 then abandonCommits s
  else s

/-- Domain `d` loses its power: off, with nothing of its state left. -/
def switchOff (d : Nat) (s : Hw) : Hw :=
  if s.domState d = 0 then s
  else
    let s := leaveAlarm ((s.setFld (PWR_DOM_state d) 0).setFld (PWR_DOM_analog d) 0) d
    domainDown d (breakLaps (s.setDom d { s.dom d with byAccess := false }) d)

/-- Domain `d` begins to wake for a domain reset (cause 6). -/
def repower (d : Nat) (s : Hw) : Hw :=
  (s.setFld (PWR_DOM_state d) 1).setDom d { s.dom d with wakeAt := s.dtime, cause := 6, byAccess := false, queued := 0 }

/-- Set or clear a fence, with event 0x0205 (R527); packets queued at the boundary of a domain that is fenced return (R24). -/
def setFence (d by_ : Nat) (v : Bool) (s : Hw) : Hw :=
  let s := ((s.setFlag (PWR_DOM_fenced d) v).setFld (PWR_DOM_fence_by d) (if v then by_ else 0)).raise 0x0205
    [d, by_, if v then 1 else 0]
  s.cond v (fencePackets d)

/-- Clear whatever fence stands. -/
def clearFence (d : Nat) (s : Hw) : Hw := if s.fenced d then setFence d (s.fld (PWR_DOM_fence_by d)) false s else s

/-! ### FES targets and low power (R532, R533) -/

/-- An internal command is journaled with route 3 in the RAM tier, and completes at once. -/
def journalInternal (s : Hw) (opc : Nat) (p : Bytes) : Hw :=
  let rq : Request := { route := .twoWire, length := p.length, seq := 0, level := 1, flags := 0, session := 0, resv := 0, params := p }
  let e := newEntry s opc false 3 rq 0 1
  closeEntry (addEntry s e) e.index stOK 0

/-- An internal FES_STATE_SET. -/
def internalTargets (s : Hw) (mask t : Nat) : Hw :=
  if mask = 0 then s
  else setTargets (journalInternal s 0x0D02 (toBE 2 mask ++ toBE 1 t ++ toBE 2 0)) mask t

/-- Step 2 of R532: held commands end NOT_LOCKED, the targets in force are kept, and those above WARM fall to WARM. -/
def lowerTargets (s : Hw) : Hw :=
  let us := units12.filter fun u => decide (s.fld (FES_STATE_target u) > 1)
  let held := us.filter fun u => s.flag (FES_STATE_held u)
  let s := s.each held notLocked
  let kept := units12.foldl (fun m u => Map.put 0 m u (s.fld (FES_STATE_target u))) []
  let s := updPwr s fun x => { x with kept := kept, setSince := 0 }
  let s := internalTargets s (sumN (us.map fun u => 2 ^ u)) 1
  s.each held fun u s => s.updFes u fun x => { x with failed := true }

/-- The targets kept are restored, but for units that the host has set since (R533). -/
def restoreTargets (s : Hw) : Hw :=
  let s := s.each [2, 3, 4] fun t s =>
    internalTargets s (sumN (((units12.filter fun u => Map.get 0 s.pwr.kept u == t && !hasBit s.pwr.setSince u)).map fun u => 2 ^ u)) t
  updPwr s fun x => { x with kept := [] }

/-- The domains of the low-power set (R532). -/
def lowSet : List Nat := [0, 1, 2, 3, 4, 5, 6, 7, 12, 13, 14]

/-- The domains that the end of low power wakes (R533). -/
def lowWakeSet (s : Hw) : List Nat :=
  14 :: [0, 1].flatMap fun g => if s.flag (LNK_CFG_enable g) then (12 + g) :: groupLanes g else []

/-- Wakes at the end of low power; latched line wakes then act (R240, R533). -/
def lowWake (s : Hw) : Hw :=
  let s := s.each (lowWakeSet s) fun d s => s.wake d 5
  let s := updPwr (restoreTargets s) fun x => { x with lowWaking := true, leaving := true }
  s.each [0, 1] fun g s => actPending s g

/-- The wake that ends low power is over once its domains are ready. -/
def settleLowWake (s : Hw) : Hw :=
  if s.pwr.lowWaking && (lowWakeSet s).all fun d => s.ready d || s.fenced d then
    updPwr (s.raise 0x0207 [1, (s.dtime - s.pwr.lowAt) / 1000]) fun x => { x with lowWaking := false }
  else s

/-! ### Lehr records (R540 to R543) -/

def lehrMark : Nat := 0x4C454852

def lehrEntryBytes (e : LehrEntry) : Bytes :=
  toBE 1 (if e.region = 20 then 0xFF else e.region) ++ toBE 1 e.result ++ toBE 1 e.steps ++ zeros 1 ++ toBE 4 e.executed ++
    toBE 4 e.expected ++ toBE 8 e.sig ++ toBE 2 e.vLow ++ toBE 2 e.vHigh ++ toBE 2 e.tLow ++ toBE 2 e.tHigh ++ toBE 2 e.bad ++
    zeros 2 ++ toBE 4 e.duration ++ toBE 4 (if e.marker then lehrMark else 0)

/-- The header of Table 18-4. -/
def lehrHead (r : LehrRec) : Bytes :=
  let b := toBE 2 1 ++ toBE 1 r.kind ++ toBE 1 r.abort ++ toBE 4 r.pcc ++ toBE 6 r.start ++ toBE 6 r.done ++
    toBE 1 r.entries.length ++ zeros 3
  b ++ toBE 4 (crc32 (b ++ r.entries.flatMap lehrEntryBytes)) ++ toBE 4 (if r.marker then lehrMark else 0)

def lehrBytes (r : LehrRec) : Bytes := lehrHead r ++ r.entries.flatMap lehrEntryBytes

/-- The signature expected of a region; zero for AON. -/
def sigExpected (r : Nat) : Nat := if r = 20 then 0 else (Config.lehrSignature r).toNat
def patternsExpected (r kind : Nat) : Nat := (Config.lehrPatterns r kind).toNat

/-- The steps run on a region: AON has SRAM only, Table 18-3's regions all three, the others SRAM and logic. -/
def lehrSteps (r : Nat) : Nat := if r = 20 then 1 else if r < 12 ∨ r = 15 ∨ r = 16 then 7 else 3

/-- Does an entry pass (R542)? -/
def entryPass (kind : Nat) (e : LehrEntry) : Bool :=
  e.marker && e.result == 0 && e.executed == e.expected && e.expected == patternsExpected e.region kind && e.sig == sigExpected e.region

/-- A region's entry: from what was found, or else result `miss` (2 not run, 3 aborted). -/
def lehrEntry (x : LehrRun) (kind : Nat) (found : List LehrRegion) (miss : Nat → Nat) (r : Nat) : LehrEntry :=
  let e : LehrEntry :=
    { region := r, result := miss r, steps := 0, executed := 0, expected := patternsExpected r kind, sig := 0,
      vLow := x.vLow, vHigh := x.vHigh, tLow := x.tLow, tHigh := x.tHigh, bad := 0, duration := 0, marker := miss r != 3 }
  match found.find? (·.region == r) with
  | none => e
  | some f =>
    let e : LehrEntry := { e with steps := lehrSteps r, executed := f.executed, sig := f.sig, bad := f.rows.length,
                                  duration := f.duration, marker := true, result := 0 }
    if f.failed = 0 ∧ entryPass kind e then e else { e with result := 1 }

/-- Store a record, newest first: kinds 0 and 2 in two slots, kind 1 in a ring of 8 (R540). -/
def storeLehr (s : Hw) (r : LehrRec) : Hw :=
  setIdent s fun d =>
    if r.kind = 1 then { d with lehrRing := (r :: d.lehrRing).take 8 } else { d with lehrMain := (r :: d.lehrMain).take 2 }

/-- The bad rows found enter the repair map (R538). -/
def enterRows (s : Hw) (found : List LehrRegion) : Hw :=
  found.foldl (fun s f => f.rows.foldl (fun s r => enterRepair s r.1 r.2.1 r.2.2) s) s

/-- What a run leaves in non-volatile memory: the rows found and its record. They commit with the journal entry of its command, and go
with it while the command has not ended (R79). -/
def keepLehr (s : Hw) (found : List LehrRegion) (r : LehrRec) : Hw :=
  let e := storeLehr (enterRows s found) r
  updPwr e fun x => { x with lehrUndo := undoOf s e }

/-- The number of the first precondition of R537 that fails; 0 for none. -/
def lehrPre (s : Hw) : Nat :=
  let v := s.fld PWR_OP_STATUS_vcore_mv
  if v < 720 ∨ 800 < v then 1
  else if !s.refOk 1 || decide ((s.fldS (PWR_REF_offset 1) - s.fldS (PWR_REF_offset 0)).natAbs > 1000) then 2
  else if s.pwr.tempLow < -400 ∨ 1100 < s.pwr.tempHigh then 3
  else 0

def lehrRegions : List Nat := List.range 21

/-- The kind of run that a target asks for. -/
def lehrKind (target : Nat) : Nat := if target = 0xFE then 0 else 1

/-- The regions of a run in the order of R544 and R545. -/
def lehrOrder (target : Nat) : List Nat := if target = 0xFE then 17 :: (lehrRegions.filter (· ≠ 17)) else [target]

def isLehr (r : RunCmd) : Bool := r.wait == .lehr
def isSleep (r : RunCmd) : Bool := r.wait == .sleep

/-- What waited for domain `d` while it prepared, was stopped or was under test: packets are delivered to a domain that is ready, and
wake one that is off, as a wake that waited does (R531). -/
def deliverQueued (d : Nat) (s : Hw) : Hw :=
  let n := (s.dom d).queued
  let s := s.setDom d { s.dom d with queued := 0 }
  if s.ready d then deliverPackets d s
  else s.cond (n != 0 && s.domState d == 0) fun s => s.access d

/-- While D16 is under test both its pairs are in plausibility mode (R477). -/
def lehrPlaus (s : Hw) (target : Nat) (on : Bool) : Hw :=
  s.cond (target == 16 || target == 0xFE) fun s => s.setFld MCV_STATUS_plaus (if on then 15 else 0)

/-- The pairs whose 8 rounds in D16's converter check passed say so (R477, R478). -/
def tellPlaus (s : Hw) (found : List LehrRegion) : Hw :=
  match found.find? (·.region == 16) with
  | some f => if hasBit f.failed 2 then s else (s.raise 0x1106 [0, 8, f.most.1]).raise 0x1106 [1, 8, f.most.2]
  | none => s

/-- A run ends: the tested domain is off again, and a wake that waited for it acts. -/
def lehrLeave (s : Hw) (x : LehrRun) : Hw :=
  let s := lehrPlaus (updPwr s fun p => { p with lehr := none }) x.target false
  let ds := if x.target = 0xFE then domains20.filter (· ≠ 19) else [x.target]
  let s := s.each ds fun d s => s.cond (s.domState d == 5) fun s => s.setFld (PWR_DOM_state d) 0
  let s := s.cond (s.phase == .shut) fun s => s.each ds switchOff
  s.each ds deliverQueued

/-- A run aborts (R543): its record, event 0x0209, and the command's end with the record's header. -/
def lehrAbort (reason : Nat) (found : List LehrRegion) (s : Hw) : Hw :=
  match s.pwr.lehr with
  | none => s
  | some x =>
    let left := (lehrOrder x.target).filter fun r => !found.any (·.region == r)
    let regions := if x.target = 0xFE then lehrRegions else [x.target]
    let miss := fun r => if x.testing && left.head? == some r then 3 else 2
    let rec_ : LehrRec := { kind := x.kind, abort := reason, pcc := s.num EVR_PCC, start := x.started, done := s.optime,
                            entries := regions.map (lehrEntry x x.kind found miss) }
    let s := keepLehr s found rec_
    let s := ((s.setFld PWR_LEHR_state 0).setFld PWR_LEHR_abort reason).setFld PWR_LEHR_result 3
    let s := s.raise 0x0209 [x.kind, x.target, reason]
    setOutcome (lehrLeave s x) isLehr stOK 0 (lehrHead rec_)

/-- Lehr does not run: a record with no region (R537). -/
def lehrRefused (s : Hw) (target k : Nat) : Hw :=
  let rec_ : LehrRec := { kind := lehrKind target, abort := k, pcc := s.num EVR_PCC, start := s.optime, done := s.optime, entries := [] }
  let s := ((storeLehr s rec_).setFld PWR_LEHR_abort k).setFld PWR_LEHR_result 2
  s.raise 0x0209 [lehrKind target, target, k]

/-- The domains stand ready for test (R544, R545). -/
def beginTest (s : Hw) : Hw :=
  match s.pwr.lehr with
  | none => s
  | some x =>
    let s := updPwr s fun p => { p with lehr := some { x with testing := true } }
    let s := (s.setFld PWR_LEHR_state 2).setFld PWR_LEHR_region ((lehrOrder x.target).headD 0)
    let s := lehrPlaus s x.target true
    if x.target = 0xFE then
      (switchOff 17 s).each (domains20.filter (· ≠ 19)) fun d s => (s.setFld (PWR_DOM_state d) 5).setFld (PWR_DOM_analog d) 0
    else
      let s := s.cond (x.target != 17) fun s => s.wake 17 1
      (s.setFld (PWR_DOM_state x.target) 5).setFld (PWR_DOM_analog x.target) 0

/-- The preconditions, judged every 1 ms from the start of the run (R537): VCORE as read back, the lowest and highest die temperature in 0.1 °C, the
regions done so far. -/
def lehrCheck (mv : Nat) (tLow tHigh : Int) (found : List LehrRegion) (s : Hw) : Hw :=
  let s := (updPwr s fun x => { x with tempLow := tLow, tempHigh := tHigh }).setFld PWR_OP_STATUS_vcore_mv mv
  match s.pwr.lehr with
  | none => s
  | some x =>
    let lo := if sx 16 x.tLow ≤ tLow then x.tLow else enc 16 tLow
    let hi := if tHigh ≤ sx 16 x.tHigh then x.tHigh else enc 16 tHigh
    let s := updPwr s fun p => { p with lehr := some { x with vLow := min x.vLow mv, vHigh := max x.vHigh mv, tLow := lo, tHigh := hi } }
    let s := s.cond x.testing fun s =>
      s.setFld PWR_LEHR_region (((lehrOrder x.target).filter fun r => !found.any (·.region == r)).headD 20)
    if s.dtime < x.checked + 1000000 then s
    else
      let s := updPwr s fun p => { p with lehr := p.lehr.map fun x => { x with checked := s.dtime } }
      if lehrPre s ≠ 0 then lehrAbort (lehrPre s) found s else s

/-- A run completes with what was found in its regions (R540 to R545). -/
def lehrComplete (found : List LehrRegion) (s : Hw) : Hw :=
  match s.pwr.lehr with
  | none => s
  | some x =>
    if !x.testing || (x.target != 0xFE && x.target != 17 && !s.ready 17) then s
    else
      let regions := if x.target = 0xFE then lehrRegions else [x.target]
      let es := regions.map (lehrEntry x x.kind found fun _ => 2)
      let result := if es.all (entryPass x.kind) then 0 else 1
      let rec_ : LehrRec := { kind := x.kind, abort := 0, pcc := s.num EVR_PCC, start := x.started, done := s.optime, entries := es }
      let s := keepLehr s found rec_
      let s := ((s.setFld PWR_LEHR_state 0).setFld PWR_LEHR_abort 0).setFld PWR_LEHR_result result
      let s := (tellPlaus s found).raise 0x0208 [x.kind, x.target, result]
      let s : Hw := if x.target = 0xFE then updPwr { checkpoint s with phase := .shut } fun p => { p with shut := true } else s
      setOutcome (lehrLeave s x) isLehr stOK 0 (lehrHead rec_)

/-! ### Sleep (R528 to R531) -/

/-- A lock-in demodulator that has been configured and reads an MCV entry. -/
def demodOnMcv (s : Hw) (d : Nat) : Bool :=
  let set := s.num (CLE_LIA_CFG d) != 0 || s.num (CLE_LIA_WIN d) != 0x3E80000 || (Map.get {} s.nv.objs (0x0F080000 + d)).adopted.isSome
  set && s.fld (CLE_LIA_CFG_src_kind d) == 0

/-- The refusal conditions of Table 18-2. -/
def refuses (s : Hw) (d : Nat) : Bool :=
  if d < 8 then s.stage (laneGroup d) != 0
  else if d < 12 then (List.range 8).any fun p => portEnabled s p && (quadsOf (portLanes s p)).contains (d - 8)
  else if d < 14 then s.stage (d - 12) != 0
  else if d = 14 then s.stage 0 != 0 || s.stage 1 != 0 || s.fld TDS_FLOWS_admitted != 0
  else if d = 15 then (units12.any fun u => s.fstate u != 0) || loops32.any fun l => loopMode s l != 0
  else if d = 16 then
    (loops32.any fun l => loopMode s l != 0 && s.fld (CLE_CFG_src_kind l) == 0) ||
      ((List.range 8).any fun k => demodOnMcv s k) || s.mcv.plaus.any fun e => e.2.isSome
  else if d = 17 then capturing s
  else if d = 19 then (s.evr.staged.any Rec.inStage) || !s.nv.items.isEmpty
  else false

/-- Line wakes that a sleep kept back act, and groups that are awake and enabled enter P1 (R239, R240). -/
def wakesAct (s : Hw) : Hw := s.each [0, 1] fun g s => if s.pwr.lowPower then s else enterIfEnabled (actPending s g) g

/-- Phase 2: the named domains are switched off in ascending order. -/
def finishSleep (s : Hw) (z : Sleep) : Hw :=
  let ds := bitsOf 20 z.mask
  let s := s.each ds fun d s =>
    s.cond (s.domState d != 0) fun s =>
      (switchOff d s).cond (s.fenced d && s.fld (PWR_DOM_fence_by d) == 2) (setFence d 2 false)
  let s := updPwr (s.raise 0x0202 [z.mask]) fun x => { x with sleep := none }
  let s := if z.owner = 2 ∧ s.pwr.lehr.isSome then beginTest s else s.each ds deliverQueued
  let s := if z.owner = 0 then setOutcome s isSleep stOK 0
    else if z.owner = 1 then
      let s := s.raise 0x0207 [0, (s.dtime - s.pwr.lowAt) / 1000]
      if s.pwr.lowPower then s else lowWake s
    else s
  wakesAct s

/-- Ask the next domain; with none left, phase 2. A domain that is off or fenced is not asked, one that wakes is waited for. -/
def askNext : Nat → Hw → Hw
  | 0, s => s
  | fuel + 1, s =>
    match s.pwr.sleep with
    | none => s
    | some z =>
      match z.toAsk with
      | [] => finishSleep s z
      | d :: rest =>
        if s.domState d = 2 ∧ !s.fenced d then s.setFld (PWR_DOM_state d) 3
        else if s.domState d = 1 ∧ !s.fenced d then s
        else askNext fuel (updPwr s fun x => { x with sleep := some { z with toAsk := rest } })

/-- Begin a sleep of the domains in a mask. -/
def beginSleep (s : Hw) (mask owner target : Nat) (forced : Bool) : Hw :=
  let z : Sleep := { toAsk := bitsOf 20 mask, stopped := [], mask := mask, forced := forced, owner := owner, target := target }
  askNext 22 (updPwr s fun x => { x with sleep := some z })

/-- Steps 1 to 3 of R532. -/
def lowPowerRun (s : Hw) : Hw :=
  let s := lowerTargets (s.each [0, 1] fun g s => toP0 s g)
  beginSleep s (sumN (lowSet.map fun d => 2 ^ d)) 1 0 true

/-- A sleep that waited for another one (R546). -/
def runLowDue (s : Hw) : Hw :=
  if s.pwr.lowDue && s.pwr.sleep.isNone then
    let s := updPwr s fun x => { x with lowDue := false }
    s.cond s.pwr.lowPower lowPowerRun
  else s

/-- A domain refuses: the others resume, in reverse order of stopping (R530). -/
def refuseSleep (d : Nat) (s : Hw) : Hw :=
  match s.pwr.sleep with
  | none => s
  | some z =>
    let back := z.stopped ++ (if s.domState d = 3 then [d] else [])
    let s := s.each back fun e s => deliverQueued e (s.setFld (PWR_DOM_state e) 2)
    let s := updPwr s fun x => { x with sleep := none }
    let s := s.raise 0x0203 [d, z.mask, sumN (z.stopped.map fun e => 2 ^ e)]
    wakesAct (if z.owner = 2 then
      setOutcome ((updPwr s fun x => { x with lehr := none }).setFld PWR_LEHR_state 0) isLehr stREFUSED d
    else runLowDue (setOutcome s isSleep stREFUSED d))

/-- The domain that was asked answers within 100 µs. -/
def prepareAnswer (d : Nat) (s : Hw) : Hw :=
  match s.pwr.sleep with
  | none => s
  | some z =>
    if s.domState d ≠ 3 ∨ z.toAsk.head? ≠ some d then s
    else if !z.forced && (refuses s d || (s.dom d).queued != 0) then refuseSleep d s
    else
      let s := s.setFld (PWR_DOM_state d) 4
      runLowDue (askNext 22 (updPwr s fun x => { x with sleep := some { z with toAsk := z.toAsk.tail, stopped := d :: z.stopped } }))

/-! ### Wake, failure, low power (R523 to R526, R532, R533) -/

/-- Domains that report analogue readiness with readiness itself (Table 18-1). -/
def analogAtOnce (d : Nat) : Bool := decide (12 ≤ d) && d != 16

/-- A waking domain has filled and repaired its memories and reports ready. -/
def domainReady (d : Nat) (s : Hw) : Hw :=
  if s.domState d ≠ 1 then s
  else
    let x := s.dom d
    let us := (s.dtime - x.wakeAt) / 1000
    let s := (s.setFld (PWR_DOM_state d) 2).setFld (PWR_DOM_wake_us d) (min us 65535)
    let s := s.setFlag (PWR_DOM_analog d) (analogAtOnce d)
    let s := s.setDom d { x with queued := 0, powerUps := x.powerUps + 1, access := s.dtime }
    let s := domainUp d x.cause s
    let s := s.cond (s.fenced d && s.fld (PWR_DOM_fence_by d) == 2) (setFence d 2 false)
    let s := deliverPackets d s
    let s := s.cond (x.cause != 6) fun s => s.raiseOnce 0x0201 d [d, if x.cause = 7 then 4 else x.cause, us]
    let s := wakesAct s
    s.cond (s.pwr.sleep.any fun z => z.toAsk.head? == some d) (askNext 22)

/-- D16's analogue readiness: plausibility has passed on both pairs (Table 18-1, R477). -/
def settleAnalog (s : Hw) : Hw :=
  let ok := [0, 1].all fun p => (Map.get none s.mcv.plaus p).isNone && (Map.get (0, 0, 0) s.mcv.results p).1 == 1
  if s.ready 16 && !s.flag (PWR_DOM_analog 16) && ok then s.setFld (PWR_DOM_analog 16) 1 else s

/-- A wake source for an off domain acts; one for a domain that prepares, has stopped or is under test waits. -/
def wakeSource (d cause : Nat) (s : Hw) : Hw := if cause = 0 then s.access d else s.wake d cause

/-- A rail or heartbeat failure (R526): fence, event 0x0204, and a re-power; the third in 600 s leaves the domain off. A run that tests the
domain goes on: its region is told as it was found (DEDUCED: log entry 131). -/
def domainFailure (d cause : Nat) (s : Hw) : Hw :=
  let st := s.domState d
  if st = 0 ∨ (cause = 1 ∧ st ≠ 2) then s
  else
    let s := s.setDom d { s.dom d with fails := (recentFails s d) ++ [s.dtime] }
    let n := (recentFails s d).length
    let s := (setFence d 2 true s).raise 0x0204 [d, cause, n]
    let s := switchOff d s
    let s := if n ≥ 3 then s.setDom d { s.dom d with queued := 0 } else repower d s
    match s.pwr.sleep with
    | none => s
    | some z =>
      if !(bitsOf 20 z.mask).contains d then s
      else if z.forced then
        askNext 22 (updPwr s fun x => { x with sleep := some { z with toAsk := z.toAsk.filter (· ≠ d), stopped := z.stopped.filter (· ≠ d) } })
      else refuseSleep d (updPwr s fun x => { x with sleep := some { z with stopped := z.stopped.filter (· ≠ d) } })

/-- LPMODE or LowPwrRequestSW asks for low power. While the part resets, starts or is in recovery, the request is held until
command-ready (Table 20-14). -/
def lowPowerEnter (s : Hw) : Hw :=
  let s := updPwr s fun x => { x with lpReq := true }
  if s.pwr.lowPower ∨ s.phase = .held ∨ s.phase = .starting ∨ s.phase = .warmReset ∨ s.phase = .recovery then s
  else
    let s := updPwr s fun x => { x with lowPower := true, lowAt := s.dtime, lowWaking := false, leaving := false }
    match s.pwr.lehr with
    | some x => if x.kind = 0 then s else
      let s := updPwr s fun p => { p with sleep := none }
      lowPowerRun (lehrAbort 5 [] s)
    | none =>
      if s.phase = .shut then s
      else if s.pwr.sleep.isSome then updPwr s fun x => { x with lowDue := true } else lowPowerRun s

/-- Low power ends; while its sleep is still in progress, the wake follows the sleep. -/
def lowPowerExit (s : Hw) : Hw :=
  let s := updPwr s fun x => { x with lpReq := false }
  if !s.pwr.lowPower then s
  else
    let s := updPwr s fun x => { x with lowPower := false, lowAt := s.dtime, lowDue := false }
    if s.phase = .shut ∨ (s.pwr.lehr.any fun x => x.kind == 0) then s
    else if s.pwr.sleep.any fun z => z.owner == 1 then s
    else lowWake s

/-- Under low power a domain that an access woke returns to sleep 10 ms after the last access (R524). -/
def lowPowerIdle (d : Nat) (s : Hw) : Hw :=
  if s.pwr.lowPower && s.pwr.sleep.isNone && lowSet.contains d && s.ready d && (s.dom d).byAccess &&
      decide ((s.dom d).access + 10000000 ≤ s.dtime) then beginSleep s (2 ^ d) 3 0 true
  else s

/-- What follows at once: a command that waits for a fenced domain ends FENCED (R24); PWR_WAKE ends when its domains are
ready; a run on one domain aborts for a wake of it or for the loss of its save buffer. -/
def settlePower (s : Hw) : Hw :=
  let s := settleLowWake (settleAnalog s)
  let ends := fun (r : RunCmd) => match r.wait with
    | .domains ds => (ds.find? s.fenced).map fun d => (stFENCED, d)
    | .wake m a _ =>
      match (bitsOf 20 m).find? s.fenced with
      | some d => some (stFENCED, d)
      | none => if (bitsOf 20 m).all fun d => s.ready d && (!a || s.flag (PWR_DOM_analog d)) then some (stOK, 0) else none
    | _ => none
  let mark := fun (r : RunCmd) => match r.outcome, ends r with
    | none, some (st, d) => { r with outcome := some (st, d, []) }
    | _, _ => r
  let s : Hw := { s with cmd := { s.cmd with running := s.cmd.running.map mark } }
  match s.pwr.lehr with
  | some x =>
    if x.kind = 1 ∧ x.testing then
      if (s.dom x.target).queued ≠ 0 then lehrAbort 4 [] s
      else if x.target ≠ 17 ∧ (s.domState 17 = 0 ∨ s.fenced 17) then lehrAbort 6 [] s
      else s
    else s
  | none => s

/-! ### Commands (Table 18-9) -/

/-- The commands of Table 18-8 exclude one another, and so do the sleep and the wake of low power (R532, R547). -/
def domConc : Hw → Bytes → RunCmd → Bool := fun _ _ r => decide (r.opcode ≥ 0x0210)
def domBusy : Hw → Bytes → Bool := fun s _ => s.pwr.sleep.isSome || s.pwr.lowWaking || s.pwr.lowDue

def maskChk : Chk := .nzm 4 0xFFFFF

/-- The registers of a PWR_DOMAIN_READ, as they read now. -/
def opPwrDomainRead : OpSpec :=
  OpSpec.fix headPwrDomainRead [maskChk] fun s c =>
    let as := (bitsOf 20 (u32 c.p 0)).map PWR_DOM ++ [PWR_START, PWR_LEHR]
    .ok s ((as.flatMap fun a => toBE 4 (liveWord s a).toNat) ++ s.dtimeBytes)

def opPwrWake : OpSpec :=
  { OpSpec.fix headPwrWake [maskChk, .msk 1 1] fun s c =>
      let ds := bitsOf 20 (u32 c.p 0)
      let a := hasBit (u8 c.p 4) 0
      if (ds.any s.fenced) = true then .refuse stCONDITIONS 1 s
      else if ds.all fun d => s.ready d && (!a || s.flag (PWR_DOM_analog d)) then .ok s
      else .wait (.wake (u32 c.p 0) a (ds.filter fun d => s.domState d == 0)) (s.each ds fun d s => s.wake d 1) with
    conc := domConc, busy := domBusy }

/-- What the sleep begun would come to, as the conditions of Table 18-2 stand: REFUSED by the first domain to refuse (R530). -/
def foreseeSleep (s : Hw) (_ : Bytes) : Nat × Nat :=
  match s.pwr.sleep with
  | some z =>
    match z.toAsk.find? fun d => !z.forced && !s.fenced d && s.domState d != 0 && refuses s d with
    | some d => (stREFUSED, d)
    | none => (stOK, 0)
  | none => (stOK, 0)

def opPwrSleep : OpSpec :=
  { OpSpec.fix headPwrSleep [maskChk] fun s c =>
      if s.pwr.lehr.isSome then .refuse stCONDITIONS 1 s
      else
        let s' := beginSleep s (u32 c.p 0) 0 0 false
        if s'.pwr.sleep.isNone then .ok s' else .wait .sleep s' with
    foresee := foreseeSleep, conc := domConc, busy := domBusy }

/-- A host fence of one domain, and its release (R527). -/
def fenceOne (fence : Bool) (d : Nat) (s : Hw) : Hw :=
  if fence then
    let s := if s.fenced d && s.fld (PWR_DOM_fence_by d) == 1 then s else setFence d 1 true s
    switchOff d (s.setDom d { s.dom d with queued := 0 })
  else
    let s := s.setDom d { s.dom d with fails := [] }
    if s.fenced d && s.fld (PWR_DOM_fence_by d) != 3 then
      let s := switchOff d (clearFence d s)
      s.setDom d { s.dom d with queued := 0 }
    else s

def opPwrFence : OpSpec :=
  { OpSpec.fix headPwrFence [maskChk, .rng 1 0 1] fun s c =>
      .ok (s.each (bitsOf 20 (u32 c.p 0)) (fenceOne (u8 c.p 4 == 1))) with
    conc := domConc, busy := domBusy }

def opPwrDomainReset : OpSpec :=
  { OpSpec.fix headPwrDomainReset [.rng 1 0 19] fun s c =>
      let d := u8 c.p 0
      let s := clearFence d s
      let s := s.setDom d { s.dom d with fails := [] }
      .ok (repower d (switchOff d s)) with
    conc := domConc, busy := domBusy }

def opPwrLehrRun : OpSpec :=
  { OpSpec.fix headPwrLehrRun [.one 1 (domains20 ++ [0xFE])] fun s c =>
      let t := u8 c.p 0
      let k := lehrPre s
      if k ≠ 0 then .refuse stCONDITIONS k (lehrRefused s t k)
      else if t ≠ 0xFE ∧ t ≠ 17 ∧ capturing s then .refuse stCONDITIONS 4 s
      else
        let v := s.fld PWR_OP_STATUS_vcore_mv
        let run : LehrRun := { kind := lehrKind t, target := t, started := s.optime, vLow := v, vHigh := v,
                               tLow := enc 16 s.pwr.tempLow, tHigh := enc 16 s.pwr.tempHigh,
                               targets := units12.map fun u => s.fld (FES_STATE_target u), awake := domains20.filter s.ready, checked := s.dtime }
        let s := (updPwr s fun x => { x with lehr := some run }).setFld PWR_LEHR_state 1
        if t = 0xFE then
          let s := s.each [0, 1] fun g s => toP0 s g
          let s := setTargets s 0xFFF 0
          .wait .lehr (beginSleep s (2 ^ 20 - 1 - 2 ^ 17 - 2 ^ 19) 2 t true)
        else .wait .lehr (beginSleep s (2 ^ t) 2 t false) with
    foresee := foreseeSleep, conc := domConc, busy := domBusy }

/-- Records 0 and 1 of kinds 0 and 2, 2 to 9 the in-service ring, newest first; nothing for one that is not stored. -/
def opPwrLehrRead : OpSpec :=
  { OpSpec.fix headPwrLehrRead [.rng 1 0 9] fun s c =>
      let k := u8 c.p 0
      let r := if k < 2 then s.nv.ident.lehrMain[k]? else s.nv.ident.lehrRing[k - 2]?
      .ok s ((r.map lehrBytes).getD []) with
    doms := fun _ _ => [19] }

def applyPwrConfig (p : Bytes) (s : Hw) : Hw := s.setFld PWR_CFG_quick_en (bit (u8 p 0) 0)

def opPwrConfig : OpSpec :=
  { OpSpec.fix headPwrConfig [.msk 1 1] fun s c => .ok (applyPwrConfig c.p s) with
    conc := domConc, busy := domBusy, objs := fun _ => [0] }

end Sys2Proof.Machine
end

