-- ==== Sys2Proof/Machine/Sec.lean ====
section
/-!
DEFINITION. Security (19): identity and certificates, images and their verification, the firmware slots and trials, owner
keys, attestation, debug access, the random source, and the SEC commands.
-/
namespace Sys2Proof.Machine
open Reg

/-! ### Images (R569, R570) -/

/-- The content of firmware slot `k`: what was written, or else the image of production. -/
def slotImage (s : Hw) (k : Nat) : Bytes := (Map.get none s.nv.images k).getD (Config.factoryImage k)

def imgVersion (b : Bytes) : Nat := u32 b 8
def imgRollback (b : Bytes) : Nat := u32 b 12
def imgLength (b : Bytes) : Nat := u32 b 16
def imgCosigned (b : Bytes) : Bool := hasBit (u8 b 68) 0
def imgBody (b : Bytes) : Bytes := slice b 512 (imgLength b)

/-- Are the header's fields those of Table 19-6? -/
def headerValid (b : Bytes) : Bool :=
  u32 b 0 == 0x4548524B && u16 b 4 == 1 && u16 b 6 == 0 && decide (imgRollback b ≤ 4095) &&
    decide (1 ≤ imgLength b ∧ imgLength b ≤ 2096640) && decide (u8 b 68 ≤ 1) && un b 70 90 == 0 && un b 352 160 == 0 &&
    (imgCosigned b || un b 256 96 == 0) && decide (u8 b 69 ≤ 3)

/-- SHA-384 of header bytes 0 to 159. -/
def headerDigest (b : Bytes) : BitVec 384 := sha384 (slice b 0 160)

/-- Does the owner co-signature verify under an enrolled slot with the co-sign flag? -/
def cosignOk (s : Hw) (b : Bytes) : Bool :=
  imgCosigned b && (match keySlot s (u8 b 69) with
    | some k => k.cosign && ecdsaVerify k.key (headerDigest b) (slice b 256 96)
    | none => false)

/-- Is a sector uncorrectable that holds a byte of firmware slot `k` from `lo` up to `hi` (Table 19-4)? -/
def badIn (s : Hw) (k lo hi : Nat) : Bool :=
  s.nv.badSects.any fun x => x / 4096 == k && decide (lo < (x % 4096 + 1) * 512 ∧ x % 4096 * 512 < hi)

/-- The number of the first check of R570 that an image fails; 0 when it verifies. -/
def imageCheck (s : Hw) (k : Nat) : Nat :=
  let b := slotImage s k
  if badIn s k 0 512 || !headerValid b then 1
  else if badIn s k 512 (512 + imgLength b) then 2
  else if sha384 (imgBody b) ≠ BitVec.ofNat 384 (un b 20 48) then 2
  else if !releaseVerify (headerDigest b) (slice b 160 96) then 3
  else if imgRollback b < s.nv.ident.rollback then 4
  else if s.nv.ident.cosign && !cosignOk s b then 5
  else 0

/-- Is slot `k` verified: not written since it last verified, and verifying still (R572, R573)? -/
def verified (s : Hw) (k : Nat) : Bool := !hasBit s.nv.unver k && imageCheck s k == 0

/-- The verifier has passed slot `k`. -/
def passed (s : Hw) (k : Nat) : Hw := { s with nv := { s.nv with unver := setBit s.nv.unver k false } }

def otherSlot (k : Nat) : Nat := 1 - k

/-- SEC_FW and SEC_FW_VER follow the identity region and the boot (Table 19-11a). -/
def settleSec (s : Hw) : Hw :=
  let i := s.nv.ident
  let s := s.cond (s.phase == .ready || s.phase == .recovery) fun s => s.setFlag SEC_FW_recovery (s.phase == .recovery)
  let s := s.setFlag SEC_FW_trial i.trial
  let s := (s.setFlag SEC_FW_cosign_req i.cosign).setFlag SEC_FW_debug_unlocked s.evr.debug
  let s := (s.setFld SEC_FW_active i.active).setFld SEC_FW_rollback i.rollback
  s.setNum SEC_FW_VER (imgVersion (slotImage s i.active))

/-- The boot verifier (R571): the active slot, else the other, else recovery. Answers whether an image runs. -/
def bootVerify (s : Hw) : Bool × Hw :=
  let a := s.nv.ident.active
  let b := otherSlot a
  let ka := imageCheck s a
  if ka = 0 then (true, passed s a)
  else
    let s := s.raise 0x0101 [a, ka]
    let kb := imageCheck s b
    if kb = 0 then
      let s := setIdent (passed s b) fun d => { d with active := b, trial := false, fallback := none }
      (true, s.raise 0x0102 [b, imgVersion (slotImage s b)])
    else (false, s.raise 0x0103 [if a = 0 then ka else kb, if a = 0 then kb else ka])

/-- A trial ends without commit (R573, R574): the fallback slot is active again, or, with none, the device goes to recovery.
`cause`: 0 time, 1 watchdog. Answers whether an image is left to run. -/
def revertTrial (s : Hw) (cause : Nat) : Bool × Hw :=
  match s.nv.ident.fallback with
  | some k =>
    let s := setIdent s fun d => { d with active := k, trial := false, fallback := none }
    (true, s.raise 0x0106 [cause, k])
  | none =>
    let s := setIdent s fun d => { d with trial := false }
    (false, s.raise 0x0106 [cause, s.nv.ident.active])

/-! ### The random source (R566) -/

def randomHealthFail (test : Nat) (s : Hw) : Hw := (updEvr s fun x => { x with randomOk := false }).raise 0x0109 [1, test]

def randomHealthRestored (s : Hw) : Hw := updEvr s fun x => { x with randomOk := true }

/-! ### Commands (Table 19-10) -/

/-- The identity written at production test: lot, wafer, die x and y, test date (Table 19-5). -/
def productionBytes (n : Nat) : Bytes :=
  (toBE 8 (n / 2 ^ 104)).map (· % 128) ++ toBE 1 (1 + n / 2 ^ 96 % 25) ++ [0] ++ toBE 4 (n / 2 ^ 64) ++ [0, 0] ++ toBE 4 (n / 2 ^ 32)

/-- Table 19-5. -/
def identityBytes : Bytes :=
  productionBytes Config.identity.toNat ++ toBE 4 ownTag ++ deviceKey ++ zeros 7

def secDoms : Hw → Bytes → List Nat := fun _ _ => [19]

def opSecIdRead : OpSpec :=
  { OpSpec.fix headSecIdRead [] fun s _ => .ok s identityBytes with
    doms := secDoms }

def opSecCertRead : OpSpec :=
  { OpSpec.fix headSecCertRead [.rng 1 0 1, .rng 2 0 1023, .rng 2 1 1024] fun s c =>
      let b := (Config.certificate (u8 c.p 0)).take 1024
      .ok s (toBE 2 b.length ++ zeros 2 ++ slice b (u16 c.p 1) (u16 c.p 3)) with
    doms := secDoms }

/-- Bytes of a key slot; an empty one is 98 zero bytes (R575). -/
def keyDigestBytes (s : Hw) (k : Nat) : Bytes :=
  match keySlot s k with
  | some x => toBE 1 (x.level + if x.cosign then 0x80 else 0) ++ slice x.key 0 97
  | none => zeros 98

/-- The instances of the configuration objects by opcode (Table 19-4a), in ascending opcode. -/
def objectTable : List (Nat × Nat) :=
  [(0x0030, 1), (0x010D, 1), (0x0208, 1), (0x0501, 2), (0x0601, 2), (0x0607, 1), (0x0701, 16), (0x0703, 1), (0x0801, 8),
    (0x0804, 1), (0x0A03, 1), (0x0A04, 1), (0x0A05, 1), (0x0B01, 1), (0x0C03, 1), (0x0D01, 12), (0x0D05, 24), (0x0E01, 1),
    (0x0E02, 4), (0x0E03, 8), (0x0E06, 1), (0x0F01, 32), (0x0F08, 8), (0x1002, 24), (0x1003, 24), (0x1101, 1), (0x1103, 1),
    (0x1303, 1), (0x1304, 8)]

/-- Every object number, ascending. -/
def objectNumbers : List Nat := objectTable.flatMap fun e => (List.range e.2).map (e.1 * 65536 + ·)

/-- What the configuration digest is taken over (R575). -/
def configBytes (s : Hw) : Bytes := objectNumbers.flatMap fun n => toBE 4 n ++ (adoptedBody s n).getD []

def imageDigest (s : Hw) (k : Nat) : Bytes :=
  let b := slotImage s k
  toBE 48 (sha384 (slice b 0 512 ++ imgBody b)).toNat

/-- The report of Table 19-7 up to its signature. -/
def reportBytes (s : Hw) (nonce : Bytes) : Bytes :=
  let i := s.nv.ident
  let b := otherSlot i.active
  let flags := (if i.cosign then 1 else 0) + (if i.trial then 2 else 0) + (if s.evr.debug then 4 else 0) +
    (if s.phase = .recovery then 8 else 0)
  toBE 2 1 ++ toBE 2 384 ++ toBE 4 (s.num EVR_PCC) ++ toBE 6 s.optime ++ toBE 1 i.active ++ toBE 1 flags ++ nonce ++
    imageDigest s i.active ++ (if verified s b then imageDigest s b else zeros 48) ++
    toBE 48 (sha384 (configBytes s)).toNat ++
    toBE 48 (sha384 ([0, 1, 2, 3].flatMap (keyDigestBytes s))).toNat ++
    toBE 4 (imgVersion (slotImage s i.active)) ++ toBE 4 i.rollback ++
    ((i.lehrMain.head?.map lehrHead).getD (zeros 32)) ++ toBE 4 ownTag ++ zeros 4

/-- ECDSA draws a fresh value; the spec does not count the signature of a report among the commands that a failed health test
stops (R566). -/
def opSecAttest : OpSpec :=
  { OpSpec.fix headSecAttest [.any 32] fun s c =>
      let b := reportBytes s (slice c.p 0 32)
      let (r, s) := s.random
      .ok s (b ++ deviceSign (sha384 b) r) with
    doms := fun _ _ => [18, 19]
    busy := fun s _ => s.cmd.running.any fun r => r.opcode == 0x0108 }

def enrolled (s : Hw) : List Nat := [0, 1, 2, 3].filter fun k => (keySlot s k).isSome

/-- The first enrolment is an Operator's (R568). -/
def enrollLevel (s : Hw) (rq : Request) : Nat :=
  if enrolled s = [] ∧ rq.route ≠ .inband ∧ u8 rq.params 0 = 0 ∧ u8 rq.params 1 = 2 then 1 else 2

def enrollChks : List Chk := [.rng 1 0 3, .rng 1 1 2, .msk 1 1, .res 1]

def opSecKeyEnroll : OpSpec :=
  { OpSpec.fix headSecKeyEnroll (enrollChks ++ [.any 97]) fun s c =>
      let k := u8 c.p 0
      let key := slice c.p 4 97
      if !onCurve key then .refuse stCONDITIONS 1 s
      else if (keySlot s k).isSome then .refuse stREFUSED 0x0103 s
      else
        let x : KeySlot := { level := u8 c.p 1, cosign := hasBit (u8 c.p 2) 0, key := key }
        .ok ((setIdent s fun d => { d with slots := Map.put none d.slots k (some x) }).raise 0x0107 [k, 1, x.level]) with
    check := fun _ p => match runChks enrollChks 1 0 p with
      | some n => some n
      | none => if u8 p 4 = 4 then none else some 5
    levelOf := enrollLevel
    doms := secDoms }

def opSecKeyRevoke : OpSpec :=
  { OpSpec.fix headSecKeyRevoke [.rng 1 0 3] fun s c =>
      let k := u8 c.p 0
      match keySlot s k with
      | none => .refuse stCONDITIONS 1 s
      | some x =>
        let left := [0, 1, 2, 3].any fun j => j != k && (match keySlot s j with
          | some y => y.level == 2
          | none => false)
        if !left then .refuse stREFUSED 0x0104 s
        else
          let s := setIdent s fun d => { d with slots := Map.put none d.slots k none }
          let close := fun (y : Session) => if y.num < 0xFFF0 ∧ y.slot = k then { y with closing := true } else y
          let s : Hw := { s with cmd := { s.cmd with sessions := s.cmd.sessions.map close } }
          .ok (s.raise 0x0107 [k, 0, x.level]) with
    doms := secDoms }

def keyBytes (s : Hw) (k : Nat) : Bytes :=
  match keySlot s k with
  | some x => [1] ++ toBE 1 x.level ++ toBE 1 (if x.cosign then 1 else 0) ++ zeros 1 ++ slice x.key 0 97 ++ zeros 3
  | none => zeros 104

def opSecKeyRead : OpSpec :=
  { OpSpec.fix headSecKeyRead [] fun s _ => .ok s ([0, 1, 2, 3].flatMap (keyBytes s)) with
    doms := secDoms }

/-- `b` with `d` written at byte `i`. -/
def overwrite (b : Bytes) (i : Nat) (d : Bytes) : Bytes := slice b 0 i ++ d ++ b.drop (i + d.length)

def opSecFwWrite : OpSpec :=
  { OpSpec.list headSecFwWrite [.any 4, .any 2, .res 2] 2 4 2 1 1920 1 fun s c =>
      let off := u32 c.p 0
      let n := u16 c.p 4
      if off + n > 2 ^ 21 then .refuse stCONDITIONS 1 s
      else if s.nv.ident.trial && s.nv.ident.fallback.isSome then .refuse stREFUSED 0x0102 s
      else
        let k := otherSlot s.nv.ident.active
        let b := overwrite (slotImage s k) off (slice c.p 8 n)
        let whole := fun (x : Nat) => x / 4096 == k && decide (off ≤ x % 4096 * 512 ∧ (x % 4096 + 1) * 512 ≤ off + n)
        .ok { s with nv := { s.nv with images := Map.put none s.nv.images k (some b), unver := setBit s.nv.unver k true
                                       badSects := s.nv.badSects.filter fun x => !whole x } } with
    check := fun _ p => if u32 p 0 % 64 ≠ 0 then some 1 else runChks [.any 4, .any 2, .res 2] 1 0 p
    doms := secDoms }

/-- The verification of the inactive slot has ended: the slot becomes active on trial, and a management reset follows the reply
(R573, R574). -/
def activateDone (s : Hw) : Res :=
  let i := s.nv.ident
  let k := otherSlot i.active
  if imageCheck s k ≠ 0 then .refuse stREFUSED 0x0101 s
  else
    let b := slotImage s k
    let s := setIdent (passed s k) fun d =>
      { d with active := k, trial := true, fallback := if s.phase = .recovery then none else some i.active, trialAt := s.optime }
    let s := s.raise 0x0104 [k, imgVersion b, imgRollback b]
    .ok (askReset s 1)

/-- The status that a verification will come to. -/
def foreseeActivate (s : Hw) (_ : Bytes) : Nat × Nat :=
  if imageCheck s (otherSlot s.nv.ident.active) = 0 then (stOK, 0) else (stREFUSED, 0x0101)

/-- The verification of the inactive slot begins. -/
def opSecFwActivate : OpSpec :=
  { OpSpec.fix headSecFwActivate [] fun s _ =>
      if s.nv.ident.trial then .refuse stCONDITIONS 1 s else .wait (.verify s.dtime) s with
    doms := secDoms, foresee := foreseeActivate }

def opSecFwCommit : OpSpec :=
  { OpSpec.fix headSecFwCommit [] fun s _ =>
      if !s.nv.ident.trial then .refuse stCONDITIONS 1 s
      else
        let k := s.nv.ident.active
        let b := slotImage s k
        let n := max s.nv.ident.rollback (imgRollback b)
        let s := setIdent s fun d => { d with trial := false, fallback := none, rollback := n }
        .ok (s.raise 0x0105 [k, imgVersion b, n]) (toBE 4 n) with
    doms := secDoms }

def opSecCosignSet : OpSpec :=
  { OpSpec.fix headSecCosignSet [.rng 1 0 1] fun s c =>
      if u8 c.p 0 = 1 ∧ !cosignOk s (slotImage s s.nv.ident.active) then .refuse stCONDITIONS 1 s
      else .ok (setIdent s fun d => { d with cosign := u8 c.p 0 == 1 }) with
    doms := secDoms }

def opSecDebugUnlock : OpSpec :=
  OpSpec.fix headSecDebugUnlock [] fun s c =>
    .ok ((updEvr s fun x => { x with debug := true }).raise 0x0108 [signerOf c.rq])

def opSecFwStatus : OpSpec :=
  { OpSpec.fix headSecFwStatus [] fun s _ =>
      let slot := fun k =>
        let b := slotImage s k
        toBE 1 (if verified s k then 1 else 0) ++ zeros 3 ++ toBE 4 (imgVersion b) ++ toBE 4 (imgRollback b)
      .ok s (slot 0 ++ slot 1 ++ toBE 4 (liveWord s SEC_FW).toNat ++ toBE 4 (liveWord s SEC_CFG).toNat) with
    doms := secDoms }

def applySecConfig (p : Bytes) (s : Hw) : Hw := s.setFld SEC_CFG_trial_s (u16 p 0)

def opSecConfig : OpSpec :=
  { OpSpec.fix headSecConfig [.rng 2 60 3600] fun s c => .ok (applySecConfig c.p s) with
    objs := fun _ => [0] }

end Sys2Proof.Machine
end

