-- ==== Sys2Proof/Machine/Cmis.lean ====
section
/-!
DEFINITION. The CMIS subset (R83, R84): the module state and the data path states, and what a read of a page shows.
-/
namespace Sys2Proof.Machine
open Reg

/-! ### States (Table 02-10) -/

/-- Is a supply out of its window, or D14 fenced after a failure? -/
def cmisFault (s : Hw) : Bool :=
  ((List.range 5).any fun k => !s.flag (PWR_SUPPLY_in_window k)) || (s.fenced 14 && s.fld (PWR_DOM_fence_by 14) == 2)

/-- Low power is in force and has been reached: lane, lane group and D14 domains asleep, transmitters in DARK or WARM. -/
def cmisLow (s : Hw) : Bool :=
  s.pwr.lowPower && (lowSet.all fun d => s.domState d == 0) && (List.range 8).all fun u => decide (s.fstate u ≤ 1)

/-- Are the quads that enabled ports use awake? -/
def portQuadsAwake (s : Hw) : Bool :=
  (List.range 8).all fun p => !portEnabled s p || (quadsOf (portLanes s p)).all fun q => s.ready (8 + q)

/-- The module state. Where conditions of several rows of Table 02-10 hold, the first of fault, power-down, low power, power-up and
ready shows; where those of none do, ModulePwrUp shows (DESIGN CHOICE: log entry 29). -/
def cmisModule (s : Hw) : CmisModule :=
  if cmisFault s then .fault
  else if s.pwr.sleep.isSome then .pwrDn
  else if cmisLow s then .lowPwr
  else if s.pwr.leaving then .pwrUp
  else if s.takesCommands && portQuadsAwake s then .ready
  else .pwrUp

/-- The data path state of a group. -/
def cmisPath (s : Hw) (g : Nat) : CmisPath :=
  if s.stage g = 0 then .deactivated else if s.stage g = 5 then .activated else .init

def settleCmis (s : Hw) : Hw :=
  { s with cmis := { s.cmis with state := cmisModule s, pathA := cmisPath s 0, pathB := cmisPath s 1 } }

/-- The front end is still on its way back from low power: domains wake, or a unit whose target is LIT or more has not reached LIT and
has no fault that keeps it from there. -/
def frontComing (s : Hw) : Bool :=
  s.pwr.lowWaking || ((s.ready 15 || s.domState 15 == 1) &&
    (List.range 8).any fun u => decide (2 ≤ s.fld (FES_STATE_target u)) && decide (s.fstate u < 2) && !s.flag (FES_STATE_fault u))

/-- ModulePwrUp after low power ends with it (Table 02-10). -/
def settleLeaving (s : Hw) : Hw :=
  if s.pwr.leaving && !frontComing s then updPwr s fun x => { x with leaving := false } else s

/-! ### Pages (Table 02-9) -/

/-- The pages that the device has: 0x000 lower page 00h, and upper pages by their numbers plus 0x100. -/
def cmisPages : List Nat := [0x000, 0x100, 0x101, 0x102, 0x110, 0x111, 0x19F] ++ (List.range 16).map (0x1A0 + ·)

/-- Module states as a number, in the order of Table 02-10. -/
def cmisStateCode : CmisModule → Nat
  | .lowPwr => 0
  | .pwrUp => 1
  | .ready => 2
  | .pwrDn => 3
  | .fault => 4

def cmisPathCode : CmisPath → Nat
  | .deactivated => 0
  | .init => 1
  | .activated => 2

/-- The characters of HOLTOUX, and of the part's ordering code without its packing letter (R14). -/
def vendorName : List Nat := [0x48, 0x4F, 0x4C, 0x54, 0x4F, 0x55, 0x58]
def partNumber : List Nat := [0x59, 0x4C, 0x4E, 0x2D, 0x33, 0x36, 0x30, 0x38, 0x2D, 0x46, 0x42, 0x58]

/-- The limits of the supplies' windows in mV (Table 20-2): VCORE, VSRD, VAN, VIO and VAOU. -/
def supplyWindows : List (Nat × Nat) := [(530, 850), (720, 780), (1120, 1280), (1660, 1940), (3050, 3550)]

/-- The places of the pages in cmisPages as one mask of upper page numbers. -/
def cmisUpper : List Nat := (cmisPages.filter (0x100 ≤ ·)).map (· - 0x100)

/-- What a page shows of the device (Table 02-9): on lower page 00h the module state, the flags summary, temperature, supplies, the low
power requests, the software reset's use, and the interrupt flag, which follows INTL (R73); on upper page 00h vendor name, part number,
and, from the unit identity, what tells serial and date; on page 01h the pages, the one CDB instance, its background mode and its extended
payload of 2048 bytes; on page 02h the limits of the temperature, of the supplies and of each lane's amplitude and margin; on page 10h
the disabled transmitters and the deinitialised groups; on page 11h the data path states, the lane flags and each lane's monitors; on 9Fh
and the pages after it the CDB reply. -/
def cmisShown (s : Hw) (page : Nat) : List Nat :=
  if page = 0x000 then
    [cmisStateCode s.cmis.state, if cmisFlagged s then 1 else 0, enc 16 s.pwr.tempHigh, if s.pwr.lowPower then 1 else 0,
      s.fld CMD_CFG_cmis_swreset, if s.pwr.lpReq then 1 else 0, if s.cmis.allowHw then 1 else 0, if s.intl then 1 else 0] ++
      (List.range 5).map fun k => s.fld (PWR_SUPPLY_voltage k)
  else if page = 0x100 then vendorName ++ partNumber ++ (productionBytes Config.identity.toNat).map BitVec.toNat
  else if page = 0x101 then [1, 1, 2048] ++ cmisUpper
  else if page = 0x102 then
    [enc 16 (-400), 1100] ++ (supplyWindows.flatMap fun w => [w.1, w.2]) ++
      (List.range 8).flatMap fun n => [s.fld (LRX_CFG_los_thr n), s.fld (LRX_ALARM_margin_alarm n)]
  else if page = 0x110 then
    ((List.range 8).map fun u => s.fld (FES_STATE_cmis_dis u)) ++ [0, 1].map fun g => if (s.grp g).deinit then 1 else 0
  else if page = 0x111 then
    [cmisPathCode s.cmis.pathA, cmisPathCode s.cmis.pathB, s.cmis.los, s.cmis.lol, s.cmis.fault] ++
      (List.range 8).flatMap fun n => [s.fld (LRX_MEAS_snr n), s.fld (LRX_MEAS_margin n), s.fld (LRX_PREFEC_log n),
        s.fld (LRX_FREQ_offset n)]
  else if page = 0x19F then s.cmis.lpl.map BitVec.toNat
  else if page ≥ 0x1A0 then (s.cmis.epl.drop (128 * (page - 0x1A0))).take 128 |>.map BitVec.toNat
  else []

/-- A write to a page that the device lacks is ignored (R83). The writes that act reach the part as commands of their own: the software
reset, low power, transmitter disable, data path deinitialisation and CDB messages. -/
def cmisWrite (page : Nat) (act : Hw → Hw) (s : Hw) : Hw := if cmisPages.contains page then act s else s

/-- The byte that a read of a page at an offset shows (R83): of a page that the device lacks 0x00; the places of the contents within
a page are the outside standard's (log entry 29). -/
def cmisRead (s : Hw) (page off : Nat) : Byte :=
  if cmisPages.contains page then Config.cmisByte page off (cmisShown s page) else 0

end Sys2Proof.Machine
end

