-- ==== Sys2Proof/Machine/Command.lean ====
section
/-!
DEFINITION. The command processor's own commands (02): identity, nonces and sessions, the journal's reads, resets asked for,
the in-band route, and the timers of sessions and of counted events.
-/
namespace Sys2Proof.Machine
open Reg

/-! ### Echo, information, nonces -/

/-- Any block, returned unchanged. -/
def opEcho : OpSpec where
  opcode := headEcho.opcode
  level := headEcho.level
  maxMs := headEcho.maxMs
  journal := headEcho.journal
  fixed := 0
  maxLen := 2048
  implied := fun p => .ok p.length
  check := fun _ _ => none
  body := fun s c => .ok s c.p

def opGetInfo : OpSpec :=
  OpSpec.fix headGetInfo [] fun s _ =>
    .ok s (toBE 4 (imgVersion (slotImage s s.nv.ident.active)) ++ toBE 1 s.nv.ident.active ++ zeros 1 ++ toBE 6 s.mac ++
      toBE 4 (s.num EVR_PCC) ++ s.dtimeBytes ++ zeros 8)

/-- Commands that need a fresh random value complete CONDITIONS 1 while the health tests fail (R566). -/
def needRandom (s : Hw) (k : Hw → Res) : Res := if s.evr.randomOk then k s else .refuse stCONDITIONS 1 s

def opGetNonce : OpSpec :=
  OpSpec.fix headGetNonce [] fun s c => needRandom s fun s =>
    let (r, s) := s.random
    let v := r.toNat % 2 ^ 256
    .ok (updSession s c.sess fun x => { x with nonce := some (v, s.dtime) }) (toBE 32 v)

/-! ### In-band sessions (R65 to R67) -/

def openSessions (s : Hw) : List Session := s.cmd.sessions.filter fun x => decide (x.num < 0xFFF0)

/-- The next session number: not reused within an epoch (R67). -/
def freshNumber (s : Hw) : Nat := if s.cmd.sessEpoch = s.cmd.epoch then s.cmd.nextSess else 1

/-- A number that no session holds, from `n` on. -/
def unusedFrom (s : Hw) : Nat → Nat → Nat
  | 0, n => n
  | k + 1, n => if s.cmd.sessions.any fun x => x.num == n then unusedFrom s k (n + 1) else n

def openChks : List Chk := [.any 97, .any 32, .rng 1 0 3, .rng 1 0 3, .res 1]

/-- The first request of an opening; the session is provisional. -/
def opSessionOpen1 : OpSpec :=
  { OpSpec.fix headSessionOpen1 openChks fun s c => needRandom s fun s =>
      let p := slice c.p 0 132
      let n := unusedFrom s 5 (freshNumber s)
      match keySlot s (u8 p 129) with
      | none => .refuse stAUTH 4 s
      | some k =>
        if (openSessions s).length ≥ 4 ∨ n > 0xFFEF then .refuse stBUSY 1 s
        else
          let (priv, s) := s.random
          let (r, s) := s.random
          let (q, s) := s.random
          let pub := publicKey (scalarOf priv.toNat)
          let nonce := toBE 32 (r.toNat % 2 ^ 256)
          let t := p ++ pub ++ nonce ++ toBE 2 n
          let z := ecdhShared (scalarOf priv.toNat) (slice p 0 97)
          let key := (sha384 (z ++ slice p 97 32 ++ nonce)).toNat
          let x : Session :=
            { num := n, level := min (u8 p 130) k.level, key := key, slot := u8 p 129, prov := some (t, s.dtime), reqLvl := u8 p 130,
              lastReq := s.dtime, port := c.rq.port, src := c.rq.src, vlan := c.rq.vlan }
          let s : Hw := { s with cmd := { s.cmd with
            sessions := s.cmd.sessions ++ [x], nextSess := n + 1, sessEpoch := s.cmd.epoch } }
          .ok s (toBE 2 n ++ zeros 2 ++ pub ++ nonce ++ deviceSign (sha384 (t ++ [1])) q) with
    check := fun _ p => if onCurve (slice p 0 97) then runChks openChks 1 0 p else some 1
    doms := fun _ _ => [18] }

/-- The host's signature opens the session at the lower of the level asked for and the slot's. -/
def opSessionOpen2 : OpSpec :=
  { OpSpec.fix headSessionOpen2 [.any 2, .res 2, .any 96] fun s c =>
      let n := u16 c.p 0
      match (openSessions s).find? fun x => x.num == n with
      | none => .refuse stAUTH 5 s
      | some x =>
        match x.prov with
        | none => .refuse stAUTH 5 s
        | some (t, since) =>
          if since + 5000000000 < s.dtime then .refuse stAUTH 5 s
          else match keySlot s x.slot with
          | none => .refuse stAUTH 4 s
          | some k =>
            if !ecdsaVerify k.key (sha384 (t ++ [2])) (slice c.p 4 96) then .refuse stAUTH 2 s
            else
              .ok (updSession s n fun x =>
                { x with prov := none, level := min x.reqLvl k.level, lastReq := s.dtime, port := c.rq.port, src := c.rq.src,
                         vlan := c.rq.vlan }) with
    doms := fun _ _ => [18] }

/-- The opened session that sends the request closes once the reply has left; an implicit session has nothing to close. -/
def opSessionClose : OpSpec :=
  OpSpec.fix headSessionClose [] fun s c =>
    .ok (if c.sess < 0xFFF0 then updSession s c.sess fun x => { x with closing := true } else s)

def opSessionStatus : OpSpec :=
  OpSpec.fix headSessionStatus [.any 2] fun s c =>
    match findSession s (u16 c.p 0) with
    | none => .refuse stAUTH 5 s
    | some x =>
      if x.prov.isSome then .refuse stAUTH 5 s
      else
        let idle := min ((s.dtime - x.lastReq) / 1000000) (2 ^ 32 - 1)
        .ok s (toBE 1 x.level ++ toBE 1 (if x.mark.isSome then 1 else 0) ++ zeros 2 ++ toBE 4 (x.mark.getD 0) ++ toBE 4 idle)

/-! ### Notices and the journal (R72, R81, R82) -/

def opNoticeFetch : OpSpec :=
  OpSpec.fix headNoticeFetch [] fun s c =>
    if c.rq.route = .twoWire then
      let l := s.cmd.notices.take 8
      .ok { s with cmd := { s.cmd with notices := s.cmd.notices.drop 8 } }
        (toBE 1 l.length ++ zeros 3 ++ l.flatMap replyHead)
    else .ok s (zeros 4)

def tierOf (s : Hw) (t : Nat) : List JEntry := if t = 0 then s.cmd.journal else s.nv.journal

/-- An entry's epoch and index in five bytes; zeros for an empty tier. -/
def fiveBytes (e : Option JEntry) : Bytes :=
  match e with
  | some e => toBE 1 e.epoch ++ toBE 4 e.index
  | none => zeros 5

/-- The count of pending entries stops at what its two bytes hold (DESIGN CHOICE: log entry 90). -/
def opJournalInfo : OpSpec :=
  OpSpec.fix headJournalInfo [] fun s _ =>
    let r := s.cmd.journal
    let n := s.nv.journal
    .ok s (toBE 1 s.cmd.epoch ++ fiveBytes r.head? ++ fiveBytes r.getLast? ++ fiveBytes n.head? ++ fiveBytes n.getLast? ++
      toBE 2 (min 65535 (r.filter fun e => e.status == stACCEPTED).length) ++ zeros 1 ++ toBE 4 (s.num EVR_PCC))

/-- How many epochs before the one to come an entry's lies: its epoch byte names it modulo 256, and no fewer epochs than power cycles
have gone by since (R77). -/
def epochAge (s : Hw) (e : JEntry) : Nat :=
  let d := (s.cmd.epoch + 1 + 256 - e.epoch % 256) % 256
  let k := s.num EVR_PCC - e.pcc
  if d < k then d + (k - d + 255) / 256 * 256 else d

/-- Where reading from an epoch and index begins in a tier: at the newest entry that the pair names, or else at the first that follows
its place among the last 256 epochs (R77, R82); and whether that place is older than the oldest entry held. -/
def startFrom (s : Hw) (epoch index : Nat) (tier : List JEntry) : List JEntry × Bool :=
  match lastWith (fun e => e.epoch == epoch && e.index == index) tier with
  | some x => (x :: afterLast (fun e => e.epoch == epoch && e.index == index) tier, false)
  | none =>
    let a := (s.cmd.epoch + 1 + 256 - epoch % 256) % 256
    let before := fun (e : JEntry) => decide (a < epochAge s e) || (epochAge s e == a && decide (e.index < index))
    (tier.filter fun e => !before e, match tier.head? with
      | some e => !before e
      | none => false)

/-- The index at which to continue is that of the first entry left out; with none left out the spec does not state it: one past the
newest entry of the tier, or, of an empty tier, the start (DESIGN CHOICE: log entry 106). -/
def opJournalRead : OpSpec :=
  { OpSpec.fix headJournalRead [.rng 1 0 1, .any 1, .any 4, .any 2, .rng 1 1 30] fun s c =>
      let tier := tierOf s (u8 c.p 0)
      let filt := u16 c.p 6
      let n := if c.rq.route = .inband then min 22 (u8 c.p 8) else u8 c.p 8
      let (fresh, early) := startFrom s (u8 c.p 1) (u32 c.p 2) tier
      let l := fresh.filter fun e => filt == 0xFFFF || e.session == filt
      let next := match (l.drop n).head?, tier.getLast? with
        | some e, _ => e.index
        | none, some e => (nextIndex e.epoch e.index).2
        | none, none => u32 c.p 2
      .ok s (toBE 1 (l.take n).length ++ toBE 1 (if early then 1 else 0) ++ zeros 2 ++ toBE 4 next ++ (l.take n).flatMap entryBytes) with
    doms := fun _ p => if u8 p 0 = 1 then [19] else [] }

/-- Returns once every complete RAM+NV entry has been committed. -/
def opJournalSync : OpSpec :=
  { OpSpec.fix headJournalSync [] fun s _ => if s.nv.items.isEmpty then .ok s else .wait .nvSync s with
    doms := fun s _ => if s.nv.items.isEmpty then [] else [19] }

/-! ### Resets and the in-band route (R36 to R39, R70) -/

def opMgmtReset : OpSpec := OpSpec.fix headMgmtReset [] fun s _ => .ok (askReset s 1)
def opWarmReset : OpSpec := OpSpec.fix headWarmReset [] fun s _ => .ok (askReset s 4)

def applyInband (p : Bytes) (s : Hw) : Hw :=
  let s := (s.setFld CMD_CFG_inband_en (bit (u8 p 0) 0)).setFld CMD_CFG_inband_etype (u16 p 1)
  { s with cmd := { s.cmd with mac := un p 3 6 } }

/-- What a stored INBAND_CONFIG restores at a start: the MAC address. The enable and the EtherType have the cold-start values of
Table 02-7, as R46 and R86 have it (DESIGN CHOICE between them and R562: log entry 8). -/
def restoreInband (p : Bytes) (s : Hw) : Hw := { s with cmd := { s.cmd with mac := un p 3 6 } }

def opInbandConfig : OpSpec :=
  { OpSpec.fix headInbandConfig [.rng 1 0 1, .any 2, .any 6] fun s c => .ok (applyInband c.p s) with
    check := fun _ p =>
      let t := u16 p 1
      if u8 p 0 > 1 then some 1
      else if t = 0x0800 ∨ t = 0x86DD ∨ t = 0x88F7 ∨ t < 0x0600 then some 2 else none
    objs := fun _ => [0] }

/-! ### Timers (R64, R67, R604) -/

def dropSession (s : Hw) (n : Nat) : Hw := { s with cmd := { s.cmd with sessions := s.cmd.sessions.filter fun x => x.num != n } }

/-- A nonce is 10 s old. -/
def nonceExpiry (n : Nat) (s : Hw) : Hw :=
  match findSession s n with
  | some x => if x.nonce.isSome && !nonceLive s x then updSession s n fun x => { x with nonce := none } else s
  | none => s

/-- A provisional session is 5 s old. -/
def provisionalTimeout (n : Nat) (s : Hw) : Hw :=
  match findSession s n with
  | some x => if x.prov.any fun t => decide (t.2 + 5000000000 ≤ s.dtime) then dropSession s n else s
  | none => s

/-- No request for 300 s. -/
def sessionIdle (n : Nat) (s : Hw) : Hw :=
  match findSession s n with
  | some x =>
    if n < 0xFFF0 ∧ x.prov.isNone ∧ x.lastReq + 300000000000 ≤ s.dtime then (dropSession s n).raise 0x0008 [n] else s
  | none => s

/-- Events that report a count for a second that has ended (R604). -/
def reportCounts (s : Hw) : Hw :=
  let past := s.evr.counts.filter fun e => decide (e.2.1 < s.second)
  let s := updEvr s fun x => { x with counts := x.counts.filter fun e => !decide (e.2.1 < s.second) }
  past.foldl Hw.raiseCount s

end Sys2Proof.Machine
end

