-- ==== Sys2Proof/Machine/Words.lean ====
section
/-!
DEFINITION. What commands do on the control fabric (R21, R26, R68, R69): READ_WORDS and WRITE_WORDS with the packets that Ehrik issues
for them, and single accesses by a source.
-/
namespace Sys2Proof.Machine
open Reg

/-! ### Accesses of one word -/

/-- A word is written through the fabric (REGISTER_WRITE); `during` are the bits the hardware sets within the handshake (R28). -/
def registerWrite (a v during : Nat) (s : Hw) : Hw := (issueWrite ehrik a during [v % 2 ^ 32] s).2

/-- Is `src` a source of Table 01-3 that may read: the JTAG test bridge is locked until SEC_DEBUG_UNLOCK succeeds (R576)? -/
def sourceOpen (s : Hw) (src : Nat) : Bool := decide (src < 4) || (src == 4 && s.evr.debug)

/-- A source reads a word (WORD_PAIR_LATCH_READ). -/
def pairLatchRead (src a : Nat) (s : Hw) : Hw := if sourceOpen s src then (issueRead src a 1 [] s).2 else s

/-! ### READ_WORDS and WRITE_WORDS (R68, R69) -/

def rangeStart (p : Bytes) : Nat := u32 p 0
def rangeCount (p : Bytes) : Nat := u16 p 4

/-- The parameter of an address range that fails: no such word, too long, across a unit. -/
def rangeBad (p : Bytes) : Option Nat :=
  let a := rangeStart p
  let n := rangeCount p
  if a ≥ 2 ^ 24 then some 1
  else if n < 1 ∨ 256 < n then some 2
  else if a / 2 ^ 12 ≠ (a + n - 1) / 2 ^ 12 then some 2
  else none

/-- The domain that a range stands in. -/
def rangeDoms : Hw → Bytes → List Nat := fun _ p => (addrDomain (rangeStart p)).toList

/-- The packets of a range, as first address and count: at most 64 words each (R18), and no 64-bit word divided between two
(DESIGN CHOICE: log entry 94). -/
def packetsOf : Nat → Nat → Nat → List (Nat × Nat)
  | 0, _, _ => []
  | fuel + 1, a, n =>
    let k := 64 - a % 2
    if n = 0 then [] else if n ≤ k then [(a, n)] else (a, k) :: packetsOf fuel (a + k) (n - k)

/-- Ehrik issues the reads of a range in ascending order; the tags. -/
def issueReads (ups : List (Nat × Nat)) (l : List (Nat × Nat)) (s : Hw) : List Nat × Hw :=
  l.foldl (fun (x : List Nat × Hw) q =>
    let (t, s) := issueRead ehrik q.1 q.2 ups x.2
    (x.1 ++ [t], s)) ([], s)

/-- Ehrik issues the writes of words from address `a` in ascending order; the tags. -/
def issueWrites (a : Nat) (vs : List Nat) (s : Hw) : List Nat × Hw :=
  (packetsOf 5 a vs.length).foldl (fun (x : List Nat × Hw) q =>
    let (t, s) := issueWrite ehrik q.1 0 ((vs.drop (q.1 - a)).take q.2) x.2
    (x.1 ++ [t], s)) ([], s)

/-- The reply to the packet with tag `t`, if it has come back. -/
def backOf (s : Hw) (t : Nat) : Option Packet := s.fab.back.find? fun p => p.tag == t

/-- The replies to some packets, once all have come back (R21). -/
def allBack (s : Hw) : List Nat → Option (List Packet)
  | [] => some []
  | t :: ts => match backOf s t, allBack s ts with
    | some p, some ps => some (p :: ps)
    | _, _ => none

/-- Ehrik has used the replies to some packets. -/
def usedBack (s : Hw) (tags : List Nat) : Hw :=
  { s with fab := { s.fab with back := s.fab.back.filter fun p => !tags.contains p.tag } }

/-- The first reply whose status is not done. -/
def firstBad (l : List Packet) : Option Packet := l.find? fun p => p.status != fsDone

/-- The command status and detail of a reply that is not done (R19). How Ehrik learns the word of a packet at which its status stands
the spec does not say (log entry 94). -/
def replyStatus (p : Packet) : Nat × Nat :=
  let off := (p.bad.getD p.addr) % 2 ^ 16
  if p.status = fsFenced then (stFENCED, (addrDomain p.addr).getD 0)
  else if p.status = fsUnimpl then (stRANGE, 1)
  else if p.status = fsUncorr then (stUNCORR, off)
  else (stUNINIT, off)

/-- How a READ_WORDS goes on: with its data words, or the status of the first reply that is not done; data with UNINIT_REGION only. -/
def readsDone (tags : List Nat) (s : Hw) : Res :=
  match allBack s tags with
  | none => .wait (.words tags) s
  | some l =>
    let b := l.flatMap fun p => p.data.flatMap fun w => toBE 4 w
    match firstBad l with
    | none => .ok (usedBack s tags) b
    | some p => .done (replyStatus p).1 (replyStatus p).2 (if (replyStatus p).1 = stUNINIT then b else []) (usedBack s tags)

def opReadWords : OpSpec :=
  { OpSpec.fix headReadWords [.any 4, .any 2] fun s c =>
      let a := rangeStart c.p
      let (tags, s) := issueReads (c.rq.upsets.map fun u => (a + u.1, u.2)) (packetsOf 5 a (rangeCount c.p)) s
      readsDone tags s with
    check := fun _ p => rangeBad p
    doms := rangeDoms
    levelOf := fun s rq => if rangeStart rq.params / 2 ^ 12 = 0x122 ∧ !s.flag GTH_CNT_CFG_obs then 1 else 0
    own := true }

/-- Does a range hold a word that only Maintainer may write? -/
def needsMaintainer (p : Bytes) : Bool :=
  (List.range (rangeCount p)).any fun i => match regFind (rangeStart p + i) with
    | some (d, _) => d.maint != 0
    | none => false

/-- How a WRITE_WORDS goes on once its writes are issued: all acknowledged, or the status of the first that is not done. -/
def writesDone (tags : List Nat) (s : Hw) : Res :=
  match allBack s tags with
  | none => .wait (.words tags) s
  | some l => match firstBad l with
    | none => .ok (usedBack s tags)
    | some p => .refuse (replyStatus p).1 (replyStatus p).2 (usedBack s tags)

/-- The data words of a WRITE_WORDS. -/
def dataWords (p : Bytes) : List Nat := (List.range (rangeCount p)).map fun i => u32 p (6 + 4 * i)

/-- The waking read has returned: the writes are issued. A domain that fails before one of the words leaves those before it written,
and no later word is issued (R26). -/
def writesGo (c : Call) (s : Hw) : Res :=
  let a := rangeStart c.p
  let vs := dataWords c.p
  match c.rq.upsets, addrDomain a with
  | (i, _) :: _, some d =>
    if i < vs.length then
      let (tags, s) := issueWrites a (vs.take i) s
      let (more, s) := issueWrites (a + i) ((vs.drop i).take 1) (domainFailure d 0 s)
      writesDone (tags ++ more) s
    else
      let (tags, s) := issueWrites a vs s
      writesDone tags s
  | _, _ =>
    let (tags, s) := issueWrites a vs s
    writesDone tags s

/-- How a WRITE_WORDS goes on after its waking read: no write is issued before the read has returned (R69) and the commands before
it have taken effect (R57). -/
def wakingDone (t : Nat) (c : Call) (s : Hw) : Res :=
  match backOf s t with
  | none => .wait (.wakingRead t) s
  | some p =>
    if p.status = fsFenced then .refuse (replyStatus p).1 (replyStatus p).2 (usedBack s [t])
    else if mustWait s c.idx then .wait (.wakingRead t) s
    else writesGo c (usedBack s [t])

/-- Which word of the unit the waking read reads the spec does not say: the first of the range (DESIGN CHOICE: log entry 94). The level of
the words is judged with the opcode's, at step 6 of R51, before the lengths and the range of the addresses (DESIGN CHOICE: log entry
104). -/
def opWriteWords : OpSpec :=
  { OpSpec.list headWriteWords [.any 4, .any 2] 2 4 2 1 256 4 fun s c =>
      let (t, s) := issueRead ehrik (rangeStart c.p) 1 [] s
      wakingDone t c s with
    check := fun _ p =>
      match rangeBad p with
      | some k => some k
      | none => if (List.range (rangeCount p)).all fun i => (regFind (rangeStart p + i)).isSome then none else some 1
    doms := rangeDoms
    levelOf := fun _ rq => if rangeCount rq.params ≤ 256 && needsMaintainer rq.params then 2 else 1
    own := true }

end Sys2Proof.Machine
end

