-- ==== Sys2Proof/Machine/Opcodes.lean ====
section
/-!
DEFINITION. The opcodes of the chapters' command tables, in one table.
-/
namespace Sys2Proof.Machine

/-- Part 0 of the opcode table. -/
def opTable0 : List OpSpec := [
  opEcho, opReadWords, opWriteWords, opGetInfo,
  opGetNonce, opSessionOpen1, opSessionOpen2, opSessionClose,
  opSessionStatus, opNoticeFetch, opJournalInfo, opJournalRead,
  opJournalSync, opMgmtReset, opWarmReset, opInbandConfig,
  opPwrPaceSet, opPwrOpSet, opPwrOpMove, opPwrFloorSet]

/-- Part 1 of the opcode table. -/
def opTable1 : List OpSpec := [
  opPwrSpeedCfg, opPwrSpeedRead, opPwrTimeRead, opLtxConfig,
  opLtxTapSet, opLtxLevelsSet, opLtxPdLoad, opLrxConfig,
  opLrxAdaptSet, opLrxEqSet, opLrxEqRead, opLrxMeasRead,
  opLrxHistRun, opLrxHistRead, opLrxGthSelect, opLrxStoreList,
  opLrxStoreSave, opLrxStoreErase, opLrxSeedLoad, opLfmConfig]

/-- Part 2 of the opcode table. -/
def opTable2 : List OpSpec := [
  opLfmStatusRead, opLfmCountRead, opLnkConfig, opLnkUp,
  opLnkDown, opLnkRestart, opLnkStatusRead, opLnkLaneRejoin,
  opLnkWakeConfig, opHslEqSet, opHslStatusRead, opHslConfig,
  opHpcPortSet, opHpcPortRead, opHpcCountRead, opHpcPtpConfig,
  opFlwInit, opFlwInsert, opFlwModify, opFlwDelete]

/-- Part 3 of the opcode table. -/
def opTable3 : List OpSpec := [
  opFlwLookup, opFlwRead, opFlwStatusRead, opTdsAdmit,
  opTdsWithdraw, opTdsConfig, opTdsDelaySet, opTdsBufConfig,
  opTdsStatusRead, opRdnConfig, opRdnLaneSet, opRdnRevert,
  opRdnStatusRead, opRdnFaultInject, opFesConfig, opFesStateSet,
  opFesStepSet, opFesTableLoad, opFesHookLoad, opFesSpiXfer]

/-- Part 4 of the opcode table. -/
def opTable4 : List OpSpec := [
  opFesTurn, opFesFaultClear, opFesStatusRead, opBrcConfig,
  opBrcStageConfig, opBrcCalSet, opBrcUnmute, opBrcQuietSend,
  opBrcCoexConfig, opBrcCoexReq, opBrcStatusRead, opCleLoopConfig,
  opCleCoefLoad, opCleModeSet, opCleSetpoint, opCleRepLoad,
  opCleRepRead, opCleRepReset, opCleLiaConfig, opCleTestStart]

/-- Part 5 of the opcode table. -/
def opTable5 : List OpSpec := [
  opCleTestStop, opCleStatusRead, opCleInit, opAouWrite,
  opAouRangeSet, opAouSafeSet, opAouDitherSet, opAouGenSet,
  opAouTableLoad, opAouStatusRead, opMcvConfig, opMcvSeqLoad,
  opMcvSeqStore, opMcvSeqRead, opMcvResultRead, opMcvPlausRun,
  opMcvUnquarantine, opMcvStatusRead, opGthConfig, opGthTrigConfig]

/-- Part 6 of the opcode table. -/
def opTable6 : List OpSpec := [
  opGthArm, opGthTrigger, opGthStop, opGthRead,
  opGthStatusRead, opGthPmcConfig, opGthPmcCtrl, opGthCountRead,
  opGthCounterOpen, opMemTableFill, opMemTableDeclare, opMemConfig,
  opMemStatusRead, opMemLogRead, opMemRepairRead, opPwrDomainRead,
  opPwrWake, opPwrSleep, opPwrFence, opPwrDomainReset]

/-- Part 7 of the opcode table. -/
def opTable7 : List OpSpec := [
  opPwrLehrRun, opPwrLehrRead, opPwrConfig, opSecIdRead,
  opSecCertRead, opSecAttest, opSecKeyEnroll, opSecKeyRevoke,
  opSecKeyRead, opSecFwWrite, opSecFwActivate, opSecFwCommit,
  opSecCosignSet, opSecDebugUnlock, opSecFwStatus, opSecConfig,
  opEvrInfo, opEvrRead, opEvrConfig, opEvrSnapSet]

/-- Part 8 of the opcode table. -/
def opTable8 : List OpSpec := [
  opEvrFlush, opEvrErase]

/-- Every opcode of the part. -/
def opTable : List OpSpec :=
  opTable0 ++ opTable1 ++ opTable2 ++ opTable3 ++ opTable4 ++ opTable5 ++ opTable6 ++ opTable7 ++ opTable8

/-- The opcode with a number; none for one that the part does not have. -/
def opOf (n : Nat) : Option OpSpec := opTable.find? fun o => o.opcode == n

end Sys2Proof.Machine
end

