-- ==== Sys2Proof/Machine/Reset.lean ====
section
/-!
DEFINITION. Resets and starts (R36 to R41, R83, R534 to R536, R550, R562, R571 to R574): what each kind of reset leaves, the cold
start with its adoption of stored objects and its self-test, the warm and the management reset, the watchdog, the end of a
trial, and the resets that CMIS asks for.
-/
namespace Sys2Proof.Machine
open Reg

/-! ### Configuration objects (R562, R605) -/

/-- The newest of some copies. -/
def newestCopy (l : List ObjCopy) : Option ObjCopy :=
  l.foldl (fun m c => match m with
    | none => some c
    | some x => if cmdNewer c.stamp x.stamp then some c else some x) none

/-- Is a copy whose CRC is good committed, judged against the NV tier? -/
def copyCommitted (j : List JEntry) (c : ObjCopy) : Bool :=
  match j.head?, j.getLast? with
  | some old, some new =>
    if cmdNewer c.stamp new.stamp then false
    else if cmdNewer old.stamp c.stamp then true
    else j.any fun e => e.crcOk && e.stamp == c.stamp
  | _, _ => false

/-- One object is judged: copies not committed are invalidated, the newer committed one is adopted, and event 0x1305 names a newer
copy that is not adopted. -/
def judgeObject (s : Hw) (n : Nat) : Hw :=
  let o := Map.get {} s.nv.objs n
  let good := fun (c : ObjCopy) => c.crcOk && copyCommitted s.nv.journal c
  let all := o.a.toList ++ o.b.toList
  let pick := newestCopy (all.filter good)
  let o' : CfgObj := { a := o.a.filter good, b := o.b.filter good, adopted := pick.map ObjCopy.body,
                       spoilt := o.spoilt || all.any fun c => !c.crcOk }
  let s : Hw := { s with nv := { s.nv with objs := Map.put {} s.nv.objs n o' } }
  match newestCopy all with
  | some c => if pick = some c then s else s.raise 0x1305 [n, c.epoch, c.index]
  | none => s

/-- An adopted object takes effect: the registers that its command sets hold the stored values. MCV_SEQ_STORE's is restored at
the power-up of D16. -/
def applyObject (n : Nat) (p : Bytes) (s : Hw) : Hw :=
  match n / 65536 with
  | 0x0030 => restoreInband p s
  | 0x010D => applySecConfig p s
  | 0x0208 => applyPwrConfig p s
  | 0x0501 => applyLfmConfig p s
  | 0x0601 => applyLnkConfig p s
  | 0x0607 => applyLnkWakeConfig p s
  | 0x0701 => applyHslEq (n % 65536) p s
  | 0x0703 => applyHslConfig p s
  | 0x0801 => applyPort p s
  | 0x0804 => applyHpcPtp p s
  | 0x0A03 => applyTdsConfig p s
  | 0x0A04 => applyTdsDelay p s
  | 0x0A05 => applyTdsBuf p s
  | 0x0B01 => applyRdnConfig p s
  | 0x0C03 => applyMemConfig p s
  | 0x0D01 => applyFesConfig p s
  | 0x0D05 => applyFesHook p s
  | 0x0E01 => applyBrcConfig p s
  | 0x0E02 => applyBrcStage p s
  | 0x0E03 => applyBrcCal p s
  | 0x0E06 => applyBrcCoex p s
  | 0x0F01 => applyCleLoop p s
  | 0x0F08 => applyCleLia p s
  | 0x1002 => applyAouRange p s
  | 0x1003 => applyAouSafe p s
  | 0x1101 => applyMcvConfig p s
  | 0x1303 => applyEvrConfig p s
  | 0x1304 => applyEvrSnap p s
  | _ => s

/-- Every object is judged, and what is adopted takes effect. -/
def adoptAll (s : Hw) : Hw :=
  s.each (s.nv.objs.map Prod.fst) fun n s =>
    let s := judgeObject s n
    match adoptedBody s n with
    | some p => applyObject n p s
    | none => s

/-! ### What a cold start and a warm reset clear (R36, R86) -/

/-- The part with every register and volatile memory at its cold-start value: non-volatile memory, the pins, what the monitors
measure and the source from which DTIME counts are left. -/
def wiped (s : Hw) : Hw :=
  let t : Hw := { phase := .held, nv := { s.nv with ring := s.nv.ring.map fun p => { p with told := false } },
                  pwr := { lpReq := s.pwr.lpReq }, freeN := s.freeN, out := s.out,
                  brc := { xreqPin := s.brc.xreqPin, xgntPin := s.brc.xgntPin } }
  t.each ([PWR_REF 0, PWR_REF 1, PWR_REF 2, PWR_DTIME_SRC] ++ (List.range 5).map PWR_SUPPLY) fun a t => t.setReg a (s.reg a)

/-- The journal goes on from the newest index of the NV tier, in the next epoch (R77). -/
def resumeJournal (s : Hw) : Hw :=
  let e := (s.nv.epoch + 1) % 256
  let i := match s.nv.journal.getLast? with
    | some e => e.index
    | none => 0
  { s with cmd := { s.cmd with epoch := e, index := i }, nv := { s.nv with epoch := e } }

/-- Keys that D14 held are lost; its next power-up says so (event 0x0905). -/
def tellKeysLost (held cause : Nat) (s : Hw) : Hw := s.cond (held != 0) fun s => s.raise 0x0905 [cause, held]

/-- A Lehr run cut short by a loss of power leaves a record without its marker (R543). -/
def lehrCut (s : Hw) : Hw :=
  match s.pwr.lehr with
  | none => s
  | some x =>
    if x.testing then
      storeLehr s { kind := x.kind, abort := 0, pcc := s.num EVR_PCC, start := x.started, done := s.optime, entries := [],
                    marker := false }
    else s

/-- The record of a Lehr run whose command has not ended goes with the command (R79). -/
def lehrBack (s : Hw) : Hw := updPwr (giveBack s.pwr.lehrUndo s) fun x => { x with lehrUndo := {} }

/-- Power goes: a commit in progress is abandoned; with `torn`, the oldest had written its objects and not its entry (R562). -/
def powerLost (torn : Bool) (s : Hw) : Hw :=
  let s := match s.nv.items with
    | i :: _ => s.cond torn fun s => writeObjs s i
    | [] => s
  lehrCut (abandonCommits (lehrBack s))

/-- MODRSTL has been low for 5 µs. -/
def modrstlLow (torn : Bool) (s : Hw) : Hw :=
  if s.phase = .held then s
  else
    let held := s.fld FLW_STATUS_keys
    let depart := s.pwr.depart
    tellKeysLost held 0 (updPwr (wiped (powerLost torn s)) fun x => { x with depart := depart })

/-- A supply has been out of its window for 10 µs: the device is reset; its extreme in mV and the time out of the window in µs are
kept in AON while VIO stays above 1.0 V. The first departure is the one recorded. -/
def supplyOut (k extreme us : Nat) (vio torn : Bool) (s : Hw) : Hw :=
  let first := s.pwr.depart
  let running := s.phase != .held
  let held := s.fld FLW_STATUS_keys
  let t := if running then wiped (powerLost torn s) else s
  let t := (t.setFld (PWR_SUPPLY_in_window k) 0).setFld (PWR_SUPPLY_voltage k) extreme
  let new := if vio then (if running then some (k, extreme, us) else first) else none
  let t := updPwr t fun x => { x with depart := new }
  if vio then tellKeysLost (if running then held else 0) 0 t else t

/-! ### The cold start (R534 to R536) -/

/-- Operating time of 30 days, in ms. -/
def monthMs : Nat := 2592000000

/-- Does a stored record pass under R542 and cover what its kind tests? -/
def recordPasses (r : LehrRec) : Bool :=
  let es := r.entries
  if r.kind = 0 then lehrRegions.all fun g => es.any fun e => e.region == g && entryPass 0 e
  else (lehrRegions.filter (· ≠ 19)).all fun g => es.any fun e => e.region == g && entryPass 2 e

/-- The reason of R535 for a full start; 0 for a quick one. -/
def startReason (s : Hw) : Nat :=
  match s.nv.ident.lehrMain.head? with
  | none => 1
  | some r =>
    if !r.marker || r.entries.any fun e => !e.marker then 2
    else if !recordPasses r then 3
    else if r.pcc + 1 ≠ s.num EVR_PCC then 4
    else if s.optime ≥ r.done + monthMs then 5
    else if !s.flag PWR_CFG_quick_en then 6
    else 0

/-- What reading the non-volatile array finds bad (Table 19-4), as kind and number: 0 a page of the event ring by sequence, 1 an
entry of the journal's NV tier by index, 2 copy a and 3 copy b of an object, 4 an equaliser set by its place, 5 both copies of an
object of the identity region, 6 an equaliser set by its place, of another format version, 7 a page of the event ring whose
CRC fails, 8 a sector of the firmware slots by its number in the array. -/
def nvFound (s : Hw) (b : Nat × Nat) : Hw :=
  let n := b.2
  match b.1 with
  | 0 => { s with nv := { s.nv with ring := s.nv.ring.map fun p => if p.seq = n then { p with bad := 2 } else p } }
  | 1 => { s with nv := { s.nv with journal := s.nv.journal.map fun e => if e.index = n then { e with crcOk := false } else e } }
  | 2 => { s with nv := { s.nv with objs := Map.upd {} s.nv.objs n fun o => { o with a := o.a.map fun c => { c with crcOk := false } } } }
  | 3 => { s with nv := { s.nv with objs := Map.upd {} s.nv.objs n fun o => { o with b := o.b.map fun c => { c with crcOk := false } } } }
  | 4 => setIdent s fun i => { i with eqSets := i.eqSets.mapIdx fun j e => if j = n then { e with crc := (e.check + 1) % 2 ^ 32 } else e }
  | 6 => setIdent s fun i => { i with eqSets := i.eqSets.mapIdx fun j e => if j = n then { e with version := 2, crc := { e with version := 2 }.check } else e }
  | 7 => { s with nv := { s.nv with ring := s.nv.ring.map fun p => if p.seq = n then { p with bad := 1 } else p } }
  | 8 => { s with nv := { s.nv with badSects := s.nv.badSects ++ [n % 8192] } }
  | 5 => (setIdent s fun i => { i with lehrMain := [] }).raise 0x0109 [0, n]
  | _ => s

/-- The start-up self-test (R536): a record of kind 2, its rows into the repair map, and a fence for every domain that fails. -/
def selfTest (found : List LehrRegion) (s : Hw) : Hw :=
  let mv := s.fld PWR_OP_STATUS_vcore_mv
  let x : LehrRun := { kind := 2, target := 0xFE, started := s.optime, vLow := mv, vHigh := mv, tLow := enc 16 s.pwr.tempLow,
                       tHigh := enc 16 s.pwr.tempHigh }
  let es := lehrRegions.map fun r =>
    if r = 19 then lehrEntry x 2 [] (fun _ => 2) r else lehrEntry x 2 found (fun _ => 2) r
  let s := storeLehr (enterRows (tellPlaus s found) found)
    { kind := 2, abort := 0, pcc := s.num EVR_PCC, start := s.optime, done := s.optime, entries := es }
  es.foldl (fun s e =>
    if e.result ≠ 1 then s
    else
      let steps := match found.find? (·.region == e.region) with
        | some f => f.failed
        | none => 0
      let s := s.raise 0x020B [if e.region = 20 then 0xFF else e.region, steps, e.bad]
      if e.region = 20 then s.setFld PWR_START_aon_fail 1 else setFence e.region 3 true s) s

/-- The power-cycle count goes up and sticks at its largest value, with event 0x1304 when it reaches it (R550). -/
def countCycle (s : Hw) : Hw :=
  let n := min (s.nv.pcc + 1) (2 ^ 32 - 1)
  let top := decide (n = 2 ^ 32 - 1 ∧ s.nv.pcc ≠ n)
  let s : Hw := { (s.setNum EVR_PCC n) with nv := { s.nv with pcc := n } }
  s.cond top fun s => s.raise 0x1304 [1]

/-- AON leaves reset: DTIME starts at 0 from the first accepted reference (R121), VCORE is set to 0.80 V, and the supplies are in
their windows at `mv`. -/
def aonStarts (mv : List Nat) (s : Hw) : Hw :=
  let s : Hw := { s with phase := .starting, dtime := 0, nv := { s.nv with starts := [] } }
  let s := (s.setFld PWR_DTIME_SRC_source (bestSource s)).emit (.avs 800)
  s.each (List.range 5) fun k s =>
    (s.setFld (PWR_SUPPLY_in_window k) 1).setFld (PWR_SUPPLY_voltage k) (mv.getD k (s.fld (PWR_SUPPLY_voltage k)))

/-- The power cycle is counted, and operating time goes on from what was stored (R550). -/
def countStart (s : Hw) : Hw :=
  updEvr (countCycle s) fun x => { x with optBase := s.nv.optime, optDtime := 0, lastCkpt := 0,
                                          optTop := decide (s.nv.optime = optimeMax) }

/-- A departure that AON has kept is told (event 0x0206). -/
def tellDeparture (s : Hw) : Hw :=
  let s := match s.pwr.depart with
    | some (k, e, us) => s.raise 0x0206 [k, e, min us 0xFFFFFFFF]
    | none => s
  updPwr s fun x => { x with depart := none }

/-- The start is quick or full (R535): with a bad identity object full, else by the stored record. -/
def chooseStart (bad : List (Nat × Nat)) (found : List LehrRegion) (s : Hw) : Hw :=
  let k := if bad.any fun b => b.1 == 5 then 1 else startReason s
  let s := (s.setFlag PWR_START_kind (k != 0)).setFld PWR_START_reason k
  s.cond (k != 0) (selfTest found)

/-- The cold start up to command-ready: AON starts, counts and configuration are restored, the boot verifier runs, D19 is
powered, and the start is quick or full. `bad` is what reading the non-volatile array found, `mv` the supplies in mV, `found`
what the self-test of a full start finds. -/
def coldStart (bad : List (Nat × Nat)) (mv : List Nat) (found : List LehrRegion) (s : Hw) : Hw :=
  if s.phase ≠ .held then s
  else
    let s := tellDeparture (countStart (bad.foldl nvFound (aonStarts mv s)))
    let (runs, s) := bootVerify (adoptAll (resumeJournal (repairDomain s 20)))
    chooseStart bad found ((s.setFlag SEC_FW_recovery (!runs)).wake 19 4)

/-- The domains that Table 18-1 marks awake after a start. -/
def awakeDomains (s : Hw) : List Nat :=
  let lanes := (List.range 8).filter fun n => s.flag (LNK_CFG_enable (laneGroup n))
  let quads := [0, 1, 2, 3].filter fun q => (List.range 8).any fun p => portEnabled s p && (quadsOf (portLanes s p)).contains q
  lanes ++ quads.map (8 + ·) ++ ([0, 1].filter fun g => s.flag (LNK_CFG_enable g)).map (12 + ·) ++ [14, 15, 16, 19]

/-- PWR wakes them; low power that CMIS asks for then comes into force (Table 20-14). -/
def wakeMarked (cause : Nat) (s : Hw) : Hw :=
  let s := s.each (awakeDomains s) fun d s => s.cond (s.domState d == 0) fun s => s.wake d cause
  s.cond s.pwr.lpReq lowPowerEnter

/-- Command-ready after a cold start: event 0x020A, with the time from t0, which is 2 ms before DTIME 0. -/
def commandReady (s : Hw) : Hw :=
  if s.phase ≠ .starting then s
  else
    let ms := min (s.dtime / 10 ^ 6 + 2) 65535
    let s := (s.setFld PWR_START_ms ms).raise 0x020A [s.fld PWR_START_kind, s.fld PWR_START_reason, ms]
    if s.flag SEC_FW_recovery then { s with phase := .recovery } else wakeMarked 4 { s with phase := .ready }

/-! ### The warm reset (R36, R37) -/

/-- The warm reset acts: commits that have started finish, and every register and volatile memory returns to its cold-start
value; VCORE is set to that of OP0, whose values the registers then hold (DESIGN CHOICE: log entry 91). -/
def warmBegin (s : Hw) : Hw :=
  let s := lehrBack s
  let s := if s.fenced 19 then abandonCommits s else s.nv.items.foldl commitItem { s with nv := { s.nv with items := [] } }
  let t : Hw := { wiped s with phase := .warmReset, dtime := s.dtime }
  let t := (updEvr t fun x => { x with optBase := s.optime, optDtime := s.dtime, lastCkpt := s.evr.lastCkpt,
                                                    optTop := s.evr.optTop }).setNum EVR_PCC s.nv.pcc
  let t := updPwr t fun x => { x with resetting := 4, refOkSince := s.pwr.refOkSince, toRecovery := s.pwr.toRecovery }
  let t := updPwr t fun x => { x with refBad := s.pwr.refBad, measAt := s.pwr.measAt }
  let t := t.cond (s.fld PWR_OP_STATUS_vcore_mv != 800) fun t => t.emit (.avs 800)
  tellKeysLost (s.fld FLW_STATUS_keys) 1 (adoptAll (resumeJournal t))

/-- The boot verifier's answer after a reset: an image runs, in the shut state if the part was in it, or the part is in recovery. -/
def afterBoot (runs : Bool) (s : Hw) : Hw :=
  let s := updPwr s fun x => { x with resetting := 0, toRecovery := false }
  { s with phase := if !runs then .recovery else if s.pwr.shut then .shut else .ready }

/-- Command-ready after a warm reset; the domains marked awake are woken. -/
def warmComplete (s : Hw) : Hw :=
  if s.phase ≠ .warmReset then s
  else
    let (runs, s) := if s.pwr.toRecovery then (false, s) else bootVerify s
    let s := afterBoot runs s
    s.cond runs (wakeMarked 7)

/-! ### The management reset (R36 to R38, R61) -/

/-- A domain reset in progress is abandoned (R39): the domain is left off, and what waits at its boundary wakes it as any access does
(DESIGN CHOICE: log entry 93). -/
def abandonDomainReset (d : Nat) (s : Hw) : Hw :=
  if s.domState d = 1 ∧ (s.dom d).cause = 6 then
    let s := s.setFld (PWR_DOM_state d) 0
    s.cond (!(s.dom d).packets.isEmpty || (s.dom d).queued != 0) fun s => s.access d
  else s

/-- Commands that a management reset finds running (R38): one that has finished keeps its status, one that has not ends TIMEOUT 0xFFFE,
and one without journal entry is gone. -/
def cutRunning (l : List RunCmd) : List RunCmd :=
  (l.filter fun r => r.index != 0).map fun r => { r with outcome := some (r.outcome.getD (stTIMEOUT, 0xFFFE, [])) }

/-- The management reset begins: event 0x0003 with its trigger, 0 command or 1 watchdog; the routes close. -/
def mgmtBegin (s : Hw) : Hw :=
  let s := s.each domains20 abandonDomainReset
  ({ s with phase := .mgmtReset, cmd := { s.cmd with running := cutRunning s.cmd.running } } : Hw).raise 0x0003
    [if s.pwr.resetting = 2 then 1 else 0]

/-- A command that was running is completed in the journal (R38): with its final status, or TIMEOUT 0xFFFE. The notice that a
command of an implicit session asked for is queued. -/
def recoverCmd (s : Hw) (r : RunCmd) : Hw :=
  let (st, det, _) := r.outcome.getD (stTIMEOUT, 0xFFFE, [])
  let undo : Undo := if r.opcode = 0x0206 then s.pwr.lehrUndo else {}
  let s := closeEntry (updPwr s fun x => { x with lehrUndo := if r.opcode = 0x0206 then {} else x.lehrUndo }) r.index st det true
  let s := match opOf r.opcode with
    | some op => record s op (coreParams r.req) r.index st det undo
    | none => s
  s.cond (hasBit r.req.flags 0 && decide (r.session ≥ 0xFFF0)) fun s =>
    notify s r.req.route r.session ⟨r.opcode, r.req.seq, st, 0, det, r.index, []⟩

/-- An implicit session as the reset leaves it: the high mark of its newest entry in the RAM tier (R61). -/
def implicitSession (s : Hw) (n : Nat) : Session :=
  { num := n, level := 1, mark := (lastWith (fun e => e.session == n) s.cmd.journal).map JEntry.seq, lastReq := s.dtime }

/-- CMD's units and Ehrik return to their cold-start values; the journal's RAM tier and the numbering stay. Packets that Ehrik has not
issued yet, and replies that it has not used, go with it. -/
def coldCmd (s : Hw) : Hw :=
  let c := s.cmd
  let s : Hw := { s with fab := { s.fab with held := s.fab.held.filter fun p => p.source != ehrik
                                             back := [], tags := Map.put 0 s.fab.tags ehrik 0 } }
  let s : Hw := { s with cmd :=
    { sessions := [implicitSession s 0xFFF1, implicitSession s 0xFFF2], nextId := c.nextId, nextSess := c.nextSess,
      sessEpoch := c.sessEpoch, epoch := c.epoch, index := c.index, journal := c.journal, fires := c.fires, turnedAt := c.turnedAt } }
  let s := s.coldRegs [CMD_INT_STATUS, CMD_CFG, CMD_INT_MASK]
  match adoptedBody s 0x00300000 with
  | some p => restoreInband p s
  | none => s

/-- The two-wire bus has been held low for 25 ms: the port releases it and clocks it free; event 0x0006 with the time in µs, which a
management reset keeps back until command-ready (R592, R599). -/
def busRelease (us : Nat) (s : Hw) : Hw :=
  if s.phase = .held ∨ us < 25000 then s
  else
    let s := s.emit .busFree
    if s.phase = .mgmtReset then updPwr s fun x => { x with busFreed := some us } else s.raise 0x0006 [us]

/-- A release of the bus that a management reset kept back is told (R599). -/
def tellBus (s : Hw) : Hw :=
  match s.pwr.busFreed with
  | some us => updPwr (s.raise 0x0006 [us]) fun x => { x with busFreed := none }
  | none => s

/-- Command-ready after a management reset. Where it starts an image from recovery, the domains marked awake are woken. -/
def mgmtComplete (s : Hw) : Hw :=
  if s.phase ≠ .mgmtReset then s
  else
    let run := s.cmd.running.filter fun r => r.index != 0
    let bite := s.pwr.resetting == 2
    let s := run.foldl recoverCmd (coldCmd s)
    let s := s.setFlag CMD_INT_STATUS_watchdog bite
    let wasRecovery := s.flag SEC_FW_recovery
    let (runs, s) := if s.pwr.toRecovery then (false, s) else bootVerify s
    let s := tellBus (afterBoot runs s)
    if runs then s.cond wasRecovery (wakeMarked 4)
    else
      let s := updPwr s fun x => { x with sleep := none, lehr := none }
      s.each (domains20.filter fun d => d ≠ 18 && d ≠ 19) switchOff

/-- The Ehrik watchdog fires (R41): event 0x0002 with the firings of the last 10 s, and a management reset; the third firing within 10 s
ends a trial, or starts the other slot, and of those after it the third again (DESIGN CHOICE: log entry 107). A warm reset that is asked for or in progress, and a start, go on: they are wider (R39). -/
def watchdog (s : Hw) : Hw :=
  if s.phase = .held then s
  else
    let fires := (s.cmd.fires.filter fun t => decide (s.dtime < t + 10 ^ 10)) ++ [s.dtime]
    let n := fires.length
    let since := (fires.filter fun t => s.cmd.turnedAt.all fun u => decide (u < t)).length
    let s := s.raise 0x0002 [s.nv.ident.active, n]
    let s : Hw := { s with cmd := { s.cmd with fires := fires, turnedAt := if since ≥ 3 then some s.dtime else s.cmd.turnedAt } }
    let (ok, s) :=
      if since < 3 then (true, s)
      else if s.nv.ident.trial then revertTrial s 1
      else (true, setIdent s fun i => { i with active := otherSlot i.active, fallback := none })
    let s := updPwr s fun x => { x with toRecovery := x.toRecovery || !ok }
    if s.pwr.resetting = 4 ∨ s.phase = .starting then s
    else mgmtBegin (updPwr s fun x => { x with resetting := 2 })

/-- The trial has run out (R573); a command that executes completes first (Table 19-8). -/
def trialTimeout (s : Hw) : Hw :=
  if (s.phase ≠ .ready ∧ s.phase ≠ .shut) ∨ !s.nv.ident.trial ∨ trialLeft s ≠ 0 ∨ (s.cmd.running.any fun r => r.index != 0) then s
  else
    let (ok, s) := revertTrial s 0
    let s := updPwr s fun x => { x with toRecovery := x.toRecovery || !ok }
    if s.pwr.resetting = 4 then s
    else mgmtBegin (updPwr s fun x => { x with resetting := 3 })

/-- Does the reply of the command that asked for a reset still wait to be read on MSPI?  It is waited for no longer than the
2 ms of the command's row (R54, R70). -/
def replyWaits (s : Hw) : Bool :=
  decide (s.dtime < s.pwr.resetAt + 2000000) && s.cmd.mspiQ.any fun r =>
    r.opcode == 0x0020 || r.opcode == 0x0021 || r.opcode == 0x0108

/-- A reset that a command has asked for begins once its reply has left (R70). -/
def settleReset (s : Hw) : Hw :=
  if s.pwr.resetting = 0 ∨ !s.takesCommands ∨ replyWaits s then s
  else if s.pwr.resetting = 4 then warmBegin s
  else mgmtBegin s

/-! ### CMIS and the two-wire port (R83, R592) -/

/-- A CMIS software reset: ignored with event 0x0005, or a warm reset. -/
def cmisReset (s : Hw) : Hw :=
  if !s.takesCommands then s
  else if s.flag CMD_CFG_cmis_swreset then askReset s 4
  else s.raise 0x0005

/-- CMIS data path deinitialisation holds a group in P0; its end lets an enabled group leave it again. -/
def cmisDeinit (g : Nat) (on : Bool) (s : Hw) : Hw :=
  if !s.takesCommands then s
  else
    let s := s.updGrp g fun x => { x with deinit := on }
    if on then toP0 s g else enterIfEnabled s g

end Sys2Proof.Machine
end

