-- ==== Sys2Proof/Machine/Scrub.lean ====
section
/-!
DEFINITION. The scrubber (R515 to R517): a visit to a word with what it finds, the consequences of an uncorrectable word in each
memory (Table 17-2, R293), and the end of a lap.
-/
namespace Sys2Proof.Machine
open Reg

/-- The domain that a memory's word stands in; none for AON's. -/
def memDomain (m : Nat) : Option Nat :=
  if m ≤ 2 then some 14 else if m = 3 then some 17 else if m ≤ 6 then none else if m = 7 then some 16
  else if m ≤ 11 then some 15 else none

/-- The domain of the word visited: a coverage map stands in that of its table (Table 17-1). -/
def wordDomain (w : ScrubWord) : Option Nat := if w.mem = 13 then some (tableDomain (w.item.headD 0)) else memDomain w.mem

/-- A key slot or stash entry is lost: lookup and insertion take it as empty (R293). -/
def keyLost (k : Nat) (valid : Bool) (s : Hw) : Hw :=
  let s : Hw := { s with flw := { s.flw with cache := s.flw.cache.filter fun e => e.2 != k, stash := s.flw.stash.filter (· != k) } }
  let s := (setStashRegs s).cond valid fun s => countKeys s false
  s.raise 0x0901 (if k < slotCount then [0, k / 4, k % 4] else [1, k - slotCount, 0])

/-- A context is quarantined (R293). -/
def contextLost (i : Nat) (s : Hw) : Hw :=
  let c := s.ctx i
  let s := setPoison (s.setCtx i (3 * 2 ^ 126)) (poisonKey 1 i) false
  s.raise 0x0902 [i, if admHeld s i then 1 else 0, cxPath c]

/-- Does a frame of `n` cells from place `k` on have one in a bank? -/
def inBank (bank k n : Nat) : Bool := (List.range n).any fun j => placeBank (k + j) == bank

/-- A word of the cell buffer is lost, and its frame with it (Table 17-2): the frame has a cell in the word's bank (R336). -/
def cellLost (bank : Nat) (item : List Nat) (s : Hw) : Hw :=
  match item with
  | [0, i, q] =>
    match (s.asm i).cells.find? fun c => c.seq == q && placeBank c.place == bank with
    | some c => (dropFrame s i (mates (s.asm i).cells c)).count RDN_FRAME_LOST
    | none => s
  | [1, g, n] =>
    match (s.grp g).be[n]? with
    | some f =>
      if inBank bank f.place (cellsOf f.bytes.length) then (s.updGrp g fun x => { x with be := x.be.eraseIdx n }).count TDS_BE_DROP else s
    | none => s
  | [2, p, n] =>
    match (s.port p).q[n]? with
    | some f =>
      if f.timed || f.grp == 2 || !inBank bank f.place (cellsOf f.bytes.length) then s
      else (updPort s p fun x => { x with q := x.q.eraseIdx n }).count TDS_BE_DROP
    | none => s
  | [3, n] =>
    match s.tds.store[n]? with
    | some f =>
      if f.places.any fun k => placeBank k == bank then
        ({ s with tds := { s.tds with store := s.tds.store.eraseIdx n } } : Hw).count RDN_FRAME_LOST
      else s
    | none => s
  | [4, g, n] =>
    match (s.grp g).tq[n]? with
    | some c =>
      (s.updGrp g fun x => { x with tq := x.tq.filter fun y => !(y.flow == c.flow && y.frame == c.frame) }).count RDN_FRAME_LOST
    | none => s
  | _ => s

/-- The consequence of an uncorrectable word of a memory that is not mapped. -/
def wordLost (w : ScrubWord) (s : Hw) : Hw :=
  let a := w.item.headD 0
  if w.mem = 1 then contextLost a s
  else if w.mem = 2 then cellLost w.bank w.item s
  else if w.mem = 3 then
    let spoil := fun (l : List GBlock) => l.mapIdx fun j b => if j = w.item.getD 1 0 then { b with kind := 255 } else b
    updGth s fun x => { x with segs := Map.upd [] x.segs a spoil }
  else if w.mem = 4 then
    { s with cmd := { s.cmd with journal := s.cmd.journal.map fun e => if e.index = a then { e with crcOk := false } else e } }
  else if w.mem = 5 then updEvr s fun x => { x with staged := x.staged.eraseIdx a }
  else if w.mem = 6 then watchdog s
  else s

/-- The scrubber's update of pol_aged at an admitted context (R285). -/
def agePolicer (i : Nat) (s : Hw) : Hw :=
  let c := s.ctx i
  let e := (s.dtime / 512 % 2 ^ 19 + 2 ^ 19 - cxPolStamp c) % 2 ^ 19
  if cxState c = 2 ∧ cxMinIv c ≤ e ∧ !cxPolAged c then s.setCtx i (c + 1) else s

/-- The key under which a word that is not mapped is poisoned. -/
def wordKey (w : ScrubWord) : Nat := if w.mem ≤ 1 then poisonKey w.mem (w.item.headD 0) else poisonKey w.mem (w.bank * 2 ^ 24 + w.off)

/-- The end of a block of 256 words is counted (event number 0x081, Table 16-6). -/
def blockVisited (w : ScrubWord) (s : Hw) : Hw := s.cond (w.off % 256 == 255) fun s => s.pmc 0x081

/-- Is the table in its region's lap? One that is declared during a lap joins at the start of the next (R517). -/
def lapHolds (s : Hw) (t : Nat) : Bool := Map.get false s.mem.joined t

/-- The tables of a scrub region (Table 17-4). -/
def regionTables (r : Nat) : List Nat := if r = 0 then [0, 1] else if r = 4 then (List.range 65).map (2 + ·) else []

/-- The scrubber visits a word. It skips a table that is not declared, and a memory without power. -/
def scrubVisit (w : ScrubWord) (s : Hw) : Hw :=
  let awake := match wordDomain w with
    | some d => s.ready d
    | none => s.phase != .held
  if !awake then s
  else if 7 ≤ w.mem ∧ w.mem ≤ 12 then
    let a := w.item.headD 0
    match tableOf a with
    | some t =>
      if s.declared t ∧ lapHolds s t ∧ tableMem t = w.mem then
        let s := blockVisited w s
        if w.kind ≠ 0 then mappedError s a w.synd (w.kind == 2) else s
      else s
    | none => s
  else if w.mem ≤ 1 ∧ !(s.declared w.mem && lapHolds s w.mem) then s
  else
    let s := blockVisited w s
    let k := w.item.headD 0
    let valid := slotValid s k
    let s := s.cond (w.mem == 1 && w.kind != 2) (agePolicer k)
    if w.kind = 1 then memCorrected s w.mem w.bank w.off w.row w.synd
    else if w.kind = 2 then
      let s := memUncorrectable s w.mem w.bank w.off w.row w.synd (wordKey w)
      if w.mem = 0 then keyLost k valid s else wordLost w s
    else s

/-- A lap of a region ends; its length runs from the end of the last, or from the power-up of its domain. One that the domain's sleep or
reset broke off reports none (R516, R517). -/
def scrubLap (r : Nat) (s : Hw) : Hw :=
  let awake := if r ≤ 1 then s.ready 14 else if r = 2 then s.ready 17 else if r = 4 then s.ready 15 || s.ready 16
    else s.phase != .held
  if !awake || decide (r > 4) || Map.get false s.mem.broken r then s
  else
    let us := min ((s.dtime - Map.get 0 s.mem.lapAt r) / 1000) (2 ^ 32 - 1)
    let s : Hw := { (s.setNum (MEM_LAP r) us) with mem := { s.mem with lapAt := Map.put 0 s.mem.lapAt r s.dtime } }
    let s := s.each (regionTables r) fun t s =>
      { s with mem := { s.mem with joined := Map.put false s.mem.joined t (s.declared t) } }
    s.cond (decide (us > s.fld (MEM_LAP_THR_ms r) * 1000)) fun s => s.raise 0x0C03 [r, us]

end Sys2Proof.Machine
end

