-- ==== Sys2Proof/Machine/Transport.lean ====
section
/-!
DEFINITION. The command routes as they meet the wire (R43 to R46), and how an accepted command goes on and ends: ACCEPTED after
5 ms, execution once its domains are ready, its final status, and TIMEOUT (R54, R55, R71).
-/
namespace Sys2Proof.Machine
open Reg

/-! ### Packets -/

/-- The opcode and request of a packet: the 16 header bytes of Table 02-2, then the parameter block. -/
def parsePacket (route : Route) (head params : Bytes) : Nat × Request :=
  (u16 head 0, { route := route, length := u16 head 2, seq := u32 head 4, level := u8 head 8, flags := u8 head 9,
                 session := u16 head 10, resv := u32 head 12, params := params })

/-! ### Service of a request -/

/-- The state in which the named domains would be ready, had they been woken. -/
def asIfReady (ds : List Nat) (s : Hw) : Hw :=
  s.each ds fun d s =>
    if s.ready d then s
    else if s.domState d ≤ 1 then domainReady d ((s.setFld (PWR_DOM_state d) 1).setDom d { s.dom d with cause := 0 })
    else s.setFld (PWR_DOM_state d) 2

/-- The status that execution would have, without effect (R52): every check of acceptance and of the body, the body judged on the
state with its domains awake. A body that would wait for its end is foreseen (log entry 71). -/
def dryRun (s : Hw) (op : OpSpec) (rq : Request) : Nat × Nat :=
  match refusal s op (coreParams rq) with
  | some r => r
  | none =>
    match barred s op with
    | some r => r
    | none =>
      let ds := op.doms s (coreParams rq)
      match ds.find? s.fenced with
      | some d => (stFENCED, d)
      | none =>
        match op.body (asIfReady ds s) ⟨rq, coreParams rq, sessionOf rq, 0⟩ with
        | .done st det pl _ => if tooLong rq pl then (stBAD_LENGTH, 1456) else (st, det)
        | .wait _ s' => op.foresee s' (coreParams rq)

/-- A request whose sequence number is not newer (R59). Its SEQUENCE reply is kept as every reply is. -/
def replay (s : Hw) (opc : Nat) (rq : Request) (x : Session) : Hw :=
  let d := digestOf rq.params
  match x.replies.find? fun r => r.seq == rq.seq && r.opcode == opc && r.digest == d with
  | some r => deliver s rq { r.reply with flags := setBit r.reply.flags 2 true }
  | none =>
    match s.cmd.journal.find? fun e => e.session == x.num && e.seq == rq.seq && e.opcode == opc && e.digest == d with
    | some e => deliver s rq ⟨opc, rq.seq, e.status, 0x0C, e.detail, e.index, []⟩
    | none => answer s opc rq stSEQUENCE (x.mark.getD 0 % 65536)

/-- Steps 5 to 9 of R51 and execution, once the sequence number has passed. -/
def proceed (s : Hw) (opc : Nat) (op : Option OpSpec) (rq : Request) : Hw :=
  match op with
  | none => answer (useNonce s rq) opc rq stBAD_OPCODE 0
  | some o =>
    match opCheck s o rq with
    | some (st, det) => answer (useNonce s rq) opc rq st det
    | none =>
      let s := useNonce s rq
      if hasBit rq.flags 1 then
        let (st, det) := dryRun s o rq
        answer s opc rq st det
      else match refusal s o (coreParams rq) with
        | some (st, det) =>
          let s := s.cond (st == stBUSY && det == 4) fun s => s.countSec 0x0007 0
          answer s opc rq st det
        | none => execute s o rq

/-- A block that reached the two-wire port in the local payload and does not match the header (R44). -/
def cdbMismatch (rq : Request) : Bool :=
  rq.route == .twoWire && decide (rq.length ≤ 104) && rq.length != rq.params.length

/-- One request, from its arrival on a route to its reply or its acceptance. A journaled opcode with sequence number 0 completes
SEQUENCE and leaves the high mark (R60). Where BUSY 0x0001 stands among the checks of R51 the spec does not say: before step 1, and it
neither raises the high mark nor is kept (DESIGN CHOICE: log entry 101). A reply to a request that fails step 1, 2 or 3 is not kept
among the last 16 of the session it names (DESIGN CHOICE: log entry 102). From step 4 on the first Maintainer request uses the
session's nonce up, whatever becomes of it (R64). -/
def serve (opc : Nat) (op : Option OpSpec) (rq : Request) (s : Hw) : Hw :=
  if !s.takesCommands then s
  else if rq.route == .inband && (!s.flag CMD_CFG_inband_en || s.phase != .ready && s.phase != .shut) then
    { s with cmd := { s.cmd with dropped := s.cmd.dropped + 1 } }
  else if cdbMismatch rq then s.emit .cdbFail
  else if outstanding s rq ≥ routeLimit rq.route then answer s opc rq stBUSY 1 [] 0 false
  else match headCheck s opc rq with
  | some (st, det) => answer s opc rq st det [] 0 false
  | none =>
    let s := updSession s (sessionOf rq) fun x =>
      { x with lastReq := s.dtime, port := rq.port, src := rq.src, vlan := rq.vlan }
    match findSession s (sessionOf rq) with
    | none => if rq.seq = 0 ∧ !seqFree op rq then answer s opc rq stSEQUENCE 0 else proceed s opc op rq
    | some x =>
      if seqFree op rq then proceed s opc op rq
      else if rq.seq ≠ 0 ∧ newer x.mark rq.seq then
        proceed (updSession s x.num fun x => { x with mark := some rq.seq }) opc op rq
      else if rq.seq = 0 then answer (useNonce s rq) opc rq stSEQUENCE (x.mark.getD 0 % 65536)
      else replay (useNonce s rq) opc rq x

def serveRequest (x : Nat × Request) (s : Hw) : Hw := serve x.1 (opOf x.1) x.2 s

/-! ### The routes -/

/-- A CDB message (R43, R44): its command code, whether its check code is good, local and extended payload. A block of at most 104
bytes is in the local payload, a longer one is the extended payload. -/
def cdbRequest (code : Nat) (good : Bool) (lpl epl : Bytes) (s : Hw) : Hw :=
  if code ≠ 0xB800 ∨ !s.takesCommands then s
  else
    let n := u16 lpl 2
    let want := if n ≤ 104 then 16 + n else 16
    if !good || decide (lpl.length < 16) || decide (lpl.length ≠ want) then s.emit .cdbFail
    else serveRequest (parsePacket .twoWire (lpl.take 16) (if n ≤ 104 then lpl.drop 16 else epl)) s

/-- An MSPI write frame with what follows 0x5A (R45); one too short to hold a header is discarded. -/
def mspiWrite (packet : Bytes) (s : Hw) : Hw :=
  if !s.takesCommands ∨ packet.length < 16 then s
  else serveRequest (parsePacket .mspi (packet.take 16) (packet.drop 16)) s

/-- An MSPI read frame (R45). -/
def mspiRead (s : Hw) : Hw :=
  if !s.takesCommands then s.emit (.mspi [2])
  else match s.cmd.mspiQ with
    | [] => s.emit (.mspi [0])
    | r :: t => ({ s with cmd := { s.cmd with mspiQ := t } } : Hw).emit (.mspi (1 :: replyBytes r))

/-- A frame to CMD (R46): the request packet and the session's tag, without a tag where it opens a session (R65). In a frame longer
than the least the block is what lies between; in one of 64 bytes, which may be padded, as many of those bytes as its length field
counts. -/
def inbandPacket (p : Nat) (b : Bytes) (s : Hw) : Hw :=
  let body := (b.take (b.length - 4)).drop (frameBody b)
  let opens := u16 body 10 == 0 && (u16 body 0 == 0x0008 || u16 body 0 == 0x0009)
  let t := if opens then 0 else 16
  let room := body.length - 16 - t
  let k := if b.length ≤ 64 ∧ u16 body 2 ≤ room then u16 body 2 else room
  let (opc, rq) := parsePacket .inband (slice body 0 16) ((body.drop 16).take k)
  serveRequest (opc, { rq with tag := un body (16 + k) t, port := p, src := un b 6 6,
                               vlan := if frameTagged b then some (u16 b 14) else none }) s

/-- A frame for CMD arrives on a host port that can receive it. -/
def inbandRequest (p : Nat) (b : Bytes) (s : Hw) : Hw :=
  let up := portEnabled s p && ((portLanes s p).all fun l => s.ready (8 + l / 4)) && s.flag (HPC_PORT_STATUS_aligned p) &&
    !portHeld s p
  if !up || frameDst b != s.mac || frameType b != s.fld CMD_CFG_inband_etype then s
  else
    let (keep, s) := keepFrame s p b
    if keep then inbandPacket p b s else s

/-- HOST_FRAME_RECEIVED. -/
def hostFrameIn (p frac corr uncorr : Nat) (marked : Bool) (res : Nat) (b : Bytes) (s : Hw) : Hw :=
  hostFrame inbandPacket p frac corr uncorr marked res b s

/-! ### The end of an accepted command -/

def setWait (s : Hw) (id : Nat) (w : Wait) : Hw :=
  { s with cmd := { s.cmd with running := s.cmd.running.map fun r => if r.id = id then { r with wait := w } else r } }

/-- What an execution that had to wait has come to: the command ends, or waits on. -/
def settleRes (s : Hw) (op : OpSpec) (r : RunCmd) : Res → Hw
  | .done st det pl s' =>
    if tooLong r.req pl then retire s op r stBAD_LENGTH 1456 [] else retire s' op r st det pl (undoOf s s')
  | .wait w s' => setWait s' r.id w

/-- The time within which a full slot is verified, 60 ms (R571). -/
def verifyTime : Nat := 60000000

/-- Can a running command go on: are its domains ready or fenced, its replies back, and has its turn come (R22, R57)? -/
def goesOn (s : Hw) (r : RunCmd) : Bool :=
  r.outcome.isNone && match r.wait with
    | .domains ds => (ds.all s.ready || ds.any s.fenced) && !mustWait s r.index
    | .wakingRead t => (backOf s t).isSome && ((backOf s t).any (fun p => p.status == fsFenced) || !mustWait s r.index)
    | .words ts => (allBack s ts).isSome
    | .verify t => decide (t + verifyTime ≤ s.dtime)
    | _ => false

/-- It goes on. -/
def resumeCmd (s : Hw) (r : RunCmd) : Hw :=
  match opOf r.opcode with
  | none => s
  | some op =>
    let c : Call := ⟨r.req, coreParams r.req, r.session, r.index⟩
    settleRes s op r (match r.wait with
      | .wakingRead t => wakingDone t c s
      | .words ts => if op.journal = 0 then readsDone ts s else writesDone ts s
      | .verify _ => activateDone s
      | _ => runBody s op c)

/-- Every command that can go on does, oldest first, until none can. -/
def advanceCmds : Nat → Hw → Hw
  | 0, s => s
  | fuel + 1, s =>
    match s.cmd.running.find? (goesOn s) with
    | none => s
    | some r => advanceCmds fuel (resumeCmd s r)

/-- Ehrik drops the replies that no command waits for. -/
def settleFabric (s : Hw) : Hw :=
  let want := s.cmd.running.flatMap tagsOf
  { s with fab := { s.fab with back := s.fab.back.filter fun p => want.contains p.tag } }

def settleCommands (s : Hw) : Hw := settleFabric (advanceCmds (2 * s.cmd.running.length + 1) s)

/-- Ehrik's packets with some tags that wait at boundaries or are held are withdrawn. The spec does not say whether a packet of a command
that ends TIMEOUT, already waiting at a boundary, is still delivered (DESIGN CHOICE: log entry 103). -/
def withdraw (ts : List Nat) (s : Hw) : Hw :=
  let keep := fun (p : Packet) => !(p.source == ehrik && ts.contains p.tag)
  let s := s.each domains20 fun d s => s.setDom d { s.dom d with packets := (s.dom d).packets.filter keep }
  { s with fab := { s.fab with held := s.fab.held.filter keep } }

/-- A sleep in progress is given up: the domains that prepare or have stopped resume. -/
def sleepBack (s : Hw) : Hw :=
  match s.pwr.sleep with
  | some z =>
    let s := s.each (z.stopped ++ z.toAsk.filter fun d => s.domState d == 3) fun d s =>
      deliverQueued d (s.setFld (PWR_DOM_state d) 2)
    updPwr s fun x => { x with sleep := none }
  | none => s

/-- A Lehr run that ends TIMEOUT is taken back: its sleep, the domains that it switched off, the FES targets and the groups that it put
in P0 (R54). -/
def lehrTakeBack (s : Hw) : Hw :=
  match s.pwr.lehr with
  | some x =>
    let s := lehrLeave ((sleepBack s).setFld PWR_LEHR_state 0) x
    let s := s.each (x.awake.filter fun d => s.domState d == 0) fun d s => s.wake d 1
    if x.target = 0xFE then
      let s := s.each units12 fun u s => s.cond (s.fld (FES_STATE_target u) != x.targets.getD u 0) fun s =>
        setTargets s (2 ^ u) (x.targets.getD u 0)
      s.each [0, 1] fun g s => enterIfEnabled s g
    else s
  | none => s

/-- A histogram run that ends TIMEOUT is taken back: the counts that it cleared stand again (R54). -/
def histBack (n : Nat) (s : Hw) : Hw :=
  let old := (s.lane n).histOld
  let s := s.each (List.range 256) fun b s => s.setNum (LRX_HIST n b) (old.getD b 0)
  (s.setFld (LRX_STATUS_hist_busy n) 0).updLane n fun l => { l with hist := none, histOld := [] }

/-- Does something else than the command `r` still ask for domain `d` to be awake: a packet at its boundary, or another command? -/
def stillAsked (r : RunCmd) (d : Nat) (s : Hw) : Bool :=
  !(s.dom d).packets.isEmpty || s.cmd.running.any fun q =>
    q.id != r.id && q.outcome.isNone && match q.wait with
      | .domains ds => ds.contains d
      | .wake m _ _ => hasBit m d
      | _ => false

/-- What a command that ends TIMEOUT had done is taken back (R54). A domain that a wake began to wake stays awake for whatever else waits
for it (R22). -/
def takeBack (s : Hw) (r : RunCmd) : Hw :=
  match r.wait with
  | .wakingRead t => withdraw [t] s
  | .words ts => withdraw ts s
  | .wake _ _ woken => s.each woken fun d s =>
      s.cond ((s.domState d == 1 || s.ready d) && !stillAsked r d s) (switchOff d)
  | .fesState units _ old => s.each (bitsOf 12 units) fun u s => setTargets s (2 ^ u) (old.getD u 0)
  | .fesSpi => spiCancel s r.index
  | .coex => s.setFld BRC_COEX_STATUS_xreq_out 0
  | .plaus pairs => s.each (bitsOf 2 pairs) fun p s => endPlaus s p
  | .unquar c => endPlaus s (pairOf c)
  | .rangeChange o =>
    match (s.aouOut o).change with
    | some (_, _, old, _) =>
      ((s.setFld (AOU_OSTAT_ranging o) 0).setFld (AOU_OCFG_range o) old).updOut o fun x => { x with change := none }
    | none => s
  | .hist n => histBack n s
  | .sleep => sleepBack s
  | .lehr => lehrTakeBack s
  | _ => s

/-- The maximum completion time of a command's opcode, in ns (R54). -/
def limitOf (r : RunCmd) : Nat := ((opOf r.opcode).map OpSpec.maxMs).getD 0 * 10 ^ 6

/-- The maximum completion time of an accepted command has passed (R54): it ends TIMEOUT with its effects taken back, a voltage move
first driven back (R108). One that has come to its outcome ends with it. -/
def timeOut (r : RunCmd) (s : Hw) : Hw :=
  match opOf r.opcode with
  | none => s
  | some op =>
    match r.outcome with
    | some (st, det, pl) => retire s op r st det pl (if r.opcode = 0x0206 then s.pwr.lehrUndo else {})
    | none =>
      match r.wait, s.pwr.move with
      | .opMove, some m =>
        if m.auto then retire s op r stTIMEOUT 0xFFFF []
        else
          let e := tryEndMove s
          match (e.cmd.running.find? fun x => x.id == r.id).bind RunCmd.outcome with
          | some (st, det, pl) => retire e op r st det pl
          | none => if m.aborted.isSome then s else rollBack s m stTIMEOUT 0xFFFF
      | _, _ => retire (takeBack s r) op r stTIMEOUT (timeoutDetail s r) []

/-- Does a command verify an image still? -/
def verifying (r : RunCmd) : Bool :=
  match r.wait with
  | .verify _ => r.outcome.isNone
  | _ => false

/-- COMMAND_FINISH: an accepted command that has come to its outcome leaves with it, a verification of an image ends, and a command
whose time is up ends TIMEOUT. -/
def finishCmd (id : Nat) (s : Hw) : Hw :=
  if !s.takesCommands then s
  else match s.cmd.running.find? fun r => r.id == id with
  | none => s
  | some r =>
    if verifying r then resumeCmd s r else s.cond (r.outcome.isSome || decide (r.recv + limitOf r ≤ s.dtime)) (timeOut r)

/-- Time has passed: every command whose maximum completion time lies behind ends, at the moment when that time was up. -/
def expire (s : Hw) : Hw :=
  if !s.takesCommands then s
  else
    s.cmd.running.foldl (fun (s : Hw) r =>
      match s.cmd.running.find? fun x => x.id == r.id with
      | none => s
      | some r =>
        if r.recv + limitOf r < s.dtime then { timeOut r { s with dtime := r.recv + limitOf r } with dtime := s.dtime }
        else s) s

end Sys2Proof.Machine
end

