-- ==== Sys2Proof/Machine/Settle.lean ====
section
/-!
DEFINITION. What follows at once from the state after every command: signals, status fields and side-band dependencies (R31); and
the two shapes of a command, a request and a happening.
-/
namespace Sys2Proof.Machine
open Reg

/-- A session that closed itself is gone once its reply has left. -/
def settleSessions (s : Hw) : Hw :=
  { s with cmd := { s.cmd with sessions := s.cmd.sessions.filter fun x => !x.closing } }

/-- TDS_PACE.current and TDS_GPACE (R98). -/
def settlePace (s : Hw) : Hw :=
  let s := s.setFld TDS_PACE_current (min (ownPace s 0) (ownPace s 1))
  (s.setFld TDS_GPACE_group_a (groupPace s 0)).setFld TDS_GPACE_group_b (groupPace s 1)

/-- TDS_LIMIT (R311). -/
def settleLimit (g : Nat) (s : Hw) : Hw := s.setNum (TDS_LIMIT g) (if s.ready 14 then groupLimit s g else 0)

/-- Is a lane in backoff: with its group, or in C2 under layout 0 on its own (R210, R237)? -/
def laneBackoff (s : Hw) (n : Nat) : Bool :=
  let g := laneGroup n
  if laneStages s g then decide (s.dtime < Map.get 0 (s.grp g).lback (n % 4)) else s.flag (LNK_STATUS_backoff g)

/-- What LNK asks of a lane's transmitter (R216): nothing in P0, EMIT while it sends, LISTEN otherwise. -/
def lineRequest (s : Hw) (n : Nat) : Nat :=
  let g := laneGroup n
  let x := s.grp g
  if s.stage g = 0 then 7
  else if laneBackoff s n ∨ hasBit x.crossed (n % 4) then 3
  else if s.stage g ≥ 2 ∨ s.fld (LFM_CFG_mode_pref g) = 2 ∨ x.bursting ∨ x.seenAt.isSome ∨ x.relock then 4
  else 3

def settleLine (n : Nat) (s : Hw) : Hw := s.setFld (FES_STATE_line n) (lineRequest s n)

/-- Groups. -/
def settleGroup (g : Nat) (s : Hw) : Hw :=
  let s := s.setFld (LNK_STATUS_ready g) (readyMask s g)
  settlePromise (settleLimit g s) g

/-- Everything in its order; the record and interrupt signals last. -/
def settleUnits (s : Hw) : Hw :=
  let s := (s.each (List.range 8) fun n s => settleTx n (settleSquelch s n)).each [0, 1] tryP1Exit
  let s := (s.each [0, 1] fun g s => s.cond (s.grp g).exitOwn.isSome fun s => tryP2Exit s g false).each (List.range 8) settleTraining
  let s := settlePace ((s.each (List.range 8) settleC2))
  let s := settleHost (settleRdn (s.each [0, 1] settleGroup))
  let s := settleCle (settleMcv s)
  let s := settleFes (settleBrc (s.each (List.range 8) settleLine))
  let s := settleLeaving (settlePower (settleMove s))
  let s := s.each [0, 1] fun g s => settleStatus (settleHealth (settleTrouble g s) g) g
  settleReset (settleSec (settleSessions (settleOptime s)))

/-- What follows at once from a state. While the part is held in reset nothing does but the signals' own levels. -/
def settle (s : Hw) : Hw :=
  let s := if s.phase = .held then s else seeEvents 9 (takeHanded (settleUnits (settleCommands s)))
  settleInt (settleEvr (settleCmis s))

/-- What a group does as `dt` nanoseconds pass: slots run up for its governor, and its cell positions go by (R98, R191). -/
def groupTime (dt g : Nat) (s : Hw) : Hw := runPositions g (runSlots dt g s)

/-- Indices that have cooled leave the list, and a deletion that waited for room goes on (R295). -/
def coolTime (s : Hw) : Hw :=
  if s.flw.cooling.any fun e => decide (e.2 + coolingTime ≤ s.dtime) then coolingExpiry s else s

/-- `dt` nanoseconds pass (R88), each whole microsecond counted by the counters that count time (Table 16-6); commands whose time is up
meanwhile end (R54), and losses that are due are reported (R197). DTIME does not count while the part is held in reset. -/
def passTime (dt : Nat) (s : Hw) : Hw :=
  if s.phase = .held then { s with out := [] }
  else
    let was := s.dtime
    let s := ({ s with dtime := was + dt, out := [] } : Hw).pmc 0x001 ((was + dt) / 1000 - was / 1000)
    let s := lossDue was 1 (lossDue was 0 ({ expire s with dtime := was + dt }))
    coolTime (s.each [0, 1] (groupTime dt))

/-- A happening at the part: what it does. While the part is held in reset it does nothing. -/
def happen (f : Hw → Hw) (s : Hw) : Hw := if s.phase = .held then s else f s

/-- The next state after `dt` nanoseconds and a happening. -/
def event (dt : Nat) (f : Hw → Hw) (s : State) : Host.Outcome State Fault Refusal :=
  .next { s with hw := settle (happen f (passTime dt s.hw)) }

/-- The next state after a happening that the held part sees too: its resets and its start. -/
def resetEvent (dt : Nat) (f : Hw → Hw) (s : State) : Host.Outcome State Fault Refusal :=
  .next { s with hw := settle (f (passTime dt s.hw)) }

/-- The next state after a request with an opcode of the tables. -/
def request (dt : Nat) (op : OpSpec) (rq : Request) (s : State) : Host.Outcome State Fault Refusal :=
  event dt (serve op.opcode (some op) rq) s

/-- One nanosecond passes with no command. -/
def tick (s : Hw) : Hw := settle (passTime 1 s)

end Sys2Proof.Machine
end

