-- ==== Sys2Proof/Machine/MeaningAou.lean ====
section
/-!
DEFINITION. Analogue outputs (14): the meaning of each command.
-/
namespace Sys2Proof.Machine

/-- AOU_WRITE (R460): Writes codes of listed outputs at one update instant. -/
def execAouWrite (dt : Nat) (rq : Request) (s : State) : Host.Outcome State Fault Refusal := request dt opAouWrite rq s

/-- AOU_RANGE_SET (R452): Changes an output's range via its safe code. -/
def execAouRangeSet (dt : Nat) (rq : Request) (s : State) : Host.Outcome State Fault Refusal := request dt opAouRangeSet rq s

/-- AOU_SAFE_SET (R450): Sets an output's safe code. -/
def execAouSafeSet (dt : Nat) (rq : Request) (s : State) : Host.Outcome State Fault Refusal := request dt opAouSafeSet rq s

/-- AOU_DITHER_SET (R457): Enables dither of an output from a generator with an amplitude. -/
def execAouDitherSet (dt : Nat) (rq : Request) (s : State) : Host.Outcome State Fault Refusal := request dt opAouDitherSet rq s

/-- AOU_GEN_SET (R454): Sets a generator's increment and phase. -/
def execAouGenSet (dt : Nat) (rq : Request) (s : State) : Host.Outcome State Fault Refusal := request dt opAouGenSet rq s

/-- AOU_TABLE_LOAD (R456): Loads or sine-fills a generator table and optionally declares it. -/
def execAouTableLoad (dt : Nat) (rq : Request) (s : State) : Host.Outcome State Fault Refusal := request dt opAouTableLoad rq s

/-- AOU_STATUS_READ (R460): Returns AOU output and control registers. -/
def execAouStatusRead (dt : Nat) (rq : Request) (s : State) : Host.Outcome State Fault Refusal := request dt opAouStatusRead rq s

/-- OUTPUT_UPDATE (R446): Every 1000 ns all outputs update and generators advance. -/
def execOutputUpdate (dt : Nat) (s : State) : Host.Outcome State Fault Refusal := event dt outputUpdate s

/-- GATE_WRITE (R447): An FES gate write takes effect within 100 ns. -/
def execGateWrite (dt : Nat) (o : Fin 24) (s : State) : Host.Outcome State Fault Refusal := event dt (gateWrite o.val) s

/-- COMPLIANCE_FAIL (R449): An output off its value by 1 % of span for 5 µs fails compliance. -/
def execComplianceFail (dt : Nat) (o : Fin 24) (s : State) : Host.Outcome State Fault Refusal :=
  event dt (complianceFail o.val) s

/-- COMPLIANCE_REGAINED (R449): 10 µs in compliance clears the flag. -/
def execComplianceRegained (dt : Nat) (o : Fin 24) (s : State) : Host.Outcome State Fault Refusal :=
  event dt (complianceRegained o.val) s

/-- RANGE_SWITCH (R452): At t0 + 1 µs of a range change the range switches. -/
def execRangeSwitch (dt : Nat) (o : Fin 24) (s : State) : Host.Outcome State Fault Refusal := event dt (rangeSwitch o.val) s

/-- RANGE_CHANGE_COMPLETE (R452): At t0 + 21 µs the new code applies and AOU_RANGE_SET completes. -/
def execRangeChangeComplete (dt : Nat) (o : Fin 24) (s : State) : Host.Outcome State Fault Refusal :=
  event dt (rangeChangeComplete o.val) s

end Sys2Proof.Machine
end

