-- ==== Sys2Proof/Machine/MeaningBrc.lean ====
section
/-!
DEFINITION. The band repeater (12): the meaning of each command.
-/
namespace Sys2Proof.Machine

/-- QUIET_RECEIVED (R411): A QUIET cell mutes or releases stages of the named bands emitting into that fibre. -/
def execQuietReceived (dt : Nat) (g : Fin 2) (bands : Nat) (release : Bool) (s : State) : Host.Outcome State Fault Refusal :=
  event dt (quietReceived g.val bands release) s

/-- BRC_CONFIG (R419): Sets margin, window, band enables, east group, APR and pilot frequencies. -/
def execBrcConfig (dt : Nat) (rq : Request) (s : State) : Host.Outcome State Fault Refusal := request dt opBrcConfig rq s

/-- BRC_STAGE_CONFIG (R419): Sets a stage's limit, input-loss level, pilot generator and CLE source. -/
def execBrcStageConfig (dt : Nat) (rq : Request) (s : State) : Host.Outcome State Fault Refusal := request dt opBrcStageConfig rq s

/-- BRC_CAL_SET (R396): Sets a detector's calibration k and dark. -/
def execBrcCalSet (dt : Nat) (rq : Request) (s : State) : Host.Outcome State Fault Refusal := request dt opBrcCalSet rq s

/-- BRC_UNMUTE (R406): Clears guard_trip and runaway mute causes of named stages. -/
def execBrcUnmute (dt : Nat) (rq : Request) (s : State) : Host.Outcome State Fault Refusal := request dt opBrcUnmute rq s

/-- BRC_QUIET_SEND (R412): Starts or releases QUIET sending for named bands on a group. -/
def execBrcQuietSend (dt : Nat) (rq : Request) (s : State) : Host.Outcome State Fault Refusal := request dt opBrcQuietSend rq s

/-- BRC_COEX_CONFIG (R419): Sets coexistence enables, mode, req_max and grant_timeout. -/
def execBrcCoexConfig (dt : Nat) (rq : Request) (s : State) : Host.Outcome State Fault Refusal := request dt opBrcCoexConfig rq s

/-- BRC_COEX_REQ (R417): Raises or lowers XREQ_OUT for an outbound grant. -/
def execBrcCoexReq (dt : Nat) (rq : Request) (s : State) : Host.Outcome State Fault Refusal := request dt opBrcCoexReq rq s

/-- BRC_STATUS_READ (R419): Returns band repeater registers and optionally clears counters. -/
def execBrcStatusRead (dt : Nat) (rq : Request) (s : State) : Host.Outcome State Fault Refusal := request dt opBrcStatusRead rq s

/-- PILOT_ESTIMATE_UPDATE (R400): Every 10 µs each stage's loop-gain estimate and pilot index are computed. -/
def execPilotEstimateUpdate (dt : Nat) (codes : List (List Nat)) (s : State) : Host.Outcome State Fault Refusal :=
  event dt (pilotEstimateUpdate codes) s

/-- RUNAWAY_MUTE (R405): A detector sample showing runaway output mutes both stages of the band. -/
def execRunawayMute (dt : Nat) (st : Fin 4) (outThen : Nat) (outNow : Nat) (inp : Nat × Nat) (s : State) : Host.Outcome State Fault Refusal :=
  event dt (runawayMute st.val outThen outNow inp) s

/-- PILOT_AMPLITUDE_ADJUST (R399): Every 1 ms the dither amplitude is adjusted to hold 2 % pilot index. -/
def execPilotAmplitudeAdjust (dt : Nat) (s : State) : Host.Outcome State Fault Refusal := event dt pilotAmplitudeAdjust s

/-- GUARD_RAISE_TICK (R402): Every 1 ms BRC raises stages whose prediction meets the margin. -/
def execGuardRaiseTick (dt : Nat) (s : State) : Host.Outcome State Fault Refusal := event dt guardRaiseTick s

/-- GUARD_LOWER_TICK (R403): Every 100 µs while prediction exceeds the margin one stage is lowered. -/
def execGuardLowerTick (dt : Nat) (s : State) : Host.Outcome State Fault Refusal := event dt guardLowerTick s

/-- GUARD_BAND_MUTE (R403): Both stages at entry 0 with prediction above margin for 10 ms mute the band. -/
def execGuardBandMute (dt : Nat) (b : Fin 2) (s : State) : Host.Outcome State Fault Refusal :=
  event dt (guardBandMute b.val) s

/-- AUTO_RETRY_RELEASE (R406): 1 s after a guard or runaway mute with auto_retry the mute is released. -/
def execAutoRetryRelease (dt : Nat) (b : Fin 2) (s : State) : Host.Outcome State Fault Refusal :=
  event dt (autoRetryRelease b.val) s

/-- INPUT_LOSS_HOLD (R407): Input below in_los for 50 µs holds the stage at entry 0. -/
def execInputLossHold (dt : Nat) (st : Fin 4) (code : Nat) (s : State) : Host.Outcome State Fault Refusal :=
  event dt (inputLossHold st.val code) s

/-- INPUT_LOSS_MUTE (R407): Input below in_los for 5 ms mutes the stage. -/
def execInputLossMute (dt : Nat) (st : Fin 4) (code : Nat) (s : State) : Host.Outcome State Fault Refusal :=
  event dt (inputLossMute st.val code) s

/-- INPUT_RESTORED (R407): Input at or above in_los + 1 dB for 1 ms ends input loss. -/
def execInputRestored (dt : Nat) (st : Fin 4) (code : Nat) (s : State) : Host.Outcome State Fault Refusal :=
  event dt (inputRestored st.val code) s

/-- LIMIT_CEILING_FALL (R408): Every 100 µs while output exceeds the limit the limit ceiling falls one entry. -/
def execLimitCeilingFall (dt : Nat) (st : Fin 4) (code : Nat) (s : State) : Host.Outcome State Fault Refusal :=
  event dt (limitCeilingFall st.val code) s

/-- LIMIT_CEILING_RISE (R408): Every 1 ms the limit ceiling rises one entry if output allows. -/
def execLimitCeilingRise (dt : Nat) (st : Fin 4) (code : Nat) (s : State) : Host.Outcome State Fault Refusal :=
  event dt (limitCeilingRise st.val code) s

/-- APR_START (R409): Loss on a fibre for 100 µs closes gates and applies APR steps. -/
def execAprStart (dt : Nat) (g : Fin 2) (s : State) : Host.Outcome State Fault Refusal := event dt (aprStart g.val) s

/-- APR_END (R410): Power reduction ends when the group enters P2 or C2 lanes regain signal. -/
def execAprEnd (dt : Nat) (g : Fin 2) (s : State) : Host.Outcome State Fault Refusal := event dt (aprEnd g.val) s

/-- QUIET_SILENCE_END (R411): 10 ms without a QUIET mute ends the quiet mute. -/
def execQuietSilenceEnd (dt : Nat) (g : Fin 2) (b : Fin 2) (s : State) : Host.Outcome State Fault Refusal :=
  event dt (quietSilenceEnd g.val b.val) s

/-- QUIET_RESEND (R412): Every 1 ms a QUIET mute, or three times a release, is sent. -/
def execQuietResend (dt : Nat) (g : Fin 2) (s : State) : Host.Outcome State Fault Refusal := event dt (quietResend g.val) s

/-- XREQ_IN_HIGH (R414): An accepted high on XREQ_IN puts stages 2 and 3 in mute or hold. -/
def execXreqInHigh (dt : Nat) (s : State) : Host.Outcome State Fault Refusal := event dt xreqInHigh s

/-- INBOUND_GRANT (R414): XGNT_OUT rises after the mode is set, deferred past any protection event. -/
def execInboundGrant (dt : Nat) (s : State) : Host.Outcome State Fault Refusal := event dt inboundGrant s

/-- XREQ_IN_LOW (R415): An accepted low on XREQ_IN ends the inbound grant. -/
def execXreqInLow (dt : Nat) (s : State) : Host.Outcome State Fault Refusal := event dt xreqInLow s

/-- INBOUND_REQUEST_STUCK (R415): A request held for req_max ends the grant as stuck. -/
def execInboundRequestStuck (dt : Nat) (s : State) : Host.Outcome State Fault Refusal := event dt inboundRequestStuck s

/-- XGNT_IN_HIGH (R417): An accepted grant on XGNT_IN unmutes T2 stages and completes BRC_COEX_REQ. -/
def execXgntInHigh (dt : Nat) (s : State) : Host.Outcome State Fault Refusal := event dt xgntInHigh s

/-- XGNT_IN_LOW (R417): XGNT_IN falling while granted closes both gates. -/
def execXgntInLow (dt : Nat) (s : State) : Host.Outcome State Fault Refusal := event dt xgntInLow s

/-- OUTBOUND_GRANT_TIMEOUT (R417): No grant within grant_timeout lowers XREQ_OUT and refuses the command. -/
def execOutboundGrantTimeout (dt : Nat) (s : State) : Host.Outcome State Fault Refusal := event dt outboundGrantTimeout s

end Sys2Proof.Machine
end

