-- ==== Sys2Proof/Machine/MeaningCle.lean ====
section
/-!
DEFINITION. The control engine (13): the meaning of each command.
-/
namespace Sys2Proof.Machine

/-- CLE_LOOP_CONFIG (R424): Sets a loop's source, destination, period and repetitive options. -/
def execCleLoopConfig (dt : Nat) (rq : Request) (s : State) : Host.Outcome State Fault Refusal := request dt opCleLoopConfig rq s

/-- CLE_COEF_LOAD (R441): Loads a loop's 16 coefficient words and optionally declares them. -/
def execCleCoefLoad (dt : Nat) (rq : Request) (s : State) : Host.Outcome State Fault Refusal := request dt opCleCoefLoad rq s

/-- CLE_MODE_SET (R442): Sets named loops off, manual or auto. -/
def execCleModeSet (dt : Nat) (rq : Request) (s : State) : Host.Outcome State Fault Refusal := request dt opCleModeSet rq s

/-- CLE_SETPOINT (R433): Sets a loop's set-point and manual output. -/
def execCleSetpoint (dt : Nat) (rq : Request) (s : State) : Host.Outcome State Fault Refusal := request dt opCleSetpoint rq s

/-- CLE_REP_LOAD (R437): Writes repetitive table entries, optionally declaring and engaging. -/
def execCleRepLoad (dt : Nat) (rq : Request) (s : State) : Host.Outcome State Fault Refusal := request dt opCleRepLoad rq s

/-- CLE_REP_READ (R442): Returns repetitive table entries. -/
def execCleRepRead (dt : Nat) (rq : Request) (s : State) : Host.Outcome State Fault Refusal := request dt opCleRepRead rq s

/-- CLE_REP_RESET (R442): Zeroes and declares named repetitive tables. -/
def execCleRepReset (dt : Nat) (rq : Request) (s : State) : Host.Outcome State Fault Refusal := request dt opCleRepReset rq s

/-- CLE_LIA_CONFIG (R427): Configures a lock-in demodulator. -/
def execCleLiaConfig (dt : Nat) (rq : Request) (s : State) : Host.Outcome State Fault Refusal := request dt opCleLiaConfig rq s

/-- CLE_TEST_START (R439): Starts a test signal on one loop. -/
def execCleTestStart (dt : Nat) (rq : Request) (s : State) : Host.Outcome State Fault Refusal := request dt opCleTestStart rq s

/-- CLE_TEST_STOP (R440): Stops the running test signal. -/
def execCleTestStop (dt : Nat) (rq : Request) (s : State) : Host.Outcome State Fault Refusal := request dt opCleTestStop rq s

/-- CLE_STATUS_READ (R442): Returns CLE control and loop registers. -/
def execCleStatusRead (dt : Nat) (rq : Request) (s : State) : Host.Outcome State Fault Refusal := request dt opCleStatusRead rq s

/-- CLE_INIT (R442): Zeroes and declares every coefficient block and table and sets every loop off. -/
def execCleInit (dt : Nat) (rq : Request) (s : State) : Host.Outcome State Fault Refusal := request dt opCleInit rq s

/-- LOOP_SAMPLE (R433): At a sample instant a loop computes its control law and writes its destination. -/
def execLoopSample (dt : Nat) (l : Fin 32) (codes : List (List Nat)) (s : State) : Host.Outcome State Fault Refusal :=
  event dt (loopSample l.val codes) s

/-- DEADLINE_MISS (R429): A sample not computed by the next instant is abandoned. -/
def execDeadlineMiss (dt : Nat) (l : Fin 32) (s : State) : Host.Outcome State Fault Refusal :=
  event dt (deadlineMiss l.val) s

/-- REP_CYCLE_END (R436): At a mains cycle start the repetitive record is shaped and added to the table. -/
def execRepCycleEnd (dt : Nat) (l : Fin 32) (s : State) : Host.Outcome State Fault Refusal := event dt (repCycleEnd l.val) s

/-- MAINS_INVALID_DISENGAGE (R438): After 1 s of invalid mains the repetitive weight ramps to 0. -/
def execMainsInvalidDisengage (dt : Nat) (l : Fin 32) (s : State) : Host.Outcome State Fault Refusal :=
  event dt (mainsInvalidDisengage l.val) s

/-- LOCKIN_WINDOW_END (R427): A lock-in demodulator publishes its mean at the end of its window. -/
def execLockinWindowEnd (dt : Nat) (d : Fin 8) (values : List Int) (s : State) : Host.Outcome State Fault Refusal :=
  event dt (lockinWindowEnd d.val values) s

/-- TEST_SIGNAL_END (R440): A test signal ends after its duration. -/
def execTestSignalEnd (dt : Nat) (s : State) : Host.Outcome State Fault Refusal := event dt testSignalEnd s

/-- OUTPUT_LIMIT_ALARM (R434): A loop output at a limit for 1 s records event 0x0F08. -/
def execOutputLimitAlarm (dt : Nat) (l : Fin 32) (s : State) : Host.Outcome State Fault Refusal :=
  event dt (outputLimitAlarm l.val) s

end Sys2Proof.Machine
end

