-- ==== Sys2Proof/Machine/MeaningCommand.lean ====
section
/-!
DEFINITION. Commands, sessions, the journal, resets and the routes (01, 02): the meaning of each command.
-/
namespace Sys2Proof.Machine

/-- CDB_REQUEST (R43): A CMIS CDB message with command code 0xB800 arrives on the two-wire port carrying one request packet.
-/
def execCdbRequest (dt : Nat) (code : Nat) (good : Bool) (lpl : Bytes) (epl : Bytes) (s : State) : Host.Outcome State Fault Refusal :=
  event dt (cdbRequest code good lpl epl) s

/-- MSPI_WRITE_FRAME (R45): An MSPI frame beginning 0x5A delivers one request packet, or is discarded while the device is
not command-ready. -/
def execMspiWriteFrame (dt : Nat) (packet : Bytes) (s : State) : Host.Outcome State Fault Refusal :=
  event dt (mspiWrite packet) s

/-- MSPI_READ_FRAME (R45): An MSPI frame beginning 0xA5 returns a status byte and the oldest waiting reply, which is removed
from the queue. -/
def execMspiReadFrame (dt : Nat) (s : State) : Host.Outcome State Fault Refusal := event dt mspiRead s

/-- INBAND_REQUEST_FRAME (R46): A frame addressed to the device with the in-band EtherType carries a request and its
authentication tag. -/
def execInbandRequestFrame (dt : Nat) (p : Fin 8) (frame : Bytes) (s : State) : Host.Outcome State Fault Refusal :=
  event dt (inbandRequest p.val frame) s

/-- ACCEPTED_REPLY (R55): A journaled command that has not finished 5 ms after receipt replies ACCEPTED. -/
def execAcceptedReply (dt : Nat) (s : State) : Host.Outcome State Fault Refusal := event dt acceptOne s

/-- COMMAND_FINISH (R71): An accepted command finishes; its journal entry is completed and a completion notice is queued if
requested. -/
def execCommandFinish (dt : Nat) (id : Nat) (s : State) : Host.Outcome State Fault Refusal := event dt (finishCmd id) s

/-- NONCE_EXPIRY (R64): A nonce issued by GET_NONCE ceases to be valid 10 s after its reply. -/
def execNonceExpiry (dt : Nat) (sess : Nat) (s : State) : Host.Outcome State Fault Refusal := event dt (nonceExpiry sess) s

/-- PROVISIONAL_SESSION_TIMEOUT (R67): A provisional session not completed by SESSION_OPEN_2 within 5 s is discarded. -/
def execProvisionalSessionTimeout (dt : Nat) (sess : Nat) (s : State) : Host.Outcome State Fault Refusal :=
  event dt (provisionalTimeout sess) s

/-- SESSION_IDLE_CLOSE (R67): A session with no request for 300 s is closed and event 0x0008 is recorded. -/
def execSessionIdleClose (dt : Nat) (sess : Nat) (s : State) : Host.Outcome State Fault Refusal :=
  event dt (sessionIdle sess) s

/-- WATCHDOG_FIRE (R41): The Ehrik watchdog fires, records an event and triggers a management reset, switching slot at the
third firing in 10 s. -/
def execWatchdogFire (dt : Nat) (s : State) : Host.Outcome State Fault Refusal := event dt watchdog s

/-- MGMT_RESET_COMPLETE (R37): A management reset reaches command-ready, completing unfinished journal entries and
rebuilding high marks. -/
def execMgmtResetComplete (dt : Nat) (s : State) : Host.Outcome State Fault Refusal := event dt mgmtComplete s

/-- WARM_RESET_COMPLETE (R37): A warm reset reaches command-ready and PWR wakes the switched domains marked awake. -/
def execWarmResetComplete (dt : Nat) (s : State) : Host.Outcome State Fault Refusal := event dt warmComplete s

/-- CMIS_SOFTWARE_RESET (R83): A CMIS software reset request is ignored with an event or acts as a warm reset per
CMD_CFG.cmis_swreset. -/
def execCmisSoftwareReset (dt : Nat) (s : State) : Host.Outcome State Fault Refusal := event dt cmisReset s

/-- REGISTER_WRITE (R8): A write to a register field without behaviour of its own, including clear-on-one latch bits. -/
def execRegisterWrite (dt : Nat) (addr : Nat) (value : Nat) (during : Nat) (s : State) : Host.Outcome State Fault Refusal :=
  event dt (registerWrite addr value during) s

/-- WORD_PAIR_LATCH_READ (R29): A read of the upper word of a 64-bit value latches the lower word for that source. -/
def execWordPairLatchRead (dt : Nat) (source : Nat) (addr : Nat) (s : State) : Host.Outcome State Fault Refusal :=
  event dt (pairLatchRead source addr) s

/-- ECHO (R70): Returns the parameter block unchanged. -/
def execEcho (dt : Nat) (rq : Request) (s : State) : Host.Outcome State Fault Refusal := request dt opEcho rq s

/-- READ_WORDS (R68): Reads 1 to 256 consecutive words of one unit through the control fabric. -/
def execReadWords (dt : Nat) (rq : Request) (s : State) : Host.Outcome State Fault Refusal := request dt opReadWords rq s

/-- WRITE_WORDS (R69): Writes consecutive words of one unit after range and level checks and a waking read. -/
def execWriteWords (dt : Nat) (rq : Request) (s : State) : Host.Outcome State Fault Refusal := request dt opWriteWords rq s

/-- GET_INFO (R70): Returns firmware version, active slot, MAC address, power-cycle count and DTIME. -/
def execGetInfo (dt : Nat) (rq : Request) (s : State) : Host.Outcome State Fault Refusal := request dt opGetInfo rq s

/-- GET_NONCE (R64): Issues a 32-byte nonce to the session, cancelling any earlier one. -/
def execGetNonce (dt : Nat) (rq : Request) (s : State) : Host.Outcome State Fault Refusal := request dt opGetNonce rq s

/-- SESSION_OPEN_1 (R65): Starts an in-band session key exchange and returns a provisional session number and device
signature. -/
def execSessionOpen1 (dt : Nat) (rq : Request) (s : State) : Host.Outcome State Fault Refusal := request dt opSessionOpen1 rq s

/-- SESSION_OPEN_2 (R65): Completes an in-band session with the host's signature and opens it at the granted level. -/
def execSessionOpen2 (dt : Nat) (rq : Request) (s : State) : Host.Outcome State Fault Refusal := request dt opSessionOpen2 rq s

/-- SESSION_CLOSE (R70): Closes a session. -/
def execSessionClose (dt : Nat) (rq : Request) (s : State) : Host.Outcome State Fault Refusal := request dt opSessionClose rq s

/-- SESSION_STATUS (R70): Returns a session's level, high mark and idle time. -/
def execSessionStatus (dt : Nat) (rq : Request) (s : State) : Host.Outcome State Fault Refusal := request dt opSessionStatus rq s

/-- NOTICE_FETCH (R72): Returns and removes up to 8 pending two-wire completion notices. -/
def execNoticeFetch (dt : Nat) (rq : Request) (s : State) : Host.Outcome State Fault Refusal := request dt opNoticeFetch rq s

/-- JOURNAL_INFO (R81): Returns epoch, oldest and newest indices of both journal tiers and the pending count. -/
def execJournalInfo (dt : Nat) (rq : Request) (s : State) : Host.Outcome State Fault Refusal := request dt opJournalInfo rq s

/-- JOURNAL_READ (R82): Returns up to 30 journal entries of one tier from a start index, filtered by session. -/
def execJournalRead (dt : Nat) (rq : Request) (s : State) : Host.Outcome State Fault Refusal := request dt opJournalRead rq s

/-- JOURNAL_SYNC (R70): Returns once every complete RAM+NV entry has been committed. -/
def execJournalSync (dt : Nat) (rq : Request) (s : State) : Host.Outcome State Fault Refusal := request dt opJournalSync rq s

/-- MGMT_RESET (R36): Replies OK and then resets CMD units and the Ehrik controller, closing open sessions. -/
def execMgmtReset (dt : Nat) (rq : Request) (s : State) : Host.Outcome State Fault Refusal := request dt opMgmtReset rq s

/-- WARM_RESET (R36): Replies OK and then resets every register and volatile memory while DTIME keeps counting. -/
def execWarmReset (dt : Nat) (rq : Request) (s : State) : Host.Outcome State Fault Refusal := request dt opWarmReset rq s

/-- INBAND_CONFIG (R70): Sets the in-band route's enable, EtherType and MAC address. -/
def execInbandConfig (dt : Nat) (rq : Request) (s : State) : Host.Outcome State Fault Refusal := request dt opInbandConfig rq s

/-- MODRSTL_LOW (R36): MODRSTL held low for 5 µs triggers a cold start. -/
def execModrstlLow (dt : Nat) (torn : Bool) (s : State) : Host.Outcome State Fault Refusal :=
  resetEvent dt (modrstlLow torn) s

/-- BUS_STUCK_RELEASE (R592): The two-wire bus held low for 25 ms is reset and released. -/
def execBusStuckRelease (dt : Nat) (micros : Nat) (s : State) : Host.Outcome State Fault Refusal :=
  event dt (busRelease micros) s

/-- NV_TIER_COMMIT (R79): A RAM+NV command's journal NV tier entry and its non-volatile effect finish committing as one
unit. -/
def execNvTierCommit (dt : Nat) (s : State) : Host.Outcome State Fault Refusal := event dt nvTierCommit s

/-- CMIS_DATAPATH_DEINIT (R83): A host write to CMIS page 10h requests data path deinitialisation of a lane group. -/
def execCmisDatapathDeinit (dt : Nat) (g : Fin 2) (on : Bool) (s : State) : Host.Outcome State Fault Refusal :=
  event dt (cmisDeinit g.val on) s

end Sys2Proof.Machine
end

