-- ==== Sys2Proof/Machine/MeaningFes.lean ====
section
/-!
DEFINITION. The front-end sequencer (11): the meaning of each command.
-/
namespace Sys2Proof.Machine

/-- CMIS_TX_DISABLE (R371): A write to CMIS page 10h disables or enables a transmitter, holding it at LISTEN. -/
def execCmisTxDisable (dt : Nat) (n : Fin 8) (off : Bool) (s : State) : Host.Outcome State Fault Refusal :=
  event dt (cmisTxDisable n.val off) s

/-- FES_CONFIG (R374): Names a unit's outputs, loops, chip select, windows and flags. -/
def execFesConfig (dt : Nat) (rq : Request) (s : State) : Host.Outcome State Fault Refusal := request dt opFesConfig rq s

/-- FES_STATE_SET (R379): Sets the target state of named units, holding for lock where needed. -/
def execFesStateSet (dt : Nat) (rq : Request) (s : State) : Host.Outcome State Fault Refusal := request dt opFesStateSet rq s

/-- FES_STEP_SET (R386): Sets the step target or ceiling of named units. -/
def execFesStepSet (dt : Nat) (rq : Request) (s : State) : Host.Outcome State Fault Refusal := request dt opFesStepSet rq s

/-- FES_TABLE_LOAD (R384): Writes step table entries and optionally declares the table. -/
def execFesTableLoad (dt : Nat) (rq : Request) (s : State) : Host.Outcome State Fault Refusal := request dt opFesTableLoad rq s

/-- FES_HOOK_LOAD (R389): Stores the FESPI hook frames of a unit's move. -/
def execFesHookLoad (dt : Nat) (rq : Request) (s : State) : Host.Outcome State Fault Refusal := request dt opFesHookLoad rq s

/-- FES_SPI_XFER (R387): Sends one FESPI frame and returns the bytes read. -/
def execFesSpiXfer (dt : Nat) (rq : Request) (s : State) : Host.Outcome State Fault Refusal := request dt opFesSpiXfer rq s

/-- FES_TURN (R382): Requests the turn of protection lanes to EMIT. -/
def execFesTurn (dt : Nat) (rq : Request) (s : State) : Host.Outcome State Fault Refusal := request dt opFesTurn rq s

/-- FES_FAULT_CLEAR (R380): Clears sticky faults of named units. -/
def execFesFaultClear (dt : Nat) (rq : Request) (s : State) : Host.Outcome State Fault Refusal := request dt opFesFaultClear rq s

/-- FES_STATUS_READ (R391): Returns state, latch and settle time of named units. -/
def execFesStatusRead (dt : Nat) (rq : Request) (s : State) : Host.Outcome State Fault Refusal := request dt opFesStatusRead rq s

/-- FES_MOVE_DONE (R372): A unit completes a one-state move and continues toward the state in effect. -/
def execFesMoveDone (dt : Nat) (u : Fin 12) (s : State) : Host.Outcome State Fault Refusal := event dt (fesMoveDone u.val) s

/-- TEMP_OK (R375): A unit's temperature error stays in window for 500 µs, or leaves it for 10 µs. -/
def execTempOk (dt : Nat) (u : Fin 12) (ok : Bool) (s : State) : Host.Outcome State Fault Refusal :=
  event dt (tempOk u.val ok) s

/-- LOCK_DECLARED (R375): A unit's lock loop error stays in window for 500 µs and lock is declared. -/
def execLockDeclared (dt : Nat) (u : Fin 12) (s : State) : Host.Outcome State Fault Refusal :=
  event dt (lockDeclared u.val) s

/-- FES_LOCK_LOST (R376): Lock lost in EMIT closes the gate within 1 µs. -/
def execFesLockLost (dt : Nat) (u : Fin 12) (s : State) : Host.Outcome State Fault Refusal := event dt (fesLockLost u.val) s

/-- FES_FAULT (R380): A compliance, hook or table fault closes the gate and takes the unit to WARM. -/
def execFesFault (dt : Nat) (u : Fin 12) (cause : Nat) (which : Nat) (s : State) : Host.Outcome State Fault Refusal :=
  event dt (fesFault u.val cause which) s

/-- TRIG_IN_TURN (R382): A filtered rising edge on TRIG_IN turns protection lanes with turn_trig. -/
def execTrigInTurn (dt : Nat) (s : State) : Host.Outcome State Fault Refusal := event dt trigInTurn s

/-- TURN_COMPLETE (R382): The gate of a turned lane reaches its final code at 4.00 µs after acceptance. -/
def execTurnComplete (dt : Nat) (u : Fin 12) (s : State) : Host.Outcome State Fault Refusal :=
  event dt (turnComplete u.val) s

/-- STEP_RAMP_UPDATE (R385): Every microsecond of a step ramp the drive codes advance toward the next entry. -/
def execStepRampUpdate (dt : Nat) (u : Fin 12) (s : State) : Host.Outcome State Fault Refusal :=
  event dt (stepRampUpdate u.val) s

/-- LOCK_DEADLINE_EXPIRY (R378): A held command's deadline passes without lock and completes NOT_LOCKED. -/
def execLockDeadlineExpiry (dt : Nat) (u : Fin 12) (s : State) : Host.Outcome State Fault Refusal :=
  event dt (lockDeadlineExpiry u.val) s

/-- SETTLE_MAX_EXPIRY (R377): Temperature not settled within settle_max of WARM entry records 0x0D04. -/
def execSettleMaxExpiry (dt : Nat) (u : Fin 12) (s : State) : Host.Outcome State Fault Refusal :=
  event dt (settleMaxExpiry u.val) s

/-- HOOK_FRAME_DONE (R389): A hook frame completes and is verified. -/
def execHookFrameDone (dt : Nat) (read : Bytes) (s : State) : Host.Outcome State Fault Refusal :=
  event dt (hookFrameDone read) s

end Sys2Proof.Machine
end

