-- ==== Sys2Proof/Machine/MeaningFlow.lean ====
section
/-!
DEFINITION. Flow tables (08): the meaning of each command.
-/
namespace Sys2Proof.Machine

/-- FLW_INIT (R296): Zeroes both flow tables, declares them and clears counters and cooling list. -/
def execFlwInit (dt : Nat) (rq : Request) (s : State) : Host.Outcome State Fault Refusal := request dt opFlwInit rq s

/-- FLW_INSERT (R300): Writes contexts and inserts keys for a list of flows. -/
def execFlwInsert (dt : Nat) (rq : Request) (s : State) : Host.Outcome State Fault Refusal := request dt opFlwInsert rq s

/-- FLW_MODIFY (R301): Rewrites contexts and key classes of existing flows. -/
def execFlwModify (dt : Nat) (rq : Request) (s : State) : Host.Outcome State Fault Refusal := request dt opFlwModify rq s

/-- FLW_DELETE (R300): Removes keys and frees contexts by key or index. -/
def execFlwDelete (dt : Nat) (rq : Request) (s : State) : Host.Outcome State Fault Refusal := request dt opFlwDelete rq s

/-- FLW_LOOKUP (R298): Returns the place and context of a key. -/
def execFlwLookup (dt : Nat) (rq : Request) (s : State) : Host.Outcome State Fault Refusal := request dt opFlwLookup rq s

/-- FLW_READ (R298): Returns a range of flow contexts. -/
def execFlwRead (dt : Nat) (rq : Request) (s : State) : Host.Outcome State Fault Refusal := request dt opFlwRead rq s

/-- FLW_STATUS_READ (R302): Returns flow table status and counters and optionally clears them. -/
def execFlwStatusRead (dt : Nat) (rq : Request) (s : State) : Host.Outcome State Fault Refusal := request dt opFlwStatusRead rq s

/-- COOLING_EXPIRY (R295): A deleted index finishes its 10 ms cooling. -/
def execCoolingExpiry (dt : Nat) (s : State) : Host.Outcome State Fault Refusal := event dt coolingExpiry s

/-- STASH_REPLACE (R291): After a deletion frees a slot, stash entries are placed back in the table. -/
def execStashReplace (dt : Nat) (s : State) : Host.Outcome State Fault Refusal := event dt stashReplace s

end Sys2Proof.Machine
end

