-- ==== Sys2Proof/Machine/MeaningGather.lean ====
section
/-!
DEFINITION. Gather and counters (16): the meaning of each command.
-/
namespace Sys2Proof.Machine

/-- GTH_CONFIG (R487): Sets capture sources, decimation, segments and counts. -/
def execGthConfig (dt : Nat) (rq : Request) (s : State) : Host.Outcome State Fault Refusal := request dt opGthConfig rq s

/-- GTH_TRIG_CONFIG (R491): Sets trigger sources and threshold. -/
def execGthTrigConfig (dt : Nat) (rq : Request) (s : State) : Host.Outcome State Fault Refusal := request dt opGthTrigConfig rq s

/-- GTH_ARM (R490): Discards segments and starts pre-fill in segment 0. -/
def execGthArm (dt : Nat) (rq : Request) (s : State) : Host.Outcome State Fault Refusal := request dt opGthArm rq s

/-- GTH_TRIGGER (R491): Raises a command trigger candidate. -/
def execGthTrigger (dt : Nat) (rq : Request) (s : State) : Host.Outcome State Fault Refusal := request dt opGthTrigger rq s

/-- GTH_STOP (R490): Closes the current segment truncated and enters done. -/
def execGthStop (dt : Nat) (rq : Request) (s : State) : Host.Outcome State Fault Refusal := request dt opGthStop rq s

/-- GTH_READ (R494): Returns blocks of a closed segment. -/
def execGthRead (dt : Nat) (rq : Request) (s : State) : Host.Outcome State Fault Refusal := request dt opGthRead rq s

/-- GTH_STATUS_READ (R503): Returns capture registers. -/
def execGthStatusRead (dt : Nat) (rq : Request) (s : State) : Host.Outcome State Fault Refusal := request dt opGthStatusRead rq s

/-- GTH_PMC_CONFIG (R496): Sets a stopped PMC's event and overflow event flag. -/
def execGthPmcConfig (dt : Nat) (rq : Request) (s : State) : Host.Outcome State Fault Refusal := request dt opGthPmcConfig rq s

/-- GTH_PMC_CTRL (R496): Starts, stops or clears named PMCs at one slot boundary. -/
def execGthPmcCtrl (dt : Nat) (rq : Request) (s : State) : Host.Outcome State Fault Refusal := request dt opGthPmcCtrl rq s

/-- GTH_COUNT_READ (R499): Samples named counters with their DTIMEs. -/
def execGthCountRead (dt : Nat) (rq : Request) (s : State) : Host.Outcome State Fault Refusal := request dt opGthCountRead rq s

/-- GTH_COUNTER_OPEN (R500): Sets or clears Observer access to counters. -/
def execGthCounterOpen (dt : Nat) (rq : Request) (s : State) : Host.Outcome State Fault Refusal := request dt opGthCounterOpen rq s

/-- CAPTURE_BLOCK_WRITE (R488): The write port takes a completed block from a staging store into the buffer. -/
def execCaptureBlockWrite (dt : Nat) (samples : List (Nat × Byte)) (codes : List (Nat × Nat)) (s : State) : Host.Outcome State Fault Refusal :=
  event dt (captureBlockWrite samples codes) s

/-- TRIGGER_CANDIDATE (R492): A trigger candidate is accepted or ignored. -/
def execTriggerCandidate (dt : Nat) (rising : Bool) (held : Nat) (frac : Nat) (s : State) : Host.Outcome State Fault Refusal :=
  event dt (triggerCandidate rising held frac) s

end Sys2Proof.Machine
end

