-- ==== Sys2Proof/Machine/MeaningHost.lean ====
section
/-!
DEFINITION. The host interface (07): the meaning of each command.
-/
namespace Sys2Proof.Machine

/-- HSL_EQ_SET (R248): Sets the HTX equaliser of named host lanes. -/
def execHslEqSet (dt : Nat) (rq : Request) (s : State) : Host.Outcome State Fault Refusal := request dt opHslEqSet rq s

/-- HSL_STATUS_READ (R274): Returns equaliser and status of named host lanes. -/
def execHslStatusRead (dt : Nat) (rq : Request) (s : State) : Host.Outcome State Fault Refusal := request dt opHslStatusRead rq s

/-- HSL_CONFIG (R275): Sets wake_hrx0. -/
def execHslConfig (dt : Nat) (rq : Request) (s : State) : Host.Outcome State Fault Refusal := request dt opHslConfig rq s

/-- HPC_PORT_SET (R260): Enables, disables or configures a host port in the port map. -/
def execHpcPortSet (dt : Nat) (rq : Request) (s : State) : Host.Outcome State Fault Refusal := request dt opHpcPortSet rq s

/-- HPC_PORT_READ (R274): Returns a port's map entry and status. -/
def execHpcPortRead (dt : Nat) (rq : Request) (s : State) : Host.Outcome State Fault Refusal := request dt opHpcPortRead rq s

/-- HPC_COUNT_READ (R276): Returns a port's counters and optionally clears them. -/
def execHpcCountRead (dt : Nat) (rq : Request) (s : State) : Host.Outcome State Fault Refusal := request dt opHpcCountRead rq s

/-- HPC_PTP_CONFIG (R274): Sets the per-port PTP correction enables. -/
def execHpcPtpConfig (dt : Nat) (rq : Request) (s : State) : Host.Outcome State Fault Refusal := request dt opHpcPtpConfig rq s

/-- HRX_LOSS_OF_SIGNAL (R249): An HRX lane below 50 mVppd for 1 µs declares loss of signal. -/
def execHrxLossOfSignal (dt : Nat) (l : Fin 16) (mv : Nat) (s : State) : Host.Outcome State Fault Refusal :=
  event dt (hrxLossOfSignal l.val mv) s

/-- HRX_SIGNAL_RESTORED (R249): An HRX lane above 75 mVppd for 10 µs clears loss of signal. -/
def execHrxSignalRestored (dt : Nat) (l : Fin 16) (mv : Nat) (s : State) : Host.Outcome State Fault Refusal :=
  event dt (hrxSignalRestored l.val mv) s

/-- HRX_LOCK_LOST (R249): An HRX lane loses lock under the criteria of R139. -/
def execHrxLockLost (dt : Nat) (l : Fin 16) (s : State) : Host.Outcome State Fault Refusal := event dt (hrxLockLost l.val) s

/-- HRX0_WAKE (R252): Activity on HRX0 for 100 µs wakes quad 0. -/
def execHrx0Wake (dt : Nat) (mv : Nat) (s : State) : Host.Outcome State Fault Refusal := event dt (hrx0Wake mv) s

/-- HOST_QUAD_RESTORE (R251): After HREF is accepted for 10 ms the quads relock and realign. -/
def execHostQuadRestore (dt : Nat) (s : State) : Host.Outcome State Fault Refusal := event dt hostQuadRestore s

/-- PORT_ALIGNED (R262): A port gains alignment-marker lock and deskew. -/
def execPortAligned (dt : Nat) (p : Fin 8) (s : State) : Host.Outcome State Fault Refusal := event dt (portAligned p.val) s

/-- PORT_ALIGNMENT_LOST (R262): A port loses alignment. -/
def execPortAlignmentLost (dt : Nat) (p : Fin 8) (s : State) : Host.Outcome State Fault Refusal :=
  event dt (loseAlignment p.val) s

/-- HOST_FRAME_RECEIVED (R266): A whole host frame is FCS-checked and classified as command, PTP, timed or best effort. -/
def execHostFrameReceived (dt : Nat) (p : Fin 8) (frac : Nat) (corr : Nat) (uncorr : Nat) (marked : Bool) (res : Nat) (frame : Bytes) (s : State) : Host.Outcome State Fault Refusal :=
  event dt (hostFrameIn p.val frac corr uncorr marked res frame) s

/-- HOST_FRAME_SEND (R265): A whole frame is sent on HTX after its gap. -/
def execHostFrameSend (dt : Nat) (p : Fin 8) (frac : Nat) (c2 : Option (Nat × Bytes)) (s : State) : Host.Outcome State Fault Refusal :=
  event dt (hostFrameSend p.val frac c2) s

/-- HRX_LOCK_REGAINED (R249): An HRX lane regains lock under the criteria of R139 and HSL_STATUS.lock rises. -/
def execHrxLockRegained (dt : Nat) (l : Fin 16) (s : State) : Host.Outcome State Fault Refusal :=
  event dt (hrxLockRegained l.val) s

/-- HOST_PLL_LOCK (R250): A host quad's PLLs lock after the quad is ready, letting HTX lanes leave squelch and setting
analogue readiness. -/
def execHostPllLock (dt : Nat) (q : Fin 4) (s : State) : Host.Outcome State Fault Refusal := event dt (hostPllLock q.val) s

end Sys2Proof.Machine
end

