-- ==== Sys2Proof/Machine/MeaningLanes.lean ====
section
/-!
DEFINITION. Line lanes (04): the meaning of each command.
-/
namespace Sys2Proof.Machine

/-- LTX_CONFIG (R160): Sets swing, invert and pre-distortion bypass of named lanes. -/
def execLtxConfig (dt : Nat) (rq : Request) (s : State) : Host.Outcome State Fault Refusal := request dt opLtxConfig rq s

/-- LTX_TAP_SET (R132): Applies seven transmit taps of named lanes at one symbol boundary. -/
def execLtxTapSet (dt : Nat) (rq : Request) (s : State) : Host.Outcome State Fault Refusal := request dt opLtxTapSet rq s

/-- LTX_LEVELS_SET (R160): Sets the inner levels of named lanes. -/
def execLtxLevelsSet (dt : Nat) (rq : Request) (s : State) : Host.Outcome State Fault Refusal := request dt opLtxLevelsSet rq s

/-- LTX_PD_LOAD (R130): Replaces all 64 pre-distortion entries of named lanes at one symbol boundary. -/
def execLtxPdLoad (dt : Nat) (rq : Request) (s : State) : Host.Outcome State Fault Refusal := request dt opLtxPdLoad rq s

/-- LRX_CONFIG (R160): Sets loss threshold, main position, invert, RSSE enable, CDR bandwidth and phase and convergence
margin. -/
def execLrxConfig (dt : Nat) (rq : Request) (s : State) : Host.Outcome State Fault Refusal := request dt opLrxConfig rq s

/-- LRX_ADAPT_SET (R141): Sets the adaptation modes and step exponents of named lanes. -/
def execLrxAdaptSet (dt : Nat) (rq : Request) (s : State) : Host.Outcome State Fault Refusal := request dt opLrxAdaptSet rq s

/-- LRX_EQ_SET (R144): Writes equaliser values of blocks in freeze or host mode at one symbol boundary. -/
def execLrxEqSet (dt : Nat) (rq : Request) (s : State) : Host.Outcome State Fault Refusal := request dt opLrxEqSet rq s

/-- LRX_EQ_READ (R160): Returns a lane's present equaliser values, status and measurements taken in one symbol. -/
def execLrxEqRead (dt : Nat) (rq : Request) (s : State) : Host.Outcome State Fault Refusal := request dt opLrxEqRead rq s

/-- LRX_MEAS_READ (R160): Returns per-lane measurements and optionally clears the bit counters. -/
def execLrxMeasRead (dt : Nat) (rq : Request) (s : State) : Host.Outcome State Fault Refusal := request dt opLrxMeasRead rq s

/-- LRX_HIST_RUN (R155): Clears a lane's histogram and counts samples of the selected point for 2^d symbols. -/
def execLrxHistRun (dt : Nat) (rq : Request) (s : State) : Host.Outcome State Fault Refusal := request dt opLrxHistRun rq s

/-- LRX_HIST_READ (R160): Returns histogram bins of a lane. -/
def execLrxHistRead (dt : Nat) (rq : Request) (s : State) : Host.Outcome State Fault Refusal := request dt opLrxHistRead rq s

/-- LRX_GTH_SELECT (R156): Selects the lane and point that feed Gather. -/
def execLrxGthSelect (dt : Nat) (rq : Request) (s : State) : Host.Outcome State Fault Refusal := request dt opLrxGthSelect rq s

/-- LRX_STORE_LIST (R160): Lists the valid stored equaliser sets of named lanes and mode. -/
def execLrxStoreList (dt : Nat) (rq : Request) (s : State) : Host.Outcome State Fault Refusal := request dt opLrxStoreList rq s

/-- LRX_STORE_SAVE (R149): Saves the present equaliser set of converged lanes at once. -/
def execLrxStoreSave (dt : Nat) (rq : Request) (s : State) : Host.Outcome State Fault Refusal := request dt opLrxStoreSave rq s

/-- LRX_STORE_ERASE (R160): Erases stored equaliser sets by lane, mode and peer tag. -/
def execLrxStoreErase (dt : Nat) (rq : Request) (s : State) : Host.Outcome State Fault Refusal := request dt opLrxStoreErase rq s

/-- LRX_SEED_LOAD (R160): Stores a host default seed for a lane and mode. -/
def execLrxSeedLoad (dt : Nat) (rq : Request) (s : State) : Host.Outcome State Fault Refusal := request dt opLrxSeedLoad rq s

/-- TX_PLL_LOCK (R124): A lane's transmit PLL locks and its output leaves squelch. -/
def execTxPllLock (dt : Nat) (n : Fin 8) (s : State) : Host.Outcome State Fault Refusal := event dt (txPllLock n.val) s

/-- LOSS_OF_SIGNAL (R139): A line lane's input stays below los_thr for 256 ns and loss of signal is declared. -/
def execLossOfSignal (dt : Nat) (n : Fin 8) (mv : Nat) (s : State) : Host.Outcome State Fault Refusal :=
  event dt (lossOfSignal n.val mv) s

/-- SIGNAL_RESTORED (R139): Loss of signal clears after 10 µs above 1.25 times the threshold. -/
def execSignalRestored (dt : Nat) (n : Fin 8) (mv : Nat) (s : State) : Host.Outcome State Fault Refusal :=
  event dt (signalRestored n.val mv) s

/-- LRX_LOCK_LOST (R139): Mean phase error above 0.25 UI for 500 ns drops CDR lock. -/
def execLrxLockLost (dt : Nat) (n : Fin 8) (freq : Int) (s : State) : Host.Outcome State Fault Refusal :=
  event dt (lrxLockLost n.val freq) s

/-- LRX_LOCK_REGAINED (R139): Phase error below 0.125 UI for 10 µs regains CDR lock. -/
def execLrxLockRegained (dt : Nat) (n : Fin 8) (s : State) : Host.Outcome State Fault Refusal :=
  event dt (lockRegainedLink n.val) s

/-- ADAPTATION_RESUME (R142): Adaptation resumes 10 µs after signal and lock are both good again. -/
def execAdaptationResume (dt : Nat) (n : Fin 8) (s : State) : Host.Outcome State Fault Refusal :=
  event dt (adaptationResume n.val) s

/-- SATURATION_INTERVAL (R135): Each 1 ms the ADC saturation ratio is judged and LRX_STATUS.sat updated. -/
def execSaturationInterval (dt : Nat) (n : Fin 8) (samples : Nat) (saturated : Nat) (s : State) : Host.Outcome State Fault Refusal :=
  event dt (saturationInterval n.val samples saturated) s

/-- SNR_UPDATE (R152): Each 1 ms a lane updates SNR, margin and frequency offset. -/
def execSnrUpdate (dt : Nat) (n : Fin 8) (ideal : Nat) (error : Nat) (freq : Int) (s : State) : Host.Outcome State Fault Refusal :=
  event dt (snrUpdate n.val ideal error freq) s

/-- PREFEC_UPDATE (R153): Every 100 ms the pre-FEC ratio over the preceding second is logged. -/
def execPrefecUpdate (dt : Nat) (n : Fin 8) (bits : Nat) (corr : Nat) (winBits : Nat) (winCorr : Nat) (uncorr : Nat) (fixed : Nat) (s : State) : Host.Outcome State Fault Refusal :=
  event dt (prefecUpdate n.val bits corr winBits winCorr uncorr fixed) s

/-- SEED_ATTEMPT_TIMEOUT (R148): A lane without training sync after 20 ms applies the next seed or CTLE setting. -/
def execSeedAttemptTimeout (dt : Nat) (n : Fin 8) (s : State) : Host.Outcome State Fault Refusal :=
  event dt (seedAttemptTimeout n.val) s

/-- LANE_CONVERGED (R148): A lane reports converged after three SNR updates at or above conv_margin. -/
def execLaneConverged (dt : Nat) (n : Fin 8) (s : State) : Host.Outcome State Fault Refusal :=
  event dt (laneConvergedLink n.val) s

/-- STORED_SET_AUTO_SAVE (R149): After 60 s converged in P5, and every 24 h after, a lane saves its set. -/
def execStoredSetAutoSave (dt : Nat) (n : Fin 8) (s : State) : Host.Outcome State Fault Refusal :=
  event dt (storedSetAutoSave n.val) s

/-- HIST_RUN_COMPLETE (R155): A histogram run ends after its symbol count or on loss of signal. -/
def execHistRunComplete (dt : Nat) (n : Fin 8) (symbols : Nat) (bins : List Nat) (s : State) : Host.Outcome State Fault Refusal :=
  event dt (histRunComplete n.val symbols bins) s

/-- TX_PLL_LOCK_LOST (R161): A line lane's transmit PLL loses lock, its output squelches and event 0x0301 is recorded. -/
def execTxPllLockLost (dt : Nat) (n : Fin 8) (s : State) : Host.Outcome State Fault Refusal :=
  event dt (txPllLockLost n.val) s

end Sys2Proof.Machine
end

