-- ==== Sys2Proof/Machine/MeaningLine.lean ====
section
/-!
DEFINITION. The line format (05): the meaning of each command.
-/
namespace Sys2Proof.Machine

/-- TIME_TRANSFER_REQUEST_RX (R199): A received time-transfer request is answered on the same lane position within 20 µs. -/
def execTimeTransferRequestRx (dt : Nat) (n : Fin 8) (t1 : Nat) (seq : Nat) (frac : Nat) (depart : Nat) (s : State) : Host.Outcome State Fault Refusal :=
  event dt (timeRequest n.val t1 seq frac depart) s

/-- LFM_CONFIG (R204): Sets a group's mode preference, C2 layout and STATUS period. -/
def execLfmConfig (dt : Nat) (rq : Request) (s : State) : Host.Outcome State Fault Refusal := request dt opLfmConfig rq s

/-- LFM_STATUS_READ (R204): Returns a group's framing configuration and status. -/
def execLfmStatusRead (dt : Nat) (rq : Request) (s : State) : Host.Outcome State Fault Refusal := request dt opLfmStatusRead rq s

/-- LFM_COUNT_READ (R205): Returns a group's framing counters and optionally clears them. -/
def execLfmCountRead (dt : Nat) (rq : Request) (s : State) : Host.Outcome State Fault Refusal := request dt opLfmCountRead rq s

/-- LANE_FRAME_BOUNDARY (R172): A new lane frame begins on every lane of a group with its alignment marker. -/
def execLaneFrameBoundary (dt : Nat) (g : Fin 2) (frac : Nat) (s : State) : Host.Outcome State Fault Refusal :=
  event dt (laneFrameBoundary g.val frac) s

/-- AM_RECEIVED (R175): A received alignment marker is checked for lock, alignment, mask and generation. -/
def execAmReceived (dt : Nat) (n : Fin 8) (marker : Bytes) (inStep : Bool) (skew : Nat) (s : State) : Host.Outcome State Fault Refusal :=
  event dt (amReceived n.val marker inStep skew) s

/-- AM_NOT_FOUND (R182): No sync word within 2A + 256 symbols counts the AM missing. -/
def execAmNotFound (dt : Nat) (n : Fin 8) (s : State) : Host.Outcome State Fault Refusal := event dt (amNotFound n.val) s

/-- CELL_RECEIVED (R185): A received cell has its header check verified and is dispatched by type. -/
def execCellReceived (dt : Nat) (g : Fin 2) (on : Nat) (header : Nat) (payload : Bytes) (frac : Nat) (depart : Nat) (stuff : Nat × List Nat) (s : State) : Host.Outcome State Fault Refusal :=
  event dt (cellReceived g.val on header payload frac depart stuff.1 stuff.2) s

/-- STATUS_RECEIVED (R196): A STATUS OAM cell updates the peer's pace, floor, mask and loss flags. -/
def execStatusReceived (dt : Nat) (g : Fin 2) (pace : Nat) (floor : Nat) (flags : Nat) (s : State) : Host.Outcome State Fault Refusal :=
  event dt (statusReceived g.val pace floor flags) s

/-- STATUS_PERIOD (R195): Every status_period a STATUS OAM cell is queued. -/
def execStatusPeriod (dt : Nat) (g : Fin 2) (s : State) : Host.Outcome State Fault Refusal := event dt (statusPeriod g.val) s

/-- CORE_LOST_REPORT (R197): Loss of D14 or HREF on the side-band queues a STATUS with the flag within 1 µs. -/
def execCoreLostReport (dt : Nat) (cause : Fin 2) (s : State) : Host.Outcome State Fault Refusal :=
  event dt (coreLostReport cause.val) s

/-- REMAP_POINT_REACHED (R168): At the remap point the new active mask takes effect. -/
def execRemapPointReached (dt : Nat) (g : Fin 2) (dir : Fin 2) (s : State) : Host.Outcome State Fault Refusal :=
  event dt (remapPoint g.val dir.val) s

end Sys2Proof.Machine
end

