-- ==== Sys2Proof/Machine/MeaningLink.lean ====
section
/-!
DEFINITION. Link bring-up (06): the meaning of each command.
-/
namespace Sys2Proof.Machine

/-- CAPS_RECEIVED (R232): A CAPS message is answered with CAPS_ACK and its peer tag checked. -/
def execCapsReceived (dt : Nat) (g : Fin 2) (tag : Nat) (version : Nat) (mode : Nat) (mask : Nat) (floor : Nat) (pace : Nat) (contrib : Nat) (features : Nat) (s : State) : Host.Outcome State Fault Refusal :=
  event dt (capsReceived g.val tag version mode mask floor pace contrib features) s

/-- CAPS_ACK_RECEIVED (R233): A CAPS_ACK with result 0 leads to SEED_START, otherwise failure reason 6. -/
def execCapsAckReceived (dt : Nat) (g : Fin 2) (result : Nat) (s : State) : Host.Outcome State Fault Refusal :=
  event dt (capsAckReceived g.val result) s

/-- SEED_START_RECEIVED (R233): A SEED_START names the peer's frame from which its seed applies. -/
def execSeedStartReceived (dt : Nat) (g : Fin 2) (frame : Nat) (s : State) : Host.Outcome State Fault Refusal :=
  event dt (seedStartReceived g.val frame) s

/-- READY_RECEIVED (R234): The peer's READY, once this end has sent READY, moves the group to P5. -/
def execReadyReceived (dt : Nat) (g : Fin 2) (s : State) : Host.Outcome State Fault Refusal :=
  event dt (readyReceived g.val) s

/-- ABORT_RECEIVED (R209): A peer ABORT fails the group with reason 5. -/
def execAbortReceived (dt : Nat) (g : Fin 2) (s : State) : Host.Outcome State Fault Refusal :=
  event dt (abortReceived g.val) s

/-- LANE_TRAIN_RECEIVED (R242): A LANE_TRAIN message drives in-service retraining of a lane through its phases. -/
def execLaneTrainReceived (dt : Nat) (g : Fin 2) (p : Fin 4) (phase : Nat) (frame : Nat) (s : State) : Host.Outcome State Fault Refusal :=
  event dt (laneTrain g.val p.val phase frame) s

/-- LNK_CONFIG (R244): Sets min_lanes, enable, wake_tx, wake_light and auto_rejoin of a group. -/
def execLnkConfig (dt : Nat) (rq : Request) (s : State) : Host.Outcome State Fault Refusal := request dt opLnkConfig rq s

/-- LNK_UP (R211): Moves a group in P0 to P1 and sets enable for this power cycle. -/
def execLnkUp (dt : Nat) (rq : Request) (s : State) : Host.Outcome State Fault Refusal := request dt opLnkUp rq s

/-- LNK_DOWN (R211): Moves a group to P0 from any stage and squelches its transmitters. -/
def execLnkDown (dt : Nat) (rq : Request) (s : State) : Host.Outcome State Fault Refusal := request dt opLnkDown rq s

/-- LNK_RESTART (R211): Returns a group in P1 to P5 to P1 with reason 12. -/
def execLnkRestart (dt : Nat) (rq : Request) (s : State) : Host.Outcome State Fault Refusal := request dt opLnkRestart rq s

/-- LNK_STATUS_READ (R244): Returns a group's bring-up configuration, status, peer and counters. -/
def execLnkStatusRead (dt : Nat) (rq : Request) (s : State) : Host.Outcome State Fault Refusal := request dt opLnkStatusRead rq s

/-- LNK_LANE_REJOIN (R241): Starts in-service retraining of named lanes outside the mask. -/
def execLnkLaneRejoin (dt : Nat) (rq : Request) (s : State) : Host.Outcome State Fault Refusal := request dt opLnkLaneRejoin rq s

/-- LNK_WAKE_CONFIG (R238): Sets the peer tag filter for line wakes. -/
def execLnkWakeConfig (dt : Nat) (rq : Request) (s : State) : Host.Outcome State Fault Refusal := request dt opLnkWakeConfig rq s

/-- SPROUT_BURST_START (R215): Every 2 s in P1 each lane starts a 10 ms burst of sprout frames. -/
def execSproutBurstStart (dt : Nat) (g : Fin 2) (s : State) : Host.Outcome State Fault Refusal :=
  event dt (burstStart g.val) s

/-- SPROUT_BURST_END (R215): A 10 ms sprout burst ends and the transmitter returns to LIT. -/
def execSproutBurstEnd (dt : Nat) (g : Fin 2) (s : State) : Host.Outcome State Fault Refusal := event dt (burstEnd g.val) s

/-- SPROUT_FRAME_RECEIVED (R214): A sprout frame is validated and counts toward peer detection. -/
def execSproutFrameReceived (dt : Nat) (n : Fin 8) (clean : Bool) (bits : Nat) (s : State) : Host.Outcome State Fault Refusal :=
  event dt (sproutFrame n.val clean bits) s

/-- P2_START (R219): P2 starts once every lane's PLL has locked at the agreed mode. -/
def execP2Start (dt : Nat) (g : Fin 2) (s : State) : Host.Outcome State Fault Refusal := event dt (p2Start g.val) s

/-- TRAINING_FRAME_RECEIVED (R222): A training frame's marker, control word and PRBS are processed. -/
def execTrainingFrameReceived (dt : Nat) (n : Fin 8) (marker : Bool) (wrong : Nat) (control : Nat) (s : State) : Host.Outcome State Fault Refusal :=
  event dt (trainingFrame n.val marker wrong control) s

/-- P2_TIME_LIMIT (R208): P2 reaches 300 ms and proposes exit or fails with reason 1. -/
def execP2TimeLimit (dt : Nat) (g : Fin 2) (s : State) : Host.Outcome State Fault Refusal := event dt (p2Limit g.val) s

/-- P3_TIME_LIMIT (R208): P3 reaches 5 ms and fails with reason 3. -/
def execP3TimeLimit (dt : Nat) (g : Fin 2) (s : State) : Host.Outcome State Fault Refusal := event dt (p3Limit g.val) s

/-- P4_MESSAGE_REPEAT (R231): Every 100 µs unended P4 messages are repeated. -/
def execP4MessageRepeat (dt : Nat) (g : Fin 2) (s : State) : Host.Outcome State Fault Refusal := event dt (p4Repeat g.val) s

/-- P4_TIME_LIMIT (R208): P4 reaches 20 ms and fails with reason 4. -/
def execP4TimeLimit (dt : Nat) (g : Fin 2) (s : State) : Host.Outcome State Fault Refusal := event dt (p4Limit g.val) s

/-- BACKOFF_END (R210): The backoff ends and P1 resumes with a burst. -/
def execBackoffEnd (dt : Nat) (g : Fin 2) (s : State) : Host.Outcome State Fault Refusal := event dt (backoffEnd g.val) s

/-- FAILURE_COUNT_RESET (R210): After 10 s in P5 the failure count k returns to 0. -/
def execFailureCountReset (dt : Nat) (g : Fin 2) (s : State) : Host.Outcome State Fault Refusal :=
  event dt (failureCountReset g.val) s

/-- GROUP_SIGNAL_LOSS_FAILURE (R209): Loss of signal on every lane for 1 ms in P2 to P4 fails with reason 8. -/
def execGroupSignalLossFailure (dt : Nat) (g : Fin 2) (s : State) : Host.Outcome State Fault Refusal :=
  event dt (signalLossFailure g.val) s

/-- SPROUT_WAKE (R238): Two wake-flagged sprout frames on a sleeping group signal a wake. -/
def execSproutWake (dt : Nat) (n : Fin 8) (tag : Nat) (s : State) : Host.Outcome State Fault Refusal :=
  event dt (sproutWake n.val tag) s

/-- LIGHT_WAKE (R238): Input above los_thr for 1 ms with wake_light set signals a wake. -/
def execLightWake (dt : Nat) (n : Fin 8) (mv : Nat) (s : State) : Host.Outcome State Fault Refusal :=
  event dt (lightWake n.val mv) s

/-- C2_P1_CHECK (R236): In C2 a lane passes P1 after 10 ms without loss of signal, PLL locked and in EMIT. -/
def execC2P1Check (dt : Nat) (n : Fin 8) (s : State) : Host.Outcome State Fault Refusal := event dt (c2P1Check n.val) s

/-- C2_P3_TIMEOUT (R236): A C2 lane not aligned within 305 ms of P3 fails. -/
def execC2P3Timeout (dt : Nat) (n : Fin 8) (s : State) : Host.Outcome State Fault Refusal := event dt (c2P3Timeout n.val) s

/-- AUTO_REJOIN_TIMER (R241): 1 s after leaving the mask a lane without lock retrains automatically. -/
def execAutoRejoinTimer (dt : Nat) (n : Fin 8) (s : State) : Host.Outcome State Fault Refusal :=
  event dt (autoRejoin n.val) s

/-- LANE_RETRAIN_TIMEOUT (R242): A retraining not rejoined by 310 ms returns the lane to idle codewords. -/
def execLaneRetrainTimeout (dt : Nat) (n : Fin 8) (s : State) : Host.Outcome State Fault Refusal :=
  event dt (retrainTimeout n.val) s

end Sys2Proof.Machine
end

