-- ==== Sys2Proof/Machine/MeaningMcv.lean ====
section
/-!
DEFINITION. Monitor conversion (15): the meaning of each command.
-/
namespace Sys2Proof.Machine

/-- MCV_CONFIG (R481): Sets mains source, fallback and plausibility tolerance. -/
def execMcvConfig (dt : Nat) (rq : Request) (s : State) : Host.Outcome State Fault Refusal := request dt opMcvConfig rq s

/-- MCV_SEQ_LOAD (R469): Writes sequence entries and optionally declares the table. -/
def execMcvSeqLoad (dt : Nat) (rq : Request) (s : State) : Host.Outcome State Fault Refusal := request dt opMcvSeqLoad rq s

/-- MCV_SEQ_STORE (R471): Copies the declared sequence table to non-volatile memory. -/
def execMcvSeqStore (dt : Nat) (rq : Request) (s : State) : Host.Outcome State Fault Refusal := request dt opMcvSeqStore rq s

/-- MCV_SEQ_READ (R481): Returns sequence entries. -/
def execMcvSeqRead (dt : Nat) (rq : Request) (s : State) : Host.Outcome State Fault Refusal := request dt opMcvSeqRead rq s

/-- MCV_RESULT_READ (R481): Returns tags and results of named entries. -/
def execMcvResultRead (dt : Nat) (rq : Request) (s : State) : Host.Outcome State Fault Refusal := request dt opMcvResultRead rq s

/-- MCV_PLAUS_RUN (R477): Runs plausibility rounds on named pairs. -/
def execMcvPlausRun (dt : Nat) (rq : Request) (s : State) : Host.Outcome State Fault Refusal := request dt opMcvPlausRun rq s

/-- MCV_UNQUARANTINE (R479): Runs 8 rounds to release a quarantined converter. -/
def execMcvUnquarantine (dt : Nat) (rq : Request) (s : State) : Host.Outcome State Fault Refusal := request dt opMcvUnquarantine rq s

/-- MCV_STATUS_READ (R482): Returns MCV registers and optionally clears counters. -/
def execMcvStatusRead (dt : Nat) (rq : Request) (s : State) : Host.Outcome State Fault Refusal := request dt opMcvStatusRead rq s

/-- SUPPRESSION_END (R467): A converter's suppression time ends and windows begin. -/
def execSuppressionEnd (dt : Nat) (c : Fin 4) (s : State) : Host.Outcome State Fault Refusal :=
  event dt (suppressionEnd c.val) s

/-- CONVERSION_WINDOW_END (R474): A converter window ends and its result and tag are written. -/
def execConversionWindowEnd (dt : Nat) (c : Fin 4) (ones : Nat) (periods : Nat) (fir : Nat) (s : State) : Host.Outcome State Fault Refusal :=
  event dt (conversionWindowEnd c.val ones periods fir) s

/-- ENTRY_DELAY_END (R467): An entry's delay ends and the converter moves to its next entry. -/
def execEntryDelayEnd (dt : Nat) (c : Fin 4) (s : State) : Host.Outcome State Fault Refusal :=
  event dt (entryDelayEnd c.val) s

/-- MAINS_EDGE (R464): An accepted rising edge on MAINS_SNS starts a mains cycle. -/
def execMainsEdge (dt : Nat) (s : State) : Host.Outcome State Fault Refusal := event dt mainsEdge s

/-- MAINS_TIMEOUT (R465): No edge for 25 ms makes the mains period invalid. -/
def execMainsTimeout (dt : Nat) (s : State) : Host.Outcome State Fault Refusal := event dt mainsTimeout s

/-- PLAUS_ROUND_END (R476): A 4004 µs plausibility round ends and is judged. -/
def execPlausRoundEnd (dt : Nat) (pair : Fin 2) (a33 : Nat) (b33 : Nat) (a34 : Nat) (b34 : Nat) (s : State) : Host.Outcome State Fault Refusal :=
  event dt (plausRoundEnd pair.val a33 b33 a34 b34) s

end Sys2Proof.Machine
end

