-- ==== Sys2Proof/Machine/MeaningMem.lean ====
section
/-!
DEFINITION. Memory integrity (17): the meaning of each command.
-/
namespace Sys2Proof.Machine

/-- MEM_TABLE_FILL (R512): Fills a host-owned table with a pattern and optionally declares it. -/
def execMemTableFill (dt : Nat) (rq : Request) (s : State) : Host.Outcome State Fault Refusal := request dt opMemTableFill rq s

/-- MEM_TABLE_DECLARE (R511): Declares a fully written host-owned table. -/
def execMemTableDeclare (dt : Nat) (rq : Request) (s : State) : Host.Outcome State Fault Refusal := request dt opMemTableDeclare rq s

/-- MEM_CONFIG (R519): Sets the scrub lap thresholds. -/
def execMemConfig (dt : Nat) (rq : Request) (s : State) : Host.Outcome State Fault Refusal := request dt opMemConfig rq s

/-- MEM_STATUS_READ (R520): Returns MEM registers and optionally clears counters. -/
def execMemStatusRead (dt : Nat) (rq : Request) (s : State) : Host.Outcome State Fault Refusal := request dt opMemStatusRead rq s

/-- MEM_LOG_READ (R509): Returns the error log newest first. -/
def execMemLogRead (dt : Nat) (rq : Request) (s : State) : Host.Outcome State Fault Refusal := request dt opMemLogRead rq s

/-- MEM_REPAIR_READ (R519): Returns the repair map of a memory. -/
def execMemRepairRead (dt : Nat) (rq : Request) (s : State) : Host.Outcome State Fault Refusal := request dt opMemRepairRead rq s

/-- SCRUB_VISIT (R515): The scrubber reads a word, writes back corrections and updates pol_aged. -/
def execScrubVisit (dt : Nat) (w : ScrubWord) (s : State) : Host.Outcome State Fault Refusal := event dt (scrubVisit w) s

/-- SCRUB_LAP_COMPLETE (R516): A scrub lap ends and its length is reported against the threshold. -/
def execScrubLapComplete (dt : Nat) (r : Fin 5) (s : State) : Host.Outcome State Fault Refusal := event dt (scrubLap r.val) s

end Sys2Proof.Machine
end

