-- ==== Sys2Proof/Machine/MeaningPower.lean ====
section
/-!
DEFINITION. Power and self-test (18): the meaning of each command.
-/
namespace Sys2Proof.Machine

/-- PWR_DOMAIN_READ (R547): Returns domain, start and Lehr registers. -/
def execPwrDomainRead (dt : Nat) (rq : Request) (s : State) : Host.Outcome State Fault Refusal := request dt opPwrDomainRead rq s

/-- PWR_WAKE (R524): Wakes named domains. -/
def execPwrWake (dt : Nat) (rq : Request) (s : State) : Host.Outcome State Fault Refusal := request dt opPwrWake rq s

/-- PWR_SLEEP (R528): Takes named domains down in two phases or resumes them on refusal. -/
def execPwrSleep (dt : Nat) (rq : Request) (s : State) : Host.Outcome State Fault Refusal := request dt opPwrSleep rq s

/-- PWR_FENCE (R527): Fences or releases named domains. -/
def execPwrFence (dt : Nat) (rq : Request) (s : State) : Host.Outcome State Fault Refusal := request dt opPwrFence rq s

/-- PWR_DOMAIN_RESET (R547): Clears a domain's fence and failure count and resets it. -/
def execPwrDomainReset (dt : Nat) (rq : Request) (s : State) : Host.Outcome State Fault Refusal := request dt opPwrDomainReset rq s

/-- PWR_LEHR_RUN (R544): Runs Lehr as shut-down or on one domain in service. -/
def execPwrLehrRun (dt : Nat) (rq : Request) (s : State) : Host.Outcome State Fault Refusal := request dt opPwrLehrRun rq s

/-- PWR_LEHR_READ (R547): Returns a stored Lehr record. -/
def execPwrLehrRead (dt : Nat) (rq : Request) (s : State) : Host.Outcome State Fault Refusal := request dt opPwrLehrRead rq s

/-- PWR_CONFIG (R547): Sets quick_en. -/
def execPwrConfig (dt : Nat) (rq : Request) (s : State) : Host.Outcome State Fault Refusal := request dt opPwrConfig rq s

/-- DOMAIN_WAKE_SOURCE (R524): A wake source starts waking an off domain within 10 µs. -/
def execDomainWakeSource (dt : Nat) (d : Fin 20) (cause : Fin 4) (s : State) : Host.Outcome State Fault Refusal :=
  event dt (wakeSource d.val cause.val) s

/-- DOMAIN_READY (R523): A waking domain completes fill and repair, reports ready and delivers queued packets. -/
def execDomainReady (dt : Nat) (d : Fin 20) (s : State) : Host.Outcome State Fault Refusal := event dt (domainReady d.val) s

/-- DOMAIN_FAILURE (R526): A rail or heartbeat failure fences and re-powers a domain. -/
def execDomainFailure (dt : Nat) (d : Fin 20) (cause : Fin 2) (s : State) : Host.Outcome State Fault Refusal :=
  event dt (domainFailure d.val cause.val) s

/-- DOMAIN_PREPARE_ANSWER (R529): An asked domain stops or refuses to prepare for sleep. -/
def execDomainPrepareAnswer (dt : Nat) (d : Fin 20) (s : State) : Host.Outcome State Fault Refusal :=
  event dt (prepareAnswer d.val) s

/-- LOW_POWER_IDLE_SLEEP (R524): Under low power a domain woken by access sleeps after 10 ms idle. -/
def execLowPowerIdleSleep (dt : Nat) (d : Fin 20) (s : State) : Host.Outcome State Fault Refusal :=
  event dt (lowPowerIdle d.val) s

/-- LOW_POWER_ENTER (R532): LPMODE or LowPwrRequestSW puts groups in P0, lowers FES targets and sleeps lane and core
domains. -/
def execLowPowerEnter (dt : Nat) (s : State) : Host.Outcome State Fault Refusal := resetEvent dt lowPowerEnter s

/-- LOW_POWER_EXIT (R533): End of low power wakes D14 and enabled groups and restores FES targets. -/
def execLowPowerExit (dt : Nat) (s : State) : Host.Outcome State Fault Refusal := resetEvent dt lowPowerExit s

/-- COLD_START (R534): Power-up or MODRSTL runs the cold start through boot, quick or full start and domain wake. -/
def execColdStart (dt : Nat) (bad : List (Nat × Nat)) (supplies : List Nat) (found : List LehrRegion) (s : State) : Host.Outcome State Fault Refusal :=
  resetEvent dt (coldStart bad supplies found) s

/-- SUPPLY_OUT_OF_WINDOW (R534): A supply out of window for 10 µs resets the device. -/
def execSupplyOutOfWindow (dt : Nat) (k : Fin 5) (extreme : Nat) (micros : Nat) (vio : Bool) (torn : Bool) (s : State) : Host.Outcome State Fault Refusal :=
  resetEvent dt (supplyOut k.val extreme micros vio torn) s

/-- COMMAND_READY (R534): The device reaches command-ready after boot. -/
def execCommandReady (dt : Nat) (s : State) : Host.Outcome State Fault Refusal := event dt commandReady s

/-- LEHR_PRECONDITION_CHECK (R537): Every 1 ms during Lehr the preconditions are checked. -/
def execLehrPreconditionCheck (dt : Nat) (mv : Nat) (tLow : Int) (tHigh : Int) (found : List LehrRegion) (s : State) : Host.Outcome State Fault Refusal :=
  event dt (lehrCheck mv tLow tHigh found) s

/-- LEHR_COMPLETE (R540): A Lehr run completes and its record is committed. -/
def execLehrComplete (dt : Nat) (found : List LehrRegion) (s : State) : Host.Outcome State Fault Refusal :=
  event dt (lehrComplete found) s

end Sys2Proof.Machine
end

