-- ==== Sys2Proof/Machine/MeaningRdn.lean ====
section
/-!
DEFINITION. Redundancy (10): the meaning of each command.
-/
namespace Sys2Proof.Machine

/-- REMAP_RECEIVED (R351): A REMAP is applied to the receive direction at its point and answered with REMAP_ACK. -/
def execRemapReceived (dt : Nat) (g : Fin 2) (gen : Nat) (mask : Nat) (frame : Nat) (q : Nat) (reason : Nat) (s : State) : Host.Outcome State Fault Refusal :=
  event dt (remapReceived g.val gen mask frame q reason) s

/-- REMAP_ACK_RECEIVED (R351): A REMAP_ACK confirms or refuses a pending remap. -/
def execRemapAckReceived (dt : Nat) (g : Fin 2) (gen : Nat) (s : State) : Host.Outcome State Fault Refusal :=
  event dt (remapAckReceived g.val gen) s

/-- LANE_HEALTH_RECEIVED (R354): A LANE_HEALTH cell reports the peer's healthy and failed receive lanes. -/
def execLaneHealthReceived (dt : Nat) (g : Fin 2) (healthy : Nat) (failed : Nat) (s : State) : Host.Outcome State Fault Refusal :=
  event dt (laneHealthReceived g.val healthy failed) s

/-- LANE_HEALTH_PERIOD (R354): Every 1 ms in P5 a LANE_HEALTH OAM cell is sent. -/
def execLaneHealthPeriod (dt : Nat) (g : Fin 2) (s : State) : Host.Outcome State Fault Refusal :=
  event dt (laneHealthPeriod g.val) s

/-- REASSEMBLY_TIMEOUT (R347): An incomplete frame is discarded at reasm_us or its release moment. -/
def execReassemblyTimeout (dt : Nat) (flow : Nat) (s : State) : Host.Outcome State Fault Refusal :=
  event dt (reassemblyTimeout flow) s

/-- RDN_CONFIG (R366): Sets revert_s, reasm_us, burst_n and auto_join. -/
def execRdnConfig (dt : Nat) (rq : Request) (s : State) : Host.Outcome State Fault Refusal := request dt opRdnConfig rq s

/-- RDN_LANE_SET (R352): Sheds or joins named lanes of a group's transmit mask. -/
def execRdnLaneSet (dt : Nat) (rq : Request) (s : State) : Host.Outcome State Fault Refusal := request dt opRdnLaneSet rq s

/-- RDN_REVERT (R358): Returns rerouted flows to their preferred group at once. -/
def execRdnRevert (dt : Nat) (rq : Request) (s : State) : Host.Outcome State Fault Refusal := request dt opRdnRevert rq s

/-- RDN_STATUS_READ (R367): Returns redundancy status and counters and optionally clears them. -/
def execRdnStatusRead (dt : Nat) (rq : Request) (s : State) : Host.Outcome State Fault Refusal := request dt opRdnStatusRead rq s

/-- RDN_FAULT_INJECT (R366): Makes a receive lane declare failure for a duration. -/
def execRdnFaultInject (dt : Nat) (rq : Request) (s : State) : Host.Outcome State Fault Refusal := request dt opRdnFaultInject rq s

/-- FAULT_INJECT_END (R366): The injected lane failure duration ends. -/
def execFaultInjectEnd (dt : Nat) (n : Fin 8) (s : State) : Host.Outcome State Fault Refusal :=
  event dt (faultInjectEnd n.val) s

/-- LANE_FAIL_DECLARE (R350): A side-band cause declares a receive lane failed and a REMAP is queued. -/
def execLaneFailDeclare (dt : Nat) (n : Fin 8) (cause : Nat) (codewords : Nat) (s : State) : Host.Outcome State Fault Refusal :=
  event dt (laneFailDeclare n.val cause codewords) s

/-- REMAP_ACK_TIMEOUT (R355): No REMAP_ACK within 2P + 100 µs counts RDN_NOACK. -/
def execRemapAckTimeout (dt : Nat) (g : Fin 2) (s : State) : Host.Outcome State Fault Refusal :=
  event dt (remapAckTimeout g.val) s

/-- GROUP_LOSS (R353): A lost group returns to P1 with reason 10 and abandons its pending REMAP. -/
def execGroupLoss (dt : Nat) (g : Fin 2) (cause : Fin 3) (s : State) : Host.Outcome State Fault Refusal :=
  event dt (groupLoss g.val cause.val) s

/-- RX_HISTORY_CLEAR (R348): Within 1 ms of the last usable group leaving P5, rx_hist of affected contexts is cleared. -/
def execRxHistoryClear (dt : Nat) (s : State) : Host.Outcome State Fault Refusal := event dt rxHistoryClear s

/-- REVERT_HOLD_EXPIRY (R358): After revert_s with the preferred group's promise in force, flows return to it. -/
def execRevertHoldExpiry (dt : Nat) (g : Fin 2) (s : State) : Host.Outcome State Fault Refusal :=
  event dt (revertHoldExpiry g.val) s

/-- REVERT_GAP_END (R358): After the class B revert gap the next cell issues on the preferred group. -/
def execRevertGapEnd (dt : Nat) (g : Fin 2) (s : State) : Host.Outcome State Fault Refusal := event dt (revertGapEnd g.val) s

end Sys2Proof.Machine
end

