-- ==== Sys2Proof/Machine/MeaningRecords.lean ====
section
/-!
DEFINITION. Records and security (19, 20): the meaning of each command.
-/
namespace Sys2Proof.Machine

/-- RATE_LIMITED_EVENT_REPORT (R604): At the end of a whole second of DTIME an event that reports a count for that second is
recorded. -/
def execRateLimitedEventReport (dt : Nat) (s : State) : Host.Outcome State Fault Refusal := event dt reportCounts s

/-- SEC_ID_READ (R564): Returns the unit identity. -/
def execSecIdRead (dt : Nat) (rq : Request) (s : State) : Host.Outcome State Fault Refusal := request dt opSecIdRead rq s

/-- SEC_CERT_READ (R565): Returns a piece of a certificate. -/
def execSecCertRead (dt : Nat) (rq : Request) (s : State) : Host.Outcome State Fault Refusal := request dt opSecCertRead rq s

/-- SEC_ATTEST (R575): Returns a signed attestation report. -/
def execSecAttest (dt : Nat) (rq : Request) (s : State) : Host.Outcome State Fault Refusal := request dt opSecAttest rq s

/-- SEC_KEY_ENROLL (R568): Enrols an owner key in a slot. -/
def execSecKeyEnroll (dt : Nat) (rq : Request) (s : State) : Host.Outcome State Fault Refusal := request dt opSecKeyEnroll rq s

/-- SEC_KEY_REVOKE (R568): Revokes an owner key slot. -/
def execSecKeyRevoke (dt : Nat) (rq : Request) (s : State) : Host.Outcome State Fault Refusal := request dt opSecKeyRevoke rq s

/-- SEC_KEY_READ (R578): Returns the owner key slots. -/
def execSecKeyRead (dt : Nat) (rq : Request) (s : State) : Host.Outcome State Fault Refusal := request dt opSecKeyRead rq s

/-- SEC_FW_WRITE (R573): Writes the inactive firmware slot. -/
def execSecFwWrite (dt : Nat) (rq : Request) (s : State) : Host.Outcome State Fault Refusal := request dt opSecFwWrite rq s

/-- SEC_FW_ACTIVATE (R573): Verifies the inactive slot and restarts into it on trial. -/
def execSecFwActivate (dt : Nat) (rq : Request) (s : State) : Host.Outcome State Fault Refusal := request dt opSecFwActivate rq s

/-- SEC_FW_COMMIT (R572): Ends the trial and raises the anti-rollback counter. -/
def execSecFwCommit (dt : Nat) (rq : Request) (s : State) : Host.Outcome State Fault Refusal := request dt opSecFwCommit rq s

/-- SEC_COSIGN_SET (R572): Sets or clears the co-signing requirement. -/
def execSecCosignSet (dt : Nat) (rq : Request) (s : State) : Host.Outcome State Fault Refusal := request dt opSecCosignSet rq s

/-- SEC_DEBUG_UNLOCK (R576): Unlocks test access until the next cold start or warm reset. -/
def execSecDebugUnlock (dt : Nat) (rq : Request) (s : State) : Host.Outcome State Fault Refusal := request dt opSecDebugUnlock rq s

/-- SEC_FW_STATUS (R578): Returns firmware slot status. -/
def execSecFwStatus (dt : Nat) (rq : Request) (s : State) : Host.Outcome State Fault Refusal := request dt opSecFwStatus rq s

/-- SEC_CONFIG (R578): Sets trial_s. -/
def execSecConfig (dt : Nat) (rq : Request) (s : State) : Host.Outcome State Fault Refusal := request dt opSecConfig rq s

/-- TRIAL_TIMEOUT (R573): An uncommitted trial reverts to the fallback slot or recovery after trial_s. -/
def execTrialTimeout (dt : Nat) (s : State) : Host.Outcome State Fault Refusal := event dt trialTimeout s

/-- RANDOM_HEALTH_FAIL (R566): A random source health test fails. -/
def execRandomHealthFail (dt : Nat) (test : Nat) (s : State) : Host.Outcome State Fault Refusal :=
  event dt (randomHealthFail test) s

/-- EVR_INFO (R578): Returns ring and staging information and counts. -/
def execEvrInfo (dt : Nat) (rq : Request) (s : State) : Host.Outcome State Fault Refusal := request dt opEvrInfo rq s

/-- EVR_READ (R578): Returns whole records from the ring or staging. -/
def execEvrRead (dt : Nat) (rq : Request) (s : State) : Host.Outcome State Fault Refusal := request dt opEvrRead rq s

/-- EVR_CONFIG (R555): Sets merge_ms, snap_int and interrupt match entries. -/
def execEvrConfig (dt : Nat) (rq : Request) (s : State) : Host.Outcome State Fault Refusal := request dt opEvrConfig rq s

/-- EVR_SNAP_SET (R551): Sets a snapshot set's code, mask and addresses. -/
def execEvrSnapSet (dt : Nat) (rq : Request) (s : State) : Host.Outcome State Fault Refusal := request dt opEvrSnapSet rq s

/-- EVR_FLUSH (R578): Commits every staged record at once. -/
def execEvrFlush (dt : Nat) (rq : Request) (s : State) : Host.Outcome State Fault Refusal := request dt opEvrFlush rq s

/-- EVR_ERASE (R577): Erases the event ring. -/
def execEvrErase (dt : Nat) (rq : Request) (s : State) : Host.Outcome State Fault Refusal := request dt opEvrErase rq s

/-- EVENT_DELIVER (R549): An event on the bus is staged as a code or snapshot record, merged or dropped. -/
def execEventDeliver (dt : Nat) (s : State) : Host.Outcome State Fault Refusal := event dt eventDeliver s

/-- PAGE_COMMIT (R557): Staged records are committed to the next event ring page. -/
def execPageCommit (dt : Nat) (s : State) : Host.Outcome State Fault Refusal := event dt pageCommit s

/-- OPTIME_CHECKPOINT (R550): Every 60 s operating time is checkpointed to non-volatile memory. -/
def execOptimeCheckpoint (dt : Nat) (s : State) : Host.Outcome State Fault Refusal := event dt optimeCheckpoint s

/-- RANDOM_HEALTH_RESTORED (R566): The random source's continuous health tests pass again and commands needing fresh random
values are accepted once more. -/
def execRandomHealthRestored (dt : Nat) (s : State) : Host.Outcome State Fault Refusal := event dt randomHealthRestored s

end Sys2Proof.Machine
end

