-- ==== Sys2Proof/Machine/MeaningTds.lean ====
section
/-!
DEFINITION. Timed delivery (09): the meaning of each command.
-/
namespace Sys2Proof.Machine

/-- DELAY_RECEIVED (R325): A DELAY cell is compared with the local D for the class C promise. -/
def execDelayReceived (dt : Nat) (g : Fin 2) (delay : Nat) (s : State) : Host.Outcome State Fault Refusal :=
  event dt (delayReceived g.val delay) s

/-- DELAY_PERIOD (R325): Every 100 ms a DELAY OAM cell is sent. -/
def execDelayPeriod (dt : Nat) (g : Fin 2) (s : State) : Host.Outcome State Fault Refusal := event dt (delayPeriod g.val) s

/-- TDS_ADMIT (R312): Admits named flows against slot budget, timed cap and standby checks. -/
def execTdsAdmit (dt : Nat) (rq : Request) (s : State) : Host.Outcome State Fault Refusal := request dt opTdsAdmit rq s

/-- TDS_WITHDRAW (R314): Withdraws the admission of named flows. -/
def execTdsWithdraw (dt : Nat) (rq : Request) (s : State) : Host.Outcome State Fault Refusal := request dt opTdsWithdraw rq s

/-- TDS_CONFIG (R315): Sets cap, budget_lanes and pol_tol after re-checking admissions. -/
def execTdsConfig (dt : Nat) (rq : Request) (s : State) : Host.Outcome State Fault Refusal := request dt opTdsConfig rq s

/-- TDS_DELAY_SET (R323): Sets the class C delay D. -/
def execTdsDelaySet (dt : Nat) (rq : Request) (s : State) : Host.Outcome State Fault Refusal := request dt opTdsDelaySet rq s

/-- TDS_BUF_CONFIG (R333): Divides the cell buffer between skew and elasticity stores. -/
def execTdsBufConfig (dt : Nat) (rq : Request) (s : State) : Host.Outcome State Fault Refusal := request dt opTdsBufConfig rq s

/-- TDS_STATUS_READ (R338): Returns TDS registers and counters and optionally clears them. -/
def execTdsStatusRead (dt : Nat) (rq : Request) (s : State) : Host.Outcome State Fault Refusal := request dt opTdsStatusRead rq s

/-- SLOT_ISSUE (R317): At each slot the pace governor issues a timed, best-effort or no cell to a group. -/
def execSlotIssue (dt : Nat) (g : Fin 2) (takes : Bool) (s : State) : Host.Outcome State Fault Refusal :=
  event dt (slotIssue g.val takes) s

/-- CLASS_C_RELEASE (R328): At its release moment a class C frame leaves the skew store toward HTX. -/
def execClassCRelease (dt : Nat) (p : Fin 8) (frac : Nat) (s : State) : Host.Outcome State Fault Refusal :=
  event dt (classCRelease p.val frac) s

end Sys2Proof.Machine
end

