-- ==== Sys2Proof/Machine/MeaningTiming.lean ====
section
/-!
DEFINITION. Pace, operating points, device time and references (03, 20): the meaning of each command.
-/
namespace Sys2Proof.Machine

/-- PWR_PACE_SET (R116): Sets the pace ceiling, subject to the interlock. -/
def execPwrPaceSet (dt : Nat) (rq : Request) (s : State) : Host.Outcome State Fault Refusal := request dt opPwrPaceSet rq s

/-- PWR_OP_SET (R106): Moves VCORE to an operating point over AVSBus in 10 mV steps. -/
def execPwrOpSet (dt : Nat) (rq : Request) (s : State) : Host.Outcome State Fault Refusal := request dt opPwrOpSet rq s

/-- PWR_OP_MOVE (R107): Applies a target operating point and pace ceiling in the order the interlock requires. -/
def execPwrOpMove (dt : Nat) (rq : Request) (s : State) : Host.Outcome State Fault Refusal := request dt opPwrOpMove rq s

/-- PWR_FLOOR_SET (R110): Sets the lowest allowed operating point after re-checking admissions. -/
def execPwrFloorSet (dt : Nat) (rq : Request) (s : State) : Host.Outcome State Fault Refusal := request dt opPwrFloorSet rq s

/-- PWR_SPEED_CFG (R116): Sets alarm, critical and hysteresis thresholds and the auto_raise and auto_restore flags. -/
def execPwrSpeedCfg (dt : Nat) (rq : Request) (s : State) : Host.Outcome State Fault Refusal := request dt opPwrSpeedCfg rq s

/-- PWR_SPEED_READ (R116): Returns PWR_SPD_STATUS and the margins of D00 to D18. -/
def execPwrSpeedRead (dt : Nat) (rq : Request) (s : State) : Host.Outcome State Fault Refusal := request dt opPwrSpeedRead rq s

/-- PWR_TIME_READ (R116): Returns DTIME with its fraction and source, and each group's peer offset and path delay. -/
def execPwrTimeRead (dt : Nat) (rq : Request) (s : State) : Host.Outcome State Fault Refusal := request dt opPwrTimeRead rq s

/-- AVSBUS_STEP_DONE (R106): The regulator reports a 10 mV VCORE step complete and the move continues or completes. -/
def execAvsbusStepDone (dt : Nat) (mv : Nat) (s : State) : Host.Outcome State Fault Refusal := event dt (avsStepDone mv) s

/-- AVSBUS_FAULT (R109): An AVSBus fault holds the last acknowledged VCORE and adjusts operating point and ceiling. -/
def execAvsbusFault (dt : Nat) (mv : Nat) (status : Nat) (s : State) : Host.Outcome State Fault Refusal :=
  event dt (avsFault mv status) s

/-- SPEED_READING (R96): Every 1 µs PWR derives each domain's sustainable pace and margin from its replica paths. -/
def execSpeedReading (dt : Nat) (d : Fin 19) (sustain : Nat) (s : State) : Host.Outcome State Fault Refusal :=
  event dt (speedReading d.val sustain) s

/-- SPEED_ALARM_END (R111): After 10 ms of readings at or above alarm plus hysteresis a domain leaves alarm. -/
def execSpeedAlarmEnd (dt : Nat) (d : Fin 19) (s : State) : Host.Outcome State Fault Refusal :=
  event dt (speedAlarmEnd d.val) s

/-- SUSPENSION_PACE_STEP (R114): Every 2 µs during a suspension the pace moves by 50 per mille down or back up toward the
floor. -/
def execSuspensionPaceStep (dt : Nat) (s : State) : Host.Outcome State Fault Refusal := event dt suspensionStep s

/-- AUTO_RAISE_COMPLETE (R112): An automatic VCORE raise after an alarm completes and the next raise starts if still in
alarm. -/
def execAutoRaiseComplete (dt : Nat) (s : State) : Host.Outcome State Fault Refusal := event dt autoRaiseComplete s

/-- TIME_TRANSFER_TICK (R92): Every 1 ms on each active lane the device sends a time-transfer request. -/
def execTimeTransferTick (dt : Nat) (n : Fin 8) (frac : Nat) (s : State) : Host.Outcome State Fault Refusal :=
  event dt (timeTick n.val frac) s

/-- TIME_TRANSFER_ANSWER_RX (R92): A received answer completes an exchange and yields the lane's raw offset and delay. -/
def execTimeTransferAnswerRx (dt : Nat) (n : Fin 8) (t1 : Nat) (t2 : Nat) (t3 : Nat) (seq : Nat) (frac : Nat) (s : State) : Host.Outcome State Fault Refusal :=
  event dt (timeAnswer n.val t1 t2 t3 seq frac) s

/-- REFERENCE_MEASURE (R587): Every 100 µs PWR measures each present reference and rejects one beyond its limits. -/
def execReferenceMeasure (dt : Nat) (h : Int) (a : Int) (b : Int) (s : State) : Host.Outcome State Fault Refusal :=
  event dt (referenceMeasure h a b) s

/-- REFERENCE_ABSENT (R587): A reference below 150 mVppd for 1 µs is rejected. -/
def execReferenceAbsent (dt : Nat) (r : Fin 3) (s : State) : Host.Outcome State Fault Refusal :=
  event dt (referenceAbsent r.val) s

/-- REFERENCE_ACCEPTED (R588): A rejected reference present and within ±150 ppm for 10 ms is accepted again. -/
def execReferenceAccepted (dt : Nat) (r : Fin 3) (s : State) : Host.Outcome State Fault Refusal :=
  event dt (referenceAccepted r.val) s

/-- DTIME_SOURCE_RETURN (R89): After a preferred source has been accepted for 1 s DTIME returns to it. -/
def execDtimeSourceReturn (dt : Nat) (s : State) : Host.Outcome State Fault Refusal := event dt dtimeSourceReturn s

end Sys2Proof.Machine
end

