-- ==== Sys2Proof/Machine/Dispatch.lean ====
section
/-!
DEFINITION. One arm per command, each a direct call of its meaning.
-/
namespace Sys2Proof.Machine

/-- What a command does to the part; the queue of waiting commands is left as it is. -/
def exec (i : Instr) (s : State) : Host.Outcome State Fault Refusal :=
  match i with
  | .cdbRequest dt code good lpl epl => Sys2Proof.Machine.execCdbRequest dt code good lpl epl s
  | .mspiWriteFrame dt packet => Sys2Proof.Machine.execMspiWriteFrame dt packet s
  | .mspiReadFrame dt => Sys2Proof.Machine.execMspiReadFrame dt s
  | .inbandRequestFrame dt p frame => Sys2Proof.Machine.execInbandRequestFrame dt p frame s
  | .acceptedReply dt => Sys2Proof.Machine.execAcceptedReply dt s
  | .commandFinish dt id => Sys2Proof.Machine.execCommandFinish dt id s
  | .nonceExpiry dt sess => Sys2Proof.Machine.execNonceExpiry dt sess s
  | .provisionalSessionTimeout dt sess => Sys2Proof.Machine.execProvisionalSessionTimeout dt sess s
  | .sessionIdleClose dt sess => Sys2Proof.Machine.execSessionIdleClose dt sess s
  | .watchdogFire dt => Sys2Proof.Machine.execWatchdogFire dt s
  | .mgmtResetComplete dt => Sys2Proof.Machine.execMgmtResetComplete dt s
  | .warmResetComplete dt => Sys2Proof.Machine.execWarmResetComplete dt s
  | .cmisSoftwareReset dt => Sys2Proof.Machine.execCmisSoftwareReset dt s
  | .cmisTxDisable dt n off => Sys2Proof.Machine.execCmisTxDisable dt n off s
  | .registerWrite dt addr value during => Sys2Proof.Machine.execRegisterWrite dt addr value during s
  | .wordPairLatchRead dt source addr => Sys2Proof.Machine.execWordPairLatchRead dt source addr s
  | .rateLimitedEventReport dt => Sys2Proof.Machine.execRateLimitedEventReport dt s
  | .echo dt rq => Sys2Proof.Machine.execEcho dt rq s
  | .readWords dt rq => Sys2Proof.Machine.execReadWords dt rq s
  | .writeWords dt rq => Sys2Proof.Machine.execWriteWords dt rq s
  | .getInfo dt rq => Sys2Proof.Machine.execGetInfo dt rq s
  | .getNonce dt rq => Sys2Proof.Machine.execGetNonce dt rq s
  | .sessionOpen1 dt rq => Sys2Proof.Machine.execSessionOpen1 dt rq s
  | .sessionOpen2 dt rq => Sys2Proof.Machine.execSessionOpen2 dt rq s
  | .sessionClose dt rq => Sys2Proof.Machine.execSessionClose dt rq s
  | .sessionStatus dt rq => Sys2Proof.Machine.execSessionStatus dt rq s
  | .noticeFetch dt rq => Sys2Proof.Machine.execNoticeFetch dt rq s
  | .journalInfo dt rq => Sys2Proof.Machine.execJournalInfo dt rq s
  | .journalRead dt rq => Sys2Proof.Machine.execJournalRead dt rq s
  | .journalSync dt rq => Sys2Proof.Machine.execJournalSync dt rq s
  | .mgmtReset dt rq => Sys2Proof.Machine.execMgmtReset dt rq s
  | .warmReset dt rq => Sys2Proof.Machine.execWarmReset dt rq s
  | .inbandConfig dt rq => Sys2Proof.Machine.execInbandConfig dt rq s
  | .pwrPaceSet dt rq => Sys2Proof.Machine.execPwrPaceSet dt rq s
  | .pwrOpSet dt rq => Sys2Proof.Machine.execPwrOpSet dt rq s
  | .pwrOpMove dt rq => Sys2Proof.Machine.execPwrOpMove dt rq s
  | .pwrFloorSet dt rq => Sys2Proof.Machine.execPwrFloorSet dt rq s
  | .pwrSpeedCfg dt rq => Sys2Proof.Machine.execPwrSpeedCfg dt rq s
  | .pwrSpeedRead dt rq => Sys2Proof.Machine.execPwrSpeedRead dt rq s
  | .pwrTimeRead dt rq => Sys2Proof.Machine.execPwrTimeRead dt rq s
  | .avsbusStepDone dt mv => Sys2Proof.Machine.execAvsbusStepDone dt mv s
  | .avsbusFault dt mv status => Sys2Proof.Machine.execAvsbusFault dt mv status s
  | .speedReading dt d sustain => Sys2Proof.Machine.execSpeedReading dt d sustain s
  | .speedAlarmEnd dt d => Sys2Proof.Machine.execSpeedAlarmEnd dt d s
  | .suspensionPaceStep dt => Sys2Proof.Machine.execSuspensionPaceStep dt s
  | .autoRaiseComplete dt => Sys2Proof.Machine.execAutoRaiseComplete dt s
  | .timeTransferTick dt n frac => Sys2Proof.Machine.execTimeTransferTick dt n frac s
  | .timeTransferRequestRx dt n t1 seq frac depart => Sys2Proof.Machine.execTimeTransferRequestRx dt n t1 seq frac depart s
  | .timeTransferAnswerRx dt n t1 t2 t3 seq frac => Sys2Proof.Machine.execTimeTransferAnswerRx dt n t1 t2 t3 seq frac s
  | .referenceMeasure dt h a b => Sys2Proof.Machine.execReferenceMeasure dt h a b s
  | .referenceAbsent dt r => Sys2Proof.Machine.execReferenceAbsent dt r s
  | .referenceAccepted dt r => Sys2Proof.Machine.execReferenceAccepted dt r s
  | .dtimeSourceReturn dt => Sys2Proof.Machine.execDtimeSourceReturn dt s
  | .ltxConfig dt rq => Sys2Proof.Machine.execLtxConfig dt rq s
  | .ltxTapSet dt rq => Sys2Proof.Machine.execLtxTapSet dt rq s
  | .ltxLevelsSet dt rq => Sys2Proof.Machine.execLtxLevelsSet dt rq s
  | .ltxPdLoad dt rq => Sys2Proof.Machine.execLtxPdLoad dt rq s
  | .lrxConfig dt rq => Sys2Proof.Machine.execLrxConfig dt rq s
  | .lrxAdaptSet dt rq => Sys2Proof.Machine.execLrxAdaptSet dt rq s
  | .lrxEqSet dt rq => Sys2Proof.Machine.execLrxEqSet dt rq s
  | .lrxEqRead dt rq => Sys2Proof.Machine.execLrxEqRead dt rq s
  | .lrxMeasRead dt rq => Sys2Proof.Machine.execLrxMeasRead dt rq s
  | .lrxHistRun dt rq => Sys2Proof.Machine.execLrxHistRun dt rq s
  | .lrxHistRead dt rq => Sys2Proof.Machine.execLrxHistRead dt rq s
  | .lrxGthSelect dt rq => Sys2Proof.Machine.execLrxGthSelect dt rq s
  | .lrxStoreList dt rq => Sys2Proof.Machine.execLrxStoreList dt rq s
  | .lrxStoreSave dt rq => Sys2Proof.Machine.execLrxStoreSave dt rq s
  | .lrxStoreErase dt rq => Sys2Proof.Machine.execLrxStoreErase dt rq s
  | .lrxSeedLoad dt rq => Sys2Proof.Machine.execLrxSeedLoad dt rq s
  | .txPllLock dt n => Sys2Proof.Machine.execTxPllLock dt n s
  | .lossOfSignal dt n mv => Sys2Proof.Machine.execLossOfSignal dt n mv s
  | .signalRestored dt n mv => Sys2Proof.Machine.execSignalRestored dt n mv s
  | .lrxLockLost dt n freq => Sys2Proof.Machine.execLrxLockLost dt n freq s
  | .lrxLockRegained dt n => Sys2Proof.Machine.execLrxLockRegained dt n s
  | .adaptationResume dt n => Sys2Proof.Machine.execAdaptationResume dt n s
  | .saturationInterval dt n samples saturated => Sys2Proof.Machine.execSaturationInterval dt n samples saturated s
  | .snrUpdate dt n ideal error freq => Sys2Proof.Machine.execSnrUpdate dt n ideal error freq s
  | .prefecUpdate dt n bits corr winBits winCorr uncorr fixed => Sys2Proof.Machine.execPrefecUpdate dt n bits corr winBits winCorr uncorr fixed s
  | .seedAttemptTimeout dt n => Sys2Proof.Machine.execSeedAttemptTimeout dt n s
  | .laneConverged dt n => Sys2Proof.Machine.execLaneConverged dt n s
  | .storedSetAutoSave dt n => Sys2Proof.Machine.execStoredSetAutoSave dt n s
  | .histRunComplete dt n symbols bins => Sys2Proof.Machine.execHistRunComplete dt n symbols bins s
  | .lfmConfig dt rq => Sys2Proof.Machine.execLfmConfig dt rq s
  | .lfmStatusRead dt rq => Sys2Proof.Machine.execLfmStatusRead dt rq s
  | .lfmCountRead dt rq => Sys2Proof.Machine.execLfmCountRead dt rq s
  | .laneFrameBoundary dt g frac => Sys2Proof.Machine.execLaneFrameBoundary dt g frac s
  | .amReceived dt n marker inStep skew => Sys2Proof.Machine.execAmReceived dt n marker inStep skew s
  | .amNotFound dt n => Sys2Proof.Machine.execAmNotFound dt n s
  | .cellReceived dt g on header payload frac depart stuff => Sys2Proof.Machine.execCellReceived dt g on header payload frac depart stuff s
  | .statusReceived dt g pace floor flags => Sys2Proof.Machine.execStatusReceived dt g pace floor flags s
  | .remapReceived dt g gen mask frame q reason => Sys2Proof.Machine.execRemapReceived dt g gen mask frame q reason s
  | .remapAckReceived dt g gen => Sys2Proof.Machine.execRemapAckReceived dt g gen s
  | .quietReceived dt g bands release => Sys2Proof.Machine.execQuietReceived dt g bands release s
  | .capsReceived dt g tag version mode mask floor pace contrib features => Sys2Proof.Machine.execCapsReceived dt g tag version mode mask floor pace contrib features s
  | .capsAckReceived dt g result => Sys2Proof.Machine.execCapsAckReceived dt g result s
  | .seedStartReceived dt g frame => Sys2Proof.Machine.execSeedStartReceived dt g frame s
  | .readyReceived dt g => Sys2Proof.Machine.execReadyReceived dt g s
  | .abortReceived dt g => Sys2Proof.Machine.execAbortReceived dt g s
  | .laneTrainReceived dt g p phase frame => Sys2Proof.Machine.execLaneTrainReceived dt g p phase frame s
  | .delayReceived dt g delay => Sys2Proof.Machine.execDelayReceived dt g delay s
  | .laneHealthReceived dt g healthy failed => Sys2Proof.Machine.execLaneHealthReceived dt g healthy failed s
  | .statusPeriod dt g => Sys2Proof.Machine.execStatusPeriod dt g s
  | .delayPeriod dt g => Sys2Proof.Machine.execDelayPeriod dt g s
  | .laneHealthPeriod dt g => Sys2Proof.Machine.execLaneHealthPeriod dt g s
  | .coreLostReport dt cause => Sys2Proof.Machine.execCoreLostReport dt cause s
  | .remapPointReached dt g dir => Sys2Proof.Machine.execRemapPointReached dt g dir s
  | .lnkConfig dt rq => Sys2Proof.Machine.execLnkConfig dt rq s
  | .lnkUp dt rq => Sys2Proof.Machine.execLnkUp dt rq s
  | .lnkDown dt rq => Sys2Proof.Machine.execLnkDown dt rq s
  | .lnkRestart dt rq => Sys2Proof.Machine.execLnkRestart dt rq s
  | .lnkStatusRead dt rq => Sys2Proof.Machine.execLnkStatusRead dt rq s
  | .lnkLaneRejoin dt rq => Sys2Proof.Machine.execLnkLaneRejoin dt rq s
  | .lnkWakeConfig dt rq => Sys2Proof.Machine.execLnkWakeConfig dt rq s
  | .sproutBurstStart dt g => Sys2Proof.Machine.execSproutBurstStart dt g s
  | .sproutBurstEnd dt g => Sys2Proof.Machine.execSproutBurstEnd dt g s
  | .sproutFrameReceived dt n clean bits => Sys2Proof.Machine.execSproutFrameReceived dt n clean bits s
  | .p2Start dt g => Sys2Proof.Machine.execP2Start dt g s
  | .trainingFrameReceived dt n marker wrong control => Sys2Proof.Machine.execTrainingFrameReceived dt n marker wrong control s
  | .p2TimeLimit dt g => Sys2Proof.Machine.execP2TimeLimit dt g s
  | .p3TimeLimit dt g => Sys2Proof.Machine.execP3TimeLimit dt g s
  | .p4MessageRepeat dt g => Sys2Proof.Machine.execP4MessageRepeat dt g s
  | .p4TimeLimit dt g => Sys2Proof.Machine.execP4TimeLimit dt g s
  | .backoffEnd dt g => Sys2Proof.Machine.execBackoffEnd dt g s
  | .failureCountReset dt g => Sys2Proof.Machine.execFailureCountReset dt g s
  | .groupSignalLossFailure dt g => Sys2Proof.Machine.execGroupSignalLossFailure dt g s
  | .sproutWake dt n tag => Sys2Proof.Machine.execSproutWake dt n tag s
  | .lightWake dt n mv => Sys2Proof.Machine.execLightWake dt n mv s
  | .c2P1Check dt n => Sys2Proof.Machine.execC2P1Check dt n s
  | .c2P3Timeout dt n => Sys2Proof.Machine.execC2P3Timeout dt n s
  | .autoRejoinTimer dt n => Sys2Proof.Machine.execAutoRejoinTimer dt n s
  | .laneRetrainTimeout dt n => Sys2Proof.Machine.execLaneRetrainTimeout dt n s
  | .hslEqSet dt rq => Sys2Proof.Machine.execHslEqSet dt rq s
  | .hslStatusRead dt rq => Sys2Proof.Machine.execHslStatusRead dt rq s
  | .hslConfig dt rq => Sys2Proof.Machine.execHslConfig dt rq s
  | .hpcPortSet dt rq => Sys2Proof.Machine.execHpcPortSet dt rq s
  | .hpcPortRead dt rq => Sys2Proof.Machine.execHpcPortRead dt rq s
  | .hpcCountRead dt rq => Sys2Proof.Machine.execHpcCountRead dt rq s
  | .hpcPtpConfig dt rq => Sys2Proof.Machine.execHpcPtpConfig dt rq s
  | .hrxLossOfSignal dt l mv => Sys2Proof.Machine.execHrxLossOfSignal dt l mv s
  | .hrxSignalRestored dt l mv => Sys2Proof.Machine.execHrxSignalRestored dt l mv s
  | .hrxLockLost dt l => Sys2Proof.Machine.execHrxLockLost dt l s
  | .hrx0Wake dt mv => Sys2Proof.Machine.execHrx0Wake dt mv s
  | .hostQuadRestore dt => Sys2Proof.Machine.execHostQuadRestore dt s
  | .portAligned dt p => Sys2Proof.Machine.execPortAligned dt p s
  | .portAlignmentLost dt p => Sys2Proof.Machine.execPortAlignmentLost dt p s
  | .hostFrameReceived dt p frac corr uncorr marked res frame => Sys2Proof.Machine.execHostFrameReceived dt p frac corr uncorr marked res frame s
  | .hostFrameSend dt p frac c2 => Sys2Proof.Machine.execHostFrameSend dt p frac c2 s
  | .flwInit dt rq => Sys2Proof.Machine.execFlwInit dt rq s
  | .flwInsert dt rq => Sys2Proof.Machine.execFlwInsert dt rq s
  | .flwModify dt rq => Sys2Proof.Machine.execFlwModify dt rq s
  | .flwDelete dt rq => Sys2Proof.Machine.execFlwDelete dt rq s
  | .flwLookup dt rq => Sys2Proof.Machine.execFlwLookup dt rq s
  | .flwRead dt rq => Sys2Proof.Machine.execFlwRead dt rq s
  | .flwStatusRead dt rq => Sys2Proof.Machine.execFlwStatusRead dt rq s
  | .coolingExpiry dt => Sys2Proof.Machine.execCoolingExpiry dt s
  | .stashReplace dt => Sys2Proof.Machine.execStashReplace dt s
  | .tdsAdmit dt rq => Sys2Proof.Machine.execTdsAdmit dt rq s
  | .tdsWithdraw dt rq => Sys2Proof.Machine.execTdsWithdraw dt rq s
  | .tdsConfig dt rq => Sys2Proof.Machine.execTdsConfig dt rq s
  | .tdsDelaySet dt rq => Sys2Proof.Machine.execTdsDelaySet dt rq s
  | .tdsBufConfig dt rq => Sys2Proof.Machine.execTdsBufConfig dt rq s
  | .tdsStatusRead dt rq => Sys2Proof.Machine.execTdsStatusRead dt rq s
  | .slotIssue dt g takes => Sys2Proof.Machine.execSlotIssue dt g takes s
  | .classCRelease dt p frac => Sys2Proof.Machine.execClassCRelease dt p frac s
  | .reassemblyTimeout dt flow => Sys2Proof.Machine.execReassemblyTimeout dt flow s
  | .rdnConfig dt rq => Sys2Proof.Machine.execRdnConfig dt rq s
  | .rdnLaneSet dt rq => Sys2Proof.Machine.execRdnLaneSet dt rq s
  | .rdnRevert dt rq => Sys2Proof.Machine.execRdnRevert dt rq s
  | .rdnStatusRead dt rq => Sys2Proof.Machine.execRdnStatusRead dt rq s
  | .rdnFaultInject dt rq => Sys2Proof.Machine.execRdnFaultInject dt rq s
  | .faultInjectEnd dt n => Sys2Proof.Machine.execFaultInjectEnd dt n s
  | .laneFailDeclare dt n cause codewords => Sys2Proof.Machine.execLaneFailDeclare dt n cause codewords s
  | .remapAckTimeout dt g => Sys2Proof.Machine.execRemapAckTimeout dt g s
  | .groupLoss dt g cause => Sys2Proof.Machine.execGroupLoss dt g cause s
  | .rxHistoryClear dt => Sys2Proof.Machine.execRxHistoryClear dt s
  | .revertHoldExpiry dt g => Sys2Proof.Machine.execRevertHoldExpiry dt g s
  | .revertGapEnd dt g => Sys2Proof.Machine.execRevertGapEnd dt g s
  | .fesConfig dt rq => Sys2Proof.Machine.execFesConfig dt rq s
  | .fesStateSet dt rq => Sys2Proof.Machine.execFesStateSet dt rq s
  | .fesStepSet dt rq => Sys2Proof.Machine.execFesStepSet dt rq s
  | .fesTableLoad dt rq => Sys2Proof.Machine.execFesTableLoad dt rq s
  | .fesHookLoad dt rq => Sys2Proof.Machine.execFesHookLoad dt rq s
  | .fesSpiXfer dt rq => Sys2Proof.Machine.execFesSpiXfer dt rq s
  | .fesTurn dt rq => Sys2Proof.Machine.execFesTurn dt rq s
  | .fesFaultClear dt rq => Sys2Proof.Machine.execFesFaultClear dt rq s
  | .fesStatusRead dt rq => Sys2Proof.Machine.execFesStatusRead dt rq s
  | .fesMoveDone dt u => Sys2Proof.Machine.execFesMoveDone dt u s
  | .tempOk dt u ok => Sys2Proof.Machine.execTempOk dt u ok s
  | .lockDeclared dt u => Sys2Proof.Machine.execLockDeclared dt u s
  | .fesLockLost dt u => Sys2Proof.Machine.execFesLockLost dt u s
  | .fesFault dt u cause which => Sys2Proof.Machine.execFesFault dt u cause which s
  | .trigInTurn dt => Sys2Proof.Machine.execTrigInTurn dt s
  | .turnComplete dt u => Sys2Proof.Machine.execTurnComplete dt u s
  | .stepRampUpdate dt u => Sys2Proof.Machine.execStepRampUpdate dt u s
  | .lockDeadlineExpiry dt u => Sys2Proof.Machine.execLockDeadlineExpiry dt u s
  | .settleMaxExpiry dt u => Sys2Proof.Machine.execSettleMaxExpiry dt u s
  | .hookFrameDone dt read => Sys2Proof.Machine.execHookFrameDone dt read s
  | .brcConfig dt rq => Sys2Proof.Machine.execBrcConfig dt rq s
  | .brcStageConfig dt rq => Sys2Proof.Machine.execBrcStageConfig dt rq s
  | .brcCalSet dt rq => Sys2Proof.Machine.execBrcCalSet dt rq s
  | .brcUnmute dt rq => Sys2Proof.Machine.execBrcUnmute dt rq s
  | .brcQuietSend dt rq => Sys2Proof.Machine.execBrcQuietSend dt rq s
  | .brcCoexConfig dt rq => Sys2Proof.Machine.execBrcCoexConfig dt rq s
  | .brcCoexReq dt rq => Sys2Proof.Machine.execBrcCoexReq dt rq s
  | .brcStatusRead dt rq => Sys2Proof.Machine.execBrcStatusRead dt rq s
  | .pilotEstimateUpdate dt codes => Sys2Proof.Machine.execPilotEstimateUpdate dt codes s
  | .runawayMute dt st outThen outNow inp => Sys2Proof.Machine.execRunawayMute dt st outThen outNow inp s
  | .pilotAmplitudeAdjust dt => Sys2Proof.Machine.execPilotAmplitudeAdjust dt s
  | .guardRaiseTick dt => Sys2Proof.Machine.execGuardRaiseTick dt s
  | .guardLowerTick dt => Sys2Proof.Machine.execGuardLowerTick dt s
  | .guardBandMute dt b => Sys2Proof.Machine.execGuardBandMute dt b s
  | .autoRetryRelease dt b => Sys2Proof.Machine.execAutoRetryRelease dt b s
  | .inputLossHold dt st code => Sys2Proof.Machine.execInputLossHold dt st code s
  | .inputLossMute dt st code => Sys2Proof.Machine.execInputLossMute dt st code s
  | .inputRestored dt st code => Sys2Proof.Machine.execInputRestored dt st code s
  | .limitCeilingFall dt st code => Sys2Proof.Machine.execLimitCeilingFall dt st code s
  | .limitCeilingRise dt st code => Sys2Proof.Machine.execLimitCeilingRise dt st code s
  | .aprStart dt g => Sys2Proof.Machine.execAprStart dt g s
  | .aprEnd dt g => Sys2Proof.Machine.execAprEnd dt g s
  | .quietSilenceEnd dt g b => Sys2Proof.Machine.execQuietSilenceEnd dt g b s
  | .quietResend dt g => Sys2Proof.Machine.execQuietResend dt g s
  | .xreqInHigh dt => Sys2Proof.Machine.execXreqInHigh dt s
  | .inboundGrant dt => Sys2Proof.Machine.execInboundGrant dt s
  | .xreqInLow dt => Sys2Proof.Machine.execXreqInLow dt s
  | .inboundRequestStuck dt => Sys2Proof.Machine.execInboundRequestStuck dt s
  | .xgntInHigh dt => Sys2Proof.Machine.execXgntInHigh dt s
  | .xgntInLow dt => Sys2Proof.Machine.execXgntInLow dt s
  | .outboundGrantTimeout dt => Sys2Proof.Machine.execOutboundGrantTimeout dt s
  | .cleLoopConfig dt rq => Sys2Proof.Machine.execCleLoopConfig dt rq s
  | .cleCoefLoad dt rq => Sys2Proof.Machine.execCleCoefLoad dt rq s
  | .cleModeSet dt rq => Sys2Proof.Machine.execCleModeSet dt rq s
  | .cleSetpoint dt rq => Sys2Proof.Machine.execCleSetpoint dt rq s
  | .cleRepLoad dt rq => Sys2Proof.Machine.execCleRepLoad dt rq s
  | .cleRepRead dt rq => Sys2Proof.Machine.execCleRepRead dt rq s
  | .cleRepReset dt rq => Sys2Proof.Machine.execCleRepReset dt rq s
  | .cleLiaConfig dt rq => Sys2Proof.Machine.execCleLiaConfig dt rq s
  | .cleTestStart dt rq => Sys2Proof.Machine.execCleTestStart dt rq s
  | .cleTestStop dt rq => Sys2Proof.Machine.execCleTestStop dt rq s
  | .cleStatusRead dt rq => Sys2Proof.Machine.execCleStatusRead dt rq s
  | .cleInit dt rq => Sys2Proof.Machine.execCleInit dt rq s
  | .loopSample dt l codes => Sys2Proof.Machine.execLoopSample dt l codes s
  | .deadlineMiss dt l => Sys2Proof.Machine.execDeadlineMiss dt l s
  | .repCycleEnd dt l => Sys2Proof.Machine.execRepCycleEnd dt l s
  | .mainsInvalidDisengage dt l => Sys2Proof.Machine.execMainsInvalidDisengage dt l s
  | .lockinWindowEnd dt d values => Sys2Proof.Machine.execLockinWindowEnd dt d values s
  | .testSignalEnd dt => Sys2Proof.Machine.execTestSignalEnd dt s
  | .outputLimitAlarm dt l => Sys2Proof.Machine.execOutputLimitAlarm dt l s
  | .aouWrite dt rq => Sys2Proof.Machine.execAouWrite dt rq s
  | .aouRangeSet dt rq => Sys2Proof.Machine.execAouRangeSet dt rq s
  | .aouSafeSet dt rq => Sys2Proof.Machine.execAouSafeSet dt rq s
  | .aouDitherSet dt rq => Sys2Proof.Machine.execAouDitherSet dt rq s
  | .aouGenSet dt rq => Sys2Proof.Machine.execAouGenSet dt rq s
  | .aouTableLoad dt rq => Sys2Proof.Machine.execAouTableLoad dt rq s
  | .aouStatusRead dt rq => Sys2Proof.Machine.execAouStatusRead dt rq s
  | .outputUpdate dt => Sys2Proof.Machine.execOutputUpdate dt s
  | .gateWrite dt o => Sys2Proof.Machine.execGateWrite dt o s
  | .complianceFail dt o => Sys2Proof.Machine.execComplianceFail dt o s
  | .complianceRegained dt o => Sys2Proof.Machine.execComplianceRegained dt o s
  | .rangeSwitch dt o => Sys2Proof.Machine.execRangeSwitch dt o s
  | .rangeChangeComplete dt o => Sys2Proof.Machine.execRangeChangeComplete dt o s
  | .mcvConfig dt rq => Sys2Proof.Machine.execMcvConfig dt rq s
  | .mcvSeqLoad dt rq => Sys2Proof.Machine.execMcvSeqLoad dt rq s
  | .mcvSeqStore dt rq => Sys2Proof.Machine.execMcvSeqStore dt rq s
  | .mcvSeqRead dt rq => Sys2Proof.Machine.execMcvSeqRead dt rq s
  | .mcvResultRead dt rq => Sys2Proof.Machine.execMcvResultRead dt rq s
  | .mcvPlausRun dt rq => Sys2Proof.Machine.execMcvPlausRun dt rq s
  | .mcvUnquarantine dt rq => Sys2Proof.Machine.execMcvUnquarantine dt rq s
  | .mcvStatusRead dt rq => Sys2Proof.Machine.execMcvStatusRead dt rq s
  | .suppressionEnd dt c => Sys2Proof.Machine.execSuppressionEnd dt c s
  | .conversionWindowEnd dt c ones periods fir => Sys2Proof.Machine.execConversionWindowEnd dt c ones periods fir s
  | .entryDelayEnd dt c => Sys2Proof.Machine.execEntryDelayEnd dt c s
  | .mainsEdge dt => Sys2Proof.Machine.execMainsEdge dt s
  | .mainsTimeout dt => Sys2Proof.Machine.execMainsTimeout dt s
  | .plausRoundEnd dt pair a33 b33 a34 b34 => Sys2Proof.Machine.execPlausRoundEnd dt pair a33 b33 a34 b34 s
  | .gthConfig dt rq => Sys2Proof.Machine.execGthConfig dt rq s
  | .gthTrigConfig dt rq => Sys2Proof.Machine.execGthTrigConfig dt rq s
  | .gthArm dt rq => Sys2Proof.Machine.execGthArm dt rq s
  | .gthTrigger dt rq => Sys2Proof.Machine.execGthTrigger dt rq s
  | .gthStop dt rq => Sys2Proof.Machine.execGthStop dt rq s
  | .gthRead dt rq => Sys2Proof.Machine.execGthRead dt rq s
  | .gthStatusRead dt rq => Sys2Proof.Machine.execGthStatusRead dt rq s
  | .gthPmcConfig dt rq => Sys2Proof.Machine.execGthPmcConfig dt rq s
  | .gthPmcCtrl dt rq => Sys2Proof.Machine.execGthPmcCtrl dt rq s
  | .gthCountRead dt rq => Sys2Proof.Machine.execGthCountRead dt rq s
  | .gthCounterOpen dt rq => Sys2Proof.Machine.execGthCounterOpen dt rq s
  | .captureBlockWrite dt samples codes => Sys2Proof.Machine.execCaptureBlockWrite dt samples codes s
  | .triggerCandidate dt rising held frac => Sys2Proof.Machine.execTriggerCandidate dt rising held frac s
  | .memTableFill dt rq => Sys2Proof.Machine.execMemTableFill dt rq s
  | .memTableDeclare dt rq => Sys2Proof.Machine.execMemTableDeclare dt rq s
  | .memConfig dt rq => Sys2Proof.Machine.execMemConfig dt rq s
  | .memStatusRead dt rq => Sys2Proof.Machine.execMemStatusRead dt rq s
  | .memLogRead dt rq => Sys2Proof.Machine.execMemLogRead dt rq s
  | .memRepairRead dt rq => Sys2Proof.Machine.execMemRepairRead dt rq s
  | .scrubVisit dt w => Sys2Proof.Machine.execScrubVisit dt w s
  | .scrubLapComplete dt r => Sys2Proof.Machine.execScrubLapComplete dt r s
  | .pwrDomainRead dt rq => Sys2Proof.Machine.execPwrDomainRead dt rq s
  | .pwrWake dt rq => Sys2Proof.Machine.execPwrWake dt rq s
  | .pwrSleep dt rq => Sys2Proof.Machine.execPwrSleep dt rq s
  | .pwrFence dt rq => Sys2Proof.Machine.execPwrFence dt rq s
  | .pwrDomainReset dt rq => Sys2Proof.Machine.execPwrDomainReset dt rq s
  | .pwrLehrRun dt rq => Sys2Proof.Machine.execPwrLehrRun dt rq s
  | .pwrLehrRead dt rq => Sys2Proof.Machine.execPwrLehrRead dt rq s
  | .pwrConfig dt rq => Sys2Proof.Machine.execPwrConfig dt rq s
  | .domainWakeSource dt d cause => Sys2Proof.Machine.execDomainWakeSource dt d cause s
  | .domainReady dt d => Sys2Proof.Machine.execDomainReady dt d s
  | .domainFailure dt d cause => Sys2Proof.Machine.execDomainFailure dt d cause s
  | .domainPrepareAnswer dt d => Sys2Proof.Machine.execDomainPrepareAnswer dt d s
  | .lowPowerIdleSleep dt d => Sys2Proof.Machine.execLowPowerIdleSleep dt d s
  | .lowPowerEnter dt => Sys2Proof.Machine.execLowPowerEnter dt s
  | .lowPowerExit dt => Sys2Proof.Machine.execLowPowerExit dt s
  | .coldStart dt bad supplies found => Sys2Proof.Machine.execColdStart dt bad supplies found s
  | .modrstlLow dt torn => Sys2Proof.Machine.execModrstlLow dt torn s
  | .supplyOutOfWindow dt k extreme micros vio torn => Sys2Proof.Machine.execSupplyOutOfWindow dt k extreme micros vio torn s
  | .commandReady dt => Sys2Proof.Machine.execCommandReady dt s
  | .lehrPreconditionCheck dt mv tLow tHigh found => Sys2Proof.Machine.execLehrPreconditionCheck dt mv tLow tHigh found s
  | .lehrComplete dt found => Sys2Proof.Machine.execLehrComplete dt found s
  | .secIdRead dt rq => Sys2Proof.Machine.execSecIdRead dt rq s
  | .secCertRead dt rq => Sys2Proof.Machine.execSecCertRead dt rq s
  | .secAttest dt rq => Sys2Proof.Machine.execSecAttest dt rq s
  | .secKeyEnroll dt rq => Sys2Proof.Machine.execSecKeyEnroll dt rq s
  | .secKeyRevoke dt rq => Sys2Proof.Machine.execSecKeyRevoke dt rq s
  | .secKeyRead dt rq => Sys2Proof.Machine.execSecKeyRead dt rq s
  | .secFwWrite dt rq => Sys2Proof.Machine.execSecFwWrite dt rq s
  | .secFwActivate dt rq => Sys2Proof.Machine.execSecFwActivate dt rq s
  | .secFwCommit dt rq => Sys2Proof.Machine.execSecFwCommit dt rq s
  | .secCosignSet dt rq => Sys2Proof.Machine.execSecCosignSet dt rq s
  | .secDebugUnlock dt rq => Sys2Proof.Machine.execSecDebugUnlock dt rq s
  | .secFwStatus dt rq => Sys2Proof.Machine.execSecFwStatus dt rq s
  | .secConfig dt rq => Sys2Proof.Machine.execSecConfig dt rq s
  | .trialTimeout dt => Sys2Proof.Machine.execTrialTimeout dt s
  | .randomHealthFail dt test => Sys2Proof.Machine.execRandomHealthFail dt test s
  | .evrInfo dt rq => Sys2Proof.Machine.execEvrInfo dt rq s
  | .evrRead dt rq => Sys2Proof.Machine.execEvrRead dt rq s
  | .evrConfig dt rq => Sys2Proof.Machine.execEvrConfig dt rq s
  | .evrSnapSet dt rq => Sys2Proof.Machine.execEvrSnapSet dt rq s
  | .evrFlush dt rq => Sys2Proof.Machine.execEvrFlush dt rq s
  | .evrErase dt rq => Sys2Proof.Machine.execEvrErase dt rq s
  | .eventDeliver dt => Sys2Proof.Machine.execEventDeliver dt s
  | .pageCommit dt => Sys2Proof.Machine.execPageCommit dt s
  | .optimeCheckpoint dt => Sys2Proof.Machine.execOptimeCheckpoint dt s
  | .busStuckRelease dt micros => Sys2Proof.Machine.execBusStuckRelease dt micros s
  | .txPllLockLost dt n => Sys2Proof.Machine.execTxPllLockLost dt n s
  | .hrxLockRegained dt l => Sys2Proof.Machine.execHrxLockRegained dt l s
  | .hostPllLock dt q => Sys2Proof.Machine.execHostPllLock dt q s
  | .nvTierCommit dt => Sys2Proof.Machine.execNvTierCommit dt s
  | .randomHealthRestored dt => Sys2Proof.Machine.execRandomHealthRestored dt s
  | .cmisDatapathDeinit dt g on => Sys2Proof.Machine.execCmisDatapathDeinit dt g on s

end Sys2Proof.Machine
end

