-- ==== Sys2Proof/Machine/Step.lean ====
section
/-!
DEFINITION. One step of the block: the command at the front of the queue, or, with none waiting, one nanosecond of time.
-/
namespace Sys2Proof.Machine

/-- One step. The command at the front of the queue acts on the state with the queue's rest; with an empty queue one
nanosecond passes (DESIGN CHOICE: log entry 2). -/
def step (s : State) : Host.Outcome State Fault Refusal :=
  match s.pending with
  | [] => .next { s with hw := tick s.hw }
  | c :: rest => exec c { s with pending := rest }

/-- The state with the command that `w` spells at the front of its queue: no row of the opcode table has bits, so a word
spells none, and the state is unchanged. -/
def State.withFetchWord (s : State) (nbits w : Nat) : State :=
  match Sys2Proof.decodeTableWord nbits w with
  | some c => { s with pending := c :: s.pending }
  | none => s

end Sys2Proof.Machine
end

