-- ==== Sys2Proof/Machine/Pins.lean ====
section
/-!
DEFINITION. The state of each pin group (R250, R394, R413, R450, R598): what the part drives on it in a state of the machine.
-/
namespace Sys2Proof.Machine
open Reg

/-- The pins that Table 20-13 names: of a kind that has several, by number. -/
inductive Pin where
  | intl | msda | mspiDo | avs
  | ltx (n : Nat)
  | htx (l : Nat)
  | lrx (n : Nat)
  /-- FESPI_CLK and FESPI_DO; a chip select. -/
  | fespi
  | fespiCs (c : Nat)
  | xgntOut | xreqOut
  /-- An analogue output, 0 to 15 AOI and 16 to 23 AOV. -/
  | ao (o : Nat)
  deriving DecidableEq, Repr

/-- What a pin does. -/
inductive PinState where
  | highZ
  /-- High impedance with a weak pull to the low rail. -/
  | weakLow
  /-- Open drain: not pulled, or pulled low. -/
  | released
  | low
  | high
  /-- Its port answers. -/
  | answers
  /-- MSPI_DO gives 0x02 to read frames. -/
  | notReady
  | driven
  /-- An analogue value, in 65 535ths of a µA or µV. -/
  | value (v : Nat)
  /-- At common mode, with zero differential. -/
  | squelched
  /-- 802.3 Local Fault ordered sets. -/
  | localFault
  | running
  | terminated
  deriving DecidableEq, Repr

/-- High impedance unless D15 is ready (R394, R413, R450). -/
def fromD15 (s : Hw) (x : PinState) : PinState := if s.ready 15 then x else .highZ

/-- The level of a coexistence output. -/
def levelOf (s : Hw) (f : Fld) : PinState := if s.flag f then .high else .low

/-- The state of a pin between commands (Table 20-13): a chip select is low while a frame of it is on the port, which Out tells. Until AON is released from reset every output is high impedance. -/
def pinState (s : Hw) (p : Pin) : PinState :=
  if s.phase = .held then .highZ
  else match p with
    | .intl => if s.intl then .low else .released
    | .msda => if s.takesCommands then .answers else .released
    | .mspiDo => if s.takesCommands then .answers else .notReady
    | .avs => .driven
    | .ltx n => if s.flag (LTX_STATUS_squelch n) then .squelched else .running
    | .htx l =>
      if htxSquelched s l then .squelched
      else if (portsOn s l).any fun q => cannotDeliver s q then .localFault else .running
    | .lrx _ => .terminated
    | .fespi => fromD15 s .driven
    | .fespiCs _ => fromD15 s .high
    | .xgntOut => fromD15 s (levelOf s BRC_COEX_STATUS_xgnt_out)
    | .xreqOut => fromD15 s (levelOf s BRC_COEX_STATUS_xreq_out)
    | .ao o => if s.flag (AOU_OSTAT_hiz o) || !s.ready 15 then .weakLow else .value (outValue s o)

end Sys2Proof.Machine
end

