-- ==== Sys2Proof/Safety.lean ====
section
/-!
DEFINITION. The terms in which the statements speak: what every step leaves true, what it means that a request is taken up, and
what it means that a command runs.
-/
namespace Sys2Proof.Machine
open Reg

/-! ### What every step leaves true -/

/-- INTL follows its registers (R73): asserted exactly while a status bit is set together with its mask bit. -/
def intlRight (s : Hw) : Prop := s.intl = ((s.reg CMD_INT_STATUS &&& s.reg CMD_INT_MASK) != 0)

/-- The notice bit follows the two-wire notices (R73). -/
def noticeRight (s : Hw) : Prop := s.flag CMD_INT_STATUS_notice = !s.cmd.notices.isEmpty

/-- The CMIS data path states follow the groups' stages (R84, Table 02-10). -/
def cmisRight (s : Hw) : Prop := s.cmis.pathA = cmisPath s 0 ∧ s.cmis.pathB = cmisPath s 1

/-- The register words are in their canonical form: keys rising, none listed at its cold-start value. -/
def regsRight (s : Hw) : Prop := Map.wf coldWord s.regs = true

/-! ### What a command leaves as it is -/

/-- The parts of the state beside the register words. -/
inductive Part where
  | dtime | phase | cmd | evr | nv | pwr | lanes | mem | grps | host | flw | tds | fes | fesq | brc | cle | aou | mcv | gth | freeN | out | fab | cmis
  deriving DecidableEq, Repr

/-- Is a part the same in two states? -/
def Part.same (h u : Hw) : Part → Prop
  | .dtime => u.dtime = h.dtime
  | .phase => u.phase = h.phase
  | .cmd => u.cmd = h.cmd
  | .evr => u.evr = h.evr
  | .nv => u.nv = h.nv
  | .pwr => u.pwr = h.pwr
  | .lanes => u.lanes = h.lanes
  | .mem => u.mem = h.mem
  | .grps => u.grps = h.grps
  | .host => u.host = h.host
  | .flw => u.flw = h.flw
  | .tds => u.tds = h.tds
  | .fes => u.fes = h.fes
  | .fesq => u.fesq = h.fesq
  | .brc => u.brc = h.brc
  | .cle => u.cle = h.cle
  | .aou => u.aou = h.aou
  | .mcv => u.mcv = h.mcv
  | .gth => u.gth = h.gth
  | .freeN => u.freeN = h.freeN
  | .out => u.out = h.out
  | .fab => u.fab = h.fab
  | .cmis => u.cmis = h.cmis

/-- From `h` to `u` no register word changes outside the subsystems `ss` (bits 23 to 16 of its address, R7), and no part of the
state outside `ps`. INTL, which follows its registers, changes only when the command ends. -/
def keeps (ss : List Nat) (ps : List Part) (h u : Hw) : Prop :=
  (∀ a, a / 65536 ∉ ss → u.reg a = h.reg a) ∧ (∀ p, p ∉ ps → p.same h u) ∧ u.intl = h.intl

/-! ### A request that is taken up -/

/-- The session of the request has noted it (R42, R67). -/
def heard (rq : Request) (h : Hw) : Hw :=
  updSession h (sessionOf rq) fun x => { x with lastReq := h.dtime, port := rq.port, src := rq.src, vlan := rq.vlan }

/-- Its sequence number has passed and is the session's high mark (R58). -/
def marked (op : OpSpec) (rq : Request) (h : Hw) : Hw :=
  match findSession (heard rq h) (sessionOf rq) with
  | none => heard rq h
  | some x => if seqFree (some op) rq then heard rq h else updSession (heard rq h) x.num fun x => { x with mark := some rq.seq }

/-- The state on which the command of a taken request executes: its nonce used up (R64), its journal entry made (R75). -/
def entered (op : OpSpec) (rq : Request) (h : Hw) : Hw :=
  let s := useNonce (marked op rq h) rq
  s.cond (op.journal != 0) fun s =>
    addEntry s (newEntry s op.opcode (op.journal == 2) (routeCode rq.route) rq (sessionOf rq) rq.level)

/-- The journal index of its entry, 0 for an opcode that is not journaled. -/
def indexOf (op : OpSpec) (b : Hw) : Nat := if op.journal = 0 then 0 else b.cmd.index

/-- What the command's body is given: the request, its parameters without trailer, its session, its journal index. -/
def callOf (op : OpSpec) (rq : Request) (h : Hw) : Call := ⟨rq, coreParams rq, sessionOf rq, indexOf op (entered op rq h)⟩

/-- The request passes its sequence check (R58, R60). -/
def seqPasses (op : OpSpec) (rq : Request) (h : Hw) : Bool :=
  match findSession (heard rq h) (sessionOf rq) with
  | none => rq.seq != 0 || seqFree (some op) rq
  | some x => seqFree (some op) rq || (rq.seq != 0 && newer x.mark rq.seq)

/-- The nine checks of R51 let the request through, it asks for more than a validation (R52), nothing refuses it before acceptance
or bars it, no earlier command still waits to take effect (R57), and no domain it touches sleeps or is fenced (R22, R24). Every clause speaks of the state `h` and the request alone. -/
def taken (op : OpSpec) (rq : Request) (h : Hw) : Bool :=
  h.phase == .ready && (rq.route != .inband || h.flag CMD_CFG_inband_en) && rq.length == rq.params.length &&
  decide (outstanding h rq < routeLimit rq.route) && (headCheck h op.opcode rq).isNone && seqPasses op rq h &&
  (opCheck (marked op rq h) op rq).isNone && !hasBit rq.flags 1 &&
  (refusal (useNonce (marked op rq h) rq) op (coreParams rq)).isNone && (barred (entered op rq h) op).isNone &&
  (op.own || !mustWait (entered op rq h) (indexOf op (entered op rq h))) &&
  (op.doms (entered op rq h) (coreParams rq)).all fun d => !(entered op rq h).fenced d && (entered op rq h).ready d

/-- The end of a command that completed with status OK: `b` is the state it began with, `e` the one it made, `pl` its payload. Its
journal entry closes, a commit starts where the table has NV, and the reply leaves on the request's route; a payload above the
in-band limit completes BAD_LENGTH without effect (R47). -/
def closed (op : OpSpec) (rq : Request) (b e : Hw) (pl : Bytes) : Hw :=
  if tooLong rq pl then answer b op.opcode rq stBAD_LENGTH 1456
  else
    answer (record e op (coreParams rq) (indexOf op b) stOK 0 (undoOf b e))
      op.opcode rq stOK 0 pl (indexOf op b)

/-- The command is accepted and waits for `w`, beside those that run already (R54, R55). -/
def waits (op : OpSpec) (rq : Request) (b e : Hw) (w : Wait) : Hw :=
  { e with cmd := { e.cmd with
      nextId := e.cmd.nextId + 1
      running := e.cmd.running ++
        [{ id := e.cmd.nextId, opcode := op.opcode, req := rq, session := sessionOf rq, recv := e.dtime, index := indexOf op b,
           wait := w }] } }

/-! ### A command that runs -/

/-- The request row `k`, on every request that is taken and every state with `pre`, completes with OK: exec answers the next state
that follows from an effect `e` and a payload with `post`. `pre` reads the state on which the command executes and its call. -/
def RunsOk (k : Nat → Request → Instr) (op : OpSpec) (pre : Hw → Call → Prop) (post : Hw → Call → Hw → Bytes → Prop) : Prop :=
  ∀ dt rq (s : State), taken op rq (passTime dt s.hw) = true → pre (entered op rq (passTime dt s.hw)) (callOf op rq (passTime dt s.hw)) →
    ∃ e pl, post (entered op rq (passTime dt s.hw)) (callOf op rq (passTime dt s.hw)) e pl ∧
      exec (k dt rq) s = .next { s with hw := settle (closed op rq (entered op rq (passTime dt s.hw)) e pl) }

/-- The same for a command that is accepted, has its effect `e`, and completes when what it waits for has come. -/
def RunsOn (k : Nat → Request → Instr) (op : OpSpec) (pre : Hw → Call → Prop) (post : Hw → Call → Hw → Wait → Prop) : Prop :=
  ∀ dt rq (s : State), taken op rq (passTime dt s.hw) = true → pre (entered op rq (passTime dt s.hw)) (callOf op rq (passTime dt s.hw)) →
    ∃ e w, post (entered op rq (passTime dt s.hw)) (callOf op rq (passTime dt s.hw)) e w ∧
      exec (k dt rq) s = .next { s with hw := settle (waits op rq (entered op rq (passTime dt s.hw)) e w) }

/-- The happening `k`, in every state with `pre` of a part that is not held in reset, has its effect: exec answers the next state
that follows from a state `u` with `post`. -/
def Happens (k : Nat → Instr) (pre : Hw → Prop) (post : Hw → Hw → Prop) : Prop :=
  ∀ dt (s : State), (passTime dt s.hw).phase ≠ .held → pre (passTime dt s.hw) →
    ∃ u, post (passTime dt s.hw) u ∧ exec (k dt) s = .next { s with hw := settle u }

/-- The same for a reset or a start, which the held part takes too. -/
def Resets (k : Nat → Instr) (pre : Hw → Prop) (post : Hw → Hw → Prop) : Prop :=
  ∀ dt (s : State), pre (passTime dt s.hw) →
    ∃ u, post (passTime dt s.hw) u ∧ exec (k dt) s = .next { s with hw := settle u }

end Sys2Proof.Machine
end

