-- ==== Sys2Proof/Certificates/Slice0/Obligations.lean ====
section
/-!
DEFINITION. The statements of the model. Each says which rules or sections of spec/ it rests on.
-/
open Sys2Proof Sys2Proof.Machine Sys2Proof.Machine.Reg

/-- For every command c and every state, a step of a state with c at the front of its queue is exec of c on the state with
  the queue's rest. Cites 02_commands_journal.md. -/
def Obligations.StepTakesTheFrontCommand : Prop :=
  ∀ c rest (s : State), s.pending = c :: rest → step s = exec c { s with pending := rest }

/-- (1) From every state a step answers a next state, and the queue is then what was behind its front. (2) With an empty
  queue a step lets one nanosecond pass; DTIME then counts one more, except in a part that is held in reset, where it stands.
  (The tick is the model's choice: log entry 2.) Cites 02_commands_journal.md, 03_clockless_timing.md. -/
def Obligations.EveryStepAnswers : Prop :=
  (∀ (s : State), ∃ t, step s = .next t ∧ t.pending = s.pending.tail) ∧
  (∀ (s : State), s.pending = [] → step s = .next { s with hw := settle (passTime 1 s.hw) } ∧ (s.hw.phase ≠ .held → (passTime
    1 s.hw).dtime = s.hw.dtime + 1) ∧ (s.hw.phase = .held → (passTime 1 s.hw).dtime = s.hw.dtime))

/-- After every step that answers a next state, from every state: INTL is asserted exactly while a bit of CMD_INT_STATUS is
  set together with its bit of CMD_INT_MASK; CMD_INT_STATUS.notice is set exactly while a two-wire notice is pending; and the
  two CMIS data path states are deactivated in stage P0, activated in P5 and initialising in every other stage of their
  group. Cites 02_commands_journal.md. -/
def Obligations.SignalsFollowEveryStep : Prop :=
  ∀ (s t : State), step s = .next t → intlRight t.hw ∧ noticeRight t.hw ∧ cmisRight t.hw

/-- State.reset has an empty queue, is held in reset, has DTIME 0, every register word at its cold-start value, an empty
  journal, no running command, no staged record and no event on the bus; INTL, the notice bit and the CMIS data path states
  are those that follow, and the register words are in canonical form. (That the part waits there for COLD_START is the
  model's choice: log entry 3.) Cites 01_architecture.md, 02_commands_journal.md. -/
def Obligations.ResetState : Prop :=
  State.reset.pending = [] ∧ State.reset.hw.phase = .held ∧ State.reset.hw.dtime = 0 ∧ (∀ a, State.reset.hw.reg a = coldWord
    a) ∧ State.reset.hw.cmd.journal = [] ∧ State.reset.hw.cmd.running = [] ∧ State.reset.hw.evr.staged = [] ∧
    State.reset.hw.evr.bus = [] ∧ regsRight State.reset.hw ∧ intlRight State.reset.hw ∧ noticeRight State.reset.hw ∧
    cmisRight State.reset.hw

/-- While the part is held in reset, every command but COLD_START that answers a next state leaves it held, with DTIME, the
  non-volatile memory and the journal as they were. Cites 01_architecture.md, 18_power_selftest.md. -/
def Obligations.OnlyAStartLeavesReset : Prop :=
  ∀ c (s t : State), s.hw.phase = .held → exec c s = .next t → (∃ dt bad mv found, c = .coldStart dt bad mv found) ∨
    (t.hw.phase = .held ∧ t.hw.dtime = s.hw.dtime ∧ t.hw.nv = s.hw.nv ∧ t.hw.cmd.journal = s.hw.cmd.journal)

/-- (1) Two events raised in one nanosecond of DTIME stand on the bus in the order in which they were raised, both with that
  DTIME. (2) EVENT_DELIVER takes the first event on the bus and leaves the others in their order. Cites 01 R33. -/
def Obligations.EventsKeepTheirOrder : Prop :=
  (∀ (h : Hw) (a : Nat) (p : List Nat) (b : Nat) (q : List Nat), ((h.raise a p).raise b q).evr.bus = h.evr.bus ++ [Ev.mk a p
    h.dtime, Ev.mk b q h.dtime]) ∧
  (∀ (h : Hw) (x : Ev) (y : List Ev), h.evr.bus = x :: y → (recordEvent h).evr.bus = y)

/-- (1) For every request with a level field of 0 to 3: it passes steps 5 to 8 of its checks only if the opcode's level does
  not exceed the claimed level and the claimed level does not exceed the level granted, and never where it claims Vendor
  level; where the opcode's level exceeds the claimed level, or Vendor is claimed, it completes ACCESS; where the claimed
  level exceeds the granted one it completes ACCESS, once its trailer has verified if the level granted is that of the key
  slot that signed (the model's reading, log entry 20). (2) A request that does not pass is answered with that status and is
  not executed. (3) Taking a request up changes, beyond the performance counters of subsystem 0x12, the command processor,
  the event recorder and the non-volatile state (the epoch of the numbering) only. (4) Its end changes, beyond the registers
  of subsystem 0x02, the command processor, the non-volatile state, the power parts, the host ports' queues, the CMIS reply
  pages and the outputs only, the end with a payload above the in-band limit apart. (5) Its wait changes the list of running
  commands only. (6) With the RAM tier full a new entry takes the place of the oldest. (7) A journaled command that nothing
  else refuses, and whose entry would overwrite one that is pending, is refused BUSY with detail 5. Cites
  02_commands_journal.md. -/
def Obligations.LevelsFramesAndTheFullJournal : Prop :=
  (∀ (h : Hw) (op : OpSpec) (rq : Request), rq.level ≤ 3 → (opCheck h op rq = none → op.levelOf h rq ≤ rq.level ∧ rq.level ≤
    granted h rq ∧ rq.level ≠ 3) ∧ (rq.level = 3 ∨ rq.level < op.levelOf h rq → ∃ d, opCheck h op rq = some (stACCESS, d)) ∧
    (op.levelOf h rq ≤ rq.level → rq.level ≤ 2 → byKey rq = false → granted h rq < rq.level → opCheck h op rq = some
    (stACCESS, rq.level)) ∧ (byKey rq = true → op.levelOf h rq ≤ 2 → 100 ≤ rq.params.length → trailerCheck h op.opcode rq =
    none → granted h rq < 2 → opCheck h op rq = some (stACCESS, 2))) ∧
  (∀ (h : Hw) (op : OpSpec) (rq : Request) (st det : Nat), opCheck h op rq = some (st, det) → proceed h op.opcode (some op)
    rq = answer (useNonce h rq) op.opcode rq st det) ∧
  (∀ (op : OpSpec) (rq : Request) (h : Hw), keeps [0x12] [.cmd, .evr, .nv] h (entered op rq h) ∧
    { (entered op rq h).nv with epoch := h.nv.epoch } = h.nv) ∧
  (∀ (op : OpSpec) (rq : Request) (b e : Hw) (pl : Bytes), keeps [0x02] [.cmd, .nv, .pwr, .host, .out, .cmis] e (closed op rq
    b e pl) ∨ tooLong rq pl = true) ∧
  (∀ (op : OpSpec) (rq : Request) (b e : Hw) (w : Wait), keeps [] [.cmd] e (waits op rq b e w) ∧ (waits op rq b e
    w).cmd.journal = e.cmd.journal ∧ (waits op rq b e w).cmd.sessions = e.cmd.sessions) ∧
  (∀ (h : Hw) (e : JEntry), h.cmd.journal.length = ramTier → (addEntry h e).cmd.journal = h.cmd.journal.tail ++ [e]) ∧
  (∀ (h : Hw) (op : OpSpec) (p : Bytes) (x : JEntry) (l : List JEntry), h.phase = .ready → op.journal ≠ 0 → resetBusy h
    op.opcode = false → (clashes h op p || op.busy h p) = false → ¬ (op.journal = 2 ∧ nvRate h = true) → h.cmd.journal = x ::
    l → h.cmd.journal.length = ramTier → x.status = stACCEPTED → refusal h op p = some (stBUSY, 5))

/-- (1) A request with a number other than 0 that is not newer, on a route that takes it and with its header checks passed:
  where the session keeps among its last 16 replies one to that number with the same opcode and parameter digest, that reply
  goes out again with flags bit 2 set, and nothing else happens but that the session has been heard and that a Maintainer
  request has used its nonce up. (2) Otherwise, where the RAM tier of the journal has an entry of the session with that
  number, opcode and digest, a reply rebuilt from the entry goes out: flags bits 2 and 3 set, the entry's status, detail and
  index, no payload. (3) Otherwise it completes SEQUENCE with the low 16 bits of the session's high mark as detail. (4) In
  none of the three cases does a register word, the journal, the list of running commands, the non-volatile memory or a part
  of the state other than the sessions, the waiting replies, the host ports' queues, the CMIS reply pages and the outputs
  change. Cites 02 R59. -/
def Obligations.RetriesAreNotExecuted : Prop :=
  (∀ (h : Hw) (op : OpSpec) (rq : Request) (x : Session), h.takesCommands = true → (rq.route = .inband → h.flag
    CMD_CFG_inband_en = true ∧ (h.phase = .ready ∨ h.phase = .shut)) → rq.length = rq.params.length → outstanding h rq <
    routeLimit rq.route → headCheck h op.opcode rq = none → findSession (heard rq h) (sessionOf rq) = some x → rq.seq ≠ 0 →
    newer x.mark rq.seq = false → ∀ r, x.replies.find? (fun (r : SentReply) => r.seq == rq.seq && r.opcode == op.opcode &&
    r.digest == digestOf rq.params) = some r → serve op.opcode (some op) rq h = deliver (useNonce (heard rq h) rq) rq
    { r.reply with flags := setBit r.reply.flags 2 true }) ∧
  (∀ (h : Hw) (op : OpSpec) (rq : Request) (x : Session), h.takesCommands = true → (rq.route = .inband → h.flag
    CMD_CFG_inband_en = true ∧ (h.phase = .ready ∨ h.phase = .shut)) → rq.length = rq.params.length → outstanding h rq <
    routeLimit rq.route → headCheck h op.opcode rq = none → findSession (heard rq h) (sessionOf rq) = some x → rq.seq ≠ 0 →
    newer x.mark rq.seq = false → ∀ e, x.replies.find? (fun (r : SentReply) => r.seq == rq.seq && r.opcode == op.opcode &&
    r.digest == digestOf rq.params) = none → h.cmd.journal.find? (fun (e : JEntry) => e.session == x.num && e.seq == rq.seq
    && e.opcode == op.opcode && e.digest == digestOf rq.params) = some e → serve op.opcode (some op) rq h = deliver (useNonce
    (heard rq h) rq) rq ⟨op.opcode, rq.seq, e.status, 0x0C, e.detail, e.index, []⟩) ∧
  (∀ (h : Hw) (op : OpSpec) (rq : Request) (x : Session), h.takesCommands = true → (rq.route = .inband → h.flag
    CMD_CFG_inband_en = true ∧ (h.phase = .ready ∨ h.phase = .shut)) → rq.length = rq.params.length → outstanding h rq <
    routeLimit rq.route → headCheck h op.opcode rq = none → findSession (heard rq h) (sessionOf rq) = some x → rq.seq ≠ 0 →
    newer x.mark rq.seq = false → x.replies.find? (fun (r : SentReply) => r.seq == rq.seq && r.opcode == op.opcode &&
    r.digest == digestOf rq.params) = none → h.cmd.journal.find? (fun (e : JEntry) => e.session == x.num && e.seq == rq.seq
    && e.opcode == op.opcode && e.digest == digestOf rq.params) = none → serve op.opcode (some op) rq h = answer (useNonce
    (heard rq h) rq) op.opcode rq stSEQUENCE (x.mark.getD 0 % 65536)) ∧
  (∀ (h : Hw) (op : OpSpec) (rq : Request) (x : Session), h.takesCommands = true → (rq.route = .inband → h.flag
    CMD_CFG_inband_en = true ∧ (h.phase = .ready ∨ h.phase = .shut)) → rq.length = rq.params.length → outstanding h rq <
    routeLimit rq.route → headCheck h op.opcode rq = none → findSession (heard rq h) (sessionOf rq) = some x → rq.seq ≠ 0 →
    newer x.mark rq.seq = false → keeps [] [.cmd, .host, .cmis, .out] h (serve op.opcode (some op) rq h) ∧ (serve op.opcode
    (some op) rq h).cmd.running = h.cmd.running ∧ (serve op.opcode (some op) rq h).cmd.journal = h.cmd.journal)

/-- A 64-bit value has its upper word at the lower offset. A read of the upper word latches the lower word for its source:
  that source's next read of the lower word gives the value at the first read, whatever has changed in between as long as the
  latches have not, and the read after that the value then present; a read of another word of the unit in between releases
  the latch, so that the next read of the lower word gives the value then present; the latches of other sources and of other
  units stay. Cites 01 R29. -/
def Obligations.PairReadsAreConsistent : Prop :=
  ∀ (src a : Nat) (h : Hw), pairUpper a = true → a % 4096 ≠ 4095 → h.num64 a = h.num a * 2 ^ 32 + h.num (a + 1) ∧ (∀ t : Hw,
    t.cmd.latches = (readWord src a h).2.cmd.latches → (readWord src (a + 1) t).1 = liveWord h (a + 1) ∧ (∀ v : Hw,
    v.cmd.latches = (readWord src (a + 1) t).2.cmd.latches → (readWord src (a + 1) v).1 = liveWord v (a + 1)) ∧ (∀ b, b /
    4096 = a / 4096 → b ≠ a → b ≠ a + 1 → ∀ v : Hw, v.cmd.latches = (readWord src b t).2.cmd.latches → (readWord src (a + 1)
    v).1 = liveWord v (a + 1))) ∧ (∀ k, k ≠ latchKey src a → Map.get none (readWord src a h).2.cmd.latches k = Map.get none
    h.cmd.latches k)

/-- (1) A field that lies within its word reads as the low bits of what was written to it. (2) Every field that shares no bit
  with it reads as before. (3) A 64-bit value reads as written modulo 2^64, and every other word stays. (4) A counter that
  sticks adds and holds its largest value, and every other word stays. (5) A write through the fabric keeps the canonical
  form of the register words. (6) At an address with no register a write does nothing. (7) A write outside the host tables
  changes no other register word; in subsystem 0x04, where a word is tied to others, none of another subsystem. (8) In a
  register word outside the host tables and the subsystems 0x03, 0x04 and 0x0D (whose written fields are limited to their
  ranges), read-write bits take what is written; clear-on-one bits written one clear, but for those the hardware sets within
  the handshake; every other bit stays. Cites 01_architecture.md, 16_gather_counters.md. -/
def Obligations.RegistersAndWrites : Prop :=
  (∀ (h : Hw) (f : Fld) (v : Nat), f.lo + f.w ≤ 32 → (h.setFld f v).fld f = v % 2 ^ f.w) ∧
  (∀ (h : Hw) (f g : Fld) (v : Nat), f.lo + f.w ≤ 32 → g.lo + g.w ≤ 32 → g.addr ≠ f.addr ∨ g.lo + g.w ≤ f.lo ∨ f.lo + f.w ≤
    g.lo → (h.setFld f v).fld g = h.fld g) ∧
  (∀ (h : Hw) (a n : Nat), (h.setNum64 a n).num64 a = n % 2 ^ 64 ∧ (∀ b, b ≠ a → b ≠ a + 1 → (h.setNum64 a n).reg b = h.reg
    b)) ∧
  (∀ (h : Hw) (a k : Nat), (h.count a k).num a = min (h.num a + k) (2 ^ 32 - 1) ∧ (∀ b, b ≠ a → (h.count a k).reg b = h.reg
    b)) ∧
  (∀ (h : Hw) (a v during : Nat), regsRight h → regsRight (writeWord a v during h)) ∧
  (∀ (h : Hw) (a v during : Nat), regFind a = none → writeWord a v during h = h) ∧
  (∀ (h : Hw) (a b v during : Nat), b ≠ a → (a / 65536 = 4 → b / 65536 ≠ 4) → (hostTable a).isNone = true → (writeWord a v
    during h).reg b = h.reg b) ∧
  (∀ (h : Hw) (a v during i : Nat) (d : RegDesc) (k : List Nat), regFind a = some (d, k) → hostTable a = none → a / 65536 ∉
    [0x03, 0x04, 0x0D] → d.rw &&& d.c1 = 0 → i < 32 → ((writeWord a v during h).reg a).getLsbD i = if d.rw.testBit i then
    v.testBit i else if d.c1.testBit i then (during.testBit i || ((h.reg a).getLsbD i && !v.testBit i)) else (h.reg
    a).getLsbD i)

/-- (1) Taking the stuff symbols out of a stuffed string gives the string back, with no wrong stuff symbol. (2) No stuffed
  string has a run longer than 24 symbols. (3) Scrambling twice from one start changes nothing. (4) Symbols to bits and back,
  and an even number of bits to symbols and back, change nothing. (5) The columns of the inner code are distinct; a codeword
  has syndrome 0; and one with a data bit turned has the syndrome of that bit's column. (6) A DAC code lies from 0 to 255,
  and one that does not clip is the value computed. (7) With a pre-distortion table of zeros and tap magnitudes that sum to
  at most 128 no code clips. Cites 04_line_lanes.md, 05_line_format.md. -/
def Obligations.LineCoding : Prop :=
  (∀ (v n : Nat) (l : List Nat), n < 24 → unstuff v n (stuff v n l) = (l, 0)) ∧
  (∀ (v n : Nat) (l : List Nat), n < 24 → longestRun v n (stuff v n l) ≤ 24) ∧
  (∀ (x : Nat) (l : List Bool), scramble x (scramble x l) = l) ∧
  ((∀ (l : List Nat), (∀ a ∈ l, a < 4) → toSymbols (toBits l) = l) ∧ ∀ (l : List Bool), l.length % 2 = 0 → toBits (toSymbols
    l) = l) ∧
  (∀ (mode : Nat) (d : List Bool), d.length = (innerColumns mode).length → (innerColumns mode).Nodup ∧ innerSyndrome
    (innerColumns mode) (innerCodeword (innerColumns mode) d) = 0 ∧ ∀ j, j < d.length → innerSyndrome (innerColumns mode)
    ((innerCodeword (innerColumns mode) d).set j (!d.getD j false)) = (innerColumns mode).getD j 0) ∧
  (∀ (s : Hw) (n : Nat) (w : List Nat), dacCode s n w ≤ 255 ∧ (dacClips s n w = false → (dacCode s n w : Int) = dacRaw s n
    w)) ∧
  (∀ (s : Hw) (n : Nat) (w : List Nat), (∀ k, k < 16 → s.num (LTX_PD n k) = 0) → sumN ((List.range 7).map fun i => (txTap s n
    i).natAbs) ≤ 128 → dacClips s n w = false)

/-- Each clause says of the row it names, in every state and for all operands that meet the condition it names, that exec
  answers the next state that follows from the effect it names. A clause with a list of subsystems and parts after keeps says
  besides that every other register word and every other part of the state is as it was. (1) CDB_REQUEST with command code
  0xB800 and a good check code, to a part that takes commands, whose local payload holds the 16 header bytes and, where the
  header's length field is at most 104, exactly that many parameter bytes: the request is served that the header and these
  bytes spell, or, where the length field is above 104, the header and the extended payload. (2) MSPI_WRITE_FRAME with at
  least 16 bytes, to a part that takes commands: the request is served that its first 16 bytes and the bytes after them
  spell. (3) MSPI_READ_FRAME with a reply waiting, of a part that takes commands: the oldest waiting reply leaves the queue
  and goes out after the status byte 1. (4) MSPI_READ_FRAME with no reply waiting, of a part that takes commands: the status
  byte 0 goes out alone. (5) INBAND_REQUEST_FRAME on an enabled, aligned port whose lanes' domains are ready and whose quads
  are not held, with the device's address and the in-band EtherType, where the frame is kept: it is counted as received, and
  the packet and tag that it carries are served. (6) NONCE_EXPIRY of a session whose nonce was issued more than 10 s ago: the
  session has no nonce. (7) PROVISIONAL_SESSION_TIMEOUT of a session that has been provisional for 5 s or more: the session
  is gone. (8) SESSION_IDLE_CLOSE of an opened session without a request for 300 s or more: the session is gone, and event
  0x0008 names it. (9) RATE_LIMITED_EVENT_REPORT: for every count of a second that has ended its event is raised, with the
  count among its parameters, and these counts are gone. Cites 02_commands_journal.md, 07_host_interface.md, 00_scope.md. -/
def Obligations.RoutesAndSessionTimers : Prop :=
  (∀ lpl epl : Bytes, Happens (fun dt => .cdbRequest dt 0xB800 true lpl epl) (fun h => h.takesCommands = true ∧ lpl.length =
    (if u16 lpl 2 ≤ 104 then 16 + u16 lpl 2 else 16)) (fun h u => u = serveRequest (parsePacket .twoWire (lpl.take 16) (if
    u16 lpl 2 ≤ 104 then lpl.drop 16 else epl)) h)) ∧
  (∀ pk : Bytes, Happens (fun dt => .mspiWriteFrame dt pk) (fun h => h.takesCommands = true ∧ 16 ≤ pk.length) (fun h u => u =
    serveRequest (parsePacket .mspi (pk.take 16) (pk.drop 16)) h)) ∧
  (∀ (r : Reply) (t : List Reply), Happens .mspiReadFrame (fun h => h.takesCommands = true ∧ h.cmd.mspiQ = r :: t) (fun h u
    => u = ({ h with cmd := { h.cmd with mspiQ := t } } : Hw).emit (.mspi (1 :: replyBytes r)))) ∧
  (Happens .mspiReadFrame (fun h => h.takesCommands = true ∧ h.cmd.mspiQ = []) (fun h u => u = h.emit (.mspi [0]))) ∧
  (∀ (p : Fin 8) (f : Bytes), Happens (fun dt => .inbandRequestFrame dt p f) (fun h => portEnabled h p = true ∧ (portLanes h
    p).all (fun l => h.ready (8 + l / 4)) = true ∧ h.flag (HPC_PORT_STATUS_aligned p) = true ∧ portHeld h p = false ∧
    frameDst f = h.mac ∧ frameType f = h.fld CMD_CFG_inband_etype ∧ (keepFrame h p f).1 = true) (fun h u => u = inbandPacket
    p f (h.count64 (HPC_RX_FRAMES p)))) ∧
  (∀ (n : Nat) (x : Session) (v t : Nat), Happens (fun dt => .nonceExpiry dt n) (fun h => findSession h n = some x ∧ x.nonce
    = some (v, t) ∧ t + 10 ^ 10 < h.dtime) (fun h u => u = updSession h n fun x => { x with nonce := none })) ∧
  (∀ (n : Nat) (x : Session) (tr : Bytes) (t : Nat), Happens (fun dt => .provisionalSessionTimeout dt n) (fun h =>
    findSession h n = some x ∧ x.prov = some (tr, t) ∧ t + 5000000000 ≤ h.dtime) (fun h u => u = dropSession h n ∧
    findSession u n = none)) ∧
  (∀ (n : Nat) (x : Session), Happens (fun dt => .sessionIdleClose dt n) (fun h => n < 0xFFF0 ∧ findSession h n = some x ∧
    x.prov = none ∧ x.lastReq + 300000000000 ≤ h.dtime) (fun h u => u = (dropSession h n).raise 0x0008 [n] ∧ findSession u n
    = none)) ∧
  (Happens .rateLimitedEventReport (fun _ => True) (fun h u => keeps [] [.evr] h u ∧ u.evr.counts = h.evr.counts.filter (fun
    (e : Nat × Nat × Nat × Nat × Nat) => !decide (e.2.1 < h.second)) ∧ u.evr.bus = h.evr.bus ++ (h.evr.counts.filter fun (e :
    Nat × Nat × Nat × Nat × Nat) => decide (e.2.1 < h.second)).map (fun (e : Nat × Nat × Nat × Nat × Nat) => Ev.mk (e.1 / 2 ^
    24) (countParams (e.1 / 2 ^ 24) (e.1 % 2 ^ 24) e.2.2.1 e.2.2.2.1 e.2.2.2.2) h.dtime)))

/-- Each clause says of the row it names, in every state and for all operands that meet the condition it names, that exec
  answers the next state that follows from the effect it names. Of a request row a clause speaks wherever the request is
  taken up: it passes the checks, nothing refuses it and the domains it touches are ready; the request then completes with
  OK, or, where the clause says so, is accepted and waits. (1) ACCEPTED_REPLY where some running command is journaled, has
  not replied, has no outcome and was received 5 ms ago or more: the first such command is marked as having replied, and
  replies ACCEPTED with its journal index. (2) COMMAND_FINISH of a running command that has come to its outcome, in a part
  that takes commands: it is no longer running, and its status, detail and payload end it: its journal entry is closed with
  them, and they reply, or, where it has replied ACCEPTED, the notice that it asked for is queued. (3) READ_WORDS with no
  packet of the fabric outstanding, no latch of Ehrik in the unit and no memory error met, where every word of the range is
  implemented, declared and good: it returns the words of the range in ascending order as they stand, and changes no register
  word and no event. (4) WRITE_WORDS with no packet of the fabric outstanding, no memory error met and no earlier command
  still to take effect: a read of the range's first word is issued, then the words as writes in ascending order, in packets
  of at most 64; all answer done, and the replies are used. (5) REGISTER_WRITE to an address in AON or in a domain that is
  ready and not fenced, with no packet held back by Ehrik: the word is written (with the access kinds of its bits) as a write
  through the fabric does, by a packet with Ehrik's next tag. (6) WORD_PAIR_LATCH_READ by a source of the fabric (the JTAG
  test bridge once debug is unlocked) of the upper word of a 64-bit value in AON or in a domain that is ready and not fenced,
  with no packet held back by that source: its lower word is latched for that source, and no register word changes. Cites
  02_commands_journal.md, 00_scope.md, 01_architecture.md. -/
def Obligations.RepliesAndFabricWords : Prop :=
  (∀ r : RunCmd, Happens .acceptedReply (fun h => h.cmd.running.find? (fun (r : RunCmd) => !r.replied && r.index != 0 &&
    r.outcome.isNone && decide (r.recv + 5000000 ≤ h.dtime)) = some r) (fun h u => u = answer
    { h with cmd := { h.cmd with running := h.cmd.running.map fun (x : RunCmd) => if x.id = r.id then { x with replied := true } else x } }
    r.opcode r.req stACCEPTED 0 [] r.index)) ∧
  (∀ (r : RunCmd) (st det : Nat) (pl : Bytes), Happens (fun dt => .commandFinish dt r.id) (fun h => h.takesCommands = true ∧
    h.cmd.running.find? (fun (x : RunCmd) => x.id == r.id) = some r ∧ (opOf r.opcode).isSome = true ∧ r.outcome = some (st,
    det, pl)) (fun h u => (∃ op, opOf r.opcode = some op ∧ u = retire h op r st det pl (if r.opcode = 0x0206 then
    h.pwr.lehrUndo else {})) ∧ ∀ x ∈ u.cmd.running, x.id ≠ r.id)) ∧
  (RunsOk .readWords opReadWords (fun b c => b.fab.held = [] ∧ b.fab.back = [] ∧ c.rq.upsets = [] ∧ Map.get none
    b.cmd.latches (latchKey ehrik (rangeStart c.p)) = none ∧ (List.range (rangeCount c.p)).all (fun i => readStatus b
    (rangeStart c.p + i) == fsDone) = true) (fun b c e pl => pl = (List.range (rangeCount c.p)).flatMap (fun i => toBE 4
    (liveWord b (rangeStart c.p + i)).toNat) ∧ e.regs = b.regs ∧ e.evr = b.evr)) ∧
  (RunsOk .writeWords opWriteWords (fun b c => b.fab.held = [] ∧ b.fab.back = [] ∧ c.rq.upsets = [] ∧ mustWait b c.idx =
    false) (fun b c e pl => let t := ((issueRead ehrik (rangeStart c.p) 1 [] b).1); let x := (issueWrites (rangeStart c.p)
    (dataWords c.p) (usedBack (issueRead ehrik (rangeStart c.p) 1 [] b).2 [t])); pl = [] ∧ e = usedBack x.2 x.1)) ∧
  (∀ a v d : Nat, Happens (fun dt => .registerWrite dt a v d) (fun h => a < 2 ^ 24 ∧ v < 2 ^ 32 ∧ h.fab.held = [] ∧
    (addrDomain a).all (fun (x : Nat) => !h.fenced x && h.ready x) = true) (fun h u => u.regs = (writeWords a d [v] (nextTag
    ehrik h).2).regs ∧ u.mem = (writeWords a d [v] (nextTag ehrik h).2).mem ∧ u.fab.tags = (nextTag ehrik h).2.fab.tags)) ∧
  (∀ src a : Nat, Happens (fun dt => .wordPairLatchRead dt src a) (fun h => sourceOpen h src = true ∧ a < 2 ^ 24 ∧ h.fab.held
    = [] ∧ pairUpper a = true ∧ (addrDomain a).all (fun (x : Nat) => !h.fenced x && h.ready x) = true) (fun h u => u.regs =
    h.regs ∧ Map.get none u.cmd.latches (latchKey src a) = some (PairLatch.mk (a + 1) (liveWord h (a + 1)))))

/-- Each clause says of the row it names, in every state and for all operands that meet the condition it names, that exec
  answers the next state that follows from the effect it names. Of a request row a clause speaks wherever the request is
  taken up: it passes the checks, nothing refuses it and the domains it touches are ready; the request then completes with
  OK, or, where the clause says so, is accepted and waits. A clause with a list of subsystems and parts after keeps says
  besides that every other register word and every other part of the state is as it was. (1) ECHO returns its parameter block
  and changes nothing. (2) GET_INFO returns the version of the active slot's image, the active slot, a zero byte, the MAC
  address, the power-cycle count, DTIME and eight zero bytes, and changes nothing. (3) GET_NONCE, with the random source
  healthy, draws a fresh value of 32 bytes, returns it and makes it the nonce of the request's session from now. (4)
  SESSION_OPEN_1, with the random source healthy, the key slot that it names enrolled, fewer than four in-band sessions and a
  session number left: a fresh ephemeral key, device nonce and signature value are drawn; it returns the session number, two
  zero bytes, the ephemeral public key, the device nonce and the device signature over SHA-384 of T followed by 0x01; the
  session joins the list, provisional with T from now, with its key SHA-384 of the shared x-coordinate, the host nonce and
  the device nonce. (5) SESSION_OPEN_2 of a session that has been provisional for at most 5 s, whose key slot is enrolled,
  with a signature by that slot's key over SHA-384 of T followed by 0x02: the session is opened, at the lower of the level
  asked for and the slot's, heard now on the request's port, address and VLAN. (6) SESSION_CLOSE by an opened session closes
  it once the reply has left; by an implicit session it changes nothing. (7) SESSION_STATUS of a session that is not
  provisional returns its level, whether it has a high mark, two zero bytes, the mark and its idle time in ms, and changes
  nothing. Cites 02_commands_journal.md. -/
def Obligations.InfoAndSessionRequests : Prop :=
  (RunsOk .echo opEcho (fun _ _ => True) (fun b c e pl => e = b ∧ pl = c.p)) ∧
  (RunsOk .getInfo opGetInfo (fun _ _ => True) (fun b _ e pl => e = b ∧ pl = toBE 4 (imgVersion (slotImage b
    b.nv.ident.active)) ++ toBE 1 b.nv.ident.active ++ zeros 1 ++ toBE 6 b.mac ++ toBE 4 (b.num EVR_PCC) ++ b.dtimeBytes ++
    zeros 8)) ∧
  (RunsOk .getNonce opGetNonce (fun b _ => b.evr.randomOk = true) (fun b c e pl => e = updSession
    { b with freeN := b.freeN + 1 } c.sess (fun x =>
    { x with nonce := some ((Config.random b.freeN).toNat % 2 ^ 256, b.dtime) }) ∧ pl = toBE 32 ((Config.random
    b.freeN).toNat % 2 ^ 256))) ∧
  (∀ k : KeySlot, RunsOk .sessionOpen1 opSessionOpen1 (fun b c => b.evr.randomOk = true ∧ keySlot b (u8 (slice c.p 0 132)
    129) = some k ∧ (openSessions b).length < 4 ∧ unusedFrom b 5 (freshNumber b) ≤ 0xFFEF) (fun b c e pl => keeps [] [.cmd,
    .freeN] b e ∧ let n := (unusedFrom b 5 (freshNumber b)); let pub := (publicKey (scalarOf (Config.random b.freeN).toNat));
    let nonce := (toBE 32 ((Config.random (b.freeN + 1)).toNat % 2 ^ 256)); let t := (slice c.p 0 132 ++ pub ++ nonce ++ toBE
    2 n); pl = toBE 2 n ++ zeros 2 ++ pub ++ nonce ++ deviceSign (sha384 (t ++ [1])) (Config.random (b.freeN + 2)) ∧ e.regs =
    b.regs ∧ e.freeN = b.freeN + 3 ∧ ∃ x : Session, e.cmd.sessions = b.cmd.sessions ++ [x] ∧ x.num = n ∧ x.prov = some (t,
    b.dtime) ∧ x.level = min (u8 (slice c.p 0 132) 130) k.level ∧ x.slot = u8 (slice c.p 0 132) 129 ∧ x.key = (sha384
    (ecdhShared (scalarOf (Config.random b.freeN).toNat) (slice (slice c.p 0 132) 0 97) ++ slice (slice c.p 0 132) 97 32 ++
    nonce)).toNat ∧ x.mark = none ∧ x.nonce = none ∧ x.replies = [])) ∧
  (∀ (x : Session) (t : Bytes) (since : Nat) (k : KeySlot), RunsOk .sessionOpen2 opSessionOpen2 (fun b c => (openSessions
    b).find? (fun (x : Session) => x.num == u16 c.p 0) = some x ∧ x.prov = some (t, since) ∧ b.dtime ≤ since + 5000000000 ∧
    keySlot b x.slot = some k ∧ ecdsaVerify k.key (sha384 (t ++ [2])) (slice c.p 4 96) = true) (fun b c e pl => pl = [] ∧ e =
    updSession b (u16 c.p 0) (fun x =>
    { x with prov := none, level := min x.reqLvl k.level, lastReq := b.dtime, port := c.rq.port, src := c.rq.src, vlan := c.rq.vlan }))) ∧
  (RunsOk .sessionClose opSessionClose (fun _ _ => True) (fun b c e pl => pl = [] ∧ e = (if c.sess < 0xFFF0 then updSession b
    c.sess (fun x => { x with closing := true }) else b))) ∧
  (∀ x : Session, RunsOk .sessionStatus opSessionStatus (fun b c => findSession b (u16 c.p 0) = some x ∧ x.prov = none) (fun
    b _ e pl => e = b ∧ pl = toBE 1 x.level ++ toBE 1 (if x.mark.isSome then 1 else 0) ++ zeros 2 ++ toBE 4 (x.mark.getD 0)
    ++ toBE 4 (min ((b.dtime - x.lastReq) / 1000000) (2 ^ 32 - 1))))

/-- Each clause says of the row it names, in every state and for all operands that meet the condition it names, that exec
  answers the next state that follows from the effect it names. Of a request row a clause speaks wherever the request is
  taken up: it passes the checks, nothing refuses it and the domains it touches are ready; the request then completes with
  OK, or, where the clause says so, is accepted and waits. (1) NOTICE_FETCH on the two-wire port removes the oldest 8 pending
  notices, or all if fewer, and returns their number, three zero bytes and their 16 header bytes each. (2) JOURNAL_INFO
  returns the epoch, epoch and index of the oldest and newest entry of the RAM tier and of the NV tier (zeros for an empty
  one), the number of pending entries up to 65535, a zero byte and the power-cycle count, and changes nothing. (3)
  JOURNAL_READ returns, after eight bytes that begin with their number, the first entries of the tier from the start on that
  belong to the session asked for, as many as asked for and on the in-band route at most 22, and changes nothing. (4)
  JOURNAL_SYNC with no commit outstanding completes at once and changes nothing. (5) JOURNAL_SYNC with commits outstanding is
  accepted and waits for them, and changes nothing. (6) INBAND_CONFIG sets the in-band enable, the EtherType and the MAC
  address. (7) NV_TIER_COMMIT of the one outstanding commit, with D19 ready and not fenced: its objects are written and
  adopted and its entry joins the NV tier of the journal in the order of indices, no commit is outstanding, and every command
  that waits for commits comes to OK. (8) CMIS_TX_DISABLE sets or clears the disable of the transmitter it names. (9)
  CMIS_DATAPATH_DEINIT that deinitialises, of a part that takes commands: its group is held and goes to P0. (10)
  CMIS_DATAPATH_DEINIT that ends it, of a part that takes commands: its group is no longer held, and leaves P0 if it is
  enabled and may. (11) BUS_STUCK_RELEASE after 25 ms or more: nine clocks and a stop condition go out, and event 0x0006 with
  the time in µs is recorded; in a management reset the event is kept back. Cites 02_commands_journal.md,
  19_records_security.md, 01_architecture.md, 11_front_end_sequencer.md, 20_electrical_package.md. -/
def Obligations.NoticesJournalAndCmis : Prop :=
  (RunsOk .noticeFetch opNoticeFetch (fun _ c => c.rq.route = Route.twoWire) (fun b _ e pl => e =
    { b with cmd := { b.cmd with notices := b.cmd.notices.drop 8 } } ∧ pl = toBE 1 (b.cmd.notices.take 8).length ++ zeros 3
    ++ (b.cmd.notices.take 8).flatMap replyHead)) ∧
  (RunsOk .journalInfo opJournalInfo (fun _ _ => True) (fun b _ e pl => e = b ∧ pl = toBE 1 b.cmd.epoch ++ fiveBytes
    b.cmd.journal.head? ++ fiveBytes b.cmd.journal.getLast? ++ fiveBytes b.nv.journal.head? ++ fiveBytes
    b.nv.journal.getLast? ++ toBE 2 (min 65535 (b.cmd.journal.filter fun (x : JEntry) => x.status == stACCEPTED).length) ++
    zeros 1 ++ toBE 4 (b.num EVR_PCC))) ∧
  (RunsOk .journalRead opJournalRead (fun _ _ => True) (fun b c e pl => e = b ∧ u8 pl 0 = ((((startFrom b (u8 c.p 1) (u32 c.p
    2) (tierOf b (u8 c.p 0))).1).filter fun (x : JEntry) => u16 c.p 6 == 0xFFFF || x.session == u16 c.p 6).take (if
    c.rq.route = Route.inband then min 22 (u8 c.p 8) else u8 c.p 8)).length % 256 ∧ pl.drop 8 = ((((startFrom b (u8 c.p 1)
    (u32 c.p 2) (tierOf b (u8 c.p 0))).1).filter fun (x : JEntry) => u16 c.p 6 == 0xFFFF || x.session == u16 c.p 6).take (if
    c.rq.route = Route.inband then min 22 (u8 c.p 8) else u8 c.p 8)).flatMap entryBytes)) ∧
  (RunsOk .journalSync opJournalSync (fun b _ => b.nv.items = []) (fun b _ e pl => e = b ∧ pl = [])) ∧
  (RunsOn .journalSync opJournalSync (fun b _ => b.nv.items ≠ []) (fun b _ e w => w = Wait.nvSync ∧ e = b)) ∧
  (RunsOk .inbandConfig opInbandConfig (fun _ _ => True) (fun b c e pl => e =
    { (b.setFld CMD_CFG_inband_en (bit (u8 c.p 0) 0)).setFld CMD_CFG_inband_etype (u16 c.p 1) with cmd := { ((b.setFld CMD_CFG_inband_en (bit (u8 c.p 0) 0)).setFld CMD_CFG_inband_etype (u16 c.p 1)).cmd with mac := un c.p 3 6 } }
    ∧ pl = [])) ∧
  (∀ i : NvItem, Happens .nvTierCommit (fun h => h.nv.items = [i] ∧ h.ready 19 = true ∧ h.fenced 19 = false) (fun h u => u =
    setOutcome (commitItem { h with nv := { h.nv with items := [] } } i) isSync stOK 0 ∧ u.nv.items = [])) ∧
  (∀ (n : Fin 8) (off : Bool), Happens (fun dt => .cmisTxDisable dt n off) (fun _ => True) (fun h u => u = h.setFlag
    (FES_STATE_cmis_dis n) off)) ∧
  (∀ g : Fin 2, Happens (fun dt => .cmisDatapathDeinit dt g true) (fun h => h.takesCommands = true) (fun h u => u = toP0
    (h.updGrp g fun x => { x with deinit := true }) g)) ∧
  (∀ g : Fin 2, Happens (fun dt => .cmisDatapathDeinit dt g false) (fun h => h.takesCommands = true) (fun h u => u =
    enterIfEnabled (h.updGrp g fun x => { x with deinit := false }) g)) ∧
  (∀ us : Nat, Happens (fun dt => .busStuckRelease dt us) (fun _ => 25000 ≤ us) (fun h u => (h.phase ≠ Phase.mgmtReset → u =
    (h.emit .busFree).raise 0x0006 [us]) ∧ (h.phase = Phase.mgmtReset → u = updPwr (h.emit .busFree) fun x =>
    { x with busFreed := some us })))

/-- Each clause says of the row it names, in every state and for all operands that meet the condition it names, that exec
  answers the next state that follows from the effect it names. Of a request row a clause speaks wherever the request is
  taken up: it passes the checks, nothing refuses it and the domains it touches are ready; the request then completes with
  OK, or, where the clause says so, is accepted and waits. A clause with a list of subsystems and parts after keeps says
  besides that every other register word and every other part of the state is as it was. (1) MGMT_RESET notes that a
  management reset has been asked for now, unless a wider reset has been. (2) WARM_RESET notes that a warm reset has been
  asked for now. (3) CMIS_SOFTWARE_RESET of a part that takes commands, where CMD_CFG.cmis_swreset is 1, notes that a warm
  reset has been asked for now. (4) CMIS_SOFTWARE_RESET of a part that takes commands, where CMD_CFG.cmis_swreset is 0,
  records event 0x0005 and does nothing else. (5) WATCHDOG_FIRE with at most one firing within the 10 s before, with no warm
  reset asked for and no start in progress, records event 0x0002 with the active slot and the number of firings, and then
  begins a management reset, with event 0x0003 and parameter 1. (6) WATCHDOG_FIRE as the third firing within 10 s, with no
  switch of slots before, no trial, no warm reset asked for and no start in progress, makes the other slot active besides.
  (7) MGMT_RESET_COMPLETE in a management reset: the part is command-ready (in service, in the shut state, or in recovery);
  no reset is asked for; no command runs; the sessions are the two implicit ones, each with the number of its newest journal
  entry as high mark; DTIME stands. (8) WARM_RESET_COMPLETE in a warm reset: the part is command-ready (in service, in the
  shut state, or in recovery), no reset is asked for, and DTIME stands. Cites 01_architecture.md, 02_commands_journal.md,
  11_front_end_sequencer.md, 20_electrical_package.md. -/
def Obligations.ResetsAsked : Prop :=
  (RunsOk .mgmtReset opMgmtReset (fun _ _ => True) (fun b _ e pl => e = updPwr b (fun x =>
    { x with resetting := max x.resetting 1, resetAt := b.dtime }) ∧ pl = [])) ∧
  (RunsOk .warmReset opWarmReset (fun _ _ => True) (fun b _ e pl => e = updPwr b (fun x =>
    { x with resetting := max x.resetting 4, resetAt := b.dtime }) ∧ pl = [])) ∧
  (Happens .cmisSoftwareReset (fun h => h.takesCommands = true ∧ h.flag CMD_CFG_cmis_swreset = true) (fun h u => u = updPwr h
    (fun x => { x with resetting := max x.resetting 4, resetAt := h.dtime }))) ∧
  (Happens .cmisSoftwareReset (fun h => h.takesCommands = true ∧ h.flag CMD_CFG_cmis_swreset = false) (fun h u => u = h.raise
    0x0005)) ∧
  (Happens .watchdogFire (fun h => h.phase ≠ Phase.starting ∧ h.pwr.resetting ≠ 4 ∧ (h.cmd.fires.filter fun t => decide
    (h.dtime < t + 10 ^ 10)).length ≤ 1) (fun h u => keeps [0x02] [.phase, .cmd, .evr, .nv, .pwr] h u ∧ u.phase =
    Phase.mgmtReset ∧ u.pwr.resetting = 2 ∧ u.nv = h.nv ∧ u.evr.bus = h.evr.bus ++ [Ev.mk 0x0002 [h.nv.ident.active,
    (h.cmd.fires.filter fun t => decide (h.dtime < t + 10 ^ 10)).length + 1] h.dtime, Ev.mk 0x0003 [1] h.dtime])) ∧
  (Happens .watchdogFire (fun h => h.phase ≠ Phase.starting ∧ h.pwr.resetting ≠ 4 ∧ h.nv.ident.trial = false ∧ h.cmd.turnedAt
    = none ∧ (h.cmd.fires.filter fun t => decide (h.dtime < t + 10 ^ 10)).length = 2) (fun h u => keeps [0x02] [.phase, .cmd,
    .evr, .nv, .pwr] h u ∧ u.phase = Phase.mgmtReset ∧ u.pwr.resetting = 2 ∧ u.nv.ident.active = otherSlot h.nv.ident.active
    ∧ u.evr.bus = h.evr.bus ++ [Ev.mk 0x0002 [h.nv.ident.active, 3] h.dtime, Ev.mk 0x0003 [1] h.dtime])) ∧
  (Happens .mgmtResetComplete (fun h => h.phase = Phase.mgmtReset) (fun h u => (u.phase = Phase.ready ∨ u.phase = Phase.shut
    ∨ u.phase = Phase.recovery) ∧ u.pwr.resetting = 0 ∧ u.cmd.running = [] ∧ u.cmd.sessions.map (fun (x : Session) => (x.num,
    x.mark)) = [0xFFF1, 0xFFF2].map (fun n => (n, (lastWith (fun (x : JEntry) => x.session == n) h.cmd.journal).map
    JEntry.seq)) ∧ u.dtime = h.dtime)) ∧
  (Happens .warmResetComplete (fun h => h.phase = Phase.warmReset) (fun h u => (u.phase = Phase.ready ∨ u.phase = Phase.shut
    ∨ u.phase = Phase.recovery) ∧ u.pwr.resetting = 0 ∧ u.dtime = h.dtime))

/-- Each clause says of the row it names, in every state and for all operands that meet the condition it names, that exec
  answers the next state that follows from the effect it names. Of a request row a clause speaks wherever the request is
  taken up: it passes the checks, nothing refuses it and the domains it touches are ready; the request then completes with
  OK, or, where the clause says so, is accepted and waits. (1) PWR_PACE_SET with a ceiling that the operating point
  guarantees sets the pace ceiling and, where no domain of D00 to D14 is in alarm, clears PWR_SPD_STATUS.limited. (2)
  PWR_OP_SET with no move in progress and its start checks passed is accepted: a move to the point begins (at most 10 mV of
  it is asked for), with the ceiling as it was, and it waits for the move. (3) PWR_OP_SET while an automatic raise is
  stepping is accepted, waits for it, and changes nothing yet. (4) PWR_OP_MOVE with no move in progress and its start checks
  passed is accepted: a move to the point begins; a ceiling for a point of lower voltage is set at once and one for another
  at the end of the move. (5) PWR_FLOOR_SET of a point of no higher voltage than the present one, with every admission still
  passing under the new floor, sets the floor, and raises a ceiling below what the floor guarantees to that. (6)
  PWR_SPEED_CFG sets the alarm, critical and hysteresis fields and the two automatic flags, and, with bit 2 of its flags,
  sets the lowest margin of every domain to 0x3FF. (7) PWR_SPEED_READ returns the status word and the 19 margin words, and
  changes nothing. (8) PWR_TIME_READ returns DTIME with a fraction (a free value), its source, and for each group the peer
  offset, the path delay and whether they are valid; it changes nothing but the count of free values. Cites
  03_clockless_timing.md. -/
def Obligations.PaceAndSpeedRequests : Prop :=
  (RunsOk .pwrPaceSet opPwrPaceSet (fun b c => u16 c.p 0 ≤ opGuaranteed (b.fld PWR_OP_STATUS_current)) (fun b c e pl => e =
    (if alarmed b then b.setFld TDS_PACE_ceiling (u16 c.p 0) else (b.setFld TDS_PACE_ceiling (u16 c.p 0)).setFld
    PWR_SPD_STATUS_limited 0) ∧ pl = [])) ∧
  (RunsOn .pwrOpSet opPwrOpSet (fun b c => b.pwr.move = none ∧ moveCheck b (u8 c.p 0) b.ceiling = none) (fun b c e w => w =
    Wait.opMove ∧ e = beginMove b false (u8 c.p 0) none)) ∧
  (RunsOn .pwrOpSet opPwrOpSet (fun b _ => b.pwr.move.isSome = true) (fun b _ e w => w = Wait.opMove ∧ e = b)) ∧
  (RunsOn .pwrOpMove opPwrOpMove (fun b c => b.pwr.move = none ∧ moveCheck b (u8 c.p 0) (u16 c.p 1) = none) (fun b c e w => w
    = Wait.opMove ∧ e = (beginMove b false (u8 c.p 0) (some (u16 c.p 1))).cond (decide (u8 c.p 0 > b.fld
    PWR_OP_STATUS_current)) fun s => s.setFld TDS_PACE_ceiling (u16 c.p 1))) ∧
  (RunsOk .pwrFloorSet opPwrFloorSet (fun b c => b.fld PWR_OP_STATUS_current ≤ u8 c.p 0 ∧ recheck b
    { b.terms with floor := opGuaranteed (u8 c.p 0) } = none) (fun b c e pl => e = (b.setFld TDS_PACE_floor (u8 c.p 0)).cond
    (decide ((b.setFld TDS_PACE_floor (u8 c.p 0)).ceiling < opGuaranteed (u8 c.p 0))) (fun s => s.setFld TDS_PACE_ceiling
    (opGuaranteed (u8 c.p 0))) ∧ pl = [])) ∧
  (RunsOk .pwrSpeedCfg opPwrSpeedCfg (fun _ _ => True) (fun b c e pl => e = (((((b.setFld PWR_SPD_CFG_alarm (u8 c.p
    0)).setFld PWR_SPD_CFG_crit (u8 c.p 1)).setFld PWR_SPD_CFG_hyst (u8 c.p 2)).setFld PWR_SPD_CFG_auto_raise (bit (u8 c.p 3)
    0)).setFld PWR_SPD_CFG_auto_restore (bit (u8 c.p 3) 1)).cond (hasBit (u8 c.p 3) 2) (fun s => s.each (List.range 19) fun d
    s => s.setFld (PWR_SPD_MARGIN_min_margin d) 0x3FF) ∧ pl = [])) ∧
  (RunsOk .pwrSpeedRead opPwrSpeedRead (fun _ _ => True) (fun b _ e pl => e = b ∧ pl = b.wordsAt (PWR_SPD_STATUS ::
    (List.range 19).map PWR_SPD_MARGIN))) ∧
  (RunsOk .pwrTimeRead opPwrTimeRead (fun _ _ => True) (fun b _ e pl => e = { b with freeN := b.freeN + 1 } ∧ pl = toBE 8
    (fine b (Config.free b.freeN % 64)) ++ toBE 1 (b.fld PWR_DTIME_SRC_source) ++ zeros 3 ++ [0, 1].flatMap fun g => b.words
    (PWR_PEER_OFS g) 2 ++ b.words (PWR_PATH_DLY g) 1 ++ toBE 1 (b.fld (peerValid g)) ++ zeros 3))

/-- Each clause says of the row it names, in every state and for all operands that meet the condition it names, that exec
  answers the next state that follows from the effect it names. (1) AVSBUS_STEP_DONE of a move whose last asked-for voltage
  is not its goal: the read-back is the VCORE held, and the next voltage, at most 10 mV on, is asked for. (2)
  AVSBUS_STEP_DONE of a move whose last asked-for voltage is its goal, with a read-back within 8 mV of it: the read-back is
  the VCORE held, the move has settled now unless it had before, and it ends if it may. (3) AVSBUS_FAULT with no move in
  progress records event 0x0217 with the voltage and the status, and does nothing else. (4) AVSBUS_FAULT during an automatic
  raise: event 0x0217; the voltage acknowledged last is held, the point is the one of highest voltage that does not exceed
  it, the ceiling at most what that guarantees, and what waited for the raise goes on. (5) AVSBUS_FAULT during a commanded
  move that is not being turned back: event 0x0217; voltage, point and ceiling likewise, the ceiling from the one at the
  start; event 0x0214 with the target and 3; the move ends CONDITIONS with detail 3. (6) AUTO_RAISE_COMPLETE of an automatic
  raise that has settled for 50 µs: the operating point is its target, event 0x0213 carries its origin and target, no move is
  in progress, and what waited for the raise, or the next raise, goes on. Cites 03_clockless_timing.md. -/
def Obligations.VoltageMoves : Prop :=
  (∀ (mv : Nat) (m : VMove), Happens (fun dt => .avsbusStepDone dt mv) (fun h => h.pwr.move = some m ∧ m.cmdMv ≠ m.goal) (fun
    h u => u = (setMove (h.setFld PWR_OP_STATUS_vcore_mv mv) (some
    { m with cmdMv := nextMv m.cmdMv m.goal, asked := true })).emit (.avs (nextMv m.cmdMv m.goal)))) ∧
  (∀ (mv : Nat) (m : VMove), Happens (fun dt => .avsbusStepDone dt mv) (fun h => h.pwr.move = some m ∧ m.cmdMv = m.goal ∧ mv
    ≤ m.goal + 8 ∧ m.goal ≤ mv + 8) (fun h u => u = tryEndMove (setMove (h.setFld PWR_OP_STATUS_vcore_mv mv) (some
    { m with asked := false, settled := some (m.settled.getD h.dtime), reads := if m.settled.isNone then 0 else m.reads })))) ∧
  (∀ mv st : Nat, Happens (fun dt => .avsbusFault dt mv st) (fun h => h.pwr.move = none) (fun h u => u = h.raise 0x0217 [mv,
    st])) ∧
  (∀ (mv st : Nat) (m : VMove), Happens (fun dt => .avsbusFault dt mv st) (fun h => h.pwr.move = some m ∧ m.auto = true) (fun
    h u => u = afterRaise (setMove ((((h.raise 0x0217 [mv, st]).setFld PWR_OP_STATUS_vcore_mv mv).setFld
    PWR_OP_STATUS_current (pointOf mv)).setFld TDS_PACE_ceiling (min (((h.raise 0x0217 [mv, st]).setFld
    PWR_OP_STATUS_vcore_mv mv).setFld PWR_OP_STATUS_current (pointOf mv)).ceiling (opGuaranteed (pointOf mv)))) none))) ∧
  (∀ (mv st : Nat) (m : VMove), Happens (fun dt => .avsbusFault dt mv st) (fun h => h.pwr.move = some m ∧ m.auto = false ∧
    m.aborted = none) (fun h u => u = endMove (((((h.raise 0x0217 [mv, st]).setFld PWR_OP_STATUS_vcore_mv mv).setFld
    PWR_OP_STATUS_current (pointOf mv)).setFld TDS_PACE_ceiling (min m.startCeil (opGuaranteed (pointOf mv)))).raise 0x0214
    [m.target, 3]) stCONDITIONS 3)) ∧
  (∀ m : VMove, Happens .autoRaiseComplete (fun h => h.pwr.move = some m ∧ m.auto = true ∧ moveSettled h m = true) (fun h u
    => u = afterRaise ((setMove (h.setFld PWR_OP_STATUS_current m.target) none).raise 0x0213 [m.origin, m.target])))

/-- Each clause says of the row it names, in every state and for all operands that meet the condition it names, that exec
  answers the next state that follows from the effect it names. A clause with a list of subsystems and parts after keeps says
  besides that every other register word and every other part of the state is as it was. (1) SPEED_READING of D00 to D14 in a
  domain that gives readings, with a margin not below the alarm and the critical threshold and no move in progress: the
  margin is the sustainable pace less the higher group pace, limited to the field, the lowest margin follows it down, and
  nothing else changes but since when the domain has been well. (2) SPEED_READING of D00 to D14 that is the first below the
  alarm threshold: the domain is in alarm, limited is set, and event 0x0210 carries the domain, the margin and the pace. (3)
  SPEED_READING of D15 to D18 in a domain that gives readings: its margin is set likewise, and it is in alarm exactly while
  the margin is below the alarm threshold. (4) SPEED_ALARM_END of a domain of D00 to D14 in alarm that has been at or above
  the alarm threshold plus hysteresis for 10 ms: it leaves alarm. (5) SUSPENSION_PACE_STEP in a suspension with a margin
  short, before it has turned up, DTIME not running from the oscillator: both limits fall by 50 per mille, to no less than
  250, and nothing else changes. (6) SUSPENSION_PACE_STEP in a suspension with every margin at or above the critical
  threshold plus hysteresis, and both limits within 50 per mille of their groups' floors, DTIME not running from the
  oscillator: the suspension ends, with event 0x0212 and its length in µs. Cites 03_clockless_timing.md. -/
def Obligations.SpeedReadingsAndSuspension : Prop :=
  (∀ (d : Fin 19) (su : Nat), Happens (fun dt => .speedReading dt d su) (fun h => (d : Nat) < 15 ∧ reading h d = true ∧
    h.pwr.move = none ∧ (h.fld PWR_SPD_CFG_alarm : Int) ≤ clampI (-1024) 1023 ((su : Int) - max (groupPace h 0) (groupPace h
    1)) ∧ (h.fld PWR_SPD_CFG_crit : Int) ≤ clampI (-1024) 1023 ((su : Int) - max (groupPace h 0) (groupPace h 1))) (fun h u
    => keeps [0x02, 0x0A] [.cmd, .evr, .pwr, .out] h u ∧ u.fldS (PWR_SPD_MARGIN_margin d) = clampI (-1024) 1023 ((su : Int) -
    max (groupPace h 0) (groupPace h 1)) ∧ u.fldS (PWR_SPD_MARGIN_min_margin d) = min (h.fldS (PWR_SPD_MARGIN_min_margin d))
    (clampI (-1024) 1023 ((su : Int) - max (groupPace h 0) (groupPace h 1))) ∧ (∀ a, a ≠ PWR_SPD_MARGIN d → u.reg a = h.reg
    a) ∧ u.evr = h.evr)) ∧
  (∀ (d : Fin 19) (su : Nat), Happens (fun dt => .speedReading dt d su) (fun h => (d : Nat) < 15 ∧ reading h d = true ∧
    inAlarm h d = false ∧ clampI (-1024) 1023 ((su : Int) - max (groupPace h 0) (groupPace h 1)) < (h.fld PWR_SPD_CFG_alarm :
    Int)) (fun h u => keeps [0x02, 0x0A] [.cmd, .evr, .pwr, .out] h u ∧ inAlarm u d = true ∧ u.flag PWR_SPD_STATUS_limited =
    true ∧ Ev.mk 0x0210 [d, enc 32 (clampI (-1024) 1023 ((su : Int) - max (groupPace h 0) (groupPace h 1))), h.fld
    TDS_PACE_current] h.dtime ∈ u.evr.bus)) ∧
  (∀ (d : Fin 19) (su : Nat), Happens (fun dt => .speedReading dt d su) (fun h => 15 ≤ (d : Nat) ∧ reading h d = true) (fun h
    u => keeps [0x02, 0x0A] [.cmd, .evr, .pwr, .out] h u ∧ u.fldS (PWR_SPD_MARGIN_margin d) = clampI (-1024) 1023 ((su : Int)
    - max (groupPace h 0) (groupPace h 1)) ∧ (inAlarm u d = true ↔ clampI (-1024) 1023 ((su : Int) - max (groupPace h 0)
    (groupPace h 1)) < (h.fld PWR_SPD_CFG_alarm : Int)) ∧ u.pwr = h.pwr)) ∧
  (∀ d : Fin 19, Happens (fun dt => .speedAlarmEnd dt d) (fun h => inAlarm h d = true ∧ (d : Nat) < 15 ∧ Map.get 0
    h.pwr.okSince d ≠ 0 ∧ Map.get 0 h.pwr.okSince d - 1 + 10000000 ≤ h.dtime) (fun h u => u = leaveAlarm h d ∧ inAlarm u d =
    false)) ∧
  (Happens .suspensionPaceStep (fun h => h.flag PWR_SPD_STATUS_suspended = true ∧ marginsOk h = false ∧ h.pwr.susUp = false ∧
    h.fld PWR_DTIME_SRC_source ≠ 3) (fun h u => u =
    { h with pwr := { h.pwr with susLim := Map.put 1000 (Map.put 1000 h.pwr.susLim 0 (max 250 (Map.get 1000 h.pwr.susLim 0 - 50))) 1 (max 250 (Map.get 1000 h.pwr.susLim 1 - 50)) } })) ∧
  (Happens .suspensionPaceStep (fun h => h.flag PWR_SPD_STATUS_suspended = true ∧ marginsOk h = true ∧ h.fld
    PWR_DTIME_SRC_source ≠ 3 ∧ groupFloor h 0 ≤ Map.get 1000 h.pwr.susLim 0 + 50 ∧ groupFloor h 1 ≤ Map.get 1000 h.pwr.susLim
    1 + 50) (fun h u => keeps [0x02] [.evr, .pwr] h u ∧ u.flag PWR_SPD_STATUS_suspended = false ∧ u.pwr.susLim = [] ∧
    u.evr.bus = h.evr.bus ++ [Ev.mk 0x0212 [(h.dtime - h.pwr.susAt) / 1000] h.dtime]))

/-- Each clause says of the row it names, in every state and for all operands that meet the condition it names, that exec
  answers the next state that follows from the effect it names. (1) REFERENCE_MEASURE, 100 µs or more after the last, with
  all three references present and each within 150.0 ppm of the median: the three offsets are set, against the median, and
  the time is noted. (2) REFERENCE_MEASURE likewise, with HREF the only reference present, within 1150.0 ppm: its offset is
  set. (3) REFERENCE_ABSENT of a reference: it is marked absent, out of range from now and, if it was accepted, rejected. (4)
  REFERENCE_ACCEPTED of HREF, not accepted before and not found out of range in the last 10 ms: it is present and accepted
  from now. (5) REFERENCE_ACCEPTED of a line reference likewise: it is present and accepted from now, and its group leaves P0
  if it is enabled and may. (6) DTIME_SOURCE_RETURN with LREFA accepted for 1 s and DTIME running from another source: DTIME
  runs from LREFA, with event 0x0215 and a step of at most 1 ns, a free value. (7) TIME_TRANSFER_TICK of an active lane of a
  group with framing in P4 or P5: a request with the lane's next sequence number is queued for the lane's next time cell. (8)
  TIME_TRANSFER_ANSWER_RX that answers the request outstanding on its lane, of a group with framing in P4 or P5, where no
  offset is published or the raw offset lies within 20 ns of it: the request is no longer outstanding; the delay and the raw
  offset join their lists; and the mean is published where an offset was, or 16 offsets of active lanes stand. (9)
  TIME_TRANSFER_ANSWER_RX that matches no outstanding request of its lane changes nothing. Cites 03_clockless_timing.md,
  05_line_format.md, 20_electrical_package.md. -/
def Obligations.ReferencesAndTimeTransfer : Prop :=
  (∀ x a b : Int, Happens (fun dt => .referenceMeasure dt x a b) (fun h => measureDue h = true ∧ h.flag (PWR_REF_present 0) =
    true ∧ h.flag (PWR_REF_present 1) = true ∧ h.flag (PWR_REF_present 2) = true ∧ (x - median x a b).natAbs ≤ 1500 ∧ (a -
    median x a b).natAbs ≤ 1500 ∧ (b - median x a b).natAbs ≤ 1500) (fun h u => u =
    ((({ h with pwr := { h.pwr with measAt := some h.dtime } } : Hw).setFldS (PWR_REF_offset 0) (x - median x a b)).setFldS
    (PWR_REF_offset 1) (a - median x a b)).setFldS (PWR_REF_offset 2) (b - median x a b))) ∧
  (∀ x a b : Int, Happens (fun dt => .referenceMeasure dt x a b) (fun h => measureDue h = true ∧ h.flag (PWR_REF_present 0) =
    true ∧ h.flag (PWR_REF_present 1) = false ∧ h.flag (PWR_REF_present 2) = false ∧ x.natAbs ≤ 11500) (fun h u => u =
    ({ h with pwr := { h.pwr with measAt := some h.dtime } } : Hw).setFldS (PWR_REF_offset 0) x)) ∧
  (∀ r : Fin 3, Happens (fun dt => .referenceAbsent dt r) (fun _ => True) (fun h u => u = rejectRef (refOut (h.setFld
    (PWR_REF_present r) 0) r) r ∧ (h.refOk r = false → u = refOut (h.setFld (PWR_REF_present r) 0) r))) ∧
  (Happens (fun dt => .referenceAccepted dt (0 : Fin 3)) (fun h => h.refOk 0 = false ∧ refGood h 0 = true) (fun h u => u =
    ({ (h.setFld (PWR_REF_present 0) 1).setFld (PWR_REF_accepted 0) 1 with pwr := { h.pwr with refOkSince := Map.put 0 h.pwr.refOkSince 0 (h.dtime + 1) } }
    : Hw))) ∧
  (∀ r : Fin 3, Happens (fun dt => .referenceAccepted dt r) (fun h => (r : Nat) ≠ 0 ∧ h.refOk r = false ∧ refGood h r = true)
    (fun h u => u = enterIfEnabled
    ({ (h.setFld (PWR_REF_present r) 1).setFld (PWR_REF_accepted r) 1 with pwr := { h.pwr with refOkSince := Map.put 0 h.pwr.refOkSince r (h.dtime + 1) } }
    : Hw) (r - 1))) ∧
  (Happens .dtimeSourceReturn (fun h => h.refOk 1 = true ∧ Map.get 0 h.pwr.refOkSince 1 + 1000000000 ≤ h.dtime ∧ h.fld
    PWR_DTIME_SRC_source ≠ 0) (fun h u => u = changeSource h 0 ∧ u.fld PWR_DTIME_SRC_source = 0 ∧ u.evr.bus = h.evr.bus ++
    [Ev.mk 0x0215 [h.fld PWR_DTIME_SRC_source, 0, Config.free h.freeN % 65] h.dtime])) ∧
  (∀ (n : Fin 8) (fr : Nat), Happens (fun dt => .timeTransferTick dt n fr) (fun h => framing h (laneGroup n) = true ∧ 4 ≤
    h.stage (laneGroup n) ∧ hasBit (h.txMask (laneGroup n)) (n % 4) = true) (fun h u => u = sendTime (h.updGrp (laneGroup n)
    fun x => { x with ttSeq := Map.put 0 x.ttSeq (n % 4) ((Map.get 0 (h.grp (laneGroup n)).ttSeq (n % 4) + 1) % 65536) })
    (laneGroup n) (n % 4) 1 ((Map.get 0 (h.grp (laneGroup n)).ttSeq (n % 4) + 1) % 65536) fr (timePayload h 0 0 0 0))) ∧
  (∀ (n : Fin 8) (a b d q fr : Nat), Happens (fun dt => .timeTransferAnswerRx dt n a b d q fr) (fun h => framing h (laneGroup
    n) = true ∧ 4 ≤ h.stage (laneGroup n) ∧ Map.get none (h.grp (laneGroup n)).ttOut (n % 4) = some (q, a) ∧ (h.flag
    (peerValid (laneGroup n)) = false ∨ ((exchange h (laneGroup n) a b d (fine h fr)).1 - 2 * sx 64 (h.num64 (PWR_PEER_OFS
    (laneGroup n)))).natAbs ≤ 2560)) (fun h u => let x := (exchange h (laneGroup n) a b d (fine h fr)); let t := (h.updGrp
    (laneGroup n) fun y =>
    { y with ttOut := Map.put none y.ttOut (n % 4) none, dlys := Map.put [] y.dlys (n % 4) ((x.2 :: Map.get [] y.dlys (n % 4)).take 16), exch := y.exch + 1, offs := (((n : Nat) % 4, x.1) :: y.offs).take 64, aside := [], exchOffs := min 64 (y.exchOffs + 1) });
    u = tryReady (if !(recentOffs t (laneGroup n)).isEmpty && (h.flag (peerValid (laneGroup n)) || decide ((recentOffs t
    (laneGroup n)).length ≥ 16)) then publish t (laneGroup n) (recentOffs t (laneGroup n)) else t) (laneGroup n))) ∧
  (∀ (n : Fin 8) (a b d q fr : Nat), Happens (fun dt => .timeTransferAnswerRx dt n a b d q fr) (fun h => Map.get none (h.grp
    (laneGroup n)).ttOut (n % 4) ≠ some (q, a)) (fun h u => u = h))

/-- Each clause says of the row it names, in every state and for all operands that meet the condition it names, that exec
  answers the next state that follows from the effect it names. Of a request row a clause speaks wherever the request is
  taken up: it passes the checks, nothing refuses it and the domains it touches are ready; the request then completes with
  OK, or, where the clause says so, is accepted and waits. (1) LTX_CONFIG sets swing, inversion and pre-distortion bypass of
  every lane of its mask. (2) LTX_TAP_SET, where no lane of its mask has its group in P2, sets the seven taps of every lane
  of its mask. (3) LTX_LEVELS_SET sets the two inner levels of every lane of its mask. (4) LTX_PD_LOAD sets the 16 words of
  the pre-distortion table of every lane of its mask. (5) LRX_CONFIG, where it moves no main position of its lanes or none of
  them has its group in P2 or later, sets the loss threshold, the main position (whose tap is then 1024), inversion, the
  estimator's enable, the CDR's bandwidth and phase and the convergence margin of every lane of its mask. (6) LRX_ADAPT_SET
  sets the three adaptation modes and the two step exponents of every lane of its mask. (7) LRX_EQ_SET of blocks none of
  which runs sets, of the lane, the front end, the 48 taps (the main tap is held at 1024) and the two coefficients, each
  where its bit of the block mask says so. (8) LRX_GTH_SELECT, unless a capture of the line source is armed, sets the lane
  and the point of captures, and forgets what captures held of the lane before. (9) LRX_EQ_READ returns the lane's present
  equaliser values, its status, frequency and measurement words, DTIME and four zero bytes, and changes nothing. (10)
  LRX_MEAS_READ returns the measurements of every lane of its mask, as they stand, and with bit 0 of its flags sets their
  counters to 0. (11) LRX_HIST_RUN of a lane with no run in progress and no loss of signal is accepted and waits for the end
  of the run: the histogram is cleared (its counts kept for a TIMEOUT), hist_busy is set, and the run has the point and the
  length asked for. (12) LRX_HIST_READ of bins none of which is poisoned returns their words, and changes nothing. Cites
  04_line_lanes.md. -/
def Obligations.LaneSettingsAndReads : Prop :=
  (RunsOk .ltxConfig opLtxConfig (fun _ _ => True) (fun b c e pl => pl = [] ∧ e = b.each (lanesOf (u8 c.p 0)) (fun n s =>
    ((s.setFld (LTX_CFG_swing n) (u8 c.p 1)).setFld (LTX_CFG_invert n) (bit (u8 c.p 2) 0)).setFld (LTX_CFG_pd_bypass n) (bit
    (u8 c.p 2) 1)))) ∧
  (RunsOk .ltxTapSet opLtxTapSet (fun b c => (lanesOf (u8 c.p 0)).all (fun n => b.stage (laneGroup n) != 2) = true) (fun b c
    e pl => pl = [] ∧ e = b.each (lanesOf (u8 c.p 0)) (fun n s => setTaps s n (c.p.drop 1)))) ∧
  (RunsOk .ltxLevelsSet opLtxLevelsSet (fun _ _ => True) (fun b c e pl => pl = [] ∧ e = b.each (lanesOf (u8 c.p 0)) (fun n s
    => (s.setFld (LTX_LEVELS_inner_pos n) (u8 c.p 1)).setFld (LTX_LEVELS_inner_neg n) (u8 c.p 2)))) ∧
  (RunsOk .ltxPdLoad opLtxPdLoad (fun _ _ => True) (fun b c e pl => pl = [] ∧ e = b.each (lanesOf (u8 c.p 0)) (fun n s =>
    s.each (List.range 16) fun w s => s.setNum (LTX_PD n w) (u32 c.p (1 + 4 * w))))) ∧
  (RunsOk .lrxConfig opLrxConfig (fun b c => ((lanesOf (u8 c.p 0)).any (fun n => b.fld (LRX_CFG_main_pos n) != u8 c.p 2) &&
    (lanesOf (u8 c.p 0)).any fun n => decide (2 ≤ b.stage (laneGroup n))) = false) (fun b c e pl => pl = [] ∧ e = b.each
    (lanesOf (u8 c.p 0)) (fun n s => (((((holdMain ((s.setFld (LRX_CFG_los_thr n) (u8 c.p 1)).setFld (LRX_CFG_main_pos n) (u8
    c.p 2)) n).setFld (LRX_CFG_invert n) (bit (u8 c.p 3) 0)).setFld (LRX_CFG_rsse_en n) (bit (u8 c.p 3) 1)).setFld
    (LRX_CFG_cdr_bw n) (u8 c.p 4)).setFldS (LRX_CFG_cdr_phase n) (s8 c.p 5)).setFld (LRX_CFG_conv_margin n) (u8 c.p 6)))) ∧
  (RunsOk .lrxAdaptSet opLrxAdaptSet (fun _ _ => True) (fun b c e pl => pl = [] ∧ e = b.each (lanesOf (u8 c.p 0)) (fun n s =>
    ((((s.setFld (LRX_ADAPT_afe n) (u8 c.p 1)).setFld (LRX_ADAPT_ffe n) (u8 c.p 2)).setFld (LRX_ADAPT_rsse n) (u8 c.p
    3)).setFld (LRX_ADAPT_mu_train n) (u8 c.p 4)).setFld (LRX_ADAPT_mu_track n) (u8 c.p 5)))) ∧
  (RunsOk .lrxEqSet opLrxEqSet (fun b c => (hasBit (u8 c.p 1) 0 = true → held b (LRX_ADAPT_afe (u8 c.p 0)) = true) ∧ (hasBit
    (u8 c.p 1) 1 = true → held b (LRX_ADAPT_ffe (u8 c.p 0)) = true) ∧ (hasBit (u8 c.p 1) 2 = true → held b (LRX_ADAPT_rsse
    (u8 c.p 0)) = true)) (fun b c e pl => pl = [] ∧ e = ((b.cond (hasBit (u8 c.p 1) 0) fun s => setFront s (u8 c.p 0) (u8 c.p
    2) (u8 c.p 3)).cond (hasBit (u8 c.p 1) 1) fun s => setFfe s (u8 c.p 0) (c.p.drop 8)).cond (hasBit (u8 c.p 1) 2) fun s =>
    setRsse s (u8 c.p 0) (u16 c.p 4) (s16 c.p 6))) ∧
  (RunsOk .lrxGthSelect opLrxGthSelect (fun b _ => (armed b && b.flag GTH_SRC_line) = false) (fun b c e pl => pl = [] ∧ e =
    (({ b with gth := { b.gth with rx := {}, times := [], keptAt := none } } : Hw).setFld LRX_GTH_SEL_lane (u8 c.p 0)).setFld
    LRX_GTH_SEL_point (u8 c.p 1))) ∧
  (RunsOk .lrxEqRead opLrxEqRead (fun _ _ => True) (fun b c e pl => e = b ∧ pl = presentBody b (u8 c.p 0) ++ b.wordsAt
    [LRX_STATUS (u8 c.p 0), LRX_FREQ (u8 c.p 0), LRX_MEAS (u8 c.p 0)] ++ b.dtimeBytes ++ zeros 4)) ∧
  (RunsOk .lrxMeasRead opLrxMeasRead (fun _ _ => True) (fun b c e pl => pl = (lanesOf (u8 c.p 0)).flatMap (measBytes b) ∧ e =
    b.cond (hasBit (u8 c.p 1) 0) fun s => s.each (lanesOf (u8 c.p 0)) fun n s => s.zeroRegs [LRX_UNCORR n, LRX_BITS n,
    LRX_BITS n + 1, LRX_CORR n, LRX_CORR n + 1])) ∧
  (RunsOn .lrxHistRun opLrxHistRun (fun b c => b.flag (LRX_STATUS_hist_busy (u8 c.p 0)) = false ∧ b.flag (LRX_STATUS_los (u8
    c.p 0)) = false) (fun b c e w => w = Wait.hist (u8 c.p 0) ∧ e = ((b.each (List.range 256) fun i s => setPoison (s.setNum
    (LRX_HIST (u8 c.p 0) i) 0) (LRX_HIST (u8 c.p 0) i) false).setFld (LRX_STATUS_hist_busy (u8 c.p 0)) 1).updLane (u8 c.p 0)
    fun l =>
    { l with hist := some (u8 c.p 1, u8 c.p 2), histLos := false, histOld := (List.range 256).map fun i => b.num (LRX_HIST (u8 c.p 0) i) })) ∧
  (RunsOk .lrxHistRead opLrxHistRead (fun b c => (List.range (u16 c.p 2)).all (fun i => !poisoned b (LRX_HIST (u8 c.p 0) (u8
    c.p 1) + i)) = true) (fun b c e pl => e = b ∧ pl = b.words (LRX_HIST (u8 c.p 0) (u8 c.p 1)) (u16 c.p 2)))

/-- Each clause says of the row it names, in every state and for all operands that meet the condition it names, that exec
  answers the next state that follows from the effect it names. Of a request row a clause speaks wherever the request is
  taken up: it passes the checks, nothing refuses it and the domains it touches are ready; the request then completes with
  OK, or, where the clause says so, is accepted and waits. A clause with a list of subsystems and parts after keeps says
  besides that every other register word and every other part of the state is as it was. (1) LRX_STORE_LIST returns, lane by
  lane, the 16 head bytes of the valid stored sets of the mode, and changes nothing. (2) LRX_STORE_SAVE, where every lane of
  its mask has converged and has its group in P5, saves the present set of each. (3) LRX_STORE_ERASE removes the stored sets
  of its lanes, its mode (255 all) and its peer tag (with bit 0 of the flags, all), and returns their number. (4)
  LRX_SEED_LOAD stores the set given as the host default (peer tag 0xFFFFFFFF) of every lane of its mask. (5)
  STORED_SET_AUTO_SAVE of a ready lane that has converged, in P5, has saved no set of itself since it acquired and has been
  converged in P5 for 60 s: its present set is saved. (6) HIST_RUN_COMPLETE of a lane with a run in progress: its counts are
  added to the bins (of ADC codes the first 128), each to at most 2^32 - 1; hist_busy clears; the command that waits comes to
  OK with whether loss of signal stopped the run and the number of symbols. (7) LOSS_OF_SIGNAL of a ready lane not in loss,
  with an amplitude below its threshold: los, held and the latch are set, and event 0x0401 carries the lane and the
  amplitude. (8) SIGNAL_RESTORED of a ready lane in loss, with an amplitude above 1.25 times its threshold: los clears, the
  time is noted, and with CDR lock both are good from now. (9) LRX_LOCK_LOST of a ready lane with CDR lock: cdr_lock clears,
  held and the latch are set, and event 0x0402 carries the lane and the frequency. (10) LRX_LOCK_REGAINED of a ready lane
  without CDR lock whose reference is accepted: cdr_lock is set, without loss both are good from now, and its group goes to
  P4 if P3 is complete. (11) ADAPTATION_RESUME of a held lane whose two indications have been good for 10 µs: held clears,
  and nothing else changes. Cites 04_line_lanes.md, 06_link_bringup.md. -/
def Obligations.LaneStoresAndSignal : Prop :=
  (RunsOk .lrxStoreList opLrxStoreList (fun _ _ => True) (fun b c e pl => e = b ∧ pl = (lanesOf (u8 c.p 0)).flatMap (fun n =>
    (b.nv.ident.eqSets.filter fun (x : EqSet) => x.lane == n && x.mode == u8 c.p 1 && x.fault == 0).flatMap setHead))) ∧
  (RunsOk .lrxStoreSave opLrxStoreSave (fun b c => (lanesOf (u8 c.p 0)).all (fun n => b.stage (laneGroup n) == 5 && b.flag
    (LRX_STATUS_converged n)) = true) (fun b c e pl => pl = [] ∧ e = b.each (lanesOf (u8 c.p 0)) fun n s => saveLane s n 1)) ∧
  (RunsOk .lrxStoreErase opLrxStoreErase (fun _ _ => True) (fun b c e pl => e = setIdent b (fun d =>
    { d with eqSets := d.eqSets.filter fun x => !(fun (x : EqSet) => hasBit (u8 c.p 0) x.lane && (u8 c.p 1 == 255 || u8 c.p 1 == x.mode) && (hasBit (u8 c.p 2) 0 || x.tag == u32 c.p 3)) x })
    ∧ pl = toBE 2 (b.nv.ident.eqSets.filter fun (x : EqSet) => hasBit (u8 c.p 0) x.lane && (u8 c.p 1 == 255 || u8 c.p 1 ==
    x.mode) && (hasBit (u8 c.p 2) 0 || x.tag == u32 c.p 3)).length)) ∧
  (RunsOk .lrxSeedLoad opLrxSeedLoad (fun _ _ => True) (fun b c e pl => pl = [] ∧ e = b.each (lanesOf (u8 c.p 0)) fun n s =>
    setIdent s fun d =>
    { d with eqSets := putSet d.eqSets { lane := n, mode := u8 c.p 1, tag := 0xFFFFFFFF, time := s.optime, body := c.p.drop 2 } })) ∧
  (∀ n : Fin 8, Happens (fun dt => .storedSetAutoSave dt n) (fun h => h.ready n = true ∧ h.stage (laneGroup n) = 5 ∧ h.flag
    (LRX_STATUS_converged n) = true ∧ (h.lane n).savedAt = none ∧ max (h.lane n).convAt (h.lane n).p5At + 60000000000 ≤
    h.dtime ∧ h.fenced 19 = false) (fun h u => u = saveLane h n 0)) ∧
  (∀ (n : Fin 8) (k : Nat) (bins : List Nat) (pt d : Nat), Happens (fun dt => .histRunComplete dt n k bins) (fun h => (h.lane
    n).hist = some (pt, d)) (fun h u => u = setOutcome (((h.each (List.range (if pt = 0 then 128 else 256)) fun i s =>
    s.setNum (LRX_HIST n i) (min (s.num (LRX_HIST n i) + bins.getD i 0) (2 ^ 32 - 1))).setFld (LRX_STATUS_hist_busy n)
    0).updLane n fun l => { l with hist := none, histLos := false, histOld := [] }) (fun (r : RunCmd) => r.wait == Wait.hist
    n) stOK 0 (toBE 1 (if (h.lane n).histLos then 1 else 0) ++ zeros 3 ++ toBE 8 (if (h.lane n).histLos then min k (2 ^ d)
    else 2 ^ d)))) ∧
  (∀ (n : Fin 8) (mv : Nat), Happens (fun dt => .lossOfSignal dt n mv) (fun h => h.ready n = true ∧ h.flag (LRX_STATUS_los n)
    = false ∧ mv < h.fld (LRX_CFG_los_thr n)) (fun h u => keeps [0x04] [.evr, .lanes, .cmis] h u ∧ u.flag (LRX_STATUS_los n)
    = true ∧ u.flag (LRX_STATUS_held n) = true ∧ u.flag (LRX_LATCH_los_seen n) = true ∧ u.evr.bus = h.evr.bus ++ [Ev.mk
    0x0401 [n, mv] h.dtime])) ∧
  (∀ (n : Fin 8) (mv : Nat), Happens (fun dt => .signalRestored dt n mv) (fun h => h.ready n = true ∧ h.flag (LRX_STATUS_los
    n) = true ∧ 5 * h.fld (LRX_CFG_los_thr n) < 4 * mv) (fun h u => u = markGood ((h.setFld (LRX_STATUS_los n) 0).updLane n
    fun l => { l with sigAt := h.dtime }) n ∧ u.flag (LRX_STATUS_los n) = false)) ∧
  (∀ (n : Fin 8) (fr : Int), Happens (fun dt => .lrxLockLost dt n fr) (fun h => h.ready n = true ∧ h.flag
    (LRX_STATUS_cdr_lock n) = true) (fun h u => u = (dropLock h n).raise 0x0402 [n, enc 32 fr] ∧ u.flag (LRX_STATUS_cdr_lock
    n) = false ∧ u.flag (LRX_STATUS_held n) = true ∧ u.flag (LRX_LATCH_lock_lost n) = true)) ∧
  (∀ n : Fin 8, Happens (fun dt => .lrxLockRegained dt n) (fun h => h.ready n = true ∧ h.flag (LRX_STATUS_cdr_lock n) = false
    ∧ laneRefOk h n = true) (fun h u => u = tryP4 (markGood (h.setFld (LRX_STATUS_cdr_lock n) 1) n) (laneGroup n))) ∧
  (∀ n : Fin 8, Happens (fun dt => .adaptationResume dt n) (fun h => h.flag (LRX_STATUS_held n) = true ∧ h.flag
    (LRX_STATUS_los n) = false ∧ h.flag (LRX_STATUS_cdr_lock n) = true ∧ (h.lane n).goodAt + 10000 ≤ h.dtime) (fun h u => u =
    h.setFld (LRX_STATUS_held n) 0))

/-- Each clause says of the row it names, in every state and for all operands that meet the condition it names, that exec
  answers the next state that follows from the effect it names. A clause with a list of subsystems and parts after keeps says
  besides that every other register word and every other part of the state is as it was. (1) SATURATION_INTERVAL of a ready
  lane, not marked saturated, with more than one sample in a thousand saturated: sat and its latch are set, and event 0x0408
  carries the lane and the saturated samples per thousand. (2) SATURATION_INTERVAL of a ready lane with no more than that:
  sat clears, and nothing else changes. (3) SNR_UPDATE of a ready lane: the SNR is ten times the decimal logarithm of the
  ratio of the mean squares, in 0.1 dB from 0 to 1023; the margin is the SNR less the mode's reference, and the frequency
  offset is that given, each limited to its field. (4) PREFEC_UPDATE of a ready lane: the pre-FEC ratio in 0.01 decades and
  the count of updates are set; the bits and corrections are added to their 64-bit counters and the uncorrectable codewords
  to theirs; the two performance counters of the lane count. (5) SEED_ATTEMPT_TIMEOUT of a ready lane that acquires, has no
  training sync and has had its seed for 20 ms: the seeds from the next step on are tried, and the first available one is
  taken. (6) LANE_CONVERGED of a ready lane that acquires and has had three good updates in a row: converged is set from now,
  event 0x0403 carries the lane, its seed and the time it took in ms, and the exit from P2, or the lane's retraining, goes on
  if it may. (7) TX_PLL_LOCK of a ready lane without PLL lock whose reference is accepted: pll_lock and the domain's
  readiness for analogue work are set, and the lane is squelched only in P0. (8) TX_PLL_LOCK_LOST of a lane with PLL lock:
  pll_lock clears, the lane is squelched, and event 0x0301 names it. Cites 04_line_lanes.md, 06_link_bringup.md. -/
def Obligations.LaneMeasurementsAndConvergence : Prop :=
  (∀ (n : Fin 8) (k x : Nat), Happens (fun dt => .saturationInterval dt n k x) (fun h => h.ready n = true ∧ k < x * 1000 ∧
    h.flag (LRX_STATUS_sat n) = false) (fun h u => u = ((h.setFlag (LRX_STATUS_sat n) true).setFld (LRX_LATCH_sat n) 1).raise
    0x0408 [n, x * 1000 / k])) ∧
  (∀ (n : Fin 8) (k x : Nat), Happens (fun dt => .saturationInterval dt n k x) (fun h => h.ready n = true ∧ x * 1000 ≤ k)
    (fun h u => u = h.setFlag (LRX_STATUS_sat n) false)) ∧
  (∀ (n : Fin 8) (a d : Nat) (f : Int), Happens (fun dt => .snrUpdate dt n a d f) (fun h => h.ready n = true) (fun h u =>
    keeps [0x04] [.evr, .lanes, .cle, .freeN] h u ∧ u.fld (LRX_MEAS_snr n) = (if d = 0 then 1023 else (roundLog 100 a d 0
    1023).toNat) ∧ u.fldS (LRX_MEAS_margin n) = clampI (-1024) 1023 (((if d = 0 then 1023 else (roundLog 100 a d 0
    1023).toNat) : Int) - refSnr h (laneMode h n)) ∧ u.fldS (LRX_FREQ_offset n) = clampI (-32768) 32767 f)) ∧
  (∀ (n : Fin 8) (b0 c0 wb wc un0 fx : Nat), Happens (fun dt => .prefecUpdate dt n b0 c0 wb wc un0 fx) (fun h => h.ready n =
    true) (fun h u => let x := ((if wb = 0 ∨ wc * 10 ^ 15 < wb then (-1500 : Int) else roundLog 100 wc wb (-1500) 1500)); u =
    ((((((h.setFldS (LRX_PREFEC_log n) x).setFld (LRX_PREFEC_updates n) ((h.fld (LRX_PREFEC_updates n) + 1) % 65536)).count64
    (LRX_BITS n) b0).count64 (LRX_CORR n) c0).count (LRX_UNCORR n) un0).pmc (0x070 + n) un0).pmc (0x078 + n) fx)) ∧
  (∀ n : Fin 8, Happens (fun dt => .seedAttemptTimeout dt n) (fun h => h.ready n = true ∧ acquiring h n = true ∧ (h.lane
    n).sync = false ∧ (h.lane n).seedAt + 20000000 ≤ h.dtime) (fun h u => u = seedFrom 20 ((h.lane n).seedStep + 1) n h)) ∧
  (∀ n : Fin 8, Happens (fun dt => .laneConverged dt n) (fun h => h.ready n = true ∧ acquiring h n = true ∧ 3 ≤ (h.lane
    n).goodRun) (fun h u => u = retrainOn (tryP2Exit (((h.setFld (LRX_STATUS_converged n) 1).updLane n fun l =>
    { l with convAt := h.dtime }).raise 0x0403 [n, (h.setFld (LRX_STATUS_converged n) 1).fld (LRX_STATUS_seed n), (h.dtime -
    (h.lane n).p2At) / 1000000]) (laneGroup n) false) (laneGroup n) (n % 4))) ∧
  (∀ n : Fin 8, Happens (fun dt => .txPllLock dt n) (fun h => h.ready n = true ∧ h.flag (LTX_STATUS_pll_lock n) = false ∧
    laneRefOk h n = true) (fun h u => u = settleSquelch ((h.setFld (LTX_STATUS_pll_lock n) 1).setFld (PWR_DOM_analog n) 1) n
    ∧ u.flag (LTX_STATUS_pll_lock n) = true)) ∧
  (∀ n : Fin 8, Happens (fun dt => .txPllLockLost dt n) (fun h => h.flag (LTX_STATUS_pll_lock n) = true) (fun h u => keeps
    [0x03] [.evr] h u ∧ u.flag (LTX_STATUS_pll_lock n) = false ∧ u.flag (LTX_STATUS_squelch n) = true ∧ u.evr.bus = h.evr.bus
    ++ [Ev.mk 0x0301 [n] h.dtime]))

/-- Each clause says of the row it names, in every state and for all operands that meet the condition it names, that exec
  answers the next state that follows from the effect it names. Of a request row a clause speaks wherever the request is
  taken up: it passes the checks, nothing refuses it and the domains it touches are ready; the request then completes with
  OK, or, where the clause says so, is accepted and waits. (1) LFM_CONFIG that changes neither the preferred mode nor the C2
  layout, or does so with the group in P0 or P1, sets the three fields and, in P1, the stages of the lanes. (2)
  LFM_STATUS_READ returns the configuration, status, latch, frame count and skew words of the group and DTIME, and changes
  nothing. (3) LFM_COUNT_READ returns the frame count, the counters of the group and DTIME, and with bit 0 of its flags sets
  the counters to 0. (4) LANE_FRAME_BOUNDARY of a group with framing: a remap point of the present frame that has not been
  told applies, the frame is finished (its last cells, its stuffing and its tails), and the frame with the next count, modulo
  2^48, begins. (5) AM_RECEIVED of a good marker on a lane of a group with framing in P5, whose seed bit is right: the lane
  has one good marker more (one, if it stands out of step) and is aligned, its frame count is the group's, AM lock is gained
  if it may, the skew is judged once every lane with AM lock has given its marker or missed it, the peer's seed has begun if
  its frame has come, the peer's loss flags are taken over, a receive remap point that has come passes, and the marker's mask
  is taken over. (6) AM_RECEIVED of anything else than 32 bytes with sync word and check code on a lane of a group with
  framing is a missing marker. (7) AM_RECEIVED on a lane of a group in C2: the lane has one good marker more (one, if it
  stands out of step) and is aligned, AM lock is gained if it may, and P3 is passed if it may. (8) AM_NOT_FOUND on a lane of
  a group with framing: event 0x0504 carries group and lane, and the marker is missing. Cites 05_line_format.md,
  06_link_bringup.md. -/
def Obligations.LineFormatRows : Prop :=
  (RunsOk .lfmConfig opLfmConfig (fun b c => ¬ ((u8 c.p 1 ≠ b.fld (LFM_CFG_mode_pref (u8 c.p 0)) ∨ u8 c.p 2 ≠ b.fld
    (LFM_CFG_c2_layout (u8 c.p 0))) ∧ 1 < b.stage (u8 c.p 0))) (fun b c e pl => pl = [] ∧ e = applyLfmConfig c.p b)) ∧
  (RunsOk .lfmStatusRead opLfmStatusRead (fun _ _ => True) (fun b c e pl => e = b ∧ pl = b.wordsAt [LFM_CFG (u8 c.p 0),
    LFM_STATUS (u8 c.p 0), LFM_LATCH (u8 c.p 0), LFM_FRAMES (u8 c.p 0), LFM_FRAMES (u8 c.p 0) + 1, LFM_SKEW (u8 c.p 0)] ++
    b.dtimeBytes)) ∧
  (RunsOk .lfmCountRead opLfmCountRead (fun _ _ => True) (fun b c e pl => e = b.cond (hasBit (u8 c.p 1) 0) (fun s =>
    s.zeroRegs (lfmCounters (u8 c.p 0))) ∧ pl = b.wordsAt ([LFM_FRAMES (u8 c.p 0), LFM_FRAMES (u8 c.p 0) + 1] ++ lfmCounters
    (u8 c.p 0)) ++ b.dtimeBytes)) ∧
  (∀ (g : Fin 2) (f : Nat), Happens (fun dt => .laneFrameBoundary dt g f) (fun h => framing h g = true) (fun h u => u =
    startFrame (finishFrame (lateRemap h g) g) g ((((finishFrame (lateRemap h g) g).grp g).txFc + 1) % 2 ^ 48) f)) ∧
  (∀ (n : Fin 8) (bs : Bytes) (ins : Bool) (sk : Nat), Happens (fun dt => .amReceived dt n bs ins sk) (fun h => h.ready n =
    true ∧ h.ready (12 + laneGroup n) = true ∧ framing h (laneGroup n) = true ∧ h.stage (laneGroup n) = 5 ∧ bs.length = 32 ∧
    un bs 0 8 = 0x9C3AB4E163C54B1E ∧ crcMsb 16 0x1021 0xFFFF ((bs.take 30).drop 8) = u16 bs 30 ∧ (hasBit (h.rxMask (laneGroup
    n)) ((n : Nat) % 4) = true → seedWrong h (laneGroup n) (un bs 12 6) (hasBit (u8 bs 11) 3) = false)) (fun h u => let a :=
    (updAm h (laneGroup n) ((n : Nat) % 4) fun a =>
    { a with good := if ins then a.good + 1 else 1, bad := 0, frame := un bs 12 6, skew := sk, aligned := decide (sk ≤ 500) });
    let b := (a.updGrp (laneGroup n) fun x => { x with rxFrameAt := h.dtime }); let d := (judgeSkew (gainLock (b.setNum64
    (LFM_FRAMES (laneGroup n)) (un bs 12 6)) (laneGroup n) ((n : Nat) % 4)) (laneGroup n)); let j := (d.cond ((d.grp
    (laneGroup n)).peerF.any fun f => frameAfter (un bs 12 6) f) (fun s => s.updGrp (laneGroup n) fun x =>
    { x with rxPast := true })); u = tryReady (tryP4 (adoptMask (remapPoint (laneGroup n) 1 (setFar j (laneGroup n) (u8 bs 11
    % 8))) (laneGroup n) (u8 bs 9 % 16) (u8 bs 10)) (laneGroup n)) (laneGroup n))) ∧
  (∀ (n : Fin 8) (bs : Bytes) (ins : Bool) (sk : Nat), Happens (fun dt => .amReceived dt n bs ins sk) (fun h => h.ready n =
    true ∧ h.ready (12 + laneGroup n) = true ∧ framing h (laneGroup n) = true ∧ ¬ (bs.length = 32 ∧ un bs 0 8 =
    0x9C3AB4E163C54B1E ∧ crcMsb 16 0x1021 0xFFFF ((bs.take 30).drop 8) = u16 bs 30)) (fun h u => u = missMarker h (laneGroup
    n) ((n : Nat) % 4))) ∧
  (∀ (n : Fin 8) (bs : Bytes) (ins : Bool) (sk : Nat), Happens (fun dt => .amReceived dt n bs ins sk) (fun h => h.ready n =
    true ∧ h.ready (12 + laneGroup n) = true ∧ h.mode (laneGroup n) = 2) (fun h u => u = c2Aligned (gainLock (updAm h
    (laneGroup n) ((n : Nat) % 4) fun a => { a with good := if ins then a.good + 1 else 1, bad := 0, aligned := true })
    (laneGroup n) ((n : Nat) % 4)) n)) ∧
  (∀ n : Fin 8, Happens (fun dt => .amNotFound dt n) (fun h => framing h (laneGroup n) = true ∧ h.mode (laneGroup n) ≠ 2)
    (fun h u => u = missMarker (h.raise 0x0504 [laneGroup n, n % 4]) (laneGroup n) ((n : Nat) % 4)))

/-- Each clause says of the row it names, in every state and for all operands that meet the condition it names, that exec
  answers the next state that follows from the effect it names. (1) CELL_RECEIVED of a cell on no failed lane with a good
  header, by a group with framing: the stuffing removed and the cell are counted, and the cell goes where its type sends it:
  types 1 and 2 to best effort, 3 and 4 to the timed flow, 5 to the messages, 6 to time transfer, 0 no further; one of type 7
  is discarded. (2) CELL_RECEIVED of a cell on no failed lane whose header check fails, by a group with framing: the stuffing
  removed and the cell are counted, and its header has failed. (3) CELL_RECEIVED of a cell on a failed lane, by a group with
  framing: the stuffing removed and the cell are counted, and it is discarded. (4) STATUS_RECEIVED by a group with framing,
  without the flag of a lost reference: the peer's pace and floor are kept and its loss flags taken over. (5) STATUS_RECEIVED
  by a group with framing, with that flag: the group is lost besides, with reason 3. (6) STATUS_PERIOD of a group in P4 or P5
  sends a STATUS. (7) CORE_LOST_REPORT of the loss of D14, with a group whose framing has the loss and does not show it yet:
  every such group shows it in its flags from now on, and event 0x0B09 waits for the first STATUS that carries them, with the
  time of the loss. (8) TIME_TRANSFER_REQUEST_RX on a lane with AM lock of a group with framing: an answer with the request's
  number, departure stamp and arrival is queued for the lane's next time cell. (9) REMAP_POINT_REACHED of the transmit
  direction of a group with framing, once the lane frame and lane codeword of its remap have come: the mask changes. (10)
  REMAP_POINT_REACHED of the receive direction, once its lane frame and lane codeword have come: the receive mask and
  generation change, and event 0x050A carries the group, 1, both masks and the generation. Cites 05_line_format.md,
  09_timed_delivery.md, 10_redundancy_faults.md. -/
def Obligations.CellAndMessageRows : Prop :=
  (∀ (g : Fin 2) (on hd : Nat) (pb : Bytes) (fr dp rm : Nat) (wr : List Nat), Happens (fun dt => .cellReceived dt g on hd pb
    fr dp (rm, wr)) (fun h => framing h g = true ∧ on &&& ((stuffRemoved h g rm wr).pmc 0x0F0).fld (failedFld g) = 0 ∧ crcMsb
    8 0x07 0xFF (toBE 7 (hd / 256 % 2 ^ 56)) = hd % 256) (fun h u => let k := (hd / 256 % 2 ^ 56 / 2 ^ 53); let i := (hd /
    256 % 2 ^ 56 / 2 ^ 32 % 2 ^ 20); let q := (hd / 256 % 2 ^ 56 / 2 ^ 16 % 2 ^ 16); let r := (hd / 256 % 2 ^ 56 % 2 ^ 16);
    let t := (((stuffRemoved h g rm wr).pmc 0x0F0).pmc (0x024 + 8 * g)); let b := (slice pb 0 512); u = (if k = 1 ∨ k = 2
    then bestCell t g (i % 8) q r b else if k = 3 then timedCell t g i q r true b else if k = 4 then timedCell t g i q r
    false b else if k = 5 then oamCell t g b else if k = 6 then timeCell t g i q b fr dp else if k = 7 then cellDiscarded t g
    else t))) ∧
  (∀ (g : Fin 2) (on hd : Nat) (pb : Bytes) (fr dp rm : Nat) (wr : List Nat), Happens (fun dt => .cellReceived dt g on hd pb
    fr dp (rm, wr)) (fun h => framing h g = true ∧ on &&& ((stuffRemoved h g rm wr).pmc 0x0F0).fld (failedFld g) = 0 ∧ crcMsb
    8 0x07 0xFF (toBE 7 (hd / 256 % 2 ^ 56)) ≠ hd % 256) (fun h u => u = headerFailure ((stuffRemoved h g rm wr).pmc 0x0F0)
    g)) ∧
  (∀ (g : Fin 2) (on hd : Nat) (pb : Bytes) (fr dp rm : Nat) (wr : List Nat), Happens (fun dt => .cellReceived dt g on hd pb
    fr dp (rm, wr)) (fun h => framing h g = true ∧ on &&& ((stuffRemoved h g rm wr).pmc 0x0F0).fld (failedFld g) ≠ 0) (fun h
    u => u = (stuffRemoved h g rm wr).pmc 0x0F0)) ∧
  (∀ (g : Fin 2) (pc fl fg : Nat), Happens (fun dt => .statusReceived dt g pc fl fg) (fun h => framing h g = true ∧ hasBit fg
    1 = false) (fun h u => u = setFar (h.updGrp g fun x => { x with peerPace := some pc, peerFloor := some fl }) g fg)) ∧
  (∀ (g : Fin 2) (pc fl fg : Nat), Happens (fun dt => .statusReceived dt g pc fl fg) (fun h => framing h g = true ∧ hasBit fg
    1 = true) (fun h u => u = loseGroup (setFar (h.updGrp g fun x => { x with peerPace := some pc, peerFloor := some fl }) g
    fg) g 3)) ∧
  (∀ g : Fin 2, Happens (fun dt => .statusPeriod dt g) (fun h => 4 ≤ h.stage g) (fun h u => u = sendStatus h g)) ∧
  (Happens (fun dt => .coreLostReport dt (0 : Fin 2)) (fun h => ([0, 1].filter fun g => framing h g && lossFlags h g &&& 1 ==
    1 && (h.grp g).flags &&& 1 != 1) ≠ []) (fun h u => let s := (h.each ([0, 1].filter fun g => framing h g && lossFlags h g
    &&& 1 == 1 && (h.grp g).flags &&& 1 != 1) fun g s => s.updGrp g fun x => { x with flags := x.flags ||| 1 }); u =
    { s with pwr := { s.pwr with lossTold := (s.pwr.lossTold.filter fun (e : Nat × Nat) => e.1 != 0) ++ [(0, lossTime h 0)] } })) ∧
  (∀ (n : Fin 8) (a q fr dp : Nat), Happens (fun dt => .timeTransferRequestRx dt n a q fr dp) (fun h => framing h (laneGroup
    n) = true ∧ hasBit (h.fld (LFM_STATUS_am_lock (laneGroup n))) ((n : Nat) % 4) = true) (fun h u => u = sendTime h
    (laneGroup n) ((n : Nat) % 4) 2 q dp (timePayload h 0 (fine h fr) a q))) ∧
  (∀ (g : Fin 2) (r : Remap), Happens (fun dt => .remapPointReached dt g (0 : Fin 2)) (fun h => (h.grp g).txRemap = some r ∧
    framing h g = true ∧ pointCome (h.grp g).txFc (nowQ h g) r = true) (fun h u => u = applyRemap h g r)) ∧
  (∀ (g : Fin 2) (r : Remap), Happens (fun dt => .remapPointReached dt g (1 : Fin 2)) (fun h => (h.grp g).rxRemap = some r ∧
    pointCome (h.num64 (LFM_FRAMES g)) (rxQ h g) r = true) (fun h u => u = (setRxMask (h.updGrp g fun x =>
    { x with rxRemap := none }) g r.mask r.gen).raise 0x050A [g, 1, together 0x050A [h.rxMask g, r.mask, r.gen]]))

/-- Each clause says of the row it names, in every state and for all operands that meet the condition it names, that exec
  answers the next state that follows from the effect it names. Of a request row a clause speaks wherever the request is
  taken up: it passes the checks, nothing refuses it and the domains it touches are ready; the request then completes with
  OK, or, where the clause says so, is accepted and waits. (1) LNK_CONFIG sets the least number of lanes and the four flags
  of the group. (2) LNK_WAKE_CONFIG sets the tag that the wake from the line asks for. (3) LNK_UP of a group whose framing
  domain is not fenced enables it, wakes its domains and lets it leave P0 if it may. (4) LNK_DOWN disables the group and
  takes it to P0. (5) LNK_RESTART of a group out of P0 fails it with reason 12. (6) LNK_STATUS_READ returns the ten words of
  the group and DTIME, and changes nothing. (7) LNK_LANE_REJOIN of a group in P5, of lanes none of which is in its transmit
  mask, forgets their failed attempts and asks for the retraining of every one that is neither retraining nor crossed. (8)
  SPROUT_BURST_START of a group in P1 and free to send that has not detected its peer and whose burst is due: the burst
  begins, and the next is due 2 s later. (9) SPROUT_BURST_END of a burst that has lasted 10 ms ends it. (10)
  SPROUT_FRAME_RECEIVED of a bad frame, by a group out of P0 whose framing domain is ready and which does not prefer C2: the
  error is counted, and the lane's run of frames begins anew. (11) SPROUT_FRAME_RECEIVED of a valid frame on its own lane
  position, in P1 before the mode is agreed: the frame joins the lane's run; the second in a row of one tag detects the peer;
  and the peer's peer_seen is kept once it is detected. (12) SPROUT_FRAME_RECEIVED of a second valid frame in a row, in P2 to
  P5 of a group that does not prefer C2: the group is lost with cause 4 in P5, and fails with reason 11 before. (13)
  BACKOFF_END of a backoff whose time has come ends it, and a burst begins at once if it may. (14) FAILURE_COUNT_RESET of a
  group that has been in P5 for 10 s sets its count of failures to 0. Cites 06_link_bringup.md. -/
def Obligations.LinkRequestsAndSprout : Prop :=
  (RunsOk .lnkConfig opLnkConfig (fun _ _ => True) (fun b c e pl => pl = [] ∧ e = applyLnkConfig c.p b)) ∧
  (RunsOk .lnkWakeConfig opLnkWakeConfig (fun _ _ => True) (fun b c e pl => pl = [] ∧ e = b.setNum LNK_WAKE_CFG (u32 c.p 0))) ∧
  (RunsOk .lnkUp opLnkUp (fun b c => b.fenced (12 + u8 c.p 0) = false) (fun b c e pl => pl = [] ∧ e = enterIfEnabled
    (wakeDomains (b.setFld (LNK_CFG_enable (u8 c.p 0)) 1) (u8 c.p 0) 1) (u8 c.p 0))) ∧
  (RunsOk .lnkDown opLnkDown (fun _ _ => True) (fun b c e pl => pl = [] ∧ e = toP0 (b.setFld (LNK_CFG_enable (u8 c.p 0)) 0)
    (u8 c.p 0))) ∧
  (RunsOk .lnkRestart opLnkRestart (fun b c => b.stage (u8 c.p 0) ≠ 0) (fun b c e pl => pl = [] ∧ e = failGroup b (u8 c.p 0)
    12)) ∧
  (RunsOk .lnkStatusRead opLnkStatusRead (fun _ _ => True) (fun b c e pl => e = b ∧ pl = b.wordsAt [LNK_CFG (u8 c.p 0),
    LNK_STATUS (u8 c.p 0), LNK_LATCH (u8 c.p 0), LNK_PEER (u8 c.p 0), LNK_PEER_INFO (u8 c.p 0), LNK_LSTAGE (u8 c.p 0),
    LNK_T_P2 (u8 c.p 0), LNK_C_UP (u8 c.p 0), LNK_C_FAIL (u8 c.p 0), LNK_SPROUT_ERR (u8 c.p 0)] ++ b.dtimeBytes)) ∧
  (RunsOk .lnkLaneRejoin opLnkLaneRejoin (fun b c => b.stage (u8 c.p 0) = 5 ∧ b.txMask (u8 c.p 0) &&& u8 c.p 1 = 0) (fun b c
    e pl => pl = [] ∧ e = b.each (bitsOf 4 (u8 c.p 1)) fun p s => let t := (s.updGrp (u8 c.p 0) (fun x =>
    { x with rtFails := Map.put [] x.rtFails p [] })); if (Map.get none (t.grp (u8 c.p 0)).retrain p).isSome || hasBit (t.grp
    (u8 c.p 0)).crossed p then t else startRetrain t (u8 c.p 0) p)) ∧
  (∀ g : Fin 2, Happens (fun dt => .sproutBurstStart dt g) (fun h => inP1 h g = true ∧ (h.grp g).seenAt = none ∧ (h.grp
    g).burstAt ≤ h.dtime) (fun h u => u = h.updGrp g fun x =>
    { x with bursting := true, burstAt := h.dtime + 2000000000, noMode := false })) ∧
  (∀ g : Fin 2, Happens (fun dt => .sproutBurstEnd dt g) (fun h => (h.grp g).burstAt ≤ h.dtime + 1990000000) (fun h u => u =
    h.updGrp g (fun x => { x with bursting := false }))) ∧
  (∀ (n : Fin 8) (cl : Bool) (bits : Nat), Happens (fun dt => .sproutFrameReceived dt n cl bits) (fun h => h.stage (laneGroup
    n) ≠ 0 ∧ h.ready (12 + laneGroup n) = true ∧ h.fld (LFM_CFG_mode_pref (laneGroup n)) ≠ 2 ∧ sproutValid cl bits = false)
    (fun h u => u = (h.count (LNK_SPROUT_ERR (laneGroup n))).updGrp (laneGroup n) fun x =>
    { x with sprout := Map.put (0, 0, 0) x.sprout ((n : Nat) % 4) (0, 0, 0) })) ∧
  (∀ (n : Fin 8) (cl : Bool) (bits : Nat), Happens (fun dt => .sproutFrameReceived dt n cl bits) (fun h => h.stage (laneGroup
    n) = 1 ∧ h.ready (12 + laneGroup n) = true ∧ h.fld (LFM_CFG_mode_pref (laneGroup n)) ≠ 2 ∧ sproutValid cl bits = true ∧
    bits / 2 ^ 48 % 4 = (n : Nat) % 4 ∧ (h.grp (laneGroup n)).relock = false ∧ (h.grp (laneGroup n)).noMode = false) (fun h u
    => let t := (bits / 2 ^ 56 % 2 ^ 32); let o := (Map.get (0, 0, 0) (h.grp (laneGroup n)).sprout ((n : Nat) % 4)); let k :=
    (if o.1 = t then o.2.1 + 1 else 1); let a := (h.updGrp (laneGroup n) fun x =>
    { x with sprout := Map.put (0, 0, 0) x.sprout ((n : Nat) % 4) (t, k, o.2.2 + 1) }); let d := (a.cond (decide (k ≥ 2) &&
    (a.grp (laneGroup n)).seenAt.isNone) fun s => detectPeer s (laneGroup n) t (bits / 2 ^ 52 % 2) (bits / 2 ^ 50 % 4) (bits
    / 2 ^ 55 % 2)); u = d.cond (hasBit bits 53 && (d.grp (laneGroup n)).seenAt.isSome && (d.grp (laneGroup n)).offer.1 == t)
    fun s => s.updGrp (laneGroup n) fun x => { x with peerSeen := true })) ∧
  (∀ (n : Fin 8) (cl : Bool) (bits : Nat), Happens (fun dt => .sproutFrameReceived dt n cl bits) (fun h => 2 ≤ h.stage
    (laneGroup n) ∧ h.ready (12 + laneGroup n) = true ∧ h.fld (LFM_CFG_mode_pref (laneGroup n)) ≠ 2 ∧ sproutValid cl bits =
    true ∧ 1 ≤ (Map.get (0, 0, 0) (h.grp (laneGroup n)).sprout ((n : Nat) % 4)).2.2) (fun h u => let o := (Map.get (0, 0, 0)
    (h.grp (laneGroup n)).sprout ((n : Nat) % 4)); let t := (bits / 2 ^ 56 % 2 ^ 32); let a := (h.updGrp (laneGroup n) fun x
    => { x with sprout := Map.put (0, 0, 0) x.sprout ((n : Nat) % 4) (t, (if o.1 = t then o.2.1 + 1 else 1), o.2.2 + 1) }); u
    = (if h.stage (laneGroup n) = 5 then loseGroup a (laneGroup n) 4 else failGroup a (laneGroup n) 11))) ∧
  (∀ g : Fin 2, Happens (fun dt => .backoffEnd dt g) (fun h => h.flag (LNK_STATUS_backoff g) = true ∧ (h.grp g).backoffEnd ≤
    h.dtime) (fun h u => u = burstStart g ((h.setFld (LNK_STATUS_backoff g) 0).updGrp g fun x =>
    { x with burstAt := h.dtime }))) ∧
  (∀ g : Fin 2, Happens (fun dt => .failureCountReset dt g) (fun h => h.stage g = 5 ∧ (h.grp g).p5At + 10000000000 ≤ h.dtime)
    (fun h u => u = h.setFld (LNK_STATUS_fails g) 0))

/-- A clause with a list of subsystems and parts after keeps says besides that every other register word and every other part
  of the state is as it was. (1) A failure leaves its group in P1, with its reason, no mode agreed, empty masks and the
  failure latched. (2) P2_START of a group whose PLLs have locked again at the agreed mode: it is in P2 with the least number
  of lanes in force, and every lane that takes part takes its first seed and sends a training frame. (3)
  TRAINING_FRAME_RECEIVED in P2 on a ready lane that is not excluded, with its marker and a good control word without abort
  from the peer's tag: sync is followed, the control word is taken, a request may be made, and exit from P2 is proposed or
  taken if it may. (4) TRAINING_FRAME_RECEIVED in P2 on a ready lane that is not excluded, with its marker and a control word
  whose check fails: sync is followed, one bad control word more is counted, and the run of exit proposals begins anew; the
  64th in a row sets the latch. (5) P2_TIME_LIMIT of a group that has been in P2 for 300 ms without an exit proposed by the
  peer fails it with reason 1. (6) P2_TIME_LIMIT of a group that has been in P2 for 300 ms with an exit proposed by the peer
  proposes exit. (7) P3_TIME_LIMIT of a group that has been in P3 of a native mode for 5 ms fails it with reason 3. (8)
  P4_TIME_LIMIT of a group that has been in P4 for 20 ms fails it with reason 4. (9) GROUP_SIGNAL_LOSS_FAILURE of a group in
  P2 to P4 of a native mode with loss of signal on every lane fails it with reason 8. (10) C2_P3_TIMEOUT with layout 0, of a
  lane in P3 of C2 for 305 ms: reason 3, the latch and the count; event 0x0602; the lane is in P1; the group has one failure
  more, up to 15, and a backoff whose random part is drawn, which the lane shares; and the group is in the stage of its
  furthest lane. Cites 06_link_bringup.md, 05_line_format.md. -/
def Obligations.TrainingAndTimeLimits : Prop :=
  (∀ (h : Hw) (g k : Nat), g < 2 → k < 16 → (failGroup h g k).stage g = 1 ∧ (failGroup h g k).fld (LNK_STATUS_reason g) = k ∧
    (failGroup h g k).mode g = 3 ∧ (failGroup h g k).txMask g = 0 ∧ (failGroup h g k).rxMask g = 0 ∧ (failGroup h g k).flag
    (LNK_LATCH_fail g) = true) ∧
  (∀ g : Fin 2, Happens (fun dt => .p2Start dt g) (fun h => (h.grp g).relock = true ∧ h.stage g = 1 ∧ (groupLanes g).all (fun
    n => h.flag (LTX_STATUS_pll_lock n)) = true) (fun h u => let t := ((setStage h g 2).updGrp g fun x =>
    { x with relock := false, train := [], exitOwn := none, sprout := [], minLanes := h.fld (LNK_CFG_min_lanes g) }); u =
    t.each (partLanes t g) fun p s => sendTraining (seedLane s (4 * g + p)) g p)) ∧
  (∀ (n : Fin 8) (wr w : Nat), Happens (fun dt => .trainingFrameReceived dt n true wr w) (fun h => h.ready n = true ∧ h.stage
    (laneGroup n) = 2 ∧ hasBit (h.fld (LNK_STATUS_excluded (laneGroup n))) ((n : Nat) % 4) = false ∧ w % 65536 = crcMsb 16
    0x1021 0xFFFF (toBE 10 (w / 65536)) ∧ hasBit w 56 = false ∧ w / 2 ^ 20 % 65536 = h.num (LNK_PEER (laneGroup n)) % 65536)
    (fun h u => u = tryP2Exit (makeRequest (takeControl (trackSync h (laneGroup n) ((n : Nat) % 4) true wr) (laneGroup n) ((n
    : Nat) % 4) w) (laneGroup n) ((n : Nat) % 4) w) (laneGroup n) false)) ∧
  (∀ (n : Fin 8) (wr w : Nat), Happens (fun dt => .trainingFrameReceived dt n true wr w) (fun h => h.ready n = true ∧ h.stage
    (laneGroup n) = 2 ∧ hasBit (h.fld (LNK_STATUS_excluded (laneGroup n))) ((n : Nat) % 4) = false ∧ w % 65536 ≠ crcMsb 16
    0x1021 0xFFFF (toBE 10 (w / 65536))) (fun h u => let t := (updTrain (trackSync h (laneGroup n) ((n : Nat) % 4) true wr)
    (laneGroup n) ((n : Nat) % 4) fun x => { x with badCtl := x.badCtl + 1, exitRun := 0 }); u = t.cond ((t.train (laneGroup
    n) ((n : Nat) % 4)).badCtl == 64) fun s => s.setFld (LNK_LATCH_ctl_err (laneGroup n)) 1)) ∧
  (∀ g : Fin 2, Happens (fun dt => .p2TimeLimit dt g) (fun h => h.stage g = 2 ∧ (h.grp g).stageAt + 300000000 ≤ h.dtime ∧
    (List.range 4).any (fun p => (h.train g p).exitSeen) = false) (fun h u => u = failGroup h g 1)) ∧
  (∀ g : Fin 2, Happens (fun dt => .p2TimeLimit dt g) (fun h => h.stage g = 2 ∧ (h.grp g).stageAt + 300000000 ≤ h.dtime ∧
    (List.range 4).any (fun p => (h.train g p).exitSeen) = true) (fun h u => u = tryP2Exit h g true)) ∧
  (∀ g : Fin 2, Happens (fun dt => .p3TimeLimit dt g) (fun h => h.stage g = 3 ∧ h.native g = true ∧ (h.grp g).stageAt +
    5000000 ≤ h.dtime) (fun h u => u = failGroup h g 3)) ∧
  (∀ g : Fin 2, Happens (fun dt => .p4TimeLimit dt g) (fun h => h.stage g = 4 ∧ (h.grp g).stageAt + 20000000 ≤ h.dtime) (fun
    h u => u = failGroup h g 4)) ∧
  (∀ g : Fin 2, Happens (fun dt => .groupSignalLossFailure dt g) (fun h => 2 ≤ h.stage g ∧ h.stage g ≤ 4 ∧ h.mode g < 2 ∧
    (groupLanes g).all (fun n => h.flag (LRX_STATUS_los n)) = true) (fun h u => u = failGroup h g 8)) ∧
  (∀ n : Fin 8, Happens (fun dt => .c2P3Timeout dt n) (fun h => h.mode (laneGroup n) = 2 ∧ (h.lane n).p2At + 305000000 ≤
    h.dtime ∧ c2Layout h (laneGroup n) = 0 ∧ h.num (LNK_LSTAGE (laneGroup n)) / 16 ^ ((n : Nat) % 4) % 8 = 3) (fun h u =>
    keeps [0x02, 0x03, 0x04, 0x05, 0x06, 0x0B, 0x12] [.evr, .pwr, .lanes, .grps, .freeN, .out] h u ∧ u.num (LNK_LSTAGE
    (laneGroup n)) = h.num (LNK_LSTAGE (laneGroup n)) - 3 * 16 ^ ((n : Nat) % 4) + 16 ^ ((n : Nat) % 4) ∧ u.fld
    (LNK_STATUS_reason (laneGroup n)) = 3 ∧ u.flag (LNK_LATCH_fail (laneGroup n)) = true ∧ u.flag (LNK_STATUS_backoff
    (laneGroup n)) = true ∧ u.fld (LNK_STATUS_fails (laneGroup n)) = min (h.fld (LNK_STATUS_fails (laneGroup n)) + 1) 15 ∧
    u.num (LNK_C_FAIL (laneGroup n)) = min (h.num (LNK_C_FAIL (laneGroup n)) + 1) (2 ^ 32 - 1) ∧ (u.grp (laneGroup
    n)).backoffEnd = h.dtime + backoffTime (min (h.fld (LNK_STATUS_fails (laneGroup n)) + 1) 15) (Config.random
    h.freeN).toNat ∧ Map.get 0 (u.grp (laneGroup n)).lback ((n : Nat) % 4) = (u.grp (laneGroup n)).backoffEnd ∧ u.stage
    (laneGroup n) = (List.range 4).foldl (fun m p => max m (u.num (LNK_LSTAGE (laneGroup n)) / 16 ^ p % 8)) 0))

/-- (1) CAPS_RECEIVED from another tag by a group with framing before P5 fails it with reason 7. (2) CAPS_RECEIVED from the
  peer in P3 or P4, of version 1 with the group's mode and receive mask: CAPS_ACK with result 0 goes out, the contribution,
  the pace and the floor are kept, and the seed is agreed if it may. (3) CAPS_ACK_RECEIVED with another result than 0 in P4
  fails the group with reason 6. (4) CAPS_ACK_RECEIVED with result 0 in P4 is kept, and the seed is agreed if it may. (5)
  SEED_START_RECEIVED in P4: its frame is kept. (6) READY_RECEIVED in P4 is kept, and READY goes out or P5 begins if it may.
  (7) P4_MESSAGE_REPEAT in P4 sends CAPS again without its acknowledgement, SEED_START until its frame has begun, and READY
  without the peer's. (8) ABORT_RECEIVED by a group with framing before P5 fails it with reason 5. (9) SPROUT_WAKE at a group
  whose framing domain sleeps or goes to sleep, from the tag asked for or with none asked for, is a wake from the line with
  cause 0: latched under low power or on the way to sleep, else acted on. (10) LIGHT_WAKE at such a group that lets light
  wake it, with an input above the lane's threshold, is a wake from the line with cause 1. (11) A wake from the line that is
  acted on sets woke, records event 0x0607 with the group, the cause and the tag, and wakes the group's domains; one under
  low power sets pending, keeps the cause and the tag, and records event 0x0608. Cites 06_link_bringup.md, 05_line_format.md.
  -/
def Obligations.BringUpMessagesAndWakes : Prop :=
  (∀ (g : Fin 2) (tg v m k fl pc ct ft : Nat), Happens (fun dt => .capsReceived dt g tg v m k fl pc ct ft) (fun h => framing
    h g = true ∧ h.stage g < 5 ∧ tg ≠ h.num (LNK_PEER g)) (fun h u => u = failGroup h g 7)) ∧
  (∀ (g : Fin 2) (tg v m k fl pc ct ft : Nat), Happens (fun dt => .capsReceived dt g tg v m k fl pc ct ft) (fun h => framing
    h g = true ∧ h.stage g < 5 ∧ tg = h.num (LNK_PEER g) ∧ v = 1 ∧ m = h.mode g ∧ k = h.rxMask g) (fun h u => let t :=
    ((sendOam h g 0x0011 (toBE 1 0 ++ zeros 7)).updGrp g fun x =>
    { x with peerContrib := some ct, ackSent := true, peerPace := some pc, peerFloor := some fl }); u = trySeed (t.setFld
    (LNK_PEER_INFO_features g) ft) g)) ∧
  (∀ (g : Fin 2) (r : Nat), Happens (fun dt => .capsAckReceived dt g r) (fun h => h.stage g = 4 ∧ r ≠ 0) (fun h u => u =
    failGroup h g 6)) ∧
  (∀ g : Fin 2, Happens (fun dt => .capsAckReceived dt g 0) (fun h => h.stage g = 4) (fun h u => u = trySeed (h.updGrp g fun
    x => { x with ackRcvd := true }) g)) ∧
  (∀ (g : Fin 2) (f : Nat), Happens (fun dt => .seedStartReceived dt g f) (fun h => h.stage g = 4) (fun h u => u = h.updGrp g
    (fun x => { x with peerF := some (f % 2 ^ 48) }))) ∧
  (∀ g : Fin 2, Happens (fun dt => .readyReceived dt g) (fun h => h.stage g = 4) (fun h u => u = tryReady (h.updGrp g fun x
    => { x with readyRcvd := true }) g)) ∧
  (∀ g : Fin 2, Happens (fun dt => .p4MessageRepeat dt g) (fun h => h.stage g = 4) (fun h u => let a := (h.cond (!(h.grp
    g).ackRcvd) fun s => sendOam s g 0x0010 (capsBody s g)); let b := (a.cond ((h.grp g).ownF.isSome && !(h.grp g).txPast)
    fun s => sendOam s g 0x0012 (toBE 6 ((h.grp g).ownF.getD 0) ++ zeros 2)); u = b.cond ((h.grp g).readySent && !(h.grp
    g).readyRcvd) fun s => sendOam s g 0x0013 (readyBody s g))) ∧
  (∀ g : Fin 2, Happens (fun dt => .abortReceived dt g) (fun h => framing h g = true ∧ h.stage g ≠ 5) (fun h u => u =
    failGroup h g 5)) ∧
  (∀ (n : Fin 8) (tg : Nat), Happens (fun dt => .sproutWake dt n tg) (fun h => armedFor h (laneGroup n) = true ∧ (h.num
    LNK_WAKE_CFG = 0 ∨ h.num LNK_WAKE_CFG = tg)) (fun h u => u = lineWake h (laneGroup n) 0 tg)) ∧
  (∀ (n : Fin 8) (mv : Nat), Happens (fun dt => .lightWake dt n mv) (fun h => armedFor h (laneGroup n) = true ∧ h.flag
    (LNK_CFG_wake_light (laneGroup n)) = true ∧ h.fld (LRX_CFG_los_thr n) < mv) (fun h u => u = lineWake h (laneGroup n) 1
    0)) ∧
  (∀ (h : Hw) (g c t : Nat), (h.pwr.lowPower = false → goingToSleep h g = false → lineWake h g c t = wakeDomains ((h.setFld
    (wokeFld g) 1).raise 0x0607 [g, c, t]) g 2) ∧ (h.pwr.lowPower = true → lineWake h g c t =
    ({ h.setFld (pendingFld g) 1 with pwr := { h.pwr with lineWakes := Map.put (0, 0) h.pwr.lineWakes g (c, t) } } :
    Hw).raise 0x0608 [g, c]))

/-- Each clause says of the row it names, in every state and for all operands that meet the condition it names, that exec
  answers the next state that follows from the effect it names. (1) LANE_TRAIN_RECEIVED of phase 1 in P5 of a native mode, of
  a ready lane that is neither fenced nor crossed nor retraining beyond its own request: phase 2 goes out, and the lane
  begins training now. (2) LANE_TRAIN_RECEIVED of phase 2 in P5 of a native mode, for a lane whose own request is out: the
  lane begins training, its time from the request. (3) LANE_TRAIN_RECEIVED of phase 3 in P5 of a native mode, for a lane that
  retrains: the retraining ends, with event 0x060A and 3. (4) LANE_TRAIN_RECEIVED of phase 4 in P5 of a native mode, for a
  lane that retrains: the peer has converged, and the retraining goes on if it may. (5) LANE_TRAIN_RECEIVED of phase 5 in P5
  of a native mode, for a lane that retrains: lane frames go out again from the frame it names. (6) AUTO_REJOIN_TIMER, with
  automatic rejoining on, of a ready lane that left the transmit mask 1 s ago or more in P5 of a native mode, that has lost
  lock or that the peer reports unhealthy, and is neither crossed nor retraining nor failed three times in a minute: its
  retraining is asked for. (7) LANE_RETRAIN_TIMEOUT of a lane that has retrained for 310 ms: the retraining ends, the failure
  is noted beside those of the last 60 s, and event 0x060A carries group, lane and 2. (8) C2_P1_CHECK with layout 1 at the
  group and not at the other one: event 0x0508 carries both layouts. (9) C2_P1_CHECK with layout 0, of a ready lane in P1
  that is out of its backoff and has its signal, PLL lock and transmitter: the lane is in P3, its group at least in P3 of C2,
  and the lane takes its first seed. (10) C2_P1_CHECK with layout 1 at both groups, both in P1 and out of their backoff, with
  all eight lanes ready: every group is in P3 of C2, and every lane takes its first seed. Cites 05_line_format.md,
  06_link_bringup.md. -/
def Obligations.RetrainingAndC2Alignment : Prop :=
  (∀ (g : Fin 2) (q : Fin 4) (fr : Nat), Happens (fun dt => .laneTrainReceived dt g q 1 fr) (fun h => h.stage g = 5 ∧
    h.native g = true ∧ h.ready (4 * g + q) = true ∧ h.fenced (4 * g + q) = false ∧ hasBit (h.grp g).crossed q = false ∧
    (Map.get none (h.grp g).retrain q).all (fun (r : Retrain) => r.phase == 1) = true) (fun h u => u = beginTraining (sendOam
    h g 0x0015 (toBE 1 q ++ toBE 1 2 ++ zeros 6)) g q h.dtime)) ∧
  (∀ (g : Fin 2) (q : Fin 4) (fr : Nat) (r : Retrain), Happens (fun dt => .laneTrainReceived dt g q 2 fr) (fun h => h.stage g
    = 5 ∧ h.native g = true ∧ Map.get none (h.grp g).retrain q = some r ∧ r.phase = 1) (fun h u => u = beginTraining h g q
    r.t0)) ∧
  (∀ (g : Fin 2) (q : Fin 4) (fr : Nat), Happens (fun dt => .laneTrainReceived dt g q 3 fr) (fun h => h.stage g = 5 ∧
    h.native g = true ∧ (Map.get none (h.grp g).retrain q).isSome = true) (fun h u => u = (setRetrain h g q none).raise
    0x060A [g, q, 3])) ∧
  (∀ (g : Fin 2) (q : Fin 4) (fr : Nat) (r : Retrain), Happens (fun dt => .laneTrainReceived dt g q 4 fr) (fun h => h.stage g
    = 5 ∧ h.native g = true ∧ Map.get none (h.grp g).retrain q = some r) (fun h u => u = retrainOn (setRetrain h g q (some
    { r with peer4 := true })) g q)) ∧
  (∀ (g : Fin 2) (q : Fin 4) (fr : Nat) (r : Retrain), Happens (fun dt => .laneTrainReceived dt g q 5 fr) (fun h => h.stage g
    = 5 ∧ h.native g = true ∧ Map.get none (h.grp g).retrain q = some r) (fun h u => u = setRetrain h g q (some
    { r with phase := 4, frame := some (fr % 2 ^ 48) }))) ∧
  (∀ n : Fin 8, Happens (fun dt => .autoRejoinTimer dt n) (fun h => h.stage (laneGroup n) = 5 ∧ h.native (laneGroup n) = true
    ∧ hasBit (h.txMask (laneGroup n)) ((n : Nat) % 4) = false ∧ h.flag (LNK_CFG_auto_rejoin (laneGroup n)) = true ∧ Map.get 0
    (h.grp (laneGroup n)).leftAt ((n : Nat) % 4) + 1000000000 ≤ h.dtime ∧ (h.flag (LRX_STATUS_cdr_lock n) = false ∨ hasBit
    (h.fld (LFM_STATUS_am_lock (laneGroup n))) ((n : Nat) % 4) = false ∨ (h.grp (laneGroup n)).health.head?.any (fun (x : Nat
    × Nat) => !hasBit x.1 ((n : Nat) % 4)) = true) ∧ hasBit (h.grp (laneGroup n)).crossed ((n : Nat) % 4) = false ∧ Map.get
    none (h.grp (laneGroup n)).retrain ((n : Nat) % 4) = none ∧ (Map.get [] (h.grp (laneGroup n)).rtFails ((n : Nat) %
    4)).length < 3 ∧ h.ready n = true) (fun h u => u = startRetrain h (laneGroup n) ((n : Nat) % 4))) ∧
  (∀ (n : Fin 8) (r : Retrain), Happens (fun dt => .laneRetrainTimeout dt n) (fun h => Map.get none (h.grp (laneGroup
    n)).retrain ((n : Nat) % 4) = some r ∧ r.t0 + 310000000 ≤ h.dtime) (fun h u => u = ((setRetrain h (laneGroup n) ((n :
    Nat) % 4) none).updGrp (laneGroup n) fun x =>
    { x with rtFails := Map.put [] x.rtFails ((n : Nat) % 4) ((Map.get [] (h.grp (laneGroup n)).rtFails ((n : Nat) % 4)).filter (fun t => decide (h.dtime < t + 60000000000)) ++ [h.dtime]) }).raise
    0x060A [laneGroup n, n % 4, 2])) ∧
  (∀ n : Fin 8, Happens (fun dt => .c2P1Check dt n) (fun h => h.stage (laneGroup n) ≠ 0 ∧ h.fld (LFM_CFG_mode_pref (laneGroup
    n)) = 2 ∧ 2 ≤ h.mode (laneGroup n) ∧ c2Layout h (laneGroup n) = 1 ∧ (h.fld (LFM_CFG_mode_pref (other (laneGroup n))) ≠ 2
    ∨ c2Layout h (other (laneGroup n)) ≠ 1)) (fun h u => u = h.raise 0x0508 [c2Layout h 0, c2Layout h 1])) ∧
  (∀ n : Fin 8, Happens (fun dt => .c2P1Check dt n) (fun h => h.stage (laneGroup n) ≠ 0 ∧ h.fld (LFM_CFG_mode_pref (laneGroup
    n)) = 2 ∧ 2 ≤ h.mode (laneGroup n) ∧ c2Layout h (laneGroup n) = 0 ∧ h.num (LNK_LSTAGE (laneGroup n)) / 16 ^ ((n : Nat) %
    4) % 8 < 3 ∧ Map.get 0 (h.grp (laneGroup n)).lback ((n : Nat) % 4) ≤ h.dtime ∧ c2LaneReady h n = true) (fun h u => u =
    seedLane (enterC2 (h.setNum (LNK_LSTAGE (laneGroup n)) (h.num (LNK_LSTAGE (laneGroup n)) - h.num (LNK_LSTAGE (laneGroup
    n)) / 16 ^ ((n : Nat) % 4) % 8 * 16 ^ ((n : Nat) % 4) + 3 * 16 ^ ((n : Nat) % 4))) (laneGroup n) 3) n)) ∧
  (∀ n : Fin 8, Happens (fun dt => .c2P1Check dt n) (fun h => h.stage 0 = 1 ∧ h.stage 1 = 1 ∧ h.fld (LFM_CFG_mode_pref 0) = 2
    ∧ h.fld (LFM_CFG_mode_pref 1) = 2 ∧ 2 ≤ h.mode (laneGroup n) ∧ c2Layout h 0 = 1 ∧ c2Layout h 1 = 1 ∧ Map.get 0 (h.grp
    0).lback 0 ≤ h.dtime ∧ (List.range 8).all (fun n => c2LaneReady h n) = true) (fun h u => u = h.each (List.range 8) fun n
    s => seedLane (enterC2 s (laneGroup n) 3) n))

/-- Each clause says of the row it names, in every state and for all operands that meet the condition it names, that exec
  answers the next state that follows from the effect it names. Of a request row a clause speaks wherever the request is
  taken up: it passes the checks, nothing refuses it and the domains it touches are ready; the request then completes with
  OK, or, where the clause says so, is accepted and waits. (1) HSL_EQ_SET stores the three equaliser fields of every lane of
  its mask. (2) HSL_STATUS_READ returns, for every lane of its mask, the equaliser and the status word, then DTIME, and
  changes nothing. (3) HSL_CONFIG sets whether a signal on HRX0 wakes. (4) HPC_PTP_CONFIG sets the mask of ports with PTP
  correction. (5) HPC_PORT_READ returns the map and the status word of the port and DTIME, and changes nothing. (6)
  HPC_COUNT_READ returns the ten counter words of the port and DTIME, and with bit 0 of its flags sets them to 0. (7)
  HPC_PORT_SET of an entry that keeps the rules (an enabled port changes only its enable; the first lane fits the rate; no
  enabled ports share a lane; both groups' rates fit): the five fields are written; a change records event 0x0806 with port
  and both words; a port then enabled begins to align now; one disabled drops the frames held for it and is not aligned. (8)
  HRX_LOSS_OF_SIGNAL of a lane of a ready quad, not in loss, below 50 mV: los is set, and event 0x0701 carries the lane and
  the level. (9) HRX_SIGNAL_RESTORED of a lane of a ready quad in loss, above 75 mV: los clears. (10) HRX_LOCK_LOST of a lane
  with lock: lock clears, event 0x0702 names the lane, and every enabled port on it loses alignment. (11) HRX_LOCK_REGAINED
  of a lane of a ready quad without lock, with HREF accepted: lock is set. (12) HOST_PLL_LOCK of a ready quad whose PLLs are
  not locked, with HREF accepted: its four lanes have PLL lock, and the quad is ready for analogue work. (13)
  HOST_QUAD_RESTORE after a rejection of HREF, with HREF accepted and every held quad able to leave: no quad is held, and
  event 0x0803 carries the time since the rejection in µs and the quads that were hit. (14) HOST_QUAD_RESTORE with a held
  quad that cannot leave yet: the quads that can leave do, and nothing else changes. Cites 07_host_interface.md. -/
def Obligations.HostSettingsAndLanes : Prop :=
  (RunsOk .hslEqSet opHslEqSet (fun _ _ => True) (fun b c e pl => e = b.each (hostMask c.p) (fun l s => ((s.setFld
    (HSL_TXEQ_pre (l / 4) (l % 4)) (u8 c.p 2)).setFld (HSL_TXEQ_post (l / 4) (l % 4)) (u8 c.p 3)).setFld (HSL_TXEQ_amp (l /
    4) (l % 4)) (u8 c.p 4)) ∧ pl = [])) ∧
  (RunsOk .hslStatusRead opHslStatusRead (fun _ _ => True) (fun b c e pl => e = b ∧ pl = (hostMask c.p).flatMap (fun l =>
    b.wordsAt [HSL_TXEQ (l / 4) (l % 4), hslStatus l]) ++ b.dtimeBytes)) ∧
  (RunsOk .hslConfig opHslConfig (fun _ _ => True) (fun b c e pl => e = b.setFld HSL_CFG_wake_hrx0 (bit (u8 c.p 0) 0) ∧ pl =
    [])) ∧
  (RunsOk .hpcPtpConfig opHpcPtpConfig (fun _ _ => True) (fun b c e pl => e = b.setFld HPC_PTP_CFG_en (u8 c.p 0) ∧ pl = [])) ∧
  (RunsOk .hpcPortRead opHpcPortRead (fun _ _ => True) (fun b c e pl => e = b ∧ pl = b.wordsAt [HPC_PORT (u8 c.p 0),
    HPC_PORT_STATUS (u8 c.p 0)] ++ b.dtimeBytes)) ∧
  (RunsOk .hpcCountRead opHpcCountRead (fun _ _ => True) (fun b c e pl => e = b.cond (hasBit (u8 c.p 1) 0) (fun s =>
    s.zeroRegs (hpcCounters (u8 c.p 0))) ∧ pl = b.wordsAt (hpcCounters (u8 c.p 0)) ++ b.dtimeBytes)) ∧
  (RunsOk .hpcPortSet opHpcPortSet (fun b c => ((b.mapEntry (u8 c.p 0)).enable && { entryOf c.p with enable := true } !=
    b.mapEntry (u8 c.p 0)) = false ∧ firstLaneOk (entryOf c.p) = true ∧ ((entryOf c.p).enable && (List.range 8).any fun j =>
    j != u8 c.p 0 && (b.mapEntry j).enable && sharesLane (entryOf c.p) (b.mapEntry j)) = false ∧ mapFits b (mapWith b (u8 c.p
    0) (entryOf c.p)) 0 = true ∧ mapFits b (mapWith b (u8 c.p 0) (entryOf c.p)) 1 = true) (fun b c e pl => pl = [] ∧ (let s
    := (applyPort c.p b); let t := (s.cond (b.num (HPC_PORT (u8 c.p 0)) != s.num (HPC_PORT (u8 c.p 0))) (fun x => x.raise
    0x0806 [u8 c.p 0, b.num (HPC_PORT (u8 c.p 0)), s.num (HPC_PORT (u8 c.p 0))])); let v := (t.cond ((entryOf c.p).enable &&
    !(b.mapEntry (u8 c.p 0)).enable) (fun s => updPort s (u8 c.p 0) fun x => { x with since := s.dtime })); e = v.cond
    (!(entryOf c.p).enable && (b.mapEntry (u8 c.p 0)).enable) fun s => (dropHeld s (u8 c.p 0)).setFld
    (HPC_PORT_STATUS_aligned (u8 c.p 0)) 0))) ∧
  (∀ (l : Fin 16) (mv : Nat), Happens (fun dt => .hrxLossOfSignal dt l mv) (fun h => h.ready (8 + l / 4) = true ∧ h.flag
    (hrxLos l) = false ∧ mv < 50) (fun h u => u = (h.setFld (hrxLos l) 1).raise 0x0701 [l, mv])) ∧
  (∀ (l : Fin 16) (mv : Nat), Happens (fun dt => .hrxSignalRestored dt l mv) (fun h => h.ready (8 + l / 4) = true ∧ h.flag
    (hrxLos l) = true ∧ 75 < mv) (fun h u => u = h.setFld (hrxLos l) 0)) ∧
  (∀ l : Fin 16, Happens (fun dt => .hrxLockLost dt l) (fun h => h.flag (hrxLock l) = true) (fun h u => u = ((h.setFld
    (hrxLock l) 0).raise 0x0702 [l]).each (portsOn ((h.setFld (hrxLock l) 0).raise 0x0702 [l]) l) loseAlignment)) ∧
  (∀ l : Fin 16, Happens (fun dt => .hrxLockRegained dt l) (fun h => h.ready (8 + l / 4) = true ∧ h.flag (hrxLock l) = false
    ∧ h.refOk 0 = true) (fun h u => u = h.setFld (hrxLock l) 1)) ∧
  (∀ q : Fin 4, Happens (fun dt => .hostPllLock dt q) (fun h => h.ready (8 + q) = true ∧ h.refOk 0 = true ∧ h.flag (htxPll (4
    * q)) = false) (fun h u => u = (h.each (groupLanes q) fun l s => s.setFld (htxPll l) 1).setFld (PWR_DOM_analog (8 + q))
    1)) ∧
  (∀ t : Nat, Happens .hostQuadRestore (fun h => h.host.hrefAt = some t ∧ h.refOk 0 = true ∧ sumN (((List.range 4).filter fun
    q => quadHeld h q && !quadLeaves h q).map fun q => 2 ^ q) = 0) (fun h u => u =
    ({ h with host := { h.host with hrefAt := none, held := 0, hit := 0 } } : Hw).raise 0x0803 [(h.dtime - t) / 1000,
    h.host.hit])) ∧
  (∀ t : Nat, Happens .hostQuadRestore (fun h => h.host.hrefAt = some t ∧ sumN (((List.range 4).filter fun q => quadHeld h q
    && !quadLeaves h q).map fun q => 2 ^ q) ≠ 0) (fun h u => u =
    { h with host := { h.host with held := sumN (((List.range 4).filter fun q => quadHeld h q && !quadLeaves h q).map fun q => 2 ^ q) } }))

/-- (1) HRX0_WAKE above 75 mV with the first quad asleep and the wake enabled: the quad wakes with cause 3, and event 0x0703
  is recorded. (2) PORT_ALIGNED of an enabled port that is not aligned, with HREF accepted and every lane in a ready quad and
  locked: it is aligned, and event 0x0802 carries the port and how long it took in µs. (3) PORT_ALIGNMENT_LOST of an aligned
  port: it is not aligned, align_lost is set, its time begins anew, and event 0x0801 carries the port and its lanes in loss
  or without lock. (4) HOST_FRAME_RECEIVED on an enabled, aligned port whose quads are ready and not held, of a frame touched
  by no uncorrected codeword that R256 drops: the FEC and the drop are counted, and the frame goes no further. (5)
  HOST_FRAME_RECEIVED on such a port, of a kept frame with the device's address and the in-band EtherType: the packet that it
  carries is served. (6) HOST_FRAME_RECEIVED on such a port, of another kept frame: PTP notes it, and in C2 it waits for its
  line PHY; in a native mode a PTP frame has its arrival taken off its correction and goes to best effort; another frame is
  matched with the timed flows while the tables stand and D14 is ready, and goes to best effort otherwise. (7)
  HOST_FRAME_SEND on a port that runs and is free, of the next frame of its queue (the first timed one, else the first),
  where no class C release would find it on the way, the gap is over (8 bytes for a frame that waited in it, else 12) and D14
  is ready or the frame is the command processor's: it leaves the queue, is judged against its deadline, and is sent, a
  best-effort frame with its PTP correction; the port is busy for its time, 8 bytes of gap and the next preamble. (8) A frame
  sent leaves the part, and its code blocks go out on the port's lanes; it is counted; and the port is free again at the end
  of its time and of 16 bytes more. Cites 07_host_interface.md, 09_timed_delivery.md. -/
def Obligations.PortsAndHostFrames : Prop :=
  (∀ mv : Nat, Happens (fun dt => .hrx0Wake dt mv) (fun h => h.domState 8 = 0 ∧ h.flag HSL_CFG_wake_hrx0 = true ∧ 75 < mv)
    (fun h u => u = (h.wake 8 3).raise 0x0703)) ∧
  (∀ p : Fin 8, Happens (fun dt => .portAligned dt p) (fun h => portEnabled h p = true ∧ h.flag (HPC_PORT_STATUS_aligned p) =
    false ∧ h.refOk 0 = true ∧ (portLanes h p).all (fun l => h.ready (8 + l / 4) && h.flag (hrxLock l)) = true) (fun h u => u
    = (h.setFld (HPC_PORT_STATUS_aligned p) 1).raise 0x0802 [p, (h.dtime - (h.port p).since) / 1000])) ∧
  (∀ p : Fin 8, Happens (fun dt => .portAlignmentLost dt p) (fun h => h.flag (HPC_PORT_STATUS_aligned p) = true) (fun h u =>
    u = (updPort ((h.setFld (HPC_PORT_STATUS_aligned p) 0).setFld (HPC_PORT_STATUS_align_lost p) 1) p fun x =>
    { x with since := h.dtime }).raise 0x0801 [p, sumN (((portLanes h p).filter fun l => h.flag (hrxLos l) || !h.flag
    (hrxLock l)).map fun l => 2 ^ l)])) ∧
  (∀ (p : Fin 8) (fr cr un rs : Nat) (f : Bytes), Happens (fun dt => .hostFrameReceived dt p fr cr un false rs f) (fun h =>
    portEnabled h p = true ∧ (portLanes h p).all (fun l => h.ready (8 + l / 4)) = true ∧ (countFec h p cr un).flag
    (HPC_PORT_STATUS_aligned p) = true ∧ portHeld (countFec h p cr un) p = false ∧ (keepFrame (countFec h p cr un) p f).1 =
    false) (fun h u => u = (keepFrame (countFec h p cr un) p f).2)) ∧
  (∀ (p : Fin 8) (fr cr un rs : Nat) (f : Bytes), Happens (fun dt => .hostFrameReceived dt p fr cr un false rs f) (fun h =>
    portEnabled h p = true ∧ (portLanes h p).all (fun l => h.ready (8 + l / 4)) = true ∧ (countFec h p cr un).flag
    (HPC_PORT_STATUS_aligned p) = true ∧ portHeld (countFec h p cr un) p = false ∧ (keepFrame (countFec h p cr un) p f).1 =
    true ∧ frameDst f = (keepFrame (countFec h p cr un) p f).2.mac ∧ frameType f = (keepFrame (countFec h p cr un) p f).2.fld
    CMD_CFG_inband_etype) (fun h u => u = inbandPacket p f (keepFrame (countFec h p cr un) p f).2)) ∧
  (∀ (p : Fin 8) (fr cr un rs : Nat) (f : Bytes), Happens (fun dt => .hostFrameReceived dt p fr cr un false rs f) (fun h =>
    portEnabled h p = true ∧ (portLanes h p).all (fun l => h.ready (8 + l / 4)) = true ∧ (countFec h p cr un).flag
    (HPC_PORT_STATUS_aligned p) = true ∧ portHeld (countFec h p cr un) p = false ∧ (keepFrame (countFec h p cr un) p f).1 =
    true ∧ ¬ (frameDst f = (keepFrame (countFec h p cr un) p f).2.mac ∧ frameType f = (keepFrame (countFec h p cr un) p
    f).2.fld CMD_CFG_inband_etype)) (fun h u => let k := (ptpNote (keepFrame (countFec h p cr un) p f).2 p f); let g :=
    (k.fld (HPC_PORT_group p)); u = (if budgetMode k g = 2 then c2Frame k p (fine k fr) rs f else if ptpFrame f then
    bestEffortFrame (ptpCorrect k p f (-(fine k fr * 1024 : Int))).2 p (ptpCorrect k p f (-(fine k fr * 1024 : Int))).1 else
    if tablesReady k && k.ready 14 then timedFrame k p (k.dtime * 64 + fr) f else bestEffortFrame k p f))) ∧
  (∀ (p : Fin 8) (fr : Nat) (f : TxFrame), Happens (fun dt => .hostFrameSend dt p fr none) (fun h => htxRuns h p = true ∧
    (h.port p).free ≤ h.dtime * 64 + fr ∧ (((h.port p).q.find? fun (f : TxFrame) => f.timed).orElse fun _ => (h.port
    p).q.head?) = some f ∧ (releases h p).any (fun (r : Int) => decide (64 * r ≤ ((h.dtime * 64 + fr : Nat) : Int) + hostTime
    (h.fld (HPC_PORT_rate p)) f.bytes.length)) = false ∧ gapEnds h p f.came ≤ h.dtime * 64 + fr ∧ (h.ready 14 = true ∨ f.grp
    = 2)) (fun h u => let t := (judgeB (updPort h p fun x => { x with q := x.q.erase f }) f fr); let z := (h.dtime * 64 +
    fr); u = (if f.timed = false ∧ f.grp < 2 then htxSend (ptpCorrect t p f.bytes (leaveGain t f fr)).2 p z (ptpCorrect t p
    f.bytes (leaveGain t f fr)).1 else htxSend t p z f.bytes))) ∧
  (∀ (h : Hw) (p z : Nat) (f : Bytes), (htxSend h p z f).out = h.out ++ [Out.frame p f] ++ (portLanes h p).map (fun l =>
    Out.htx l (pcsFrame (2 + h.fld (HPC_PORT_rate p)) l (Map.get [] (h.port p).blocks l) f).1) ∧ ((htxSend h p z f).port
    p).free = z + hostTime (h.fld (HPC_PORT_rate p)) (f.length + 16) ∧ (htxSend h p z f).num64 (HPC_TX_FRAMES p) = min
    (h.num64 (HPC_TX_FRAMES p) + 1) (2 ^ 64 - 1))

/-- Of a request row a clause speaks wherever the request is taken up: it passes the checks, nothing refuses it and the
  domains it touches are ready; the request then completes with OK, or, where the clause says so, is accepted and waits. A
  clause with a list of subsystems and parts after keeps says besides that every other register word and every other part of
  the state is as it was. (1) FLW_INIT with no flow admitted empties both tables, the stash, the cooling list and the
  counters, and declares both tables. (2) FLW_INSERT with the tables declared, of a list whose items all pass one after
  another: they are inserted in order, and the payload has their number, the stash's occupancy and the longest chain. (3) An
  item of FLW_INSERT without a key, for a free index that does not cool, writes the context it describes, present. (4) An
  item with a key that the tables do not hold, for such an index, with a free slot among the key's home slots, leaves the
  context present and the key, with class and index, in the first such slot. (5) FLW_MODIFY with the tables declared, of a
  list whose items all pass one after another: they are applied in order, with the same payload. (6) An item of FLW_MODIFY
  without a key, for a present context without a key, keeps the receive and policing fields and takes the others. (7)
  FLW_DELETE with the tables declared, of a list whose items all pass one after another and for which the cooling list has
  room: each key is removed and each context freed, its index cooling from now, and the payload has their number and the
  stash's occupancy. (8) FLW_LOOKUP of a key that the tables do not hold returns 24 zero bytes, and changes nothing. (9)
  FLW_LOOKUP of a key that stands in slot k returns 1, whether the slot is of the stash, the slot's number and the context of
  its index, and changes nothing. (10) FLW_READ of contexts within the table returns them in order, and changes nothing. (11)
  FLW_STATUS_READ returns the table registers and counters and DTIME, and with bit 0 of its flags sets the counters, the
  stash's peak and the longest chain to 0. (12) COOLING_EXPIRY with no command running: exactly the indices whose 10 ms have
  passed leave the cooling list. (13) STASH_REPLACE after a deletion, with D14 ready: stash entries are placed back, the
  oldest first, as long as one finds room. Cites 08_flow_tables.md. -/
def Obligations.FlowTables : Prop :=
  (RunsOk .flwInit opFlwInit (fun b _ => b.fld TDS_FLOWS_admitted = 0) (fun b _ e pl => keeps [0x09, 0x0C, 0x0D, 0x0F, 0x10,
    0x11] [.evr, .mem, .flw] b e ∧ pl = [] ∧ e.flw.keys = [] ∧ e.flw.ctxs = [] ∧ e.flw.stash = [] ∧ e.flw.cooling = [] ∧ (∀
    k, slotValid e k = false) ∧ (∀ i, e.ctx i = 0) ∧ ∀ a ∈ flwCounters, e.num a = 0)) ∧
  (RunsOk .flwInsert opFlwInsert (fun b c => tablesReady b = true ∧ ((List.range (u8 c.p 0)).foldlM (fun (x : Nat × Hw) j =>
    (insertItem x.2 j (itemOf c.p 24 j)).toOption.map fun (r : Nat × Hw) => (max x.1 r.1, r.2)) (0, purgeCooling b)).isSome =
    true) (fun b c e pl => ∃ r, (List.range (u8 c.p 0)).foldlM (fun (x : Nat × Hw) j => (insertItem x.2 j (itemOf c.p 24
    j)).toOption.map fun (r : Nat × Hw) => (max x.1 r.1, r.2)) (0, purgeCooling b) = some r ∧ e = r.2 ∧ pl = headerPayload
    (u8 c.p 0) r.2.flw.stash.length r.1)) ∧
  (∀ (h : Hw) (j : Nat) (it : Bytes), itemNoKey it = true → cxState (h.ctx (itemIndex it)) = 0 → isCooling h (itemIndex it) =
    false → insertItem h j it = .ok (0, h.setCtx (itemIndex it) (itemCtx it 1))) ∧
  (∀ (h : Hw) (j : Nat) (it : Bytes) (k : Nat), itemNoKey it = false → findKey h (itemKey it) = none → cxState (h.ctx
    (itemIndex it)) = 0 → isCooling h (itemIndex it) = false → (homeSlots h (itemKey it)).find? (fun k => !slotValid h k) =
    some k → ∃ n t, insertItem h j it = .ok (n, t) ∧ t.slot k = mkSlot (itemClass it) (itemIndex it) (itemKey it) ∧ t.ctx
    (itemIndex it) = itemCtx it 1) ∧
  (RunsOk .flwModify opFlwModify (fun b c => tablesReady b = true ∧ ((List.range (u8 c.p 0)).foldlM (fun (x : Nat × Hw) j =>
    (modifyItem x.2 j (itemOf c.p 24 j)).toOption.map fun (r : Nat × Hw) => (max x.1 r.1, r.2)) (0, b)).isSome = true) (fun b
    c e pl => ∃ r, (List.range (u8 c.p 0)).foldlM (fun (x : Nat × Hw) j => (modifyItem x.2 j (itemOf c.p 24 j)).toOption.map
    fun (r : Nat × Hw) => (max x.1 r.1, r.2)) (0, b) = some r ∧ e = r.2 ∧ pl = headerPayload (u8 c.p 0) r.2.flw.stash.length
    r.1)) ∧
  (∀ (h : Hw) (j : Nat) (it : Bytes), itemNoKey it = true → cxState (h.ctx (itemIndex it)) = 1 → cxHasKey (h.ctx (itemIndex
    it)) = false → indexKeyed h (itemIndex it) = false → modifyItem h j it = .ok (0, h.setCtx (itemIndex it) (keepRx (itemCtx
    it 1) (h.ctx (itemIndex it))))) ∧
  (RunsOk .flwDelete opFlwDelete (fun b c => tablesReady b = true ∧ (purgeCooling b).flw.cooling.length + u8 c.p 0 ≤ 4096 ∧
    ((List.range (u8 c.p 0)).foldlM (fun (t : Hw) j => (deleteItem t (hasBit (u8 c.p 1) 0) (itemOf c.p 12 j)).toOption.map
    fun (r : Nat × Option Nat) => freeCtx (r.2.elim t (removeKey t)) r.1) (purgeCooling b)).isSome = true) (fun b c e pl => ∃
    t, (List.range (u8 c.p 0)).foldlM (fun (t : Hw) j => (deleteItem t (hasBit (u8 c.p 1) 0) (itemOf c.p 12 j)).toOption.map
    fun (r : Nat × Option Nat) => freeCtx (r.2.elim t (removeKey t)) r.1) (purgeCooling b) = some t ∧ e = t ∧ pl = toBE 2 (u8
    c.p 0) ++ toBE 2 t.flw.stash.length ++ zeros 4)) ∧
  (RunsOk .flwLookup opFlwLookup (fun b c => tablesReady b = true ∧ findKey b (un c.p 0 6 * 4096 + u16 c.p 6) = none) (fun b
    _ e pl => e = b ∧ pl = zeros 24)) ∧
  (∀ k : Nat, RunsOk .flwLookup opFlwLookup (fun b c => tablesReady b = true ∧ findKey b (un c.p 0 6 * 4096 + u16 c.p 6) =
    some k) (fun b _ e pl => e = b ∧ pl = toBE 1 1 ++ toBE 1 (if k < slotCount then 0 else 1) ++ zeros 2 ++ toBE 4 (if k <
    slotCount then k else k - slotCount) ++ toBE 16 (b.ctx (slotIndex (b.slot k))))) ∧
  (RunsOk .flwRead opFlwRead (fun b c => tablesReady b = true ∧ u32 c.p 0 + u8 c.p 4 ≤ 2 ^ 20) (fun b c e pl => e = b ∧ pl =
    (List.range (u8 c.p 4)).flatMap fun i => toBE 16 (b.ctx (u32 c.p 0 + i)))) ∧
  (RunsOk .flwStatusRead opFlwStatusRead (fun _ _ => True) (fun b c e pl => e = b.cond (hasBit (u8 c.p 0) 0) (fun s =>
    ((s.zeroRegs flwCounters).setFld FLW_STASH_peak 0).setFld FLW_CHAIN_longest 0) ∧ pl = b.wordsAt flwRegs ++ b.dtimeBytes)) ∧
  (Happens .coolingExpiry (fun h => h.cmd.running = []) (fun h u => u = purgeCooling h ∧ u.flw.cooling = h.flw.cooling.filter
    fun (x : Nat × Nat) => decide (h.dtime < x.2 + coolingTime))) ∧
  (Happens .stashReplace (fun h => h.flw.freed = true ∧ h.ready 14 = true) (fun h u => u =
    { replaceAll stashSize h with flw := { (replaceAll stashSize h).flw with freed := false } }))

/-- Of a request row a clause speaks wherever the request is taken up: it passes the checks, nothing refuses it and the
  domains it touches are ready; the request then completes with OK, or, where the clause says so, is accepted and waits. (1)
  TDS_ADMIT with the tables declared, of a list of indices that all pass one after another: each is admitted in order, and
  the payload has their number and the reserved skew places. (2) A present context of class B or C, with its key in the
  tables if it has one, whose demand passes the budget and skew checks while the promise may be made, is admitted: its
  context says so, its terms are recorded, and the sums follow. (3) TDS_WITHDRAW with the tables declared, of a list of
  admitted indices: each admission ends in order, with the same payload. (4) TDS_CONFIG with the tables declared sets the
  cap, the budget lanes and the tolerance when every admission still passes with them, and the sums follow. (5) TDS_DELAY_SET
  with the tables declared sets D when the skew places suffice for it and no published group needs more; a mismatch with a
  peer that it makes is reported, and it goes out at once to every group in P5. (6) TDS_BUF_CONFIG with the tables declared
  divides the 16128 places when every admission still passes, and the sums follow. (7) TDS_STATUS_READ returns the registers
  and counters and DTIME, and with bit 0 of its flags sets the counters and the peak to 0. (8) DELAY_RECEIVED by a group with
  framing: the peer's D is kept, and one that differs from the local D and from what was kept is reported with event 0x0A07.
  (9) DELAY_PERIOD of a group in P5 sends D. Cites 09_timed_delivery.md. -/
def Obligations.TimedDeliveryRequests : Prop :=
  (RunsOk .tdsAdmit opTdsAdmit (fun b c => tablesReady b = true ∧ ((List.range (u16 c.p 0)).foldlM (fun (t : Hw) j =>
    (admitOne t (u32 c.p (4 + 4 * j))).toOption) b).isSome = true) (fun b c e pl => ∃ t, (List.range (u16 c.p 0)).foldlM (fun
    (t : Hw) j => (admitOne t (u32 c.p (4 + 4 * j))).toOption) b = some t ∧ e = t ∧ pl = admitPayload t (u16 c.p 0))) ∧
  (∀ (h : Hw) (i : Nat), cxState (h.ctx i) = 1 → (cxHasKey (h.ctx i) = true → indexKeyed h i = true) → (cxClass (h.ctx i) = 1
    ∨ cxClass (h.ctx i) = 2) → h.flag PWR_SPD_STATUS_suspended = false → h.fld PWR_DTIME_SRC_source ≠ 3 → budgetCheck h
    h.terms ((allSums h h.terms).add h.terms (admOf (h.ctx i))) (admOf (h.ctx i)) = none → classCCheck h h.terms ((allSums h
    h.terms).add h.terms (admOf (h.ctx i))) (admOf (h.ctx i)) = none → admitOne h i = .ok (setSums
    { h.setCtx i (cset (h.ctx i) 126 2 2) with tds := { h.tds with adm := Map.put none h.tds.adm i (some (admOf (h.ctx i))) } })) ∧
  (RunsOk .tdsWithdraw opTdsWithdraw (fun b c => tablesReady b = true ∧ ((List.range (u16 c.p 0)).foldlM (fun (t : Hw) j =>
    (withdrawOne t (u32 c.p (4 + 4 * j))).toOption) b).isSome = true) (fun b c e pl => ∃ t, (List.range (u16 c.p 0)).foldlM
    (fun (t : Hw) j => (withdrawOne t (u32 c.p (4 + 4 * j))).toOption) b = some t ∧ e = t ∧ pl = admitPayload t (u16 c.p 0))) ∧
  (RunsOk .tdsConfig opTdsConfig (fun b c => tablesReady b = true ∧ recheck b
    { b.terms with cap := u8 c.p 0, lanes := u8 c.p 1, tol := u8 c.p 2 } = none) (fun b c e pl => e = applyTdsConfig c.p b ∧
    pl = [])) ∧
  (RunsOk .tdsDelaySet opTdsDelaySet (fun b c => tablesReady b = true ∧ skewNeed { b.terms with delay := u32 c.p 0 } (allSums
    b { b.terms with delay := u32 c.p 0 }) ≤ b.terms.skew ∧ delayLow b (u32 c.p 0) = false) (fun b c e pl => e =
    ((applyTdsDelay c.p b).each [0, 1] fun g s => s.cond (s.stage g == 5) fun s => sendDelay s g) ∧ pl = [])) ∧
  (RunsOk .tdsBufConfig opTdsBufConfig (fun b c => tablesReady b = true ∧ recheck b { b.terms with skew := u16 c.p 0 } =
    none) (fun b c e pl => e = applyTdsBuf c.p b ∧ pl = [])) ∧
  (RunsOk .tdsStatusRead opTdsStatusRead (fun _ _ => True) (fun b c e pl => e = b.cond (hasBit (u8 c.p 0) 0) (fun s =>
    (s.zeroRegs tdsCounters).setFld TDS_SKEW_USE_peak 0) ∧ pl = b.wordsAt tdsRegs ++ b.dtimeBytes)) ∧
  (∀ (g : Fin 2) (d : Nat), Happens (fun dt => .delayReceived dt g d) (fun h => framing h g = true) (fun h u => u = (h.cond
    (d != h.num TDS_DELAY && (h.grp g).delay != some d) fun s => s.raise 0x0A07 [g, h.num TDS_DELAY, d]).updGrp g (fun x =>
    { x with delay := some d }))) ∧
  (∀ g : Fin 2, Happens (fun dt => .delayPeriod dt g) (fun h => h.stage g = 5) (fun h u => u = sendDelay h g))

/-- Each clause says of the row it names, in every state and for all operands that meet the condition it names, that exec
  answers the next state that follows from the effect it names. (1) SLOT_ISSUE to a group in P5 of a native mode whose pace
  has a slot due, with D14 ready and a timed cell to issue that is not a late class C cell, unless a remap holds it: the slot
  is counted, and the timed cell with the earliest latest-issue time is issued. (2) SLOT_ISSUE likewise of a late class C
  cell: the cells of its frame are discarded, the lateness is noted at the sender, and the slot counts as idle. (3)
  SLOT_ISSUE likewise with no timed cell but best-effort frames, while the line takes cells: the next best-effort cell is
  issued. (4) SLOT_ISSUE likewise with nothing to issue: the slot is counted as idle. (5) CLASS_C_RELEASE at a port that runs
  and is free, at the release moment of its next class C frame, with D14 ready: the frame leaves the skew store and is sent;
  one that another class C frame has displaced is counted, with event 0x0A08. (6) REVERT_GAP_END of a group whose flows have
  returned, with none of their class B cells left on the other group and the path difference and 2 µs passed since the last
  one: class B cells are held no more. (7) RX_HISTORY_CLEAR with D14 ready: the receive history is 0 in every context that is
  not free and whose path names only groups on which the flow cannot arrive. (8) REASSEMBLY_TIMEOUT of a flow with one cell
  of class B held, which came the reassembly limit (and for a duplicated flow the path difference) ago, with D14 ready: its
  frame is discarded, and counted as lost. (9) REASSEMBLY_TIMEOUT of a flow with one cell of class C held, whose release is
  at most 200 ns away, with D14 ready: its frame is late at the receiver, and counted as lost. Cites 09_timed_delivery.md,
  05_line_format.md, 10_redundancy_faults.md. -/
def Obligations.SlotsReleasesAndReassembly : Prop :=
  (∀ (g : Fin 2) (tk : Bool) (x : TCell), Happens (fun dt => .slotIssue dt g tk) (fun h => usableGroup h g = true ∧ h.ready
    14 = true ∧ wholeSlot ≤ (h.grp g).credit ∧ pickTimed ((h.grp g).revertAt != 0) (h.grp g).tq = some x ∧ (tk = true ∨
    (h.grp g).txRemap = none) ∧ ¬ (x.cls = 2 ∧ x.latest < h.dtime * 64)) (fun h u => let t := (((h.updGrp g fun x =>
    { x with credit := x.credit - wholeSlot }).setNum64 (GTH_SLOTS g) ((h.num64 (GTH_SLOTS g) + 1) % 2 ^ 64)).pmc (0x014 + 8
    * g)); u = issueTimed t g x)) ∧
  (∀ (g : Fin 2) (tk : Bool) (x : TCell), Happens (fun dt => .slotIssue dt g tk) (fun h => usableGroup h g = true ∧ h.ready
    14 = true ∧ wholeSlot ≤ (h.grp g).credit ∧ pickTimed ((h.grp g).revertAt != 0) (h.grp g).tq = some x ∧ (tk = true ∨
    (h.grp g).txRemap = none) ∧ x.cls = 2 ∧ x.latest < h.dtime * 64) (fun h u => let t := (((h.updGrp g fun x =>
    { x with credit := x.credit - wholeSlot }).setNum64 (GTH_SLOTS g) ((h.num64 (GTH_SLOTS g) + 1) % 2 ^ 64)).pmc (0x014 + 8
    * g)); u = (noteLateC (t.updGrp g fun y => { y with tq := y.tq.filter fun d => d.frame != x.frame }) g 0 x.flow).pmc
    (0x011 + 8 * g))) ∧
  (∀ g : Fin 2, Happens (fun dt => .slotIssue dt g true) (fun h => usableGroup h g = true ∧ h.ready 14 = true ∧ wholeSlot ≤
    (h.grp g).credit ∧ pickTimed ((h.grp g).revertAt != 0) (h.grp g).tq = none ∧ (h.grp g).be ≠ []) (fun h u => let t :=
    (((h.updGrp g fun x => { x with credit := x.credit - wholeSlot }).setNum64 (GTH_SLOTS g) ((h.num64 (GTH_SLOTS g) + 1) % 2
    ^ 64)).pmc (0x014 + 8 * g)); u = ((issueBest t g).pmc (0x010 + 8 * g)).pmc (0x021 + 8 * g))) ∧
  (∀ (g : Fin 2) (tk : Bool), Happens (fun dt => .slotIssue dt g tk) (fun h => usableGroup h g = true ∧ h.ready 14 = true ∧
    wholeSlot ≤ (h.grp g).credit ∧ pickTimed ((h.grp g).revertAt != 0) (h.grp g).tq = none ∧ (h.grp g).be = []) (fun h u =>
    let t := (((h.updGrp g fun x => { x with credit := x.credit - wholeSlot }).setNum64 (GTH_SLOTS g) ((h.num64 (GTH_SLOTS g)
    + 1) % 2 ^ 64)).pmc (0x014 + 8 * g)); u = t.pmc (0x012 + 8 * g))) ∧
  (∀ (p : Fin 8) (fr : Nat) (f : SkewFrame), Happens (fun dt => .classCRelease dt p fr) (fun h => nextRelease h p = some f ∧
    f.rel ≤ (h.dtime : Int) + 4 ∧ h.ready 14 = true ∧ htxRuns h p = true ∧ (h.port p).free ≤ h.dtime * 64 + fr) (fun h u =>
    let t := (({ h with tds := { h.tds with store := h.tds.store.erase f } } : Hw).cond (decide (64 * f.rel < ((h.port
    p).lastC : Int))) fun s => (s.count TDS_DISPLACED).raise 0x0A08 [p, f.flow, ((s.dtime : Int) - f.rel).toNat]); u =
    updPort ((htxSend t p (h.dtime * 64 + fr) f.bytes).pmc 0x041) p fun x => { x with lastC := x.free })) ∧
  (∀ g : Fin 2, Happens (fun dt => .revertGapEnd dt g) (fun h => (h.grp g).revertAt ≠ 0 ∧ ((h.grp (other g)).tq.any fun (x :
    TCell) => x.cls == 1 && prefers x.path g) = false ∧ (h.grp (other g)).txEndB + ((h.num (PWR_PATH_DLY (other g)) - h.num
    (PWR_PATH_DLY g)) / 64 + 2000) ≤ h.dtime) (fun h u => u = h.updGrp g fun x =>
    { x with revertAt := 0, tq := x.tq.map fun (d : TCell) => { d with gap := false } })) ∧
  (Happens .rxHistoryClear (fun h => h.ready 14 = true) (fun h u => u = h.flw.ctxs.foldl (fun (s : Hw) (x : Nat × Nat) => if
    cxState x.2 ≠ 0 && cxRxHist x.2 != 0 && pathDead s (cxPath x.2) then s.setCtx x.1 (cset x.2 20 32 0) else s) h)) ∧
  (∀ (i : Nat) (x : ACell), Happens (fun dt => .reassemblyTimeout dt i) (fun h => h.ready 14 = true ∧ (h.asm i).cells = [x] ∧
    cxClass x.cx = 1 ∧ x.time + (h.fld RDN_CFG_reasm_us * 1000 + (if cxPath x.cx = 4 then delayGap h else 0)) ≤ h.dtime) (fun
    h u => u = (dropFrame h i [x]).count RDN_FRAME_LOST)) ∧
  (∀ (i : Nat) (x : ACell), Happens (fun dt => .reassemblyTimeout dt i) (fun h => h.ready 14 = true ∧ (h.asm i).cells = [x] ∧
    cxClass x.cx = 2 ∧ x.moment ≤ (h.dtime : Int) + 200) (fun h u => u = (lateAtReceiver h x.grp i [x]).count
    RDN_FRAME_LOST))

/-- Of a request row a clause speaks wherever the request is taken up: it passes the checks, nothing refuses it and the
  domains it touches are ready; the request then completes with OK, or, where the clause says so, is accepted and waits. A
  clause with a list of subsystems and parts after keeps says besides that every other register word and every other part of
  the state is as it was. (1) RDN_CONFIG sets the revert time, the reassembly limit, the burst count and automatic joining.
  (2) RDN_LANE_SET of a group in P5, which sheds no lane or leaves the least number, and joins only lanes that the peer shows
  healthy and that do not retrain: the shed lanes are held and shed by hand, the joined ones neither, and the mask is asked
  to change by them. (3) RDN_REVERT of a group in P5 with its promise returns its rerouted flows, and changes nothing if none
  are rerouted. (4) Flows that return are rerouted no more, event 0x0B07 carries the group and the cause, and class B waits
  from now. (5) RDN_STATUS_READ returns the registers and counters and DTIME, and with bit 0 of its flags sets the counters
  to 0. (6) RDN_FAULT_INJECT in a group in P5 marks the lane failed until its time in ms has passed, abandons its retraining
  and declares it failed with cause 4. (7) GROUP_LOSS of a cause that holds, in P5 of a native mode: the group is in P1 with
  reason 10, lost is set, and its flows are rerouted, those of the other group no more where that group is in P5. (8)
  REVERT_HOLD_EXPIRY of a rerouted group in P5 that has had its promise for the revert time, which is not 0: its flows
  return, with cause 0. Cites 10_redundancy_faults.md, 05_line_format.md. -/
def Obligations.RedundancyRequestsAndReverts : Prop :=
  (RunsOk .rdnConfig opRdnConfig (fun _ _ => True) (fun b c e pl => e = (((b.setFld RDN_CFG_revert_s (u8 c.p 0)).setFld
    RDN_CFG_reasm_us (u8 c.p 1)).setFld RDN_CFG_burst_n (u8 c.p 2)).setFld RDN_CFG_auto_join (bit (u8 c.p 3) 0) ∧ pl = [])) ∧
  (RunsOk .rdnLaneSet opRdnLaneSet (fun b c => b.stage (u8 c.p 0) = 5 ∧ (u8 c.p 1 = 0 ∨ b.fld (LNK_CFG_min_lanes (u8 c.p 0))
    ≤ popCount 4 (b.txMask (u8 c.p 0)) - popCount 4 (b.txMask (u8 c.p 0) &&& u8 c.p 1)) ∧ ((bitsOf 4 (u8 c.p 2)).all fun p =>
    (b.grp (u8 c.p 0)).health.head?.any (fun (x : Nat × Nat) => hasBit x.1 p) && (Map.get none (b.grp (u8 c.p 0)).retrain
    p).isNone) = true) (fun b c e pl => pl = [] ∧ e = askMask ((b.setFld (heldFld (u8 c.p 0)) ((bitsOf 4 (u8 c.p 2)).foldl
    (fun m p => setBit m p false) ((bitsOf 4 (u8 c.p 1)).foldl (fun m p => setBit m p true) (b.fld (heldFld (u8 c.p
    0)))))).updGrp (u8 c.p 0) fun x =>
    { x with handShed := (bitsOf 4 (u8 c.p 2)).foldl (fun m p => setBit m p false) ((bitsOf 4 (u8 c.p 1)).foldl (fun m p => setBit m p true) x.handShed), sheds := (bitsOf 4 (u8 c.p 2)).foldl (fun m p => Map.put [] m p []) x.sheds })
    (u8 c.p 0) ((bitsOf 4 (u8 c.p 1)).map (fun p => MaskWant.mk p false 4 255) ++ (bitsOf 4 (u8 c.p 2)).map fun p =>
    MaskWant.mk p true 4 255))) ∧
  (RunsOk .rdnRevert opRdnRevert (fun b c => b.stage (u8 c.p 0) = 5 ∧ b.flag (promFld (u8 c.p 0)) = true) (fun b c e pl => e
    = b.cond (b.flag (reroutedFld (u8 c.p 0))) (fun s => revert s (u8 c.p 0) 1) ∧ pl = [])) ∧
  (∀ (h : Hw) (g k : Nat), revert h g k = ((h.setFld (reroutedFld g) 0).raise 0x0B07 [g, k]).updGrp g fun x =>
    { x with revertAt := h.dtime + 1 }) ∧
  (RunsOk .rdnStatusRead opRdnStatusRead (fun _ _ => True) (fun b c e pl => e = b.cond (hasBit (u8 c.p 0) 0) (fun s =>
    s.zeroRegs rdnCounters) ∧ pl = b.wordsAt ([RDN_CFG, RDN_STATUS, RDN_LATCH] ++ rdnCounters) ++ b.dtimeBytes)) ∧
  (RunsOk .rdnFaultInject opRdnFaultInject (fun b c => b.stage (u8 c.p 0) = 5) (fun b c e pl => pl = [] ∧ e = declareFail
    (abandonRetrain (b.updGrp (u8 c.p 0) fun x =>
    { x with inject := Map.put 0 x.inject (u8 c.p 1) (b.dtime + u16 c.p 2 * 1000000) }) (u8 c.p 0) (u8 c.p 1)) (u8 c.p 0) (u8
    c.p 1) 4)) ∧
  (∀ (g : Fin 2) (k : Fin 3), Happens (fun dt => .groupLoss dt g k) (fun h => lossCause h g k = true ∧ h.stage g = 5 ∧
    h.native g = true) (fun h u => keeps [0x02, 0x03, 0x04, 0x05, 0x06, 0x0B, 0x12] [.evr, .pwr, .lanes, .grps, .brc, .freeN,
    .out] h u ∧ u.stage g = 1 ∧ u.flag (lostFld g) = true ∧ u.flag (reroutedFld g) = true ∧ (h.stage (other g) = 5 → u.flag
    (reroutedFld (other g)) = false) ∧ u.fld (LNK_STATUS_reason g) = 10)) ∧
  (∀ (g : Fin 2) (t : Nat), Happens (fun dt => .revertHoldExpiry dt g) (fun h => (h.grp g).promSince = some t ∧ h.flag
    (reroutedFld g) = true ∧ h.fld RDN_CFG_revert_s ≠ 0 ∧ h.stage g = 5 ∧ t + h.fld RDN_CFG_revert_s * 1000000000 ≤ h.dtime)
    (fun h u => u = revert h g 0))

/-- Each clause says of the row it names, in every state and for all operands that meet the condition it names, that exec
  answers the next state that follows from the effect it names. (1) LANE_FAIL_DECLARE of a cause that holds on a lane of a
  group in P5 of a native mode: its retraining is abandoned, and the lane is declared failed. (2) FAULT_INJECT_END of an
  injected failure whose time has come: the failure is over, and its lane last had a cause now. (3) LANE_HEALTH_RECEIVED in
  P5 of a native mode: the peer's failed lanes are shown, the message is kept beside the one before, active lanes that both
  show failed are asked to leave, and lanes that qualify are asked to join. (4) LANE_HEALTH_PERIOD in P5 of a native mode
  sends LANE_HEALTH. (5) REMAP_RECEIVED in P5 of a native mode, of a generation neither in force nor pending, whose point has
  not passed, for another reason than the peer's own receiver: REMAP_ACK accepts it, and it is pending. (6) REMAP_RECEIVED of
  such a generation for that reason: REMAP_ACK accepts it and it is pending, or refuses it if its point has passed; and the
  lanes that it drops and that this direction has not been asked to drop leave this direction too. (7) REMAP_RECEIVED in P5
  of a native mode, of a generation in force or pending, is only answered again; of another one whose point has passed, for
  another reason, REMAP_ACK refuses it. (8) REMAP_ACK_RECEIVED of a generation ends the waits for it and no other. (9)
  REMAP_ACK_TIMEOUT: for every REMAP sent twice the path delay and 100 µs ago or longer the wait ends, is counted, and event
  0x0B06 carries group, generation and mask. Cites 05_line_format.md, 10_redundancy_faults.md. -/
def Obligations.LaneHealthAndRemaps : Prop :=
  (∀ (n : Fin 8) (cs cw : Nat), Happens (fun dt => .laneFailDeclare dt n cs cw) (fun h => h.stage (laneGroup n) = 5 ∧
    h.native (laneGroup n) = true ∧ failCause h (laneGroup n) (n % 4) cs cw = true) (fun h u => u = declareFail
    (abandonRetrain h (laneGroup n) (n % 4)) (laneGroup n) (n % 4) cs)) ∧
  (∀ n : Fin 8, Happens (fun dt => .faultInjectEnd dt n) (fun h => Map.get 0 (h.grp (laneGroup n)).inject (n % 4) ≠ 0 ∧
    Map.get 0 (h.grp (laneGroup n)).inject (n % 4) ≤ h.dtime) (fun h u => u = h.updGrp (laneGroup n) fun x =>
    { x with inject := Map.put 0 x.inject (n % 4) 0, causeAt := Map.put 0 x.causeAt (n % 4) (h.dtime + 1) })) ∧
  (∀ (g : Fin 2) (a f : Nat), Happens (fun dt => .laneHealthReceived dt g a f) (fun h => h.stage g = 5 ∧ h.native g = true)
    (fun h u => let t := ((h.setFld (peerFailFld g) f).updGrp g fun x =>
    { x with health := ((a % 16, f % 16) :: x.health).take 2 }); let gone := ((bitsOf 4 (f &&& ((h.grp g).health.head?.map
    Prod.snd).getD 0)).filter fun p => hasBit (t.txMask g) p); let v := (t.cond (!gone.isEmpty) fun s => askMask s g
    (gone.map fun p => MaskWant.mk p false 1 255)); u = v.cond (v.stage g == 5) fun s => s.cond (!((List.range 4).filter fun
    p => mayJoin s g p).isEmpty) fun s => askMask s g (((List.range 4).filter fun p => mayJoin s g p).map fun p =>
    MaskWant.mk p true 3 255))) ∧
  (∀ g : Fin 2, Happens (fun dt => .laneHealthPeriod dt g) (fun h => h.stage g = 5 ∧ h.native g = true) (fun h u => u =
    sendHealth h g)) ∧
  (∀ (g : Fin 2) (ge m fr q rs : Nat), Happens (fun dt => .remapReceived dt g ge m fr q rs) (fun h => h.stage g = 5 ∧
    h.native g = true ∧ (decide (ge = (h.grp g).rxGen) || (h.grp g).rxRemap.any fun (r : Remap) => r.gen == ge) = false ∧
    (frameAfter (h.num64 (LFM_FRAMES g)) fr && (h.num64 (LFM_FRAMES g) != fr || decide (q < rxQ h g))) = false ∧ rs ≠ 2) (fun
    h u => u = (sendFour h g 0x0003 (ackMask h g m) (toBE 1 ge ++ toBE 1 m ++ toBE 1 0)).updGrp g (fun x =>
    { x with rxRemap := some (Remap.mk ge m fr q rs h.dtime) }))) ∧
  (∀ (g : Fin 2) (ge m fr q rs : Nat), Happens (fun dt => .remapReceived dt g ge m fr q rs) (fun h => h.stage g = 5 ∧
    h.native g = true ∧ (decide (ge = (h.grp g).rxGen) || (h.grp g).rxRemap.any fun (r : Remap) => r.gen == ge) = false ∧ rs
    = 2) (fun h u => let t := (((sendFour h g 0x0003 (ackMask h g m) (toBE 1 ge ++ toBE 1 m ++ toBE 1 (if (frameAfter
    (h.num64 (LFM_FRAMES g)) fr && (h.num64 (LFM_FRAMES g) != fr || decide (q < rxQ h g))) then 1 else 0))).cond
    (!(frameAfter (h.num64 (LFM_FRAMES g)) fr && (h.num64 (LFM_FRAMES g) != fr || decide (q < rxQ h g)))) fun s => s.updGrp g
    (fun x => { x with rxRemap := some (Remap.mk ge m fr q rs h.dtime) }))); let gone := ((bitsOf 4 (t.txMask g)).filter fun
    p => hasBit (t.rxMask g) p && !hasBit m p && !((t.grp g).wants.any (fun (w : MaskWant) => !w.join && w.lane == p) ||
    (t.grp g).txRemap.any fun (r : Remap) => !hasBit r.mask p)); u = (if gone.isEmpty then t else askMask t g (gone.map fun p
    => MaskWant.mk p false 1 255)))) ∧
  (∀ (g : Fin 2) (ge m fr q rs : Nat), Happens (fun dt => .remapReceived dt g ge m fr q rs) (fun h => h.stage g = 5 ∧
    h.native g = true ∧ ((decide (ge = (h.grp g).rxGen) || (h.grp g).rxRemap.any fun (r : Remap) => r.gen == ge) = true ∨
    (frameAfter (h.num64 (LFM_FRAMES g)) fr && (h.num64 (LFM_FRAMES g) != fr || decide (q < rxQ h g))) = true ∧ rs ≠ 2)) (fun
    h u => u = sendFour h g 0x0003 (ackMask h g m) (toBE 1 ge ++ toBE 1 m ++ toBE 1 (if (decide (ge = (h.grp g).rxGen) ||
    (h.grp g).rxRemap.any fun (r : Remap) => r.gen == ge) = false ∧ (frameAfter (h.num64 (LFM_FRAMES g)) fr && (h.num64
    (LFM_FRAMES g) != fr || decide (q < rxQ h g))) = true then 1 else 0)))) ∧
  (∀ (g : Fin 2) (ge : Nat), Happens (fun dt => .remapAckReceived dt g ge) (fun _ => True) (fun h u => u = h.updGrp g (fun x
    => { x with noAck := x.noAck.filter fun r => r.gen != ge }))) ∧
  (∀ g : Fin 2, Happens (fun dt => .remapAckTimeout dt g) (fun _ => True) (fun h u => let late := (fun (r : Remap) => decide
    (r.sentAt + 2 * (h.num (PWR_PATH_DLY g) / 64) + 100000 ≤ h.dtime)); u = ((h.grp g).noAck.filter late).foldl (fun (s : Hw)
    (r : Remap) => (s.count RDN_NOACK).raise 0x0B06 [g, r.gen, r.mask]) (h.updGrp g fun x =>
    { x with noAck := x.noAck.filter fun r => !late r })))

/-- Of a request row a clause speaks wherever the request is taken up: it passes the checks, nothing refuses it and the
  domains it touches are ready; the request then completes with OK, or, where the clause says so, is accepted and waits. (1)
  FES_CONFIG of a unit in DARK that does not move writes its outputs, chip select, loops, windows, flags and open code, the
  fields of the unit's four map words that the parameters give, in their order; and an output named as bias or second drive
  goes to its safe code. (2) FES_STATE_SET whose units are wired if the target is above DARK and have their tables if it is
  above WARM, and are all at that target once it is set: the target of each is set, and the request completes. (3)
  FES_STATE_SET likewise, with a unit not at that target: the targets are set and the request waits for its units, its
  deadline its parameter, or FES_CFG.deadline where that is 0. (4) Setting targets: each unit of the mask (of the units 0 to
  11) has the target afterwards, has neither failed nor turned, and is held exactly if the target is LIT or higher and it has
  no lock; the target field of a unit outside the mask stays. (5) FES_STEP_SET of units that have their tables sets the step
  target of each, of a transmitter at most its last valid entry. (6) FES_TURN of protection lanes requests the turn of each,
  and returns DTIME. (7) A turn requested: the stamp is DTIME; where the lane is ready for its turn it moves toward EMIT from
  now, or from the moment of the turn under way; otherwise turn_missed is latched and event 0x0D05 carries the lane and cause
  1. (8) FES_FAULT_CLEAR clears the fault of each of its units; one with an output that is still flagged, or an entry of its
  table that is still uncorrectable, has its fault set again at once, with that cause. (9) FES_STATUS_READ returns state,
  latch and settle time of each of its units, then DTIME, and changes nothing. Cites 11_front_end_sequencer.md. -/
def Obligations.FrontEndRequests : Prop :=
  (RunsOk .fesConfig opFesConfig (fun b c => b.fstate (u8 c.p 0) = 0 ∧ b.flag (FES_STATE_moving (u8 c.p 0)) = false) (fun b c
    e pl => e = safeNamed ((((((((((((b.setFld (FES_MAP0_bias_out (u8 c.p 0)) (u8 c.p 1)).setFld (FES_MAP0_gate_out (u8 c.p
    0)) (u8 c.p 2)).setFld (FES_MAP0_drive2_out (u8 c.p 0)) (u8 c.p 3)).setFld (FES_MAP0_spi_cs (u8 c.p 0)) (u8 c.p
    4)).setFld (FES_MAP1_tec_loop (u8 c.p 0)) (u8 c.p 5)).setFld (FES_MAP1_lock_loop (u8 c.p 0)) (u8 c.p 6)).setFld
    (FES_MAP1_temp_win (u8 c.p 0)) (u8 c.p 7)).setFld (FES_MAP1_lock_win (u8 c.p 0)) (u8 c.p 8)).setFld (FES_MAP2_step_src
    (u8 c.p 0)) (bit (u8 c.p 9) 0)).setFld (FES_MAP2_protect (u8 c.p 0)) (bit (u8 c.p 9) 1)).setFld (FES_MAP2_turn_trig (u8
    c.p 0)) (bit (u8 c.p 9) 2)).setFld (FES_MAP3_gate_open (u8 c.p 0)) (u16 c.p 10)) (u8 c.p 0) ∧ pl = [])) ∧
  (RunsOk .fesStateSet opFesStateSet (fun b c => (u8 c.p 2 = 0 ∨ (bitsOf 12 (u16 c.p 0)).all (fun u => wired b u) = true) ∧
    (u8 c.p 2 ≤ 1 ∨ (bitsOf 12 (u16 c.p 0)).all (fun u => tableOk b u) = true) ∧ (bitsOf 12 (u16 c.p 0)).all (fun u =>
    reached (setTargets { b with pwr := { b.pwr with setSince := b.pwr.setSince ||| u16 c.p 0 } } (u16 c.p 0) (u8 c.p 2)) u)
    = true) (fun b c e pl => pl = [] ∧ e = setTargets
    { b with pwr := { b.pwr with setSince := b.pwr.setSince ||| u16 c.p 0 } } (u16 c.p 0) (u8 c.p 2))) ∧
  (RunsOn .fesStateSet opFesStateSet (fun b c => (u8 c.p 2 = 0 ∨ (bitsOf 12 (u16 c.p 0)).all (fun u => wired b u) = true) ∧
    (u8 c.p 2 ≤ 1 ∨ (bitsOf 12 (u16 c.p 0)).all (fun u => tableOk b u) = true) ∧ (bitsOf 12 (u16 c.p 0)).all (fun u =>
    reached (setTargets { b with pwr := { b.pwr with setSince := b.pwr.setSince ||| u16 c.p 0 } } (u16 c.p 0) (u8 c.p 2)) u)
    = false) (fun b c e w => e = setTargets { b with pwr := { b.pwr with setSince := b.pwr.setSince ||| u16 c.p 0 } } (u16
    c.p 0) (u8 c.p 2) ∧ w = Wait.fesState (u16 c.p 0) (if u16 c.p 3 = 0 then b.fld FES_CFG_deadline else u16 c.p 3)
    (units12.map fun u => b.fld (FES_STATE_target u)))) ∧
  (∀ (h : Hw) (m t n : Nat), t < 8 → n < 12 → (hasBit m n = true → (setTargets h m t).fld (FES_STATE_target n) = t ∧
    ((setTargets h m t).fesu n).failed = false ∧ ((setTargets h m t).fesu n).turned = false ∧ (setTargets h m t).flag
    (FES_STATE_held n) = (decide (2 ≤ t) && !h.flag (FES_STATE_lock n))) ∧ (hasBit m n = false → (setTargets h m t).fld
    (FES_STATE_target n) = h.fld (FES_STATE_target n))) ∧
  (RunsOk .fesStepSet opFesStepSet (fun b c => (bitsOf 12 (u16 c.p 0)).all (fun u => tableOk b u) = true) (fun b c e pl => pl
    = [] ∧ e = b.each (bitsOf 12 (u16 c.p 0)) fun u s => s.updFes u fun x =>
    { x with stgt := if u < 8 then min (u8 c.p 2) (lastStep s u) else u8 c.p 2 })) ∧
  (RunsOk .fesTurn opFesTurn (fun b c => (bitsOf 8 (u16 c.p 0)).all (fun n => b.flag (FES_MAP2_protect n)) = true) (fun b c e
    pl => pl = b.dtimeBytes ∧ e = b.each (bitsOf 8 (u16 c.p 0)) requestTurn)) ∧
  (∀ (h : Hw) (n : Nat), n < 8 → requestTurn n h = (let s := ((h.setNum64 (FES_TURN_T n) (h.dtime % 2 ^ 64)).updFes n fun x
    => { x with turned := true, reqAt := some h.dtime }); if turnReady h n = true then (s.setFld (FES_STATE_moving n)
    1).updFes n fun x => { x with turn := some (x.turn.getD h.dtime), toward := 4 } else (s.setFld (FES_LATCH_turn_missed n)
    1).raise 0x0D05 [n, 1])) ∧
  (RunsOk .fesFaultClear opFesFaultClear (fun _ _ => True) (fun b c e pl => pl = [] ∧ e = b.each (bitsOf 12 (u16 c.p 0)) fun
    u s => (faultCause (s.setFld (FES_STATE_fault u) 0) u).elim (s.setFld (FES_STATE_fault u) 0) (fun x => setFault (s.setFld
    (FES_STATE_fault u) 0) u x.1 x.2))) ∧
  (RunsOk .fesStatusRead opFesStatusRead (fun _ _ => True) (fun b c e pl => e = b ∧ pl = b.wordsAt ((bitsOf 12 (u16 c.p
    0)).flatMap fun u => [FES_STATE u, FES_LATCH u, FES_SETTLE u]) ++ b.dtimeBytes))

/-- Each clause says of the row it names, in every state and for all operands that meet the condition it names, that exec
  answers the next state that follows from the effect it names. Of a request row a clause speaks wherever the request is
  taken up: it passes the checks, nothing refuses it and the domains it touches are ready; the request then completes with
  OK, or, where the clause says so, is accepted and waits. (1) FES_TABLE_LOAD, not the last part, of a unit in DARK or WARM
  writes the words of its entries. (2) FES_TABLE_LOAD, the last part, of such a unit, whose table is then whole and without
  fault: the words are written, the table is declared, and event 0x0C07 carries its number and the number of its
  uncorrectable entries before. (3) FES_HOOK_LOAD for a unit in DARK that does not move sets the hook frames of the move that
  it names, from DARK (0) or to DARK (1). (4) FES_SPI_XFER with the FESPI master idle: its bytes go out on its chip select,
  and as many free bytes are returned. (5) FES_SPI_XFER with the master busy waits: its frame stands behind the frame that
  runs and the host frames that wait, and before the hook frames that wait. (6) HOOK_FRAME_DONE of a frame that is not
  verified or reads back what it wants, the last of its move, with D15 ready: the unit's frames have run, and the master goes
  on. (7) HOOK_FRAME_DONE of such a frame with others behind it: the next frame of the move is the master's. (8)
  HOOK_FRAME_DONE of a verified frame that reads back something else: the unit's frames are dropped, its fault is set with
  cause 2 and the number of the frame, and the master goes on. Cites 11_front_end_sequencer.md. -/
def Obligations.FrontEndTablesAndHooks : Prop :=
  (RunsOk .fesTableLoad opFesTableLoad (fun b c => b.fstate (u8 c.p 0) ≤ 1 ∧ hasBit (u8 c.p 3) 0 = false) (fun b c e pl => pl
    = [] ∧ e = putWords b (FES_STEPTAB (u8 c.p 0) (2 * u8 c.p 1)) (tableVals c.p))) ∧
  (RunsOk .fesTableLoad opFesTableLoad (fun b c => b.fstate (u8 c.p 0) ≤ 1 ∧ hasBit (u8 c.p 3) 0 = true ∧ coverFull (putWords
    b (FES_STEPTAB (u8 c.p 0) (2 * u8 c.p 1)) (tableVals c.p)) (7 + u8 c.p 0) = true ∧ tableFault (putWords b (FES_STEPTAB
    (u8 c.p 0) (2 * u8 c.p 1)) (tableVals c.p)) (u8 c.p 0) = none) (fun b c e pl => pl = [] ∧ e = (setDeclared (putWords b
    (FES_STEPTAB (u8 c.p 0) (2 * u8 c.p 1)) (tableVals c.p)) (7 + u8 c.p 0) true).raise 0x0C07 [7 + u8 c.p 0, Map.get 0
    b.mem.preN (7 + u8 c.p 0)])) ∧
  (RunsOk .fesHookLoad opFesHookLoad (fun b c => b.fstate (u8 c.p 0) = 0 ∧ b.flag (FES_STATE_moving (u8 c.p 0)) = false) (fun
    b c e pl => pl = [] ∧ e = b.updFes (u8 c.p 0) fun x => if u8 c.p 1 = 0 then
    { x with up := (List.range (u8 c.p 2)).map (hookOf c.p) } else
    { x with down := (List.range (u8 c.p 2)).map (hookOf c.p) })) ∧
  (RunsOk .fesSpiXfer opFesSpiXfer (fun b _ => b.fesq.jobs = []) (fun b c e pl => e = (freeBytes (c.p.drop 2).length (spiSend
    b (u8 c.p 0) (c.p.drop 2))).2 ∧ pl = (freeBytes (c.p.drop 2).length (spiSend b (u8 c.p 0) (c.p.drop 2))).1)) ∧
  (∀ (j : SpiJob) (rest : List SpiJob), RunsOn .fesSpiXfer opFesSpiXfer (fun b _ => b.fesq.jobs = j :: rest) (fun b c e w =>
    w = Wait.fesSpi ∧ e =
    { b with fesq := { b.fesq with jobs := j :: ((rest.filter fun (x : SpiJob) => x.unit.isNone) ++ [SpiJob.mk none c.idx 0 [HookFrame.mk (u8 c.p 0) false (c.p.drop 2) []]] ++ rest.filter fun (x : SpiJob) => x.unit.isSome) } })) ∧
  (∀ (rd : Bytes) (n ix dn : Nat) (f : HookFrame) (fs : List HookFrame) (rest : List SpiJob), Happens (fun dt =>
    .hookFrameDone dt rd) (fun h => h.ready 15 = true ∧ h.fesq.jobs = SpiJob.mk (some n) ix dn (f :: fs) :: rest ∧ (f.verify
    = false ∨ rd = f.want) ∧ fs = []) (fun h u => u = spiRun (dropHooks { h with fesq := { h.fesq with jobs := rest } } n))) ∧
  (∀ (rd : Bytes) (n ix dn : Nat) (f : HookFrame) (fs : List HookFrame) (rest : List SpiJob), Happens (fun dt =>
    .hookFrameDone dt rd) (fun h => h.ready 15 = true ∧ h.fesq.jobs = SpiJob.mk (some n) ix dn (f :: fs) :: rest ∧ (f.verify
    = false ∨ rd = f.want) ∧ fs ≠ []) (fun h u => u = spiRun
    { h with fesq := { h.fesq with jobs := SpiJob.mk (some n) ix (dn + 1) fs :: rest } })) ∧
  (∀ (rd : Bytes) (n ix dn : Nat) (f : HookFrame) (fs : List HookFrame) (rest : List SpiJob), Happens (fun dt =>
    .hookFrameDone dt rd) (fun h => h.ready 15 = true ∧ h.fesq.jobs = SpiJob.mk (some n) ix dn (f :: fs) :: rest ∧ f.verify =
    true ∧ rd ≠ f.want) (fun h u => u = spiRun (setFault (dropHooks { h with fesq := { h.fesq with jobs := rest } } n) n 2
    dn)))

/-- (1) FES_MOVE_DONE of a moving unit whose hook frames have run, which does not turn, has lock if it goes from WARM to LIT,
  and has lock, temp_ok and no fault if it goes to EMIT, with D15 ready: it arrives in the state it moves toward. (2) A unit
  that arrives below EMIT is in that state and moves no more; in DARK it has neither temp_ok nor lock. (3) STEP_RAMP_UPDATE
  when the next microsecond of a ramp between two correct entries has passed and the ramp ends, with D15 ready: the step is
  the neighbour, its codes are driven, and no ramp runs. (4) STEP_RAMP_UPDATE when that microsecond has passed and the ramp
  goes on, with D15 ready: bias and second drive are at their codes k of n parts of the way, and one more microsecond is
  counted. (5) STEP_RAMP_UPDATE when that microsecond has passed and one of the two entries is uncorrectable, with D15 ready:
  the unit's fault is set with cause 3 and that entry. (6) A code part of the way is the line's value where that is whole,
  and where it lies between two codes one of the two, taken free. (7) TRIG_IN_TURN with D15 ready requests the turn of every
  protection lane with turn_trig. (8) TURN_COMPLETE at least 3.95 µs after the stamp of a turn, with lock, temp_ok, no fault
  and D15 ready: the unit arrives in EMIT. (9) For the units 0 to 11: a unit's gate is wanted open only in EMIT with lock
  declared, temp_ok 1 and no fault. (10) The end of a move and the end of a turn bring a unit from another state to EMIT only
  with lock declared, temp_ok 1 and no fault. (11) A wired gate that is not wanted open is set to its output's safe code,
  with D15 ready and the output not changing its range. Cites 11_front_end_sequencer.md. -/
def Obligations.FrontEndMovesTurnsAndGates : Prop :=
  (∀ n : Fin 12, Happens (fun dt => .fesMoveDone dt n) (fun h => h.ready 15 = true ∧ h.flag (FES_STATE_moving n) = true ∧
    (h.fesu n).hooking = false ∧ (h.fesu n).turn = none ∧ ((h.fesu n).toward = 2 → h.fstate n = 1 → h.flag (FES_STATE_lock n)
    = true) ∧ ((h.fesu n).toward < 4 ∨ (h.flag (FES_STATE_lock n) = true ∧ h.flag (FES_STATE_temp_ok n) = true ∧ h.flag
    (FES_STATE_fault n) = false))) (fun h u => u = arrive h n (h.fesu n).toward)) ∧
  (∀ (h : Hw) (n k : Nat), n < 12 → k < 4 → (arrive h n k).fstate n = k ∧ (arrive h n k).flag (FES_STATE_moving n) = false ∧
    (k = 0 → (arrive h n k).flag (FES_STATE_temp_ok n) = false ∧ (arrive h n k).flag (FES_STATE_lock n) = false)) ∧
  (∀ (n : Fin 12) (j k : Nat), Happens (fun dt => .stepRampUpdate dt n) (fun h => h.ready 15 = true ∧ (h.fesu n).ramp = some
    (j, k) ∧ (h.fesu n).rampAt + (k + 1) * 1000 ≤ h.dtime ∧ [h.fld (FES_STATE_step n), j].find? (stepPoisoned h n) = none ∧
    rampTime h n (h.fld (FES_STATE_step n)) j ≤ k + 1) (fun h u => u = applyStep ((h.updFes n fun x =>
    { x with ramp := none, stepAt := some h.dtime }).setFld (FES_STATE_step n) j) n)) ∧
  (∀ (n : Fin 12) (j k : Nat), Happens (fun dt => .stepRampUpdate dt n) (fun h => h.ready 15 = true ∧ (h.fesu n).ramp = some
    (j, k) ∧ (h.fesu n).rampAt + (k + 1) * 1000 ≤ h.dtime ∧ [h.fld (FES_STATE_step n), j].find? (stepPoisoned h n) = none ∧ k
    + 1 < rampTime h n (h.fld (FES_STATE_step n)) j) (fun h u => let m := (rampTime h n (h.fld (FES_STATE_step n)) j); let x
    := (onLine h (stepBias h n (h.fld (FES_STATE_step n))) (stepBias h n j) (k + 1) m); let y := (onLine x.2 (stepDrive2 h n
    (h.fld (FES_STATE_step n))) (stepDrive2 h n j) (k + 1) m); u = (writeDrives y.2 n x.1 y.1).updFes n fun x =>
    { x with ramp := some (j, k + 1) })) ∧
  (∀ (n : Fin 12) (j k e : Nat), Happens (fun dt => .stepRampUpdate dt n) (fun h => h.ready 15 = true ∧ (h.fesu n).ramp =
    some (j, k) ∧ (h.fesu n).rampAt + (k + 1) * 1000 ≤ h.dtime ∧ [h.fld (FES_STATE_step n), j].find? (stepPoisoned h n) =
    some e) (fun h u => u = setFault h n 3 e)) ∧
  (∀ (h : Hw) (a c k n : Nat), 0 < n → k ≤ n → (let v := (a * (n - k) + c * k); (v % n = 0 → onLine h a c k n = (v / n, h)) ∧
    ((onLine h a c k n).1 = v / n ∨ (onLine h a c k n).1 = v / n + 1))) ∧
  (Happens .trigInTurn (fun h => h.ready 15 = true) (fun h u => u = h.each ((List.range 8).filter fun n => h.flag
    (FES_MAP2_protect n) && h.flag (FES_MAP2_turn_trig n)) requestTurn)) ∧
  (∀ (n : Fin 12) (t : Nat), Happens (fun dt => .turnComplete dt n) (fun h => h.ready 15 = true ∧ (h.fesu n).turn = some t ∧
    t + 3950 ≤ h.dtime ∧ h.flag (FES_STATE_lock n) = true ∧ h.flag (FES_STATE_temp_ok n) = true ∧ h.flag (FES_STATE_fault n)
    = false) (fun h u => u = arrive h n 4)) ∧
  (∀ (h : Hw) (n : Nat), n < 12 → gateWanted h n = true → h.fstate n = 4 ∧ h.flag (FES_STATE_lock n) = true ∧ h.flag
    (FES_STATE_temp_ok n) = true ∧ h.flag (FES_STATE_fault n) = false) ∧
  (∀ (h : Hw) (n : Nat), n < 12 → h.fstate n ≠ 4 → (fesMoveDone n h).fstate n = 4 ∨ (turnComplete n h).fstate n = 4 → h.flag
    (FES_STATE_lock n) = true ∧ h.flag (FES_STATE_temp_ok n) = true ∧ h.flag (FES_STATE_fault n) = false) ∧
  (∀ (h : Hw) (n : Nat), n < 12 → h.fld (FES_MAP0_gate_out n) < 24 → h.ready 15 = true → h.flag (AOU_OSTAT_ranging (h.fld
    (FES_MAP0_gate_out n))) = false → gateWanted h n = false → ((settleGate n h).aouOut (h.fld (FES_MAP0_gate_out
    n))).gate.getD ((settleGate n h).aouOut (h.fld (FES_MAP0_gate_out n))).want = h.fld (AOU_OCFG_safe (h.fld
    (FES_MAP0_gate_out n))))

/-- (1) TEMP_OK, in the window, of a unit with a temperature loop that is not DARK, has no temp_ok and whose error has been
  in the window for 500 µs, with D15 ready: temp_ok is set, the settle time in ms is noted where it is awaited, and a unit
  without a lock loop of its own has lock declared. (2) TEMP_OK, outside the window, of a unit with a temperature loop that
  is not DARK, has temp_ok and whose error has been outside the window for 10 µs, with D15 ready: temp_ok clears, and with it
  lock, if the unit has it. (3) LOCK_DECLARED of a unit with a lock loop of its own, not DARK, with temp_ok, without lock and
  with its lock error in the window for 500 µs, with D15 ready: lock is declared. (4) Declaring lock sets lock, ends the hold
  and notes DTIME; a unit on its way from WARM to LIT arrives in LIT. (5) FES_LOCK_LOST of a unit with a lock loop of its own
  and lock, whose error has been outside the window for 10 µs, with D15 ready: lock is lost. (6) Lock lost in EMIT outside a
  turn clears lock, latches lock_lost, and event 0x0D02 carries the unit, its temp_ok and its lock error; lost during a turn,
  it ends the turn with event 0x0D05 and cause 2. (7) LOCK_DEADLINE_EXPIRY of a held unit that has begun its move to LIT or
  is above WARM, whose command's deadline has passed, with D15 ready: its hold ends and it has failed, event 0x0D01 carries
  the unit, its lock error and the time since the request in µs, not_locked is latched, and its target falls to LIT if it was
  higher. (8) SETTLE_MAX_EXPIRY of a unit settling in WARM for settle_max or longer without temp_ok, not reported in this
  stay, with D15 ready: settle_over is latched, event 0x0D04 carries the unit and its temperature error, and a held command
  fails as at a deadline, its target kept. (9) FES_FAULT of cause 2 or 3, with D15 ready, sets the unit's fault with that
  cause. (10) FES_FAULT of cause 1, with D15 ready, of an output that the unit names and that is flagged, sets its fault with
  that output. (11) Setting a fault: a unit with a fault keeps it and nothing changes; otherwise fault and its latch are set,
  a transmitter's lane has its CMIS fault latched, no ramp runs, event 0x0D03 carries unit, cause and number, and the gate
  follows. Cites 11_front_end_sequencer.md. -/
def Obligations.TemperatureLockAndFaults : Prop :=
  (∀ n : Fin 12, Happens (fun dt => .tempOk dt n true) (fun h => h.ready 15 = true ∧ h.fld (FES_MAP1_tec_loop n) ≠ 255 ∧
    h.fstate n ≠ 0 ∧ h.flag (FES_STATE_temp_ok n) = false ∧ tempStayedIn h n = true) (fun h u => let s := (((h.setFld
    (FES_STATE_temp_ok n) 1).setFld (FES_SETTLE_ms n) (((h.fesu n).warmAt.map fun t => min ((h.dtime - t) / 10 ^ 6)
    65535).getD (h.fld (FES_SETTLE_ms n)))).updFes n fun x => { x with warmAt := none }); u = s.cond (!ownLock s n) fun s =>
    declareLock s n)) ∧
  (∀ n : Fin 12, Happens (fun dt => .tempOk dt n false) (fun h => h.ready 15 = true ∧ h.fld (FES_MAP1_tec_loop n) ≠ 255 ∧
    h.fstate n ≠ 0 ∧ h.flag (FES_STATE_temp_ok n) = true ∧ tempStayedOut h n = true) (fun h u => u = (h.setFld
    (FES_STATE_temp_ok n) 0).cond ((h.setFld (FES_STATE_temp_ok n) 0).flag (FES_STATE_lock n)) fun s => loseLock s n)) ∧
  (∀ n : Fin 12, Happens (fun dt => .lockDeclared dt n) (fun h => h.ready 15 = true ∧ 1 ≤ h.fstate n ∧ ownLock h n = true ∧
    h.flag (FES_STATE_temp_ok n) = true ∧ h.flag (FES_STATE_lock n) = false ∧ lockStayedIn h n = true) (fun h u => u =
    declareLock h n)) ∧
  (∀ (h : Hw) (n : Nat), n < 12 → declareLock h n = (let s := (((h.setFld (FES_STATE_lock n) 1).setFld (FES_STATE_held n)
    0).updFes n fun x => { x with lockAt := h.dtime, lost := false }); s.cond (s.flag (FES_STATE_moving n) && s.fstate n == 1
    && (s.fesu n).toward == 2) fun s => arrive s n 2)) ∧
  (∀ n : Fin 12, Happens (fun dt => .fesLockLost dt n) (fun h => h.ready 15 = true ∧ ownLock h n = true ∧ h.flag
    (FES_STATE_lock n) = true ∧ lockStayedOut h n = true) (fun h u => u = loseLock h n)) ∧
  (∀ (h : Hw) (n : Nat), n < 12 → ((h.fesu n).turn = none → h.fstate n = 4 → loseLock h n = (let s := (h.setFld
    (FES_STATE_lock n) 0); ((s.setFld (FES_LATCH_lock_lost n) 1).updFes n fun x => { x with lost := true }).raise 0x0D02 [n,
    h.fld (FES_STATE_temp_ok n), errParam (lockErr h n)])) ∧ ((h.fesu n).turn ≠ none → h.fstate n ≠ 4 → loseLock h n =
    (((h.setFld (FES_STATE_lock n) 0).setFld (FES_STATE_moving n) 0).updFes n fun x =>
    { x with turn := none, turned := false }).raise 0x0D05 [n, 2])) ∧
  (∀ n : Fin 12, Happens (fun dt => .lockDeadlineExpiry dt n) (fun h => h.ready 15 = true ∧ h.flag (FES_STATE_held n) = true
    ∧ ((h.fesu n).litAt ≠ none ∨ 2 ≤ h.fstate n) ∧ deadlinePast h n = true) (fun h u => let s := (((((h.setFld
    (FES_STATE_held n) 0).updFes n fun x => { x with failed := true }).raise 0x0D01 [n, errParam (lockErr h n), heldFor h
    n]).setFld (FES_LATCH_not_locked n) 1)); u = s.setFld (FES_STATE_target n) (min (s.fld (FES_STATE_target n)) 2))) ∧
  (∀ (n : Fin 12) (t : Nat), Happens (fun dt => .settleMaxExpiry dt n) (fun h => h.ready 15 = true ∧ h.fstate n = 1 ∧ (h.fesu
    n).warmAt = some t ∧ t + h.fld FES_CFG_settle_max * 10 ^ 6 ≤ h.dtime ∧ (h.fesu n).settled = false ∧ h.flag
    (FES_STATE_temp_ok n) = false) (fun h u => let s := (((h.setFld (FES_LATCH_settle_over n) 1).updFes n fun x =>
    { x with settled := true }).raise 0x0D04 [n, errParam (tecErr h n)]); u = s.cond (h.flag (FES_STATE_held n)) fun s =>
    ((s.setFld (FES_STATE_held n) 0).updFes n fun x => { x with failed := true }).raise 0x0D01 [n, errParam (lockErr h n),
    heldFor h n])) ∧
  (∀ (n : Fin 12) (k w : Nat), Happens (fun dt => .fesFault dt n k w) (fun h => h.ready 15 = true ∧ (k = 2 ∨ k = 3)) (fun h u
    => u = setFault h n k w)) ∧
  (∀ (n : Fin 12) (w : Nat), Happens (fun dt => .fesFault dt n 1 w) (fun h => h.ready 15 = true ∧ fesNames h n w = true ∧ w <
    24 ∧ h.flag (AOU_OSTAT_comp w) = true) (fun h u => u = setFault h n 1 w)) ∧
  (∀ (h : Hw) (n k w : Nat), n < 12 → (h.flag (FES_STATE_fault n) = true → setFault h n k w = h) ∧ (h.flag (FES_STATE_fault
    n) = false → setFault h n k w = settleGate n (((((h.setFld (FES_STATE_fault n) 1).setFld (FES_LATCH_fault n) 1).updFes n
    fun x => { x with ramp := none }).cond (decide (n < 8)) (fun s => s.latchFault n) |>.setFld (FES_STATE_ramping n)
    0).raise 0x0D03 [n, k, w])))

/-- Each clause says of the row it names, in every state and for all operands that meet the condition it names, that exec
  answers the next state that follows from the effect it names. Of a request row a clause speaks wherever the request is
  taken up: it passes the checks, nothing refuses it and the domains it touches are ready; the request then completes with
  OK, or, where the clause says so, is accepted and waits. (1) BRC_CONFIG, with every stage muted or out of EMIT, or with
  neither the fibre of the east group nor the frequency of a pilot in use changed, writes margin, window, five flags, the
  power-reduction level and the four pilot frequencies. (2) BRC_STAGE_CONFIG with another pilot generator than the other
  stage of the band has, and its own unchanged or the stage muted or out of EMIT, writes limit, input-loss level, pilot
  generator and step source. (3) BRC_CAL_SET writes the constant and the dark code of its detector. (4) BRC_UNMUTE clears the
  causes guard_trip and runaway of its stages, and their bands' count of mutes; it returns for every stage a byte with the
  two causes that a named stage had. (5) BRC_COEX_CONFIG, with no grant in either direction or with mode and outbound enable
  unchanged, writes the three flags and the two times; with in_en 0 the mode of an inbound request ends. (6) BRC_COEX_REQ 0
  with coexistence outbound lowers XREQ_OUT; causes and gates of stages 2 and 3 follow. (7) BRC_COEX_REQ 1 likewise, with the
  grant standing: XREQ_OUT is high from now, and the request completes. (8) BRC_COEX_REQ 1 likewise, without the grant:
  XREQ_OUT is high from now, and the request waits for it. (9) BRC_STATUS_READ returns the control and coexistence registers
  and the counters, four words of each of its stages and DTIME, and with bit 0 of its flags sets the counters to 0. Cites
  12_band_repeater.md. -/
def Obligations.BandRepeaterRequests : Prop :=
  (RunsOk .brcConfig opBrcConfig (fun b c => ((bit (u8 c.p 4) 2 != b.fld BRC_CFG_east_grp || [0, 1, 2, 3].any fun g =>
    genNamed b g && u16 c.p (7 + 2 * g) != pilotFreq b g) && !stages4.all (quietStage b)) = false) (fun b c e pl => pl = [] ∧
    e = (((((((((((b.setFldS BRC_CFG_margin (s16 c.p 0)).setFld BRC_CFG_window (u16 c.p 2)).setFld BRC_CFG_t1_en (bit (u8 c.p
    4) 0)).setFld BRC_CFG_t2_en (bit (u8 c.p 4) 1)).setFld BRC_CFG_east_grp (bit (u8 c.p 4) 2)).setFld BRC_CFG_auto_retry
    (bit (u8 c.p 4) 3)).setFld BRC_CFG_apr_en (bit (u8 c.p 4) 4)).setFldS BRC_APR_level (s16 c.p 5)).setFld (BRC_PILOT_lo 0)
    (u16 c.p 7)).setFld (BRC_PILOT_hi 0) (u16 c.p 9)).setFld (BRC_PILOT_lo 1) (u16 c.p 11)).setFld (BRC_PILOT_hi 1) (u16 c.p
    13))) ∧
  (RunsOk .brcStageConfig opBrcStageConfig (fun b c => u8 c.p 5 ≠ b.fld (BRC_SSEL_pilot_gen (partner (u8 c.p 0))) ∧ (u8 c.p 5
    = b.fld (BRC_SSEL_pilot_gen (u8 c.p 0)) ∨ quietStage b (u8 c.p 0) = true)) (fun b c e pl => pl = [] ∧ e = (((b.setFldS
    (BRC_SCFG_limit (u8 c.p 0)) (s16 c.p 1)).setFldS (BRC_SCFG_in_los (u8 c.p 0)) (s16 c.p 3)).setFld (BRC_SSEL_pilot_gen (u8
    c.p 0)) (u8 c.p 5)).setFld (BRC_SSEL_cle_src (u8 c.p 0)) (bit (u8 c.p 6) 0))) ∧
  (RunsOk .brcCalSet opBrcCalSet (fun _ _ => True) (fun b c e pl => e = (b.setFldS (BRC_CAL_k (u8 c.p 0)) (s16 c.p 1)).setFld
    (BRC_CAL_dark (u8 c.p 0)) (u16 c.p 3) ∧ pl = [])) ∧
  (RunsOk .brcUnmute opBrcUnmute (fun _ _ => True) (fun b c e pl => pl = stages4.flatMap (fun st => toBE 1 (if (bitsOf 4 (u8
    c.p 0)).contains st then b.fld (BRC_SSTAT_cause st) / 64 * 64 else 0)) ∧ e = b.each (bitsOf 4 (u8 c.p 0)) fun st s =>
    (setCause st cRunaway false (setCause st cGuard false s)).updBand (st / 2) fun x =>
    { x with mutes := [], stopped := false })) ∧
  (RunsOk .brcCoexConfig opBrcCoexConfig (fun b c => ((bit (u8 c.p 0) 1 != b.fld BRC_COEX_CFG_mode || bit (u8 c.p 0) 2 !=
    b.fld BRC_COEX_CFG_out_en) && (b.flag BRC_COEX_STATUS_in_granted || b.flag BRC_COEX_STATUS_out_granted)) = false) (fun b
    c e pl => pl = [] ∧ (let s := (((((b.setFld BRC_COEX_CFG_in_en (bit (u8 c.p 0) 0)).setFld BRC_COEX_CFG_mode (bit (u8 c.p
    0) 1)).setFld BRC_COEX_CFG_out_en (bit (u8 c.p 0) 2)).setFld BRC_COEX_CFG_req_max (u16 c.p 1)).setFld
    BRC_COEX_CFG_grant_timeout (u8 c.p 3)); e = if hasBit (u8 c.p 0) 0 = true then s else leaveMode s))) ∧
  (RunsOk .brcCoexReq opBrcCoexReq (fun b c => b.flag BRC_COEX_CFG_out_en = true ∧ u8 c.p 0 = 0) (fun b _ e pl => pl = [] ∧
    (let s := (b.setFld BRC_COEX_STATUS_xreq_out 0); e = (s.each [2, 3] settleCauses).each [2, 3] fun st s => settleGate (8 +
    st) s))) ∧
  (RunsOk .brcCoexReq opBrcCoexReq (fun b c => b.flag BRC_COEX_CFG_out_en = true ∧ u8 c.p 0 = 1 ∧ b.flag
    BRC_COEX_STATUS_xgnt_in = true) (fun b _ e pl => pl = [] ∧ (let s := (b.setFld BRC_COEX_STATUS_xreq_out 1); e =
    { s with brc := { s.brc with xoutAt := b.dtime } }))) ∧
  (RunsOn .brcCoexReq opBrcCoexReq (fun b c => b.flag BRC_COEX_CFG_out_en = true ∧ u8 c.p 0 = 1 ∧ b.flag
    BRC_COEX_STATUS_xgnt_in = false) (fun b _ e w => w = Wait.coex ∧ (let s := (b.setFld BRC_COEX_STATUS_xreq_out 1); e =
    { s with brc := { s.brc with xoutAt := b.dtime } }))) ∧
  (RunsOk .brcStatusRead opBrcStatusRead (fun _ _ => True) (fun b c e pl => e = b.cond (hasBit (u8 c.p 1) 0) (fun s =>
    s.zeroRegs brcCounters) ∧ pl = b.wordsAt (brcRegs ++ (bitsOf 4 (u8 c.p 0)).flatMap fun st => [BRC_SSTAT st, BRC_EST st,
    BRC_PWR st, BRC_SLATCH st]) ++ b.dtimeBytes))

/-- Each clause says of the row it names, in every state and for all operands that meet the condition it names, that exec
  answers the next state that follows from the effect it names. Of a request row a clause speaks wherever the request is
  taken up: it passes the checks, nothing refuses it and the domains it touches are ready; the request then completes with
  OK, or, where the clause says so, is accepted and waits. (1) BRC_QUIET_SEND of a mute on a native group in P5 whose peer
  knows QUIET: its bands are being sent, no release of them is owed, a QUIET mute of all bands being sent goes out, and its 1
  ms begins anew. (2) BRC_QUIET_SEND of a release likewise: its bands are sent no more, a release of them goes out, and two
  more are owed. (3) QUIET_RECEIVED of a mute on a native group, with D15 ready: its bands' times begin anew, they are muted,
  it is counted, event 0x0E08 carries the group and the bands new to it, if any, and causes and gates follow. (4)
  QUIET_RECEIVED of a release on a native group, with D15 ready: its bands are muted no more, and event 0x0E08 carries the
  group and those that were, if any. (5) QUIET_SILENCE_END 10 ms after the last QUIET mute of a muted band on a group, with
  D15 ready: the band is muted no more, and event 0x0E08 carries the group, the band and 2. (6) QUIET_RESEND with D15 ready,
  1 ms or more after the last, sends a QUIET mute of the bands being sent on the group, if any, and a release of those that
  releases are owed for, if any, one of each being owed less. Cites 12_band_repeater.md. -/
def Obligations.QuietRequestsAndReleases : Prop :=
  (RunsOk .brcQuietSend opBrcQuietSend (fun b c => b.stage (u8 c.p 0) = 5 ∧ b.native (u8 c.p 0) = true ∧ hasBit (b.fld
    (LNK_PEER_INFO_features (u8 c.p 0))) 1 = true ∧ u8 c.p 2 = 0) (fun b c e pl => pl = [] ∧ (let s := ((b.setFld
    BRC_QUIET_sending (b.fld BRC_QUIET_sending ||| u8 c.p 1 * 4 ^ u8 c.p 0)).each (quietBits (u8 c.p 0) (u8 c.p 1)) (fun k s
    => setRelease k 0 s)); e = quietFrom (u8 c.p 0) (sendOam s (u8 c.p 0) 0x0004 (quietBody (s.fld BRC_QUIET_sending / 4 ^ u8
    c.p 0 % 4) 0))))) ∧
  (RunsOk .brcQuietSend opBrcQuietSend (fun b c => b.stage (u8 c.p 0) = 5 ∧ b.native (u8 c.p 0) = true ∧ hasBit (b.fld
    (LNK_PEER_INFO_features (u8 c.p 0))) 1 = true ∧ u8 c.p 2 = 1) (fun b c e pl => pl = [] ∧ e = quietFrom (u8 c.p 0)
    (sendOam ((b.setFld BRC_QUIET_sending (b.fld BRC_QUIET_sending - (b.fld BRC_QUIET_sending &&& u8 c.p 1 * 4 ^ u8 c.p
    0))).each (quietBits (u8 c.p 0) (u8 c.p 1)) (fun k s => setRelease k 2 s)) (u8 c.p 0) 0x0004 (quietBody (u8 c.p 1) 1)))) ∧
  (∀ (g : Fin 2) (m : Nat), Happens (fun dt => .quietReceived dt g m false) (fun h => h.ready 15 = true ∧ h.native g = true)
    (fun h u => let k := (m % 4 * 4 ^ (g : Nat)); let old := (h.fld BRC_QUIET_received); let new := ((k - (old &&& k)) / 4 ^
    (g : Nat)); let s := (((h.each (quietBits g m) fun i s =>
    { s with brc := { s.brc with quietAt := Map.put 0 s.brc.quietAt i s.dtime } }).setFld BRC_QUIET_received (old |||
    k)).count BRC_QUIET_N); u = ((s.cond (decide (new ≠ 0)) fun s => s.raise 0x0E08 [g, new, 0]).each stages4
    settleCauses).each stages4 fun st s => settleGate (8 + st) s)) ∧
  (∀ (g : Fin 2) (m : Nat), Happens (fun dt => .quietReceived dt g m true) (fun h => h.ready 15 = true ∧ h.native g = true)
    (fun h u => let k := (h.fld BRC_QUIET_received &&& m % 4 * 4 ^ (g : Nat)); u = (h.setFld BRC_QUIET_received (h.fld
    BRC_QUIET_received - k)).cond (decide (k / 4 ^ (g : Nat) ≠ 0)) fun s => s.raise 0x0E08 [g, k / 4 ^ (g : Nat), 1])) ∧
  (∀ (g : Fin 2) (n : Fin 2), Happens (fun dt => .quietSilenceEnd dt g n) (fun h => h.ready 15 = true ∧ hasBit (h.fld
    BRC_QUIET_received) (2 * (g : Nat) + (n : Nat)) = true ∧ Map.get 0 h.brc.quietAt (2 * (g : Nat) + (n : Nat)) + 10 ^ 7 ≤
    h.dtime) (fun h u => u = (h.setFld BRC_QUIET_received (setBit (h.fld BRC_QUIET_received) (2 * (g : Nat) + (n : Nat))
    false)).raise 0x0E08 [g, 2 ^ (n : Nat), 2])) ∧
  (∀ g : Fin 2, Happens (fun dt => .quietResend dt g) (fun h => h.ready 15 = true ∧ (Map.get none h.brc.acts (12 + g)).all
    (fun (t : Nat) => decide (t + 10 ^ 6 ≤ h.dtime)) = true) (fun h u => let m := (h.fld BRC_QUIET_sending / 4 ^ (g : Nat) %
    4); let s := (({ h with brc := { h.brc with acts := Map.put none h.brc.acts (12 + g) (some h.dtime) } } : Hw).cond
    (decide (m ≠ 0)) (fun s => sendOam s g 0x0004 (quietBody m 0))); let l := ((quietBits g 3).filter (fun k => decide
    (Map.get 0 s.brc.release k ≠ 0))); u = s.cond (!l.isEmpty) fun s => (sendOam s g 0x0004 (quietBody (sumN (l.map (2 ^ ·))
    / 4 ^ (g : Nat)) 1)).each l fun k s => setRelease k (Map.get 0 s.brc.release k - 1) s))

/-- (1) PILOT_ESTIMATE_UPDATE with D15 ready, 10 µs or more after the last, measures every stage by its detectors' samples,
  notes the update's DTIME, settles the estimates' validity, and then tests each band for a trip. (2) The power of a detector
  is that of its last 1000 samples, each the code less the dark code and at least 0: -50.00 dBm where none is above that. (3)
  A band trips where its estimate is above -6.0 dB, a stage of it is in EMIT and not both its stages are muted by the guard
  already: event 0x0E01 carries the band, its estimate and its stages' steps, it is counted, both stages are muted by the
  guard, and the mute is noted. (4) RUNAWAY_MUTE with D15 ready, of a stage in EMIT whose output rose by more than 3 dB with
  its input by less than 1 dB, or is more than 3 dB above its limit, where not both stages are muted by runaway: event 0x0E02
  carries the stage and both rises, it is counted, both stages of the band are muted by runaway, and the mute is noted. (5)
  PILOT_AMPLITUDE_ADJUST with D15 ready, 1 ms or more after the last, adjusts the pilot of every stage. (6) A running pilot's
  amplitude, if it is not 0, changes by at most 5 %, upward only below index 200 and downward only above it; no other field
  that shares no bit with it changes, and an output without a running pilot stays. (7) GUARD_RAISE_TICK with D15 ready, 1 ms
  or more after the last, considers band 0, then band 1. (8) A band with no valid estimate raises nothing; with one stage
  that may rise, that stage goes up one entry if the prediction with its gain meets the margin; with two, both do if the
  prediction with both gains meets it, else the stage at the lower step if the prediction with its gain does, else none. (9)
  GUARD_LOWER_TICK with D15 ready, 100 µs or more after the last, considers band 0, then band 1. (10) A band whose guard does
  not rest, in an inbound hold or after it until the estimate is valid, and whose prediction is above the margin lowers the
  stage at the higher step by one entry, if that is not at entry 0, the first time of an episode with event 0x0E0C; with the
  prediction at or below the margin its episode ends and no target changes. (11) GUARD_BAND_MUTE of a band that has stood at
  entry 0 above the margin for 10 ms, whose guard does not rest, not both stages muted by the guard already, with D15 ready:
  the band trips as above. (12) AUTO_RETRY_RELEASE 1 s after a band's last mute, with auto_retry, unless automatic release
  has stopped for it, with D15 ready: the causes guard_trip and runaway of both its stages clear. Cites 12_band_repeater.md.
  -/
def Obligations.GuardAndRunaway : Prop :=
  (∀ codes : List (List Nat), Happens (fun dt => .pilotEstimateUpdate dt codes) (fun h => h.ready 15 = true ∧ (Map.get none
    h.brc.acts (0)).all (fun (t : Nat) => decide (t + 10000 ≤ h.dtime)) = true) (fun h u => let s :=
    (({ h with brc := { h.brc with acts := Map.put none h.brc.acts (0) (some h.dtime) } } : Hw).each stages4 (measureStage
    codes)); u = (settleValid { s with brc := { s.brc with estAt := s.dtime } }).each [0, 1] tripBand)) ∧
  (∀ (h : Hw) (n : Nat) (codes : List Nat), detectorPower h n codes = meanPower h n (sumN ((codes.drop (codes.length -
    1000)).map fun x => x % 4096 - h.fld (BRC_CAL_dark n))) (codes.drop (codes.length - 1000)).length ∧ ((∀ x ∈ codes, x %
    4096 ≤ h.fld (BRC_CAL_dark n)) → detectorPower h n codes = -5000)) ∧
  (∀ (h : Hw) (n : Nat), (-60 < bandEst h n → (bandStages n).any (ampEmits h) = true → (bandStages n).all (fun st => hasCause
    h st cGuard) = false → tripBand n h = noteMute (((h.raise 0x0E01 [n, enc 32 (bandEst h n), stepsParam h 0x0E01 n]).count
    BRC_TRIPS).each (bandStages n) fun st s => settleGate (8 + st) (setCause st cGuard true s)) n) ∧ (bandEst h n ≤ -60 →
    tripBand n h = h)) ∧
  (∀ (st : Fin 4) (a b : Nat) (q : Nat × Nat), Happens (fun dt => .runawayMute dt st a b q) (fun h => h.ready 15 = true ∧
    ampEmits h st = true ∧ ((1000 * lit h (2 * st + 1) a ^ 10 < lit h (2 * st + 1) b ^ 10 ∧ (lit h (2 * st) q.2 ^ 10 < 10 *
    lit h (2 * st) q.1 ^ 10 ∨ lit h (2 * st) q.2 = lit h (2 * st) q.1)) ∨ powerGt h (2 * st + 1) b (h.fldS (BRC_SCFG_limit
    st) + 300) = true) ∧ (bandStages ((st : Nat) / 2)).all (fun x => hasCause h x cRunaway) = false) (fun h u => let x :=
    (riseOf h (2 * st + 1) a b); let y := (riseOf x.2 (2 * st) q.1 q.2); u = noteMute (((y.2.raise 0x0E02 [st, x.1 % 2 ^ 32,
    y.1 % 2 ^ 32]).count BRC_RUNAWAY).each (bandStages ((st : Nat) / 2)) fun x s => settleGate (8 + x) (setCause x cRunaway
    true s)) ((st : Nat) / 2))) ∧
  (Happens .pilotAmplitudeAdjust (fun h => h.ready 15 = true ∧ (Map.get none h.brc.acts (1)).all (fun (t : Nat) => decide (t
    + 10 ^ 6 ≤ h.dtime)) = true) (fun h u => u =
    ({ h with brc := { h.brc with acts := Map.put none h.brc.acts (1) (some h.dtime) } } : Hw).each stages4 adjustPilot)) ∧
  (∀ (h : Hw) (st : Nat), (let o := (h.fld (FES_MAP0_bias_out (8 + st))); let v := ((adjustPilot st h).fld (AOU_DITHER_amp
    o)); let a := (h.fld (AOU_DITHER_amp o)); (o ≠ 255 → o < 24 → h.flag (AOU_OSTAT_dither_on o) = true → a ≠ 0 → 20 * v ≤ 21
    * a ∧ 19 * a ≤ 20 * v ∧ (a < v → h.fld (BRC_EST_pilot_idx st) < 200) ∧ (v < a → 200 < h.fld (BRC_EST_pilot_idx st))) ∧ (o
    = 255 ∨ h.flag (AOU_OSTAT_dither_on o) = false → adjustPilot st h = h))) ∧
  (Happens .guardRaiseTick (fun h => h.ready 15 = true ∧ (Map.get none h.brc.acts (2)).all (fun (t : Nat) => decide (t + 10 ^
    6 ≤ h.dtime)) = true) (fun h u => u = raiseBand 1 (raiseBand 0
    ({ h with brc := { h.brc with acts := Map.put none h.brc.acts (2) (some h.dtime) } } : Hw)))) ∧
  (∀ (h : Hw) (n x y : Nat), (estValid h n = false → raiseBand n h = h) ∧ (estValid h n = true → (bandStages n).filter
    (mayRise h) = [x] → raiseBand n h = if prediction h n + riseGain h x ≤ marginOf h then setTarget h x (h.fld
    (BRC_SSTAT_target x) + 1) else h) ∧ (estValid h n = true → (bandStages n).filter (mayRise h) = [x, y] → raiseBand n h =
    if prediction h n + (riseGain h x + riseGain h y) ≤ marginOf h then riseOne (riseOne h x) y else if prediction h n +
    riseGain h (lowerOf h n) ≤ marginOf h then riseOne h (lowerOf h n) else h)) ∧
  (Happens .guardLowerTick (fun h => h.ready 15 = true ∧ (Map.get none h.brc.acts (3)).all (fun (t : Nat) => decide (t +
    100000 ≤ h.dtime)) = true) (fun h u => u = lowerBand 1 (lowerBand 0
    ({ h with brc := { h.brc with acts := Map.put none h.brc.acts (3) (some h.dtime) } } : Hw)))) ∧
  (∀ (h : Hw) (n : Nat), guardRests h n = false → (prediction h n ≤ marginOf h → lowerBand n h = h.updBand n fun x =>
    { x with lowering := false }) ∧ (marginOf h < prediction h n → h.fld (BRC_SSTAT_target (higherOf h n)) ≠ 0 → lowerBand n
    h = setTarget (h.cond (!(h.band n).lowering) fun s => (s.raise 0x0E0C [n, enc 32 (bandEst h n), stepsParam h 0x0E0C
    n]).updBand n fun x => { x with lowering := true }) (higherOf h n) (h.fld (BRC_SSTAT_target (higherOf h n)) - 1))) ∧
  (∀ (n : Fin 2) (t : Nat), Happens (fun dt => .guardBandMute dt n) (fun h => h.ready 15 = true ∧ (h.band n).floorAt = some t
    ∧ t + 10 ^ 7 ≤ h.dtime ∧ guardRests h n = false ∧ (bandStages n).all (fun st => hasCause h st cGuard) = false) (fun h u
    => u = guardTrip h n)) ∧
  (∀ n : Fin 2, Happens (fun dt => .autoRetryRelease dt n) (fun h => h.ready 15 = true ∧ (h.band n).mutedAt + 10 ^ 9 ≤
    h.dtime ∧ h.flag BRC_CFG_auto_retry = true ∧ (h.band n).stopped = false) (fun h u => u = h.each (bandStages n)
    clearGuard))

/-- Each clause says of the row it names, in every state and for all operands that meet the condition it names, that exec
  answers the next state that follows from the effect it names. (1) INPUT_LOSS_HOLD of a sample below in_los on a stage that
  is neither held at its lowest step nor by an inbound grant, with D15 ready: it is held there, from now, and event 0x0E03
  carries stage and power. (2) INPUT_LOSS_MUTE of a sample still below in_los, 4.95 ms or more after the hold began, of a
  stage not marked lost and not held by an inbound grant, with D15 ready: it is marked lost, event 0x0E04 names it, and it is
  muted by input loss. (3) INPUT_RESTORED of a sample at least 1 dB above in_los on a stage not held by an inbound grant,
  with D15 ready: it is neither held nor marked lost nor muted by input loss. (4) LIMIT_CEILING_FALL of a sample above the
  limit, 100 µs or more after the stage's last one, with D15 ready: the ceiling goes down one entry (not below 0); at the
  first of an episode over_limit and its latch are set and event 0x0E05 carries stage, power and the ceiling before. (5)
  LIMIT_CEILING_RISE of a sample that with the next entry's gain stays 0.5 dB below the limit, 1 ms or more after the stage's
  last one, with the ceiling below 31 and D15 ready: over_limit clears if the sample is at or below the limit, and the
  ceiling goes up one entry. (6) APR_START on a fibre whose condition has held for 100 µs and which has no power reduction
  yet, with D15 ready: it is marked and counted, event 0x0E06 carries the group, the lanes and stages gated and the level,
  its start is noted and no entry to P2 since, and its lanes are gated at their reduced step, its stages muted by power
  reduction with theirs. (7) APR_END on a fibre in power reduction whose group has entered P2 since, or in C2 has had signal
  on a lane for 10 ms, with D15 ready: the mark clears, the end is noted, event 0x0E07 carries the group and the time in ms,
  and its lanes and stages are gated no more. Cites 12_band_repeater.md. -/
def Obligations.InputLossLimitAndReduction : Prop :=
  (∀ (st : Fin 4) (x : Nat), Happens (fun dt => .inputLossHold dt st x) (fun h => h.ready 15 = true ∧ h.flag
    (BRC_SSTAT_coex_hold st) = false ∧ powerGe h (2 * st) x (h.fldS (BRC_SCFG_in_los st)) = false ∧ h.flag
    (BRC_SSTAT_held_min st) = false) (fun h u => u = ((h.setFld (BRC_SSTAT_held_min st) 1).updAmp st fun y =>
    { y with lossAt := h.dtime }).raise 0x0E03 [st, enc 32 (samplePower h (2 * st) x)])) ∧
  (∀ (st : Fin 4) (x : Nat), Happens (fun dt => .inputLossMute dt st x) (fun h => h.ready 15 = true ∧ h.flag
    (BRC_SSTAT_coex_hold st) = false ∧ powerGe h (2 * st) x (h.fldS (BRC_SCFG_in_los st)) = false ∧ h.flag
    (BRC_SSTAT_held_min st) = true ∧ h.flag (BRC_SSTAT_input_lost st) = false ∧ (h.amp st).lossAt + 4950000 ≤ h.dtime) (fun h
    u => u = settleGate (8 + (st : Nat)) (setCause st cInput true ((h.setFld (BRC_SSTAT_input_lost st) 1).raise 0x0E04
    [st])))) ∧
  (∀ (st : Fin 4) (x : Nat), Happens (fun dt => .inputRestored dt st x) (fun h => h.ready 15 = true ∧ h.flag
    (BRC_SSTAT_coex_hold st) = false ∧ powerGe h (2 * st) x (h.fldS (BRC_SCFG_in_los st) + 100) = true) (fun h u => u =
    setCause st cInput false ((h.setFld (BRC_SSTAT_held_min st) 0).setFld (BRC_SSTAT_input_lost st) 0))) ∧
  (∀ (st : Fin 4) (x : Nat), Happens (fun dt => .limitCeilingFall dt st x) (fun h => h.ready 15 = true ∧ powerGt h (2 * st +
    1) x (h.fldS (BRC_SCFG_limit st)) = true ∧ (Map.get none h.brc.acts (4 + st)).all (fun (t : Nat) => decide (t + 100000 ≤
    h.dtime)) = true) (fun h u => let s :=
    (({ h with brc := { h.brc with acts := Map.put none h.brc.acts (4 + st) (some h.dtime) } } : Hw).cond (!h.flag
    (BRC_SSTAT_over_limit st)) (fun s => ((s.setFld (BRC_SSTAT_over_limit st) 1).setFld (BRC_SLATCH_over_limit st) 1).raise
    0x0E05 [st, enc 32 (samplePower s (2 * st + 1) x), s.fld (BRC_SSTAT_limit_ceil st)])); u = s.setFld (BRC_SSTAT_limit_ceil
    st) (s.fld (BRC_SSTAT_limit_ceil st) - 1))) ∧
  (∀ (st : Fin 4) (x : Nat), Happens (fun dt => .limitCeilingRise dt st x) (fun h => h.ready 15 = true ∧ (Map.get none
    h.brc.acts (8 + st)).all (fun (t : Nat) => decide (t + 10 ^ 6 ≤ h.dtime)) = true ∧ h.fld (BRC_SSTAT_limit_ceil st) < 31 ∧
    powerGt h (2 * st + 1) x (h.fldS (BRC_SCFG_limit st) - 50 - stepGain h st (h.fld (BRC_SSTAT_limit_ceil st)) (h.fld
    (BRC_SSTAT_limit_ceil st) + 1)) = false) (fun h u => u =
    (({ h with brc := { h.brc with acts := Map.put none h.brc.acts (8 + st) (some h.dtime) } } : Hw).cond (!powerGt h (2 * st
    + 1) x (h.fldS (BRC_SCFG_limit st))) fun s => s.setFld (BRC_SSTAT_over_limit st) 0).setFld (BRC_SSTAT_limit_ceil st)
    (h.fld (BRC_SSTAT_limit_ceil st) + 1))) ∧
  (∀ g : Fin 2, Happens (fun dt => .aprStart dt g) (fun h => h.ready 15 = true ∧ h.flag (aprFld g) = false ∧ aprDue h g =
    true) (fun h u => let s := ((((h.setFld (aprFld g) 1).count BRC_APR_N).raise 0x0E06 [g, sumN ((groupLanes g).map fun n =>
    2 ^ n) + sumN ((emitters h g).map fun st => 2 ^ (8 + st)), enc 32 (h.fldS BRC_APR_level)])); let t :=
    ({ s with brc := { s.brc with aprAt := Map.put 0 s.brc.aprAt g s.dtime, enterP2 := Map.put false s.brc.enterP2 g false } });
    let v := (t.each (groupLanes g) (fun n s => settleGate n (s.updFes n fun x =>
    { x with apr := some (aprStep s n), aprShut := true }))); u = v.each (emitters v g) fun st s => settleGate (8 + st)
    (setCause st cApr true ((s.updAmp st fun x => { x with apr := aprStep s (8 + st) }).setFld (BRC_SSTAT_apr st) 1)))) ∧
  (∀ g : Fin 2, Happens (fun dt => .aprEnd dt g) (fun h => h.ready 15 = true ∧ h.flag (aprFld g) = true ∧ (if inC2 h g = true
    then (groupLanes g).any (fun n => !h.flag (LRX_STATUS_los n) && decide ((h.lane n).sigAt + 10 ^ 7 ≤ h.dtime)) else
    Map.get false h.brc.enterP2 g) = true) (fun h u => let s := ((h.setFld (aprFld g) 0).raise 0x0E07 [g, (h.dtime - Map.get
    0 h.brc.aprAt g) / 10 ^ 6]); let v := (({ s with brc := { s.brc with ending := Map.put false s.brc.ending g true } } :
    Hw).each (groupLanes g) (fun n s => s.updFes n fun x => { x with apr := none, aprShut := false })); u = v.each (emitters
    v g) fun st s => setCause st cApr false ((s.updAmp st fun x => { x with apr := none }).setFld (BRC_SSTAT_apr st) 0)))

/-- (1) XREQ_IN_HIGH with D15 ready, inbound requests enabled and none stuck, or the wire low for 1 ms before: nothing is
  stuck, pin and status are high, the request's time is noted, stages 2 and 3 enter the mode, and deferring shows whether a
  protection event is in progress. (2) INBOUND_GRANT of a request whose mode is entered, not granted and not stuck, with no
  protection event in progress or 2 ms after the request, with D15 ready: XGNT_OUT is high, it is counted, and event 0x0E09
  carries the delay in µs, whether it was deferred and the mode. (3) XREQ_IN_LOW with D15 ready: pin and status are low, from
  now, and stages 2 and 3 leave the mode. (4) Leaving the mode lets the timers of the guard and of input loss go on where a
  hold had suspended them, lowers XGNT_OUT, ends grant and deferring, and ends the hold and the inbound coexistence cause of
  stages 2 and 3. (5) INBOUND_REQUEST_STUCK of an enabled request not yet stuck, req_max s after it, with D15 ready: the mode
  is left, the request is stuck and counted, and event 0x0E0A carries the time in s. (6) XGNT_IN_HIGH with D15 ready: pin and
  status are high, and a BRC_COEX_REQ that waits with XREQ_OUT high and outbound enabled has its outcome OK. (7) XGNT_IN_LOW
  with D15 ready: pin and status are low, and causes and gates of stages 2 and 3 follow. (8) OUTBOUND_GRANT_TIMEOUT of a
  BRC_COEX_REQ that has waited without grant for grant_timeout ms, with D15 ready: XREQ_OUT is low, event 0x0E0B carries that
  time, and the request has the outcome REFUSED 0x0E02. Cites 12_band_repeater.md. -/
def Obligations.CoexistenceWires : Prop :=
  (Happens .xreqInHigh (fun h => h.ready 15 = true ∧ h.flag BRC_COEX_CFG_in_en = true ∧ (h.flag BRC_COEX_STATUS_in_stuck =
    false ∨ h.brc.xreqPin = false ∧ h.brc.xlowAt + 10 ^ 6 ≤ h.dtime)) (fun h u => let a := (h.cond (!h.brc.xreqPin && decide
    (h.brc.xlowAt + 10 ^ 6 ≤ h.dtime)) (fun s => s.setFld BRC_COEX_STATUS_in_stuck 0)); let t :=
    ((({ a with brc := { a.brc with xreqPin := true } } : Hw).setFld BRC_COEX_STATUS_xreq_in 1)); let s := (enterMode
    { t with brc := { t.brc with xreqAt := t.dtime } }); u = s.setFlag BRC_COEX_STATUS_deferring (protection s))) ∧
  (Happens .inboundGrant (fun h => h.ready 15 = true ∧ h.flag BRC_COEX_STATUS_xreq_in = true ∧ h.flag BRC_COEX_CFG_in_en =
    true ∧ h.flag BRC_COEX_STATUS_in_granted = false ∧ h.flag BRC_COEX_STATUS_in_stuck = false ∧ inbound h = true ∧
    (protection h = false ∨ h.brc.xreqAt + 2 * 10 ^ 6 ≤ h.dtime)) (fun h u => u = ((((h.setFld BRC_COEX_STATUS_xgnt_out
    1).setFld BRC_COEX_STATUS_in_granted 1).setFld BRC_COEX_STATUS_deferring 0).count BRC_GRANTS).raise 0x0E09 [(h.dtime -
    h.brc.xreqAt) / 1000, h.fld BRC_COEX_STATUS_deferring, h.fld BRC_COEX_CFG_mode])) ∧
  (Happens .xreqInLow (fun h => h.ready 15 = true) (fun h u => u = leaveMode
    (({ h with brc := { h.brc with xreqPin := false, xlowAt := h.dtime } } : Hw).setFld BRC_COEX_STATUS_xreq_in 0))) ∧
  (∀ (h : Hw), leaveMode h = ((((h.cond (h.flag (BRC_SSTAT_coex_hold 2)) resumeTimers).setFld BRC_COEX_STATUS_xgnt_out
    0).setFld BRC_COEX_STATUS_in_granted 0).setFld BRC_COEX_STATUS_deferring 0).each [2, 3] fun st s => setCause st cCoexIn
    false (s.setFld (BRC_SSTAT_coex_hold st) 0)) ∧
  (Happens .inboundRequestStuck (fun h => h.ready 15 = true ∧ h.flag BRC_COEX_STATUS_xreq_in = true ∧ h.flag
    BRC_COEX_CFG_in_en = true ∧ h.flag BRC_COEX_STATUS_in_stuck = false ∧ h.brc.xreqAt + h.fld BRC_COEX_CFG_req_max * 10 ^ 9
    ≤ h.dtime) (fun h u => u = (((leaveMode h).setFld BRC_COEX_STATUS_in_stuck 1).count BRC_STUCK).raise 0x0E0A [(h.dtime -
    h.brc.xreqAt) / 10 ^ 9])) ∧
  (Happens .xgntInHigh (fun h => h.ready 15 = true) (fun h u => let s := (({ h with brc := { h.brc with xgntPin := true } } :
    Hw).setFld BRC_COEX_STATUS_xgnt_in 1); u = s.cond (s.flag BRC_COEX_STATUS_xreq_out && s.flag BRC_COEX_CFG_out_en) fun s
    => setOutcome s isCoex stOK 0)) ∧
  (Happens .xgntInLow (fun h => h.ready 15 = true) (fun h u => let s := (({ h with brc := { h.brc with xgntPin := false } } :
    Hw).setFld BRC_COEX_STATUS_xgnt_in 0); u = (s.each [2, 3] settleCauses).each [2, 3] fun st s => settleGate (8 + st) s)) ∧
  (Happens .outboundGrantTimeout (fun h => h.ready 15 = true ∧ (h.flag BRC_COEX_STATUS_xreq_out && h.flag
    BRC_COEX_STATUS_xgnt_in) = false ∧ waiting h isCoex = true ∧ h.brc.xoutAt + h.fld BRC_COEX_CFG_grant_timeout * 10 ^ 6 ≤
    h.dtime) (fun h u => u = setOutcome ((h.setFld BRC_COEX_STATUS_xreq_out 0).raise 0x0E0B [h.fld
    BRC_COEX_CFG_grant_timeout]) isCoex stREFUSED 0x0E02))

/-- Each clause says of the row it names, in every state and for all operands that meet the condition it names, that exec
  answers the next state that follows from the effect it names. Of a request row a clause speaks wherever the request is
  taken up: it passes the checks, nothing refuses it and the domains it touches are ready; the request then completes with
  OK, or, where the clause says so, is accepted and waits. (1) CLE_LOOP_CONFIG of a loop that is off, below 16 if it asks for
  repetitive control, writes source, destination, period, the two flag fields and the learning cycles. (2) CLE_COEF_LOAD of a
  loop that is off, without declaring, writes its sixteen coefficient words. (3) CLE_COEF_LOAD with declaring, whatever the
  loop's mode, writes them and declares the table, with event 0x0C07. (4) CLE_MODE_SET to off turns its loops off; the load
  follows, and is returned. (5) CLE_MODE_SET to manual or auto of loops that meet the three conditions, with no two loops
  that would then run naming one destination and the load at most 3.0: its loops are in that mode; the load follows, and is
  returned. (6) CLE_SETPOINT of a loop whose set-point no running loop writes, writes the set-point if bit 0 of its flags is
  set and the manual value if bit 1 is. (7) CLE_REP_LOAD of a loop that is not in auto, or with declaring of a table that is
  then whole, while the loop is neither engaging nor engaged: the entries are written, bit 1 of the flags asks it to engage
  or not, and bit 0 declares the table with event 0x0C07. (8) CLE_REP_LOAD likewise, of a loop that is engaging or engaged:
  the entries wait for the next cycle. (9) CLE_REP_READ of a declared table returns its entries as they read and the last
  mains edge's DTIME, and changes nothing. (10) CLE_REP_RESET fills the tables of its loops with zeros and declares them,
  with no entries waiting and no request to engage; a loop with repetitive control in auto begins to learn anew. (11)
  CLE_LIA_CONFIG writes source, generator, harmonic (less 1), phase and window of its demodulator. Cites
  13_control_engine.md. -/
def Obligations.ControlLoopSettings : Prop :=
  (RunsOk .cleLoopConfig opCleLoopConfig (fun b c => loopMode b (u8 c.p 0) = 0 ∧ (hasBit (u8 c.p 9) 0 = false ∨ u8 c.p 0 ≤
    15)) (fun b c e pl => pl = [] ∧ e = (((((((b.setFld (CLE_CFG_src_kind (u8 c.p 0)) (u8 c.p 1)).setFld (CLE_CFG_src_idx (u8
    c.p 0)) (u8 c.p 2)).setFld (CLE_CFG_dst_kind (u8 c.p 0)) (u8 c.p 3)).setFld (CLE_CFG_dst_idx (u8 c.p 0)) (u8 c.p
    4)).setFld (CLE_PERIOD_period (u8 c.p 0)) (u32 c.p 5)).setFld (CLE_CFG_rep_en (u8 c.p 0)) (bit (u8 c.p 9) 0)).setFld
    (CLE_CFG_sub (u8 c.p 0)) (u8 c.p 9 / 2 % 4)).setFld (CLE_LEARN_learn_cycles (u8 c.p 0)) (u16 c.p 10))) ∧
  (RunsOk .cleCoefLoad opCleCoefLoad (fun b c => loopMode b (u8 c.p 0) = 0 ∧ hasBit (u8 c.p 1) 0 = false) (fun b c e pl => e
    = putWords b (CLE_COEF (u8 c.p 0) 0) ((List.range 16).map fun w => u32 c.p (2 + 4 * w)) ∧ pl = [])) ∧
  (RunsOk .cleCoefLoad opCleCoefLoad (fun _ c => hasBit (u8 c.p 1) 0 = true) (fun b c e pl => pl = [] ∧ e = (setDeclared
    (putWords b (CLE_COEF (u8 c.p 0) 0) ((List.range 16).map fun w => u32 c.p (2 + 4 * w))) (19 + u8 c.p 0) true).raise
    0x0C07 [19 + u8 c.p 0, Map.get 0 b.mem.preN (19 + u8 c.p 0)])) ∧
  (RunsOk .cleModeSet opCleModeSet (fun _ c => u8 c.p 4 = 0) (fun b c e pl => e = settleLoad (b.each (bitsOf 32 (u32 c.p 0))
    fun l s => changeMode s l 0) ∧ pl = toBE 2 (e.fld CLE_LOAD_load) ++ [0, 0])) ∧
  (RunsOk .cleModeSet opCleModeSet (fun b c => u8 c.p 4 ≠ 0 ∧ modeRefused b (bitsOf 32 (u32 c.p 0)) = none ∧ (loops32.any fun
    x => (fun l => if (bitsOf 32 (u32 c.p 0)).contains l then true else loopMode b l != 0) x && loops32.any fun y => decide
    (x < y) && (fun l => if (bitsOf 32 (u32 c.p 0)).contains l then true else loopMode b l != 0) y && sameDest b x y) = false
    ∧ (engineLoad b (fun l => if (bitsOf 32 (u32 c.p 0)).contains l then true else loopMode b l != 0)).1 ≤ 3 * (engineLoad b
    (fun l => if (bitsOf 32 (u32 c.p 0)).contains l then true else loopMode b l != 0)).2) (fun b c e pl => e = settleLoad
    (b.each (bitsOf 32 (u32 c.p 0)) fun l s => changeMode s l (u8 c.p 4)) ∧ pl = toBE 2 (e.fld CLE_LOAD_load) ++ [0, 0])) ∧
  (RunsOk .cleSetpoint opCleSetpoint (fun b c => cascaded b (u8 c.p 0) = false) (fun b c e pl => pl = [] ∧ e = (b.cond
    (hasBit (u8 c.p 9) 0) fun s => s.setNum (CLE_SETPT (u8 c.p 0)) (u32 c.p 1)).cond (hasBit (u8 c.p 9) 1) fun s => s.setNum
    (CLE_MANUAL (u8 c.p 0)) (u32 c.p 5))) ∧
  (RunsOk .cleRepLoad opCleRepLoad (fun b c => (loopMode b (u8 c.p 0) ≠ 2 ∨ hasBit (u8 c.p 4) 0 = true) ∧ (hasBit (u8 c.p 4)
    0 = false ∨ coverFull (putWords b (CLE_REP (u8 c.p 0) (u8 c.p 1)) ((List.range (u16 c.p 2)).map fun i => u32 c.p (5 + 4 *
    i))) (51 + u8 c.p 0) = true) ∧ b.fld (CLE_STATUS_rep (u8 c.p 0)) < 2) (fun b c e pl => pl = [] ∧ (let s := ((putWords b
    (CLE_REP (u8 c.p 0) (u8 c.p 1)) ((List.range (u16 c.p 2)).map fun i => u32 c.p (5 + 4 * i))).updLoop (u8 c.p 0) (fun x =>
    { x with engage := hasBit (u8 c.p 4) 1 })); e = s.cond (hasBit (u8 c.p 4) 0) fun s => (setDeclared s (51 + u8 c.p 0)
    true).raise 0x0C07 [51 + u8 c.p 0, Map.get 0 b.mem.preN (51 + u8 c.p 0)]))) ∧
  (RunsOk .cleRepLoad opCleRepLoad (fun b c => (loopMode b (u8 c.p 0) ≠ 2 ∨ hasBit (u8 c.p 4) 0 = true) ∧ (hasBit (u8 c.p 4)
    0 = false ∨ coverFull (putWords b (CLE_REP (u8 c.p 0) (u8 c.p 1)) ((List.range (u16 c.p 2)).map fun i => u32 c.p (5 + 4 *
    i))) (51 + u8 c.p 0) = true) ∧ 2 ≤ b.fld (CLE_STATUS_rep (u8 c.p 0))) (fun b c e pl => pl = [] ∧ (let s := (b.updLoop (u8
    c.p 0) (fun x =>
    { x with load := x.load ++ (List.range ((List.range (u16 c.p 2)).map fun i => u32 c.p (5 + 4 * i)).length).map fun i => (u8 c.p 1 + i, ((List.range (u16 c.p 2)).map fun i => u32 c.p (5 + 4 * i)).getD i 0) }));
    e = s.cond (hasBit (u8 c.p 4) 0) fun s => (setDeclared s (51 + u8 c.p 0) true).raise 0x0C07 [51 + u8 c.p 0, Map.get 0
    b.mem.preN (51 + u8 c.p 0)]))) ∧
  (RunsOk .cleRepRead opCleRepRead (fun b c => b.declared (51 + u8 c.p 0) = true) (fun b c e pl => e = b ∧ pl = (List.range
    (u16 c.p 2)).flatMap (fun i => toBE 4 (tableWord b (CLE_REP (u8 c.p 0) (u8 c.p 1) + i)).toNat) ++ toBE 8 (b.num64
    MCV_MAINS_T))) ∧
  (RunsOk .cleRepReset opCleRepReset (fun _ _ => True) (fun b c e pl => pl = [] ∧ e = b.each (bitsOf 16 (u16 c.p 0)) fun l s
    => let s := ((zeroTable s (51 + l)).updLoop l (fun x => { x with load := [], engage := false })); if loopMode s l = 2 ∧
    s.flag (CLE_CFG_rep_en l) = true then ((s.setFld (CLE_STATUS_rep l) 1).setFld (CLE_STATUS_cycles l) 0).updLoop l fun x =>
    { x with begun := false, errs := [], delta := [], offAt := none, back := false } else s)) ∧
  (RunsOk .cleLiaConfig opCleLiaConfig (fun _ _ => True) (fun b c e pl => pl = [] ∧ e = (((((b.setFld (CLE_LIA_CFG_src_kind
    (u8 c.p 0)) (u8 c.p 1)).setFld (CLE_LIA_CFG_src_idx (u8 c.p 0)) (u8 c.p 2)).setFld (CLE_LIA_CFG_generator (u8 c.p 0)) (u8
    c.p 3)).setFld (CLE_LIA_CFG_harmonic (u8 c.p 0)) (u8 c.p 4 - 1)).setFld (CLE_LIA_CFG_phase (u8 c.p 0)) (u16 c.p
    5)).setFld (CLE_LIA_WIN_window (u8 c.p 0)) (u16 c.p 7)))

/-- Of a request row a clause speaks wherever the request is taken up: it passes the checks, nothing refuses it and the
  domains it touches are ready; the request then completes with OK, or, where the clause says so, is accepted and waits. (1)
  CLE_TEST_START on a loop that is not off, with no test running: the test runs with its point, type and loop and no sample
  done, the loop shows it, event 0x0F05 carries loop, point and type, and the DTIME of the loop's next sample is returned.
  (2) CLE_TEST_STOP ends a running test with reason 1, and returns the samples done. (3) A test that ends: without one
  running nothing changes; otherwise event 0x0F06 carries its loop, the reason and the samples done, and neither the loop nor
  the engine shows it. (4) CLE_STATUS_READ returns the engine's words, eleven words of each of its loops and DTIME, and with
  bit 0 of its flags sets every loop's count of misses to 0. (5) CLE_INIT turns every loop off, with no request to engage,
  and fills every coefficient and repetitive table with zeros and declares it. (6) REP_CYCLE_END of a loop with repetitive
  control in auto, with mains valid and a mains cycle begun since the loop's, with D15 ready: the samples left of the old
  cycle are missed, the record of the cycle before and the loaded entries apply, the phase goes on, the cycle that ends is
  recorded if it is to be, and the next begins at its first sample. (7) The phase that begins: from engaging it is engaged,
  with event 0x0F03; from learning it is engaging if it is asked for, if no cycles are to be learned, or if the record of the
  last one has been applied; else it stays. (8) MAINS_INVALID_DISENGAGE of a loop with repetitive control in auto whose mains
  has been invalid for 1 s and that does not ramp out yet, with D15 ready: it ramps out from its present weight, and event
  0x0F04 carries the loop and the mains period. (9) LOCKIN_WINDOW_END at the end of a demodulator's window, with D15 ready:
  its output is the mean of its source times its reference over the window, the result is counted, and the next window
  begins. (10) TEST_SIGNAL_END of a signal whose samples are done, with D15 ready, ends the test with reason 0. (11)
  OUTPUT_LIMIT_ALARM of a running loop whose output has been at a limit for 1 s and was not reported, with D15 ready: event
  0x0F08 carries loop, limit and output, once. Cites 13_control_engine.md. -/
def Obligations.CyclesTestsAndLockIn : Prop :=
  (RunsOk .cleTestStart opCleTestStart (fun b c => b.flag CLE_TEST_running = false ∧ loopMode b (u8 c.p 0) ≠ 0) (fun b c e pl
    => (let s := ((((((b.setFld CLE_TEST_running 1).setFld CLE_TEST_point (u8 c.p 1)).setFld CLE_TEST_type (u8 c.p 2)).setFld
    CLE_TEST_loop (u8 c.p 0)).setNum CLE_TEST_DONE 0).setFld (CLE_STATUS_test (u8 c.p 0)) 1); e =
    ({ s with cle := { s.cle with test := some { amp := s32 c.p 3, h := u16 c.p 7, f0 := u32 c.p 9, f1 := u32 c.p 13, len := u32 c.p 17 } } }
    : Hw).raise 0x0F05 [u8 c.p 0, u8 c.p 1, u8 c.p 2]) ∧ pl = toBE 8 (nextSample e (u8 c.p 0) % 2 ^ 64))) ∧
  (RunsOk .cleTestStop opCleTestStop (fun _ _ => True) (fun b _ e pl => pl = toBE 4 (b.num CLE_TEST_DONE) ∧ e = endTest b 1)) ∧
  (∀ (h : Hw) (k : Nat), (h.flag CLE_TEST_running = false → endTest h k = h) ∧ (h.flag CLE_TEST_running = true → endTest h k
    = (let s := (((h.raise 0x0F06 [h.fld CLE_TEST_loop, k, h.num CLE_TEST_DONE]).setFld (CLE_STATUS_test (h.fld
    CLE_TEST_loop)) 0).setFld CLE_TEST_running 0); { s with cle := { s.cle with test := none } }))) ∧
  (RunsOk .cleStatusRead opCleStatusRead (fun _ _ => True) (fun b c e pl => e = b.cond (hasBit (u8 c.p 4) 0) (fun s =>
    s.zeroRegs (loops32.map CLE_MISS)) ∧ pl = b.wordsAt ([CLE_COEF_INIT, CLE_REP_INIT, CLE_LOAD, CLE_MAINS] ++ (bitsOf 32
    (u32 c.p 0)).flatMap loopWords) ++ b.dtimeBytes)) ∧
  (RunsOk .cleInit opCleInit (fun _ _ => True) (fun b _ e pl => pl = [] ∧ e = ((settleLoad (b.each loops32 fun l s =>
    changeMode s l 0)).each loops32 fun l s => s.updLoop l fun x => { x with engage := false }).each ((List.range 48).map (19
    + ·)) fun t s => zeroTable s t)) ∧
  (∀ l : Fin 32, Happens (fun dt => .repCycleEnd dt l) (fun h => h.ready 15 = true ∧ (l : Nat) < 16 ∧ h.flag (CLE_CFG_rep_en
    l) = true ∧ loopMode h l = 2 ∧ h.flag CLE_MAINS_valid = true ∧ (h.loop l).cycle ≠ h.num64 MCV_MAINS_T) (fun h u => let m
    := (h.cond (decide ((h.loop l).cycleT ≠ 0)) (fun s => missSamples s l (cycleLeft s l))); let d := ((m.loop l).delta); let
    s := (nextPhase (applyLoads (m.cond (!d.isEmpty) fun s => addRecord s l d) l) l (!d.isEmpty)); let r := (if cycleRecorded
    s l (m.fld (CLE_STATUS_rep l)) (cycleSteady m l) = true then cycleRecord s l (m.fld (CLE_STATUS_rep l)) else ([], s));
    let t := (cycleBegins r.2 l r.1); u = t.updLoop l fun x =>
    { x with j := 0, cycle := h.num64 MCV_MAINS_T, cycleT := t.fld CLE_MAINS_period })) ∧
  (∀ (h : Hw) (l : Nat) (a : Bool), l < 16 → (h.fld (CLE_STATUS_rep l) = 2 → nextPhase h l a = (h.setFld (CLE_STATUS_rep l)
    3).raise 0x0F03 [l, h.fld (CLE_STATUS_cycles l)]) ∧ (h.fld (CLE_STATUS_rep l) = 1 → ((nextPhase h l a).fld
    (CLE_STATUS_rep l) = 2 ↔ ((h.loop l).engage = true ∨ h.fld (CLE_LEARN_learn_cycles l) = 0 ∨ ((h.loop l).begun = true ∧ a
    = true ∧ h.fld (CLE_LEARN_learn_cycles l) ≤ h.fld (CLE_STATUS_cycles l))))) ∧ (h.fld (CLE_STATUS_rep l) = 3 → nextPhase h
    l a = h)) ∧
  (∀ (l : Fin 32) (t : Nat), Happens (fun dt => .mainsInvalidDisengage dt l) (fun h => h.ready 15 = true ∧ (l : Nat) < 16 ∧
    h.flag (CLE_CFG_rep_en l) = true ∧ loopMode h l = 2 ∧ h.flag CLE_MAINS_valid = false ∧ (h.loop l).offAt = none ∧
    h.cle.badAt = some t ∧ t + 10 ^ 9 ≤ h.dtime) (fun h u => u = (h.updLoop l fun x =>
    { x with offAt := some h.dtime, weight := weightNow h l, back := false }).raise 0x0F04 [l, h.fld CLE_MAINS_period])) ∧
  (∀ (d : Fin 8) (v : List Int), Happens (fun dt => .lockinWindowEnd dt d v) (fun h => h.ready 15 = true ∧ Map.get 0
    h.cle.liaAt d + h.fld (CLE_LIA_WIN_window d) * 1000 ≤ h.dtime) (fun h u => let s := ((liaMean h d v).2.setInt
    (CLE_LIA_OUT d) (liaMean h d v).1); u =
    { s with cle := { s.cle with liaN := Map.put 0 s.cle.liaN d (Map.get 0 s.cle.liaN d + 1), liaAt := Map.put 0 s.cle.liaAt d s.dtime } })) ∧
  (∀ t : TestSig, Happens .testSignalEnd (fun h => h.ready 15 = true ∧ h.cle.test = some t ∧ t.len ≤ t.k) (fun h u => u =
    endTest h 0)) ∧
  (∀ (l : Fin 32) (k since : Nat), Happens (fun dt => .outputLimitAlarm dt l) (fun h => h.ready 15 = true ∧ loopMode h l ≠ 0
    ∧ (h.loop l).satAt = some (k, since) ∧ (h.loop l).satSaid = false ∧ since + 10 ^ 9 ≤ h.dtime) (fun h u => u = (h.updLoop
    l fun x => { x with satSaid := true }).raise 0x0F08 [l, k, h.num (CLE_Y l)]))

/-- Of a request row a clause speaks wherever the request is taken up: it passes the checks, nothing refuses it and the
  domains it touches are ready; the request then completes with OK, or, where the clause says so, is accepted and waits. (1)
  LOOP_SAMPLE with D15 ready, of a loop that, once it and the loops below it have caught up with their schedules, is not off,
  has its coefficients declared and an instant that has come: the loops below it whose instant coincides compute their
  samples, in ascending order, and then it does. (2) LOOP_SAMPLE with D15 ready, of a loop for which no sample is due then:
  it and the loops below it have caught up. (3) A sample computed from a source that is not stale: the source's value is
  taken, x is computed from it, a loop just begun starts afresh, the sample completes with its terms, and the loop goes on to
  its next instant, or, with mains invalid and repetitive control, stands. (4) A sample computed from a stale source: the
  loop shows it, at the first with its latch and event 0x0F02; the output stands, the sample is complete, and the loop goes
  on likewise. (5) The terms of a sample: r goes from CLE_R toward the set-point by at most its slew, e is r and its
  injection less x, limited to 32 bits, p is kp times e, d is the filtered derivative of x, and ff is the feed-forward and
  the repetitive part. (6) In auto, with out_min at most out_max: the output of a completed sample is at the limits or
  between them before its slew, and moves from CLE_Y by at most its slew, in every loop that drives nothing. (7)
  DEADLINE_MISS of a loop that is not off, whose mains cycle, if it follows one, is the present one with mains valid, and
  which has left instants whose deadline has come, with D15 ready: those samples are missed, and the loop is at the present
  instant. (8) Samples missed: the first in a second raises event 0x0F01 with the misses of the second before, the misses of
  the second count, the loop shows, latches and counts them, and its test signal goes on. (9) AOU_WRITE of outputs that
  neither a loop nor FES owns writes the code of each, as the host, and returns the DTIME of the next update. (10) A code
  written to an output below 24, with D15 ready and no range change running: the code, its writer and that it was written
  stand in its register, it is not marked at its safe code, and it is the code that the output is to drive; with D15 not
  ready or a range change running, nothing changes. (11) OUTPUT_UPDATE at a further multiple of 1000 ns, with D15 ready: the
  four generators advance, then the outputs, in their order, and the instant is noted; for the instants between, whose row
  did not come, the phases go on. (12) An output at an update: with no range change asked for, and without dither or a gate
  output, the converter takes the code that it is to drive; with dither and no gate output, the code with amplitude times the
  generator's sample over 32768 added, limited to 0 to 65535. (13) GATE_WRITE of an output with a gate write waiting, with
  D15 ready: the converter takes its code, and none waits. Cites 13_control_engine.md, 14_analogue_outputs.md. -/
def Obligations.LoopSamplesAndOutputUpdates : Prop :=
  (∀ (l : Fin 32) (d : List (List Nat)), Happens (fun dt => .loopSample dt l d) (fun h => h.ready 15 = true ∧ sampleDue
    (h.each (List.range ((l : Nat) + 1)) catchUp) l = true) (fun h u => let s := ((h.each (List.range ((l : Nat) + 1))
    catchUp)); u = computeSample d l (s.each (coinciding s l) (computeSample d)))) ∧
  (∀ (l : Fin 32) (d : List (List Nat)), Happens (fun dt => .loopSample dt l d) (fun h => h.ready 15 = true ∧ sampleDue
    (h.each (List.range ((l : Nat) + 1)) catchUp) l = false) (fun h u => u = (h.each (List.range ((l : Nat) + 1)) catchUp))) ∧
  (∀ (h : Hw) (l : Nat) (d : List (List Nat)), ¬ (coefN h l 3 % 65536 ≠ 0 ∧ coefN h l 3 % 65536 ≤ (if sourceNew h l = true
    then 0 else (h.loop l).unchanged + 1)) → (let n := (if sourceNew h l = true then 0 else (h.loop l).unchanged + 1); let t
    := (h.updLoop l (fun x =>
    { x with unchanged := n, taken := if sourceNew h l = true then sourceCount h l else x.taken })); let j := (injections t
    l); let s := (j.2.setFld (CLE_STATUS_stale l) 0); let x := (sat32 (shr16 ((rawValue s l d - coefI s l 5) * coefI s l 4) +
    j.1.2.1)); let w := (s.cond (s.loop l).fresh (fun s => startLoop s l x)); let v := (completeSample w l (loopTerms w l x
    j.1.1 j.1.2.2 (j.1.1 + j.1.2.1 + shr16 j.1.2.2))); let z := (testConsume v l 1); computeSample d l h = (if byMains z l =
    true ∧ z.flag CLE_MAINS_valid = false then z else goTo z l (instantNow z l + 1)))) ∧
  (∀ (h : Hw) (l : Nat) (d : List (List Nat)), coefN h l 3 % 65536 ≠ 0 ∧ coefN h l 3 % 65536 ≤ (if sourceNew h l = true then
    0 else (h.loop l).unchanged + 1) → (let n := (if sourceNew h l = true then 0 else (h.loop l).unchanged + 1); let t :=
    (h.updLoop l (fun x => { x with unchanged := n, taken := if sourceNew h l = true then sourceCount h l else x.taken }));
    let j := (injections t l); let v := (staleSample j.2 l (j.1.1 + j.1.2.1 + shr16 j.1.2.2)); let z := (testConsume v l 1);
    computeSample d l h = (if byMains z l = true ∧ z.flag CLE_MAINS_valid = false then z else goTo z l (instantNow z l +
    1)))) ∧
  (∀ (h : Hw) (l : Nat) (x a y z : Int), (let t := (loopTerms h l x a y z); t.x = x ∧ t.r = sat32 (slewed (h.int (CLE_R l))
    (h.int (CLE_SETPT l)) (coefN h l 9)) ∧ t.e = sat32 (t.r + a - x) ∧ t.p = coefI h l 0 * t.e ∧ t.d = shr16 ((coefN h l 3 /
    65536 : Nat) * (h.loop l).d + (65536 - (coefN h l 3 / 65536 : Nat)) * coefI h l 2 * ((h.loop l).xPrev - x)) ∧ t.ff =
    coefI h l 10 * 65536 + repPart h l ∧ t.injU = y ∧ t.inj = z)) ∧
  (∀ (h : Hw) (l : Nat) (t : Terms13), l < 32 → loopMode h l = 2 → h.fld (CLE_CFG_dst_kind l) = 0 → coefI h l 6 ≤ coefI h l 7
    → (let y := ((completeSample h l t).int (CLE_Y l)); ∃ v, coefI h l 6 ≤ v ∧ v ≤ coefI h l 7 ∧ y = sat32 (slewed (h.int
    (CLE_Y l)) v (coefN h l 8)))) ∧
  (∀ l : Fin 32, Happens (fun dt => .deadlineMiss dt l) (fun h => h.ready 15 = true ∧ loopMode h l ≠ 0 ∧ (byMains h l = true
    → h.flag CLE_MAINS_valid = true ∧ (h.loop l).cycle = h.num64 MCV_MAINS_T) ∧ instantNext h l < instantNow h l) (fun h u =>
    u = goTo (missSamples h l (instantNow h l - instantNext h l)) l (instantNow h l))) ∧
  (∀ (h : Hw) (l n : Nat), n ≠ 0 → (let m := ((h.loop l).misses); let s := (h.cond (m.1 != h.second) (fun s => s.raise 0x0F01
    [l, if m.1 + 1 = h.second then m.2 else 0])); let v := (s.updLoop l (fun x =>
    { x with misses := if m.1 = h.second then (m.1, m.2 + n) else (h.second, n) })); let w := (((v.setFld (CLE_STATUS_miss l)
    1).setFld (CLE_LATCH_miss l) 1).count (CLE_MISS l) n); missSamples h l n = testConsume (w.pmc 0x0A1 n) l n)) ∧
  (RunsOk .aouWrite opAouWrite (fun b c => ((List.range (u8 c.p 0)).findSome? fun j => writeRefused b (u8 (aouItem c.p j) 0))
    = none) (fun b c e pl => e = b.each (List.range (u8 c.p 0)) (fun j s => aouWrite s (u8 (aouItem c.p j) 0) (u16 (aouItem
    c.p j) 2) 0) ∧ pl = toBE 8 (nextUpdate b % 2 ^ 64))) ∧
  (∀ (h : Hw) (o k w : Nat), o < 24 → k < 65536 → w < 4 → (h.ready 15 = true ∧ h.flag (AOU_OSTAT_ranging o) = false → (let t
    := (aouWrite h o k w); t.fld (AOU_CODE_code o) = k ∧ t.fld (AOU_CODE_writer o) = w ∧ t.flag (AOU_CODE_never_written o) =
    false ∧ t.flag (AOU_OSTAT_at_safe o) = false ∧ (t.aouOut o).want = k ∧ keeps [0x10] [.aou] h t)) ∧ (h.ready 15 = false ∨
    h.flag (AOU_OSTAT_ranging o) = true → aouWrite h o k w = h)) ∧
  (Happens .outputUpdate (fun h => h.ready 15 = true ∧ h.dtime % 1000 = 0 ∧ h.aou.instant < h.dtime / 1000) (fun h u => u =
    (({ h with aou := { h.aou with instant := h.dtime / 1000 } } : Hw).each [0, 1, 2, 3] fun g s => genRun (h.dtime / 1000 -
    h.aou.instant - 1) g (genStep g s)).each outputs outStep)) ∧
  (∀ (h : Hw) (o : Nat), o < 24 → (h.aouOut o).change = none → h.flag (AOU_OSTAT_ranging o) = false → (h.flag
    (AOU_OSTAT_dither_on o) = false ∨ isGate h o = true → outStep o h = driveOut h o (h.aouOut o).want) ∧ (h.flag
    (AOU_OSTAT_dither_on o) = true → isGate h o = false → ((outStep o h).aouOut o).drive = (clampI 0 65535 (((h.aouOut
    o).want : Int) + ((h.fld (AOU_DITHER_amp o) : Int) * genSample h (h.fld (AOU_DITHER_gen o))) / 32768)).toNat)) ∧
  (∀ (o : Fin 24) (k : Nat), Happens (fun dt => .gateWrite dt o) (fun h => h.ready 15 = true ∧ (h.aouOut o).gate = some k)
    (fun h u => u = driveOut (h.updOut o fun x => { x with gate := none, want := k }) o k))

/-- Each clause says of the row it names, in every state and for all operands that meet the condition it names, that exec
  answers the next state that follows from the effect it names. Of a request row a clause speaks wherever the request is
  taken up: it passes the checks, nothing refuses it and the domains it touches are ready; the request then completes with
  OK, or, where the clause says so, is accepted and waits. (1) AOU_RANGE_SET of an output with no range change asked for,
  that no loop owns, and that FES owns only for units in DARK: the change waits for the next update with its range and code
  and the range before, and the request waits for its end. (2) AOU_SAFE_SET writes the safe code, and an output at its safe
  code is to drive the new one. (3) AOU_DITHER_SET of an output that is neither a gate nor a stage's bias writes generator,
  amplitude and enable. (4) AOU_GEN_SET of a generator that no stage names as its pilot, or that changes neither its phase
  nor its increment: the increment and the phase that its flags ask for wait for the next update, whose DTIME is returned.
  (5) AOU_TABLE_LOAD without sine and without declaring writes its entries. (6) AOU_TABLE_LOAD with sine, or with declaring
  of a table that is then whole: the table is filled with the sine if asked, its entries are written, and it is declared with
  event 0x0C07. (7) AOU_STATUS_READ returns the tables' and the latched word, five words of each of its outputs and DTIME,
  and changes nothing. (8) COMPLIANCE_FAIL of an output not flagged yet that is to drive 1 % of span or more, with D15 ready:
  it is flagged and latched, event 0x1001 carries output, code and range, and the units that name it have a fault with cause
  1. (9) COMPLIANCE_REGAINED of a flagged output, with D15 ready: it is flagged no more, and event 0x1002 carries the output
  and the time in µs. (10) RANGE_SWITCH 1 µs after a range change has begun: the output has its new range. (11)
  RANGE_CHANGE_COMPLETE 21 µs after a range change has begun, with its range in force: it runs no more, an output not held
  for FES takes the new code, event 0x1003 carries output and both ranges, and the request that waits has its outcome OK.
  Cites 14_analogue_outputs.md. -/
def Obligations.OutputRequestsAndRanges : Prop :=
  (RunsOn .aouRangeSet opAouRangeSet (fun b c => (b.aouOut (u8 c.p 0)).change = none ∧ cleOwns b (u8 c.p 0) = false ∧
    (fesOwners b (u8 c.p 0) = [] ∨ (fesOwners b (u8 c.p 0)).all (fun u => b.fld (FES_STATE_state u) == 0) = true)) (fun b c e
    w => w = Wait.rangeChange (u8 c.p 0) ∧ e = b.updOut (u8 c.p 0) fun x =>
    { x with change := some (u8 c.p 1, u16 c.p 2, b.fld (AOU_OCFG_range (u8 c.p 0)), if (fesOwners b (u8 c.p 0)).isEmpty then 0 else 1) })) ∧
  (RunsOk .aouSafeSet opAouSafeSet (fun _ _ => True) (fun b c e pl => pl = [] ∧ (let s := (b.setFld (AOU_OCFG_safe (u8 c.p
    0)) (u16 c.p 1)); e = if b.flag (AOU_OSTAT_at_safe (u8 c.p 0)) = true then s.updOut (u8 c.p 0) fun x =>
    { x with want := u16 c.p 1 } else s))) ∧
  (RunsOk .aouDitherSet opAouDitherSet (fun b c => isGate b (u8 c.p 0) = false ∧ isStageBias b (u8 c.p 0) = false) (fun b c e
    pl => pl = [] ∧ e = ((b.setFld (AOU_DITHER_gen (u8 c.p 0)) (u8 c.p 1)).setFld (AOU_DITHER_amp (u8 c.p 0)) (u16 c.p
    3)).setFld (AOU_OSTAT_dither_on (u8 c.p 0)) (bit (u8 c.p 2) 0))) ∧
  (RunsOk .aouGenSet opAouGenSet (fun b c => (genNamed b (u8 c.p 0) && (hasBit (u8 c.p 1) 1 || hasBit (u8 c.p 1) 0 && u32 c.p
    2 != b.num (AOU_GEN_INC (u8 c.p 0)))) = false) (fun b c e pl => pl = toBE 8 (nextUpdate b % 2 ^ 64) ∧ e =
    { b with aou := { b.aou with gens := Map.upd {} b.aou.gens (u8 c.p 0) fun w => { w with inc := if hasBit (u8 c.p 1) 0 = true then some (u32 c.p 2) else w.inc, phase := if hasBit (u8 c.p 1) 1 = true then some (u32 c.p 6) else w.phase } } })) ∧
  (RunsOk .aouTableLoad opAouTableLoad (fun _ c => hasBit (u8 c.p 1) 1 = false ∧ hasBit (u8 c.p 1) 0 = false) (fun b c e pl
    => pl = [] ∧ e = loadEntries b (u8 c.p 0) (u16 c.p 2) (u16 c.p 4) (c.p.drop 6))) ∧
  (RunsOk .aouTableLoad opAouTableLoad (fun b c => hasBit (u8 c.p 1) 1 = true ∨ (hasBit (u8 c.p 1) 0 = true ∧ coverFull
    (loadEntries b (u8 c.p 0) (u16 c.p 2) (u16 c.p 4) (c.p.drop 6)) (3 + u8 c.p 0) = true)) (fun b c e pl => pl = [] ∧ e =
    (setDeclared (loadEntries (b.cond (hasBit (u8 c.p 1) 1) fun s => fillSine s (u8 c.p 0)) (u8 c.p 0) (u16 c.p 2) (u16 c.p
    4) (c.p.drop 6)) (3 + u8 c.p 0) true).raise 0x0C07 [3 + u8 c.p 0, Map.get 0 b.mem.preN (3 + u8 c.p 0)])) ∧
  (RunsOk .aouStatusRead opAouStatusRead (fun _ _ => True) (fun b c e pl => e = b ∧ pl = b.wordsAt ([AOU_TBL, AOU_LATCH] ++
    (bitsOf 24 (u32 c.p 0)).flatMap outWords) ++ b.dtimeBytes)) ∧
  (∀ o : Fin 24, Happens (fun dt => .complianceFail dt o) (fun h => h.ready 15 = true ∧ h.flag (AOU_OSTAT_comp o) = false ∧
    65535 ≤ 100 * ((h.aouOut o).gate.getD (h.aouOut o).want)) (fun h u => let s := ((((h.setFld (AOU_OSTAT_comp o) 1).setFld
    (AOU_OLATCH_comp o) 1).setFld AOU_LATCH_comp (setBit (h.fld AOU_LATCH_comp) o true)).updOut o (fun x =>
    { x with compAt := h.dtime })); u = (s.raise 0x1001 [o, (h.aouOut o).gate.getD (h.aouOut o).want, h.fld (AOU_OCFG_range
    o)]).each (fesOwners h o) fun n s => setFault s n 1 o)) ∧
  (∀ o : Fin 24, Happens (fun dt => .complianceRegained dt o) (fun h => h.ready 15 = true ∧ h.flag (AOU_OSTAT_comp o) = true)
    (fun h u => u = (h.setFld (AOU_OSTAT_comp o) 0).raise 0x1002 [o, (h.dtime - (h.aouOut o).compAt) / 1000])) ∧
  (∀ (o : Fin 24) (r k old keep : Nat), Happens (fun dt => .rangeSwitch dt o) (fun h => (h.aouOut o).change = some (r, k,
    old, keep) ∧ h.flag (AOU_OSTAT_ranging o) = true ∧ (h.aouOut o).changeAt + 1000 ≤ h.dtime) (fun h u => u = h.setFld
    (AOU_OCFG_range o) r)) ∧
  (∀ (o : Fin 24) (r k old keep : Nat), Happens (fun dt => .rangeChangeComplete dt o) (fun h => (h.aouOut o).change = some
    (r, k, old, keep) ∧ h.flag (AOU_OSTAT_ranging o) = true ∧ h.fld (AOU_OCFG_range o) = r ∧ (h.aouOut o).changeAt + 21000 ≤
    h.dtime) (fun h u => let s := ((h.setFld (AOU_OSTAT_ranging o) 0).updOut o (fun x => { x with change := none })); u =
    setOutcome ((s.cond (keep != 1) fun s => driveOut (aouWrite s o k 0) o k).raise 0x1003 [o, old, r]) (isRange o) stOK 0))

/-- Of a request row a clause speaks wherever the request is taken up: it passes the checks, nothing refuses it and the
  domains it touches are ready; the request then completes with OK, or, where the clause says so, is accepted and waits. (1)
  MCV_CONFIG writes source, fallback and tolerance; a change to the pin's detector starts that afresh, with no valid period.
  (2) MCV_SEQ_LOAD without declaring writes its entries. (3) MCV_SEQ_LOAD with declaring of a table that is then whole writes
  them and declares it, with event 0x0C07. (4) MCV_SEQ_STORE of a declared table marks it as stored. (5) MCV_SEQ_READ of a
  declared table returns the words of its entries as they read, and changes nothing. (6) MCV_RESULT_READ returns tag and
  result of each of its entries and DTIME, and changes nothing. (7) MCV_PLAUS_RUN of pairs with no converter quarantined
  begins that many rounds on each, and waits. (8) MCV_UNQUARANTINE of a quarantined converter whose partner is not begins
  eight rounds on its pair, and waits. (9) MCV_STATUS_READ returns the registers and DTIME, and with bit 0 of its flags sets
  the counters to 0. (10) PLAUS_ROUND_END 4004 µs after a round began, with D16 ready, of a round within the tolerance that
  is not the last: the errors are noted, the round is passed, the largest difference kept, and the next begins. (11)
  PLAUS_ROUND_END of the last round, within the tolerance: the errors are noted, and the run has passed. (12) PLAUS_ROUND_END
  of a round outside the tolerance: the errors are noted, and the run has failed. (13) A run that has failed with neither
  converter quarantined before quarantines the one with the greater error, the second of the pair if they are equal, ends,
  and is counted and latched. Cites 15_monitor_conversion.md. -/
def Obligations.ConverterRequestsAndPlausibility : Prop :=
  (RunsOk .mcvConfig opMcvConfig (fun _ _ => True) (fun b c e pl => pl = [] ∧ (let s := (((b.setFld MCV_CFG_mains_src (u8 c.p
    0)).setFld MCV_CFG_fallback (u8 c.p 1)).setFld MCV_CFG_tol (u16 c.p 2)); e = if u8 c.p 0 = 0 ∧ mainsSrc b ≠ 0 then
    { (s.setFld MCV_MAINS_valid 0).setFld MCV_MAINS_fallback 1 with mcv := { s.mcv with edge := none, period := 0, goodRun := 0 } }
    else s))) ∧
  (RunsOk .mcvSeqLoad opMcvSeqLoad (fun _ c => hasBit (u8 c.p 2) 0 = false) (fun b c e pl => pl = [] ∧ e = putWords b
    (MCV_SEQ (u8 c.p 0) 0) ((List.range (8 * u8 c.p 1)).map fun i => u32 c.p (4 + 4 * i)))) ∧
  (RunsOk .mcvSeqLoad opMcvSeqLoad (fun b c => hasBit (u8 c.p 2) 0 = true ∧ coverFull (putWords b (MCV_SEQ (u8 c.p 0) 0)
    ((List.range (8 * u8 c.p 1)).map fun i => u32 c.p (4 + 4 * i))) 2 = true) (fun b c e pl => pl = [] ∧ e = (setDeclared
    (putWords b (MCV_SEQ (u8 c.p 0) 0) ((List.range (8 * u8 c.p 1)).map fun i => u32 c.p (4 + 4 * i))) 2 true).raise 0x0C07
    [2, Map.get 0 b.mem.preN 2])) ∧
  (RunsOk .mcvSeqStore opMcvSeqStore (fun b _ => b.flag MCV_STATUS_declared = true) (fun b _ e pl => pl = [] ∧ e = b.setFld
    MCV_STATUS_stored 1)) ∧
  (RunsOk .mcvSeqRead opMcvSeqRead (fun b _ => b.declared 2 = true) (fun b c e pl => e = b ∧ pl = (List.range (8 * u8 c.p
    1)).flatMap fun i => toBE 4 (tableWord b (MCV_SEQ (u8 c.p 0) 0 + i)).toNat)) ∧
  (RunsOk .mcvResultRead opMcvResultRead (fun _ _ => True) (fun b c e pl => e = b ∧ pl = b.wordsAt ((bitsOf 64 (un c.p 0
    8)).flatMap fun i => [MCV_TAG i, MCV_RES i]) ++ b.dtimeBytes)) ∧
  (RunsOn .mcvPlausRun opMcvPlausRun (fun b c => ((bitsOf 2 (u8 c.p 0)).any fun p => (pairConvs p).any (quarantined b)) =
    false) (fun b c e w => w = Wait.plaus (u8 c.p 0) ∧ e = b.each (bitsOf 2 (u8 c.p 0)) fun p s => beginPlaus s p
    { total := u8 c.p 1, why := 1 })) ∧
  (RunsOn .mcvUnquarantine opMcvUnquarantine (fun b c => quarantined b (u8 c.p 0) = true ∧ quarantined b (convPartner (u8 c.p
    0)) = false) (fun b c e w => w = Wait.unquar (u8 c.p 0) ∧ e = beginPlaus b (pairOf (u8 c.p 0))
    { total := 8, why := 2, conv := u8 c.p 0 })) ∧
  (RunsOk .mcvStatusRead opMcvStatusRead (fun _ _ => True) (fun b c e pl => e = b.cond (hasBit (u8 c.p 0) 0) (fun s =>
    s.zeroRegs mcvCounters) ∧ pl = b.wordsAt mcvRegs ++ b.dtimeBytes)) ∧
  (∀ (p : Fin 2) (a b x y : Nat) (z : Plaus), Happens (fun dt => .plausRoundEnd dt p a b x y) (fun h => h.ready 16 = true ∧
    Map.get none h.mcv.plaus p = some z ∧ z.since + 4004000 ≤ h.dtime ∧ max (absDiff a b) (absDiff x y) ≤ h.fld MCV_CFG_tol ∧
    z.passed + 1 < z.total) (fun h u => let s :=
    ({ h with mcv := { h.mcv with errs := Map.put 0 (Map.put 0 h.mcv.errs (2 * (p : Nat)) (max (absDiff a (h.fld MCV_CHECK_NOM_nominal)) x)) (2 * (p : Nat) + 1) (max (absDiff b (h.fld MCV_CHECK_NOM_nominal)) y) } });
    u =
    { s with mcv := { s.mcv with plaus := Map.put none s.mcv.plaus p (some { z with passed := z.passed + 1, most := max z.most (max (absDiff a b) (absDiff x y)), since := h.dtime }) } })) ∧
  (∀ (p : Fin 2) (a b x y : Nat) (z : Plaus), Happens (fun dt => .plausRoundEnd dt p a b x y) (fun h => h.ready 16 = true ∧
    Map.get none h.mcv.plaus p = some z ∧ z.since + 4004000 ≤ h.dtime ∧ max (absDiff a b) (absDiff x y) ≤ h.fld MCV_CFG_tol ∧
    z.total ≤ z.passed + 1) (fun h u => let s :=
    ({ h with mcv := { h.mcv with errs := Map.put 0 (Map.put 0 h.mcv.errs (2 * (p : Nat)) (max (absDiff a (h.fld MCV_CHECK_NOM_nominal)) x)) (2 * (p : Nat) + 1) (max (absDiff b (h.fld MCV_CHECK_NOM_nominal)) y) } });
    u = plausPassed s p z (max z.most (max (absDiff a b) (absDiff x y))))) ∧
  (∀ (p : Fin 2) (a b x y : Nat) (z : Plaus), Happens (fun dt => .plausRoundEnd dt p a b x y) (fun h => h.ready 16 = true ∧
    Map.get none h.mcv.plaus p = some z ∧ z.since + 4004000 ≤ h.dtime ∧ h.fld MCV_CFG_tol < max (absDiff a b) (absDiff x y))
    (fun h u => let s :=
    ({ h with mcv := { h.mcv with errs := Map.put 0 (Map.put 0 h.mcv.errs (2 * (p : Nat)) (max (absDiff a (h.fld MCV_CHECK_NOM_nominal)) x)) (2 * (p : Nat) + 1) (max (absDiff b (h.fld MCV_CHECK_NOM_nominal)) y) } });
    u = plausFailed s p z (max z.most (max (absDiff a b) (absDiff x y))) (max (absDiff a (h.fld MCV_CHECK_NOM_nominal)) x)
    (max (absDiff b (h.fld MCV_CHECK_NOM_nominal)) y) [absDiff a (h.fld MCV_CHECK_NOM_nominal), x, absDiff b (h.fld
    MCV_CHECK_NOM_nominal), y])) ∧
  (∀ (h : Hw) (p most ea eb : Nat) (z : Plaus) (l : List Nat), p < 2 → quarantined h (2 * p) = false → quarantined h (2 * p +
    1) = false → (let t := (plausFailed h p z most ea eb l); (eb < ea → quarantined t (2 * p) = true) ∧ (ea ≤ eb →
    quarantined t (2 * p + 1) = true) ∧ Map.get none t.mcv.plaus p = none ∧ t.flag MCV_LATCH_plaus_fail = true ∧ t.num
    MCV_PLAUS_FAIL = min (h.num MCV_PLAUS_FAIL + 1) (2 ^ 32 - 1)))

/-- (1) SUPPRESSION_END of a converter whose suppression time has passed, with D16 ready: its window begins. (2) A window
  begins now: its length is the entry's, or, for a mains window, the valid period or else the fixed fallback. (3)
  CONVERSION_WINDOW_END of a converter at the end of its window, with a number of balancing periods that fits its length, of
  which some delivered charge, with D16 ready: the result is published, as over range where fewer than 0.1 % or more than
  99.9 % did, and the converter goes on. (4) A published result of an entry below 64 stands in its register, with a sequence
  number one higher, not suppressed, not quarantined, and with its converter, its overrange and its fallback mark in the tag.
  (5) After a window with repeats left the next window begins; after the last one the entry's delay, or, with no delay, the
  next entry. (6) ENTRY_DELAY_END of a converter whose entry's delay has passed, with D16 ready: it goes on from the next
  entry. (7) A converter that goes on begins a visit of the first entry from there on that it runs, if that is one that can
  run, and with no entry to run, no declared table or in plausibility rounds it is idle. (8) MAINS_EDGE with the pin as
  source, the first, with D16 ready: its time is 20 µs ago. (9) MAINS_EDGE likewise, 10 ms or more after the last, with a
  period of 48 to 62 Hz: edge and period are noted; a period within 1 % of the one before adds to the good ones in a row, and
  with four the period is valid, with event 0x1108. (10) MAINS_EDGE likewise, with a period out of that range: edge and
  period are noted, and the period becomes invalid with cause 1. (11) MAINS_TIMEOUT with the pin as source and no edge for 25
  ms, with D16 ready: the detector has neither edge nor period, and the period becomes invalid with cause 0. (12) A valid
  period that becomes invalid falls back, is latched as lost and counted, and event 0x1107 carries it and the cause; one that
  is invalid changes nothing but the good periods in a row, which are none. Cites 15_monitor_conversion.md. -/
def Obligations.ConversionsAndMains : Prop :=
  (∀ k : Fin 4, Happens (fun dt => .suppressionEnd dt k) (fun h => h.ready 16 = true ∧ (h.conv k).phase = 1 ∧ (h.conv
    k).since + profSuppression (eProf (h.conv k).words) ≤ h.dtime) (fun h u => u = beginWindow h k (h.conv k).words)) ∧
  (∀ (h : Hw) (k : Nat) (w : List Nat), beginWindow h k w = h.updConv k fun x =>
    { x with phase := 2, since := h.dtime, len := if eMains w = true then (if h.flag MCV_MAINS_valid = true then h.fld MCV_MAINS_period * 10 else if h.flag MCV_CFG_fallback = true then 16666670 else 20000000) else eWindow w * 1000, fellBack := eMains w && !h.flag MCV_MAINS_valid }) ∧
  (∀ (k : Fin 4) (ones n fir : Nat), Happens (fun dt => .conversionWindowEnd dt k ones n fir) (fun h => h.ready 16 = true ∧
    (h.conv k).phase = 2 ∧ n ≠ 0 ∧ periodsFit (h.conv k).len n = true ∧ ones ≤ n ∧ (h.conv k).since + (h.conv k).len ≤
    h.dtime) (fun h u => u = afterWindow (publishResult h k (windowResult (h.conv k).words ones n fir) (decide (999 * n <
    ones * 1000) || decide (ones * 1000 < n))) k)) ∧
  (∀ (h : Hw) (k : Nat) (r : Int) (o : Bool), k < 4 → (h.conv k).entry < 64 → -(2 : Int) ^ 31 ≤ r → r < (2 : Int) ^ 31 → (let
    t := (publishResult h k r o); let i := ((h.conv k).entry); t.int (MCV_RES i) = r ∧ t.fld (MCV_TAG_seq i) = (h.fld
    (MCV_TAG_seq i) + 1) % 65536 ∧ t.flag (MCV_TAG_suppressed i) = false ∧ t.flag (MCV_TAG_quarantined i) = false ∧ t.fld
    (MCV_TAG_converter i) = k ∧ t.flag (MCV_TAG_overrange i) = o ∧ t.flag (MCV_TAG_fallback i) = (h.conv k).fellBack)) ∧
  (∀ (h : Hw) (k : Nat), (1 < (h.conv k).left → afterWindow h k = beginWindow (h.updConv k fun y =>
    { y with left := y.left - 1 }) k (h.conv k).words) ∧ ((h.conv k).left ≤ 1 → eDelay (h.conv k).words ≠ 0 → afterWindow h k
    = h.updConv k fun y => { y with left := 0, phase := 3, since := h.dtime }) ∧ ((h.conv k).left ≤ 1 → eDelay (h.conv
    k).words = 0 → afterWindow h k = goOn h k ((h.conv k).entry + 1))) ∧
  (∀ k : Fin 4, Happens (fun dt => .entryDelayEnd dt k) (fun h => h.ready 16 = true ∧ (h.conv k).phase = 3 ∧ (h.conv k).since
    + eDelay (h.conv k).words * 1000 ≤ h.dtime) (fun h u => u = goOn h k ((h.conv k).entry + 1))) ∧
  (∀ (h : Hw) (k n i : Nat) (l : List Nat), (entriesOf h k = [] ∨ h.declared 2 = false ∨ inPlaus h k = true → goOn h k n =
    h.updConv k fun x => { x with phase := 0, resume := 0 }) ∧ (h.declared 2 = true → inPlaus h k = false → (entriesOf h
    k).filter (n ≤ ·) = i :: l → entryFault h i = none → goOn h k n = beginVisit h k i)) ∧
  (Happens .mainsEdge (fun h => h.ready 16 = true ∧ mainsSrc h = 0 ∧ h.mcv.edge = none) (fun h u => u =
    { h.setNum64 MCV_MAINS_T ((h.dtime - 20000) % 2 ^ 64) with mcv := { h.mcv with edge := some (h.dtime - 20000) } })) ∧
  (∀ t : Nat, Happens .mainsEdge (fun h => h.ready 16 = true ∧ mainsSrc h = 0 ∧ h.mcv.edge = some t ∧ t + 10 ^ 7 ≤ h.dtime -
    20000 ∧ 10 ^ 9 ≤ (h.dtime - 20000 - t) * 62 ∧ (h.dtime - 20000 - t) * 48 ≤ 10 ^ 9) (fun h u => let s :=
    ({ h.setNum64 MCV_MAINS_T ((h.dtime - 20000) % 2 ^ 64) with mcv := { h.mcv with edge := some (h.dtime - 20000), period := (h.dtime - 20000 - t) } });
    let v :=
    ({ s.setFld MCV_MAINS_period ((h.dtime - 20000 - t) / 10) with mcv := { s.mcv with goodRun := (if h.mcv.period ≠ 0 ∧ 100 * (max (h.dtime - 20000 - t) h.mcv.period - min (h.dtime - 20000 - t) h.mcv.period) ≤ h.mcv.period then h.mcv.goodRun + 1 else 0) } });
    u = v.cond (decide (4 ≤ (if h.mcv.period ≠ 0 ∧ 100 * (max (h.dtime - 20000 - t) h.mcv.period - min (h.dtime - 20000 - t)
    h.mcv.period) ≤ h.mcv.period then h.mcv.goodRun + 1 else 0)) && !v.flag MCV_MAINS_valid) fun s => ((s.setFld
    MCV_MAINS_valid 1).setFld MCV_MAINS_fallback 0).raise 0x1108 [(h.dtime - 20000 - t) / 10])) ∧
  (∀ t : Nat, Happens .mainsEdge (fun h => h.ready 16 = true ∧ mainsSrc h = 0 ∧ h.mcv.edge = some t ∧ t + 10 ^ 7 ≤ h.dtime -
    20000 ∧ ¬ (10 ^ 9 ≤ (h.dtime - 20000 - t) * 62 ∧ (h.dtime - 20000 - t) * 48 ≤ 10 ^ 9)) (fun h u => let s :=
    ({ h.setNum64 MCV_MAINS_T ((h.dtime - 20000) % 2 ^ 64) with mcv := { h.mcv with edge := some (h.dtime - 20000), period := (h.dtime - 20000 - t) } });
    u = mainsInvalid s 1)) ∧
  (∀ t : Nat, Happens .mainsTimeout (fun h => h.ready 16 = true ∧ mainsSrc h = 0 ∧ h.mcv.edge = some t ∧ t + 25 * 10 ^ 6 ≤
    h.dtime) (fun h u => u = mainsInvalid { h with mcv := { h.mcv with edge := none, period := 0 } } 0)) ∧
  (∀ (h : Hw) (k : Nat), (let s := ({ h with mcv := { h.mcv with goodRun := 0 } }); mainsInvalid h k = if h.flag
    MCV_MAINS_valid = true then ((((s.setFld MCV_MAINS_valid 0).setFld MCV_MAINS_fallback 1).setFld MCV_LATCH_mains_lost
    1).count MCV_MAINS_LOST).raise 0x1107 [h.fld MCV_MAINS_period, k] else s))

/-- Each clause says of the row it names, in every state and for all operands that meet the condition it names, that exec
  answers the next state that follows from the effect it names. Of a request row a clause speaks wherever the request is
  taken up: it passes the checks, nothing refuses it and the domains it touches are ready; the request then completes with
  OK, or, where the clause says so, is accepted and waits. (1) GTH_CONFIG with no capture running writes sources and
  decimation, loops, entries, the event filter, segments, post-trigger blocks, pre-trigger blocks and hold-off. (2)
  GTH_TRIG_CONFIG with no capture running writes enables, direction, threshold kind, signal and index, level and event
  filter, and the threshold has seen no value. (3) GTH_ARM with a source and a trigger enabled empties segments, counters and
  stores, begins segment 0, and returns DTIME. (4) GTH_TRIGGER with its source enabled offers it as a candidate now, at a
  free part of the nanosecond, and returns whether it was accepted, and the time. (5) GTH_TRIGGER with its source disabled is
  not accepted. (6) GTH_STOP ends the capture: unless it is done, its current segment closes as truncated; event 0x1203
  carries the segment and its blocks, gaps still open are counted, and no record waits. (7) GTH_READ of a closed segment that
  has the blocks asked for returns their number, at most 22 in-band, and their bytes, and changes nothing. (8)
  GTH_STATUS_READ returns the capture's registers and DTIME, and changes nothing. (9) GTH_PMC_CONFIG of a performance counter
  that does not run writes its event and overflow flag. (10) GTH_PMC_CTRL 0 runs its counters and marks both groups' slots as
  the start; DTIME is returned. (11) GTH_PMC_CTRL 1 stops them and marks the stop. (12) GTH_PMC_CTRL 2 sets them to 0. (13)
  GTH_COUNT_READ returns each of its counters with DTIME, and changes nothing. (14) GTH_COUNTER_OPEN sets whether observers
  may read the counters, and event 0x1205 carries that and the session. Cites 16_gather_counters.md. -/
def Obligations.GatherRequests : Prop :=
  (RunsOk .gthConfig opGthConfig (fun b _ => gthIdle b = true) (fun b c e pl => pl = [] ∧ e = ((((((((b.setNum GTH_SRC (u8
    c.p 1 * 65536 + u8 c.p 0)).setNum GTH_SRC_LOOPS (u32 c.p 4)).setNum64 GTH_SRC_MCV (un c.p 8 8)).setNum GTH_SRC_EVF (u32
    c.p 16)).setFld GTH_CAP_segs_log2 (u8 c.p 2)).setFld GTH_CAP_post (u32 c.p 20)).setFld GTH_PRE_pre_min (u32 c.p
    24)).setFld GTH_HOLD_holdoff_us (u16 c.p 28)).setFld GTH_HOLD_holdoff_n (u16 c.p 30))) ∧
  (RunsOk .gthTrigConfig opGthTrigConfig (fun b _ => gthIdle b = true) (fun b c e pl => pl = [] ∧ e = ((updGth (((((b.setFld
    GTH_TRIG_enable (u8 c.p 0)).setFld GTH_TRIG_dir (u8 c.p 1)).setFld GTH_TRIG_thr_kind (u8 c.p 2)).setFld GTH_TRIG_thr_sig
    (u8 c.p 3)).setFld GTH_TRIG_thr_idx (u8 c.p 4)) fun x => { x with signal := none }).setNum GTH_TRIG_LVL (u32 c.p
    8)).setNum GTH_TRIG_EVT (u32 c.p 12))) ∧
  (RunsOk .gthArm opGthArm (fun b _ => b.num GTH_SRC % 32 ≠ 0 ∧ b.fld GTH_TRIG_enable ≠ 0) (fun b _ e pl => pl = b.dtimeBytes
    ∧ e = beginSegment (updGth ((b.each (List.range 16) fun g s => (s.zeroRegs [GTH_SEG g, GTH_SEG_TRIG g]).setNum64
    (GTH_SEG_T g) 0).zeroRegs [GTH_CULLETS, GTH_DROPPED, GTH_DROPPED + 1, GTH_TRIG_IGN]) fun x =>
    { x with stores := [], urgent := [], segs := [], seq := 0, post := 0, last := none, ign := 0, candAt := none, signal := none, keptAt := none })
    0)) ∧
  (RunsOk .gthTrigger opGthTrigger (fun b _ => hasBit (b.fld GTH_TRIG_enable) 0 = true) (fun b _ e pl => let t := (fine
    b.free.2 (b.free.1 % 64)); let r := (offer b.free.2 1 t); e = r.2 ∧ pl = toBE 1 (if r.1 = true then 1 else 0) ++ zeros 7
    ++ toBE 8 t)) ∧
  (RunsOk .gthTrigger opGthTrigger (fun b _ => hasBit (b.fld GTH_TRIG_enable) 0 = false) (fun b _ e pl => let t := (fine
    b.free.2 (b.free.1 % 64)); e = b.free.2 ∧ pl = toBE 1 0 ++ zeros 7 ++ toBE 8 t)) ∧
  (RunsOk .gthStop opGthStop (fun _ _ => True) (fun b _ e pl => pl = [] ∧ (let s := (b.cond (b.fld GTH_STATE_state != 4) (fun
    s => closeSegment s true)); let s := ((s.setFld GTH_STATE_state 4).raise 0x1203 [b.fld GTH_STATE_segment, (Map.get []
    b.gth.segs (b.fld GTH_STATE_segment)).length]); e = updGth ((s.gth.stores.filterMap fun (q : Nat × GStore) =>
    q.2.gap).foldl (fun (s : Hw) (q : Nat × Nat × Nat) => (s.count GTH_CULLETS).count64 GTH_DROPPED q.1) s) fun x =>
    { x with stores := [], urgent := [] }))) ∧
  (RunsOk .gthRead opGthRead (fun b c => b.flag (GTH_SEG_closed (u8 c.p 0)) = true ∧ u32 c.p 4 + u8 c.p 8 ≤ (Map.get []
    b.gth.segs (u8 c.p 0)).length) (fun b c e pl => e = b ∧ pl = toBE 1 (if c.rq.route = Route.inband then min 22 (u8 c.p 8)
    else u8 c.p 8) ++ zeros 7 ++ (((Map.get [] b.gth.segs (u8 c.p 0)).drop (u32 c.p 4)).take (if c.rq.route = Route.inband
    then min 22 (u8 c.p 8) else u8 c.p 8)).flatMap blockBytes)) ∧
  (RunsOk .gthStatusRead opGthStatusRead (fun _ _ => True) (fun b _ e pl => e = b ∧ pl = b.wordsAt gthRegs ++ b.dtimeBytes)) ∧
  (RunsOk .gthPmcConfig opGthPmcConfig (fun b c => b.flag (GTH_PMC_CFG_run (u8 c.p 0)) = false) (fun b c e pl => pl = [] ∧ e
    = (b.setFld (GTH_PMC_CFG_event (u8 c.p 0)) (u16 c.p 1)).setFld (GTH_PMC_CFG_ovf_evt (u8 c.p 0)) (bit (u8 c.p 3) 0))) ∧
  (RunsOk .gthPmcCtrl opGthPmcCtrl (fun _ c => u8 c.p 1 = 0) (fun b c e pl => pl = b.dtimeBytes ∧ e = (fun (s : Hw) => s.each
    [0, 1] fun g s => s.setNum64 (GTH_MARK_START g) (s.num64 (GTH_SLOTS g))) (b.each (bitsOf 8 (u8 c.p 0)) fun n s =>
    s.setFld (GTH_PMC_CFG_run n) 1))) ∧
  (RunsOk .gthPmcCtrl opGthPmcCtrl (fun _ c => u8 c.p 1 = 1) (fun b c e pl => pl = b.dtimeBytes ∧ e = (fun (s : Hw) => s.each
    [0, 1] fun g s => s.setNum64 (GTH_MARK_STOP g) (s.num64 (GTH_SLOTS g))) (b.each (bitsOf 8 (u8 c.p 0)) fun n s => s.setFld
    (GTH_PMC_CFG_run n) 0))) ∧
  (RunsOk .gthPmcCtrl opGthPmcCtrl (fun _ c => u8 c.p 1 = 2) (fun b c e pl => pl = b.dtimeBytes ∧ e = b.each (bitsOf 8 (u8
    c.p 0)) fun n s => s.setNum64 (GTH_PMC n) 0)) ∧
  (RunsOk .gthCountRead opGthCountRead (fun _ _ => True) (fun b c e pl => e = b ∧ pl = (bitsOf 10 (u16 c.p 0)).flatMap fun i
    => toBE 8 (b.num64 (countAddr i)) ++ b.dtimeBytes)) ∧
  (RunsOk .gthCounterOpen opGthCounterOpen (fun _ _ => True) (fun b c e pl => pl = [] ∧ e = (b.setFld GTH_CNT_CFG_obs (u8 c.p
    0)).raise 0x1205 [u8 c.p 0, c.sess]))

/-- Of a request row a clause speaks wherever the request is taken up: it passes the checks, nothing refuses it and the
  domains it touches are ready; the request then completes with OK, or, where the clause says so, is accepted and waits. (1)
  CAPTURE_BLOCK_WRITE with D17 ready takes the line codes, then the detector sets, each with its time, into their stores; in
  a capture the next waiting block, if any, is then written. (2) A block written with the capture ready joins its segment
  with the next sequence number, the oldest being dropped where the segment holds more than its size. (3) The block that goes
  next is the oldest urgent one, if there is one. (4) TRIGGER_CANDIDATE of a rising edge whose level has lasted 20 ns, with
  the pin's source enabled and D17 ready, is offered as a candidate at the edge's own moment. (5) A candidate, not in the
  nanosecond of the one before: with the capture ready, and the hold-off passed in time and in number since the last trigger,
  it is accepted, the segment is triggered at its time, its record goes ahead of all others, and event 0x1201 carries
  segment, sources and the number ignored; otherwise it is ignored and counted. (6) A value watched by the threshold that
  crosses its level since the value before, in the direction set, is offered as a candidate at the time of the crossing. (7)
  MEM_TABLE_FILL of a table whose precondition holds (no admitted flow for 0 and 1; its unit in DARK or WARM; its loop off)
  fills it with the pattern, tables 0 and 1 with their count of occupied entries, the stash with the rest, and none poisoned,
  and declares it, with event 0x0C07, if asked. (8) MEM_TABLE_DECLARE of a table that is whole declares it, with event
  0x0C07, and returns the errors met in it before. (9) MEM_CONFIG writes the five lap thresholds. (10) MEM_STATUS_READ
  returns the registers and DTIME, and with bit 0 of its flags sets the counters to 0. (11) MEM_LOG_READ returns the number
  of logged errors and the entries, newest first as they stand, and changes nothing. (12) MEM_REPAIR_READ returns the number
  of rows of its memory in the repair map and each row's bank, state and number, and changes nothing. Cites
  16_gather_counters.md, 13_control_engine.md, 17_memory_integrity.md, 08_flow_tables.md. -/
def Obligations.CaptureAndMemoryRequests : Prop :=
  (∀ (ls : List (Nat × Byte)) (ds : List (Nat × Nat)), Happens (fun dt => .captureBlockWrite dt ls ds) (fun h => h.ready 17 =
    true) (fun h u => let s := (ds.foldl (fun (s : Hw) (x : Nat × Nat) => detectorSet x.1 x.2 s) (ls.foldl (fun (s : Hw) (x :
    Nat × Byte) => lineSample x.1 x.2.toNat s) h)); u = s.cond (capturing s) fun s => (nextBlock s).elim s fun x =>
    writeBlock x.2 x.1)) ∧
  (∀ (h : Hw) (x : GBlock), h.fld GTH_STATE_state = 2 → (let l := (Map.get [] h.gth.segs (h.fld GTH_STATE_segment) ++
    [{ x with seq := h.gth.seq }]); Map.get [] (writeBlock h x).gth.segs (h.fld GTH_STATE_segment) = l.drop (l.length -
    segSize h) ∧ (writeBlock h x).gth.seq = (h.gth.seq + 1) % 2 ^ 32 ∧ (writeBlock h x).fld GTH_STATE_state = 2)) ∧
  (∀ (h : Hw) (x : GBlock) (l : List GBlock), h.gth.urgent = x :: l → nextBlock h = some (x, updGth h fun y =>
    { y with urgent := l })) ∧
  (∀ (ri : Bool) (hl fr : Nat), Happens (fun dt => .triggerCandidate dt ri hl fr) (fun h => h.ready 17 = true ∧ hasBit (h.fld
    GTH_TRIG_enable) 1 = true ∧ ri = true ∧ 20 ≤ hl) (fun h u => u = (offer h 2 ((h.dtime - hl) % 2 ^ 58 * 64 + fr)).2)) ∧
  (∀ (h : Hw) (k t : Nat), h.gth.candAt ≠ some (t / 64) → (let ok := (h.fld GTH_STATE_state = 2 ∧ ∀ l, h.gth.last = some l →
    l + h.fld GTH_HOLD_holdoff_us * 64000 ≤ t ∧ h.fld GTH_HOLD_holdoff_n ≤ h.gth.ign); let g := (h.fld GTH_STATE_segment);
    (ok → offer h k t = (true, updGth ((updGth (((h.setFld GTH_STATE_state 3).setFld (GTH_SEG_triggered g) 1).setNum64
    (GTH_SEG_T g) t) fun x =>
    { x with urgent := ⟨7, g, 0, 1, t, toBE 1 k ++ zeros 3 ++ toBE 4 h.gth.ign⟩ :: x.urgent, post := h.fld GTH_CAP_post, last := some t, ign := 0 }).raise
    0x1201 [g, k, h.gth.ign]) fun x => { x with candAt := some (t / 64) })) ∧ (¬ ok → offer h k t = (false, updGth (updGth
    (h.count GTH_TRIG_IGN) fun x => { x with ign := min (x.ign + 1) (2 ^ 32 - 1) }) fun x =>
    { x with candAt := some (t / 64) })))) ∧
  (∀ (h : Hw) (v a : Int) (i t ta : Nat), h.ready 17 = true → hasBit (h.fld GTH_TRIG_enable) 3 = true → h.fld
    GTH_TRIG_thr_kind = 1 → h.fld GTH_TRIG_thr_idx = i → h.gth.signal = some (a, ta) → (let up := (a < h.int GTH_TRIG_LVL ∧
    h.int GTH_TRIG_LVL ≤ v); let down := (h.int GTH_TRIG_LVL < a ∧ v ≤ h.int GTH_TRIG_LVL); (h.fld GTH_TRIG_dir = 0 ∧ up ∨
    h.fld GTH_TRIG_dir = 1 ∧ down → watch 1 i v t h = updGth (offer h 8 (crossTime (h.int GTH_TRIG_LVL) a v ta t)).2 fun x =>
    { x with signal := some (v, t) }) ∧ (¬ up → ¬ down → watch 1 i v t h = updGth h fun x =>
    { x with signal := some (v, t) }))) ∧
  (RunsOk .memTableFill opMemTableFill (fun b c => fillCond b (u8 c.p 0) = none) (fun b c e pl => pl = [] ∧ e = (let s :=
    (fillTable b (u8 c.p 0) (un c.p 4 8)); if u8 c.p 0 = 0 then (let n := (if un c.p 4 8 / 2 ^ 62 = 1 then 64 else 0); let v
    := ((s.setFld FLW_STASH_occupancy n).setFld FLW_STASH_peak (max n (s.fld FLW_STASH_peak)));
    ({ clearPoison v 0 with flw := { v.flw with keys := [], keyFill := un c.p 4 8 * 2 ^ 64 + un c.p 4 8, cache := [], stash := if n = 64 then (List.range 64).map (1179648 + ·) else [] } }
    : Hw).setFld FLW_STATUS_keys (if n = 64 then 1179712 else 0)) else if u8 c.p 0 = 1 then
    { (clearPoison s 1).setFld FLW_CTX_contexts (if un c.p 4 8 / 2 ^ 62 = 0 then 0 else 1048576) with flw := { s.flw with ctxs := [], ctxFill := un c.p 4 8 * 2 ^ 64 + un c.p 4 8 } }
    else s).cond (hasBit (u8 c.p 1) 0) fun s => (setDeclared s (u8 c.p 0) true).raise 0x0C07 [u8 c.p 0, Map.get 0 s.mem.preN
    (u8 c.p 0)])) ∧
  (RunsOk .memTableDeclare opMemTableDeclare (fun b c => coverFull b (u8 c.p 0) = true) (fun b c e pl => e = (setDeclared b
    (u8 c.p 0) true).raise 0x0C07 [u8 c.p 0, Map.get 0 b.mem.preN (u8 c.p 0)] ∧ pl = toBE 4 (Map.get 0 b.mem.preN (u8 c.p
    0)))) ∧
  (RunsOk .memConfig opMemConfig (fun _ _ => True) (fun b c e pl => pl = [] ∧ e = b.each (List.range 5) fun r s => s.setFld
    (MEM_LAP_THR_ms r) (u16 c.p (2 * r)))) ∧
  (RunsOk .memStatusRead opMemStatusRead (fun _ _ => True) (fun b c e pl => e = b.cond (hasBit (u8 c.p 0) 0) (fun s =>
    s.zeroRegs memCounters) ∧ pl = b.wordsAt memRegs ++ b.dtimeBytes)) ∧
  (RunsOk .memLogRead opMemLogRead (fun _ _ => True) (fun b _ e pl => e = b ∧ pl = toBE 1 b.mem.log.length ++ zeros 7 ++
    b.mem.log.flatMap memErrBytes)) ∧
  (RunsOk .memRepairRead opMemRepairRead (fun _ _ => True) (fun b c e pl => e = b ∧ pl = toBE 2 (b.nv.repair.filter fun (r :
    RepairRow) => r.mem == u8 c.p 0).length ++ (b.nv.repair.filter fun (r : RepairRow) => r.mem == u8 c.p 0).flatMap fun (r :
    RepairRow) => toBE 1 r.bank ++ toBE 1 r.state ++ toBE 2 r.row))

/-- Each clause says of the row it names, in every state and for all operands that meet the condition it names, that exec
  answers the next state that follows from the effect it names. (1) SCRUB_VISIT of a word without error of a powered memory
  that is neither mapped nor the keys or the contexts: it counts toward its block alone. (2) SCRUB_VISIT of such a word with
  a corrected error: the error is counted, logged and judged. (3) SCRUB_VISIT of such a word with an uncorrectable error: it
  is poisoned, counted, logged and reported, and what stood there is lost. (4) SCRUB_VISIT of a context, its table declared
  and in the lap, without uncorrectable error: its policer ages, and a corrected error is counted, logged and judged. (5)
  SCRUB_VISIT of such a context with an uncorrectable error: it is poisoned, counted, logged and reported, and quarantined.
  (6) SCRUB_VISIT of a key slot, its table declared and in the lap, with an uncorrectable error: it is poisoned, counted,
  logged and reported, and taken as empty. (7) SCRUB_VISIT of a word of a mapped table that is declared and in the lap, with
  an error: the error is that table's, uncorrectable or not. (8) SCRUB_LAP_COMPLETE of a region that has power and whose lap
  was not broken off: its length in µs is recorded, its end noted, the declared tables of the region join the next lap, and a
  length above the threshold raises event 0x0C03. Cites 13_control_engine.md, 16_gather_counters.md, 17_memory_integrity.md,
  08_flow_tables.md. -/
def Obligations.Scrubbing : Prop :=
  (∀ w : ScrubWord, Happens (fun dt => .scrubVisit dt w) (fun h => (∀ x, wordDomain w = some x → h.ready x = true) ∧ w.mem ≠
    0 ∧ w.mem ≠ 1 ∧ (w.mem < 7 ∨ 12 < w.mem) ∧ w.kind = 0) (fun h u => u = (blockVisited w h))) ∧
  (∀ w : ScrubWord, Happens (fun dt => .scrubVisit dt w) (fun h => (∀ x, wordDomain w = some x → h.ready x = true) ∧ w.mem ≠
    0 ∧ w.mem ≠ 1 ∧ (w.mem < 7 ∨ 12 < w.mem) ∧ w.kind = 1) (fun h u => u = memCorrected (blockVisited w h) w.mem w.bank w.off
    w.row w.synd)) ∧
  (∀ w : ScrubWord, Happens (fun dt => .scrubVisit dt w) (fun h => (∀ x, wordDomain w = some x → h.ready x = true) ∧ w.mem ≠
    0 ∧ w.mem ≠ 1 ∧ (w.mem < 7 ∨ 12 < w.mem) ∧ w.kind = 2) (fun h u => u = wordLost w (memUncorrectable (blockVisited w h)
    w.mem w.bank w.off w.row w.synd (wordKey w)))) ∧
  (∀ w : ScrubWord, Happens (fun dt => .scrubVisit dt w) (fun h => h.ready 14 = true ∧ w.mem = 1 ∧ h.declared 1 = true ∧
    lapHolds h 1 = true ∧ w.kind ≤ 1) (fun h u => u = (agePolicer (w.item.headD 0) (blockVisited w h)).cond (w.kind == 1) fun
    s => memCorrected s 1 w.bank w.off w.row w.synd)) ∧
  (∀ w : ScrubWord, Happens (fun dt => .scrubVisit dt w) (fun h => h.ready 14 = true ∧ w.mem = 1 ∧ h.declared 1 = true ∧
    lapHolds h 1 = true ∧ w.kind = 2) (fun h u => u = contextLost (w.item.headD 0) (memUncorrectable (blockVisited w h) 1
    w.bank w.off w.row w.synd (wordKey w)))) ∧
  (∀ w : ScrubWord, Happens (fun dt => .scrubVisit dt w) (fun h => h.ready 14 = true ∧ w.mem = 0 ∧ h.declared 0 = true ∧
    lapHolds h 0 = true ∧ w.kind = 2) (fun h u => u = keyLost (w.item.headD 0) (slotValid (blockVisited w h) (w.item.headD
    0)) (memUncorrectable (blockVisited w h) 0 w.bank w.off w.row w.synd (wordKey w)))) ∧
  (∀ (w : ScrubWord) (k t : Nat), Happens (fun dt => .scrubVisit dt w) (fun h => h.ready k = true ∧ memDomain w.mem = some k
    ∧ 7 ≤ w.mem ∧ w.mem ≤ 12 ∧ tableOf (w.item.headD 0) = some t ∧ h.declared t = true ∧ lapHolds h t = true ∧ tableMem t =
    w.mem ∧ (w.kind = 1 ∨ w.kind = 2)) (fun h u => u = mappedError (blockVisited w h) (w.item.headD 0) w.synd (w.kind == 2))) ∧
  (∀ r : Fin 5, Happens (fun dt => .scrubLapComplete dt r) (fun h => ((r : Nat) ≤ 1 → h.ready 14 = true) ∧ ((r : Nat) = 2 →
    h.ready 17 = true) ∧ ((r : Nat) = 4 → h.ready 15 = true ∨ h.ready 16 = true) ∧ Map.get false h.mem.broken r = false) (fun
    h u => let us := (min ((h.dtime - Map.get 0 h.mem.lapAt r) / 1000) (2 ^ 32 - 1)); let s := (h.setNum (MEM_LAP r) us); let
    v := (({ s with mem := { s.mem with lapAt := Map.put 0 s.mem.lapAt r h.dtime } } : Hw).each (regionTables r) (fun t s =>
    { s with mem := { s.mem with joined := Map.put false s.mem.joined t (s.declared t) } })); u = v.cond (decide (v.fld
    (MEM_LAP_THR_ms r) * 1000 < us)) fun s => s.raise 0x0C03 [r, us]))

/-- Of a request row a clause speaks wherever the request is taken up: it passes the checks, nothing refuses it and the
  domains it touches are ready; the request then completes with OK, or, where the clause says so, is accepted and waits. (1)
  PWR_DOMAIN_READ returns the words of its domains, of PWR_START and of PWR_LEHR as they read now, and DTIME, and changes
  nothing. (2) PWR_WAKE of domains that are not fenced and are ready, and, if it asks for that, analogue-ready, changes
  nothing. (3) PWR_WAKE of domains that are not fenced and of which one is not so ready wakes each with cause 1, and waits.
  (4) A wake of an off domain that is not fenced, the part being neither in recovery nor shut: the domain wakes, with the
  time and the cause; of a fenced one: it is counted as ignored; of a ready one: nothing changes; of one that prepares, has
  stopped or is under test: it waits. (5) PWR_SLEEP with no Lehr run begins the sleep of its domains, which the conditions of
  Table 18-2 may refuse, and waits, unless it is over at once. (6) PWR_SLEEP with no Lehr run, of domains none of which has
  to be asked: the sleep is over at once. (7) A sleep of one domain that is ready and not fenced asks it to prepare. (8)
  PWR_FENCE fences, or releases, each of its domains. (9) A host fence sets the fence with its event where the host's does
  not stand yet, and the domain is switched off with nothing left waiting. (10) A release clears the failure count, and lifts
  a fence that is not that of the self-test, the domain being switched off. (11) PWR_DOMAIN_RESET lifts its domain's fence,
  clears its failure count, switches it off and re-powers it. (12) A domain that is re-powered wakes with cause 6 from now
  on. (13) PWR_LEHR_RUN of one domain, with its preconditions met and, but for D17, no capture running: the run stands with
  voltage, temperatures, front-end targets and ready domains as they are, PWR_LEHR shows it begun, the domain's sleep begins,
  to which Table 18-2 applies, and the command waits. (14) PWR_LEHR_RUN of the whole part, with its preconditions met:
  likewise, with both groups taken to P0, every front-end target DARK, and the sleep of every switched domain but D17 and D19
  begun, which nothing refuses. (15) PWR_LEHR_READ returns a stored record, newest first, 0 and 1 of kinds 0 and 2 and 2 to 9
  of kind 1, or nothing, and changes nothing. (16) PWR_CONFIG sets quick_en. Cites 18_power_selftest.md. -/
def Obligations.PowerRequests : Prop :=
  (RunsOk .pwrDomainRead opPwrDomainRead (fun _ _ => True) (fun b c e pl => e = b ∧ pl = ((bitsOf 20 (u32 c.p 0)).map PWR_DOM
    ++ [PWR_START, PWR_LEHR]).flatMap (fun a => toBE 4 (liveWord b a).toNat) ++ b.dtimeBytes)) ∧
  (RunsOk .pwrWake opPwrWake (fun b c => (bitsOf 20 (u32 c.p 0)).any b.fenced = false ∧ (bitsOf 20 (u32 c.p 0)).all (fun d =>
    b.ready d && (!hasBit (u8 c.p 4) 0 || b.flag (PWR_DOM_analog d))) = true) (fun b _ e pl => e = b ∧ pl = [])) ∧
  (RunsOn .pwrWake opPwrWake (fun b c => (bitsOf 20 (u32 c.p 0)).any b.fenced = false ∧ (bitsOf 20 (u32 c.p 0)).all (fun d =>
    b.ready d && (!hasBit (u8 c.p 4) 0 || b.flag (PWR_DOM_analog d))) = false) (fun b c e w => e = b.each (bitsOf 20 (u32 c.p
    0)) (fun d s => s.wake d 1) ∧ w = Wait.wake (u32 c.p 0) (hasBit (u8 c.p 4) 0) ((bitsOf 20 (u32 c.p 0)).filter fun d =>
    b.domState d == 0))) ∧
  (∀ (h : Hw) (d k : Nat), h.phase ≠ Phase.recovery → h.phase ≠ Phase.shut → (h.fenced d = true → h.wake d k = h.countFld
    (PWR_DOM_ignored d)) ∧ (h.fenced d = false → h.domState d = 0 → h.wake d k = (h.setFld (PWR_DOM_state d) 1).setDom d
    { h.dom d with wakeAt := h.dtime, cause := k, byAccess := k == 0 }) ∧ (h.fenced d = false → h.domState d = 2 → h.wake d k
    = h) ∧ (h.fenced d = false → 3 ≤ h.domState d → h.domState d ≤ 5 → h.wake d k = h.setDom d
    { h.dom d with queued := (h.dom d).queued + 1 })) ∧
  (RunsOn .pwrSleep opPwrSleep (fun b c => b.pwr.lehr = none ∧ (beginSleep b (u32 c.p 0) 0 0 false).pwr.sleep.isSome = true)
    (fun b c e w => e = beginSleep b (u32 c.p 0) 0 0 false ∧ w = Wait.sleep)) ∧
  (RunsOk .pwrSleep opPwrSleep (fun b c => b.pwr.lehr = none ∧ (beginSleep b (u32 c.p 0) 0 0 false).pwr.sleep = none) (fun b
    c e pl => e = beginSleep b (u32 c.p 0) 0 0 false ∧ pl = [])) ∧
  (∀ (h : Hw) (d o t : Nat) (f : Bool), d < 20 → h.domState d = 2 → h.fenced d = false → beginSleep h (2 ^ d) o t f = (updPwr
    h fun x => { x with sleep := some (Sleep.mk [d] [] (2 ^ d) f o t) }).setFld (PWR_DOM_state d) 3) ∧
  (RunsOk .pwrFence opPwrFence (fun _ _ => True) (fun b c e pl => pl = [] ∧ e = b.each (bitsOf 20 (u32 c.p 0)) (fenceOne (u8
    c.p 4 == 1)))) ∧
  (∀ (h : Hw) (d : Nat), fenceOne true d h = (let s := (if h.fenced d = true ∧ h.fld (PWR_DOM_fence_by d) = 1 then h else
    setFence d 1 true h); switchOff d (s.setDom d { s.dom d with queued := 0 }))) ∧
  (∀ (h : Hw) (d : Nat), fenceOne false d h = (let s := (h.setDom d { h.dom d with fails := [] }); if s.fenced d = true ∧
    s.fld (PWR_DOM_fence_by d) ≠ 3 then (let t := (switchOff d (clearFence d s)); t.setDom d { t.dom d with queued := 0 })
    else s)) ∧
  (RunsOk .pwrDomainReset opPwrDomainReset (fun _ _ => True) (fun b c e pl => pl = [] ∧ (let s := (clearFence (u8 c.p 0) b);
    e = repower (u8 c.p 0) (switchOff (u8 c.p 0) (s.setDom (u8 c.p 0) { s.dom (u8 c.p 0) with fails := [] }))))) ∧
  (∀ (h : Hw) (d : Nat), d < 20 → (repower d h).domState d = 1 ∧ ((repower d h).dom d).cause = 6 ∧ ((repower d h).dom
    d).wakeAt = h.dtime ∧ ((repower d h).dom d).queued = 0) ∧
  (RunsOn .pwrLehrRun opPwrLehrRun (fun b c => lehrPre b = 0 ∧ u8 c.p 0 ≠ 0xFE ∧ (u8 c.p 0 = 17 ∨ capturing b = false)) (fun
    b c e w => let run : LehrRun :=
    { kind := 1, target := u8 c.p 0, started := b.optime, vLow := b.fld PWR_OP_STATUS_vcore_mv, vHigh := b.fld PWR_OP_STATUS_vcore_mv, tLow := enc 16 b.pwr.tempLow, tHigh := enc 16 b.pwr.tempHigh, targets := units12.map fun u => b.fld (FES_STATE_target u), awake := domains20.filter b.ready, checked := b.dtime };
    e = beginSleep ((updPwr b fun x => { x with lehr := some run }).setFld PWR_LEHR_state 1) (2 ^ u8 c.p 0) 2 (u8 c.p 0)
    false ∧ w = Wait.lehr)) ∧
  (RunsOn .pwrLehrRun opPwrLehrRun (fun b c => lehrPre b = 0 ∧ u8 c.p 0 = 0xFE) (fun b _ e w => let run : LehrRun :=
    { kind := 0, target := 0xFE, started := b.optime, vLow := b.fld PWR_OP_STATUS_vcore_mv, vHigh := b.fld PWR_OP_STATUS_vcore_mv, tLow := enc 16 b.pwr.tempLow, tHigh := enc 16 b.pwr.tempHigh, targets := units12.map fun u => b.fld (FES_STATE_target u), awake := domains20.filter b.ready, checked := b.dtime };
    e = beginSleep (setTargets (((updPwr b fun x => { x with lehr := some run }).setFld PWR_LEHR_state 1).each [0, 1] fun g s
    => toP0 s g) 0xFFF 0) (2 ^ 20 - 1 - 2 ^ 17 - 2 ^ 19) 2 0xFE true ∧ w = Wait.lehr)) ∧
  (RunsOk .pwrLehrRead opPwrLehrRead (fun _ _ => True) (fun b c e pl => e = b ∧ pl = ((if u8 c.p 0 < 2 then
    b.nv.ident.lehrMain[u8 c.p 0]? else b.nv.ident.lehrRing[u8 c.p 0 - 2]?).map lehrBytes).getD [])) ∧
  (RunsOk .pwrConfig opPwrConfig (fun _ _ => True) (fun b c e pl => pl = [] ∧ e = b.setFld PWR_CFG_quick_en (bit (u8 c.p 0)
    0)))

/-- (1) DOMAIN_WAKE_SOURCE with cause 0 is an access of its domain. (2) DOMAIN_WAKE_SOURCE with another cause is a wake of
  its domain with that cause. (3) An access is a wake with cause 0, and its time is noted. (4) DOMAIN_READY of a domain that
  wakes: its state is ready with the wake's length in µs, its analogue readiness with it where the domain reports both at
  once, its power-up is counted, its units do what a power-up makes them do, a failure fence is lifted, the packets at its
  boundary are delivered, event 0x0201 tells domain, cause and length unless it was re-powered, wakes from the line act and
  enabled groups enter P1, and a sleep that waited for it goes on. (5) DOMAIN_FAILURE of a ready domain in a part that is not
  shut, with no sleep in progress, the first or second in 600 s: it is noted, the domain is fenced with its event and event
  0x0204 of domain, cause and count, switched off, and re-powered. (6) DOMAIN_FAILURE likewise, the third in 600 s: the
  domain is left off. (7) DOMAIN_PREPARE_ANSWER of the domain that was asked, in a sleep that may be refused, with a
  condition of Table 18-2 or a packet waiting: it refuses. (8) DOMAIN_PREPARE_ANSWER of such a domain otherwise, or in a
  sleep that nothing refuses: it stops, the next is asked or the sleep ends, and a low-power sleep that waited then runs. (9)
  A sleep that PWR_SLEEP began and that domain d refuses: the domains that have stopped, and d if it prepares, are ready
  again in that order with what waited for them delivered; the sleep is over with event 0x0203 of d, the mask and the domains
  resumed; the command ends REFUSED with d, a low-power sleep that waited runs, and wakes act. (10) A sleep that PWR_SLEEP
  began and of which every domain has answered: its domains are switched off in ascending order, a failure fence ending with
  that, it is over with event 0x0202 of the mask, what waits for a domain acts, the command ends OK, and wakes act. (11)
  LOW_POWER_IDLE_SLEEP under low power, with no sleep in progress, of a ready domain of the low-power set that an access woke
  and that none has reached for 10 ms: its sleep begins, which nothing refuses. Cites 18_power_selftest.md. -/
def Obligations.PowerDomainEvents : Prop :=
  (∀ d : Fin 20, Happens (fun dt => .domainWakeSource dt d (0 : Fin 4)) (fun _ => True) (fun h u => u = h.access d)) ∧
  (∀ (d : Fin 20) (k : Fin 4), Happens (fun dt => .domainWakeSource dt d k) (fun _ => (k : Nat) ≠ 0) (fun h u => u = h.wake d
    k)) ∧
  (∀ (h : Hw) (d : Nat), h.access d = (h.wake d 0).setDom d { (h.wake d 0).dom d with access := h.dtime }) ∧
  (∀ d : Fin 20, Happens (fun dt => .domainReady dt d) (fun h => h.domState d = 1) (fun h u => let r := (((h.setFld
    (PWR_DOM_state d) 2).setFld (PWR_DOM_wake_us d) (min ((h.dtime - (h.dom d).wakeAt) / 1000) 65535)).setFlag
    (PWR_DOM_analog d) (analogAtOnce d)); let s := (domainUp d (h.dom d).cause (r.setDom d
    { h.dom d with queued := 0, powerUps := (h.dom d).powerUps + 1, access := h.dtime })); let s := (s.cond (s.fenced d &&
    s.fld (PWR_DOM_fence_by d) == 2) (setFence d 2 false)); let s := (deliverPackets d s); let s := (s.cond ((h.dom d).cause
    != 6) fun s => s.raiseOnce 0x0201 d [d, if (h.dom d).cause = 7 then 4 else (h.dom d).cause, (h.dtime - (h.dom d).wakeAt)
    / 1000]); let s := (wakesAct s); u = s.cond (s.pwr.sleep.any fun (z : Sleep) => z.toAsk.head? == some (d : Nat)) (askNext
    22))) ∧
  (∀ (d : Fin 20) (k : Fin 2), Happens (fun dt => .domainFailure dt d k) (fun h => (h.domState d = 2 ∨ ((k : Nat) = 0 ∧
    h.domState d ≠ 0)) ∧ h.pwr.sleep = none ∧ (recentFails (h.setDom d
    { h.dom d with fails := recentFails h d ++ [h.dtime] }) d).length < 3) (fun h u => u = repower d (switchOff d ((setFence
    d 2 true (h.setDom d { h.dom d with fails := recentFails h d ++ [h.dtime] })).raise 0x0204 [d, k, (recentFails (h.setDom
    d { h.dom d with fails := recentFails h d ++ [h.dtime] }) d).length])))) ∧
  (∀ (d : Fin 20) (k : Fin 2), Happens (fun dt => .domainFailure dt d k) (fun h => (h.domState d = 2 ∨ ((k : Nat) = 0 ∧
    h.domState d ≠ 0)) ∧ h.pwr.sleep = none ∧ 3 ≤ (recentFails (h.setDom d
    { h.dom d with fails := recentFails h d ++ [h.dtime] }) d).length) (fun h u => let s := (switchOff d ((setFence d 2 true
    (h.setDom d { h.dom d with fails := recentFails h d ++ [h.dtime] })).raise 0x0204 [d, k, (recentFails (h.setDom d
    { h.dom d with fails := recentFails h d ++ [h.dtime] }) d).length])); u = s.setDom d { s.dom d with queued := 0 })) ∧
  (∀ (d : Fin 20) (z : Sleep), Happens (fun dt => .domainPrepareAnswer dt d) (fun h => h.pwr.sleep = some z ∧ h.domState d =
    3 ∧ z.toAsk.head? = some (d : Nat) ∧ z.forced = false ∧ (refuses h d = true ∨ (h.dom d).queued ≠ 0)) (fun h u => u =
    refuseSleep d h)) ∧
  (∀ (d : Fin 20) (z : Sleep), Happens (fun dt => .domainPrepareAnswer dt d) (fun h => h.pwr.sleep = some z ∧ h.domState d =
    3 ∧ z.toAsk.head? = some (d : Nat) ∧ (z.forced = true ∨ (refuses h d = false ∧ (h.dom d).queued = 0))) (fun h u => u =
    runLowDue (askNext 22 (updPwr (h.setFld (PWR_DOM_state d) 4) fun x =>
    { x with sleep := some { z with toAsk := z.toAsk.tail, stopped := (d : Nat) :: z.stopped } })))) ∧
  (∀ (h : Hw) (d : Nat) (z : Sleep), h.pwr.sleep = some z → z.owner = 0 → refuseSleep d h = (let s := (h.each (z.stopped ++
    (if h.domState d = 3 then [d] else [])) fun k s => deliverQueued k (s.setFld (PWR_DOM_state k) 2)); let s := ((updPwr s
    fun x => { x with sleep := none }).raise 0x0203 [d, z.mask, sumN (z.stopped.map fun k => 2 ^ k)]); wakesAct (runLowDue
    (setOutcome s isSleep stREFUSED d)))) ∧
  (∀ (h : Hw) (z : Sleep), z.owner = 0 → finishSleep h z = (let s := (h.each (bitsOf 20 z.mask) fun d s => s.cond (s.domState
    d != 0) fun s => (switchOff d s).cond (s.fenced d && s.fld (PWR_DOM_fence_by d) == 2) (setFence d 2 false)); let s :=
    ((updPwr (s.raise 0x0202 [z.mask]) fun x => { x with sleep := none }).each (bitsOf 20 z.mask) deliverQueued); wakesAct
    (setOutcome s isSleep stOK 0))) ∧
  (∀ d : Fin 20, Happens (fun dt => .lowPowerIdleSleep dt d) (fun h => h.pwr.lowPower = true ∧ h.pwr.sleep = none ∧
    lowSet.contains (d : Nat) = true ∧ h.ready d = true ∧ (h.dom d).byAccess = true ∧ (h.dom d).access + 10000000 ≤ h.dtime)
    (fun h u => u = beginSleep h (2 ^ (d : Nat)) 3 0 true))

/-- (1) LOW_POWER_ENTER with low power not in force, in a part that is not held, starting, in a warm reset, in recovery or
  shut, with no Lehr run and no sleep in progress: low power is in force from now, and runs. (2) LOW_POWER_ENTER likewise
  with a sleep in progress: low power is in force, and its sleep waits for that one. (3) Low power that runs takes both
  groups to P0, lowers the front-end targets, and begins the sleep of its set, which nothing refuses. (4) LOW_POWER_EXIT with
  low power in force, in a part that is not shut, with no shut-down Lehr run and no sleep of low power in progress: low power
  ends now, and its domains wake. (5) LOW_POWER_EXIT likewise with its sleep still in progress: the wake follows the sleep.
  (6) The end of low power wakes D14 and the domains of the enabled groups with cause 5, restores the targets kept, and lets
  wakes from the line that wait act. (7) LEHR_PRECONDITION_CHECK with no run: the die temperatures and VCORE are those
  measured. (8) LEHR_PRECONDITION_CHECK in a run: likewise, and the run keeps its lowest and highest voltage and temperature;
  while it tests, PWR_LEHR shows the first region not yet done; 1 ms or more after the last judgement the preconditions are
  judged, and with one that fails the run aborts with its number. (9) The preconditions: 1 VCORE from 720 to 800 mV, 2
  reference 1 accepted and within 1000 of reference 0, 3 a die between -40.0 and 110.0 °C; the number is that of the first
  that fails, 0 for none. (10) LEHR_COMPLETE of a run that tests one domain, D17 being ready or under test: the bad rows
  found enter the repair map, the record of the domain is stored (both go with the command while it has not ended), the two
  pairs of a tested D16 say that they passed, PWR_LEHR shows the end and the result, event 0x0208 carries kind, target and
  result, the run is left, and the command ends with the record's header. (11) A stored record of kind 1 is the first of at
  most 8 of its kind, one of another kind the first of at most 2. Cites 18_power_selftest.md, 01_architecture.md,
  19_records_security.md. -/
def Obligations.LowPowerAndLehr : Prop :=
  (Resets .lowPowerEnter (fun h => h.pwr.lowPower = false ∧ h.phase ≠ Phase.held ∧ h.phase ≠ Phase.starting ∧ h.phase ≠
    Phase.warmReset ∧ h.phase ≠ Phase.recovery ∧ h.phase ≠ Phase.shut ∧ h.pwr.lehr = none ∧ h.pwr.sleep = none) (fun h u => u
    = lowPowerRun (updPwr h fun x =>
    { x with lpReq := true, lowPower := true, lowAt := h.dtime, lowWaking := false, leaving := false }))) ∧
  (Resets .lowPowerEnter (fun h => h.pwr.lowPower = false ∧ h.phase ≠ Phase.held ∧ h.phase ≠ Phase.starting ∧ h.phase ≠
    Phase.warmReset ∧ h.phase ≠ Phase.recovery ∧ h.phase ≠ Phase.shut ∧ h.pwr.lehr = none ∧ h.pwr.sleep.isSome = true) (fun h
    u => u = updPwr h fun x =>
    { x with lpReq := true, lowPower := true, lowAt := h.dtime, lowWaking := false, leaving := false, lowDue := true })) ∧
  (∀ h : Hw, lowPowerRun h = beginSleep (lowerTargets (h.each [0, 1] fun g s => toP0 s g)) (sumN (lowSet.map fun d => 2 ^ d))
    1 0 true) ∧
  (Resets .lowPowerExit (fun h => h.pwr.lowPower = true ∧ h.phase ≠ Phase.shut ∧ (h.pwr.lehr.any fun (x : LehrRun) => x.kind
    == 0) = false ∧ (h.pwr.sleep.any fun (z : Sleep) => z.owner == 1) = false) (fun h u => u = lowWake (updPwr h fun x =>
    { x with lpReq := false, lowPower := false, lowAt := h.dtime, lowDue := false }))) ∧
  (Resets .lowPowerExit (fun h => h.pwr.lowPower = true ∧ (h.pwr.sleep.any fun (z : Sleep) => z.owner == 1) = true) (fun h u
    => u = updPwr h fun x => { x with lpReq := false, lowPower := false, lowAt := h.dtime, lowDue := false })) ∧
  (∀ h : Hw, lowWake h = (let s := (h.each (lowWakeSet h) fun d s => s.wake d 5); (updPwr (restoreTargets s) fun x =>
    { x with lowWaking := true, leaving := true }).each [0, 1] fun g s => actPending s g)) ∧
  (∀ (mv : Nat) (lo hi : Int) (l : List LehrRegion), Happens (fun dt => .lehrPreconditionCheck dt mv lo hi l) (fun h =>
    h.pwr.lehr = none) (fun h u => u = (updPwr h fun x => { x with tempLow := lo, tempHigh := hi }).setFld
    PWR_OP_STATUS_vcore_mv mv)) ∧
  (∀ (mv : Nat) (lo hi : Int) (l : List LehrRegion) (x : LehrRun), Happens (fun dt => .lehrPreconditionCheck dt mv lo hi l)
    (fun h => h.pwr.lehr = some x) (fun h u => let a := (if sx 16 x.tLow ≤ lo then x.tLow else enc 16 lo); let z := (if hi ≤
    sx 16 x.tHigh then x.tHigh else enc 16 hi); let s := (updPwr ((updPwr h fun y =>
    { y with tempLow := lo, tempHigh := hi }).setFld PWR_OP_STATUS_vcore_mv mv) fun p =>
    { p with lehr := some { x with vLow := min x.vLow mv, vHigh := max x.vHigh mv, tLow := a, tHigh := z } }); let v :=
    (s.cond x.testing fun s => s.setFld PWR_LEHR_region (((lehrOrder x.target).filter fun r => !l.any fun (f : LehrRegion) =>
    f.region == r).headD 20)); u = if h.dtime < x.checked + 1000000 then v else (let w := (updPwr v fun (p : Pwr) =>
    { p with lehr := p.lehr.map fun (x : LehrRun) => { x with checked := v.dtime } }); if lehrPre w ≠ 0 then lehrAbort
    (lehrPre w) l w else w))) ∧
  (∀ h : Hw, lehrPre h = (if h.fld PWR_OP_STATUS_vcore_mv < 720 ∨ 800 < h.fld PWR_OP_STATUS_vcore_mv then 1 else if h.refOk 1
    = false ∨ 1000 < (h.fldS (PWR_REF_offset 1) - h.fldS (PWR_REF_offset 0)).natAbs then 2 else if h.pwr.tempLow < -400 ∨
    1100 < h.pwr.tempHigh then 3 else 0)) ∧
  (∀ (l : List LehrRegion) (x : LehrRun), Happens (fun dt => .lehrComplete dt l) (fun h => h.pwr.lehr = some x ∧ x.testing =
    true ∧ x.target ≠ 0xFE ∧ (x.target = 17 ∨ h.ready 17 = true)) (fun h u => let en := (lehrEntry x x.kind l (fun _ => 2)
    x.target); let rs := (if entryPass x.kind en = true then 0 else 1); let rc : LehrRec :=
    { kind := x.kind, abort := 0, pcc := h.num EVR_PCC, start := x.started, done := h.optime, entries := [en] }; let s :=
    ((((keepLehr h l rc).setFld PWR_LEHR_state 0).setFld PWR_LEHR_abort 0).setFld PWR_LEHR_result rs); u = setOutcome
    (lehrLeave ((tellPlaus s l).raise 0x0208 [x.kind, x.target, rs]) x) isLehr stOK 0 (lehrHead rc))) ∧
  (∀ (h : Hw) (r : LehrRec), (r.kind = 1 → (storeLehr h r).nv.ident =
    { h.nv.ident with lehrRing := (r :: h.nv.ident.lehrRing).take 8 }) ∧ (r.kind ≠ 1 → (storeLehr h r).nv.ident =
    { h.nv.ident with lehrMain := (r :: h.nv.ident.lehrMain).take 2 }))

/-- (1) MODRSTL_LOW of a part that is not held: power goes, the part is held in reset with everything volatile lost but a
  departure noted, and keys that were held are told lost. (2) SUPPLY_OUT_OF_WINDOW of a part that is not held, with VIO kept:
  likewise, the supply shows its extreme and that it is out of its window, and the departure is noted. (3)
  SUPPLY_OUT_OF_WINDOW of such a part with VIO lost: no departure is noted, and no keys are told lost. (4) A part whose
  volatile state is lost is held, at DTIME 0, with no command running, no journal entry in the RAM tier and no event on the
  bus; every register but those of references, of the source of DTIME and of supplies is at its cold-start value, and these
  are as they were; non-volatile memory is as it was but for which bad pages have been told. (5) COLD_START of a part that is
  held: AON starts, what reading the non-volatile array found bad is noted, the power cycle is counted, a departure is told,
  AON's memories are repaired, the journal goes on, the stored objects are adopted, the boot verifier runs and its answer is
  noted, D19 wakes, and the start is quick or full. (6) AON starts: the part starts at DTIME 0. The power cycle is counted:
  by one, up to the largest value, and operating time goes on from what was stored. The journal goes on: in the next epoch,
  from the index of the newest entry of the NV tier. (7) COMMAND_READY of a part that starts and has an image to run:
  PWR_START shows the time from the start, event 0x020A carries kind, reason and time, the part is ready, and the domains
  marked awake wake with cause 4. (8) COMMAND_READY of a part that starts and has none: likewise, and the part is in
  recovery. (9) TRIAL_TIMEOUT of a trial whose time has run out, with no journaled command running and no reset asked for, in
  a part that is ready: the trial is reverted with cause 0, and a management reset begins. (10) A trial that is reverted ends
  with event 0x0106 of the cause and the slot that is active then: the fallback slot, which runs, or, with none, the same
  slot, and no image is left to run. (11) RANDOM_HEALTH_FAIL: the random source is not healthy, with event 0x0109 of 1 and
  the test. (12) RANDOM_HEALTH_RESTORED: the random source is healthy again. Cites 18_power_selftest.md, 01_architecture.md,
  19_records_security.md. -/
def Obligations.PowerLossStartsAndTrials : Prop :=
  (∀ tn : Bool, Resets (fun dt => .modrstlLow dt tn) (fun h => h.phase ≠ Phase.held) (fun h u => u = tellKeysLost (h.fld
    FLW_STATUS_keys) 0 (updPwr (wiped (powerLost tn h)) fun x => { x with depart := h.pwr.depart }))) ∧
  (∀ (k : Fin 5) (x us : Nat) (tn : Bool), Resets (fun dt => .supplyOutOfWindow dt k x us true tn) (fun h => h.phase ≠
    Phase.held) (fun h u => u = tellKeysLost (h.fld FLW_STATUS_keys) 0 (updPwr (((wiped (powerLost tn h)).setFld
    (PWR_SUPPLY_in_window k) 0).setFld (PWR_SUPPLY_voltage k) x) fun y => { y with depart := some ((k : Nat), x, us) }))) ∧
  (∀ (k : Fin 5) (x us : Nat) (tn : Bool), Resets (fun dt => .supplyOutOfWindow dt k x us false tn) (fun h => h.phase ≠
    Phase.held) (fun h u => u = updPwr (((wiped (powerLost tn h)).setFld (PWR_SUPPLY_in_window k) 0).setFld
    (PWR_SUPPLY_voltage k) x) fun y => { y with depart := none })) ∧
  (∀ h : Hw, (wiped h).phase = Phase.held ∧ (wiped h).dtime = 0 ∧ (wiped h).cmd.running = [] ∧ (wiped h).cmd.journal = [] ∧
    (wiped h).evr.bus = [] ∧ (∀ a, a ∉ [PWR_REF 0, PWR_REF 1, PWR_REF 2, PWR_DTIME_SRC] ++ (List.range 5).map PWR_SUPPLY →
    (wiped h).reg a = coldWord a) ∧ (∀ a, a ∈ [PWR_REF 0, PWR_REF 1, PWR_REF 2, PWR_DTIME_SRC] ++ (List.range 5).map
    PWR_SUPPLY → (wiped h).reg a = h.reg a) ∧ (wiped h).nv =
    { h.nv with ring := h.nv.ring.map fun (p : Page) => { p with told := false } }) ∧
  (∀ (bd : List (Nat × Nat)) (mv : List Nat) (fd : List LehrRegion), Resets (fun dt => .coldStart dt bd mv fd) (fun h =>
    h.phase = Phase.held) (fun h u => let v := (bootVerify (adoptAll (resumeJournal (repairDomain (tellDeparture (countStart
    (bd.foldl nvFound (aonStarts mv h)))) 20)))); u = chooseStart bd fd ((v.2.setFlag SEC_FW_recovery (!v.1)).wake 19 4))) ∧
  (∀ (h : Hw) (mv : List Nat), ((aonStarts mv h).phase = Phase.starting ∧ (aonStarts mv h).dtime = 0) ∧ ((countStart
    h).nv.pcc = min (h.nv.pcc + 1) (2 ^ 32 - 1) ∧ (countStart h).num EVR_PCC = (min (h.nv.pcc + 1) (2 ^ 32 - 1)) ∧
    (countStart h).evr.optBase = h.nv.optime) ∧ ((resumeJournal h).cmd.epoch = (h.nv.epoch + 1) % 256 ∧ (resumeJournal
    h).cmd.index = (h.nv.journal.getLast?.map JEntry.index).getD 0)) ∧
  (Happens .commandReady (fun h => h.phase = Phase.starting ∧ h.flag SEC_FW_recovery = false) (fun h u => let ms := (min
    (h.dtime / 10 ^ 6 + 2) 65535); let s := ((h.setFld PWR_START_ms ms).raise 0x020A [h.fld PWR_START_kind, h.fld
    PWR_START_reason, ms]); u = wakeMarked 4 { s with phase := Phase.ready })) ∧
  (Happens .commandReady (fun h => h.phase = Phase.starting ∧ h.flag SEC_FW_recovery = true) (fun h u => let ms := (min
    (h.dtime / 10 ^ 6 + 2) 65535); let s := ((h.setFld PWR_START_ms ms).raise 0x020A [h.fld PWR_START_kind, h.fld
    PWR_START_reason, ms]); u = { s with phase := Phase.recovery })) ∧
  (Happens .trialTimeout (fun h => h.phase = Phase.ready ∧ h.nv.ident.trial = true ∧ trialLeft h = 0 ∧ (h.cmd.running.any fun
    (r : RunCmd) => r.index != 0) = false ∧ h.pwr.resetting = 0) (fun h u => let v := (revertTrial h 0); u = mgmtBegin
    (updPwr v.2 fun x => { x with toRecovery := x.toRecovery || !v.1, resetting := 3 }))) ∧
  (∀ (h : Hw) (k : Nat), (∀ j, h.nv.ident.fallback = some j → revertTrial h k = (true, (setIdent h fun d =>
    { d with active := j, trial := false, fallback := none }).raise 0x0106 [k, j])) ∧ (h.nv.ident.fallback = none →
    revertTrial h k = (false, (setIdent h fun d => { d with trial := false }).raise 0x0106 [k, h.nv.ident.active]))) ∧
  (∀ n : Nat, Happens (fun dt => .randomHealthFail dt n) (fun _ => True) (fun h u => u = (updEvr h fun x =>
    { x with randomOk := false }).raise 0x0109 [1, n])) ∧
  (Happens .randomHealthRestored (fun _ => True) (fun h u => u = updEvr h fun x => { x with randomOk := true }))

/-- Of a request row a clause speaks wherever the request is taken up: it passes the checks, nothing refuses it and the
  domains it touches are ready; the request then completes with OK, or, where the clause says so, is accepted and waits. (1)
  SEC_ID_READ returns the unit identity and changes nothing. (2) SEC_CERT_READ returns the length of its certificate, at most
  1024, and the piece asked for, and changes nothing. (3) SEC_ATTEST returns the report over its nonce and the device key's
  signature of the report's SHA-384; it uses up a fresh random value. (4) SEC_KEY_ENROLL of a point of the curve in an empty
  slot: the slot holds level, co-sign flag and key, with event 0x0107. (5) SEC_KEY_REVOKE of an enrolled slot beside which
  another holds a Maintainer key: the slot is empty, the sessions opened under it close, and event 0x0107 tells so. (6)
  SEC_KEY_READ returns the four key slots and changes nothing. (7) SEC_FW_WRITE within the slot, where no trial has a
  fallback to keep: the bytes stand in the inactive slot from the offset on, which is not verified, and bad sectors that are
  written whole are good. (8) SEC_FW_ACTIVATE with no trial begins the verification of the inactive slot and waits. (9) A
  verification that has ended: with a check that the inactive slot fails the command is refused with event code 0x0101 as
  detail; else that slot is verified and active on trial from this operating time, the old one is its fallback unless the
  part is in recovery, event 0x0104 carries slot, version and anti-rollback, and a management reset is asked for. (10)
  SEC_FW_COMMIT in a trial ends it with no fallback left, raises the anti-rollback counter to the image's, with event 0x0105,
  and returns the counter. (11) SEC_COSIGN_SET to 0, or to 1 with an active image whose co-signature verifies, sets the
  co-signing requirement. (12) SEC_DEBUG_UNLOCK unlocks test access, with event 0x0108 of the slot that signed. (13)
  SEC_FW_STATUS returns of each slot whether it is verified, its version and its anti-rollback number, and SEC_FW and SEC_CFG
  as they read now, and changes nothing. (14) SEC_CONFIG sets trial_s. (15) The image check gives the number of the first
  check that fails, 0 for none: 1 header, 2 digest, 3 release signature, 4 anti-rollback, 5 co-signature, a bad sector
  failing the check of the part that it holds. Cites 19_records_security.md. -/
def Obligations.SecurityRequests : Prop :=
  (RunsOk .secIdRead opSecIdRead (fun _ _ => True) (fun b _ e pl => e = b ∧ pl = identityBytes)) ∧
  (RunsOk .secCertRead opSecCertRead (fun _ _ => True) (fun b c e pl => e = b ∧ (let k := ((Config.certificate (u8 c.p
    0)).take 1024); pl = toBE 2 k.length ++ zeros 2 ++ slice k (u16 c.p 1) (u16 c.p 3)))) ∧
  (RunsOk .secAttest opSecAttest (fun _ _ => True) (fun b c e pl => e = b.random.2 ∧ pl = reportBytes b (slice c.p 0 32) ++
    deviceSign (sha384 (reportBytes b (slice c.p 0 32))) b.random.1)) ∧
  (RunsOk .secKeyEnroll opSecKeyEnroll (fun b c => onCurve (slice c.p 4 97) = true ∧ keySlot b (u8 c.p 0) = none) (fun b c e
    pl => pl = [] ∧ e = (setIdent b fun d =>
    { d with slots := Map.put none d.slots (u8 c.p 0) (some (KeySlot.mk (u8 c.p 1) (hasBit (u8 c.p 2) 0) (slice c.p 4 97))) }).raise
    0x0107 [u8 c.p 0, 1, u8 c.p 1])) ∧
  (∀ x : KeySlot, RunsOk .secKeyRevoke opSecKeyRevoke (fun b c => keySlot b (u8 c.p 0) = some x ∧ ([0, 1, 2, 3].any fun (j :
    Nat) => j != u8 c.p 0 && (keySlot b j).any fun (y : KeySlot) => y.level == 2) = true) (fun b c e pl => pl = [] ∧ (let s
    := (setIdent b fun d => { d with slots := Map.put none d.slots (u8 c.p 0) none }); e =
    ({ s with cmd := { s.cmd with sessions := s.cmd.sessions.map fun (y : Session) => if y.num < 0xFFF0 ∧ y.slot = u8 c.p 0 then { y with closing := true } else y } }
    : Hw).raise 0x0107 [u8 c.p 0, 0, x.level]))) ∧
  (RunsOk .secKeyRead opSecKeyRead (fun _ _ => True) (fun b _ e pl => e = b ∧ pl = [0, 1, 2, 3].flatMap (keyBytes b))) ∧
  (RunsOk .secFwWrite opSecFwWrite (fun b c => u32 c.p 0 + u16 c.p 4 ≤ 2 ^ 21 ∧ (b.nv.ident.trial = false ∨
    b.nv.ident.fallback = none)) (fun b c e pl => pl = [] ∧ e =
    { b with nv := { b.nv with images := Map.put none b.nv.images (otherSlot b.nv.ident.active) (some (overwrite (slotImage b (otherSlot b.nv.ident.active)) (u32 c.p 0) (slice c.p 8 (u16 c.p 4)))), unver := setBit b.nv.unver (otherSlot b.nv.ident.active) true, badSects := b.nv.badSects.filter fun (x : Nat) => !(fun (x : Nat) => x / 4096 == (otherSlot b.nv.ident.active) && decide (u32 c.p 0 ≤ x % 4096 * 512 ∧ (x % 4096 + 1) * 512 ≤ u32 c.p 0 + u16 c.p 4)) x } })) ∧
  (RunsOn .secFwActivate opSecFwActivate (fun b _ => b.nv.ident.trial = false) (fun b _ e w => e = b ∧ w = Wait.verify
    b.dtime)) ∧
  (∀ h : Hw, (imageCheck h (otherSlot h.nv.ident.active) ≠ 0 → activateDone h = Res.refuse stREFUSED 0x0101 h) ∧ (imageCheck
    h (otherSlot h.nv.ident.active) = 0 → activateDone h = Res.ok (askReset ((setIdent (passed h (otherSlot
    h.nv.ident.active)) fun d =>
    { d with active := otherSlot h.nv.ident.active, trial := true, fallback := if h.phase = Phase.recovery then none else some h.nv.ident.active, trialAt := h.optime }).raise
    0x0104 [otherSlot h.nv.ident.active, imgVersion (slotImage h (otherSlot h.nv.ident.active)), imgRollback (slotImage h
    (otherSlot h.nv.ident.active))]) 1))) ∧
  (RunsOk .secFwCommit opSecFwCommit (fun b _ => b.nv.ident.trial = true) (fun b _ e pl => let n := (max b.nv.ident.rollback
    (imgRollback (slotImage b b.nv.ident.active))); pl = toBE 4 n ∧ e = (setIdent b fun d =>
    { d with trial := false, fallback := none, rollback := n }).raise 0x0105 [b.nv.ident.active, imgVersion (slotImage b
    b.nv.ident.active), n])) ∧
  (RunsOk .secCosignSet opSecCosignSet (fun b c => u8 c.p 0 = 0 ∨ cosignOk b (slotImage b b.nv.ident.active) = true) (fun b c
    e pl => pl = [] ∧ e = setIdent b fun d => { d with cosign := u8 c.p 0 == 1 })) ∧
  (RunsOk .secDebugUnlock opSecDebugUnlock (fun _ _ => True) (fun b c e pl => pl = [] ∧ e = (updEvr b fun x =>
    { x with debug := true }).raise 0x0108 [signerOf c.rq])) ∧
  (RunsOk .secFwStatus opSecFwStatus (fun _ _ => True) (fun b _ e pl => e = b ∧ pl = (fun (k : Nat) => toBE 1 (if verified b
    k = true then 1 else 0) ++ zeros 3 ++ toBE 4 (imgVersion (slotImage b k)) ++ toBE 4 (imgRollback (slotImage b k))) 0 ++
    (fun (k : Nat) => toBE 1 (if verified b k = true then 1 else 0) ++ zeros 3 ++ toBE 4 (imgVersion (slotImage b k)) ++ toBE
    4 (imgRollback (slotImage b k))) 1 ++ toBE 4 (liveWord b SEC_FW).toNat ++ toBE 4 (liveWord b SEC_CFG).toNat)) ∧
  (RunsOk .secConfig opSecConfig (fun _ _ => True) (fun b c e pl => pl = [] ∧ e = b.setFld SEC_CFG_trial_s (u16 c.p 0))) ∧
  (∀ (h : Hw) (k : Nat), imageCheck h k = (let b := (slotImage h k); if badIn h k 0 512 = true ∨ headerValid b = false then 1
    else if badIn h k 512 (512 + imgLength b) = true ∨ sha384 (imgBody b) ≠ BitVec.ofNat 384 (un b 20 48) then 2 else if
    releaseVerify (headerDigest b) (slice b 160 96) = false then 3 else if imgRollback b < h.nv.ident.rollback then 4 else if
    h.nv.ident.cosign = true ∧ cosignOk h b = false then 5 else 0))

/-- Of a request row a clause speaks wherever the request is taken up: it passes the checks, nothing refuses it and the
  domains it touches are ready; the request then completes with OK, or, where the clause says so, is accepted and waits. (1)
  EVR_INFO returns the first and the last page's number, 0 with none, the slots staged, the power-cycle count and operating
  time, and changes nothing. (2) EVR_READ of staging returns the next page's number and the staged records that fit its
  count, at most 45 slots in-band, and changes nothing. (3) EVR_READ of the ring tells pages from its start on that cannot be
  read, once each, and returns the page to go on from and the newest copies of the records of pages from the start on that
  fit its count, in their order. (4) EVR_CONFIG sets merge_ms, snap_int and the eight interrupt matches. (5) EVR_SNAP_SET
  whose addresses are all of listed units sets its set's code match, count and addresses, the others to 0. (6) EVR_FLUSH with
  D19 not fenced commits page after page until no record is staged. (7) EVR_ERASE with nothing staged and no commit pending
  empties the ring, and event 0x1303 of the pages erased and the slot that signed is staged at once and handed to Gather. (8)
  EVENT_DELIVER with an event on the bus: the first one is recorded, and, where D17 is ready, the source is enabled and its
  filter matches a code that is not one of GTH, offered as a trigger candidate at its time. (9) The first event on the bus,
  with no count of lost records waiting: a snapshot event with no record of its code and parameters within merge_ms before is
  staged as a new snapshot record with the words of its set; one with such a record joins the code records since; a code
  event joins the newest code record of its code, or opens one. (10) A code event with no record of its code that it may join
  is staged as a new code record, counted once; one with such a record, of the same parameters, not closed and within
  merge_ms of its last, is counted in the newest one, which closes at 65535. (11) A new record for which staging has room is
  staged, with the interrupt of its event; a code record for which it has none is lost and counted. (12) PAGE_COMMIT with a
  record due, D19 ready and not fenced, and fewer than 100 commits in the last second: the commit is noted and a page is
  written. (13) A page takes from the staged records, in their order, those due that fit its 15 slots; it stands at the end
  of the ring with the next number, the power-cycle count and operating time, the oldest pages above 2048 going; the commit
  is counted, and a count of lost records for which there is room then is staged. (14) OPTIME_CHECKPOINT 60 s after the last
  one, with D19 ready and not fenced: operating time is stored. Cites 19_records_security.md. -/
def Obligations.EventRecorder : Prop :=
  (RunsOk .evrInfo opEvrInfo (fun _ _ => True) (fun b _ e pl => e = b ∧ pl = toBE 4 ((b.nv.ring.head?.map Page.seq).getD 0)
    ++ toBE 4 ((b.nv.ring.getLast?.map Page.seq).getD 0) ++ toBE 2 (stagedSlots b.evr.staged) ++ zeros 2 ++ toBE 4 (b.num
    EVR_PCC) ++ toBE 8 b.optime)) ∧
  (RunsOk .evrRead opEvrRead (fun _ c => u8 c.p 0 = 1) (fun b c e pl => e = b ∧ pl = toBE 4 ((b.nv.pageSeq + 1) % 2 ^ 32) ++
    zeros 4 ++ (fitRecs (if c.rq.route = Route.inband then min 45 (u8 c.p 8) else u8 c.p 8) ((b.evr.staged.filter
    Rec.inStage).map fun (r : Rec) => (((b.nv.pageSeq + 1) % 2 ^ 32), r))).1.flatMap recBytes)) ∧
  (RunsOk .evrRead opEvrRead (fun _ c => u8 c.p 0 ≠ 1) (fun b c e pl => e = tellBadPages (u32 c.p 4) b ∧ (let f := (fitRecs
    (if c.rq.route = Route.inband then min 45 (u8 c.p 8) else u8 c.p 8) ((ringRecs (tellBadPages (u32 c.p 4)
    b).nv.ring).filter fun (x : Nat × Rec) => pageAfter x.1 (u32 c.p 4))); pl = toBE 4 (f.2.getD ((b.nv.pageSeq + 1) % 2 ^
    32)) ++ zeros 4 ++ (inOrder f.1).flatMap recBytes))) ∧
  (RunsOk .evrConfig opEvrConfig (fun _ _ => True) (fun b c e pl => pl = [] ∧ e = ((b.setFld EVR_CFG_merge_ms (u16 c.p
    0)).setFld EVR_CFG_snap_int (bit (u8 c.p 2) 0)).each (List.range 8) fun n s => s.setNum (EVR_INT_MATCH n) (u32 c.p (3 + 4
    * n)))) ∧
  (RunsOk .evrSnapSet opEvrSnapSet (fun _ c => ((List.range (u8 c.p 1)).all fun j => decide (u32 c.p (6 + 4 * j) < 2 ^ 24) &&
    unitListed (u32 c.p (6 + 4 * j))) = true) (fun b c e pl => pl = [] ∧ e = ((b.setNum (EVR_SNAP_CODE (u8 c.p 0)) (u32 c.p
    2)).setFld (EVR_SNAP_COUNT_count (u8 c.p 0)) (u8 c.p 1)).each (List.range 16) fun j s => s.setNum (EVR_SNAP_ADDR (u8 c.p
    0) j) (if j < u8 c.p 1 then u32 c.p (6 + 4 * j) else 0))) ∧
  (RunsOk .evrFlush opEvrFlush (fun b _ => b.fenced 19 = false) (fun b _ e pl => pl = [] ∧ e = flushAll (b.evr.staged.length
    + 1) b)) ∧
  (RunsOk .evrErase opEvrErase (fun b _ => (b.evr.staged.any Rec.inStage) = false ∧ b.nv.items = []) (fun b c e pl => pl = []
    ∧ let ev : Ev := { code := 0x1303, params := [b.nv.ring.length, signerOf c.rq], time := b.dtime }; e = handOver
    (stageCode { b.setFld EVR_STATUS_ring_wrapped 0 with nv := { b.nv with ring := [] } } ev []) ev)) ∧
  (∀ (x : Ev) (y : List Ev), Happens .eventDeliver (fun h => h.evr.bus = x :: y) (fun h u => u = (recordEvent h).cond
    (eventTriggers (recordEvent h) x) fun s => (offer s 4 (x.time % 2 ^ 58 * 64)).2)) ∧
  (∀ (h : Hw) (x : Ev) (y : List Ev), h.evr.bus = x :: y → h.evr.lostNow = 0 → (let s := (updEvr h fun z =>
    { z with bus := y }); let it := (fun (r : Rec) => r.snap && r.code == x.code); let again := ((lastWith it
    s.evr.staged).any fun (r : Rec) => r.params == x.params && decide (s.optime ≤ r.first + s.fld EVR_CFG_merge_ms)); let w
    := (snapWords s x.code); recordEvent h = if isSnap x.code = false then stageCode s x s.evr.staged else if again = true
    then stageCode s x (afterLast it s.evr.staged) else stageNew w.2
    { code := x.code, snap := true, pcc := w.2.num EVR_PCC, first := w.2.optime, last := w.2.optime, dtime := x.time, params := x.params, words := w.1.1, unavail := w.1.2 })) ∧
  (∀ (h : Hw) (x : Ev) (l : List Rec), (let it := ((fun (r : Rec) => !r.snap && r.code == x.code)); (lastWith it l = none →
    stageCode h x l = stageNew h
    { code := x.code, snap := false, pcc := h.num EVR_PCC, first := h.optime, last := h.optime, dtime := x.time, params := x.params })
    ∧ (∀ r, lastWith it l = some r → r.params = x.params → r.closed = false → h.optime ≤ r.last + h.fld EVR_CFG_merge_ms →
    stageCode h x l = interrupt (updEvr h fun z =>
    { z with staged := updLast it (fun (r : Rec) => { r with count := r.count + 1, last := h.optime, closed := decide (65535 ≤ r.count + 1), changed := r.committed }) z.staged })
    x.code))) ∧
  (∀ (h : Hw) (r : Rec), (stagedSlots h.evr.staged + r.slots ≤ 2048 → stageNew h r = interrupt (updEvr h fun x =>
    { x with staged := x.staged ++ [r] }) r.code) ∧ (2048 < stagedSlots h.evr.staged + r.slots → r.snap = false → stageNew h
    r = loseRecords h 1)) ∧
  (Happens .pageCommit (fun h => h.fenced 19 = false ∧ h.ready 19 = true ∧ h.evr.staged.any (due h) = true ∧
    (h.evr.commits.filter fun (t : Nat) => decide (h.dtime < t + 10 ^ 9)).length < 100) (fun h u => u = writePage (updEvr h
    fun x => { x with commits := h.evr.commits.filter (fun (t : Nat) => decide (h.dtime < t + 10 ^ 9)) ++ [h.dtime] }))) ∧
  (∀ h : Hw, (takePage h h.evr.staged 15).1 ≠ [] → (let q := ((h.nv.pageSeq + 1) % 2 ^ 32); let ring := (h.nv.ring ++
    [{ seq := q, pcc := h.num EVR_PCC, time := h.optime, recs := (takePage h h.evr.staged 15).1 }]); let s :=
    (({ h with nv := { h.nv with ring := ring.drop (ring.length - 2048), pageSeq := q } } : Hw).cond (decide (2048 <
    ring.length)) fun s => s.setFld EVR_STATUS_ring_wrapped 1); writePage h = stageLost (updEvr (s.wrapCount EVR_COMMITS) fun
    x => { x with staged := pruneStage (takePage h h.evr.staged 15).2 }))) ∧
  (Happens .optimeCheckpoint (fun h => h.evr.lastCkpt + 60000000000 ≤ h.dtime ∧ h.ready 19 = true ∧ h.fenced 19 = false) (fun
    h u => u = { h with nv := { h.nv with optime := h.optime }, evr := { h.evr with lastCkpt := h.dtime } }))
end

