-- ==== Sys2Proof/Laws/Maps.lean ====
section
/-!
SUPPORT. The laws of sparse maps: what a read after a write gives, and that every operation keeps the canonical form.
-/
namespace Sys2Proof.Machine

variable {α : Type}

theorem Map.get_erase_same (d : α) (m : Map α) (k : Nat) : Map.get d (Map.erase m k) k = d := by
  induction m with
  | nil => rfl
  | cons x m ih =>
    obtain ⟨i, v⟩ := x
    simp only [Map.erase]
    split
    · exact ih
    · simp [Map.get, *]

theorem Map.get_erase_other (d : α) (m : Map α) {k j : Nat} (h : j ≠ k) : Map.get d (Map.erase m k) j = Map.get d m j := by
  induction m with
  | nil => rfl
  | cons x m ih =>
    obtain ⟨i, v⟩ := x
    simp only [Map.erase]
    split
    · subst_vars; simp [Map.get, ih, Ne.symm h]
    · simp [Map.get, ih]

theorem Map.get_insert_other (d : α) (m : Map α) {k j : Nat} (v : α) (h : j ≠ k) :
    Map.get d (Map.insert m k v) j = Map.get d m j := by
  induction m with
  | nil => simp [Map.insert, Map.get, Ne.symm h]
  | cons x m ih =>
    obtain ⟨i, w⟩ := x
    simp only [Map.insert]
    split
    · simp [Map.get, Ne.symm h]
    · simp [Map.get, ih]

theorem Map.get_insert_same (d : α) (m : Map α) (k : Nat) (v : α) (h : ∀ p ∈ m, p.1 ≠ k) :
    Map.get d (Map.insert m k v) k = v := by
  induction m with
  | nil => simp [Map.insert, Map.get]
  | cons x m ih =>
    obtain ⟨i, w⟩ := x
    have hi : i ≠ k := h (i, w) (by simp)
    simp only [Map.insert]
    split
    · simp [Map.get]
    · simp [Map.get, hi, ih fun p hp => h p (by simp [hp])]

theorem Map.erase_keys (m : Map α) (k : Nat) : ∀ p ∈ Map.erase m k, p.1 ≠ k := by
  induction m with
  | nil => simp [Map.erase]
  | cons x m ih =>
    obtain ⟨i, v⟩ := x
    simp only [Map.erase]
    split
    · exact ih
    · intro p hp
      rcases List.mem_cons.1 hp with rfl | hp
      · assumption
      · exact ih p hp

variable [DecidableEq α]

/-- A read after a write to the same key. -/
theorem Map.get_put_same (d : α) (m : Map α) (k : Nat) (v : α) : Map.get d (Map.put d m k v) k = v := by
  unfold Map.put
  split
  · rw [Map.get_erase_same]; simp_all
  · exact Map.get_insert_same d _ k v (Map.erase_keys m k)

/-- A write leaves every other key. -/
theorem Map.get_put_other (d e : α) (m : Map α) {k j : Nat} (v : α) (h : j ≠ k) :
    Map.get e (Map.put d m k v) j = Map.get e m j := by
  unfold Map.put
  split
  · exact Map.get_erase_other e m h
  · rw [Map.get_insert_other e _ v h, Map.get_erase_other e m h]

theorem Map.wfFrom_mono (d : Nat → α) (m : Map α) {lo l : Nat} (hl : l ≤ lo) (h : Map.wfFrom d lo m = true) :
    Map.wfFrom d l m = true := by
  cases m with
  | nil => rfl
  | cons x m =>
    obtain ⟨i, v⟩ := x
    simp only [Map.wfFrom, Bool.and_eq_true, decide_eq_true_eq] at h ⊢
    exact ⟨⟨by omega, h.1.2⟩, h.2⟩

theorem Map.wfFrom_erase (d : Nat → α) (m : Map α) (k : Nat) {lo : Nat} (h : Map.wfFrom d lo m = true) :
    Map.wfFrom d lo (Map.erase m k) = true := by
  induction m generalizing lo with
  | nil => rfl
  | cons x m ih =>
    obtain ⟨i, v⟩ := x
    simp only [Map.wfFrom, Bool.and_eq_true, decide_eq_true_eq] at h
    simp only [Map.erase]
    split
    · exact Map.wfFrom_mono d _ (by omega) (ih h.2)
    · simp only [Map.wfFrom, Bool.and_eq_true, decide_eq_true_eq]
      exact ⟨h.1, ih h.2⟩

theorem Map.wfFrom_insert (d : Nat → α) (m : Map α) (k : Nat) (v : α) {lo : Nat} (hk : lo ≤ k) (hv : v ≠ d k)
    (hm : ∀ p ∈ m, p.1 ≠ k) (h : Map.wfFrom d lo m = true) : Map.wfFrom d lo (Map.insert m k v) = true := by
  induction m generalizing lo with
  | nil => simp [Map.insert, Map.wfFrom, hk, hv]
  | cons x m ih =>
    obtain ⟨i, w⟩ := x
    have hi : i ≠ k := hm (i, w) (by simp)
    simp only [Map.wfFrom, Bool.and_eq_true, decide_eq_true_eq] at h
    simp only [Map.insert]
    split
    · rename_i hki
      simp only [Map.wfFrom, Bool.and_eq_true, decide_eq_true_eq]
      exact ⟨⟨hk, hv⟩, ⟨by omega, h.1.2⟩, h.2⟩
    · simp only [Map.wfFrom, Bool.and_eq_true, decide_eq_true_eq]
      exact ⟨h.1, ih (by omega) (fun p hp => hm p (by simp [hp])) h.2⟩

/-- A write keeps the canonical form. -/
theorem Map.wf_put (d : Nat → α) (m : Map α) (k : Nat) (v : α) (h : Map.wf d m = true) :
    Map.wf d (Map.put (d k) m k v) = true := by
  unfold Map.put
  split
  · exact Map.wfFrom_erase d m k h
  · rename_i hv
    exact Map.wfFrom_insert d _ k v (Nat.zero_le k) hv (Map.erase_keys m k) (Map.wfFrom_erase d m k h)

end Sys2Proof.Machine
end

