-- ==== Sys2Proof/Laws/State.lean ====
section
/-!
SUPPORT. One lemma per part of the state and shared update, true by rfl: what the update leaves as it is.
-/
namespace Sys2Proof.Machine

variable (s : Hw)

/-! ### setReg -/

@[simp] theorem Hw.setReg_dtime (a : Nat) (v : Word) : (s.setReg a v).dtime = s.dtime := rfl
@[simp] theorem Hw.setReg_phase (a : Nat) (v : Word) : (s.setReg a v).phase = s.phase := rfl
@[simp] theorem Hw.setReg_cmd (a : Nat) (v : Word) : (s.setReg a v).cmd = s.cmd := rfl
@[simp] theorem Hw.setReg_evr (a : Nat) (v : Word) : (s.setReg a v).evr = s.evr := rfl
@[simp] theorem Hw.setReg_nv (a : Nat) (v : Word) : (s.setReg a v).nv = s.nv := rfl
@[simp] theorem Hw.setReg_pwr (a : Nat) (v : Word) : (s.setReg a v).pwr = s.pwr := rfl
@[simp] theorem Hw.setReg_lanes (a : Nat) (v : Word) : (s.setReg a v).lanes = s.lanes := rfl
@[simp] theorem Hw.setReg_mem (a : Nat) (v : Word) : (s.setReg a v).mem = s.mem := rfl
@[simp] theorem Hw.setReg_grps (a : Nat) (v : Word) : (s.setReg a v).grps = s.grps := rfl
@[simp] theorem Hw.setReg_host (a : Nat) (v : Word) : (s.setReg a v).host = s.host := rfl
@[simp] theorem Hw.setReg_flw (a : Nat) (v : Word) : (s.setReg a v).flw = s.flw := rfl
@[simp] theorem Hw.setReg_tds (a : Nat) (v : Word) : (s.setReg a v).tds = s.tds := rfl
@[simp] theorem Hw.setReg_fes (a : Nat) (v : Word) : (s.setReg a v).fes = s.fes := rfl
@[simp] theorem Hw.setReg_fesq (a : Nat) (v : Word) : (s.setReg a v).fesq = s.fesq := rfl
@[simp] theorem Hw.setReg_brc (a : Nat) (v : Word) : (s.setReg a v).brc = s.brc := rfl
@[simp] theorem Hw.setReg_cle (a : Nat) (v : Word) : (s.setReg a v).cle = s.cle := rfl
@[simp] theorem Hw.setReg_aou (a : Nat) (v : Word) : (s.setReg a v).aou = s.aou := rfl
@[simp] theorem Hw.setReg_mcv (a : Nat) (v : Word) : (s.setReg a v).mcv = s.mcv := rfl
@[simp] theorem Hw.setReg_fab (a : Nat) (v : Word) : (s.setReg a v).fab = s.fab := rfl
@[simp] theorem Hw.setReg_gth (a : Nat) (v : Word) : (s.setReg a v).gth = s.gth := rfl
@[simp] theorem Hw.setReg_intl (a : Nat) (v : Word) : (s.setReg a v).intl = s.intl := rfl
@[simp] theorem Hw.setReg_cmis (a : Nat) (v : Word) : (s.setReg a v).cmis = s.cmis := rfl
@[simp] theorem Hw.setReg_freeN (a : Nat) (v : Word) : (s.setReg a v).freeN = s.freeN := rfl
@[simp] theorem Hw.setReg_out (a : Nat) (v : Word) : (s.setReg a v).out = s.out := rfl

/-! ### setNum -/

@[simp] theorem Hw.setNum_dtime (a n : Nat) : (s.setNum a n).dtime = s.dtime := rfl
@[simp] theorem Hw.setNum_phase (a n : Nat) : (s.setNum a n).phase = s.phase := rfl
@[simp] theorem Hw.setNum_cmd (a n : Nat) : (s.setNum a n).cmd = s.cmd := rfl
@[simp] theorem Hw.setNum_evr (a n : Nat) : (s.setNum a n).evr = s.evr := rfl
@[simp] theorem Hw.setNum_nv (a n : Nat) : (s.setNum a n).nv = s.nv := rfl
@[simp] theorem Hw.setNum_pwr (a n : Nat) : (s.setNum a n).pwr = s.pwr := rfl
@[simp] theorem Hw.setNum_lanes (a n : Nat) : (s.setNum a n).lanes = s.lanes := rfl
@[simp] theorem Hw.setNum_mem (a n : Nat) : (s.setNum a n).mem = s.mem := rfl
@[simp] theorem Hw.setNum_grps (a n : Nat) : (s.setNum a n).grps = s.grps := rfl
@[simp] theorem Hw.setNum_host (a n : Nat) : (s.setNum a n).host = s.host := rfl
@[simp] theorem Hw.setNum_flw (a n : Nat) : (s.setNum a n).flw = s.flw := rfl
@[simp] theorem Hw.setNum_tds (a n : Nat) : (s.setNum a n).tds = s.tds := rfl
@[simp] theorem Hw.setNum_fes (a n : Nat) : (s.setNum a n).fes = s.fes := rfl
@[simp] theorem Hw.setNum_fesq (a n : Nat) : (s.setNum a n).fesq = s.fesq := rfl
@[simp] theorem Hw.setNum_brc (a n : Nat) : (s.setNum a n).brc = s.brc := rfl
@[simp] theorem Hw.setNum_cle (a n : Nat) : (s.setNum a n).cle = s.cle := rfl
@[simp] theorem Hw.setNum_aou (a n : Nat) : (s.setNum a n).aou = s.aou := rfl
@[simp] theorem Hw.setNum_mcv (a n : Nat) : (s.setNum a n).mcv = s.mcv := rfl
@[simp] theorem Hw.setNum_fab (a n : Nat) : (s.setNum a n).fab = s.fab := rfl
@[simp] theorem Hw.setNum_gth (a n : Nat) : (s.setNum a n).gth = s.gth := rfl
@[simp] theorem Hw.setNum_intl (a n : Nat) : (s.setNum a n).intl = s.intl := rfl
@[simp] theorem Hw.setNum_cmis (a n : Nat) : (s.setNum a n).cmis = s.cmis := rfl
@[simp] theorem Hw.setNum_freeN (a n : Nat) : (s.setNum a n).freeN = s.freeN := rfl
@[simp] theorem Hw.setNum_out (a n : Nat) : (s.setNum a n).out = s.out := rfl

/-! ### setInt -/

@[simp] theorem Hw.setInt_dtime (a : Nat) (i : Int) : (s.setInt a i).dtime = s.dtime := rfl
@[simp] theorem Hw.setInt_phase (a : Nat) (i : Int) : (s.setInt a i).phase = s.phase := rfl
@[simp] theorem Hw.setInt_cmd (a : Nat) (i : Int) : (s.setInt a i).cmd = s.cmd := rfl
@[simp] theorem Hw.setInt_evr (a : Nat) (i : Int) : (s.setInt a i).evr = s.evr := rfl
@[simp] theorem Hw.setInt_nv (a : Nat) (i : Int) : (s.setInt a i).nv = s.nv := rfl
@[simp] theorem Hw.setInt_pwr (a : Nat) (i : Int) : (s.setInt a i).pwr = s.pwr := rfl
@[simp] theorem Hw.setInt_lanes (a : Nat) (i : Int) : (s.setInt a i).lanes = s.lanes := rfl
@[simp] theorem Hw.setInt_mem (a : Nat) (i : Int) : (s.setInt a i).mem = s.mem := rfl
@[simp] theorem Hw.setInt_grps (a : Nat) (i : Int) : (s.setInt a i).grps = s.grps := rfl
@[simp] theorem Hw.setInt_host (a : Nat) (i : Int) : (s.setInt a i).host = s.host := rfl
@[simp] theorem Hw.setInt_flw (a : Nat) (i : Int) : (s.setInt a i).flw = s.flw := rfl
@[simp] theorem Hw.setInt_tds (a : Nat) (i : Int) : (s.setInt a i).tds = s.tds := rfl
@[simp] theorem Hw.setInt_fes (a : Nat) (i : Int) : (s.setInt a i).fes = s.fes := rfl
@[simp] theorem Hw.setInt_fesq (a : Nat) (i : Int) : (s.setInt a i).fesq = s.fesq := rfl
@[simp] theorem Hw.setInt_brc (a : Nat) (i : Int) : (s.setInt a i).brc = s.brc := rfl
@[simp] theorem Hw.setInt_cle (a : Nat) (i : Int) : (s.setInt a i).cle = s.cle := rfl
@[simp] theorem Hw.setInt_aou (a : Nat) (i : Int) : (s.setInt a i).aou = s.aou := rfl
@[simp] theorem Hw.setInt_mcv (a : Nat) (i : Int) : (s.setInt a i).mcv = s.mcv := rfl
@[simp] theorem Hw.setInt_fab (a : Nat) (i : Int) : (s.setInt a i).fab = s.fab := rfl
@[simp] theorem Hw.setInt_gth (a : Nat) (i : Int) : (s.setInt a i).gth = s.gth := rfl
@[simp] theorem Hw.setInt_intl (a : Nat) (i : Int) : (s.setInt a i).intl = s.intl := rfl
@[simp] theorem Hw.setInt_cmis (a : Nat) (i : Int) : (s.setInt a i).cmis = s.cmis := rfl
@[simp] theorem Hw.setInt_freeN (a : Nat) (i : Int) : (s.setInt a i).freeN = s.freeN := rfl
@[simp] theorem Hw.setInt_out (a : Nat) (i : Int) : (s.setInt a i).out = s.out := rfl

/-! ### setFld -/

@[simp] theorem Hw.setFld_dtime (f : Fld) (v : Nat) : (s.setFld f v).dtime = s.dtime := rfl
@[simp] theorem Hw.setFld_phase (f : Fld) (v : Nat) : (s.setFld f v).phase = s.phase := rfl
@[simp] theorem Hw.setFld_cmd (f : Fld) (v : Nat) : (s.setFld f v).cmd = s.cmd := rfl
@[simp] theorem Hw.setFld_evr (f : Fld) (v : Nat) : (s.setFld f v).evr = s.evr := rfl
@[simp] theorem Hw.setFld_nv (f : Fld) (v : Nat) : (s.setFld f v).nv = s.nv := rfl
@[simp] theorem Hw.setFld_pwr (f : Fld) (v : Nat) : (s.setFld f v).pwr = s.pwr := rfl
@[simp] theorem Hw.setFld_lanes (f : Fld) (v : Nat) : (s.setFld f v).lanes = s.lanes := rfl
@[simp] theorem Hw.setFld_mem (f : Fld) (v : Nat) : (s.setFld f v).mem = s.mem := rfl
@[simp] theorem Hw.setFld_grps (f : Fld) (v : Nat) : (s.setFld f v).grps = s.grps := rfl
@[simp] theorem Hw.setFld_host (f : Fld) (v : Nat) : (s.setFld f v).host = s.host := rfl
@[simp] theorem Hw.setFld_flw (f : Fld) (v : Nat) : (s.setFld f v).flw = s.flw := rfl
@[simp] theorem Hw.setFld_tds (f : Fld) (v : Nat) : (s.setFld f v).tds = s.tds := rfl
@[simp] theorem Hw.setFld_fes (f : Fld) (v : Nat) : (s.setFld f v).fes = s.fes := rfl
@[simp] theorem Hw.setFld_fesq (f : Fld) (v : Nat) : (s.setFld f v).fesq = s.fesq := rfl
@[simp] theorem Hw.setFld_brc (f : Fld) (v : Nat) : (s.setFld f v).brc = s.brc := rfl
@[simp] theorem Hw.setFld_cle (f : Fld) (v : Nat) : (s.setFld f v).cle = s.cle := rfl
@[simp] theorem Hw.setFld_aou (f : Fld) (v : Nat) : (s.setFld f v).aou = s.aou := rfl
@[simp] theorem Hw.setFld_mcv (f : Fld) (v : Nat) : (s.setFld f v).mcv = s.mcv := rfl
@[simp] theorem Hw.setFld_fab (f : Fld) (v : Nat) : (s.setFld f v).fab = s.fab := rfl
@[simp] theorem Hw.setFld_gth (f : Fld) (v : Nat) : (s.setFld f v).gth = s.gth := rfl
@[simp] theorem Hw.setFld_intl (f : Fld) (v : Nat) : (s.setFld f v).intl = s.intl := rfl
@[simp] theorem Hw.setFld_cmis (f : Fld) (v : Nat) : (s.setFld f v).cmis = s.cmis := rfl
@[simp] theorem Hw.setFld_freeN (f : Fld) (v : Nat) : (s.setFld f v).freeN = s.freeN := rfl
@[simp] theorem Hw.setFld_out (f : Fld) (v : Nat) : (s.setFld f v).out = s.out := rfl

/-! ### setFldS -/

@[simp] theorem Hw.setFldS_dtime (f : Fld) (v : Int) : (s.setFldS f v).dtime = s.dtime := rfl
@[simp] theorem Hw.setFldS_phase (f : Fld) (v : Int) : (s.setFldS f v).phase = s.phase := rfl
@[simp] theorem Hw.setFldS_cmd (f : Fld) (v : Int) : (s.setFldS f v).cmd = s.cmd := rfl
@[simp] theorem Hw.setFldS_evr (f : Fld) (v : Int) : (s.setFldS f v).evr = s.evr := rfl
@[simp] theorem Hw.setFldS_nv (f : Fld) (v : Int) : (s.setFldS f v).nv = s.nv := rfl
@[simp] theorem Hw.setFldS_pwr (f : Fld) (v : Int) : (s.setFldS f v).pwr = s.pwr := rfl
@[simp] theorem Hw.setFldS_lanes (f : Fld) (v : Int) : (s.setFldS f v).lanes = s.lanes := rfl
@[simp] theorem Hw.setFldS_mem (f : Fld) (v : Int) : (s.setFldS f v).mem = s.mem := rfl
@[simp] theorem Hw.setFldS_grps (f : Fld) (v : Int) : (s.setFldS f v).grps = s.grps := rfl
@[simp] theorem Hw.setFldS_host (f : Fld) (v : Int) : (s.setFldS f v).host = s.host := rfl
@[simp] theorem Hw.setFldS_flw (f : Fld) (v : Int) : (s.setFldS f v).flw = s.flw := rfl
@[simp] theorem Hw.setFldS_tds (f : Fld) (v : Int) : (s.setFldS f v).tds = s.tds := rfl
@[simp] theorem Hw.setFldS_fes (f : Fld) (v : Int) : (s.setFldS f v).fes = s.fes := rfl
@[simp] theorem Hw.setFldS_fesq (f : Fld) (v : Int) : (s.setFldS f v).fesq = s.fesq := rfl
@[simp] theorem Hw.setFldS_brc (f : Fld) (v : Int) : (s.setFldS f v).brc = s.brc := rfl
@[simp] theorem Hw.setFldS_cle (f : Fld) (v : Int) : (s.setFldS f v).cle = s.cle := rfl
@[simp] theorem Hw.setFldS_aou (f : Fld) (v : Int) : (s.setFldS f v).aou = s.aou := rfl
@[simp] theorem Hw.setFldS_mcv (f : Fld) (v : Int) : (s.setFldS f v).mcv = s.mcv := rfl
@[simp] theorem Hw.setFldS_fab (f : Fld) (v : Int) : (s.setFldS f v).fab = s.fab := rfl
@[simp] theorem Hw.setFldS_gth (f : Fld) (v : Int) : (s.setFldS f v).gth = s.gth := rfl
@[simp] theorem Hw.setFldS_intl (f : Fld) (v : Int) : (s.setFldS f v).intl = s.intl := rfl
@[simp] theorem Hw.setFldS_cmis (f : Fld) (v : Int) : (s.setFldS f v).cmis = s.cmis := rfl
@[simp] theorem Hw.setFldS_freeN (f : Fld) (v : Int) : (s.setFldS f v).freeN = s.freeN := rfl
@[simp] theorem Hw.setFldS_out (f : Fld) (v : Int) : (s.setFldS f v).out = s.out := rfl

/-! ### setFlag -/

@[simp] theorem Hw.setFlag_dtime (f : Fld) (b : Bool) : (s.setFlag f b).dtime = s.dtime := rfl
@[simp] theorem Hw.setFlag_phase (f : Fld) (b : Bool) : (s.setFlag f b).phase = s.phase := rfl
@[simp] theorem Hw.setFlag_cmd (f : Fld) (b : Bool) : (s.setFlag f b).cmd = s.cmd := rfl
@[simp] theorem Hw.setFlag_evr (f : Fld) (b : Bool) : (s.setFlag f b).evr = s.evr := rfl
@[simp] theorem Hw.setFlag_nv (f : Fld) (b : Bool) : (s.setFlag f b).nv = s.nv := rfl
@[simp] theorem Hw.setFlag_pwr (f : Fld) (b : Bool) : (s.setFlag f b).pwr = s.pwr := rfl
@[simp] theorem Hw.setFlag_lanes (f : Fld) (b : Bool) : (s.setFlag f b).lanes = s.lanes := rfl
@[simp] theorem Hw.setFlag_mem (f : Fld) (b : Bool) : (s.setFlag f b).mem = s.mem := rfl
@[simp] theorem Hw.setFlag_grps (f : Fld) (b : Bool) : (s.setFlag f b).grps = s.grps := rfl
@[simp] theorem Hw.setFlag_host (f : Fld) (b : Bool) : (s.setFlag f b).host = s.host := rfl
@[simp] theorem Hw.setFlag_flw (f : Fld) (b : Bool) : (s.setFlag f b).flw = s.flw := rfl
@[simp] theorem Hw.setFlag_tds (f : Fld) (b : Bool) : (s.setFlag f b).tds = s.tds := rfl
@[simp] theorem Hw.setFlag_fes (f : Fld) (b : Bool) : (s.setFlag f b).fes = s.fes := rfl
@[simp] theorem Hw.setFlag_fesq (f : Fld) (b : Bool) : (s.setFlag f b).fesq = s.fesq := rfl
@[simp] theorem Hw.setFlag_brc (f : Fld) (b : Bool) : (s.setFlag f b).brc = s.brc := rfl
@[simp] theorem Hw.setFlag_cle (f : Fld) (b : Bool) : (s.setFlag f b).cle = s.cle := rfl
@[simp] theorem Hw.setFlag_aou (f : Fld) (b : Bool) : (s.setFlag f b).aou = s.aou := rfl
@[simp] theorem Hw.setFlag_mcv (f : Fld) (b : Bool) : (s.setFlag f b).mcv = s.mcv := rfl
@[simp] theorem Hw.setFlag_fab (f : Fld) (b : Bool) : (s.setFlag f b).fab = s.fab := rfl
@[simp] theorem Hw.setFlag_gth (f : Fld) (b : Bool) : (s.setFlag f b).gth = s.gth := rfl
@[simp] theorem Hw.setFlag_intl (f : Fld) (b : Bool) : (s.setFlag f b).intl = s.intl := rfl
@[simp] theorem Hw.setFlag_cmis (f : Fld) (b : Bool) : (s.setFlag f b).cmis = s.cmis := rfl
@[simp] theorem Hw.setFlag_freeN (f : Fld) (b : Bool) : (s.setFlag f b).freeN = s.freeN := rfl
@[simp] theorem Hw.setFlag_out (f : Fld) (b : Bool) : (s.setFlag f b).out = s.out := rfl

/-! ### setNum64 -/

@[simp] theorem Hw.setNum64_dtime (a n : Nat) : (s.setNum64 a n).dtime = s.dtime := rfl
@[simp] theorem Hw.setNum64_phase (a n : Nat) : (s.setNum64 a n).phase = s.phase := rfl
@[simp] theorem Hw.setNum64_cmd (a n : Nat) : (s.setNum64 a n).cmd = s.cmd := rfl
@[simp] theorem Hw.setNum64_evr (a n : Nat) : (s.setNum64 a n).evr = s.evr := rfl
@[simp] theorem Hw.setNum64_nv (a n : Nat) : (s.setNum64 a n).nv = s.nv := rfl
@[simp] theorem Hw.setNum64_pwr (a n : Nat) : (s.setNum64 a n).pwr = s.pwr := rfl
@[simp] theorem Hw.setNum64_lanes (a n : Nat) : (s.setNum64 a n).lanes = s.lanes := rfl
@[simp] theorem Hw.setNum64_mem (a n : Nat) : (s.setNum64 a n).mem = s.mem := rfl
@[simp] theorem Hw.setNum64_grps (a n : Nat) : (s.setNum64 a n).grps = s.grps := rfl
@[simp] theorem Hw.setNum64_host (a n : Nat) : (s.setNum64 a n).host = s.host := rfl
@[simp] theorem Hw.setNum64_flw (a n : Nat) : (s.setNum64 a n).flw = s.flw := rfl
@[simp] theorem Hw.setNum64_tds (a n : Nat) : (s.setNum64 a n).tds = s.tds := rfl
@[simp] theorem Hw.setNum64_fes (a n : Nat) : (s.setNum64 a n).fes = s.fes := rfl
@[simp] theorem Hw.setNum64_fesq (a n : Nat) : (s.setNum64 a n).fesq = s.fesq := rfl
@[simp] theorem Hw.setNum64_brc (a n : Nat) : (s.setNum64 a n).brc = s.brc := rfl
@[simp] theorem Hw.setNum64_cle (a n : Nat) : (s.setNum64 a n).cle = s.cle := rfl
@[simp] theorem Hw.setNum64_aou (a n : Nat) : (s.setNum64 a n).aou = s.aou := rfl
@[simp] theorem Hw.setNum64_mcv (a n : Nat) : (s.setNum64 a n).mcv = s.mcv := rfl
@[simp] theorem Hw.setNum64_fab (a n : Nat) : (s.setNum64 a n).fab = s.fab := rfl
@[simp] theorem Hw.setNum64_gth (a n : Nat) : (s.setNum64 a n).gth = s.gth := rfl
@[simp] theorem Hw.setNum64_intl (a n : Nat) : (s.setNum64 a n).intl = s.intl := rfl
@[simp] theorem Hw.setNum64_cmis (a n : Nat) : (s.setNum64 a n).cmis = s.cmis := rfl
@[simp] theorem Hw.setNum64_freeN (a n : Nat) : (s.setNum64 a n).freeN = s.freeN := rfl
@[simp] theorem Hw.setNum64_out (a n : Nat) : (s.setNum64 a n).out = s.out := rfl

/-! ### count -/

@[simp] theorem Hw.count_dtime (a k : Nat) : (s.count a k).dtime = s.dtime := rfl
@[simp] theorem Hw.count_phase (a k : Nat) : (s.count a k).phase = s.phase := rfl
@[simp] theorem Hw.count_cmd (a k : Nat) : (s.count a k).cmd = s.cmd := rfl
@[simp] theorem Hw.count_evr (a k : Nat) : (s.count a k).evr = s.evr := rfl
@[simp] theorem Hw.count_nv (a k : Nat) : (s.count a k).nv = s.nv := rfl
@[simp] theorem Hw.count_pwr (a k : Nat) : (s.count a k).pwr = s.pwr := rfl
@[simp] theorem Hw.count_lanes (a k : Nat) : (s.count a k).lanes = s.lanes := rfl
@[simp] theorem Hw.count_mem (a k : Nat) : (s.count a k).mem = s.mem := rfl
@[simp] theorem Hw.count_grps (a k : Nat) : (s.count a k).grps = s.grps := rfl
@[simp] theorem Hw.count_host (a k : Nat) : (s.count a k).host = s.host := rfl
@[simp] theorem Hw.count_flw (a k : Nat) : (s.count a k).flw = s.flw := rfl
@[simp] theorem Hw.count_tds (a k : Nat) : (s.count a k).tds = s.tds := rfl
@[simp] theorem Hw.count_fes (a k : Nat) : (s.count a k).fes = s.fes := rfl
@[simp] theorem Hw.count_fesq (a k : Nat) : (s.count a k).fesq = s.fesq := rfl
@[simp] theorem Hw.count_brc (a k : Nat) : (s.count a k).brc = s.brc := rfl
@[simp] theorem Hw.count_cle (a k : Nat) : (s.count a k).cle = s.cle := rfl
@[simp] theorem Hw.count_aou (a k : Nat) : (s.count a k).aou = s.aou := rfl
@[simp] theorem Hw.count_mcv (a k : Nat) : (s.count a k).mcv = s.mcv := rfl
@[simp] theorem Hw.count_fab (a k : Nat) : (s.count a k).fab = s.fab := rfl
@[simp] theorem Hw.count_gth (a k : Nat) : (s.count a k).gth = s.gth := rfl
@[simp] theorem Hw.count_intl (a k : Nat) : (s.count a k).intl = s.intl := rfl
@[simp] theorem Hw.count_cmis (a k : Nat) : (s.count a k).cmis = s.cmis := rfl
@[simp] theorem Hw.count_freeN (a k : Nat) : (s.count a k).freeN = s.freeN := rfl
@[simp] theorem Hw.count_out (a k : Nat) : (s.count a k).out = s.out := rfl

/-! ### countFld -/

@[simp] theorem Hw.countFld_dtime (f : Fld) (k : Nat) : (s.countFld f k).dtime = s.dtime := rfl
@[simp] theorem Hw.countFld_phase (f : Fld) (k : Nat) : (s.countFld f k).phase = s.phase := rfl
@[simp] theorem Hw.countFld_cmd (f : Fld) (k : Nat) : (s.countFld f k).cmd = s.cmd := rfl
@[simp] theorem Hw.countFld_evr (f : Fld) (k : Nat) : (s.countFld f k).evr = s.evr := rfl
@[simp] theorem Hw.countFld_nv (f : Fld) (k : Nat) : (s.countFld f k).nv = s.nv := rfl
@[simp] theorem Hw.countFld_pwr (f : Fld) (k : Nat) : (s.countFld f k).pwr = s.pwr := rfl
@[simp] theorem Hw.countFld_lanes (f : Fld) (k : Nat) : (s.countFld f k).lanes = s.lanes := rfl
@[simp] theorem Hw.countFld_mem (f : Fld) (k : Nat) : (s.countFld f k).mem = s.mem := rfl
@[simp] theorem Hw.countFld_grps (f : Fld) (k : Nat) : (s.countFld f k).grps = s.grps := rfl
@[simp] theorem Hw.countFld_host (f : Fld) (k : Nat) : (s.countFld f k).host = s.host := rfl
@[simp] theorem Hw.countFld_flw (f : Fld) (k : Nat) : (s.countFld f k).flw = s.flw := rfl
@[simp] theorem Hw.countFld_tds (f : Fld) (k : Nat) : (s.countFld f k).tds = s.tds := rfl
@[simp] theorem Hw.countFld_fes (f : Fld) (k : Nat) : (s.countFld f k).fes = s.fes := rfl
@[simp] theorem Hw.countFld_fesq (f : Fld) (k : Nat) : (s.countFld f k).fesq = s.fesq := rfl
@[simp] theorem Hw.countFld_brc (f : Fld) (k : Nat) : (s.countFld f k).brc = s.brc := rfl
@[simp] theorem Hw.countFld_cle (f : Fld) (k : Nat) : (s.countFld f k).cle = s.cle := rfl
@[simp] theorem Hw.countFld_aou (f : Fld) (k : Nat) : (s.countFld f k).aou = s.aou := rfl
@[simp] theorem Hw.countFld_mcv (f : Fld) (k : Nat) : (s.countFld f k).mcv = s.mcv := rfl
@[simp] theorem Hw.countFld_fab (f : Fld) (k : Nat) : (s.countFld f k).fab = s.fab := rfl
@[simp] theorem Hw.countFld_gth (f : Fld) (k : Nat) : (s.countFld f k).gth = s.gth := rfl
@[simp] theorem Hw.countFld_intl (f : Fld) (k : Nat) : (s.countFld f k).intl = s.intl := rfl
@[simp] theorem Hw.countFld_cmis (f : Fld) (k : Nat) : (s.countFld f k).cmis = s.cmis := rfl
@[simp] theorem Hw.countFld_freeN (f : Fld) (k : Nat) : (s.countFld f k).freeN = s.freeN := rfl
@[simp] theorem Hw.countFld_out (f : Fld) (k : Nat) : (s.countFld f k).out = s.out := rfl

/-! ### emit -/

@[simp] theorem Hw.emit_dtime (o : Out) : (s.emit o).dtime = s.dtime := rfl
@[simp] theorem Hw.emit_phase (o : Out) : (s.emit o).phase = s.phase := rfl
@[simp] theorem Hw.emit_regs (o : Out) : (s.emit o).regs = s.regs := rfl
@[simp] theorem Hw.emit_cmd (o : Out) : (s.emit o).cmd = s.cmd := rfl
@[simp] theorem Hw.emit_evr (o : Out) : (s.emit o).evr = s.evr := rfl
@[simp] theorem Hw.emit_nv (o : Out) : (s.emit o).nv = s.nv := rfl
@[simp] theorem Hw.emit_pwr (o : Out) : (s.emit o).pwr = s.pwr := rfl
@[simp] theorem Hw.emit_lanes (o : Out) : (s.emit o).lanes = s.lanes := rfl
@[simp] theorem Hw.emit_mem (o : Out) : (s.emit o).mem = s.mem := rfl
@[simp] theorem Hw.emit_grps (o : Out) : (s.emit o).grps = s.grps := rfl
@[simp] theorem Hw.emit_host (o : Out) : (s.emit o).host = s.host := rfl
@[simp] theorem Hw.emit_flw (o : Out) : (s.emit o).flw = s.flw := rfl
@[simp] theorem Hw.emit_tds (o : Out) : (s.emit o).tds = s.tds := rfl
@[simp] theorem Hw.emit_fes (o : Out) : (s.emit o).fes = s.fes := rfl
@[simp] theorem Hw.emit_fesq (o : Out) : (s.emit o).fesq = s.fesq := rfl
@[simp] theorem Hw.emit_brc (o : Out) : (s.emit o).brc = s.brc := rfl
@[simp] theorem Hw.emit_cle (o : Out) : (s.emit o).cle = s.cle := rfl
@[simp] theorem Hw.emit_aou (o : Out) : (s.emit o).aou = s.aou := rfl
@[simp] theorem Hw.emit_mcv (o : Out) : (s.emit o).mcv = s.mcv := rfl
@[simp] theorem Hw.emit_fab (o : Out) : (s.emit o).fab = s.fab := rfl
@[simp] theorem Hw.emit_gth (o : Out) : (s.emit o).gth = s.gth := rfl
@[simp] theorem Hw.emit_intl (o : Out) : (s.emit o).intl = s.intl := rfl
@[simp] theorem Hw.emit_cmis (o : Out) : (s.emit o).cmis = s.cmis := rfl
@[simp] theorem Hw.emit_freeN (o : Out) : (s.emit o).freeN = s.freeN := rfl

/-! ### raise -/

@[simp] theorem Hw.raise_dtime (c : Nat) (l : List Nat) : (s.raise c l).dtime = s.dtime := rfl
@[simp] theorem Hw.raise_phase (c : Nat) (l : List Nat) : (s.raise c l).phase = s.phase := rfl
@[simp] theorem Hw.raise_regs (c : Nat) (l : List Nat) : (s.raise c l).regs = s.regs := rfl
@[simp] theorem Hw.raise_cmd (c : Nat) (l : List Nat) : (s.raise c l).cmd = s.cmd := rfl
@[simp] theorem Hw.raise_nv (c : Nat) (l : List Nat) : (s.raise c l).nv = s.nv := rfl
@[simp] theorem Hw.raise_pwr (c : Nat) (l : List Nat) : (s.raise c l).pwr = s.pwr := rfl
@[simp] theorem Hw.raise_lanes (c : Nat) (l : List Nat) : (s.raise c l).lanes = s.lanes := rfl
@[simp] theorem Hw.raise_mem (c : Nat) (l : List Nat) : (s.raise c l).mem = s.mem := rfl
@[simp] theorem Hw.raise_grps (c : Nat) (l : List Nat) : (s.raise c l).grps = s.grps := rfl
@[simp] theorem Hw.raise_host (c : Nat) (l : List Nat) : (s.raise c l).host = s.host := rfl
@[simp] theorem Hw.raise_flw (c : Nat) (l : List Nat) : (s.raise c l).flw = s.flw := rfl
@[simp] theorem Hw.raise_tds (c : Nat) (l : List Nat) : (s.raise c l).tds = s.tds := rfl
@[simp] theorem Hw.raise_fes (c : Nat) (l : List Nat) : (s.raise c l).fes = s.fes := rfl
@[simp] theorem Hw.raise_fesq (c : Nat) (l : List Nat) : (s.raise c l).fesq = s.fesq := rfl
@[simp] theorem Hw.raise_brc (c : Nat) (l : List Nat) : (s.raise c l).brc = s.brc := rfl
@[simp] theorem Hw.raise_cle (c : Nat) (l : List Nat) : (s.raise c l).cle = s.cle := rfl
@[simp] theorem Hw.raise_aou (c : Nat) (l : List Nat) : (s.raise c l).aou = s.aou := rfl
@[simp] theorem Hw.raise_mcv (c : Nat) (l : List Nat) : (s.raise c l).mcv = s.mcv := rfl
@[simp] theorem Hw.raise_fab (c : Nat) (l : List Nat) : (s.raise c l).fab = s.fab := rfl
@[simp] theorem Hw.raise_gth (c : Nat) (l : List Nat) : (s.raise c l).gth = s.gth := rfl
@[simp] theorem Hw.raise_intl (c : Nat) (l : List Nat) : (s.raise c l).intl = s.intl := rfl
@[simp] theorem Hw.raise_cmis (c : Nat) (l : List Nat) : (s.raise c l).cmis = s.cmis := rfl
@[simp] theorem Hw.raise_freeN (c : Nat) (l : List Nat) : (s.raise c l).freeN = s.freeN := rfl
@[simp] theorem Hw.raise_out (c : Nat) (l : List Nat) : (s.raise c l).out = s.out := rfl

/-! ### setDom -/

@[simp] theorem Hw.setDom_dtime (d : Nat) (x : Domain) : (s.setDom d x).dtime = s.dtime := rfl
@[simp] theorem Hw.setDom_phase (d : Nat) (x : Domain) : (s.setDom d x).phase = s.phase := rfl
@[simp] theorem Hw.setDom_regs (d : Nat) (x : Domain) : (s.setDom d x).regs = s.regs := rfl
@[simp] theorem Hw.setDom_cmd (d : Nat) (x : Domain) : (s.setDom d x).cmd = s.cmd := rfl
@[simp] theorem Hw.setDom_evr (d : Nat) (x : Domain) : (s.setDom d x).evr = s.evr := rfl
@[simp] theorem Hw.setDom_nv (d : Nat) (x : Domain) : (s.setDom d x).nv = s.nv := rfl
@[simp] theorem Hw.setDom_lanes (d : Nat) (x : Domain) : (s.setDom d x).lanes = s.lanes := rfl
@[simp] theorem Hw.setDom_mem (d : Nat) (x : Domain) : (s.setDom d x).mem = s.mem := rfl
@[simp] theorem Hw.setDom_grps (d : Nat) (x : Domain) : (s.setDom d x).grps = s.grps := rfl
@[simp] theorem Hw.setDom_host (d : Nat) (x : Domain) : (s.setDom d x).host = s.host := rfl
@[simp] theorem Hw.setDom_flw (d : Nat) (x : Domain) : (s.setDom d x).flw = s.flw := rfl
@[simp] theorem Hw.setDom_tds (d : Nat) (x : Domain) : (s.setDom d x).tds = s.tds := rfl
@[simp] theorem Hw.setDom_fes (d : Nat) (x : Domain) : (s.setDom d x).fes = s.fes := rfl
@[simp] theorem Hw.setDom_fesq (d : Nat) (x : Domain) : (s.setDom d x).fesq = s.fesq := rfl
@[simp] theorem Hw.setDom_brc (d : Nat) (x : Domain) : (s.setDom d x).brc = s.brc := rfl
@[simp] theorem Hw.setDom_cle (d : Nat) (x : Domain) : (s.setDom d x).cle = s.cle := rfl
@[simp] theorem Hw.setDom_aou (d : Nat) (x : Domain) : (s.setDom d x).aou = s.aou := rfl
@[simp] theorem Hw.setDom_mcv (d : Nat) (x : Domain) : (s.setDom d x).mcv = s.mcv := rfl
@[simp] theorem Hw.setDom_fab (d : Nat) (x : Domain) : (s.setDom d x).fab = s.fab := rfl
@[simp] theorem Hw.setDom_gth (d : Nat) (x : Domain) : (s.setDom d x).gth = s.gth := rfl
@[simp] theorem Hw.setDom_intl (d : Nat) (x : Domain) : (s.setDom d x).intl = s.intl := rfl
@[simp] theorem Hw.setDom_cmis (d : Nat) (x : Domain) : (s.setDom d x).cmis = s.cmis := rfl
@[simp] theorem Hw.setDom_freeN (d : Nat) (x : Domain) : (s.setDom d x).freeN = s.freeN := rfl
@[simp] theorem Hw.setDom_out (d : Nat) (x : Domain) : (s.setDom d x).out = s.out := rfl

/-! ### updGrp -/

@[simp] theorem Hw.updGrp_dtime (g : Nat) (f : Grp → Grp) : (s.updGrp g f).dtime = s.dtime := rfl
@[simp] theorem Hw.updGrp_phase (g : Nat) (f : Grp → Grp) : (s.updGrp g f).phase = s.phase := rfl
@[simp] theorem Hw.updGrp_regs (g : Nat) (f : Grp → Grp) : (s.updGrp g f).regs = s.regs := rfl
@[simp] theorem Hw.updGrp_cmd (g : Nat) (f : Grp → Grp) : (s.updGrp g f).cmd = s.cmd := rfl
@[simp] theorem Hw.updGrp_evr (g : Nat) (f : Grp → Grp) : (s.updGrp g f).evr = s.evr := rfl
@[simp] theorem Hw.updGrp_nv (g : Nat) (f : Grp → Grp) : (s.updGrp g f).nv = s.nv := rfl
@[simp] theorem Hw.updGrp_pwr (g : Nat) (f : Grp → Grp) : (s.updGrp g f).pwr = s.pwr := rfl
@[simp] theorem Hw.updGrp_lanes (g : Nat) (f : Grp → Grp) : (s.updGrp g f).lanes = s.lanes := rfl
@[simp] theorem Hw.updGrp_mem (g : Nat) (f : Grp → Grp) : (s.updGrp g f).mem = s.mem := rfl
@[simp] theorem Hw.updGrp_host (g : Nat) (f : Grp → Grp) : (s.updGrp g f).host = s.host := rfl
@[simp] theorem Hw.updGrp_flw (g : Nat) (f : Grp → Grp) : (s.updGrp g f).flw = s.flw := rfl
@[simp] theorem Hw.updGrp_tds (g : Nat) (f : Grp → Grp) : (s.updGrp g f).tds = s.tds := rfl
@[simp] theorem Hw.updGrp_fes (g : Nat) (f : Grp → Grp) : (s.updGrp g f).fes = s.fes := rfl
@[simp] theorem Hw.updGrp_fesq (g : Nat) (f : Grp → Grp) : (s.updGrp g f).fesq = s.fesq := rfl
@[simp] theorem Hw.updGrp_brc (g : Nat) (f : Grp → Grp) : (s.updGrp g f).brc = s.brc := rfl
@[simp] theorem Hw.updGrp_cle (g : Nat) (f : Grp → Grp) : (s.updGrp g f).cle = s.cle := rfl
@[simp] theorem Hw.updGrp_aou (g : Nat) (f : Grp → Grp) : (s.updGrp g f).aou = s.aou := rfl
@[simp] theorem Hw.updGrp_mcv (g : Nat) (f : Grp → Grp) : (s.updGrp g f).mcv = s.mcv := rfl
@[simp] theorem Hw.updGrp_fab (g : Nat) (f : Grp → Grp) : (s.updGrp g f).fab = s.fab := rfl
@[simp] theorem Hw.updGrp_gth (g : Nat) (f : Grp → Grp) : (s.updGrp g f).gth = s.gth := rfl
@[simp] theorem Hw.updGrp_intl (g : Nat) (f : Grp → Grp) : (s.updGrp g f).intl = s.intl := rfl
@[simp] theorem Hw.updGrp_cmis (g : Nat) (f : Grp → Grp) : (s.updGrp g f).cmis = s.cmis := rfl
@[simp] theorem Hw.updGrp_freeN (g : Nat) (f : Grp → Grp) : (s.updGrp g f).freeN = s.freeN := rfl
@[simp] theorem Hw.updGrp_out (g : Nat) (f : Grp → Grp) : (s.updGrp g f).out = s.out := rfl

/-! ### updLane -/

@[simp] theorem Hw.updLane_dtime (n : Nat) (f : Lane → Lane) : (s.updLane n f).dtime = s.dtime := rfl
@[simp] theorem Hw.updLane_phase (n : Nat) (f : Lane → Lane) : (s.updLane n f).phase = s.phase := rfl
@[simp] theorem Hw.updLane_regs (n : Nat) (f : Lane → Lane) : (s.updLane n f).regs = s.regs := rfl
@[simp] theorem Hw.updLane_cmd (n : Nat) (f : Lane → Lane) : (s.updLane n f).cmd = s.cmd := rfl
@[simp] theorem Hw.updLane_evr (n : Nat) (f : Lane → Lane) : (s.updLane n f).evr = s.evr := rfl
@[simp] theorem Hw.updLane_nv (n : Nat) (f : Lane → Lane) : (s.updLane n f).nv = s.nv := rfl
@[simp] theorem Hw.updLane_pwr (n : Nat) (f : Lane → Lane) : (s.updLane n f).pwr = s.pwr := rfl
@[simp] theorem Hw.updLane_mem (n : Nat) (f : Lane → Lane) : (s.updLane n f).mem = s.mem := rfl
@[simp] theorem Hw.updLane_grps (n : Nat) (f : Lane → Lane) : (s.updLane n f).grps = s.grps := rfl
@[simp] theorem Hw.updLane_host (n : Nat) (f : Lane → Lane) : (s.updLane n f).host = s.host := rfl
@[simp] theorem Hw.updLane_flw (n : Nat) (f : Lane → Lane) : (s.updLane n f).flw = s.flw := rfl
@[simp] theorem Hw.updLane_tds (n : Nat) (f : Lane → Lane) : (s.updLane n f).tds = s.tds := rfl
@[simp] theorem Hw.updLane_fes (n : Nat) (f : Lane → Lane) : (s.updLane n f).fes = s.fes := rfl
@[simp] theorem Hw.updLane_fesq (n : Nat) (f : Lane → Lane) : (s.updLane n f).fesq = s.fesq := rfl
@[simp] theorem Hw.updLane_brc (n : Nat) (f : Lane → Lane) : (s.updLane n f).brc = s.brc := rfl
@[simp] theorem Hw.updLane_cle (n : Nat) (f : Lane → Lane) : (s.updLane n f).cle = s.cle := rfl
@[simp] theorem Hw.updLane_aou (n : Nat) (f : Lane → Lane) : (s.updLane n f).aou = s.aou := rfl
@[simp] theorem Hw.updLane_mcv (n : Nat) (f : Lane → Lane) : (s.updLane n f).mcv = s.mcv := rfl
@[simp] theorem Hw.updLane_fab (n : Nat) (f : Lane → Lane) : (s.updLane n f).fab = s.fab := rfl
@[simp] theorem Hw.updLane_gth (n : Nat) (f : Lane → Lane) : (s.updLane n f).gth = s.gth := rfl
@[simp] theorem Hw.updLane_intl (n : Nat) (f : Lane → Lane) : (s.updLane n f).intl = s.intl := rfl
@[simp] theorem Hw.updLane_cmis (n : Nat) (f : Lane → Lane) : (s.updLane n f).cmis = s.cmis := rfl
@[simp] theorem Hw.updLane_freeN (n : Nat) (f : Lane → Lane) : (s.updLane n f).freeN = s.freeN := rfl
@[simp] theorem Hw.updLane_out (n : Nat) (f : Lane → Lane) : (s.updLane n f).out = s.out := rfl

/-! ### updFes -/

@[simp] theorem Hw.updFes_dtime (u : Nat) (f : Fes → Fes) : (s.updFes u f).dtime = s.dtime := rfl
@[simp] theorem Hw.updFes_phase (u : Nat) (f : Fes → Fes) : (s.updFes u f).phase = s.phase := rfl
@[simp] theorem Hw.updFes_regs (u : Nat) (f : Fes → Fes) : (s.updFes u f).regs = s.regs := rfl
@[simp] theorem Hw.updFes_cmd (u : Nat) (f : Fes → Fes) : (s.updFes u f).cmd = s.cmd := rfl
@[simp] theorem Hw.updFes_evr (u : Nat) (f : Fes → Fes) : (s.updFes u f).evr = s.evr := rfl
@[simp] theorem Hw.updFes_nv (u : Nat) (f : Fes → Fes) : (s.updFes u f).nv = s.nv := rfl
@[simp] theorem Hw.updFes_pwr (u : Nat) (f : Fes → Fes) : (s.updFes u f).pwr = s.pwr := rfl
@[simp] theorem Hw.updFes_lanes (u : Nat) (f : Fes → Fes) : (s.updFes u f).lanes = s.lanes := rfl
@[simp] theorem Hw.updFes_mem (u : Nat) (f : Fes → Fes) : (s.updFes u f).mem = s.mem := rfl
@[simp] theorem Hw.updFes_grps (u : Nat) (f : Fes → Fes) : (s.updFes u f).grps = s.grps := rfl
@[simp] theorem Hw.updFes_host (u : Nat) (f : Fes → Fes) : (s.updFes u f).host = s.host := rfl
@[simp] theorem Hw.updFes_flw (u : Nat) (f : Fes → Fes) : (s.updFes u f).flw = s.flw := rfl
@[simp] theorem Hw.updFes_tds (u : Nat) (f : Fes → Fes) : (s.updFes u f).tds = s.tds := rfl
@[simp] theorem Hw.updFes_fesq (u : Nat) (f : Fes → Fes) : (s.updFes u f).fesq = s.fesq := rfl
@[simp] theorem Hw.updFes_brc (u : Nat) (f : Fes → Fes) : (s.updFes u f).brc = s.brc := rfl
@[simp] theorem Hw.updFes_cle (u : Nat) (f : Fes → Fes) : (s.updFes u f).cle = s.cle := rfl
@[simp] theorem Hw.updFes_aou (u : Nat) (f : Fes → Fes) : (s.updFes u f).aou = s.aou := rfl
@[simp] theorem Hw.updFes_mcv (u : Nat) (f : Fes → Fes) : (s.updFes u f).mcv = s.mcv := rfl
@[simp] theorem Hw.updFes_fab (u : Nat) (f : Fes → Fes) : (s.updFes u f).fab = s.fab := rfl
@[simp] theorem Hw.updFes_gth (u : Nat) (f : Fes → Fes) : (s.updFes u f).gth = s.gth := rfl
@[simp] theorem Hw.updFes_intl (u : Nat) (f : Fes → Fes) : (s.updFes u f).intl = s.intl := rfl
@[simp] theorem Hw.updFes_cmis (u : Nat) (f : Fes → Fes) : (s.updFes u f).cmis = s.cmis := rfl
@[simp] theorem Hw.updFes_freeN (u : Nat) (f : Fes → Fes) : (s.updFes u f).freeN = s.freeN := rfl
@[simp] theorem Hw.updFes_out (u : Nat) (f : Fes → Fes) : (s.updFes u f).out = s.out := rfl

/-! ### updOut -/

@[simp] theorem Hw.updOut_dtime (o : Nat) (f : AouOut → AouOut) : (s.updOut o f).dtime = s.dtime := rfl
@[simp] theorem Hw.updOut_phase (o : Nat) (f : AouOut → AouOut) : (s.updOut o f).phase = s.phase := rfl
@[simp] theorem Hw.updOut_regs (o : Nat) (f : AouOut → AouOut) : (s.updOut o f).regs = s.regs := rfl
@[simp] theorem Hw.updOut_cmd (o : Nat) (f : AouOut → AouOut) : (s.updOut o f).cmd = s.cmd := rfl
@[simp] theorem Hw.updOut_evr (o : Nat) (f : AouOut → AouOut) : (s.updOut o f).evr = s.evr := rfl
@[simp] theorem Hw.updOut_nv (o : Nat) (f : AouOut → AouOut) : (s.updOut o f).nv = s.nv := rfl
@[simp] theorem Hw.updOut_pwr (o : Nat) (f : AouOut → AouOut) : (s.updOut o f).pwr = s.pwr := rfl
@[simp] theorem Hw.updOut_lanes (o : Nat) (f : AouOut → AouOut) : (s.updOut o f).lanes = s.lanes := rfl
@[simp] theorem Hw.updOut_mem (o : Nat) (f : AouOut → AouOut) : (s.updOut o f).mem = s.mem := rfl
@[simp] theorem Hw.updOut_grps (o : Nat) (f : AouOut → AouOut) : (s.updOut o f).grps = s.grps := rfl
@[simp] theorem Hw.updOut_host (o : Nat) (f : AouOut → AouOut) : (s.updOut o f).host = s.host := rfl
@[simp] theorem Hw.updOut_flw (o : Nat) (f : AouOut → AouOut) : (s.updOut o f).flw = s.flw := rfl
@[simp] theorem Hw.updOut_tds (o : Nat) (f : AouOut → AouOut) : (s.updOut o f).tds = s.tds := rfl
@[simp] theorem Hw.updOut_fes (o : Nat) (f : AouOut → AouOut) : (s.updOut o f).fes = s.fes := rfl
@[simp] theorem Hw.updOut_fesq (o : Nat) (f : AouOut → AouOut) : (s.updOut o f).fesq = s.fesq := rfl
@[simp] theorem Hw.updOut_brc (o : Nat) (f : AouOut → AouOut) : (s.updOut o f).brc = s.brc := rfl
@[simp] theorem Hw.updOut_cle (o : Nat) (f : AouOut → AouOut) : (s.updOut o f).cle = s.cle := rfl
@[simp] theorem Hw.updOut_mcv (o : Nat) (f : AouOut → AouOut) : (s.updOut o f).mcv = s.mcv := rfl
@[simp] theorem Hw.updOut_fab (o : Nat) (f : AouOut → AouOut) : (s.updOut o f).fab = s.fab := rfl
@[simp] theorem Hw.updOut_gth (o : Nat) (f : AouOut → AouOut) : (s.updOut o f).gth = s.gth := rfl
@[simp] theorem Hw.updOut_intl (o : Nat) (f : AouOut → AouOut) : (s.updOut o f).intl = s.intl := rfl
@[simp] theorem Hw.updOut_cmis (o : Nat) (f : AouOut → AouOut) : (s.updOut o f).cmis = s.cmis := rfl
@[simp] theorem Hw.updOut_freeN (o : Nat) (f : AouOut → AouOut) : (s.updOut o f).freeN = s.freeN := rfl
@[simp] theorem Hw.updOut_out (o : Nat) (f : AouOut → AouOut) : (s.updOut o f).out = s.out := rfl

/-! ### updLoop -/

@[simp] theorem Hw.updLoop_dtime (l : Nat) (f : Loop → Loop) : (s.updLoop l f).dtime = s.dtime := rfl
@[simp] theorem Hw.updLoop_phase (l : Nat) (f : Loop → Loop) : (s.updLoop l f).phase = s.phase := rfl
@[simp] theorem Hw.updLoop_regs (l : Nat) (f : Loop → Loop) : (s.updLoop l f).regs = s.regs := rfl
@[simp] theorem Hw.updLoop_cmd (l : Nat) (f : Loop → Loop) : (s.updLoop l f).cmd = s.cmd := rfl
@[simp] theorem Hw.updLoop_evr (l : Nat) (f : Loop → Loop) : (s.updLoop l f).evr = s.evr := rfl
@[simp] theorem Hw.updLoop_nv (l : Nat) (f : Loop → Loop) : (s.updLoop l f).nv = s.nv := rfl
@[simp] theorem Hw.updLoop_pwr (l : Nat) (f : Loop → Loop) : (s.updLoop l f).pwr = s.pwr := rfl
@[simp] theorem Hw.updLoop_lanes (l : Nat) (f : Loop → Loop) : (s.updLoop l f).lanes = s.lanes := rfl
@[simp] theorem Hw.updLoop_mem (l : Nat) (f : Loop → Loop) : (s.updLoop l f).mem = s.mem := rfl
@[simp] theorem Hw.updLoop_grps (l : Nat) (f : Loop → Loop) : (s.updLoop l f).grps = s.grps := rfl
@[simp] theorem Hw.updLoop_host (l : Nat) (f : Loop → Loop) : (s.updLoop l f).host = s.host := rfl
@[simp] theorem Hw.updLoop_flw (l : Nat) (f : Loop → Loop) : (s.updLoop l f).flw = s.flw := rfl
@[simp] theorem Hw.updLoop_tds (l : Nat) (f : Loop → Loop) : (s.updLoop l f).tds = s.tds := rfl
@[simp] theorem Hw.updLoop_fes (l : Nat) (f : Loop → Loop) : (s.updLoop l f).fes = s.fes := rfl
@[simp] theorem Hw.updLoop_fesq (l : Nat) (f : Loop → Loop) : (s.updLoop l f).fesq = s.fesq := rfl
@[simp] theorem Hw.updLoop_brc (l : Nat) (f : Loop → Loop) : (s.updLoop l f).brc = s.brc := rfl
@[simp] theorem Hw.updLoop_aou (l : Nat) (f : Loop → Loop) : (s.updLoop l f).aou = s.aou := rfl
@[simp] theorem Hw.updLoop_mcv (l : Nat) (f : Loop → Loop) : (s.updLoop l f).mcv = s.mcv := rfl
@[simp] theorem Hw.updLoop_fab (l : Nat) (f : Loop → Loop) : (s.updLoop l f).fab = s.fab := rfl
@[simp] theorem Hw.updLoop_gth (l : Nat) (f : Loop → Loop) : (s.updLoop l f).gth = s.gth := rfl
@[simp] theorem Hw.updLoop_intl (l : Nat) (f : Loop → Loop) : (s.updLoop l f).intl = s.intl := rfl
@[simp] theorem Hw.updLoop_cmis (l : Nat) (f : Loop → Loop) : (s.updLoop l f).cmis = s.cmis := rfl
@[simp] theorem Hw.updLoop_freeN (l : Nat) (f : Loop → Loop) : (s.updLoop l f).freeN = s.freeN := rfl
@[simp] theorem Hw.updLoop_out (l : Nat) (f : Loop → Loop) : (s.updLoop l f).out = s.out := rfl

/-! ### updConv -/

@[simp] theorem Hw.updConv_dtime (c : Nat) (f : Conv → Conv) : (s.updConv c f).dtime = s.dtime := rfl
@[simp] theorem Hw.updConv_phase (c : Nat) (f : Conv → Conv) : (s.updConv c f).phase = s.phase := rfl
@[simp] theorem Hw.updConv_regs (c : Nat) (f : Conv → Conv) : (s.updConv c f).regs = s.regs := rfl
@[simp] theorem Hw.updConv_cmd (c : Nat) (f : Conv → Conv) : (s.updConv c f).cmd = s.cmd := rfl
@[simp] theorem Hw.updConv_evr (c : Nat) (f : Conv → Conv) : (s.updConv c f).evr = s.evr := rfl
@[simp] theorem Hw.updConv_nv (c : Nat) (f : Conv → Conv) : (s.updConv c f).nv = s.nv := rfl
@[simp] theorem Hw.updConv_pwr (c : Nat) (f : Conv → Conv) : (s.updConv c f).pwr = s.pwr := rfl
@[simp] theorem Hw.updConv_lanes (c : Nat) (f : Conv → Conv) : (s.updConv c f).lanes = s.lanes := rfl
@[simp] theorem Hw.updConv_mem (c : Nat) (f : Conv → Conv) : (s.updConv c f).mem = s.mem := rfl
@[simp] theorem Hw.updConv_grps (c : Nat) (f : Conv → Conv) : (s.updConv c f).grps = s.grps := rfl
@[simp] theorem Hw.updConv_host (c : Nat) (f : Conv → Conv) : (s.updConv c f).host = s.host := rfl
@[simp] theorem Hw.updConv_flw (c : Nat) (f : Conv → Conv) : (s.updConv c f).flw = s.flw := rfl
@[simp] theorem Hw.updConv_tds (c : Nat) (f : Conv → Conv) : (s.updConv c f).tds = s.tds := rfl
@[simp] theorem Hw.updConv_fes (c : Nat) (f : Conv → Conv) : (s.updConv c f).fes = s.fes := rfl
@[simp] theorem Hw.updConv_fesq (c : Nat) (f : Conv → Conv) : (s.updConv c f).fesq = s.fesq := rfl
@[simp] theorem Hw.updConv_fab (c : Nat) (f : Conv → Conv) : (s.updConv c f).fab = s.fab := rfl
@[simp] theorem Hw.updConv_brc (c : Nat) (f : Conv → Conv) : (s.updConv c f).brc = s.brc := rfl
@[simp] theorem Hw.updConv_cle (c : Nat) (f : Conv → Conv) : (s.updConv c f).cle = s.cle := rfl
@[simp] theorem Hw.updConv_aou (c : Nat) (f : Conv → Conv) : (s.updConv c f).aou = s.aou := rfl
@[simp] theorem Hw.updConv_gth (c : Nat) (f : Conv → Conv) : (s.updConv c f).gth = s.gth := rfl
@[simp] theorem Hw.updConv_intl (c : Nat) (f : Conv → Conv) : (s.updConv c f).intl = s.intl := rfl
@[simp] theorem Hw.updConv_cmis (c : Nat) (f : Conv → Conv) : (s.updConv c f).cmis = s.cmis := rfl
@[simp] theorem Hw.updConv_freeN (c : Nat) (f : Conv → Conv) : (s.updConv c f).freeN = s.freeN := rfl
@[simp] theorem Hw.updConv_out (c : Nat) (f : Conv → Conv) : (s.updConv c f).out = s.out := rfl

/-! ### updAmp -/

@[simp] theorem Hw.updAmp_dtime (n : Nat) (f : Amp → Amp) : (s.updAmp n f).dtime = s.dtime := rfl
@[simp] theorem Hw.updAmp_phase (n : Nat) (f : Amp → Amp) : (s.updAmp n f).phase = s.phase := rfl
@[simp] theorem Hw.updAmp_regs (n : Nat) (f : Amp → Amp) : (s.updAmp n f).regs = s.regs := rfl
@[simp] theorem Hw.updAmp_cmd (n : Nat) (f : Amp → Amp) : (s.updAmp n f).cmd = s.cmd := rfl
@[simp] theorem Hw.updAmp_evr (n : Nat) (f : Amp → Amp) : (s.updAmp n f).evr = s.evr := rfl
@[simp] theorem Hw.updAmp_nv (n : Nat) (f : Amp → Amp) : (s.updAmp n f).nv = s.nv := rfl
@[simp] theorem Hw.updAmp_pwr (n : Nat) (f : Amp → Amp) : (s.updAmp n f).pwr = s.pwr := rfl
@[simp] theorem Hw.updAmp_lanes (n : Nat) (f : Amp → Amp) : (s.updAmp n f).lanes = s.lanes := rfl
@[simp] theorem Hw.updAmp_mem (n : Nat) (f : Amp → Amp) : (s.updAmp n f).mem = s.mem := rfl
@[simp] theorem Hw.updAmp_grps (n : Nat) (f : Amp → Amp) : (s.updAmp n f).grps = s.grps := rfl
@[simp] theorem Hw.updAmp_host (n : Nat) (f : Amp → Amp) : (s.updAmp n f).host = s.host := rfl
@[simp] theorem Hw.updAmp_flw (n : Nat) (f : Amp → Amp) : (s.updAmp n f).flw = s.flw := rfl
@[simp] theorem Hw.updAmp_tds (n : Nat) (f : Amp → Amp) : (s.updAmp n f).tds = s.tds := rfl
@[simp] theorem Hw.updAmp_fes (n : Nat) (f : Amp → Amp) : (s.updAmp n f).fes = s.fes := rfl
@[simp] theorem Hw.updAmp_fesq (n : Nat) (f : Amp → Amp) : (s.updAmp n f).fesq = s.fesq := rfl
@[simp] theorem Hw.updAmp_cle (n : Nat) (f : Amp → Amp) : (s.updAmp n f).cle = s.cle := rfl
@[simp] theorem Hw.updAmp_aou (n : Nat) (f : Amp → Amp) : (s.updAmp n f).aou = s.aou := rfl
@[simp] theorem Hw.updAmp_mcv (n : Nat) (f : Amp → Amp) : (s.updAmp n f).mcv = s.mcv := rfl
@[simp] theorem Hw.updAmp_fab (n : Nat) (f : Amp → Amp) : (s.updAmp n f).fab = s.fab := rfl
@[simp] theorem Hw.updAmp_gth (n : Nat) (f : Amp → Amp) : (s.updAmp n f).gth = s.gth := rfl
@[simp] theorem Hw.updAmp_intl (n : Nat) (f : Amp → Amp) : (s.updAmp n f).intl = s.intl := rfl
@[simp] theorem Hw.updAmp_cmis (n : Nat) (f : Amp → Amp) : (s.updAmp n f).cmis = s.cmis := rfl
@[simp] theorem Hw.updAmp_freeN (n : Nat) (f : Amp → Amp) : (s.updAmp n f).freeN = s.freeN := rfl
@[simp] theorem Hw.updAmp_out (n : Nat) (f : Amp → Amp) : (s.updAmp n f).out = s.out := rfl

/-! ### updBand -/

@[simp] theorem Hw.updBand_dtime (n : Nat) (f : Band → Band) : (s.updBand n f).dtime = s.dtime := rfl
@[simp] theorem Hw.updBand_phase (n : Nat) (f : Band → Band) : (s.updBand n f).phase = s.phase := rfl
@[simp] theorem Hw.updBand_regs (n : Nat) (f : Band → Band) : (s.updBand n f).regs = s.regs := rfl
@[simp] theorem Hw.updBand_cmd (n : Nat) (f : Band → Band) : (s.updBand n f).cmd = s.cmd := rfl
@[simp] theorem Hw.updBand_evr (n : Nat) (f : Band → Band) : (s.updBand n f).evr = s.evr := rfl
@[simp] theorem Hw.updBand_nv (n : Nat) (f : Band → Band) : (s.updBand n f).nv = s.nv := rfl
@[simp] theorem Hw.updBand_pwr (n : Nat) (f : Band → Band) : (s.updBand n f).pwr = s.pwr := rfl
@[simp] theorem Hw.updBand_lanes (n : Nat) (f : Band → Band) : (s.updBand n f).lanes = s.lanes := rfl
@[simp] theorem Hw.updBand_mem (n : Nat) (f : Band → Band) : (s.updBand n f).mem = s.mem := rfl
@[simp] theorem Hw.updBand_grps (n : Nat) (f : Band → Band) : (s.updBand n f).grps = s.grps := rfl
@[simp] theorem Hw.updBand_host (n : Nat) (f : Band → Band) : (s.updBand n f).host = s.host := rfl
@[simp] theorem Hw.updBand_flw (n : Nat) (f : Band → Band) : (s.updBand n f).flw = s.flw := rfl
@[simp] theorem Hw.updBand_tds (n : Nat) (f : Band → Band) : (s.updBand n f).tds = s.tds := rfl
@[simp] theorem Hw.updBand_fes (n : Nat) (f : Band → Band) : (s.updBand n f).fes = s.fes := rfl
@[simp] theorem Hw.updBand_fesq (n : Nat) (f : Band → Band) : (s.updBand n f).fesq = s.fesq := rfl
@[simp] theorem Hw.updBand_cle (n : Nat) (f : Band → Band) : (s.updBand n f).cle = s.cle := rfl
@[simp] theorem Hw.updBand_aou (n : Nat) (f : Band → Band) : (s.updBand n f).aou = s.aou := rfl
@[simp] theorem Hw.updBand_mcv (n : Nat) (f : Band → Band) : (s.updBand n f).mcv = s.mcv := rfl
@[simp] theorem Hw.updBand_fab (n : Nat) (f : Band → Band) : (s.updBand n f).fab = s.fab := rfl
@[simp] theorem Hw.updBand_gth (n : Nat) (f : Band → Band) : (s.updBand n f).gth = s.gth := rfl
@[simp] theorem Hw.updBand_intl (n : Nat) (f : Band → Band) : (s.updBand n f).intl = s.intl := rfl
@[simp] theorem Hw.updBand_cmis (n : Nat) (f : Band → Band) : (s.updBand n f).cmis = s.cmis := rfl
@[simp] theorem Hw.updBand_freeN (n : Nat) (f : Band → Band) : (s.updBand n f).freeN = s.freeN := rfl
@[simp] theorem Hw.updBand_out (n : Nat) (f : Band → Band) : (s.updBand n f).out = s.out := rfl

/-! ### Free values, outputs and events -/

@[simp] theorem Hw.free_dtime : s.free.2.dtime = s.dtime := rfl
@[simp] theorem Hw.free_phase : s.free.2.phase = s.phase := rfl
@[simp] theorem Hw.free_regs : s.free.2.regs = s.regs := rfl
@[simp] theorem Hw.free_cmd : s.free.2.cmd = s.cmd := rfl
@[simp] theorem Hw.free_evr : s.free.2.evr = s.evr := rfl
@[simp] theorem Hw.free_nv : s.free.2.nv = s.nv := rfl
@[simp] theorem Hw.free_pwr : s.free.2.pwr = s.pwr := rfl
@[simp] theorem Hw.free_lanes : s.free.2.lanes = s.lanes := rfl
@[simp] theorem Hw.free_mem : s.free.2.mem = s.mem := rfl
@[simp] theorem Hw.free_grps : s.free.2.grps = s.grps := rfl
@[simp] theorem Hw.free_host : s.free.2.host = s.host := rfl
@[simp] theorem Hw.free_flw : s.free.2.flw = s.flw := rfl
@[simp] theorem Hw.free_tds : s.free.2.tds = s.tds := rfl
@[simp] theorem Hw.free_fes : s.free.2.fes = s.fes := rfl
@[simp] theorem Hw.free_fesq : s.free.2.fesq = s.fesq := rfl
@[simp] theorem Hw.free_brc : s.free.2.brc = s.brc := rfl
@[simp] theorem Hw.free_cle : s.free.2.cle = s.cle := rfl
@[simp] theorem Hw.free_aou : s.free.2.aou = s.aou := rfl
@[simp] theorem Hw.free_mcv : s.free.2.mcv = s.mcv := rfl
@[simp] theorem Hw.free_fab : s.free.2.fab = s.fab := rfl
@[simp] theorem Hw.free_gth : s.free.2.gth = s.gth := rfl
@[simp] theorem Hw.free_intl : s.free.2.intl = s.intl := rfl
@[simp] theorem Hw.free_cmis : s.free.2.cmis = s.cmis := rfl
@[simp] theorem Hw.free_out : s.free.2.out = s.out := rfl

@[simp] theorem Hw.emit_out (o : Out) : (s.emit o).out = s.out ++ [o] := rfl
@[simp] theorem Hw.raise_bus (c : Nat) (l : List Nat) : (s.raise c l).evr.bus = s.evr.bus ++ [⟨c, l, s.dtime⟩] := rfl
@[simp] theorem Hw.cond_true (f : Hw → Hw) : s.cond true f = f s := rfl
@[simp] theorem Hw.cond_false (f : Hw → Hw) : s.cond false f = s := rfl
@[simp] theorem Hw.each_nil (f : Nat → Hw → Hw) : s.each [] f = s := rfl
@[simp] theorem Hw.each_cons (i : Nat) (l : List Nat) (f : Nat → Hw → Hw) : s.each (i :: l) f = (f i s).each l f := rfl

/-! ### updPwr -/

@[simp] theorem updPwr_dtime (f : Pwr → Pwr) : (updPwr s f).dtime = s.dtime := rfl
@[simp] theorem updPwr_phase (f : Pwr → Pwr) : (updPwr s f).phase = s.phase := rfl
@[simp] theorem updPwr_regs (f : Pwr → Pwr) : (updPwr s f).regs = s.regs := rfl
@[simp] theorem updPwr_cmd (f : Pwr → Pwr) : (updPwr s f).cmd = s.cmd := rfl
@[simp] theorem updPwr_fab (f : Pwr → Pwr) : (updPwr s f).fab = s.fab := rfl
@[simp] theorem updPwr_evr (f : Pwr → Pwr) : (updPwr s f).evr = s.evr := rfl
@[simp] theorem updPwr_nv (f : Pwr → Pwr) : (updPwr s f).nv = s.nv := rfl
@[simp] theorem updPwr_pwr (f : Pwr → Pwr) : (updPwr s f).pwr = f s.pwr := rfl
@[simp] theorem updPwr_lanes (f : Pwr → Pwr) : (updPwr s f).lanes = s.lanes := rfl
@[simp] theorem updPwr_mem (f : Pwr → Pwr) : (updPwr s f).mem = s.mem := rfl
@[simp] theorem updPwr_grps (f : Pwr → Pwr) : (updPwr s f).grps = s.grps := rfl
@[simp] theorem updPwr_host (f : Pwr → Pwr) : (updPwr s f).host = s.host := rfl
@[simp] theorem updPwr_flw (f : Pwr → Pwr) : (updPwr s f).flw = s.flw := rfl
@[simp] theorem updPwr_tds (f : Pwr → Pwr) : (updPwr s f).tds = s.tds := rfl
@[simp] theorem updPwr_fes (f : Pwr → Pwr) : (updPwr s f).fes = s.fes := rfl
@[simp] theorem updPwr_fesq (f : Pwr → Pwr) : (updPwr s f).fesq = s.fesq := rfl
@[simp] theorem updPwr_brc (f : Pwr → Pwr) : (updPwr s f).brc = s.brc := rfl
@[simp] theorem updPwr_cle (f : Pwr → Pwr) : (updPwr s f).cle = s.cle := rfl
@[simp] theorem updPwr_aou (f : Pwr → Pwr) : (updPwr s f).aou = s.aou := rfl
@[simp] theorem updPwr_mcv (f : Pwr → Pwr) : (updPwr s f).mcv = s.mcv := rfl
@[simp] theorem updPwr_gth (f : Pwr → Pwr) : (updPwr s f).gth = s.gth := rfl
@[simp] theorem updPwr_intl (f : Pwr → Pwr) : (updPwr s f).intl = s.intl := rfl
@[simp] theorem updPwr_cmis (f : Pwr → Pwr) : (updPwr s f).cmis = s.cmis := rfl
@[simp] theorem updPwr_freeN (f : Pwr → Pwr) : (updPwr s f).freeN = s.freeN := rfl
@[simp] theorem updPwr_out (f : Pwr → Pwr) : (updPwr s f).out = s.out := rfl

/-! ### updEvr -/

@[simp] theorem updEvr_dtime (f : Evr → Evr) : (updEvr s f).dtime = s.dtime := rfl
@[simp] theorem updEvr_phase (f : Evr → Evr) : (updEvr s f).phase = s.phase := rfl
@[simp] theorem updEvr_regs (f : Evr → Evr) : (updEvr s f).regs = s.regs := rfl
@[simp] theorem updEvr_cmd (f : Evr → Evr) : (updEvr s f).cmd = s.cmd := rfl
@[simp] theorem updEvr_fab (f : Evr → Evr) : (updEvr s f).fab = s.fab := rfl
@[simp] theorem updEvr_evr (f : Evr → Evr) : (updEvr s f).evr = f s.evr := rfl
@[simp] theorem updEvr_nv (f : Evr → Evr) : (updEvr s f).nv = s.nv := rfl
@[simp] theorem updEvr_pwr (f : Evr → Evr) : (updEvr s f).pwr = s.pwr := rfl
@[simp] theorem updEvr_lanes (f : Evr → Evr) : (updEvr s f).lanes = s.lanes := rfl
@[simp] theorem updEvr_mem (f : Evr → Evr) : (updEvr s f).mem = s.mem := rfl
@[simp] theorem updEvr_grps (f : Evr → Evr) : (updEvr s f).grps = s.grps := rfl
@[simp] theorem updEvr_host (f : Evr → Evr) : (updEvr s f).host = s.host := rfl
@[simp] theorem updEvr_flw (f : Evr → Evr) : (updEvr s f).flw = s.flw := rfl
@[simp] theorem updEvr_tds (f : Evr → Evr) : (updEvr s f).tds = s.tds := rfl
@[simp] theorem updEvr_fes (f : Evr → Evr) : (updEvr s f).fes = s.fes := rfl
@[simp] theorem updEvr_fesq (f : Evr → Evr) : (updEvr s f).fesq = s.fesq := rfl
@[simp] theorem updEvr_brc (f : Evr → Evr) : (updEvr s f).brc = s.brc := rfl
@[simp] theorem updEvr_cle (f : Evr → Evr) : (updEvr s f).cle = s.cle := rfl
@[simp] theorem updEvr_aou (f : Evr → Evr) : (updEvr s f).aou = s.aou := rfl
@[simp] theorem updEvr_mcv (f : Evr → Evr) : (updEvr s f).mcv = s.mcv := rfl
@[simp] theorem updEvr_gth (f : Evr → Evr) : (updEvr s f).gth = s.gth := rfl
@[simp] theorem updEvr_intl (f : Evr → Evr) : (updEvr s f).intl = s.intl := rfl
@[simp] theorem updEvr_cmis (f : Evr → Evr) : (updEvr s f).cmis = s.cmis := rfl
@[simp] theorem updEvr_freeN (f : Evr → Evr) : (updEvr s f).freeN = s.freeN := rfl
@[simp] theorem updEvr_out (f : Evr → Evr) : (updEvr s f).out = s.out := rfl

/-! ### updGth -/

@[simp] theorem updGth_dtime (f : Gth → Gth) : (updGth s f).dtime = s.dtime := rfl
@[simp] theorem updGth_phase (f : Gth → Gth) : (updGth s f).phase = s.phase := rfl
@[simp] theorem updGth_regs (f : Gth → Gth) : (updGth s f).regs = s.regs := rfl
@[simp] theorem updGth_cmd (f : Gth → Gth) : (updGth s f).cmd = s.cmd := rfl
@[simp] theorem updGth_fab (f : Gth → Gth) : (updGth s f).fab = s.fab := rfl
@[simp] theorem updGth_evr (f : Gth → Gth) : (updGth s f).evr = s.evr := rfl
@[simp] theorem updGth_nv (f : Gth → Gth) : (updGth s f).nv = s.nv := rfl
@[simp] theorem updGth_pwr (f : Gth → Gth) : (updGth s f).pwr = s.pwr := rfl
@[simp] theorem updGth_lanes (f : Gth → Gth) : (updGth s f).lanes = s.lanes := rfl
@[simp] theorem updGth_mem (f : Gth → Gth) : (updGth s f).mem = s.mem := rfl
@[simp] theorem updGth_grps (f : Gth → Gth) : (updGth s f).grps = s.grps := rfl
@[simp] theorem updGth_host (f : Gth → Gth) : (updGth s f).host = s.host := rfl
@[simp] theorem updGth_flw (f : Gth → Gth) : (updGth s f).flw = s.flw := rfl
@[simp] theorem updGth_tds (f : Gth → Gth) : (updGth s f).tds = s.tds := rfl
@[simp] theorem updGth_fes (f : Gth → Gth) : (updGth s f).fes = s.fes := rfl
@[simp] theorem updGth_fesq (f : Gth → Gth) : (updGth s f).fesq = s.fesq := rfl
@[simp] theorem updGth_brc (f : Gth → Gth) : (updGth s f).brc = s.brc := rfl
@[simp] theorem updGth_cle (f : Gth → Gth) : (updGth s f).cle = s.cle := rfl
@[simp] theorem updGth_aou (f : Gth → Gth) : (updGth s f).aou = s.aou := rfl
@[simp] theorem updGth_mcv (f : Gth → Gth) : (updGth s f).mcv = s.mcv := rfl
@[simp] theorem updGth_gth (f : Gth → Gth) : (updGth s f).gth = f s.gth := rfl
@[simp] theorem updGth_intl (f : Gth → Gth) : (updGth s f).intl = s.intl := rfl
@[simp] theorem updGth_cmis (f : Gth → Gth) : (updGth s f).cmis = s.cmis := rfl
@[simp] theorem updGth_freeN (f : Gth → Gth) : (updGth s f).freeN = s.freeN := rfl
@[simp] theorem updGth_out (f : Gth → Gth) : (updGth s f).out = s.out := rfl

/-! ### updPort -/

@[simp] theorem updPort_dtime (p : Nat) (f : Port → Port) : (updPort s p f).dtime = s.dtime := rfl
@[simp] theorem updPort_phase (p : Nat) (f : Port → Port) : (updPort s p f).phase = s.phase := rfl
@[simp] theorem updPort_regs (p : Nat) (f : Port → Port) : (updPort s p f).regs = s.regs := rfl
@[simp] theorem updPort_cmd (p : Nat) (f : Port → Port) : (updPort s p f).cmd = s.cmd := rfl
@[simp] theorem updPort_fab (p : Nat) (f : Port → Port) : (updPort s p f).fab = s.fab := rfl
@[simp] theorem updPort_evr (p : Nat) (f : Port → Port) : (updPort s p f).evr = s.evr := rfl
@[simp] theorem updPort_nv (p : Nat) (f : Port → Port) : (updPort s p f).nv = s.nv := rfl
@[simp] theorem updPort_pwr (p : Nat) (f : Port → Port) : (updPort s p f).pwr = s.pwr := rfl
@[simp] theorem updPort_lanes (p : Nat) (f : Port → Port) : (updPort s p f).lanes = s.lanes := rfl
@[simp] theorem updPort_mem (p : Nat) (f : Port → Port) : (updPort s p f).mem = s.mem := rfl
@[simp] theorem updPort_grps (p : Nat) (f : Port → Port) : (updPort s p f).grps = s.grps := rfl
@[simp] theorem updPort_flw (p : Nat) (f : Port → Port) : (updPort s p f).flw = s.flw := rfl
@[simp] theorem updPort_tds (p : Nat) (f : Port → Port) : (updPort s p f).tds = s.tds := rfl
@[simp] theorem updPort_fes (p : Nat) (f : Port → Port) : (updPort s p f).fes = s.fes := rfl
@[simp] theorem updPort_fesq (p : Nat) (f : Port → Port) : (updPort s p f).fesq = s.fesq := rfl
@[simp] theorem updPort_brc (p : Nat) (f : Port → Port) : (updPort s p f).brc = s.brc := rfl
@[simp] theorem updPort_cle (p : Nat) (f : Port → Port) : (updPort s p f).cle = s.cle := rfl
@[simp] theorem updPort_aou (p : Nat) (f : Port → Port) : (updPort s p f).aou = s.aou := rfl
@[simp] theorem updPort_mcv (p : Nat) (f : Port → Port) : (updPort s p f).mcv = s.mcv := rfl
@[simp] theorem updPort_gth (p : Nat) (f : Port → Port) : (updPort s p f).gth = s.gth := rfl
@[simp] theorem updPort_intl (p : Nat) (f : Port → Port) : (updPort s p f).intl = s.intl := rfl
@[simp] theorem updPort_cmis (p : Nat) (f : Port → Port) : (updPort s p f).cmis = s.cmis := rfl
@[simp] theorem updPort_freeN (p : Nat) (f : Port → Port) : (updPort s p f).freeN = s.freeN := rfl
@[simp] theorem updPort_out (p : Nat) (f : Port → Port) : (updPort s p f).out = s.out := rfl

/-! ### updSession -/

@[simp] theorem updSession_dtime (n : Nat) (f : Session → Session) : (updSession s n f).dtime = s.dtime := rfl
@[simp] theorem updSession_phase (n : Nat) (f : Session → Session) : (updSession s n f).phase = s.phase := rfl
@[simp] theorem updSession_regs (n : Nat) (f : Session → Session) : (updSession s n f).regs = s.regs := rfl
@[simp] theorem updSession_fab (n : Nat) (f : Session → Session) : (updSession s n f).fab = s.fab := rfl
@[simp] theorem updSession_evr (n : Nat) (f : Session → Session) : (updSession s n f).evr = s.evr := rfl
@[simp] theorem updSession_nv (n : Nat) (f : Session → Session) : (updSession s n f).nv = s.nv := rfl
@[simp] theorem updSession_pwr (n : Nat) (f : Session → Session) : (updSession s n f).pwr = s.pwr := rfl
@[simp] theorem updSession_lanes (n : Nat) (f : Session → Session) : (updSession s n f).lanes = s.lanes := rfl
@[simp] theorem updSession_mem (n : Nat) (f : Session → Session) : (updSession s n f).mem = s.mem := rfl
@[simp] theorem updSession_grps (n : Nat) (f : Session → Session) : (updSession s n f).grps = s.grps := rfl
@[simp] theorem updSession_host (n : Nat) (f : Session → Session) : (updSession s n f).host = s.host := rfl
@[simp] theorem updSession_flw (n : Nat) (f : Session → Session) : (updSession s n f).flw = s.flw := rfl
@[simp] theorem updSession_tds (n : Nat) (f : Session → Session) : (updSession s n f).tds = s.tds := rfl
@[simp] theorem updSession_fes (n : Nat) (f : Session → Session) : (updSession s n f).fes = s.fes := rfl
@[simp] theorem updSession_fesq (n : Nat) (f : Session → Session) : (updSession s n f).fesq = s.fesq := rfl
@[simp] theorem updSession_brc (n : Nat) (f : Session → Session) : (updSession s n f).brc = s.brc := rfl
@[simp] theorem updSession_cle (n : Nat) (f : Session → Session) : (updSession s n f).cle = s.cle := rfl
@[simp] theorem updSession_aou (n : Nat) (f : Session → Session) : (updSession s n f).aou = s.aou := rfl
@[simp] theorem updSession_mcv (n : Nat) (f : Session → Session) : (updSession s n f).mcv = s.mcv := rfl
@[simp] theorem updSession_gth (n : Nat) (f : Session → Session) : (updSession s n f).gth = s.gth := rfl
@[simp] theorem updSession_intl (n : Nat) (f : Session → Session) : (updSession s n f).intl = s.intl := rfl
@[simp] theorem updSession_cmis (n : Nat) (f : Session → Session) : (updSession s n f).cmis = s.cmis := rfl
@[simp] theorem updSession_freeN (n : Nat) (f : Session → Session) : (updSession s n f).freeN = s.freeN := rfl
@[simp] theorem updSession_out (n : Nat) (f : Session → Session) : (updSession s n f).out = s.out := rfl

end Sys2Proof.Machine
end

