-- ==== Sys2Proof/Laws/Ops.lean ====
section
/-!
SUPPORT. What the shared operations can do, said once: register words, counters and events, running through a list, the end of a
step, how a request goes on from its checks, packets of the fabric, and cell positions.
-/
namespace Sys2Proof.Machine
open Reg

/-! ### Register words -/

theorem Hw.reg_setReg_same (s : Hw) (a : Nat) (v : Word) : (s.setReg a v).reg a = v := Map.get_put_same _ _ _ _

theorem Hw.reg_setReg_other (s : Hw) {a b : Nat} (v : Word) (h : b ≠ a) : (s.setReg a v).reg b = s.reg b :=
  Map.get_put_other _ _ _ _ h

theorem Hw.reg_setFld_other (s : Hw) (f : Fld) (v : Nat) {b : Nat} (h : b ≠ f.addr) : (s.setFld f v).reg b = s.reg b :=
  Hw.reg_setReg_other _ _ h

theorem Hw.num_setNum_same (s : Hw) (a n : Nat) : (s.setNum a n).num a = n % 2 ^ 32 := by
  unfold Hw.num Hw.setNum
  rw [Hw.reg_setReg_same]
  exact BitVec.toNat_ofNat n 32

theorem Hw.num_setNum_other (s : Hw) {a b : Nat} (n : Nat) (h : b ≠ a) : (s.setNum a n).num b = s.num b := by
  unfold Hw.num Hw.setNum
  rw [Hw.reg_setReg_other _ _ h]

/-- A counter that sticks adds within 32 bits and leaves every other word. -/
theorem Hw.num_count_same (s : Hw) (a k : Nat) : (s.count a k).num a = min (s.num a + k) (2 ^ 32 - 1) := by
  unfold Hw.count
  rw [Hw.num_setNum_same]
  exact Nat.mod_eq_of_lt (by omega)

/-- A register write keeps the canonical form of the register words. -/
theorem regsRight_setReg (s : Hw) (a : Nat) (v : Word) (h : regsRight s) : regsRight (s.setReg a v) := Map.wf_put _ _ _ _ h

theorem regsRight_setFld (s : Hw) (f : Fld) (v : Nat) (h : regsRight s) : regsRight (s.setFld f v) := regsRight_setReg _ _ _ h

theorem regsRight_reset : regsRight State.reset.hw := rfl

/-! ### Running through a list -/

/-- What every update of a fold keeps, the fold keeps. -/
theorem Hw.each_keeps (P : Hw → Prop) (l : List Nat) (f : Nat → Hw → Hw) (hf : ∀ i ∈ l, ∀ s, P s → P (f i s)) (s : Hw) (h : P s) :
    P (s.each l f) := by
  induction l generalizing s with
  | nil => exact h
  | cons i l ih =>
    rw [Hw.each_cons]
    exact ih (fun j hj => hf j (by simp [hj])) _ (hf i (by simp) s h)

theorem Hw.cond_keeps (P : Hw → Prop) (b : Bool) (f : Hw → Hw) (s : Hw) (hf : P s → P (f s)) (h : P s) : P (s.cond b f) := by
  cases b
  · exact h
  · exact hf h

theorem regsRight_coldRegs (as : List Nat) (s : Hw) (h : regsRight s) : regsRight (s.coldRegs as) := by
  induction as generalizing s with
  | nil => exact h
  | cons a as ih => exact ih _ (regsRight_setReg _ _ _ h)

/-! ### Parts that are kept -/

theorem keeps_refl (ss : List Nat) (ps : List Part) (h : Hw) : keeps ss ps h h :=
  ⟨fun _ _ => rfl, fun p _ => by cases p <;> rfl, rfl⟩

theorem Part.same_trans {p : Part} {a b c : Hw} (h : p.same a b) (k : p.same b c) : p.same a c := by
  cases p <;> exact Eq.trans k h

theorem keeps_trans {ss : List Nat} {ps : List Part} {a b c : Hw} (h : keeps ss ps a b) (k : keeps ss ps b c) :
    keeps ss ps a c :=
  ⟨fun x hx => (k.1 x hx).trans (h.1 x hx), fun p hp => Part.same_trans (h.2.1 p hp) (k.2.1 p hp),
    k.2.2.trans h.2.2⟩

/-- A register write keeps everything outside its subsystem. -/
theorem keeps_setReg (ss : List Nat) (ps : List Part) (s : Hw) (a : Nat) (v : Word) (h : a / 65536 ∈ ss) :
    keeps ss ps s (s.setReg a v) :=
  ⟨fun b hb => Hw.reg_setReg_other s v (fun e => hb (e ▸ h)), fun p _ => by cases p <;> rfl, rfl⟩

theorem keeps_setFld (ss : List Nat) (ps : List Part) (s : Hw) (f : Fld) (v : Nat) (h : f.addr / 65536 ∈ ss) :
    keeps ss ps s (s.setFld f v) := keeps_setReg ss ps s f.addr _ h

theorem keeps_raise (ss : List Nat) (ps : List Part) (s : Hw) (c : Nat) (l : List Nat) (h : Part.evr ∈ ps) :
    keeps ss ps s (s.raise c l) :=
  ⟨fun _ _ => rfl, fun p hp => by cases p <;> first | rfl | exact absurd h hp, rfl⟩

theorem keeps_emit (ss : List Nat) (ps : List Part) (s : Hw) (o : Out) (h : Part.out ∈ ps) : keeps ss ps s (s.emit o) :=
  ⟨fun _ _ => rfl, fun p hp => by cases p <;> first | rfl | exact absurd h hp, rfl⟩

/-! ### The end of a step -/

/-- An event answers the state that follows from its effect. -/
theorem event_eq (dt : Nat) (f : Hw → Hw) (s : State) :
    event dt f s = .next { s with hw := settle (happen f (passTime dt s.hw)) } := rfl

/-- A request is an event whose effect is the serving of it. -/
theorem request_eq (dt : Nat) (op : OpSpec) (rq : Request) (s : State) :
    request dt op rq s = event dt (serve op.opcode (some op) rq) s := rfl

theorem happen_held (f : Hw → Hw) (s : Hw) (h : s.phase = .held) : happen f s = s := by simp [happen, h]

theorem happen_live (f : Hw → Hw) (s : Hw) (h : s.phase ≠ .held) : happen f s = f s := by simp [happen, h]

theorem passTime_phase (dt : Nat) (s : Hw) (h : s.phase = .held) : passTime dt s = { s with out := [] } := by simp [passTime, h]

/-! ### A request -/

/-- A request at Vendor level is refused on every route (R62). -/
theorem opCheck_level (h : Hw) (op : OpSpec) (rq : Request) (hl : rq.level = 3) : opCheck h op rq = some (stACCESS, 3) := by
  simp [opCheck, hl]

/-- A request that is taken up executes: its number is the session's mark, its nonce is used up (R51, R58, R64). -/
theorem serve_taken (op : OpSpec) (rq : Request) (h : Hw) (ht : taken op rq h = true) :
    serve op.opcode (some op) rq h = execute (useNonce (marked op rq h) rq) op rq := by
  simp only [taken, Bool.and_eq_true] at ht
  obtain ⟨⟨⟨⟨⟨⟨⟨⟨⟨⟨⟨hp, hi⟩, hl⟩, ho⟩, hh⟩, hs⟩, hc⟩, hf⟩, hr⟩, _⟩, _⟩, _⟩ := ht
  have hp : h.phase = .ready := by simpa using hp
  have hl : rq.length = rq.params.length := by simpa using hl
  have ho : ¬ outstanding h rq ≥ routeLimit rq.route := by simpa using ho
  have hh : headCheck h op.opcode rq = none := by simpa using hh
  have hc : opCheck (marked op rq h) op rq = none := by simpa using hc
  have hf : hasBit rq.flags 1 = false := by simpa using hf
  have hr : refusal (useNonce (marked op rq h) rq) op (coreParams rq) = none := by simpa using hr
  have h1 : h.takesCommands = true := by simp [Hw.takesCommands, hp]
  have h2 : (rq.route == .inband && (!h.flag CMD_CFG_inband_en || h.phase != .ready && h.phase != .shut)) = false := by
    rcases Bool.or_eq_true _ _ ▸ hi with hi | hi
    · have : rq.route ≠ .inband := by simpa using hi
      simp [this]
    · simp [hi, hp]
  have h3 : cdbMismatch rq = false := by simp [cdbMismatch, hl]
  have go : ∀ s, marked op rq h = s → proceed s op.opcode (some op) rq = execute (useNonce s rq) op rq := by
    intro s e
    subst e
    simp [proceed, hc, hf, hr]
  unfold serve
  simp only [h1, h2, h3, ho, hh, Bool.not_true, Bool.false_eq_true, if_false]
  have hm : marked op rq h = marked op rq h := rfl
  unfold seqPasses at hs
  unfold marked at go hm
  change (match findSession (heard rq h) (sessionOf rq) with | none => _ | some x => _) = _
  cases hx : findSession (heard rq h) (sessionOf rq) with
  | none =>
    simp only [hx] at hs go ⊢
    have : ¬ (rq.seq = 0 ∧ (!seqFree (some op) rq) = true) := by
      intro ⟨a, b⟩
      simp [a] at hs b
      simp [hs] at b
    rw [if_neg this]
    simp only [marked, hx]
    exact go _ rfl
  | some x =>
    simp only [hx] at hs go ⊢
    by_cases hq : seqFree (some op) rq = true
    · simp only [hq, if_true] at go ⊢
      simp only [marked, hx, hq, if_true]
      exact go _ rfl
    · have hq' : seqFree (some op) rq = false := by simpa using hq
      have hn : rq.seq ≠ 0 ∧ newer x.mark rq.seq = true := by simpa [hq'] using hs
      simp only [hq', Bool.false_eq_true, if_false] at go ⊢
      rw [if_pos hn]
      simp only [marked, hx, hq', Bool.false_eq_true, if_false]
      exact go _ rfl

/-- A taken request runs its command's body at once (R22, R57). -/
theorem runBody_taken (op : OpSpec) (rq : Request) (h : Hw) (ht : taken op rq h = true) :
    runBody (entered op rq h) op (callOf op rq h) = op.body (entered op rq h) (callOf op rq h) := by
  simp only [taken, Bool.and_eq_true] at ht
  obtain ⟨⟨⟨_, hb⟩, hw⟩, hd⟩ := ht
  have hb : barred (entered op rq h) op = none := by simpa using hb
  have hd : ∀ d ∈ op.doms (entered op rq h) (coreParams rq),
      (entered op rq h).fenced d = false ∧ (entered op rq h).ready d = true := by simpa [Bool.and_eq_true] using hd
  have h1 : (op.doms (entered op rq h) (coreParams rq)).find? (entered op rq h).fenced = none := by
    rw [List.find?_eq_none]; intro d m; simp [(hd d m).1]
  have h2 : ((op.doms (entered op rq h) (coreParams rq)).filter fun d => !(entered op rq h).ready d) = [] := by
    rw [List.filter_eq_nil_iff]; intro d m; simp [(hd d m).2]
  unfold runBody
  simp only [hb, callOf, h1, h2, List.isEmpty_nil, Bool.true_and]
  by_cases ho : op.own = true
  · simp [ho]
  · have ho' : op.own = false := by simpa using ho
    rw [ho', Bool.false_or] at hw
    simp [ho', hw]

theorem execute_entered (op : OpSpec) (rq : Request) (h : Hw) :
    execute (useNonce (marked op rq h) rq) op rq =
      match runBody (entered op rq h) op (callOf op rq h) with
      | .done st det pl e =>
        if tooLong rq pl then answer (entered op rq h) op.opcode rq stBAD_LENGTH 1456
        else answer (record e op (coreParams rq) (indexOf op (entered op rq h)) st det (undoOf (entered op rq h) e))
          op.opcode rq st det pl (indexOf op (entered op rq h))
      | .wait w e => waits op rq (entered op rq h) e w := by
  have hi : (if op.journal = 0 then 0 else (newEntry (useNonce (marked op rq h) rq) op.opcode (op.journal == 2)
      (routeCode rq.route) rq (sessionOf rq) rq.level).index) = indexOf op (entered op rq h) := by
    unfold indexOf entered
    by_cases hj : op.journal = 0
    · simp [hj]
    · simp [hj, Hw.cond, addEntry]
  unfold execute
  simp only [hi]
  rfl

/-- A request whose body completes with OK wherever it is taken and the hypothesis holds, runs (R54). -/
theorem runsOk_taken {k : Nat → Request → Instr} {op : OpSpec} {pre : Hw → Call → Prop} {post : Hw → Call → Hw → Bytes → Prop}
    (hk : ∀ dt rq s, exec (k dt rq) s = request dt op rq s)
    (hb : ∀ rq h, taken op rq h = true → pre (entered op rq h) (callOf op rq h) →
      ∃ pl e, op.body (entered op rq h) (callOf op rq h) = .done stOK 0 pl e ∧ post (entered op rq h) (callOf op rq h) e pl) :
    RunsOk k op pre post := by
  intro dt rq s ht hp
  obtain ⟨pl, e, hr, hq⟩ := hb _ _ ht hp
  refine ⟨e, pl, hq, ?_⟩
  have hph : (passTime dt s.hw).phase ≠ .held := by
    simp only [taken, Bool.and_eq_true] at ht
    have : (passTime dt s.hw).phase = .ready := by simpa using ht.1.1.1.1.1.1.1.1.1.1.1
    rw [this]; decide
  rw [hk, request_eq, event_eq, happen_live _ _ hph, serve_taken _ _ _ ht, execute_entered, runBody_taken _ _ _ ht, hr]
  rfl

/-- One whose body waits is accepted and waits (R54, R55). -/
theorem runsOn_taken {k : Nat → Request → Instr} {op : OpSpec} {pre : Hw → Call → Prop} {post : Hw → Call → Hw → Wait → Prop}
    (hk : ∀ dt rq s, exec (k dt rq) s = request dt op rq s)
    (hb : ∀ rq h, taken op rq h = true → pre (entered op rq h) (callOf op rq h) →
      ∃ w e, op.body (entered op rq h) (callOf op rq h) = .wait w e ∧ post (entered op rq h) (callOf op rq h) e w) :
    RunsOn k op pre post := by
  intro dt rq s ht hp
  obtain ⟨w, e, hr, hq⟩ := hb _ _ ht hp
  refine ⟨e, w, hq, ?_⟩
  have hph : (passTime dt s.hw).phase ≠ .held := by
    simp only [taken, Bool.and_eq_true] at ht
    have : (passTime dt s.hw).phase = .ready := by simpa using ht.1.1.1.1.1.1.1.1.1.1.1
    rw [this]; decide
  rw [hk, request_eq, event_eq, happen_live _ _ hph, serve_taken _ _ _ ht, execute_entered, runBody_taken _ _ _ ht, hr]

/-- The same where the hypothesis alone suffices. -/
theorem runsOk_intro {k : Nat → Request → Instr} {op : OpSpec} {pre : Hw → Call → Prop} {post : Hw → Call → Hw → Bytes → Prop}
    (hk : ∀ dt rq s, exec (k dt rq) s = request dt op rq s)
    (hb : ∀ b c, pre b c → ∃ pl e, op.body b c = .done stOK 0 pl e ∧ post b c e pl) : RunsOk k op pre post :=
  runsOk_taken hk fun _ _ _ hp => hb _ _ hp

theorem runsOn_intro {k : Nat → Request → Instr} {op : OpSpec} {pre : Hw → Call → Prop} {post : Hw → Call → Hw → Wait → Prop}
    (hk : ∀ dt rq s, exec (k dt rq) s = request dt op rq s)
    (hb : ∀ b c, pre b c → ∃ w e, op.body b c = .wait w e ∧ post b c e w) : RunsOn k op pre post :=
  runsOn_taken hk fun _ _ _ hp => hb _ _ hp

/-- A happening whose effect has what is claimed of it, wherever its hypothesis holds, happens. -/
theorem happens_intro {k : Nat → Instr} {f : Hw → Hw} {pre : Hw → Prop} {post : Hw → Hw → Prop}
    (hk : ∀ dt s, exec (k dt) s = event dt f s) (hf : ∀ h, pre h → post h (f h)) : Happens k pre post := by
  intro dt s hh hp
  exact ⟨f (passTime dt s.hw), hf _ hp, by rw [hk, event_eq, happen_live _ _ hh]⟩

/-- The same for a reset or a start. -/
theorem resets_intro {k : Nat → Instr} {f : Hw → Hw} {pre : Hw → Prop} {post : Hw → Hw → Prop}
    (hk : ∀ dt s, exec (k dt) s = resetEvent dt f s) (hf : ∀ h, pre h → post h (f h)) : Resets k pre post := by
  intro dt s hp
  exact ⟨f (passTime dt s.hw), hf _ hp, by rw [hk]; rfl⟩

/-! ### The control fabric (R18 to R26) -/

/-- What a packet header holds is read back from it (Table 01-3). -/
theorem packet_head (kind src tag a status n : Nat) (d : List Nat) (hk : kind < 16) (hs : src < 16) (ht : tag < 256)
    (ha : a < 2 ^ 24) (hst : status < 256) (hn : n < 256) :
    let p : Packet := { head := packetHeader kind src tag a status n, data := d }
    p.kind = kind ∧ p.source = src ∧ p.tag = tag ∧ p.addr = a ∧ p.status = status ∧ p.count = n := by
  simp only [Packet.kind, Packet.source, Packet.tag, Packet.addr, Packet.status, Packet.count, Packet.fld, packetHeader,
    BitVec.toNat_ofNat]
  omega

/-- A packet to AON, or to a ready domain that is not fenced, reaches its unit at once. -/
theorem atBoundary_delivers (p : Packet) (s : Hw)
    (h : ∀ d, addrDomain p.addr = some d → s.fenced d = false ∧ s.ready d = true) : atBoundary p s = atUnit p s := by
  unfold atBoundary
  cases hd : addrDomain p.addr with
  | none => rfl
  | some d => simp [(h d hd).1, (h d hd).2]

/-- At a fenced domain a packet is answered with that status and nothing else happens (R24). -/
theorem atBoundary_fenced (p : Packet) (s : Hw) (d : Nat) (hd : addrDomain p.addr = some d) (hf : s.fenced d = true) :
    atBoundary p s = reply p fsFenced [] (some p.addr) s := by simp [atBoundary, hd, hf]

/-- At a domain that is neither, a read of the snapshot reader waits for nothing and wakes nothing (R30). -/
theorem atBoundary_snapshot (p : Packet) (s : Hw) (d : Nat) (hd : addrDomain p.addr = some d) (hf : s.fenced d = false)
    (hr : s.ready d = false) (hp : p.kind = 1 ∧ p.source = evrReader) : atBoundary p s = s := by
  simp [atBoundary, hd, hf, hr, hp]

/-- At such a domain any other packet that finds fewer than 16 others joins them, and accesses the domain (R22). -/
theorem atBoundary_queued (p : Packet) (s : Hw) (d : Nat) (hd : addrDomain p.addr = some d) (hf : s.fenced d = false)
    (hr : s.ready d = false) (hp : ¬ (p.kind = 1 ∧ p.source = evrReader)) (hq : (s.dom d).packets.length < 16) :
    atBoundary p s = (s.access d).setDom d { (s.access d).dom d with packets := ((s.access d).dom d).packets ++ [p] } := by
  unfold atBoundary
  rw [hd]
  simp only [hf, hr, if_neg hp, if_pos hq, Bool.false_eq_true, if_false]

/-- One that finds 16 others waits at its source (R23). -/
theorem atBoundary_held (p : Packet) (s : Hw) (d : Nat) (hd : addrDomain p.addr = some d) (hf : s.fenced d = false)
    (hr : s.ready d = false) (hp : ¬ (p.kind = 1 ∧ p.source = evrReader)) (hq : 16 ≤ (s.dom d).packets.length) :
    atBoundary p s = { s with fab := { s.fab with held := s.fab.held ++ [p] } } := by
  unfold atBoundary
  rw [hd]
  simp only [hf, hr, if_neg hp, if_neg (Nat.not_lt.mpr hq), Bool.false_eq_true, if_false]

/-- A packet goes behind those that its source has to hold (R20, R23). -/
theorem sendPacket_behind (p : Packet) (s : Hw) (h : (s.fab.held.any fun q => q.source == p.source) = true) :
    sendPacket p s = { s with fab := { s.fab with held := s.fab.held ++ [p] } } := by simp [sendPacket, h]

/-- An answer changes the replies that Ehrik has received, and nothing else. -/
theorem reply_keeps (p : Packet) (st : Nat) (d : List Nat) (b : Option Nat) (s : Hw) :
    reply p st d b s = { s with fab := { s.fab with back := (reply p st d b s).fab.back } } := by
  cases h : p.source == ehrik <;> simp [reply, Hw.cond, h]

/-! ### The cell stream (R191) -/

/-- A cell that waits changes its group's queue of cells, and nothing else of the group. -/
theorem queueCell_grp (s : Hw) (g : Nat) (c : LCell) : queueCell s g c = s.updGrp g fun x => { x with lfm := x.lfm ++ [c] } := rfl

/-- Every position that goes by carries a cell: one of those that wait, or filler. -/
theorem onePosition_carries (g : Nat) (s : Hw) :
    (pickCell (s.grp g).segs (s.grp g).pos (s.grp g).lfm = none →
      onePosition g s = carry ((s.updGrp g fun x => { x with pos := x.pos + 1 }).pmc (0x023 + 8 * g)) g (s.grp g).pos
        (fillerHeader g) (zeros 512)) ∧
    ∀ c, pickCell (s.grp g).segs (s.grp g).pos (s.grp g).lfm = some c →
      onePosition g s = leaveLine ((s.updGrp g fun x => { x with pos := x.pos + 1 }).updGrp g fun x =>
        { x with lfm := x.lfm.erase c }) g (s.grp g).pos c :=
  ⟨fun h => by simp [onePosition, h], fun c h => by simp [onePosition, h]⟩

end Sys2Proof.Machine
end

