-- ==== Sys2Proof/WellFormed.lean ====
section
/-!
DEFINITION. Which commands are well formed: every operand within the width that the spec gives it. The meanings are total: on an
ill-formed command they act on the operands' values as they stand.
-/
namespace Sys2Proof

/-- A number of at most `w` bits. -/
def fits (w n : Nat) : Bool := decide (n < 2 ^ w)
/-- A two's complement number of at most `w` bits. -/
def fitsInt (w : Nat) (i : Int) : Bool := decide (-(2 ^ (w - 1) : Int) ≤ i ∧ i < (2 ^ (w - 1) : Int))
def hasLength {α : Type} (n : Nat) (l : List α) : Bool := l.length == n
/-- Lane positions of a group. -/
def positions (l : List Nat) : Bool := l.length ≤ 4 && l.all fun p => p < 4

/-- A request's header fields within their widths (Table 02-2), and its block no longer than a route carries. -/
def Request.wf (r : Request) : Bool :=
  fits 16 r.length && fits 32 r.seq && fits 8 r.level && fits 8 r.flags && fits 16 r.session && fits 32 r.resv &&
    decide (r.params.length ≤ 2048) && fits 128 r.tag && fits 3 r.port && fits 48 r.src && (r.vlan.all fun t => fits 16 t)

def ScrubWord.wf (w : ScrubWord) : Bool := decide (w.mem ≤ 13) && decide (w.kind ≤ 2) && fits 8 w.synd && fits 24 w.off

/-- Regions of a Lehr run: domains 0 to 19 and 20 for AON, three steps, row places of memories 0 to 5. -/
def regionsWf (l : List LehrRegion) : Bool :=
  l.all fun r => decide (r.region ≤ 20) && fits 3 r.failed && fits 32 r.executed && fits 64 r.sig && fits 32 r.duration &&
    fits 32 r.most.1 && fits 32 r.most.2

/-- Is the command well formed? -/
def Instr.wellFormed : Instr → Bool
  | .cdbRequest _ code _ _ _ => fits 16 code
  | .mspiWriteFrame _ _ => true
  | .mspiReadFrame _ => true
  | .inbandRequestFrame _ _ _ => true
  | .acceptedReply _ => true
  | .commandFinish _ _ => true
  | .nonceExpiry _ sess => fits 16 sess
  | .provisionalSessionTimeout _ sess => fits 16 sess
  | .sessionIdleClose _ sess => fits 16 sess
  | .watchdogFire _ => true
  | .mgmtResetComplete _ => true
  | .warmResetComplete _ => true
  | .cmisSoftwareReset _ => true
  | .cmisTxDisable _ _ _ => true
  | .registerWrite _ addr value during => fits 24 addr && fits 32 value && fits 32 during
  | .wordPairLatchRead _ source addr => fits 4 source && fits 24 addr
  | .rateLimitedEventReport _ => true
  | .echo _ rq => rq.wf
  | .readWords _ rq => rq.wf
  | .writeWords _ rq => rq.wf
  | .getInfo _ rq => rq.wf
  | .getNonce _ rq => rq.wf
  | .sessionOpen1 _ rq => rq.wf
  | .sessionOpen2 _ rq => rq.wf
  | .sessionClose _ rq => rq.wf
  | .sessionStatus _ rq => rq.wf
  | .noticeFetch _ rq => rq.wf
  | .journalInfo _ rq => rq.wf
  | .journalRead _ rq => rq.wf
  | .journalSync _ rq => rq.wf
  | .mgmtReset _ rq => rq.wf
  | .warmReset _ rq => rq.wf
  | .inbandConfig _ rq => rq.wf
  | .pwrPaceSet _ rq => rq.wf
  | .pwrOpSet _ rq => rq.wf
  | .pwrOpMove _ rq => rq.wf
  | .pwrFloorSet _ rq => rq.wf
  | .pwrSpeedCfg _ rq => rq.wf
  | .pwrSpeedRead _ rq => rq.wf
  | .pwrTimeRead _ rq => rq.wf
  | .avsbusStepDone _ mv => fits 12 mv
  | .avsbusFault _ mv status => fits 12 mv && fits 16 status
  | .speedReading _ _ sustain => fits 16 sustain
  | .speedAlarmEnd _ _ => true
  | .suspensionPaceStep _ => true
  | .autoRaiseComplete _ => true
  | .timeTransferTick _ _ frac => fits 6 frac
  | .timeTransferRequestRx _ _ t1 seq frac depart => fits 64 t1 && fits 16 seq && fits 6 frac && fits 6 depart
  | .timeTransferAnswerRx _ _ t1 t2 t3 seq frac => fits 64 t1 && fits 64 t2 && fits 64 t3 && fits 16 seq && fits 6 frac
  | .referenceMeasure _ h a b => fitsInt 32 h && fitsInt 32 a && fitsInt 32 b
  | .referenceAbsent _ _ => true
  | .referenceAccepted _ _ => true
  | .dtimeSourceReturn _ => true
  | .ltxConfig _ rq => rq.wf
  | .ltxTapSet _ rq => rq.wf
  | .ltxLevelsSet _ rq => rq.wf
  | .ltxPdLoad _ rq => rq.wf
  | .lrxConfig _ rq => rq.wf
  | .lrxAdaptSet _ rq => rq.wf
  | .lrxEqSet _ rq => rq.wf
  | .lrxEqRead _ rq => rq.wf
  | .lrxMeasRead _ rq => rq.wf
  | .lrxHistRun _ rq => rq.wf
  | .lrxHistRead _ rq => rq.wf
  | .lrxGthSelect _ rq => rq.wf
  | .lrxStoreList _ rq => rq.wf
  | .lrxStoreSave _ rq => rq.wf
  | .lrxStoreErase _ rq => rq.wf
  | .lrxSeedLoad _ rq => rq.wf
  | .txPllLock _ _ => true
  | .lossOfSignal _ _ mv => fits 16 mv
  | .signalRestored _ _ mv => fits 16 mv
  | .lrxLockLost _ _ freq => fitsInt 32 freq
  | .lrxLockRegained _ _ => true
  | .adaptationResume _ _ => true
  | .saturationInterval _ _ samples saturated => fits 32 samples && fits 32 saturated
  | .snrUpdate _ _ ideal error freq => fits 64 ideal && fits 64 error && fitsInt 32 freq
  | .prefecUpdate _ _ bits corr winBits winCorr uncorr fixed => fits 64 bits && fits 64 corr && fits 64 winBits && fits 64 winCorr && fits 32 uncorr && fits 32 fixed
  | .seedAttemptTimeout _ _ => true
  | .laneConverged _ _ => true
  | .storedSetAutoSave _ _ => true
  | .histRunComplete _ _ symbols bins => fits 32 symbols && hasLength 256 bins
  | .lfmConfig _ rq => rq.wf
  | .lfmStatusRead _ rq => rq.wf
  | .lfmCountRead _ rq => rq.wf
  | .laneFrameBoundary _ _ frac => fits 6 frac
  | .amReceived _ _ marker _ skew => hasLength 32 marker && fits 16 skew
  | .amNotFound _ _ => true
  | .cellReceived _ _ on header payload frac depart stuff => fits 4 on && fits 64 header && hasLength 512 payload && fits 6 frac && fits 6 depart && fits 16 stuff.1 && positions stuff.2
  | .statusReceived _ _ pace floor flags => fits 16 pace && fits 16 floor && fits 8 flags
  | .remapReceived _ _ gen mask frame q reason => fits 8 gen && fits 4 mask && fits 48 frame && fits 16 q && fits 8 reason
  | .remapAckReceived _ _ gen => fits 8 gen
  | .quietReceived _ _ bands _ => fits 2 bands
  | .capsReceived _ _ tag version mode mask floor pace contrib features => fits 32 tag && fits 8 version && fits 8 mode && fits 4 mask && fits 16 floor && fits 16 pace && fits 64 contrib && fits 32 features
  | .capsAckReceived _ _ result => fits 8 result
  | .seedStartReceived _ _ frame => fits 48 frame
  | .readyReceived _ _ => true
  | .abortReceived _ _ => true
  | .laneTrainReceived _ _ _ phase frame => fits 8 phase && fits 48 frame
  | .delayReceived _ _ delay => fits 32 delay
  | .laneHealthReceived _ _ healthy failed => fits 4 healthy && fits 4 failed
  | .statusPeriod _ _ => true
  | .delayPeriod _ _ => true
  | .laneHealthPeriod _ _ => true
  | .coreLostReport _ _ => true
  | .remapPointReached _ _ _ => true
  | .lnkConfig _ rq => rq.wf
  | .lnkUp _ rq => rq.wf
  | .lnkDown _ rq => rq.wf
  | .lnkRestart _ rq => rq.wf
  | .lnkStatusRead _ rq => rq.wf
  | .lnkLaneRejoin _ rq => rq.wf
  | .lnkWakeConfig _ rq => rq.wf
  | .sproutBurstStart _ _ => true
  | .sproutBurstEnd _ _ => true
  | .sproutFrameReceived _ _ _ bits => fits 96 bits
  | .p2Start _ _ => true
  | .trainingFrameReceived _ _ _ wrong control => fits 32 wrong && fits 96 control
  | .p2TimeLimit _ _ => true
  | .p3TimeLimit _ _ => true
  | .p4MessageRepeat _ _ => true
  | .p4TimeLimit _ _ => true
  | .backoffEnd _ _ => true
  | .failureCountReset _ _ => true
  | .groupSignalLossFailure _ _ => true
  | .sproutWake _ _ tag => fits 32 tag
  | .lightWake _ _ mv => fits 16 mv
  | .c2P1Check _ _ => true
  | .c2P3Timeout _ _ => true
  | .autoRejoinTimer _ _ => true
  | .laneRetrainTimeout _ _ => true
  | .hslEqSet _ rq => rq.wf
  | .hslStatusRead _ rq => rq.wf
  | .hslConfig _ rq => rq.wf
  | .hpcPortSet _ rq => rq.wf
  | .hpcPortRead _ rq => rq.wf
  | .hpcCountRead _ rq => rq.wf
  | .hpcPtpConfig _ rq => rq.wf
  | .hrxLossOfSignal _ _ mv => fits 16 mv
  | .hrxSignalRestored _ _ mv => fits 16 mv
  | .hrxLockLost _ _ => true
  | .hrx0Wake _ mv => fits 16 mv
  | .hostQuadRestore _ => true
  | .portAligned _ _ => true
  | .portAlignmentLost _ _ => true
  | .hostFrameReceived _ _ frac corr uncorr _ res _ => fits 6 frac && fits 32 corr && fits 32 uncorr && fits 32 res
  | .hostFrameSend _ _ frac _ => fits 6 frac
  | .flwInit _ rq => rq.wf
  | .flwInsert _ rq => rq.wf
  | .flwModify _ rq => rq.wf
  | .flwDelete _ rq => rq.wf
  | .flwLookup _ rq => rq.wf
  | .flwRead _ rq => rq.wf
  | .flwStatusRead _ rq => rq.wf
  | .coolingExpiry _ => true
  | .stashReplace _ => true
  | .tdsAdmit _ rq => rq.wf
  | .tdsWithdraw _ rq => rq.wf
  | .tdsConfig _ rq => rq.wf
  | .tdsDelaySet _ rq => rq.wf
  | .tdsBufConfig _ rq => rq.wf
  | .tdsStatusRead _ rq => rq.wf
  | .slotIssue _ _ _ => true
  | .classCRelease _ _ frac => fits 6 frac
  | .reassemblyTimeout _ flow => fits 20 flow
  | .rdnConfig _ rq => rq.wf
  | .rdnLaneSet _ rq => rq.wf
  | .rdnRevert _ rq => rq.wf
  | .rdnStatusRead _ rq => rq.wf
  | .rdnFaultInject _ rq => rq.wf
  | .faultInjectEnd _ _ => true
  | .laneFailDeclare _ _ cause codewords => fits 8 cause && fits 16 codewords
  | .remapAckTimeout _ _ => true
  | .groupLoss _ _ _ => true
  | .rxHistoryClear _ => true
  | .revertHoldExpiry _ _ => true
  | .revertGapEnd _ _ => true
  | .fesConfig _ rq => rq.wf
  | .fesStateSet _ rq => rq.wf
  | .fesStepSet _ rq => rq.wf
  | .fesTableLoad _ rq => rq.wf
  | .fesHookLoad _ rq => rq.wf
  | .fesSpiXfer _ rq => rq.wf
  | .fesTurn _ rq => rq.wf
  | .fesFaultClear _ rq => rq.wf
  | .fesStatusRead _ rq => rq.wf
  | .fesMoveDone _ _ => true
  | .tempOk _ _ _ => true
  | .lockDeclared _ _ => true
  | .fesLockLost _ _ => true
  | .fesFault _ _ cause which => fits 8 cause && fits 8 which
  | .trigInTurn _ => true
  | .turnComplete _ _ => true
  | .stepRampUpdate _ _ => true
  | .lockDeadlineExpiry _ _ => true
  | .settleMaxExpiry _ _ => true
  | .hookFrameDone _ _ => true
  | .brcConfig _ rq => rq.wf
  | .brcStageConfig _ rq => rq.wf
  | .brcCalSet _ rq => rq.wf
  | .brcUnmute _ rq => rq.wf
  | .brcQuietSend _ rq => rq.wf
  | .brcCoexConfig _ rq => rq.wf
  | .brcCoexReq _ rq => rq.wf
  | .brcStatusRead _ rq => rq.wf
  | .pilotEstimateUpdate _ codes => hasLength 8 codes && codes.all fun l => l.all fun x => decide (x < 4096)
  | .runawayMute _ _ outThen outNow inp => decide (outThen < 4096 ∧ outNow < 4096 ∧ inp.1 < 4096 ∧ inp.2 < 4096)
  | .pilotAmplitudeAdjust _ => true
  | .guardRaiseTick _ => true
  | .guardLowerTick _ => true
  | .guardBandMute _ _ => true
  | .autoRetryRelease _ _ => true
  | .inputLossHold _ _ code => decide (code < 4096)
  | .inputLossMute _ _ code => decide (code < 4096)
  | .inputRestored _ _ code => decide (code < 4096)
  | .limitCeilingFall _ _ code => decide (code < 4096)
  | .limitCeilingRise _ _ code => decide (code < 4096)
  | .aprStart _ _ => true
  | .aprEnd _ _ => true
  | .quietSilenceEnd _ _ _ => true
  | .quietResend _ _ => true
  | .xreqInHigh _ => true
  | .inboundGrant _ => true
  | .xreqInLow _ => true
  | .inboundRequestStuck _ => true
  | .xgntInHigh _ => true
  | .xgntInLow _ => true
  | .outboundGrantTimeout _ => true
  | .cleLoopConfig _ rq => rq.wf
  | .cleCoefLoad _ rq => rq.wf
  | .cleModeSet _ rq => rq.wf
  | .cleSetpoint _ rq => rq.wf
  | .cleRepLoad _ rq => rq.wf
  | .cleRepRead _ rq => rq.wf
  | .cleRepReset _ rq => rq.wf
  | .cleLiaConfig _ rq => rq.wf
  | .cleTestStart _ rq => rq.wf
  | .cleTestStop _ rq => rq.wf
  | .cleStatusRead _ rq => rq.wf
  | .cleInit _ rq => rq.wf
  | .loopSample _ _ codes => codes.all fun l => l.all fun x => decide (x < 4096)
  | .deadlineMiss _ _ => true
  | .repCycleEnd _ _ => true
  | .mainsInvalidDisengage _ _ => true
  | .lockinWindowEnd _ _ values => values.all (fitsInt 32)
  | .testSignalEnd _ => true
  | .outputLimitAlarm _ _ => true
  | .aouWrite _ rq => rq.wf
  | .aouRangeSet _ rq => rq.wf
  | .aouSafeSet _ rq => rq.wf
  | .aouDitherSet _ rq => rq.wf
  | .aouGenSet _ rq => rq.wf
  | .aouTableLoad _ rq => rq.wf
  | .aouStatusRead _ rq => rq.wf
  | .outputUpdate _ => true
  | .gateWrite _ _ => true
  | .complianceFail _ _ => true
  | .complianceRegained _ _ => true
  | .rangeSwitch _ _ => true
  | .rangeChangeComplete _ _ => true
  | .mcvConfig _ rq => rq.wf
  | .mcvSeqLoad _ rq => rq.wf
  | .mcvSeqStore _ rq => rq.wf
  | .mcvSeqRead _ rq => rq.wf
  | .mcvResultRead _ rq => rq.wf
  | .mcvPlausRun _ rq => rq.wf
  | .mcvUnquarantine _ rq => rq.wf
  | .mcvStatusRead _ rq => rq.wf
  | .suppressionEnd _ _ => true
  | .conversionWindowEnd _ _ ones periods fir => fits 32 ones && fits 32 periods && fits 32 fir
  | .entryDelayEnd _ _ => true
  | .mainsEdge _ => true
  | .mainsTimeout _ => true
  | .plausRoundEnd _ _ a33 b33 a34 b34 => fits 32 a33 && fits 32 b33 && fits 32 a34 && fits 32 b34
  | .gthConfig _ rq => rq.wf
  | .gthTrigConfig _ rq => rq.wf
  | .gthArm _ rq => rq.wf
  | .gthTrigger _ rq => rq.wf
  | .gthStop _ rq => rq.wf
  | .gthRead _ rq => rq.wf
  | .gthStatusRead _ rq => rq.wf
  | .gthPmcConfig _ rq => rq.wf
  | .gthPmcCtrl _ rq => rq.wf
  | .gthCountRead _ rq => rq.wf
  | .gthCounterOpen _ rq => rq.wf
  | .captureBlockWrite _ _ _ => true
  | .triggerCandidate _ _ held frac => fits 32 held && fits 6 frac
  | .memTableFill _ rq => rq.wf
  | .memTableDeclare _ rq => rq.wf
  | .memConfig _ rq => rq.wf
  | .memStatusRead _ rq => rq.wf
  | .memLogRead _ rq => rq.wf
  | .memRepairRead _ rq => rq.wf
  | .scrubVisit _ w => w.wf
  | .scrubLapComplete _ _ => true
  | .pwrDomainRead _ rq => rq.wf
  | .pwrWake _ rq => rq.wf
  | .pwrSleep _ rq => rq.wf
  | .pwrFence _ rq => rq.wf
  | .pwrDomainReset _ rq => rq.wf
  | .pwrLehrRun _ rq => rq.wf
  | .pwrLehrRead _ rq => rq.wf
  | .pwrConfig _ rq => rq.wf
  | .domainWakeSource _ _ _ => true
  | .domainReady _ _ => true
  | .domainFailure _ _ _ => true
  | .domainPrepareAnswer _ _ => true
  | .lowPowerIdleSleep _ _ => true
  | .lowPowerEnter _ => true
  | .lowPowerExit _ => true
  | .coldStart _ _ _ found => regionsWf found
  | .modrstlLow _ _ => true
  | .supplyOutOfWindow _ _ extreme micros _ _ => fits 16 extreme && fits 32 micros
  | .commandReady _ => true
  | .lehrPreconditionCheck _ mv tLow tHigh found => fits 12 mv && fitsInt 16 tLow && fitsInt 16 tHigh && regionsWf found
  | .lehrComplete _ found => regionsWf found
  | .secIdRead _ rq => rq.wf
  | .secCertRead _ rq => rq.wf
  | .secAttest _ rq => rq.wf
  | .secKeyEnroll _ rq => rq.wf
  | .secKeyRevoke _ rq => rq.wf
  | .secKeyRead _ rq => rq.wf
  | .secFwWrite _ rq => rq.wf
  | .secFwActivate _ rq => rq.wf
  | .secFwCommit _ rq => rq.wf
  | .secCosignSet _ rq => rq.wf
  | .secDebugUnlock _ rq => rq.wf
  | .secFwStatus _ rq => rq.wf
  | .secConfig _ rq => rq.wf
  | .trialTimeout _ => true
  | .randomHealthFail _ test => fits 8 test
  | .evrInfo _ rq => rq.wf
  | .evrRead _ rq => rq.wf
  | .evrConfig _ rq => rq.wf
  | .evrSnapSet _ rq => rq.wf
  | .evrFlush _ rq => rq.wf
  | .evrErase _ rq => rq.wf
  | .eventDeliver _ => true
  | .pageCommit _ => true
  | .optimeCheckpoint _ => true
  | .busStuckRelease _ micros => fits 32 micros
  | .txPllLockLost _ _ => true
  | .hrxLockRegained _ _ => true
  | .hostPllLock _ _ => true
  | .nvTierCommit _ => true
  | .randomHealthRestored _ => true
  | .cmisDatapathDeinit _ _ _ => true

end Sys2Proof
end

