-- ==== Sys2Proof/Tests/Slice0.lean ====
section
/-!
SUPPORT. Tests of the model: ill-formed commands refused, single steps on small states against the spec's words, and for the
statements of Sys2Proof/Certificates/Slice0/Obligations.lean states and operands that meet their hypotheses.
-/
namespace Sys2Proof.Tests
set_option linter.unusedVariables false
set_option Elab.async false
open Sys2Proof Sys2Proof.Machine Reg

/-! ### Small states and requests -/

/-- A two-wire request of level `l` with parameters `p`. -/
def rqOf (l : Nat) (p : Bytes) : Request :=
  { route := .twoWire, length := p.length, seq := 1, level := l, flags := 0, session := 0, resv := 0, params := p }

/-- A part in service with every switched domain ready. -/
def wHw : Hw := { phase := .ready, regs := (List.range 20).map fun d => (0x023000 + d, 0x40000000) }

/-- The owner's public key: the point of brainpoolP384r1 of a key that the tests choose, made outside the model. -/
def ownerKey : Bytes := toBE 97 0x433911b1e63ae57b1607992847f1adbf3cf580b40f8dd78fdef6c15725f9690da31f09ea175131f303a265e40b61552381e74f0679ac4b367f85f66ce31b16b991e38e281ed59d0732cae9c0a4ec93f9adb32e6c5265c59bdcccdae348ee85ba2

/-- The same with an owner key in slot 0 and a nonce in each implicit session. -/
def wKeys : Hw :=
  { wHw with
    cmd := { wHw.cmd with sessions := [{ num := 0xFFF1, level := 1, nonce := some (5, 0) }, { num := 0xFFF2, level := 1 }] }
    nv := { wHw.nv with ident := { slots := [(0, some ⟨2, false, ownerKey⟩)] } } }

/-- The parameters `p` with a signature trailer of slot 0, its signature `sig` made outside the model. -/
def signed (p : Bytes) (sig : Nat) : Bytes := p ++ zeros 4 ++ toBE 96 sig

theorem zeros_length (n : Nat) : (zeros n).length = n := by simp [zeros]


/-- Key material for SESSION_OPEN_1: a point of the curve, a host nonce, slot 0, level 1. -/
def openBlock : Bytes := ownerKey ++ zeros 32 ++ [0, 1, 0]

def wProv : Hw :=
  { wKeys with cmd := { wKeys.cmd with sessions := wKeys.cmd.sessions ++ [{ num := 7, level := 1, prov := some ([], 0), reqLvl := 1 }] } }

def wSess : Hw := { wHw with cmd := { wHw.cmd with sessions := wHw.cmd.sessions ++ [{ num := 7, level := 1 }] } }

/-- Group A in P5 on all lanes in mode N4. -/
def wUp : Hw :=
  (((wHw.setFld (LNK_STATUS_stage 0) 5).setFld (LFM_STATUS_mode 0) 0).setFld (LFM_STATUS_tx_mask 0) 15).setFld (LFM_STATUS_rx_mask 0) 15

def wUpT : Hw := wUp.updGrp 0 fun x => { x with ttOut := [(1, some (5, 7))] }

/-- A suspension with a margin short. -/
def wSus : Hw := (wHw.setFld PWR_SPD_STATUS_suspended 1).setFldS (PWR_SPD_MARGIN_margin 3) (-100)

/-- Host port 0 (enabled at cold start) at 200GE on lane 0 alone, aligned, its lane locked. -/
def wPort : Hw :=
  (((wHw.setFld (HPC_PORT_rate 0) 0).setFld (HPC_PORT_STATUS_aligned 0) 1).setFld (hrxLock 0) 1).setFld (htxPll 0) 1

/-- A frame of 64 bytes for a device whose address has been set to 02-00-00-00-00-01. -/
def frameFor : Bytes := let b := toBE 6 0x020000000001 ++ toBE 6 7 ++ toBE 2 0x88B5 ++ zeros 46; b ++ fcsOf b

def wPortMac : Hw := { (wPort.setFld CMD_CFG_inband_en 1).setFld CMD_CFG_inband_etype 0x88B5 with cmd := { wHw.cmd with mac := 0x020000000001 } }

/-- The flow tables declared. -/
def wTab : Hw := wHw.setFlag FLW_STATUS_ready true

/-- One flow present without a key, class B, at index 7. -/
def wAdm : Hw := { wTab with flw := { wTab.flw with ctxs := [(7, mkCtx 1 1 0 0 0 0 100 4)] } }

/-- Units 0 and 8 wired, their tables declared with one entry. -/
def wLit : Hw :=
  let s := ((wHw.setFld (FES_MAP0_bias_out 0) 4).setFld (FES_MAP0_gate_out 0) 5).setNum (FES_STEPTAB 0 1) 1
  setDeclared (setDeclared s 7 true) 15 true

/-- Unit 1 a protection lane in LISTEN with lock, its target EMIT. -/
def wTurn : Hw :=
  { (((wHw.setFld (FES_MAP2_protect 1) 1).setFld (FES_STATE_state 1) 3).setFld (FES_STATE_lock 1) 1).setFld (FES_STATE_target 1) 4
    with dtime := 2000000 }

/-- Stages 0 and 1 in EMIT and unmuted, band 1 the same, with an estimate above the margin. -/
def wBand : Hw :=
  let s := [0, 1, 2, 3].foldl (fun s st => (s.setFld (FES_STATE_state (8 + st)) 4).setFld (BRC_SSTAT_cause st) 0) wHw
  (s.setFldS (BRC_EST_est 0) (-10)).setFldS (BRC_EST_est 1) (-10)

/-- Band 0 with a valid estimate, stage 1 alone free to rise. -/
def wRise : Hw :=
  let s := [0, 1].foldl (fun s st => ((((s.setFld (FES_STATE_state (8 + st)) 4).setFld (BRC_SSTAT_cause st) 0).setFld
    (BRC_EST_pilot_idx st) 200).setFldS (BRC_EST_est st) (-250)).setFld (BRC_SSTAT_limit_ceil st) 31) wHw
  let s := ((s.setNum (FES_STEPTAB 9 1) 1).setNum (FES_STEPTAB 9 3) (50 * 65536 + 1)).setFld (BRC_SSTAT_desired 1) 5
  { s with fes := [(9, { stgt := 5 })] }

/-- An entry of the journal. -/
def wEntry : JEntry :=
  { index := 1, epoch := 0, status := 0, opcode := 0x0030, seq := 1, session := 0xFFF1, route := 0, level := 1, nv := true, notice := false,
    accept := 0, pcc := 1, plen := 0, digest := 0 }

/-- A suspension with every margin well above its threshold. -/
def wSusOk : Hw := (List.range 15).foldl (fun s d => s.setFldS (PWR_SPD_MARGIN_margin d) 200) (wHw.setFld PWR_SPD_STATUS_suspended 1)

/-- Both groups in P1, C2 over eight lanes preferred, every lane with signal, lock and light. -/
def wC2b : Hw :=
  let s := [0, 1].foldl (fun s g => ((s.setFld (LNK_STATUS_stage g) 1).setFld (LFM_CFG_mode_pref g) 2).setFld (LFM_CFG_c2_layout g) 1) wHw
  let s := (List.range 8).foldl (fun s n =>
    ((s.setFld (LTX_STATUS_pll_lock n) 1).setFld (FES_STATE_state n) 4).setFld (LRX_STATUS_los n) 0) s
  { s with dtime := 10000000 }

/-! ### States and operands that meet the hypotheses of the statements -/

theorem witness_cdbRequest :
    let lpl : Bytes := [0, 1, 0, 0, 0, 0, 0, 1, 0, 0, 0, 0, 0, 0, 0, 0]
    let epl : Bytes := []
    let h : Hw := passTime 0 wHw
    h.takesCommands = true ∧ lpl.length = (if u16 lpl 2 ≤ 104 then 16 + u16 lpl 2 else 16) := by decide +kernel

theorem witness_mspiWriteFrame :
    let pk : Bytes := [0, 1, 0, 0, 0, 0, 0, 1, 0, 0, 0, 0, 0, 0, 0, 0]
    let h : Hw := passTime 0 wHw
    h.takesCommands = true ∧ 16 ≤ pk.length := by decide +kernel

theorem witness_mspiReadFrame :
    let r : Reply := ⟨1, 2, 0, 0, 0, 0, []⟩
    let t : List Reply := []
    let h : Hw := passTime 0 ({ wHw with cmd := { wHw.cmd with mspiQ := [⟨1, 2, 0, 0, 0, 0, []⟩] } })
    h.takesCommands = true ∧ h.cmd.mspiQ = r :: t := by decide +kernel

theorem witness_mspiReadFrame_2 :
    let h : Hw := passTime 0 wHw
    h.takesCommands = true ∧ h.cmd.mspiQ = [] := by decide +kernel

theorem witness_inbandRequestFrame :
    let p : Fin 8 := 0
    let f : Bytes := frameFor
    let h : Hw := passTime 0 wPortMac
    portEnabled h p = true ∧ (portLanes h p).all (fun l => h.ready (8 + l / 4)) = true ∧ h.flag (HPC_PORT_STATUS_aligned p) = true ∧ portHeld h p = false ∧ frameDst f = h.mac ∧ frameType f = h.fld CMD_CFG_inband_etype ∧ (keepFrame h p f).1 = true := by decide +kernel

theorem witness_nonceExpiry :
    let n : Nat := 7
    let x : Session := { num := 7, level := 1, nonce := some (5, 0), prov := some ([], 0) }
    let v : Nat := 5
    let t : Nat := 0
    let h : Hw := passTime 0 ({ wHw with cmd := { wHw.cmd with sessions := [{ num := 7, level := 1, nonce := some (5, 0), prov := some ([], 0) }] }, dtime := 400000000000 })
    findSession h n = some x ∧ x.nonce = some (v, t) ∧ t + 10 ^ 10 < h.dtime := by decide +kernel

theorem witness_provisionalSessionTimeout :
    let n : Nat := 7
    let x : Session := { num := 7, level := 1, nonce := some (5, 0), prov := some ([], 0) }
    let tr : Bytes := []
    let t : Nat := 0
    let h : Hw := passTime 0 ({ wHw with cmd := { wHw.cmd with sessions := [{ num := 7, level := 1, nonce := some (5, 0), prov := some ([], 0) }] }, dtime := 400000000000 })
    findSession h n = some x ∧ x.prov = some (tr, t) ∧ t + 5000000000 ≤ h.dtime := by decide +kernel

theorem witness_sessionIdleClose :
    let n : Nat := 7
    let x : Session := { num := 7, level := 1 }
    let h : Hw := passTime 0 ({ wHw with cmd := { wHw.cmd with sessions := [{ num := 7, level := 1 }] }, dtime := 400000000000 })
    n < 0xFFF0 ∧ findSession h n = some x ∧ x.prov = none ∧ x.lastReq + 300000000000 ≤ h.dtime := by decide +kernel

theorem witness_rateLimitedEventReport :
    let h : Hw := passTime 0 ({ wHw with dtime := 3000000000, evr := { wHw.evr with counts := [(0x0007000000, (1, (2, (3, 4))))] } })
    True := by decide +kernel

theorem witness_acceptedReply :
    let r : RunCmd := { id := 3, opcode := 0x0206, req := rqOf 0 [], session := 0xFFF1, recv := 0, index := 9, wait := .nvSync }
    let h : Hw := passTime 0 ({ wHw with cmd := { wHw.cmd with running := [{ id := 3, opcode := 0x0206, req := rqOf 0 [], session := 0xFFF1, recv := 0, index := 9, wait := .nvSync }] }, dtime := 6000000 })
    h.cmd.running.find? (fun (r : RunCmd) => !r.replied && r.index != 0 && r.outcome.isNone && decide (r.recv + 5000000 ≤ h.dtime)) = some r := by decide +kernel

theorem witness_commandFinish :
    let r : RunCmd := { id := 3, opcode := 1, req := rqOf 0 [], session := 0xFFF1, recv := 0, index := 9, wait := .nvSync, outcome := some (0, 0, []) }
    let st : Nat := 0
    let det : Nat := 0
    let pl : Bytes := []
    let h : Hw := passTime 0 ({ wHw with cmd := { wHw.cmd with running := [{ id := 3, opcode := 1, req := rqOf 0 [], session := 0xFFF1, recv := 0, index := 9, wait := .nvSync, outcome := some (0, 0, []) }] } })
    h.takesCommands = true ∧ h.cmd.running.find? (fun (x : RunCmd) => x.id == r.id) = some r ∧ (opOf r.opcode).isSome = true ∧ r.outcome = some (st, det, pl) := by decide +kernel

theorem witness_readWords :
  taken opReadWords (rqOf 0 [0, 0x00, 0xF0, 0x01, 0, 1]) (passTime 0 wHw) = true ∧ (
    let b : Hw := entered opReadWords (rqOf 0 [0, 0x00, 0xF0, 0x01, 0, 1]) (passTime 0 wHw)
    let c : Call := callOf opReadWords (rqOf 0 [0, 0x00, 0xF0, 0x01, 0, 1]) (passTime 0 wHw)
    b.fab.held = [] ∧ b.fab.back = [] ∧ c.rq.upsets = [] ∧ Map.get none b.cmd.latches (latchKey ehrik (rangeStart c.p)) = none ∧ (List.range (rangeCount c.p)).all (fun i => readStatus b (rangeStart c.p + i) == fsDone) = true) := by decide +kernel

theorem witness_writeWords :
  taken opWriteWords (rqOf 1 [0, 0x00, 0xF0, 0x03, 0, 1, 0, 0, 0, 1]) (passTime 0 wHw) = true ∧ (
    let b : Hw := entered opWriteWords (rqOf 1 [0, 0x00, 0xF0, 0x03, 0, 1, 0, 0, 0, 1]) (passTime 0 wHw)
    let c : Call := callOf opWriteWords (rqOf 1 [0, 0x00, 0xF0, 0x03, 0, 1, 0, 0, 0, 1]) (passTime 0 wHw)
    b.fab.held = [] ∧ b.fab.back = [] ∧ c.rq.upsets = [] ∧ mustWait b c.idx = false) := by decide +kernel

theorem witness_registerWrite :
    let a : Nat := 0x00F003
    let v : Nat := 1
    let d : Nat := 0
    let h : Hw := passTime 0 wHw
    a < 2 ^ 24 ∧ v < 2 ^ 32 ∧ h.fab.held = [] ∧ (addrDomain a).all (fun (x : Nat) => !h.fenced x && h.ready x) = true := by decide +kernel

theorem witness_wordPairLatchRead :
    let src : Nat := 1
    let a : Nat := EVR_OPTIME
    let h : Hw := passTime 0 wHw
    sourceOpen h src = true ∧ a < 2 ^ 24 ∧ h.fab.held = [] ∧ pairUpper a = true ∧ (addrDomain a).all (fun (x : Nat) => !h.fenced x && h.ready x) = true := by decide +kernel

theorem witness_echo :
  taken opEcho (rqOf 0 [1, 2, 3]) (passTime 0 wHw) = true ∧ (
    let b : Hw := entered opEcho (rqOf 0 [1, 2, 3]) (passTime 0 wHw)
    let c : Call := callOf opEcho (rqOf 0 [1, 2, 3]) (passTime 0 wHw)
    True) := by decide +kernel

theorem witness_getInfo :
  taken opGetInfo (rqOf 0 []) (passTime 0 wHw) = true ∧ (
    let b : Hw := entered opGetInfo (rqOf 0 []) (passTime 0 wHw)
    let c : Call := callOf opGetInfo (rqOf 0 []) (passTime 0 wHw)
    True) := by decide +kernel

theorem witness_getNonce :
  taken opGetNonce (rqOf 0 []) (passTime 0 wHw) = true ∧ (
    let b : Hw := entered opGetNonce (rqOf 0 []) (passTime 0 wHw)
    let c : Call := callOf opGetNonce (rqOf 0 []) (passTime 0 wHw)
    b.evr.randomOk = true) := by decide +kernel

theorem witness_sessionOpen1 :
  taken opSessionOpen1 (rqOf 0 openBlock) (passTime 0 wKeys) = true ∧ (
    let k : KeySlot := ⟨2, false, ownerKey⟩
    let b : Hw := entered opSessionOpen1 (rqOf 0 openBlock) (passTime 0 wKeys)
    let c : Call := callOf opSessionOpen1 (rqOf 0 openBlock) (passTime 0 wKeys)
    b.evr.randomOk = true ∧ keySlot b (u8 (slice c.p 0 132) 129) = some k ∧ (openSessions b).length < 4 ∧ unusedFrom b 5 (freshNumber b) ≤ 0xFFEF) := by decide +kernel

theorem witness_sessionOpen2 :
  taken opSessionOpen2 (rqOf 0 ([0, 7, 0, 0] ++ toBE 96 0x1e142ddbf0ef26935621e8eee69af0851157747bbbaffe559e4e903c5ad18f123d4772048446ee81d94df314ad7e464054e43ed45545dbd7228a2618c1c5c66f54719bb391b61ba97a08f9e90dd8e7fc1e8693196133572418676d46eee208c5)) (passTime 0 wProv) = true ∧ (
    let x : Session := { num := 7, level := 1, prov := some ([], 0), reqLvl := 1 }
    let t : Bytes := []
    let since : Nat := 0
    let k : KeySlot := ⟨2, false, ownerKey⟩
    let b : Hw := entered opSessionOpen2 (rqOf 0 ([0, 7, 0, 0] ++ toBE 96 0x1e142ddbf0ef26935621e8eee69af0851157747bbbaffe559e4e903c5ad18f123d4772048446ee81d94df314ad7e464054e43ed45545dbd7228a2618c1c5c66f54719bb391b61ba97a08f9e90dd8e7fc1e8693196133572418676d46eee208c5)) (passTime 0 wProv)
    let c : Call := callOf opSessionOpen2 (rqOf 0 ([0, 7, 0, 0] ++ toBE 96 0x1e142ddbf0ef26935621e8eee69af0851157747bbbaffe559e4e903c5ad18f123d4772048446ee81d94df314ad7e464054e43ed45545dbd7228a2618c1c5c66f54719bb391b61ba97a08f9e90dd8e7fc1e8693196133572418676d46eee208c5)) (passTime 0 wProv)
    (openSessions b).find? (fun (x : Session) => x.num == u16 c.p 0) = some x ∧ x.prov = some (t, since) ∧ b.dtime ≤ since + 5000000000 ∧ keySlot b x.slot = some k ∧ ecdsaVerify k.key (sha384 (t ++ [2])) (slice c.p 4 96) = true) := by decide +kernel

theorem witness_sessionClose :
  taken opSessionClose ({ rqOf 0 [] with session := 7 }) (passTime 0 wSess) = true ∧ (
    let b : Hw := entered opSessionClose ({ rqOf 0 [] with session := 7 }) (passTime 0 wSess)
    let c : Call := callOf opSessionClose ({ rqOf 0 [] with session := 7 }) (passTime 0 wSess)
    True) := by decide +kernel

theorem witness_sessionStatus :
  taken opSessionStatus (rqOf 0 [0xFF, 0xF2]) (passTime 0 wHw) = true ∧ (
    let x : Session := { num := 0xFFF2, level := 1 }
    let b : Hw := entered opSessionStatus (rqOf 0 [0xFF, 0xF2]) (passTime 0 wHw)
    let c : Call := callOf opSessionStatus (rqOf 0 [0xFF, 0xF2]) (passTime 0 wHw)
    findSession b (u16 c.p 0) = some x ∧ x.prov = none) := by decide +kernel

theorem witness_noticeFetch :
  taken opNoticeFetch (rqOf 0 []) (passTime 0 wHw) = true ∧ (
    let b : Hw := entered opNoticeFetch (rqOf 0 []) (passTime 0 wHw)
    let c : Call := callOf opNoticeFetch (rqOf 0 []) (passTime 0 wHw)
    c.rq.route = Route.twoWire) := by decide +kernel

theorem witness_journalInfo :
  taken opJournalInfo (rqOf 0 []) (passTime 0 wHw) = true ∧ (
    let b : Hw := entered opJournalInfo (rqOf 0 []) (passTime 0 wHw)
    let c : Call := callOf opJournalInfo (rqOf 0 []) (passTime 0 wHw)
    True) := by decide +kernel

theorem witness_journalRead :
  taken opJournalRead (rqOf 0 [0, 0, 0, 0, 0, 1, 0xFF, 0xFF, 30]) (passTime 0 wHw) = true ∧ (
    let b : Hw := entered opJournalRead (rqOf 0 [0, 0, 0, 0, 0, 1, 0xFF, 0xFF, 30]) (passTime 0 wHw)
    let c : Call := callOf opJournalRead (rqOf 0 [0, 0, 0, 0, 0, 1, 0xFF, 0xFF, 30]) (passTime 0 wHw)
    True) := by decide +kernel

theorem witness_journalSync :
  taken opJournalSync (rqOf 1 []) (passTime 0 wHw) = true ∧ (
    let b : Hw := entered opJournalSync (rqOf 1 []) (passTime 0 wHw)
    let c : Call := callOf opJournalSync (rqOf 1 []) (passTime 0 wHw)
    b.nv.items = []) := by decide +kernel

theorem witness_journalSync_2 :
  taken opJournalSync (rqOf 1 []) (passTime 0 ({ wHw with nv := { wHw.nv with items := [NvItem.mk wEntry [] {}] } })) = true ∧ (
    let b : Hw := entered opJournalSync (rqOf 1 []) (passTime 0 ({ wHw with nv := { wHw.nv with items := [NvItem.mk wEntry [] {}] } }))
    let c : Call := callOf opJournalSync (rqOf 1 []) (passTime 0 ({ wHw with nv := { wHw.nv with items := [NvItem.mk wEntry [] {}] } }))
    b.nv.items ≠ []) := by decide +kernel

theorem witness_inbandConfig :
  taken opInbandConfig (rqOf 2 (signed ([1, 0x88, 0xB5, 2, 0, 0, 0, 0, 1]) 0x400aefefa02397122fa063109860b07c00a7364181aa5198406e1e983742525e1bc2fe035d456531754ef10199c52f4237fcec4dccec4ebcb69f81b1850a9b13e270648aa87e19122073e5c7a789de901e0a43a781fbd73743c07c085ece95ec)) (passTime 0 wKeys) = true ∧ (
    let b : Hw := entered opInbandConfig (rqOf 2 (signed ([1, 0x88, 0xB5, 2, 0, 0, 0, 0, 1]) 0x400aefefa02397122fa063109860b07c00a7364181aa5198406e1e983742525e1bc2fe035d456531754ef10199c52f4237fcec4dccec4ebcb69f81b1850a9b13e270648aa87e19122073e5c7a789de901e0a43a781fbd73743c07c085ece95ec)) (passTime 0 wKeys)
    let c : Call := callOf opInbandConfig (rqOf 2 (signed ([1, 0x88, 0xB5, 2, 0, 0, 0, 0, 1]) 0x400aefefa02397122fa063109860b07c00a7364181aa5198406e1e983742525e1bc2fe035d456531754ef10199c52f4237fcec4dccec4ebcb69f81b1850a9b13e270648aa87e19122073e5c7a789de901e0a43a781fbd73743c07c085ece95ec)) (passTime 0 wKeys)
    True) := by decide +kernel

theorem witness_nvTierCommit :
    let i : NvItem := NvItem.mk wEntry [] {}
    let h : Hw := passTime 0 ({ wHw with nv := { wHw.nv with items := [NvItem.mk wEntry [] {}] } })
    h.nv.items = [i] ∧ h.ready 19 = true ∧ h.fenced 19 = false := by decide +kernel

theorem witness_cmisTxDisable :
    let n : Fin 8 := 3
    let off : Bool := true
    let h : Hw := passTime 0 wHw
    True := by decide +kernel

theorem witness_cmisDatapathDeinit :
    let g : Fin 2 := 0
    let h : Hw := passTime 0 wHw
    h.takesCommands = true := by decide +kernel

theorem witness_cmisDatapathDeinit_2 :
    let g : Fin 2 := 1
    let h : Hw := passTime 0 wHw
    h.takesCommands = true := by decide +kernel

theorem witness_busStuckRelease :
    let us : Nat := 25000
    let h : Hw := passTime 0 wHw
    25000 ≤ us := by decide +kernel

theorem witness_mgmtReset :
  taken opMgmtReset (rqOf 1 []) (passTime 0 wHw) = true ∧ (
    let b : Hw := entered opMgmtReset (rqOf 1 []) (passTime 0 wHw)
    let c : Call := callOf opMgmtReset (rqOf 1 []) (passTime 0 wHw)
    True) := by decide +kernel

theorem witness_warmReset :
  taken opWarmReset (rqOf 2 (signed ([]) 0x826b7f7e9fe81b5cd23c5247557b5352207f8a46327abac13fbb75fac69d926e6b6cc3f7cd9d62b848944d205b93cdab8a3b9fdbe01d06ba048f628df3dff13523d79d1da22ae8d9c069f77ea51b12b5d57fd71ff1b17e76f39bd9dee3407d8b)) (passTime 0 wKeys) = true ∧ (
    let b : Hw := entered opWarmReset (rqOf 2 (signed ([]) 0x826b7f7e9fe81b5cd23c5247557b5352207f8a46327abac13fbb75fac69d926e6b6cc3f7cd9d62b848944d205b93cdab8a3b9fdbe01d06ba048f628df3dff13523d79d1da22ae8d9c069f77ea51b12b5d57fd71ff1b17e76f39bd9dee3407d8b)) (passTime 0 wKeys)
    let c : Call := callOf opWarmReset (rqOf 2 (signed ([]) 0x826b7f7e9fe81b5cd23c5247557b5352207f8a46327abac13fbb75fac69d926e6b6cc3f7cd9d62b848944d205b93cdab8a3b9fdbe01d06ba048f628df3dff13523d79d1da22ae8d9c069f77ea51b12b5d57fd71ff1b17e76f39bd9dee3407d8b)) (passTime 0 wKeys)
    True) := by decide +kernel

theorem witness_cmisSoftwareReset :
    let h : Hw := passTime 0 ({ wHw with regs := (0x00F001, 4) :: wHw.regs })
    h.takesCommands = true ∧ h.flag CMD_CFG_cmis_swreset = true := by decide +kernel

theorem witness_cmisSoftwareReset_2 :
    let h : Hw := passTime 0 wHw
    h.takesCommands = true ∧ h.flag CMD_CFG_cmis_swreset = false := by decide +kernel

theorem witness_watchdogFire :
    let h : Hw := passTime 0 wHw
    h.phase ≠ Phase.starting ∧ h.pwr.resetting ≠ 4 ∧ (h.cmd.fires.filter fun t => decide (h.dtime < t + 10 ^ 10)).length ≤ 1 := by decide +kernel

theorem witness_watchdogFire_2 :
    let h : Hw := passTime 0 ({ wHw with cmd := { wHw.cmd with fires := [0, 0] } })
    h.phase ≠ Phase.starting ∧ h.pwr.resetting ≠ 4 ∧ h.nv.ident.trial = false ∧ h.cmd.turnedAt = none ∧ (h.cmd.fires.filter fun t => decide (h.dtime < t + 10 ^ 10)).length = 2 := by decide +kernel

theorem witness_mgmtResetComplete :
    let h : Hw := passTime 0 ({ wHw with phase := .mgmtReset })
    h.phase = Phase.mgmtReset := by decide +kernel

theorem witness_warmResetComplete :
    let h : Hw := passTime 0 ({ wHw with phase := .warmReset })
    h.phase = Phase.warmReset := by decide +kernel

theorem witness_pwrPaceSet :
  taken opPwrPaceSet (rqOf 1 [0x03, 0xE8]) (passTime 0 wHw) = true ∧ (
    let b : Hw := entered opPwrPaceSet (rqOf 1 [0x03, 0xE8]) (passTime 0 wHw)
    let c : Call := callOf opPwrPaceSet (rqOf 1 [0x03, 0xE8]) (passTime 0 wHw)
    u16 c.p 0 ≤ opGuaranteed (b.fld PWR_OP_STATUS_current)) := by decide +kernel

theorem witness_pwrOpSet :
  taken opPwrOpSet (rqOf 1 [0]) (passTime 0 wHw) = true ∧ (
    let b : Hw := entered opPwrOpSet (rqOf 1 [0]) (passTime 0 wHw)
    let c : Call := callOf opPwrOpSet (rqOf 1 [0]) (passTime 0 wHw)
    b.pwr.move = none ∧ moveCheck b (u8 c.p 0) b.ceiling = none) := by decide +kernel

theorem witness_pwrOpSet_2 :
  taken opPwrOpSet (rqOf 1 [0]) (passTime 0 ({ wHw with pwr := { wHw.pwr with move := some { auto := true, origin := 1, target := 0, goal := 800, cmdMv := 800, startMv := 720, startCeil := 880, endCeil := none, settled := some 0 } } })) = true ∧ (
    let b : Hw := entered opPwrOpSet (rqOf 1 [0]) (passTime 0 ({ wHw with pwr := { wHw.pwr with move := some { auto := true, origin := 1, target := 0, goal := 800, cmdMv := 800, startMv := 720, startCeil := 880, endCeil := none, settled := some 0 } } }))
    let c : Call := callOf opPwrOpSet (rqOf 1 [0]) (passTime 0 ({ wHw with pwr := { wHw.pwr with move := some { auto := true, origin := 1, target := 0, goal := 800, cmdMv := 800, startMv := 720, startCeil := 880, endCeil := none, settled := some 0 } } }))
    b.pwr.move.isSome = true) := by decide +kernel

theorem witness_pwrOpMove :
  taken opPwrOpMove (rqOf 1 [0, 0x03, 0xE8]) (passTime 0 wHw) = true ∧ (
    let b : Hw := entered opPwrOpMove (rqOf 1 [0, 0x03, 0xE8]) (passTime 0 wHw)
    let c : Call := callOf opPwrOpMove (rqOf 1 [0, 0x03, 0xE8]) (passTime 0 wHw)
    b.pwr.move = none ∧ moveCheck b (u8 c.p 0) (u16 c.p 1) = none) := by decide +kernel

theorem witness_pwrFloorSet :
  taken opPwrFloorSet (rqOf 1 [0]) (passTime 0 wHw) = true ∧ (
    let b : Hw := entered opPwrFloorSet (rqOf 1 [0]) (passTime 0 wHw)
    let c : Call := callOf opPwrFloorSet (rqOf 1 [0]) (passTime 0 wHw)
    b.fld PWR_OP_STATUS_current ≤ u8 c.p 0 ∧ recheck b { b.terms with floor := opGuaranteed (u8 c.p 0) } = none) := by decide +kernel

theorem witness_pwrSpeedCfg :
  taken opPwrSpeedCfg (rqOf 1 [30, 10, 10, 7]) (passTime 0 wHw) = true ∧ (
    let b : Hw := entered opPwrSpeedCfg (rqOf 1 [30, 10, 10, 7]) (passTime 0 wHw)
    let c : Call := callOf opPwrSpeedCfg (rqOf 1 [30, 10, 10, 7]) (passTime 0 wHw)
    True) := by decide +kernel

theorem witness_pwrSpeedRead :
  taken opPwrSpeedRead (rqOf 0 []) (passTime 0 wHw) = true ∧ (
    let b : Hw := entered opPwrSpeedRead (rqOf 0 []) (passTime 0 wHw)
    let c : Call := callOf opPwrSpeedRead (rqOf 0 []) (passTime 0 wHw)
    True) := by decide +kernel

theorem witness_pwrTimeRead :
  taken opPwrTimeRead (rqOf 0 []) (passTime 0 wHw) = true ∧ (
    let b : Hw := entered opPwrTimeRead (rqOf 0 []) (passTime 0 wHw)
    let c : Call := callOf opPwrTimeRead (rqOf 0 []) (passTime 0 wHw)
    True) := by decide +kernel

theorem witness_avsbusStepDone :
    let mv : Nat := 790
    let m : VMove := { auto := false, origin := 0, target := 1, goal := 720, cmdMv := 790, startMv := 800, startCeil := 1000, endCeil := none }
    let h : Hw := passTime 0 ({ wHw with pwr := { wHw.pwr with move := some { auto := false, origin := 0, target := 1, goal := 720, cmdMv := 790, startMv := 800, startCeil := 1000, endCeil := none } } })
    h.pwr.move = some m ∧ m.cmdMv ≠ m.goal := by decide +kernel

theorem witness_avsbusStepDone_2 :
    let mv : Nat := 722
    let m : VMove := { auto := false, origin := 0, target := 1, goal := 720, cmdMv := 720, startMv := 800, startCeil := 1000, endCeil := none }
    let h : Hw := passTime 0 ({ wHw with pwr := { wHw.pwr with move := some { auto := false, origin := 0, target := 1, goal := 720, cmdMv := 720, startMv := 800, startCeil := 1000, endCeil := none } } })
    h.pwr.move = some m ∧ m.cmdMv = m.goal ∧ mv ≤ m.goal + 8 ∧ m.goal ≤ mv + 8 := by decide +kernel

theorem witness_avsbusFault :
    let mv : Nat := 700
    let st : Nat := 1
    let h : Hw := passTime 0 wHw
    h.pwr.move = none := by decide +kernel

theorem witness_avsbusFault_2 :
    let mv : Nat := 720
    let st : Nat := 1
    let m : VMove := { auto := true, origin := 1, target := 0, goal := 800, cmdMv := 800, startMv := 720, startCeil := 880, endCeil := none, settled := some 0 }
    let h : Hw := passTime 0 ({ wHw with pwr := { wHw.pwr with move := some { auto := true, origin := 1, target := 0, goal := 800, cmdMv := 800, startMv := 720, startCeil := 880, endCeil := none, settled := some 0 } } })
    h.pwr.move = some m ∧ m.auto = true := by decide +kernel

theorem witness_avsbusFault_3 :
    let mv : Nat := 790
    let st : Nat := 1
    let m : VMove := { auto := false, origin := 0, target := 1, goal := 720, cmdMv := 790, startMv := 800, startCeil := 1000, endCeil := none }
    let h : Hw := passTime 0 ({ wHw with pwr := { wHw.pwr with move := some { auto := false, origin := 0, target := 1, goal := 720, cmdMv := 790, startMv := 800, startCeil := 1000, endCeil := none } } })
    h.pwr.move = some m ∧ m.auto = false ∧ m.aborted = none := by decide +kernel

theorem witness_autoRaiseComplete :
    let m : VMove := { auto := true, origin := 1, target := 0, goal := 800, cmdMv := 800, startMv := 720, startCeil := 880, endCeil := none, settled := some 0 }
    let h : Hw := passTime 0 ({ wHw with pwr := { wHw.pwr with move := some { auto := true, origin := 1, target := 0, goal := 800, cmdMv := 800, startMv := 720, startCeil := 880, endCeil := none, settled := some 0 } }, dtime := 50000 })
    h.pwr.move = some m ∧ m.auto = true ∧ moveSettled h m = true := by decide +kernel

theorem witness_speedReading :
    let d : Fin 19 := 3
    let su : Nat := 1100
    let h : Hw := passTime 0 wHw
    (d : Nat) < 15 ∧ reading h d = true ∧ h.pwr.move = none ∧ (h.fld PWR_SPD_CFG_alarm : Int) ≤ clampI (-1024) 1023 ((su : Int) - max (groupPace h 0) (groupPace h 1)) ∧ (h.fld PWR_SPD_CFG_crit : Int) ≤ clampI (-1024) 1023 ((su : Int) - max (groupPace h 0) (groupPace h 1)) := by decide +kernel

theorem witness_speedReading_2 :
    let d : Fin 19 := 3
    let su : Nat := 10
    let h : Hw := passTime 0 wHw
    (d : Nat) < 15 ∧ reading h d = true ∧ inAlarm h d = false ∧ clampI (-1024) 1023 ((su : Int) - max (groupPace h 0) (groupPace h 1)) < (h.fld PWR_SPD_CFG_alarm : Int) := by decide +kernel

theorem witness_speedReading_3 :
    let d : Fin 19 := 15
    let su : Nat := 900
    let h : Hw := passTime 0 wHw
    15 ≤ (d : Nat) ∧ reading h d = true := by decide +kernel

theorem witness_speedAlarmEnd :
    let d : Fin 19 := 3
    let h : Hw := passTime 0 ({ wHw with regs := [(PWR_SPD_STATUS, 8)], pwr := { wHw.pwr with okSince := [(3, 1)] }, dtime := 10000000 })
    inAlarm h d = true ∧ (d : Nat) < 15 ∧ Map.get 0 h.pwr.okSince d ≠ 0 ∧ Map.get 0 h.pwr.okSince d - 1 + 10000000 ≤ h.dtime := by decide +kernel

theorem witness_suspensionPaceStep :
    let h : Hw := passTime 0 wSus
    h.flag PWR_SPD_STATUS_suspended = true ∧ marginsOk h = false ∧ h.pwr.susUp = false ∧ h.fld PWR_DTIME_SRC_source ≠ 3 := by decide +kernel

theorem witness_suspensionPaceStep_2 :
    let h : Hw := passTime 0 wSusOk
    h.flag PWR_SPD_STATUS_suspended = true ∧ marginsOk h = true ∧ h.fld PWR_DTIME_SRC_source ≠ 3 ∧ groupFloor h 0 ≤ Map.get 1000 h.pwr.susLim 0 + 50 ∧ groupFloor h 1 ≤ Map.get 1000 h.pwr.susLim 1 + 50 := by decide +kernel

theorem witness_referenceMeasure :
    let x : Int := 40
    let a : Int := 0
    let b : Int := -90
    let h : Hw := passTime 0 wHw
    measureDue h = true ∧ h.flag (PWR_REF_present 0) = true ∧ h.flag (PWR_REF_present 1) = true ∧ h.flag (PWR_REF_present 2) = true ∧ (x - median x a b).natAbs ≤ 1500 ∧ (a - median x a b).natAbs ≤ 1500 ∧ (b - median x a b).natAbs ≤ 1500 := by decide +kernel

theorem witness_referenceMeasure_2 :
    let x : Int := 40
    let a : Int := 0
    let b : Int := 0
    let h : Hw := passTime 0 ({ wHw with regs := (PWR_REF 1, 0) :: (PWR_REF 2, 0) :: wHw.regs })
    measureDue h = true ∧ h.flag (PWR_REF_present 0) = true ∧ h.flag (PWR_REF_present 1) = false ∧ h.flag (PWR_REF_present 2) = false ∧ x.natAbs ≤ 11500 := by decide +kernel

theorem witness_referenceAbsent :
    let r : Fin 3 := 0
    let h : Hw := passTime 0 wHw
    True := by decide +kernel

theorem witness_referenceAccepted :
    let h : Hw := passTime 0 ({ wHw with regs := (PWR_REF 0, 0) :: wHw.regs })
    h.refOk 0 = false ∧ refGood h 0 = true := by decide +kernel

theorem witness_referenceAccepted_2 :
    let r : Fin 3 := 2
    let h : Hw := passTime 0 ({ wHw with regs := (PWR_REF 2, 0) :: wHw.regs })
    (r : Nat) ≠ 0 ∧ h.refOk r = false ∧ refGood h r = true := by decide +kernel

theorem witness_dtimeSourceReturn :
    let h : Hw := passTime 0 ({ wHw with regs := wHw.regs ++ [(PWR_DTIME_SRC, 2)], dtime := 1000000000 })
    h.refOk 1 = true ∧ Map.get 0 h.pwr.refOkSince 1 + 1000000000 ≤ h.dtime ∧ h.fld PWR_DTIME_SRC_source ≠ 0 := by decide +kernel

theorem witness_timeTransferTick :
    let n : Fin 8 := 1
    let fr : Nat := 0
    let h : Hw := passTime 0 wUp
    framing h (laneGroup n) = true ∧ 4 ≤ h.stage (laneGroup n) ∧ hasBit (h.txMask (laneGroup n)) (n % 4) = true := by decide +kernel

theorem witness_timeTransferAnswerRx :
    let n : Fin 8 := 1
    let a : Nat := 7
    let b : Nat := 9
    let d : Nat := 9
    let q : Nat := 5
    let fr : Nat := 0
    let h : Hw := passTime 0 wUpT
    framing h (laneGroup n) = true ∧ 4 ≤ h.stage (laneGroup n) ∧ Map.get none (h.grp (laneGroup n)).ttOut (n % 4) = some (q, a) ∧ (h.flag (peerValid (laneGroup n)) = false ∨ ((exchange h (laneGroup n) a b d (fine h fr)).1 - 2 * sx 64 (h.num64 (PWR_PEER_OFS (laneGroup n)))).natAbs ≤ 2560) := by decide +kernel

theorem witness_timeTransferAnswerRx_2 :
    let n : Fin 8 := 1
    let a : Nat := 8
    let b : Nat := 9
    let d : Nat := 9
    let q : Nat := 5
    let fr : Nat := 0
    let h : Hw := passTime 0 wUpT
    Map.get none (h.grp (laneGroup n)).ttOut (n % 4) ≠ some (q, a) := by decide +kernel

theorem witness_ltxConfig :
  taken opLtxConfig (rqOf 1 [0x81, 9, 3]) (passTime 0 wHw) = true ∧ (
    let b : Hw := entered opLtxConfig (rqOf 1 [0x81, 9, 3]) (passTime 0 wHw)
    let c : Call := callOf opLtxConfig (rqOf 1 [0x81, 9, 3]) (passTime 0 wHw)
    True) := by decide +kernel

theorem witness_ltxTapSet :
  taken opLtxTapSet (rqOf 1 [1, 0, 0, 100, 0, 0, 0, 0]) (passTime 0 wHw) = true ∧ (
    let b : Hw := entered opLtxTapSet (rqOf 1 [1, 0, 0, 100, 0, 0, 0, 0]) (passTime 0 wHw)
    let c : Call := callOf opLtxTapSet (rqOf 1 [1, 0, 0, 100, 0, 0, 0, 0]) (passTime 0 wHw)
    (lanesOf (u8 c.p 0)).all (fun n => b.stage (laneGroup n) != 2) = true) := by decide +kernel

theorem witness_ltxLevelsSet :
  taken opLtxLevelsSet (rqOf 1 [0x80, 64, 106]) (passTime 0 wHw) = true ∧ (
    let b : Hw := entered opLtxLevelsSet (rqOf 1 [0x80, 64, 106]) (passTime 0 wHw)
    let c : Call := callOf opLtxLevelsSet (rqOf 1 [0x80, 64, 106]) (passTime 0 wHw)
    True) := by decide +kernel

theorem witness_ltxPdLoad :
  taken opLtxPdLoad (rqOf 1 ([2] ++ zeros 64)) (passTime 0 wHw) = true ∧ (
    let b : Hw := entered opLtxPdLoad (rqOf 1 ([2] ++ zeros 64)) (passTime 0 wHw)
    let c : Call := callOf opLtxPdLoad (rqOf 1 ([2] ++ zeros 64)) (passTime 0 wHw)
    True) := by decide +kernel

theorem witness_lrxConfig :
  taken opLrxConfig (rqOf 1 [1, 30, 20, 1, 2, 0xFE, 20]) (passTime 0 wHw) = true ∧ (
    let b : Hw := entered opLrxConfig (rqOf 1 [1, 30, 20, 1, 2, 0xFE, 20]) (passTime 0 wHw)
    let c : Call := callOf opLrxConfig (rqOf 1 [1, 30, 20, 1, 2, 0xFE, 20]) (passTime 0 wHw)
    ((lanesOf (u8 c.p 0)).any (fun n => b.fld (LRX_CFG_main_pos n) != u8 c.p 2) && (lanesOf (u8 c.p 0)).any fun n => decide (2 ≤ b.stage (laneGroup n))) = false) := by decide +kernel

theorem witness_lrxAdaptSet :
  taken opLrxAdaptSet (rqOf 1 [4, 1, 2, 0, 5, 6]) (passTime 0 wHw) = true ∧ (
    let b : Hw := entered opLrxAdaptSet (rqOf 1 [4, 1, 2, 0, 5, 6]) (passTime 0 wHw)
    let c : Call := callOf opLrxAdaptSet (rqOf 1 [4, 1, 2, 0, 5, 6]) (passTime 0 wHw)
    True) := by decide +kernel

theorem witness_lrxEqSet :
  taken opLrxEqSet (rqOf 1 ([0, 1, 9, 12] ++ zeros 100)) (passTime 0 (wHw.setFld (LRX_ADAPT_afe 0) 2)) = true ∧ (
    let b : Hw := entered opLrxEqSet (rqOf 1 ([0, 1, 9, 12] ++ zeros 100)) (passTime 0 (wHw.setFld (LRX_ADAPT_afe 0) 2))
    let c : Call := callOf opLrxEqSet (rqOf 1 ([0, 1, 9, 12] ++ zeros 100)) (passTime 0 (wHw.setFld (LRX_ADAPT_afe 0) 2))
    (hasBit (u8 c.p 1) 0 = true → held b (LRX_ADAPT_afe (u8 c.p 0)) = true) ∧ (hasBit (u8 c.p 1) 1 = true → held b (LRX_ADAPT_ffe (u8 c.p 0)) = true) ∧ (hasBit (u8 c.p 1) 2 = true → held b (LRX_ADAPT_rsse (u8 c.p 0)) = true)) := by decide +kernel

theorem witness_lrxGthSelect :
  taken opLrxGthSelect (rqOf 1 [7, 2]) (passTime 0 wHw) = true ∧ (
    let b : Hw := entered opLrxGthSelect (rqOf 1 [7, 2]) (passTime 0 wHw)
    let c : Call := callOf opLrxGthSelect (rqOf 1 [7, 2]) (passTime 0 wHw)
    (armed b && b.flag GTH_SRC_line) = false) := by decide +kernel

theorem witness_lrxEqRead :
  taken opLrxEqRead (rqOf 0 [7]) (passTime 0 wHw) = true ∧ (
    let b : Hw := entered opLrxEqRead (rqOf 0 [7]) (passTime 0 wHw)
    let c : Call := callOf opLrxEqRead (rqOf 0 [7]) (passTime 0 wHw)
    True) := by decide +kernel

theorem witness_lrxMeasRead :
  taken opLrxMeasRead (rqOf 0 [3, 1]) (passTime 0 wHw) = true ∧ (
    let b : Hw := entered opLrxMeasRead (rqOf 0 [3, 1]) (passTime 0 wHw)
    let c : Call := callOf opLrxMeasRead (rqOf 0 [3, 1]) (passTime 0 wHw)
    True) := by decide +kernel

theorem witness_lrxHistRun :
  taken opLrxHistRun (rqOf 1 [2, 1, 16]) (passTime 0 (wHw.setFld (LRX_STATUS_los 2) 0)) = true ∧ (
    let b : Hw := entered opLrxHistRun (rqOf 1 [2, 1, 16]) (passTime 0 (wHw.setFld (LRX_STATUS_los 2) 0))
    let c : Call := callOf opLrxHistRun (rqOf 1 [2, 1, 16]) (passTime 0 (wHw.setFld (LRX_STATUS_los 2) 0))
    b.flag (LRX_STATUS_hist_busy (u8 c.p 0)) = false ∧ b.flag (LRX_STATUS_los (u8 c.p 0)) = false) := by decide +kernel

theorem witness_lrxHistRead :
  taken opLrxHistRead (rqOf 0 [1, 255, 0, 1]) (passTime 0 wHw) = true ∧ (
    let b : Hw := entered opLrxHistRead (rqOf 0 [1, 255, 0, 1]) (passTime 0 wHw)
    let c : Call := callOf opLrxHistRead (rqOf 0 [1, 255, 0, 1]) (passTime 0 wHw)
    (List.range (u16 c.p 2)).all (fun i => !poisoned b (LRX_HIST (u8 c.p 0) (u8 c.p 1) + i)) = true) := by decide +kernel

theorem witness_lrxStoreList :
  taken opLrxStoreList (rqOf 0 [255, 1]) (passTime 0 wHw) = true ∧ (
    let b : Hw := entered opLrxStoreList (rqOf 0 [255, 1]) (passTime 0 wHw)
    let c : Call := callOf opLrxStoreList (rqOf 0 [255, 1]) (passTime 0 wHw)
    True) := by decide +kernel

theorem witness_lrxStoreSave :
  taken opLrxStoreSave (rqOf 1 [1]) (passTime 0 (wUp.setFld (LRX_STATUS_converged 0) 1)) = true ∧ (
    let b : Hw := entered opLrxStoreSave (rqOf 1 [1]) (passTime 0 (wUp.setFld (LRX_STATUS_converged 0) 1))
    let c : Call := callOf opLrxStoreSave (rqOf 1 [1]) (passTime 0 (wUp.setFld (LRX_STATUS_converged 0) 1))
    (lanesOf (u8 c.p 0)).all (fun n => b.stage (laneGroup n) == 5 && b.flag (LRX_STATUS_converged n)) = true) := by decide +kernel

theorem witness_lrxStoreErase :
  taken opLrxStoreErase (rqOf 1 [1, 255, 1, 0, 0, 0, 0]) (passTime 0 wHw) = true ∧ (
    let b : Hw := entered opLrxStoreErase (rqOf 1 [1, 255, 1, 0, 0, 0, 0]) (passTime 0 wHw)
    let c : Call := callOf opLrxStoreErase (rqOf 1 [1, 255, 1, 0, 0, 0, 0]) (passTime 0 wHw)
    True) := by decide +kernel

theorem witness_lrxSeedLoad :
  taken opLrxSeedLoad (rqOf 1 ([8, 1] ++ ([0, 0, 100, 0, 0, 0, 0, 0, 64, 64, 0, 0, 8, 0, 0, 0] ++ zeros 100))) (passTime 0 wHw) = true ∧ (
    let b : Hw := entered opLrxSeedLoad (rqOf 1 ([8, 1] ++ ([0, 0, 100, 0, 0, 0, 0, 0, 64, 64, 0, 0, 8, 0, 0, 0] ++ zeros 100))) (passTime 0 wHw)
    let c : Call := callOf opLrxSeedLoad (rqOf 1 ([8, 1] ++ ([0, 0, 100, 0, 0, 0, 0, 0, 64, 64, 0, 0, 8, 0, 0, 0] ++ zeros 100))) (passTime 0 wHw)
    True) := by decide +kernel

theorem witness_storedSetAutoSave :
    let n : Fin 8 := 1
    let h : Hw := passTime 0 ({ wUp.setFld (LRX_STATUS_converged 1) 1 with dtime := 60000000000 })
    h.ready n = true ∧ h.stage (laneGroup n) = 5 ∧ h.flag (LRX_STATUS_converged n) = true ∧ (h.lane n).savedAt = none ∧ max (h.lane n).convAt (h.lane n).p5At + 60000000000 ≤ h.dtime ∧ h.fenced 19 = false := by decide +kernel

theorem witness_histRunComplete :
    let n : Fin 8 := 0
    let k : Nat := 65536
    let bins : List Nat := [3]
    let pt : Nat := 0
    let d : Nat := 16
    let h : Hw := passTime 0 (((wHw.setFld (LRX_STATUS_los 0) 0).setFld (LRX_STATUS_hist_busy 0) 1).updLane 0 fun l => { l with hist := some (0, 16) })
    (h.lane n).hist = some (pt, d) := by decide +kernel

theorem witness_lossOfSignal :
    let n : Fin 8 := 4
    let mv : Nat := 10
    let h : Hw := passTime 0 (wHw.setFld (LRX_STATUS_los 4) 0)
    h.ready n = true ∧ h.flag (LRX_STATUS_los n) = false ∧ mv < h.fld (LRX_CFG_los_thr n) := by decide +kernel

theorem witness_signalRestored :
    let n : Fin 8 := 0
    let mv : Nat := 200
    let h : Hw := passTime 0 wHw
    h.ready n = true ∧ h.flag (LRX_STATUS_los n) = true ∧ 5 * h.fld (LRX_CFG_los_thr n) < 4 * mv := by decide +kernel

theorem witness_lrxLockLost :
    let n : Fin 8 := 7
    let fr : Int := -5
    let h : Hw := passTime 0 (wHw.setFld (LRX_STATUS_cdr_lock 7) 1)
    h.ready n = true ∧ h.flag (LRX_STATUS_cdr_lock n) = true := by decide +kernel

theorem witness_lrxLockRegained :
    let n : Fin 8 := 5
    let h : Hw := passTime 0 wHw
    h.ready n = true ∧ h.flag (LRX_STATUS_cdr_lock n) = false ∧ laneRefOk h n = true := by decide +kernel

theorem witness_adaptationResume :
    let n : Fin 8 := 2
    let h : Hw := passTime 0 ({ ((wHw.setFld (LRX_STATUS_los 2) 0).setFld (LRX_STATUS_held 2) 1).setFld (LRX_STATUS_cdr_lock 2) 1 with dtime := 10000 })
    h.flag (LRX_STATUS_held n) = true ∧ h.flag (LRX_STATUS_los n) = false ∧ h.flag (LRX_STATUS_cdr_lock n) = true ∧ (h.lane n).goodAt + 10000 ≤ h.dtime := by decide +kernel

theorem witness_saturationInterval :
    let n : Fin 8 := 0
    let k : Nat := 1000
    let x : Nat := 2
    let h : Hw := passTime 0 wHw
    h.ready n = true ∧ k < x * 1000 ∧ h.flag (LRX_STATUS_sat n) = false := by decide +kernel

theorem witness_saturationInterval_2 :
    let n : Fin 8 := 0
    let k : Nat := 1000
    let x : Nat := 1
    let h : Hw := passTime 0 wHw
    h.ready n = true ∧ x * 1000 ≤ k := by decide +kernel

theorem witness_snrUpdate :
    let n : Fin 8 := 3
    let a : Nat := 100
    let d : Nat := 0
    let f : Int := 0
    let h : Hw := passTime 0 wHw
    h.ready n = true := by decide +kernel

theorem witness_prefecUpdate :
    let n : Fin 8 := 0
    let b0 : Nat := 1000
    let c0 : Nat := 5
    let wb : Nat := 1000
    let wc : Nat := 5
    let un0 : Nat := 1
    let fx : Nat := 1
    let h : Hw := passTime 0 wHw
    h.ready n = true := by decide +kernel

theorem witness_seedAttemptTimeout :
    let n : Fin 8 := 0
    let h : Hw := passTime 0 ({ (wHw.setFld (LNK_STATUS_stage 0) 2).updLane 0 fun l => { l with seedStep := 3 } with dtime := 20000000 })
    h.ready n = true ∧ acquiring h n = true ∧ (h.lane n).sync = false ∧ (h.lane n).seedAt + 20000000 ≤ h.dtime := by decide +kernel

theorem witness_laneConverged :
    let n : Fin 8 := 0
    let h : Hw := passTime 0 (((wHw.setFld (LNK_STATUS_stage 0) 2).setFld (LNK_STATUS_mode 0) 0).updLane 0 fun l => { l with goodRun := 3 })
    h.ready n = true ∧ acquiring h n = true ∧ 3 ≤ (h.lane n).goodRun := by decide +kernel

theorem witness_txPllLock :
    let n : Fin 8 := 6
    let h : Hw := passTime 0 wHw
    h.ready n = true ∧ h.flag (LTX_STATUS_pll_lock n) = false ∧ laneRefOk h n = true := by decide +kernel

theorem witness_txPllLockLost :
    let n : Fin 8 := 6
    let h : Hw := passTime 0 (wHw.setFld (LTX_STATUS_pll_lock 6) 1)
    h.flag (LTX_STATUS_pll_lock n) = true := by decide +kernel

theorem witness_lfmConfig :
  taken opLfmConfig (rqOf 1 [1, 2, 1, 50]) (passTime 0 wHw) = true ∧ (
    let b : Hw := entered opLfmConfig (rqOf 1 [1, 2, 1, 50]) (passTime 0 wHw)
    let c : Call := callOf opLfmConfig (rqOf 1 [1, 2, 1, 50]) (passTime 0 wHw)
    ¬ ((u8 c.p 1 ≠ b.fld (LFM_CFG_mode_pref (u8 c.p 0)) ∨ u8 c.p 2 ≠ b.fld (LFM_CFG_c2_layout (u8 c.p 0))) ∧ 1 < b.stage (u8 c.p 0))) := by decide +kernel

theorem witness_lfmStatusRead :
  taken opLfmStatusRead (rqOf 0 [1]) (passTime 0 wHw) = true ∧ (
    let b : Hw := entered opLfmStatusRead (rqOf 0 [1]) (passTime 0 wHw)
    let c : Call := callOf opLfmStatusRead (rqOf 0 [1]) (passTime 0 wHw)
    True) := by decide +kernel

theorem witness_lfmCountRead :
  taken opLfmCountRead (rqOf 0 [0, 1]) (passTime 0 wHw) = true ∧ (
    let b : Hw := entered opLfmCountRead (rqOf 0 [0, 1]) (passTime 0 wHw)
    let c : Call := callOf opLfmCountRead (rqOf 0 [0, 1]) (passTime 0 wHw)
    True) := by decide +kernel

theorem witness_laneFrameBoundary :
    let g : Fin 2 := 0
    let f : Nat := 5
    let h : Hw := passTime 0 wUp
    framing h g = true := by decide +kernel

theorem witness_amReceived :
    let n : Fin 8 := 1
    let bs : Bytes := [156, 58, 180, 225, 99, 197, 75, 30, 1, 15, 0, 0, 0, 0, 0, 0, 0, 0, 0, 0, 166, 152, 210, 148, 51, 51, 51, 51, 51, 51, 197, 206]
    let ins : Bool := true
    let sk : Nat := 100
    let h : Hw := passTime 0 wUp
    h.ready n = true ∧ h.ready (12 + laneGroup n) = true ∧ framing h (laneGroup n) = true ∧ h.stage (laneGroup n) = 5 ∧ bs.length = 32 ∧ un bs 0 8 = 0x9C3AB4E163C54B1E ∧ crcMsb 16 0x1021 0xFFFF ((bs.take 30).drop 8) = u16 bs 30 ∧ (hasBit (h.rxMask (laneGroup n)) ((n : Nat) % 4) = true → seedWrong h (laneGroup n) (un bs 12 6) (hasBit (u8 bs 11) 3) = false) := by decide +kernel

theorem witness_amReceived_2 :
    let n : Fin 8 := 1
    let bs : Bytes := []
    let ins : Bool := true
    let sk : Nat := 0
    let h : Hw := passTime 0 wUp
    h.ready n = true ∧ h.ready (12 + laneGroup n) = true ∧ framing h (laneGroup n) = true ∧ ¬ (bs.length = 32 ∧ un bs 0 8 = 0x9C3AB4E163C54B1E ∧ crcMsb 16 0x1021 0xFFFF ((bs.take 30).drop 8) = u16 bs 30) := by decide +kernel

theorem witness_amReceived_3 :
    let n : Fin 8 := 1
    let bs : Bytes := []
    let ins : Bool := true
    let sk : Nat := 0
    let h : Hw := passTime 0 ((wHw.setFld (LFM_STATUS_mode 0) 2).updGrp 0 fun x => { x with am := [(1, { good := 1 })] })
    h.ready n = true ∧ h.ready (12 + laneGroup n) = true ∧ h.mode (laneGroup n) = 2 := by decide +kernel

theorem witness_amNotFound :
    let n : Fin 8 := 3
    let h : Hw := passTime 0 wUp
    framing h (laneGroup n) = true ∧ h.mode (laneGroup n) ≠ 2 := by decide +kernel

theorem witness_cellReceived :
    let g : Fin 2 := 0
    let on : Nat := 1
    let hd : Nat := cellHeader 5 0 0 0 0
    let pb : Bytes := []
    let fr : Nat := 0
    let dp : Nat := 0
    let rm : Nat := 0
    let wr : List Nat := []
    let h : Hw := passTime 0 wUp
    framing h g = true ∧ on &&& ((stuffRemoved h g rm wr).pmc 0x0F0).fld (failedFld g) = 0 ∧ crcMsb 8 0x07 0xFF (toBE 7 (hd / 256 % 2 ^ 56)) = hd % 256 := by decide +kernel

theorem witness_cellReceived_2 :
    let g : Fin 2 := 0
    let on : Nat := 1
    let hd : Nat := 0
    let pb : Bytes := []
    let fr : Nat := 0
    let dp : Nat := 0
    let rm : Nat := 0
    let wr : List Nat := []
    let h : Hw := passTime 0 wUp
    framing h g = true ∧ on &&& ((stuffRemoved h g rm wr).pmc 0x0F0).fld (failedFld g) = 0 ∧ crcMsb 8 0x07 0xFF (toBE 7 (hd / 256 % 2 ^ 56)) ≠ hd % 256 := by decide +kernel

theorem witness_cellReceived_3 :
    let g : Fin 2 := 0
    let on : Nat := 1
    let hd : Nat := 0
    let pb : Bytes := []
    let fr : Nat := 0
    let dp : Nat := 0
    let rm : Nat := 0
    let wr : List Nat := []
    let h : Hw := passTime 0 (wUp.setFld (failedFld 0) 1)
    framing h g = true ∧ on &&& ((stuffRemoved h g rm wr).pmc 0x0F0).fld (failedFld g) ≠ 0 := by decide +kernel

theorem witness_statusReceived :
    let g : Fin 2 := 0
    let pc : Nat := 800
    let fl : Nat := 650
    let fg : Nat := 0
    let h : Hw := passTime 0 wUp
    framing h g = true ∧ hasBit fg 1 = false := by decide +kernel

theorem witness_statusReceived_2 :
    let g : Fin 2 := 0
    let pc : Nat := 800
    let fl : Nat := 650
    let fg : Nat := 2
    let h : Hw := passTime 0 wUp
    framing h g = true ∧ hasBit fg 1 = true := by decide +kernel

theorem witness_statusPeriod :
    let g : Fin 2 := 0
    let h : Hw := passTime 0 wUp
    4 ≤ h.stage g := by decide +kernel

theorem witness_coreLostReport :
    let h : Hw := passTime 0 (wUp.setFld (PWR_DOM_state 14) 0)
    ([0, 1].filter fun g => framing h g && lossFlags h g &&& 1 == 1 && (h.grp g).flags &&& 1 != 1) ≠ [] := by decide +kernel

theorem witness_timeTransferRequestRx :
    let n : Fin 8 := 2
    let a : Nat := 9
    let q : Nat := 5
    let fr : Nat := 0
    let dp : Nat := 640
    let h : Hw := passTime 0 (wUp.setFld (LFM_STATUS_am_lock 0) 15)
    framing h (laneGroup n) = true ∧ hasBit (h.fld (LFM_STATUS_am_lock (laneGroup n))) ((n : Nat) % 4) = true := by decide +kernel

theorem witness_remapPointReached :
    let g : Fin 2 := 0
    let r : Remap := ⟨1, 7, 0, 0, 1, 0⟩
    let h : Hw := passTime 0 (wUp.updGrp 0 fun x => { x with txRemap := some ⟨1, 7, 0, 0, 1, 0⟩ })
    (h.grp g).txRemap = some r ∧ framing h g = true ∧ pointCome (h.grp g).txFc (nowQ h g) r = true := by decide +kernel

theorem witness_remapPointReached_2 :
    let g : Fin 2 := 0
    let r : Remap := ⟨1, 7, 0, 0, 1, 0⟩
    let h : Hw := passTime 0 (wUp.updGrp 0 fun x => { x with rxRemap := some ⟨1, 7, 0, 0, 1, 0⟩ })
    (h.grp g).rxRemap = some r ∧ pointCome (h.num64 (LFM_FRAMES g)) (rxQ h g) r = true := by decide +kernel

theorem witness_lnkConfig :
  taken opLnkConfig (rqOf 1 [1, 3, 9]) (passTime 0 wHw) = true ∧ (
    let b : Hw := entered opLnkConfig (rqOf 1 [1, 3, 9]) (passTime 0 wHw)
    let c : Call := callOf opLnkConfig (rqOf 1 [1, 3, 9]) (passTime 0 wHw)
    True) := by decide +kernel

theorem witness_lnkWakeConfig :
  taken opLnkWakeConfig (rqOf 1 [0, 0, 0, 7]) (passTime 0 wHw) = true ∧ (
    let b : Hw := entered opLnkWakeConfig (rqOf 1 [0, 0, 0, 7]) (passTime 0 wHw)
    let c : Call := callOf opLnkWakeConfig (rqOf 1 [0, 0, 0, 7]) (passTime 0 wHw)
    True) := by decide +kernel

theorem witness_lnkUp :
  taken opLnkUp (rqOf 1 [1]) (passTime 0 wHw) = true ∧ (
    let b : Hw := entered opLnkUp (rqOf 1 [1]) (passTime 0 wHw)
    let c : Call := callOf opLnkUp (rqOf 1 [1]) (passTime 0 wHw)
    b.fenced (12 + u8 c.p 0) = false) := by decide +kernel

theorem witness_lnkDown :
  taken opLnkDown (rqOf 1 [0]) (passTime 0 wUp) = true ∧ (
    let b : Hw := entered opLnkDown (rqOf 1 [0]) (passTime 0 wUp)
    let c : Call := callOf opLnkDown (rqOf 1 [0]) (passTime 0 wUp)
    True) := by decide +kernel

theorem witness_lnkRestart :
  taken opLnkRestart (rqOf 1 [0]) (passTime 0 wUp) = true ∧ (
    let b : Hw := entered opLnkRestart (rqOf 1 [0]) (passTime 0 wUp)
    let c : Call := callOf opLnkRestart (rqOf 1 [0]) (passTime 0 wUp)
    b.stage (u8 c.p 0) ≠ 0) := by decide +kernel

theorem witness_lnkStatusRead :
  taken opLnkStatusRead (rqOf 0 [0]) (passTime 0 wHw) = true ∧ (
    let b : Hw := entered opLnkStatusRead (rqOf 0 [0]) (passTime 0 wHw)
    let c : Call := callOf opLnkStatusRead (rqOf 0 [0]) (passTime 0 wHw)
    True) := by decide +kernel

theorem witness_lnkLaneRejoin :
  taken opLnkLaneRejoin (rqOf 1 [0, 8]) (passTime 0 (wUp.setFld (LFM_STATUS_tx_mask 0) 7)) = true ∧ (
    let b : Hw := entered opLnkLaneRejoin (rqOf 1 [0, 8]) (passTime 0 (wUp.setFld (LFM_STATUS_tx_mask 0) 7))
    let c : Call := callOf opLnkLaneRejoin (rqOf 1 [0, 8]) (passTime 0 (wUp.setFld (LFM_STATUS_tx_mask 0) 7))
    b.stage (u8 c.p 0) = 5 ∧ b.txMask (u8 c.p 0) &&& u8 c.p 1 = 0) := by decide +kernel

theorem witness_sproutBurstStart :
    let g : Fin 2 := 0
    let h : Hw := passTime 0 ((wHw.setFld (LNK_STATUS_stage 0) 1))
    inP1 h g = true ∧ (h.grp g).seenAt = none ∧ (h.grp g).burstAt ≤ h.dtime := by decide +kernel

theorem witness_sproutBurstEnd :
    let g : Fin 2 := 1
    let h : Hw := passTime 0 wHw
    (h.grp g).burstAt ≤ h.dtime + 1990000000 := by decide +kernel

theorem witness_sproutFrameReceived :
    let n : Fin 8 := 2
    let cl : Bool := false
    let bits : Nat := 0
    let h : Hw := passTime 0 ((wHw.setFld (LNK_STATUS_stage 0) 1))
    h.stage (laneGroup n) ≠ 0 ∧ h.ready (12 + laneGroup n) = true ∧ h.fld (LFM_CFG_mode_pref (laneGroup n)) ≠ 2 ∧ sproutValid cl bits = false := by decide +kernel

theorem witness_sproutFrameReceived_2 :
    let n : Fin 8 := 2
    let cl : Bool := true
    let bits : Nat := 309485010473804064740084022
    let h : Hw := passTime 0 ((wHw.setFld (LNK_STATUS_stage 0) 1))
    h.stage (laneGroup n) = 1 ∧ h.ready (12 + laneGroup n) = true ∧ h.fld (LFM_CFG_mode_pref (laneGroup n)) ≠ 2 ∧ sproutValid cl bits = true ∧ bits / 2 ^ 48 % 4 = (n : Nat) % 4 ∧ (h.grp (laneGroup n)).relock = false ∧ (h.grp (laneGroup n)).noMode = false := by decide +kernel

theorem witness_sproutFrameReceived_3 :
    let n : Fin 8 := 2
    let cl : Bool := true
    let bits : Nat := 309485010473804064740084022
    let h : Hw := passTime 0 (wUp.updGrp 0 fun x => { x with sprout := [(2, (9, 1, 1))] })
    2 ≤ h.stage (laneGroup n) ∧ h.ready (12 + laneGroup n) = true ∧ h.fld (LFM_CFG_mode_pref (laneGroup n)) ≠ 2 ∧ sproutValid cl bits = true ∧ 1 ≤ (Map.get (0, 0, 0) (h.grp (laneGroup n)).sprout ((n : Nat) % 4)).2.2 := by decide +kernel

theorem witness_backoffEnd :
    let g : Fin 2 := 0
    let h : Hw := passTime 0 ((wHw.setFld (LNK_STATUS_stage 0) 1).setFld (LNK_STATUS_backoff 0) 1)
    h.flag (LNK_STATUS_backoff g) = true ∧ (h.grp g).backoffEnd ≤ h.dtime := by decide +kernel

theorem witness_failureCountReset :
    let g : Fin 2 := 0
    let h : Hw := passTime 0 ({ wUp with dtime := 10000000000 })
    h.stage g = 5 ∧ (h.grp g).p5At + 10000000000 ≤ h.dtime := by decide +kernel

theorem witness_p2Start :
    let g : Fin 2 := 0
    let h : Hw := passTime 0 (((((wHw.setFld (LNK_STATUS_stage 0) 1).setFld (LTX_STATUS_pll_lock 0) 1).setFld (LTX_STATUS_pll_lock 1) 1).setFld (LTX_STATUS_pll_lock 2) 1).setFld (LTX_STATUS_pll_lock 3) 1 |>.updGrp 0 fun x => { x with relock := true })
    (h.grp g).relock = true ∧ h.stage g = 1 ∧ (groupLanes g).all (fun n => h.flag (LTX_STATUS_pll_lock n)) = true := by decide +kernel

theorem witness_trainingFrameReceived :
    let n : Fin 8 := 1
    let wr : Nat := 0
    let w : Nat := 57657
    let h : Hw := passTime 0 (((wHw.setFld (LNK_STATUS_stage 0) 2).setFld (LNK_STATUS_mode 0) 0))
    h.ready n = true ∧ h.stage (laneGroup n) = 2 ∧ hasBit (h.fld (LNK_STATUS_excluded (laneGroup n))) ((n : Nat) % 4) = false ∧ w % 65536 = crcMsb 16 0x1021 0xFFFF (toBE 10 (w / 65536)) ∧ hasBit w 56 = false ∧ w / 2 ^ 20 % 65536 = h.num (LNK_PEER (laneGroup n)) % 65536 := by decide +kernel

theorem witness_trainingFrameReceived_2 :
    let n : Fin 8 := 1
    let wr : Nat := 0
    let w : Nat := 0
    let h : Hw := passTime 0 (((wHw.setFld (LNK_STATUS_stage 0) 2).setFld (LNK_STATUS_mode 0) 0))
    h.ready n = true ∧ h.stage (laneGroup n) = 2 ∧ hasBit (h.fld (LNK_STATUS_excluded (laneGroup n))) ((n : Nat) % 4) = false ∧ w % 65536 ≠ crcMsb 16 0x1021 0xFFFF (toBE 10 (w / 65536)) := by decide +kernel

theorem witness_p2TimeLimit :
    let g : Fin 2 := 0
    let h : Hw := passTime 0 ({ ((wHw.setFld (LNK_STATUS_stage 0) 2).setFld (LNK_STATUS_mode 0) 0) with dtime := 300000000 })
    h.stage g = 2 ∧ (h.grp g).stageAt + 300000000 ≤ h.dtime ∧ (List.range 4).any (fun p => (h.train g p).exitSeen) = false := by decide +kernel

theorem witness_p2TimeLimit_2 :
    let g : Fin 2 := 0
    let h : Hw := passTime 0 ({ (((wHw.setFld (LNK_STATUS_stage 0) 2).setFld (LNK_STATUS_mode 0) 0).updGrp 0 fun x => { x with train := [(0, { exitSeen := true })] }) with dtime := 300000000 })
    h.stage g = 2 ∧ (h.grp g).stageAt + 300000000 ≤ h.dtime ∧ (List.range 4).any (fun p => (h.train g p).exitSeen) = true := by decide +kernel

theorem witness_p3TimeLimit :
    let g : Fin 2 := 0
    let h : Hw := passTime 0 ({ (wHw.setFld (LNK_STATUS_stage 0) 3).setFld (LFM_STATUS_mode 0) 0 with dtime := 5000000 })
    h.stage g = 3 ∧ h.native g = true ∧ (h.grp g).stageAt + 5000000 ≤ h.dtime := by decide +kernel

theorem witness_p4TimeLimit :
    let g : Fin 2 := 0
    let h : Hw := passTime 0 ({ ((wHw.setFld (LNK_STATUS_stage 0) 4).setFld (LFM_STATUS_mode 0) 0).setFld (LFM_STATUS_rx_mask 0) 15 with dtime := 20000000 })
    h.stage g = 4 ∧ (h.grp g).stageAt + 20000000 ≤ h.dtime := by decide +kernel

theorem witness_groupSignalLossFailure :
    let g : Fin 2 := 0
    let h : Hw := passTime 0 (((wHw.setFld (LNK_STATUS_stage 0) 4).setFld (LFM_STATUS_mode 0) 0).setFld (LFM_STATUS_rx_mask 0) 15)
    2 ≤ h.stage g ∧ h.stage g ≤ 4 ∧ h.mode g < 2 ∧ (groupLanes g).all (fun n => h.flag (LRX_STATUS_los n)) = true := by decide +kernel

theorem witness_c2P3Timeout :
    let n : Fin 8 := 0
    let h : Hw := passTime 0 ({ ((wHw.setFld (LFM_STATUS_mode 0) 2).setFld (LNK_STATUS_stage 0) 3).setNum (LNK_LSTAGE 0) 3 with dtime := 305000000 })
    h.mode (laneGroup n) = 2 ∧ (h.lane n).p2At + 305000000 ≤ h.dtime ∧ c2Layout h (laneGroup n) = 0 ∧ h.num (LNK_LSTAGE (laneGroup n)) / 16 ^ ((n : Nat) % 4) % 8 = 3 := by decide +kernel

theorem witness_capsReceived :
    let g : Fin 2 := 0
    let tg : Nat := 9
    let v : Nat := 1
    let m : Nat := 0
    let k : Nat := 15
    let fl : Nat := 800
    let pc : Nat := 900
    let ct : Nat := 5
    let ft : Nat := 3
    let h : Hw := passTime 0 (((wHw.setFld (LNK_STATUS_stage 0) 4).setFld (LFM_STATUS_mode 0) 0).setFld (LFM_STATUS_rx_mask 0) 15)
    framing h g = true ∧ h.stage g < 5 ∧ tg ≠ h.num (LNK_PEER g) := by decide +kernel

theorem witness_capsReceived_2 :
    let g : Fin 2 := 0
    let tg : Nat := 0
    let v : Nat := 1
    let m : Nat := 0
    let k : Nat := 15
    let fl : Nat := 800
    let pc : Nat := 900
    let ct : Nat := 5
    let ft : Nat := 3
    let h : Hw := passTime 0 (((wHw.setFld (LNK_STATUS_stage 0) 4).setFld (LFM_STATUS_mode 0) 0).setFld (LFM_STATUS_rx_mask 0) 15)
    framing h g = true ∧ h.stage g < 5 ∧ tg = h.num (LNK_PEER g) ∧ v = 1 ∧ m = h.mode g ∧ k = h.rxMask g := by decide +kernel

theorem witness_capsAckReceived :
    let g : Fin 2 := 0
    let r : Nat := 3
    let h : Hw := passTime 0 (((wHw.setFld (LNK_STATUS_stage 0) 4).setFld (LFM_STATUS_mode 0) 0).setFld (LFM_STATUS_rx_mask 0) 15)
    h.stage g = 4 ∧ r ≠ 0 := by decide +kernel

theorem witness_capsAckReceived_2 :
    let g : Fin 2 := 0
    let h : Hw := passTime 0 (((wHw.setFld (LNK_STATUS_stage 0) 4).setFld (LFM_STATUS_mode 0) 0).setFld (LFM_STATUS_rx_mask 0) 15)
    h.stage g = 4 := by decide +kernel

theorem witness_seedStartReceived :
    let g : Fin 2 := 0
    let f : Nat := 12
    let h : Hw := passTime 0 (((wHw.setFld (LNK_STATUS_stage 0) 4).setFld (LFM_STATUS_mode 0) 0).setFld (LFM_STATUS_rx_mask 0) 15)
    h.stage g = 4 := by decide +kernel

theorem witness_readyReceived :
    let g : Fin 2 := 0
    let h : Hw := passTime 0 (((wHw.setFld (LNK_STATUS_stage 0) 4).setFld (LFM_STATUS_mode 0) 0).setFld (LFM_STATUS_rx_mask 0) 15)
    h.stage g = 4 := by decide +kernel

theorem witness_p4MessageRepeat :
    let g : Fin 2 := 0
    let h : Hw := passTime 0 (((wHw.setFld (LNK_STATUS_stage 0) 4).setFld (LFM_STATUS_mode 0) 0).setFld (LFM_STATUS_rx_mask 0) 15)
    h.stage g = 4 := by decide +kernel

theorem witness_abortReceived :
    let g : Fin 2 := 0
    let h : Hw := passTime 0 (((wHw.setFld (LNK_STATUS_stage 0) 4).setFld (LFM_STATUS_mode 0) 0).setFld (LFM_STATUS_rx_mask 0) 15)
    framing h g = true ∧ h.stage g ≠ 5 := by decide +kernel

theorem witness_sproutWake :
    let n : Fin 8 := 4
    let tg : Nat := 7
    let h : Hw := passTime 0 (wHw.setFld (PWR_DOM_state 13) 0)
    armedFor h (laneGroup n) = true ∧ (h.num LNK_WAKE_CFG = 0 ∨ h.num LNK_WAKE_CFG = tg) := by decide +kernel

theorem witness_lightWake :
    let n : Fin 8 := 0
    let mv : Nat := 200
    let h : Hw := passTime 0 ((wHw.setFld (PWR_DOM_state 12) 0).setFld (LNK_CFG_wake_light 0) 1)
    armedFor h (laneGroup n) = true ∧ h.flag (LNK_CFG_wake_light (laneGroup n)) = true ∧ h.fld (LRX_CFG_los_thr n) < mv := by decide +kernel

theorem witness_laneTrainReceived :
    let g : Fin 2 := 0
    let q : Fin 4 := 1
    let fr : Nat := 0
    let h : Hw := passTime 0 wUp
    h.stage g = 5 ∧ h.native g = true ∧ h.ready (4 * g + q) = true ∧ h.fenced (4 * g + q) = false ∧ hasBit (h.grp g).crossed q = false ∧ (Map.get none (h.grp g).retrain q).all (fun (r : Retrain) => r.phase == 1) = true := by decide +kernel

theorem witness_laneTrainReceived_2 :
    let g : Fin 2 := 0
    let q : Fin 4 := 1
    let fr : Nat := 0
    let r : Retrain := { phase := 1, t0 := 0 }
    let h : Hw := passTime 0 (wUp.updGrp 0 fun x => { x with retrain := [(1, some ({ phase := 1, t0 := 0 } : Retrain))] })
    h.stage g = 5 ∧ h.native g = true ∧ Map.get none (h.grp g).retrain q = some r ∧ r.phase = 1 := by decide +kernel

theorem witness_laneTrainReceived_3 :
    let g : Fin 2 := 0
    let q : Fin 4 := 1
    let fr : Nat := 0
    let h : Hw := passTime 0 (wUp.updGrp 0 fun x => { x with retrain := [(1, some ({ phase := 1, t0 := 0 } : Retrain))] })
    h.stage g = 5 ∧ h.native g = true ∧ (Map.get none (h.grp g).retrain q).isSome = true := by decide +kernel

theorem witness_laneTrainReceived_4 :
    let g : Fin 2 := 0
    let q : Fin 4 := 1
    let fr : Nat := 0
    let r : Retrain := { phase := 1, t0 := 0 }
    let h : Hw := passTime 0 (wUp.updGrp 0 fun x => { x with retrain := [(1, some ({ phase := 1, t0 := 0 } : Retrain))] })
    h.stage g = 5 ∧ h.native g = true ∧ Map.get none (h.grp g).retrain q = some r := by decide +kernel

theorem witness_laneTrainReceived_5 :
    let g : Fin 2 := 0
    let q : Fin 4 := 1
    let fr : Nat := 12
    let r : Retrain := { phase := 1, t0 := 0 }
    let h : Hw := passTime 0 (wUp.updGrp 0 fun x => { x with retrain := [(1, some ({ phase := 1, t0 := 0 } : Retrain))] })
    h.stage g = 5 ∧ h.native g = true ∧ Map.get none (h.grp g).retrain q = some r := by decide +kernel

theorem witness_autoRejoinTimer :
    let n : Fin 8 := 3
    let h : Hw := passTime 0 ({ (wUp.setFld (LFM_STATUS_tx_mask 0) 7).setFld (LNK_CFG_auto_rejoin 0) 1 with dtime := 1000000000 })
    h.stage (laneGroup n) = 5 ∧ h.native (laneGroup n) = true ∧ hasBit (h.txMask (laneGroup n)) ((n : Nat) % 4) = false ∧ h.flag (LNK_CFG_auto_rejoin (laneGroup n)) = true ∧ Map.get 0 (h.grp (laneGroup n)).leftAt ((n : Nat) % 4) + 1000000000 ≤ h.dtime ∧ (h.flag (LRX_STATUS_cdr_lock n) = false ∨ hasBit (h.fld (LFM_STATUS_am_lock (laneGroup n))) ((n : Nat) % 4) = false ∨ (h.grp (laneGroup n)).health.head?.any (fun (x : Nat × Nat) => !hasBit x.1 ((n : Nat) % 4)) = true) ∧ hasBit (h.grp (laneGroup n)).crossed ((n : Nat) % 4) = false ∧ Map.get none (h.grp (laneGroup n)).retrain ((n : Nat) % 4) = none ∧ (Map.get [] (h.grp (laneGroup n)).rtFails ((n : Nat) % 4)).length < 3 ∧ h.ready n = true := by decide +kernel

theorem witness_laneRetrainTimeout :
    let n : Fin 8 := 1
    let r : Retrain := { phase := 1, t0 := 0 }
    let h : Hw := passTime 0 ({ (wUp.updGrp 0 fun x => { x with retrain := [(1, some ({ phase := 1, t0 := 0 } : Retrain))] }) with dtime := 310000000 })
    Map.get none (h.grp (laneGroup n)).retrain ((n : Nat) % 4) = some r ∧ r.t0 + 310000000 ≤ h.dtime := by decide +kernel

theorem witness_c2P1Check :
    let n : Fin 8 := 0
    let h : Hw := passTime 0 (((wHw.setFld (LNK_STATUS_stage 0) 1).setFld (LFM_CFG_mode_pref 0) 2).setFld (LFM_CFG_c2_layout 0) 1)
    h.stage (laneGroup n) ≠ 0 ∧ h.fld (LFM_CFG_mode_pref (laneGroup n)) = 2 ∧ 2 ≤ h.mode (laneGroup n) ∧ c2Layout h (laneGroup n) = 1 ∧ (h.fld (LFM_CFG_mode_pref (other (laneGroup n))) ≠ 2 ∨ c2Layout h (other (laneGroup n)) ≠ 1) := by decide +kernel

theorem witness_c2P1Check_2 :
    let n : Fin 8 := 0
    let h : Hw := passTime 0 ({ ((((wHw.setFld (LNK_STATUS_stage 0) 1).setFld (LFM_CFG_mode_pref 0) 2).setFld (LTX_STATUS_pll_lock 0) 1).setFld (FES_STATE_state 0) 4).setFld (LRX_STATUS_los 0) 0 with dtime := 10000000 })
    h.stage (laneGroup n) ≠ 0 ∧ h.fld (LFM_CFG_mode_pref (laneGroup n)) = 2 ∧ 2 ≤ h.mode (laneGroup n) ∧ c2Layout h (laneGroup n) = 0 ∧ h.num (LNK_LSTAGE (laneGroup n)) / 16 ^ ((n : Nat) % 4) % 8 < 3 ∧ Map.get 0 (h.grp (laneGroup n)).lback ((n : Nat) % 4) ≤ h.dtime ∧ c2LaneReady h n = true := by decide +kernel

theorem witness_c2P1Check_3 :
    let n : Fin 8 := 0
    let h : Hw := passTime 0 wC2b
    h.stage 0 = 1 ∧ h.stage 1 = 1 ∧ h.fld (LFM_CFG_mode_pref 0) = 2 ∧ h.fld (LFM_CFG_mode_pref 1) = 2 ∧ 2 ≤ h.mode (laneGroup n) ∧ c2Layout h 0 = 1 ∧ c2Layout h 1 = 1 ∧ Map.get 0 (h.grp 0).lback 0 ≤ h.dtime ∧ (List.range 8).all (fun n => c2LaneReady h n) = true := by decide +kernel

theorem witness_hslEqSet :
  taken opHslEqSet (rqOf 1 [0, 5, 3, 4, 2]) (passTime 0 wHw) = true ∧ (
    let b : Hw := entered opHslEqSet (rqOf 1 [0, 5, 3, 4, 2]) (passTime 0 wHw)
    let c : Call := callOf opHslEqSet (rqOf 1 [0, 5, 3, 4, 2]) (passTime 0 wHw)
    True) := by decide +kernel

theorem witness_hslStatusRead :
  taken opHslStatusRead (rqOf 0 [0, 1]) (passTime 0 wHw) = true ∧ (
    let b : Hw := entered opHslStatusRead (rqOf 0 [0, 1]) (passTime 0 wHw)
    let c : Call := callOf opHslStatusRead (rqOf 0 [0, 1]) (passTime 0 wHw)
    True) := by decide +kernel

theorem witness_hslConfig :
  taken opHslConfig (rqOf 1 [1]) (passTime 0 wHw) = true ∧ (
    let b : Hw := entered opHslConfig (rqOf 1 [1]) (passTime 0 wHw)
    let c : Call := callOf opHslConfig (rqOf 1 [1]) (passTime 0 wHw)
    True) := by decide +kernel

theorem witness_hpcPtpConfig :
  taken opHpcPtpConfig (rqOf 1 [255]) (passTime 0 wHw) = true ∧ (
    let b : Hw := entered opHpcPtpConfig (rqOf 1 [255]) (passTime 0 wHw)
    let c : Call := callOf opHpcPtpConfig (rqOf 1 [255]) (passTime 0 wHw)
    True) := by decide +kernel

theorem witness_hpcPortRead :
  taken opHpcPortRead (rqOf 0 [7]) (passTime 0 wHw) = true ∧ (
    let b : Hw := entered opHpcPortRead (rqOf 0 [7]) (passTime 0 wHw)
    let c : Call := callOf opHpcPortRead (rqOf 0 [7]) (passTime 0 wHw)
    True) := by decide +kernel

theorem witness_hpcCountRead :
  taken opHpcCountRead (rqOf 0 [3, 1]) (passTime 0 wHw) = true ∧ (
    let b : Hw := entered opHpcCountRead (rqOf 0 [3, 1]) (passTime 0 wHw)
    let c : Call := callOf opHpcCountRead (rqOf 0 [3, 1]) (passTime 0 wHw)
    True) := by decide +kernel

theorem witness_hpcPortSet :
  taken opHpcPortSet (rqOf 1 [2, 1, 1, 4, 0, 0]) (passTime 0 wPort) = true ∧ (
    let b : Hw := entered opHpcPortSet (rqOf 1 [2, 1, 1, 4, 0, 0]) (passTime 0 wPort)
    let c : Call := callOf opHpcPortSet (rqOf 1 [2, 1, 1, 4, 0, 0]) (passTime 0 wPort)
    ((b.mapEntry (u8 c.p 0)).enable && { entryOf c.p with enable := true } != b.mapEntry (u8 c.p 0)) = false ∧ firstLaneOk (entryOf c.p) = true ∧ ((entryOf c.p).enable && (List.range 8).any fun j => j != u8 c.p 0 && (b.mapEntry j).enable && sharesLane (entryOf c.p) (b.mapEntry j)) = false ∧ mapFits b (mapWith b (u8 c.p 0) (entryOf c.p)) 0 = true ∧ mapFits b (mapWith b (u8 c.p 0) (entryOf c.p)) 1 = true) := by decide +kernel

theorem witness_hrxLossOfSignal :
    let l : Fin 16 := 15
    let mv : Nat := 49
    let h : Hw := passTime 0 (wHw.setFld (hrxLos 15) 0)
    h.ready (8 + l / 4) = true ∧ h.flag (hrxLos l) = false ∧ mv < 50 := by decide +kernel

theorem witness_hrxSignalRestored :
    let l : Fin 16 := 0
    let mv : Nat := 76
    let h : Hw := passTime 0 (wHw.setFld (hrxLos 0) 1)
    h.ready (8 + l / 4) = true ∧ h.flag (hrxLos l) = true ∧ 75 < mv := by decide +kernel

theorem witness_hrxLockLost :
    let l : Fin 16 := 0
    let h : Hw := passTime 0 wPort
    h.flag (hrxLock l) = true := by decide +kernel

theorem witness_hrxLockRegained :
    let l : Fin 16 := 9
    let h : Hw := passTime 0 wHw
    h.ready (8 + l / 4) = true ∧ h.flag (hrxLock l) = false ∧ h.refOk 0 = true := by decide +kernel

theorem witness_hostPllLock :
    let q : Fin 4 := 2
    let h : Hw := passTime 0 wHw
    h.ready (8 + q) = true ∧ h.refOk 0 = true ∧ h.flag (htxPll (4 * q)) = false := by decide +kernel

theorem witness_hostQuadRestore :
    let t : Nat := 5
    let h : Hw := passTime 0 ({ (((wHw.setFld (htxPll 0) 1).setFld (htxPll 4) 1).setFld (htxPll 8) 1).setFld (htxPll 12) 1 with host := { wHw.host with hrefAt := some 5 }, pwr := { wHw.pwr with refOkSince := [(0, 1)] }, dtime := 10000000 })
    h.host.hrefAt = some t ∧ h.refOk 0 = true ∧ sumN (((List.range 4).filter fun q => quadHeld h q && !quadLeaves h q).map fun q => 2 ^ q) = 0 := by decide +kernel

theorem witness_hostQuadRestore_2 :
    let t : Nat := 5
    let h : Hw := passTime 0 ({ wHw with host := { wHw.host with hrefAt := some 5, held := 3 } })
    h.host.hrefAt = some t ∧ sumN (((List.range 4).filter fun q => quadHeld h q && !quadLeaves h q).map fun q => 2 ^ q) ≠ 0 := by decide +kernel

theorem witness_hrx0Wake :
    let mv : Nat := 80
    let h : Hw := passTime 0 ((wHw.setFld HSL_CFG_wake_hrx0 1).setFld (PWR_DOM_state 8) 0)
    h.domState 8 = 0 ∧ h.flag HSL_CFG_wake_hrx0 = true ∧ 75 < mv := by decide +kernel

theorem witness_portAligned :
    let p : Fin 8 := 0
    let h : Hw := passTime 0 (wPort.setFld (HPC_PORT_STATUS_aligned 0) 0)
    portEnabled h p = true ∧ h.flag (HPC_PORT_STATUS_aligned p) = false ∧ h.refOk 0 = true ∧ (portLanes h p).all (fun l => h.ready (8 + l / 4) && h.flag (hrxLock l)) = true := by decide +kernel

theorem witness_portAlignmentLost :
    let p : Fin 8 := 0
    let h : Hw := passTime 0 wPort
    h.flag (HPC_PORT_STATUS_aligned p) = true := by decide +kernel

theorem witness_hostFrameReceived :
    let p : Fin 8 := 0
    let fr : Nat := 0
    let cr : Nat := 0
    let un : Nat := 0
    let rs : Nat := 0
    let f : Bytes := zeros 64
    let h : Hw := passTime 0 wPort
    portEnabled h p = true ∧ (portLanes h p).all (fun l => h.ready (8 + l / 4)) = true ∧ (countFec h p cr un).flag (HPC_PORT_STATUS_aligned p) = true ∧ portHeld (countFec h p cr un) p = false ∧ (keepFrame (countFec h p cr un) p f).1 = false := by decide +kernel

theorem witness_hostFrameReceived_2 :
    let p : Fin 8 := 0
    let fr : Nat := 0
    let cr : Nat := 0
    let un : Nat := 0
    let rs : Nat := 0
    let f : Bytes := frameFor
    let h : Hw := passTime 0 wPortMac
    portEnabled h p = true ∧ (portLanes h p).all (fun l => h.ready (8 + l / 4)) = true ∧ (countFec h p cr un).flag (HPC_PORT_STATUS_aligned p) = true ∧ portHeld (countFec h p cr un) p = false ∧ (keepFrame (countFec h p cr un) p f).1 = true ∧ frameDst f = (keepFrame (countFec h p cr un) p f).2.mac ∧ frameType f = (keepFrame (countFec h p cr un) p f).2.fld CMD_CFG_inband_etype := by decide +kernel

theorem witness_hostFrameReceived_3 :
    let p : Fin 8 := 0
    let fr : Nat := 0
    let cr : Nat := 0
    let un : Nat := 0
    let rs : Nat := 0
    let f : Bytes := frameFor
    let h : Hw := passTime 0 ({ wPort with cmd := { wPort.cmd with mac := 5 } })
    portEnabled h p = true ∧ (portLanes h p).all (fun l => h.ready (8 + l / 4)) = true ∧ (countFec h p cr un).flag (HPC_PORT_STATUS_aligned p) = true ∧ portHeld (countFec h p cr un) p = false ∧ (keepFrame (countFec h p cr un) p f).1 = true ∧ ¬ (frameDst f = (keepFrame (countFec h p cr un) p f).2.mac ∧ frameType f = (keepFrame (countFec h p cr un) p f).2.fld CMD_CFG_inband_etype) := by decide +kernel

theorem witness_hostFrameSend :
    let p : Fin 8 := 0
    let fr : Nat := 63
    let f : TxFrame := { came := 0, timed := false, flow := 0, grp := 2, bytes := zeros 64 }
    let h : Hw := passTime 0 (updPort ((wPort.setFld (LNK_STATUS_stage 0) 5).setFld (LFM_STATUS_mode 0) 0) 0 fun x => { x with q := [{ came := 0, timed := false, flow := 0, grp := 2, bytes := zeros 64 }] })
    htxRuns h p = true ∧ (h.port p).free ≤ h.dtime * 64 + fr ∧ (((h.port p).q.find? fun (f : TxFrame) => f.timed).orElse fun _ => (h.port p).q.head?) = some f ∧ (releases h p).any (fun (r : Int) => decide (64 * r ≤ ((h.dtime * 64 + fr : Nat) : Int) + hostTime (h.fld (HPC_PORT_rate p)) f.bytes.length)) = false ∧ gapEnds h p f.came ≤ h.dtime * 64 + fr ∧ (h.ready 14 = true ∨ f.grp = 2) := by decide +kernel

theorem witness_flwInit :
  taken opFlwInit (rqOf 1 []) (passTime 0 wHw) = true ∧ (
    let b : Hw := entered opFlwInit (rqOf 1 []) (passTime 0 wHw)
    let c : Call := callOf opFlwInit (rqOf 1 []) (passTime 0 wHw)
    b.fld TDS_FLOWS_admitted = 0) := by decide +kernel

theorem witness_flwInsert :
  taken opFlwInsert (rqOf 1 ([2, 0, 0, 0] ++ [0, 0, 0, 0, 0, 9, 0, 5, 0, 0, 0, 7, 0x40, 0, 0, 100, 0, 0, 8, 0, 0, 0, 0, 0] ++ [0, 0, 0, 0, 0, 0, 0, 5, 0, 0, 0, 8, 0x40, 0, 0, 100, 0, 0, 8, 0, 4, 0, 0, 0])) (passTime 0 wTab) = true ∧ (
    let b : Hw := entered opFlwInsert (rqOf 1 ([2, 0, 0, 0] ++ [0, 0, 0, 0, 0, 9, 0, 5, 0, 0, 0, 7, 0x40, 0, 0, 100, 0, 0, 8, 0, 0, 0, 0, 0] ++ [0, 0, 0, 0, 0, 0, 0, 5, 0, 0, 0, 8, 0x40, 0, 0, 100, 0, 0, 8, 0, 4, 0, 0, 0])) (passTime 0 wTab)
    let c : Call := callOf opFlwInsert (rqOf 1 ([2, 0, 0, 0] ++ [0, 0, 0, 0, 0, 9, 0, 5, 0, 0, 0, 7, 0x40, 0, 0, 100, 0, 0, 8, 0, 0, 0, 0, 0] ++ [0, 0, 0, 0, 0, 0, 0, 5, 0, 0, 0, 8, 0x40, 0, 0, 100, 0, 0, 8, 0, 4, 0, 0, 0])) (passTime 0 wTab)
    tablesReady b = true ∧ ((List.range (u8 c.p 0)).foldlM (fun (x : Nat × Hw) j => (insertItem x.2 j (itemOf c.p 24 j)).toOption.map fun (r : Nat × Hw) => (max x.1 r.1, r.2)) (0, purgeCooling b)).isSome = true) := by decide +kernel

theorem witness_flwModify :
  taken opFlwModify (rqOf 1 ([1, 0, 0, 0] ++ [0, 0, 0, 0, 0, 0, 0, 5, 0, 0, 0, 7, 0x40, 0, 0, 100, 0, 0, 8, 0, 4, 0, 0, 0])) (passTime 0 ({ wTab with flw := { wTab.flw with ctxs := [(7, mkCtx 1 1 0 0 0 0 100 4)] } })) = true ∧ (
    let b : Hw := entered opFlwModify (rqOf 1 ([1, 0, 0, 0] ++ [0, 0, 0, 0, 0, 0, 0, 5, 0, 0, 0, 7, 0x40, 0, 0, 100, 0, 0, 8, 0, 4, 0, 0, 0])) (passTime 0 ({ wTab with flw := { wTab.flw with ctxs := [(7, mkCtx 1 1 0 0 0 0 100 4)] } }))
    let c : Call := callOf opFlwModify (rqOf 1 ([1, 0, 0, 0] ++ [0, 0, 0, 0, 0, 0, 0, 5, 0, 0, 0, 7, 0x40, 0, 0, 100, 0, 0, 8, 0, 4, 0, 0, 0])) (passTime 0 ({ wTab with flw := { wTab.flw with ctxs := [(7, mkCtx 1 1 0 0 0 0 100 4)] } }))
    tablesReady b = true ∧ ((List.range (u8 c.p 0)).foldlM (fun (x : Nat × Hw) j => (modifyItem x.2 j (itemOf c.p 24 j)).toOption.map fun (r : Nat × Hw) => (max x.1 r.1, r.2)) (0, b)).isSome = true) := by decide +kernel

theorem witness_flwDelete :
  taken opFlwDelete (rqOf 1 ([1, 1, 0, 0] ++ [0, 0, 0, 0, 0, 9, 0, 5, 0, 0, 0, 7])) (passTime 0 ({ wTab with flw := { wTab.flw with ctxs := [(7, mkCtx 1 1 0 0 0 0 100 4)] } })) = true ∧ (
    let b : Hw := entered opFlwDelete (rqOf 1 ([1, 1, 0, 0] ++ [0, 0, 0, 0, 0, 9, 0, 5, 0, 0, 0, 7])) (passTime 0 ({ wTab with flw := { wTab.flw with ctxs := [(7, mkCtx 1 1 0 0 0 0 100 4)] } }))
    let c : Call := callOf opFlwDelete (rqOf 1 ([1, 1, 0, 0] ++ [0, 0, 0, 0, 0, 9, 0, 5, 0, 0, 0, 7])) (passTime 0 ({ wTab with flw := { wTab.flw with ctxs := [(7, mkCtx 1 1 0 0 0 0 100 4)] } }))
    tablesReady b = true ∧ (purgeCooling b).flw.cooling.length + u8 c.p 0 ≤ 4096 ∧ ((List.range (u8 c.p 0)).foldlM (fun (t : Hw) j => (deleteItem t (hasBit (u8 c.p 1) 0) (itemOf c.p 12 j)).toOption.map fun (r : Nat × Option Nat) => freeCtx (r.2.elim t (removeKey t)) r.1) (purgeCooling b)).isSome = true) := by decide +kernel

theorem witness_flwLookup :
  taken opFlwLookup (rqOf 0 [0, 0, 0, 0, 0, 9, 0, 5]) (passTime 0 wTab) = true ∧ (
    let b : Hw := entered opFlwLookup (rqOf 0 [0, 0, 0, 0, 0, 9, 0, 5]) (passTime 0 wTab)
    let c : Call := callOf opFlwLookup (rqOf 0 [0, 0, 0, 0, 0, 9, 0, 5]) (passTime 0 wTab)
    tablesReady b = true ∧ findKey b (un c.p 0 6 * 4096 + u16 c.p 6) = none) := by decide +kernel

theorem witness_flwLookup_2 :
  taken opFlwLookup (rqOf 0 [0, 0, 0, 0, 0, 9, 0, 5]) (passTime 0 ({ wTab with flw := { wTab.flw with keys := [(slotCount, mkSlot 1 7 (9 * 4096 + 5))], stash := [slotCount] } })) = true ∧ (
    let k : Nat := slotCount
    let b : Hw := entered opFlwLookup (rqOf 0 [0, 0, 0, 0, 0, 9, 0, 5]) (passTime 0 ({ wTab with flw := { wTab.flw with keys := [(slotCount, mkSlot 1 7 (9 * 4096 + 5))], stash := [slotCount] } }))
    let c : Call := callOf opFlwLookup (rqOf 0 [0, 0, 0, 0, 0, 9, 0, 5]) (passTime 0 ({ wTab with flw := { wTab.flw with keys := [(slotCount, mkSlot 1 7 (9 * 4096 + 5))], stash := [slotCount] } }))
    tablesReady b = true ∧ findKey b (un c.p 0 6 * 4096 + u16 c.p 6) = some k) := by decide +kernel

theorem witness_flwRead :
  taken opFlwRead (rqOf 0 [0, 0x0F, 0xFF, 0xC0, 64]) (passTime 0 wTab) = true ∧ (
    let b : Hw := entered opFlwRead (rqOf 0 [0, 0x0F, 0xFF, 0xC0, 64]) (passTime 0 wTab)
    let c : Call := callOf opFlwRead (rqOf 0 [0, 0x0F, 0xFF, 0xC0, 64]) (passTime 0 wTab)
    tablesReady b = true ∧ u32 c.p 0 + u8 c.p 4 ≤ 2 ^ 20) := by decide +kernel

theorem witness_flwStatusRead :
  taken opFlwStatusRead (rqOf 0 [1]) (passTime 0 wHw) = true ∧ (
    let b : Hw := entered opFlwStatusRead (rqOf 0 [1]) (passTime 0 wHw)
    let c : Call := callOf opFlwStatusRead (rqOf 0 [1]) (passTime 0 wHw)
    True) := by decide +kernel

theorem witness_coolingExpiry :
    let h : Hw := passTime 0 ({ wTab with flw := { wTab.flw with cooling := [(7, 0), (8, 9)] }, dtime := 10000005 })
    h.cmd.running = [] := by decide +kernel

theorem witness_stashReplace :
    let h : Hw := passTime 0 ({ wHw with flw := { wHw.flw with freed := true, keys := [(slotCount, mkSlot 1 7 (9 * 4096 + 5))], stash := [slotCount] } })
    h.flw.freed = true ∧ h.ready 14 = true := by decide +kernel

theorem witness_tdsAdmit :
  taken opTdsAdmit (rqOf 1 [0, 1, 0, 0, 0, 0, 0, 7]) (passTime 0 wAdm) = true ∧ (
    let b : Hw := entered opTdsAdmit (rqOf 1 [0, 1, 0, 0, 0, 0, 0, 7]) (passTime 0 wAdm)
    let c : Call := callOf opTdsAdmit (rqOf 1 [0, 1, 0, 0, 0, 0, 0, 7]) (passTime 0 wAdm)
    tablesReady b = true ∧ ((List.range (u16 c.p 0)).foldlM (fun (t : Hw) j => (admitOne t (u32 c.p (4 + 4 * j))).toOption) b).isSome = true) := by decide +kernel

theorem witness_tdsWithdraw :
  taken opTdsWithdraw (rqOf 1 [0, 1, 0, 0, 0, 0, 0, 7]) (passTime 0 ({ wTab with flw := { wTab.flw with ctxs := [(7, mkCtx 2 1 0 0 0 0 100 4)] }, tds := { wTab.tds with adm := [(7, some ⟨1, 0, 100, 4, true⟩)] } })) = true ∧ (
    let b : Hw := entered opTdsWithdraw (rqOf 1 [0, 1, 0, 0, 0, 0, 0, 7]) (passTime 0 ({ wTab with flw := { wTab.flw with ctxs := [(7, mkCtx 2 1 0 0 0 0 100 4)] }, tds := { wTab.tds with adm := [(7, some ⟨1, 0, 100, 4, true⟩)] } }))
    let c : Call := callOf opTdsWithdraw (rqOf 1 [0, 1, 0, 0, 0, 0, 0, 7]) (passTime 0 ({ wTab with flw := { wTab.flw with ctxs := [(7, mkCtx 2 1 0 0 0 0 100 4)] }, tds := { wTab.tds with adm := [(7, some ⟨1, 0, 100, 4, true⟩)] } }))
    tablesReady b = true ∧ ((List.range (u16 c.p 0)).foldlM (fun (t : Hw) j => (withdrawOne t (u32 c.p (4 + 4 * j))).toOption) b).isSome = true) := by decide +kernel

theorem witness_tdsConfig :
  taken opTdsConfig (rqOf 1 [200, 3, 2, 0]) (passTime 0 wTab) = true ∧ (
    let b : Hw := entered opTdsConfig (rqOf 1 [200, 3, 2, 0]) (passTime 0 wTab)
    let c : Call := callOf opTdsConfig (rqOf 1 [200, 3, 2, 0]) (passTime 0 wTab)
    tablesReady b = true ∧ recheck b { b.terms with cap := u8 c.p 0, lanes := u8 c.p 1, tol := u8 c.p 2 } = none) := by decide +kernel

theorem witness_tdsDelaySet :
  taken opTdsDelaySet (rqOf 1 [0, 0, 0x27, 0x10]) (passTime 0 wTab) = true ∧ (
    let b : Hw := entered opTdsDelaySet (rqOf 1 [0, 0, 0x27, 0x10]) (passTime 0 wTab)
    let c : Call := callOf opTdsDelaySet (rqOf 1 [0, 0, 0x27, 0x10]) (passTime 0 wTab)
    tablesReady b = true ∧ skewNeed { b.terms with delay := u32 c.p 0 } (allSums b { b.terms with delay := u32 c.p 0 }) ≤ b.terms.skew ∧ delayLow b (u32 c.p 0) = false) := by decide +kernel

theorem witness_tdsBufConfig :
  taken opTdsBufConfig (rqOf 1 [0x10, 0, 0, 0]) (passTime 0 wTab) = true ∧ (
    let b : Hw := entered opTdsBufConfig (rqOf 1 [0x10, 0, 0, 0]) (passTime 0 wTab)
    let c : Call := callOf opTdsBufConfig (rqOf 1 [0x10, 0, 0, 0]) (passTime 0 wTab)
    tablesReady b = true ∧ recheck b { b.terms with skew := u16 c.p 0 } = none) := by decide +kernel

theorem witness_tdsStatusRead :
  taken opTdsStatusRead (rqOf 0 [1]) (passTime 0 wHw) = true ∧ (
    let b : Hw := entered opTdsStatusRead (rqOf 0 [1]) (passTime 0 wHw)
    let c : Call := callOf opTdsStatusRead (rqOf 0 [1]) (passTime 0 wHw)
    True) := by decide +kernel

theorem witness_delayReceived :
    let g : Fin 2 := 0
    let d : Nat := 4000
    let h : Hw := passTime 0 wUp
    framing h g = true := by decide +kernel

theorem witness_delayPeriod :
    let g : Fin 2 := 0
    let h : Hw := passTime 0 wUp
    h.stage g = 5 := by decide +kernel

theorem witness_slotIssue :
    let g : Fin 2 := 0
    let tk : Bool := true
    let x : TCell := TCell.mk 7 1 0 0 0 true 0 0 0 false none false []
    let h : Hw := passTime 0 (wUp.updGrp 0 fun x => { x with credit := wholeSlot, tq := [TCell.mk 7 1 0 0 0 true 0 0 0 false none false []] })
    usableGroup h g = true ∧ h.ready 14 = true ∧ wholeSlot ≤ (h.grp g).credit ∧ pickTimed ((h.grp g).revertAt != 0) (h.grp g).tq = some x ∧ (tk = true ∨ (h.grp g).txRemap = none) ∧ ¬ (x.cls = 2 ∧ x.latest < h.dtime * 64) := by decide +kernel

theorem witness_slotIssue_2 :
    let g : Fin 2 := 0
    let tk : Bool := true
    let x : TCell := TCell.mk 7 2 0 0 0 true 0 0 0 false none false []
    let h : Hw := passTime 0 ({ wUp.updGrp 0 fun x => { x with credit := wholeSlot, tq := [TCell.mk 7 2 0 0 0 true 0 0 0 false none false []] } with dtime := 100 })
    usableGroup h g = true ∧ h.ready 14 = true ∧ wholeSlot ≤ (h.grp g).credit ∧ pickTimed ((h.grp g).revertAt != 0) (h.grp g).tq = some x ∧ (tk = true ∨ (h.grp g).txRemap = none) ∧ x.cls = 2 ∧ x.latest < h.dtime * 64 := by decide +kernel

theorem witness_slotIssue_3 :
    let g : Fin 2 := 0
    let h : Hw := passTime 0 (wUp.updGrp 0 fun x => { x with credit := wholeSlot, be := [{ port := 0, bytes := frameFor }] })
    usableGroup h g = true ∧ h.ready 14 = true ∧ wholeSlot ≤ (h.grp g).credit ∧ pickTimed ((h.grp g).revertAt != 0) (h.grp g).tq = none ∧ (h.grp g).be ≠ [] := by decide +kernel

theorem witness_slotIssue_4 :
    let g : Fin 2 := 0
    let tk : Bool := true
    let h : Hw := passTime 0 (wUp.updGrp 0 fun x => { x with credit := wholeSlot })
    usableGroup h g = true ∧ h.ready 14 = true ∧ wholeSlot ≤ (h.grp g).credit ∧ pickTimed ((h.grp g).revertAt != 0) (h.grp g).tq = none ∧ (h.grp g).be = [] := by decide +kernel

theorem witness_classCRelease :
    let p : Fin 8 := 0
    let fr : Nat := 0
    let f : SkewFrame := SkewFrame.mk 0 7 0 0 [] (zeros 64)
    let h : Hw := passTime 0 ({ (wPort.setFld (LNK_STATUS_stage 0) 5).setFld (LFM_STATUS_mode 0) 0 with tds := { wHw.tds with store := [SkewFrame.mk 0 7 0 0 [] (zeros 64)] } })
    nextRelease h p = some f ∧ f.rel ≤ (h.dtime : Int) + 4 ∧ h.ready 14 = true ∧ htxRuns h p = true ∧ (h.port p).free ≤ h.dtime * 64 + fr := by decide +kernel

theorem witness_revertGapEnd :
    let g : Fin 2 := 0
    let h : Hw := passTime 0 ({ wUp.updGrp 0 fun x => { x with revertAt := 5 } with dtime := 2000 })
    (h.grp g).revertAt ≠ 0 ∧ ((h.grp (other g)).tq.any fun (x : TCell) => x.cls == 1 && prefers x.path g) = false ∧ (h.grp (other g)).txEndB + ((h.num (PWR_PATH_DLY (other g)) - h.num (PWR_PATH_DLY g)) / 64 + 2000) ≤ h.dtime := by decide +kernel

theorem witness_rxHistoryClear :
    let h : Hw := passTime 0 ({ wHw with flw := { wHw.flw with ctxs := [(7, mkCtx 1 1 0 0 0 0 100 4 + 2 ^ 20)] } })
    h.ready 14 = true := by decide +kernel

theorem witness_reassemblyTimeout :
    let i : Nat := 7
    let x : ACell := ACell.mk 0 true 5 0 0 0 (mkCtx 2 1 0 0 0 0 100 4) 0 []
    let h : Hw := passTime 0 ({ wHw with flw := { wHw.flw with ctxs := [(7, mkCtx 1 1 0 0 0 0 100 4)] }, tds := { wHw.tds with asm := [(7, { cells := [ACell.mk 0 true 5 0 0 0 (mkCtx 2 1 0 0 0 0 100 4) 0 []] })] }, dtime := 10000000 })
    h.ready 14 = true ∧ (h.asm i).cells = [x] ∧ cxClass x.cx = 1 ∧ x.time + (h.fld RDN_CFG_reasm_us * 1000 + (if cxPath x.cx = 4 then delayGap h else 0)) ≤ h.dtime := by decide +kernel

theorem witness_reassemblyTimeout_2 :
    let i : Nat := 7
    let x : ACell := ACell.mk 0 true 5 0 0 0 (mkCtx 2 2 0 0 0 0 100 4) 0 []
    let h : Hw := passTime 0 ({ wHw with flw := { wHw.flw with ctxs := [(7, mkCtx 1 2 0 0 0 0 100 4)] }, tds := { wHw.tds with asm := [(7, { cells := [ACell.mk 0 true 5 0 0 0 (mkCtx 2 2 0 0 0 0 100 4) 0 []] })] } })
    h.ready 14 = true ∧ (h.asm i).cells = [x] ∧ cxClass x.cx = 2 ∧ x.moment ≤ (h.dtime : Int) + 200 := by decide +kernel

theorem witness_rdnConfig :
  taken opRdnConfig (rqOf 1 [10, 50, 3, 1]) (passTime 0 wHw) = true ∧ (
    let b : Hw := entered opRdnConfig (rqOf 1 [10, 50, 3, 1]) (passTime 0 wHw)
    let c : Call := callOf opRdnConfig (rqOf 1 [10, 50, 3, 1]) (passTime 0 wHw)
    True) := by decide +kernel

theorem witness_rdnLaneSet :
  taken opRdnLaneSet (rqOf 1 [0, 8, 0]) (passTime 0 wUp) = true ∧ (
    let b : Hw := entered opRdnLaneSet (rqOf 1 [0, 8, 0]) (passTime 0 wUp)
    let c : Call := callOf opRdnLaneSet (rqOf 1 [0, 8, 0]) (passTime 0 wUp)
    b.stage (u8 c.p 0) = 5 ∧ (u8 c.p 1 = 0 ∨ b.fld (LNK_CFG_min_lanes (u8 c.p 0)) ≤ popCount 4 (b.txMask (u8 c.p 0)) - popCount 4 (b.txMask (u8 c.p 0) &&& u8 c.p 1)) ∧ ((bitsOf 4 (u8 c.p 2)).all fun p => (b.grp (u8 c.p 0)).health.head?.any (fun (x : Nat × Nat) => hasBit x.1 p) && (Map.get none (b.grp (u8 c.p 0)).retrain p).isNone) = true) := by decide +kernel

theorem witness_rdnRevert :
  taken opRdnRevert (rqOf 1 [0]) (passTime 0 ((wUp.setFlag (promFld 0) true).setFld (reroutedFld 0) 1)) = true ∧ (
    let b : Hw := entered opRdnRevert (rqOf 1 [0]) (passTime 0 ((wUp.setFlag (promFld 0) true).setFld (reroutedFld 0) 1))
    let c : Call := callOf opRdnRevert (rqOf 1 [0]) (passTime 0 ((wUp.setFlag (promFld 0) true).setFld (reroutedFld 0) 1))
    b.stage (u8 c.p 0) = 5 ∧ b.flag (promFld (u8 c.p 0)) = true) := by decide +kernel

theorem witness_rdnStatusRead :
  taken opRdnStatusRead (rqOf 0 [1]) (passTime 0 wHw) = true ∧ (
    let b : Hw := entered opRdnStatusRead (rqOf 0 [1]) (passTime 0 wHw)
    let c : Call := callOf opRdnStatusRead (rqOf 0 [1]) (passTime 0 wHw)
    True) := by decide +kernel

theorem witness_rdnFaultInject :
  taken opRdnFaultInject (rqOf 2 (signed ([0, 2, 0, 100]) 0x71b7610ba12d009fef709a9273bf6267dcec6301f55c6f08fb908e39fe01368a64750a7ee472baa9960c39cec39057e23fcb5890502263c408553ab455a2b6255cc9e3a4baf017f92c47a1690f16de2f177663b9212a373588dc11ef74a5abbb)) (passTime 0 (({ wUp with cmd := wKeys.cmd, nv := wKeys.nv } : Hw).setFld (LFM_STATUS_rx_mask 0) 3)) = true ∧ (
    let b : Hw := entered opRdnFaultInject (rqOf 2 (signed ([0, 2, 0, 100]) 0x71b7610ba12d009fef709a9273bf6267dcec6301f55c6f08fb908e39fe01368a64750a7ee472baa9960c39cec39057e23fcb5890502263c408553ab455a2b6255cc9e3a4baf017f92c47a1690f16de2f177663b9212a373588dc11ef74a5abbb)) (passTime 0 (({ wUp with cmd := wKeys.cmd, nv := wKeys.nv } : Hw).setFld (LFM_STATUS_rx_mask 0) 3))
    let c : Call := callOf opRdnFaultInject (rqOf 2 (signed ([0, 2, 0, 100]) 0x71b7610ba12d009fef709a9273bf6267dcec6301f55c6f08fb908e39fe01368a64750a7ee472baa9960c39cec39057e23fcb5890502263c408553ab455a2b6255cc9e3a4baf017f92c47a1690f16de2f177663b9212a373588dc11ef74a5abbb)) (passTime 0 (({ wUp with cmd := wKeys.cmd, nv := wKeys.nv } : Hw).setFld (LFM_STATUS_rx_mask 0) 3))
    b.stage (u8 c.p 0) = 5) := by decide +kernel

theorem witness_groupLoss :
    let g : Fin 2 := 0
    let k : Fin 3 := 1
    let h : Hw := passTime 0 (wUp.setFld (PWR_REF_accepted 1) 0)
    lossCause h g k = true ∧ h.stage g = 5 ∧ h.native g = true := by decide +kernel

theorem witness_revertHoldExpiry :
    let g : Fin 2 := 0
    let t : Nat := 0
    let h : Hw := passTime 0 ({ ((wUp.setFld (reroutedFld 0) 1).setFld RDN_CFG_revert_s 1).updGrp 0 fun x => { x with promSince := some 0 } with dtime := 1000000000 })
    (h.grp g).promSince = some t ∧ h.flag (reroutedFld g) = true ∧ h.fld RDN_CFG_revert_s ≠ 0 ∧ h.stage g = 5 ∧ t + h.fld RDN_CFG_revert_s * 1000000000 ≤ h.dtime := by decide +kernel

theorem witness_laneFailDeclare :
    let n : Fin 8 := 2
    let cs : Nat := 0
    let cw : Nat := 0
    let h : Hw := passTime 0 ((wUp.setFld (LRX_STATUS_los 2) 1).updGrp 0 fun x => { x with txRemap := some (Remap.mk 1 7 0 0 2 0) })
    h.stage (laneGroup n) = 5 ∧ h.native (laneGroup n) = true ∧ failCause h (laneGroup n) (n % 4) cs cw = true := by decide +kernel

theorem witness_faultInjectEnd :
    let n : Fin 8 := 5
    let h : Hw := passTime 0 ({ wHw with grps := [(1, { inject := [(1, 7)] })], dtime := 7 })
    Map.get 0 (h.grp (laneGroup n)).inject (n % 4) ≠ 0 ∧ Map.get 0 (h.grp (laneGroup n)).inject (n % 4) ≤ h.dtime := by decide +kernel

theorem witness_laneHealthReceived :
    let g : Fin 2 := 0
    let a : Nat := 15
    let f : Nat := 0
    let h : Hw := passTime 0 wUp
    h.stage g = 5 ∧ h.native g = true := by decide +kernel

theorem witness_laneHealthPeriod :
    let g : Fin 2 := 0
    let h : Hw := passTime 0 wUp
    h.stage g = 5 ∧ h.native g = true := by decide +kernel

theorem witness_remapReceived :
    let g : Fin 2 := 0
    let ge : Nat := 9
    let m : Nat := 7
    let fr : Nat := 100
    let q : Nat := 3
    let rs : Nat := 4
    let h : Hw := passTime 0 wUp
    h.stage g = 5 ∧ h.native g = true ∧ (decide (ge = (h.grp g).rxGen) || (h.grp g).rxRemap.any fun (r : Remap) => r.gen == ge) = false ∧ (frameAfter (h.num64 (LFM_FRAMES g)) fr && (h.num64 (LFM_FRAMES g) != fr || decide (q < rxQ h g))) = false ∧ rs ≠ 2 := by decide +kernel

theorem witness_remapReceived_2 :
    let g : Fin 2 := 0
    let ge : Nat := 9
    let m : Nat := 7
    let fr : Nat := 100
    let q : Nat := 3
    let rs : Nat := 2
    let h : Hw := passTime 0 wUp
    h.stage g = 5 ∧ h.native g = true ∧ (decide (ge = (h.grp g).rxGen) || (h.grp g).rxRemap.any fun (r : Remap) => r.gen == ge) = false ∧ rs = 2 := by decide +kernel

theorem witness_remapReceived_3 :
    let g : Fin 2 := 0
    let ge : Nat := 0
    let m : Nat := 7
    let fr : Nat := 100
    let q : Nat := 3
    let rs : Nat := 4
    let h : Hw := passTime 0 wUp
    h.stage g = 5 ∧ h.native g = true ∧ ((decide (ge = (h.grp g).rxGen) || (h.grp g).rxRemap.any fun (r : Remap) => r.gen == ge) = true ∨ (frameAfter (h.num64 (LFM_FRAMES g)) fr && (h.num64 (LFM_FRAMES g) != fr || decide (q < rxQ h g))) = true ∧ rs ≠ 2) := by decide +kernel

theorem witness_remapAckReceived :
    let g : Fin 2 := 0
    let ge : Nat := 3
    let h : Hw := passTime 0 (wUp.updGrp 0 fun x => { x with noAck := [Remap.mk 3 7 100 0 4 0] })
    True := by decide +kernel

theorem witness_remapAckTimeout :
    let g : Fin 2 := 0
    let h : Hw := passTime 0 ({ wUp.updGrp 0 fun x => { x with noAck := [Remap.mk 3 7 100 0 4 0] } with dtime := 100000 })
    True := by decide +kernel

theorem witness_fesConfig :
  taken opFesConfig (rqOf 1 [1, 4, 5, 255, 255, 255, 255, 20, 20, 0, 0xFF, 0xFF]) (passTime 0 wHw) = true ∧ (
    let b : Hw := entered opFesConfig (rqOf 1 [1, 4, 5, 255, 255, 255, 255, 20, 20, 0, 0xFF, 0xFF]) (passTime 0 wHw)
    let c : Call := callOf opFesConfig (rqOf 1 [1, 4, 5, 255, 255, 255, 255, 20, 20, 0, 0xFF, 0xFF]) (passTime 0 wHw)
    b.fstate (u8 c.p 0) = 0 ∧ b.flag (FES_STATE_moving (u8 c.p 0)) = false) := by decide +kernel

theorem witness_fesStateSet :
  taken opFesStateSet (rqOf 1 [0, 3, 0, 0, 0]) (passTime 0 wHw) = true ∧ (
    let b : Hw := entered opFesStateSet (rqOf 1 [0, 3, 0, 0, 0]) (passTime 0 wHw)
    let c : Call := callOf opFesStateSet (rqOf 1 [0, 3, 0, 0, 0]) (passTime 0 wHw)
    (u8 c.p 2 = 0 ∨ (bitsOf 12 (u16 c.p 0)).all (fun u => wired b u) = true) ∧ (u8 c.p 2 ≤ 1 ∨ (bitsOf 12 (u16 c.p 0)).all (fun u => tableOk b u) = true) ∧ (bitsOf 12 (u16 c.p 0)).all (fun u => reached (setTargets { b with pwr := { b.pwr with setSince := b.pwr.setSince ||| u16 c.p 0 } } (u16 c.p 0) (u8 c.p 2)) u) = true) := by decide +kernel

theorem witness_fesStateSet_2 :
  taken opFesStateSet (rqOf 1 [0, 1, 2, 0, 100]) (passTime 0 wLit) = true ∧ (
    let b : Hw := entered opFesStateSet (rqOf 1 [0, 1, 2, 0, 100]) (passTime 0 wLit)
    let c : Call := callOf opFesStateSet (rqOf 1 [0, 1, 2, 0, 100]) (passTime 0 wLit)
    (u8 c.p 2 = 0 ∨ (bitsOf 12 (u16 c.p 0)).all (fun u => wired b u) = true) ∧ (u8 c.p 2 ≤ 1 ∨ (bitsOf 12 (u16 c.p 0)).all (fun u => tableOk b u) = true) ∧ (bitsOf 12 (u16 c.p 0)).all (fun u => reached (setTargets { b with pwr := { b.pwr with setSince := b.pwr.setSince ||| u16 c.p 0 } } (u16 c.p 0) (u8 c.p 2)) u) = false) := by decide +kernel

theorem witness_fesStepSet :
  taken opFesStepSet (rqOf 1 [0x01, 0x01, 3]) (passTime 0 wLit) = true ∧ (
    let b : Hw := entered opFesStepSet (rqOf 1 [0x01, 0x01, 3]) (passTime 0 wLit)
    let c : Call := callOf opFesStepSet (rqOf 1 [0x01, 0x01, 3]) (passTime 0 wLit)
    (bitsOf 12 (u16 c.p 0)).all (fun u => tableOk b u) = true) := by decide +kernel

theorem witness_fesTurn :
  taken opFesTurn (rqOf 1 [0, 2]) (passTime 0 wTurn) = true ∧ (
    let b : Hw := entered opFesTurn (rqOf 1 [0, 2]) (passTime 0 wTurn)
    let c : Call := callOf opFesTurn (rqOf 1 [0, 2]) (passTime 0 wTurn)
    (bitsOf 8 (u16 c.p 0)).all (fun n => b.flag (FES_MAP2_protect n)) = true) := by decide +kernel

theorem witness_fesFaultClear :
  taken opFesFaultClear (rqOf 1 [0, 2]) (passTime 0 (wHw.setFld (FES_STATE_fault 1) 1)) = true ∧ (
    let b : Hw := entered opFesFaultClear (rqOf 1 [0, 2]) (passTime 0 (wHw.setFld (FES_STATE_fault 1) 1))
    let c : Call := callOf opFesFaultClear (rqOf 1 [0, 2]) (passTime 0 (wHw.setFld (FES_STATE_fault 1) 1))
    True) := by decide +kernel

theorem witness_fesStatusRead :
  taken opFesStatusRead (rqOf 0 [0x0F, 0xFF]) (passTime 0 wHw) = true ∧ (
    let b : Hw := entered opFesStatusRead (rqOf 0 [0x0F, 0xFF]) (passTime 0 wHw)
    let c : Call := callOf opFesStatusRead (rqOf 0 [0x0F, 0xFF]) (passTime 0 wHw)
    True) := by decide +kernel

theorem witness_fesTableLoad :
  taken opFesTableLoad (rqOf 1 [1, 0, 1, 0, 0, 10, 0, 20, 0, 0, 0, 1]) (passTime 0 wHw) = true ∧ (
    let b : Hw := entered opFesTableLoad (rqOf 1 [1, 0, 1, 0, 0, 10, 0, 20, 0, 0, 0, 1]) (passTime 0 wHw)
    let c : Call := callOf opFesTableLoad (rqOf 1 [1, 0, 1, 0, 0, 10, 0, 20, 0, 0, 0, 1]) (passTime 0 wHw)
    b.fstate (u8 c.p 0) ≤ 1 ∧ hasBit (u8 c.p 3) 0 = false) := by decide +kernel

theorem witness_fesTableLoad_2 :
  taken opFesTableLoad (rqOf 1 [1, 0, 1, 1, 0, 10, 0, 20, 0, 0, 0, 1]) (passTime 0 ({ wHw with mem := { wHw.mem with words := (List.range 32).map fun i => (FES_STEPTAB 1 0 / 2 + i, true) } })) = true ∧ (
    let b : Hw := entered opFesTableLoad (rqOf 1 [1, 0, 1, 1, 0, 10, 0, 20, 0, 0, 0, 1]) (passTime 0 ({ wHw with mem := { wHw.mem with words := (List.range 32).map fun i => (FES_STEPTAB 1 0 / 2 + i, true) } }))
    let c : Call := callOf opFesTableLoad (rqOf 1 [1, 0, 1, 1, 0, 10, 0, 20, 0, 0, 0, 1]) (passTime 0 ({ wHw with mem := { wHw.mem with words := (List.range 32).map fun i => (FES_STEPTAB 1 0 / 2 + i, true) } }))
    b.fstate (u8 c.p 0) ≤ 1 ∧ hasBit (u8 c.p 3) 0 = true ∧ coverFull (putWords b (FES_STEPTAB (u8 c.p 0) (2 * u8 c.p 1)) (tableVals c.p)) (7 + u8 c.p 0) = true ∧ tableFault (putWords b (FES_STEPTAB (u8 c.p 0) (2 * u8 c.p 1)) (tableVals c.p)) (u8 c.p 0) = none) := by decide +kernel

theorem witness_fesHookLoad :
  taken opFesHookLoad (rqOf 1 [1, 0, 1, 2, 2, 0, 0, 0xAA, 0xBB, 0, 0, 0, 0, 0, 0]) (passTime 0 wHw) = true ∧ (
    let b : Hw := entered opFesHookLoad (rqOf 1 [1, 0, 1, 2, 2, 0, 0, 0xAA, 0xBB, 0, 0, 0, 0, 0, 0]) (passTime 0 wHw)
    let c : Call := callOf opFesHookLoad (rqOf 1 [1, 0, 1, 2, 2, 0, 0, 0xAA, 0xBB, 0, 0, 0, 0, 0, 0]) (passTime 0 wHw)
    b.fstate (u8 c.p 0) = 0 ∧ b.flag (FES_STATE_moving (u8 c.p 0)) = false) := by decide +kernel

theorem witness_fesSpiXfer :
  taken opFesSpiXfer (rqOf 1 [3, 2, 0x12, 0x34]) (passTime 0 wHw) = true ∧ (
    let b : Hw := entered opFesSpiXfer (rqOf 1 [3, 2, 0x12, 0x34]) (passTime 0 wHw)
    let c : Call := callOf opFesSpiXfer (rqOf 1 [3, 2, 0x12, 0x34]) (passTime 0 wHw)
    b.fesq.jobs = []) := by decide +kernel

theorem witness_fesSpiXfer_2 :
  taken opFesSpiXfer (rqOf 1 [3, 2, 0x12, 0x34]) (passTime 0 ({ wHw with fesq := { wHw.fesq with jobs := [SpiJob.mk (some 1) 0 0 [HookFrame.mk 2 true [0x55] [0xAA]]] } })) = true ∧ (
    let j : SpiJob := SpiJob.mk (some 1) 0 0 [HookFrame.mk 2 true [0x55] [0xAA]]
    let rest : List SpiJob := []
    let b : Hw := entered opFesSpiXfer (rqOf 1 [3, 2, 0x12, 0x34]) (passTime 0 ({ wHw with fesq := { wHw.fesq with jobs := [SpiJob.mk (some 1) 0 0 [HookFrame.mk 2 true [0x55] [0xAA]]] } }))
    let c : Call := callOf opFesSpiXfer (rqOf 1 [3, 2, 0x12, 0x34]) (passTime 0 ({ wHw with fesq := { wHw.fesq with jobs := [SpiJob.mk (some 1) 0 0 [HookFrame.mk 2 true [0x55] [0xAA]]] } }))
    b.fesq.jobs = j :: rest) := by decide +kernel

theorem witness_hookFrameDone :
    let rd : Bytes := [0xAA]
    let n : Nat := 1
    let ix : Nat := 0
    let dn : Nat := 0
    let f : HookFrame := HookFrame.mk 2 true [0x55] [0xAA]
    let fs : List HookFrame := []
    let rest : List SpiJob := []
    let h : Hw := passTime 0 ({ wHw with fesq := { wHw.fesq with jobs := [SpiJob.mk (some 1) 0 0 [HookFrame.mk 2 true [0x55] [0xAA]]] } })
    h.ready 15 = true ∧ h.fesq.jobs = SpiJob.mk (some n) ix dn (f :: fs) :: rest ∧ (f.verify = false ∨ rd = f.want) ∧ fs = [] := by decide +kernel

theorem witness_hookFrameDone_2 :
    let rd : Bytes := [0xAA]
    let n : Nat := 1
    let ix : Nat := 0
    let dn : Nat := 0
    let f : HookFrame := HookFrame.mk 2 true [0x55] [0xAA]
    let fs : List HookFrame := [HookFrame.mk 2 true [0x55] [0xAA]]
    let rest : List SpiJob := []
    let h : Hw := passTime 0 ({ wHw with fesq := { wHw.fesq with jobs := [SpiJob.mk (some 1) 0 0 [HookFrame.mk 2 true [0x55] [0xAA], HookFrame.mk 2 true [0x55] [0xAA]]] } })
    h.ready 15 = true ∧ h.fesq.jobs = SpiJob.mk (some n) ix dn (f :: fs) :: rest ∧ (f.verify = false ∨ rd = f.want) ∧ fs ≠ [] := by decide +kernel

theorem witness_hookFrameDone_3 :
    let rd : Bytes := [0xAB]
    let n : Nat := 1
    let ix : Nat := 0
    let dn : Nat := 0
    let f : HookFrame := HookFrame.mk 2 true [0x55] [0xAA]
    let fs : List HookFrame := []
    let rest : List SpiJob := []
    let h : Hw := passTime 0 ({ wHw with fesq := { wHw.fesq with jobs := [SpiJob.mk (some 1) 0 0 [HookFrame.mk 2 true [0x55] [0xAA]]] } })
    h.ready 15 = true ∧ h.fesq.jobs = SpiJob.mk (some n) ix dn (f :: fs) :: rest ∧ f.verify = true ∧ rd ≠ f.want := by decide +kernel

theorem witness_fesMoveDone :
    let n : Fin 12 := 1
    let h : Hw := passTime 0 ({ (wHw.setFld (FES_STATE_state 1) 2).setFld (FES_STATE_moving 1) 1 with fes := [(1, { toward := 3 })] })
    h.ready 15 = true ∧ h.flag (FES_STATE_moving n) = true ∧ (h.fesu n).hooking = false ∧ (h.fesu n).turn = none ∧ ((h.fesu n).toward = 2 → h.fstate n = 1 → h.flag (FES_STATE_lock n) = true) ∧ ((h.fesu n).toward < 4 ∨ (h.flag (FES_STATE_lock n) = true ∧ h.flag (FES_STATE_temp_ok n) = true ∧ h.flag (FES_STATE_fault n) = false)) := by decide +kernel

theorem witness_stepRampUpdate :
    let n : Fin 12 := 1
    let j : Nat := 2
    let k : Nat := 0
    let h : Hw := passTime 0 ({ wHw with fes := [(1, { ramp := some (2, 0) })], dtime := 1000 })
    h.ready 15 = true ∧ (h.fesu n).ramp = some (j, k) ∧ (h.fesu n).rampAt + (k + 1) * 1000 ≤ h.dtime ∧ [h.fld (FES_STATE_step n), j].find? (stepPoisoned h n) = none ∧ rampTime h n (h.fld (FES_STATE_step n)) j ≤ k + 1 := by decide +kernel

theorem witness_stepRampUpdate_2 :
    let n : Fin 12 := 1
    let j : Nat := 1
    let k : Nat := 0
    let h : Hw := passTime 0 ({ wHw.setNum (FES_STEPTAB 1 3) (50 * 65536 + 1) with fes := [(1, { ramp := some (1, 0) })], dtime := 1000 })
    h.ready 15 = true ∧ (h.fesu n).ramp = some (j, k) ∧ (h.fesu n).rampAt + (k + 1) * 1000 ≤ h.dtime ∧ [h.fld (FES_STATE_step n), j].find? (stepPoisoned h n) = none ∧ k + 1 < rampTime h n (h.fld (FES_STATE_step n)) j := by decide +kernel

theorem witness_stepRampUpdate_3 :
    let n : Fin 12 := 1
    let j : Nat := 1
    let k : Nat := 0
    let e : Nat := 0
    let h : Hw := passTime 0 ({ wHw with fes := [(1, { ramp := some (1, 0) })], dtime := 1000, mem := { wHw.mem with poison := [(FES_STEPTAB 1 0, true)] } })
    h.ready 15 = true ∧ (h.fesu n).ramp = some (j, k) ∧ (h.fesu n).rampAt + (k + 1) * 1000 ≤ h.dtime ∧ [h.fld (FES_STATE_step n), j].find? (stepPoisoned h n) = some e := by decide +kernel

theorem witness_trigInTurn :
    let h : Hw := passTime 0 ((wHw.setFld (FES_MAP2_protect 1) 1).setFld (FES_MAP2_turn_trig 1) 1)
    h.ready 15 = true := by decide +kernel

theorem witness_turnComplete :
    let n : Fin 12 := 1
    let t : Nat := 0
    let h : Hw := passTime 0 ({ ((wHw.setFld (FES_STATE_state 1) 3).setFld (FES_STATE_lock 1) 1).setFld (FES_STATE_temp_ok 1) 1 with fes := [(1, { turn := some 0, toward := 4 })], dtime := 4000 })
    h.ready 15 = true ∧ (h.fesu n).turn = some t ∧ t + 3950 ≤ h.dtime ∧ h.flag (FES_STATE_lock n) = true ∧ h.flag (FES_STATE_temp_ok n) = true ∧ h.flag (FES_STATE_fault n) = false := by decide +kernel

theorem witness_tempOk :
    let n : Fin 12 := 1
    let h : Hw := passTime 0 ({ (((wHw.setFld (FES_STATE_state 1) 1).setFld (FES_MAP1_tec_loop 1) 3).setFld (FES_MAP1_lock_loop 1) 4).setFld (CLE_STATUS_mode 3) 2 with fes := [(1, { tempIn := true })], dtime := 500000 })
    h.ready 15 = true ∧ h.fld (FES_MAP1_tec_loop n) ≠ 255 ∧ h.fstate n ≠ 0 ∧ h.flag (FES_STATE_temp_ok n) = false ∧ tempStayedIn h n = true := by decide +kernel

theorem witness_tempOk_2 :
    let n : Fin 12 := 1
    let h : Hw := passTime 0 ({ ((wHw.setFld (FES_STATE_state 1) 1).setFld (FES_MAP1_tec_loop 1) 3).setFld (FES_STATE_temp_ok 1) 1 with fes := [(1, { tempIn := false })], dtime := 10000 })
    h.ready 15 = true ∧ h.fld (FES_MAP1_tec_loop n) ≠ 255 ∧ h.fstate n ≠ 0 ∧ h.flag (FES_STATE_temp_ok n) = true ∧ tempStayedOut h n = true := by decide +kernel

theorem witness_lockDeclared :
    let n : Fin 12 := 1
    let h : Hw := passTime 0 ({ (((wHw.setFld (FES_STATE_state 1) 1).setFld (FES_STATE_temp_ok 1) 1).setFld (FES_MAP1_lock_loop 1) 4).setFld (CLE_STATUS_mode 4) 2 with fes := [(1, { lockIn := true })], dtime := 500000 })
    h.ready 15 = true ∧ 1 ≤ h.fstate n ∧ ownLock h n = true ∧ h.flag (FES_STATE_temp_ok n) = true ∧ h.flag (FES_STATE_lock n) = false ∧ lockStayedIn h n = true := by decide +kernel

theorem witness_fesLockLost :
    let n : Fin 12 := 1
    let h : Hw := passTime 0 ({ ((wHw.setFld (FES_STATE_state 1) 4).setFld (FES_STATE_lock 1) 1).setFld (FES_MAP1_lock_loop 1) 4 with fes := [(1, { lockIn := false })], dtime := 10000 })
    h.ready 15 = true ∧ ownLock h n = true ∧ h.flag (FES_STATE_lock n) = true ∧ lockStayedOut h n = true := by decide +kernel

theorem witness_lockDeadlineExpiry :
    let n : Fin 12 := 1
    let h : Hw := passTime 0 ((({ wHw.setFld (FES_STATE_state 1) 2 with cmd := { wHw.cmd with running := [{ id := 3, opcode := 0x0D02, req := rqOf 1 [0, 2, 4, 0, 1], session := 0xFFF1, recv := 0, index := 9, wait := .fesState 2 1 [] }] }, dtime := 2000000 } : Hw).setFld (FES_STATE_held 1) 1).setFld (FES_STATE_target 1) 4)
    h.ready 15 = true ∧ h.flag (FES_STATE_held n) = true ∧ ((h.fesu n).litAt ≠ none ∨ 2 ≤ h.fstate n) ∧ deadlinePast h n = true := by decide +kernel

theorem witness_settleMaxExpiry :
    let n : Fin 12 := 1
    let t : Nat := 0
    let h : Hw := passTime 0 ({ wHw.setFld (FES_STATE_state 1) 1 with fes := [(1, { warmAt := some 0 })], dtime := 10 ^ 12 })
    h.ready 15 = true ∧ h.fstate n = 1 ∧ (h.fesu n).warmAt = some t ∧ t + h.fld FES_CFG_settle_max * 10 ^ 6 ≤ h.dtime ∧ (h.fesu n).settled = false ∧ h.flag (FES_STATE_temp_ok n) = false := by decide +kernel

theorem witness_fesFault :
    let n : Fin 12 := 1
    let k : Nat := 3
    let w : Nat := 0
    let h : Hw := passTime 0 wHw
    h.ready 15 = true ∧ (k = 2 ∨ k = 3) := by decide +kernel

theorem witness_fesFault_2 :
    let n : Fin 12 := 1
    let w : Nat := 5
    let h : Hw := passTime 0 (((wHw.setFld (FES_MAP0_bias_out 1) 5).setFld (AOU_OSTAT_comp 5) 1))
    h.ready 15 = true ∧ fesNames h n w = true ∧ w < 24 ∧ h.flag (AOU_OSTAT_comp w) = true := by decide +kernel

theorem witness_brcConfig :
  taken opBrcConfig (rqOf 1 [0xFF, 0x60, 0, 200, 3, 0, 0, 0x07, 0xD0, 0x0F, 0xA0, 0x07, 0xD0, 0x0F, 0xA0]) (passTime 0 wHw) = true ∧ (
    let b : Hw := entered opBrcConfig (rqOf 1 [0xFF, 0x60, 0, 200, 3, 0, 0, 0x07, 0xD0, 0x0F, 0xA0, 0x07, 0xD0, 0x0F, 0xA0]) (passTime 0 wHw)
    let c : Call := callOf opBrcConfig (rqOf 1 [0xFF, 0x60, 0, 200, 3, 0, 0, 0x07, 0xD0, 0x0F, 0xA0, 0x07, 0xD0, 0x0F, 0xA0]) (passTime 0 wHw)
    ((bit (u8 c.p 4) 2 != b.fld BRC_CFG_east_grp || [0, 1, 2, 3].any fun g => genNamed b g && u16 c.p (7 + 2 * g) != pilotFreq b g) && !stages4.all (quietStage b)) = false) := by decide +kernel

theorem witness_brcStageConfig :
  taken opBrcStageConfig (rqOf 1 [1, 0, 100, 0xF0, 0, 3, 1]) (passTime 0 wHw) = true ∧ (
    let b : Hw := entered opBrcStageConfig (rqOf 1 [1, 0, 100, 0xF0, 0, 3, 1]) (passTime 0 wHw)
    let c : Call := callOf opBrcStageConfig (rqOf 1 [1, 0, 100, 0xF0, 0, 3, 1]) (passTime 0 wHw)
    u8 c.p 5 ≠ b.fld (BRC_SSEL_pilot_gen (partner (u8 c.p 0))) ∧ (u8 c.p 5 = b.fld (BRC_SSEL_pilot_gen (u8 c.p 0)) ∨ quietStage b (u8 c.p 0) = true)) := by decide +kernel

theorem witness_brcCalSet :
  taken opBrcCalSet (rqOf 1 [7, 0xF8, 0x30, 0, 50]) (passTime 0 wHw) = true ∧ (
    let b : Hw := entered opBrcCalSet (rqOf 1 [7, 0xF8, 0x30, 0, 50]) (passTime 0 wHw)
    let c : Call := callOf opBrcCalSet (rqOf 1 [7, 0xF8, 0x30, 0, 50]) (passTime 0 wHw)
    True) := by decide +kernel

theorem witness_brcUnmute :
  taken opBrcUnmute (rqOf 1 [4]) (passTime 0 (wHw.setFld (BRC_SSTAT_cause 2) 0xC0)) = true ∧ (
    let b : Hw := entered opBrcUnmute (rqOf 1 [4]) (passTime 0 (wHw.setFld (BRC_SSTAT_cause 2) 0xC0))
    let c : Call := callOf opBrcUnmute (rqOf 1 [4]) (passTime 0 (wHw.setFld (BRC_SSTAT_cause 2) 0xC0))
    True) := by decide +kernel

theorem witness_brcCoexConfig :
  taken opBrcCoexConfig (rqOf 1 [7, 0, 10, 50]) (passTime 0 wHw) = true ∧ (
    let b : Hw := entered opBrcCoexConfig (rqOf 1 [7, 0, 10, 50]) (passTime 0 wHw)
    let c : Call := callOf opBrcCoexConfig (rqOf 1 [7, 0, 10, 50]) (passTime 0 wHw)
    ((bit (u8 c.p 0) 1 != b.fld BRC_COEX_CFG_mode || bit (u8 c.p 0) 2 != b.fld BRC_COEX_CFG_out_en) && (b.flag BRC_COEX_STATUS_in_granted || b.flag BRC_COEX_STATUS_out_granted)) = false) := by decide +kernel

theorem witness_brcCoexReq :
  taken opBrcCoexReq (rqOf 1 [0]) (passTime 0 (wHw.setFld BRC_COEX_CFG_out_en 1)) = true ∧ (
    let b : Hw := entered opBrcCoexReq (rqOf 1 [0]) (passTime 0 (wHw.setFld BRC_COEX_CFG_out_en 1))
    let c : Call := callOf opBrcCoexReq (rqOf 1 [0]) (passTime 0 (wHw.setFld BRC_COEX_CFG_out_en 1))
    b.flag BRC_COEX_CFG_out_en = true ∧ u8 c.p 0 = 0) := by decide +kernel

theorem witness_brcCoexReq_2 :
  taken opBrcCoexReq (rqOf 1 [1]) (passTime 0 ((wHw.setFld BRC_COEX_CFG_out_en 1).setFld BRC_COEX_STATUS_xgnt_in 1)) = true ∧ (
    let b : Hw := entered opBrcCoexReq (rqOf 1 [1]) (passTime 0 ((wHw.setFld BRC_COEX_CFG_out_en 1).setFld BRC_COEX_STATUS_xgnt_in 1))
    let c : Call := callOf opBrcCoexReq (rqOf 1 [1]) (passTime 0 ((wHw.setFld BRC_COEX_CFG_out_en 1).setFld BRC_COEX_STATUS_xgnt_in 1))
    b.flag BRC_COEX_CFG_out_en = true ∧ u8 c.p 0 = 1 ∧ b.flag BRC_COEX_STATUS_xgnt_in = true) := by decide +kernel

theorem witness_brcCoexReq_3 :
  taken opBrcCoexReq (rqOf 1 [1]) (passTime 0 (wHw.setFld BRC_COEX_CFG_out_en 1)) = true ∧ (
    let b : Hw := entered opBrcCoexReq (rqOf 1 [1]) (passTime 0 (wHw.setFld BRC_COEX_CFG_out_en 1))
    let c : Call := callOf opBrcCoexReq (rqOf 1 [1]) (passTime 0 (wHw.setFld BRC_COEX_CFG_out_en 1))
    b.flag BRC_COEX_CFG_out_en = true ∧ u8 c.p 0 = 1 ∧ b.flag BRC_COEX_STATUS_xgnt_in = false) := by decide +kernel

theorem witness_brcStatusRead :
  taken opBrcStatusRead (rqOf 0 [15, 1]) (passTime 0 wHw) = true ∧ (
    let b : Hw := entered opBrcStatusRead (rqOf 0 [15, 1]) (passTime 0 wHw)
    let c : Call := callOf opBrcStatusRead (rqOf 0 [15, 1]) (passTime 0 wHw)
    True) := by decide +kernel

theorem witness_brcQuietSend :
  taken opBrcQuietSend (rqOf 1 [0, 3, 0]) (passTime 0 (wUp.setFld (LNK_PEER_INFO_features 0) 2)) = true ∧ (
    let b : Hw := entered opBrcQuietSend (rqOf 1 [0, 3, 0]) (passTime 0 (wUp.setFld (LNK_PEER_INFO_features 0) 2))
    let c : Call := callOf opBrcQuietSend (rqOf 1 [0, 3, 0]) (passTime 0 (wUp.setFld (LNK_PEER_INFO_features 0) 2))
    b.stage (u8 c.p 0) = 5 ∧ b.native (u8 c.p 0) = true ∧ hasBit (b.fld (LNK_PEER_INFO_features (u8 c.p 0))) 1 = true ∧ u8 c.p 2 = 0) := by decide +kernel

theorem witness_brcQuietSend_2 :
  taken opBrcQuietSend (rqOf 1 [0, 3, 1]) (passTime 0 ((wUp.setFld (LNK_PEER_INFO_features 0) 2).setFld BRC_QUIET_sending 3)) = true ∧ (
    let b : Hw := entered opBrcQuietSend (rqOf 1 [0, 3, 1]) (passTime 0 ((wUp.setFld (LNK_PEER_INFO_features 0) 2).setFld BRC_QUIET_sending 3))
    let c : Call := callOf opBrcQuietSend (rqOf 1 [0, 3, 1]) (passTime 0 ((wUp.setFld (LNK_PEER_INFO_features 0) 2).setFld BRC_QUIET_sending 3))
    b.stage (u8 c.p 0) = 5 ∧ b.native (u8 c.p 0) = true ∧ hasBit (b.fld (LNK_PEER_INFO_features (u8 c.p 0))) 1 = true ∧ u8 c.p 2 = 1) := by decide +kernel

theorem witness_quietReceived :
    let g : Fin 2 := 0
    let m : Nat := 3
    let h : Hw := passTime 0 wUp
    h.ready 15 = true ∧ h.native g = true := by decide +kernel

theorem witness_quietReceived_2 :
    let g : Fin 2 := 0
    let m : Nat := 3
    let h : Hw := passTime 0 (wUp.setFld BRC_QUIET_received 3)
    h.ready 15 = true ∧ h.native g = true := by decide +kernel

theorem witness_quietSilenceEnd :
    let g : Fin 2 := 0
    let n : Fin 2 := 1
    let h : Hw := passTime 0 ({ wUp.setFld BRC_QUIET_received 3 with dtime := 10000000 })
    h.ready 15 = true ∧ hasBit (h.fld BRC_QUIET_received) (2 * (g : Nat) + (n : Nat)) = true ∧ Map.get 0 h.brc.quietAt (2 * (g : Nat) + (n : Nat)) + 10 ^ 7 ≤ h.dtime := by decide +kernel

theorem witness_quietResend :
    let g : Fin 2 := 0
    let h : Hw := passTime 0 ({ wUp.setFld BRC_QUIET_sending 1 with brc := { wUp.brc with release := [(1, 2)] } })
    h.ready 15 = true ∧ (Map.get none h.brc.acts (12 + g)).all (fun (t : Nat) => decide (t + 10 ^ 6 ≤ h.dtime)) = true := by decide +kernel

theorem witness_pilotEstimateUpdate :
    let codes : List (List Nat) := [[1, 2], [3, 4]]
    let h : Hw := passTime 0 wBand
    h.ready 15 = true ∧ (Map.get none h.brc.acts (0)).all (fun (t : Nat) => decide (t + 10000 ≤ h.dtime)) = true := by decide +kernel

theorem witness_runawayMute :
    let st : Fin 4 := 1
    let a : Nat := 100
    let b : Nat := 300
    let q : Nat × Nat := (100, 101)
    let h : Hw := passTime 0 wBand
    h.ready 15 = true ∧ ampEmits h st = true ∧ ((1000 * lit h (2 * st + 1) a ^ 10 < lit h (2 * st + 1) b ^ 10 ∧ (lit h (2 * st) q.2 ^ 10 < 10 * lit h (2 * st) q.1 ^ 10 ∨ lit h (2 * st) q.2 = lit h (2 * st) q.1)) ∨ powerGt h (2 * st + 1) b (h.fldS (BRC_SCFG_limit st) + 300) = true) ∧ (bandStages ((st : Nat) / 2)).all (fun x => hasCause h x cRunaway) = false := by decide +kernel

theorem witness_pilotAmplitudeAdjust :
    let h : Hw := passTime 0 ((((wHw.setFld (FES_MAP0_bias_out 9) 6).setFld (AOU_OSTAT_dither_on 6) 1).setFld (BRC_EST_pilot_idx 1) 200).setFld (AOU_DITHER_amp 6) 500)
    h.ready 15 = true ∧ (Map.get none h.brc.acts (1)).all (fun (t : Nat) => decide (t + 10 ^ 6 ≤ h.dtime)) = true := by decide +kernel

theorem witness_guardRaiseTick :
    let h : Hw := passTime 0 wRise
    h.ready 15 = true ∧ (Map.get none h.brc.acts (2)).all (fun (t : Nat) => decide (t + 10 ^ 6 ≤ h.dtime)) = true := by decide +kernel

theorem witness_guardLowerTick :
    let h : Hw := passTime 0 ({ ((wHw.setFldS (BRC_EST_est 0) (-10)).setFldS (BRC_EST_est 2) (-250)).setFldS (BRC_EST_est 3) (-250) |>.setFld (BRC_SSTAT_target 0) 3 with brc := { bands := [(0, { lowering := true })] } })
    h.ready 15 = true ∧ (Map.get none h.brc.acts (3)).all (fun (t : Nat) => decide (t + 100000 ≤ h.dtime)) = true := by decide +kernel

theorem witness_guardBandMute :
    let n : Fin 2 := 0
    let t : Nat := 0
    let h : Hw := passTime 0 ({ wBand with brc := { wBand.brc with bands := [(0, { floorAt := some 0 })] }, dtime := 10000000 })
    h.ready 15 = true ∧ (h.band n).floorAt = some t ∧ t + 10 ^ 7 ≤ h.dtime ∧ guardRests h n = false ∧ (bandStages n).all (fun st => hasCause h st cGuard) = false := by decide +kernel

theorem witness_autoRetryRelease :
    let n : Fin 2 := 0
    let h : Hw := passTime 0 ({ (wHw.setFld BRC_CFG_auto_retry 1).setFld (BRC_SSTAT_cause 0) 0x80 with dtime := 2000000000 })
    h.ready 15 = true ∧ (h.band n).mutedAt + 10 ^ 9 ≤ h.dtime ∧ h.flag BRC_CFG_auto_retry = true ∧ (h.band n).stopped = false := by decide +kernel

theorem witness_inputLossHold :
    let st : Fin 4 := 1
    let x : Nat := 0
    let h : Hw := passTime 0 (wHw.setFldS (BRC_SCFG_in_los 1) (-3000))
    h.ready 15 = true ∧ h.flag (BRC_SSTAT_coex_hold st) = false ∧ powerGe h (2 * st) x (h.fldS (BRC_SCFG_in_los st)) = false ∧ h.flag (BRC_SSTAT_held_min st) = false := by decide +kernel

theorem witness_inputLossMute :
    let st : Fin 4 := 1
    let x : Nat := 0
    let h : Hw := passTime 0 ({ (wHw.setFldS (BRC_SCFG_in_los 1) (-3000)).setFld (BRC_SSTAT_held_min 1) 1 with dtime := 5000000 })
    h.ready 15 = true ∧ h.flag (BRC_SSTAT_coex_hold st) = false ∧ powerGe h (2 * st) x (h.fldS (BRC_SCFG_in_los st)) = false ∧ h.flag (BRC_SSTAT_held_min st) = true ∧ h.flag (BRC_SSTAT_input_lost st) = false ∧ (h.amp st).lossAt + 4950000 ≤ h.dtime := by decide +kernel

theorem witness_inputRestored :
    let st : Fin 4 := 1
    let x : Nat := 4095
    let h : Hw := passTime 0 ((wHw.setFldS (BRC_SCFG_in_los 1) (-5000)).setFld (BRC_SSTAT_held_min 1) 1)
    h.ready 15 = true ∧ h.flag (BRC_SSTAT_coex_hold st) = false ∧ powerGe h (2 * st) x (h.fldS (BRC_SCFG_in_los st) + 100) = true := by decide +kernel

theorem witness_limitCeilingFall :
    let st : Fin 4 := 1
    let x : Nat := 4095
    let h : Hw := passTime 0 ((wHw.setFld (BRC_SSTAT_limit_ceil 1) 31).setFldS (BRC_SCFG_limit 1) (-4500))
    h.ready 15 = true ∧ powerGt h (2 * st + 1) x (h.fldS (BRC_SCFG_limit st)) = true ∧ (Map.get none h.brc.acts (4 + st)).all (fun (t : Nat) => decide (t + 100000 ≤ h.dtime)) = true := by decide +kernel

theorem witness_limitCeilingRise :
    let st : Fin 4 := 1
    let x : Nat := 1
    let h : Hw := passTime 0 (wHw.setFld (BRC_SSTAT_limit_ceil 1) 4)
    h.ready 15 = true ∧ (Map.get none h.brc.acts (8 + st)).all (fun (t : Nat) => decide (t + 10 ^ 6 ≤ h.dtime)) = true ∧ h.fld (BRC_SSTAT_limit_ceil st) < 31 ∧ powerGt h (2 * st + 1) x (h.fldS (BRC_SCFG_limit st) - 50 - stepGain h st (h.fld (BRC_SSTAT_limit_ceil st)) (h.fld (BRC_SSTAT_limit_ceil st) + 1)) = false := by decide +kernel

theorem witness_aprStart :
    let g : Fin 2 := 0
    let h : Hw := passTime 0 ({ wHw.setFld BRC_CFG_apr_en 1 with brc := { wHw.brc with condAt := [(0, some 0)] }, dtime := 100000 })
    h.ready 15 = true ∧ h.flag (aprFld g) = false ∧ aprDue h g = true := by decide +kernel

theorem witness_aprEnd :
    let g : Fin 2 := 0
    let h : Hw := passTime 0 ({ wUp.setFld (aprFld 0) 1 with brc := { wUp.brc with enterP2 := [(0, true)] } })
    h.ready 15 = true ∧ h.flag (aprFld g) = true ∧ (if inC2 h g = true then (groupLanes g).any (fun n => !h.flag (LRX_STATUS_los n) && decide ((h.lane n).sigAt + 10 ^ 7 ≤ h.dtime)) else Map.get false h.brc.enterP2 g) = true := by decide +kernel

theorem witness_xreqInHigh :
    let h : Hw := passTime 0 ((wHw.setFld BRC_COEX_CFG_in_en 1).setFld BRC_COEX_CFG_mode 1)
    h.ready 15 = true ∧ h.flag BRC_COEX_CFG_in_en = true ∧ (h.flag BRC_COEX_STATUS_in_stuck = false ∨ h.brc.xreqPin = false ∧ h.brc.xlowAt + 10 ^ 6 ≤ h.dtime) := by decide +kernel

theorem witness_inboundGrant :
    let h : Hw := passTime 0 (((wHw.setFld BRC_COEX_STATUS_xreq_in 1).setFld BRC_COEX_CFG_in_en 1).setFld (BRC_SSTAT_coex_hold 2) 1)
    h.ready 15 = true ∧ h.flag BRC_COEX_STATUS_xreq_in = true ∧ h.flag BRC_COEX_CFG_in_en = true ∧ h.flag BRC_COEX_STATUS_in_granted = false ∧ h.flag BRC_COEX_STATUS_in_stuck = false ∧ inbound h = true ∧ (protection h = false ∨ h.brc.xreqAt + 2 * 10 ^ 6 ≤ h.dtime) := by decide +kernel

theorem witness_xreqInLow :
    let h : Hw := passTime 0 ((wHw.setFld BRC_COEX_STATUS_xreq_in 1).setFld BRC_COEX_STATUS_in_granted 1)
    h.ready 15 = true := by decide +kernel

theorem witness_inboundRequestStuck :
    let h : Hw := passTime 0 ({ ((wHw.setFld BRC_COEX_STATUS_xreq_in 1).setFld BRC_COEX_CFG_in_en 1).setFld BRC_COEX_CFG_req_max 1 with dtime := 1000000000 })
    h.ready 15 = true ∧ h.flag BRC_COEX_STATUS_xreq_in = true ∧ h.flag BRC_COEX_CFG_in_en = true ∧ h.flag BRC_COEX_STATUS_in_stuck = false ∧ h.brc.xreqAt + h.fld BRC_COEX_CFG_req_max * 10 ^ 9 ≤ h.dtime := by decide +kernel

theorem witness_xgntInHigh :
    let h : Hw := passTime 0 ((wHw.setFld BRC_COEX_STATUS_xreq_out 1).setFld BRC_COEX_CFG_out_en 1)
    h.ready 15 = true := by decide +kernel

theorem witness_xgntInLow :
    let h : Hw := passTime 0 (wHw.setFld BRC_COEX_STATUS_xgnt_in 1)
    h.ready 15 = true := by decide +kernel

theorem witness_outboundGrantTimeout :
    let h : Hw := passTime 0 ({ wHw.setFld BRC_COEX_STATUS_xreq_out 1 with cmd := { wHw.cmd with running := [{ id := 3, opcode := 0x0E07, req := rqOf 0 [], session := 0xFFF1, recv := 0, index := 9, wait := .coex }] }, dtime := 11000000 })
    h.ready 15 = true ∧ (h.flag BRC_COEX_STATUS_xreq_out && h.flag BRC_COEX_STATUS_xgnt_in) = false ∧ waiting h isCoex = true ∧ h.brc.xoutAt + h.fld BRC_COEX_CFG_grant_timeout * 10 ^ 6 ≤ h.dtime := by decide +kernel

theorem witness_cleLoopConfig :
  taken opCleLoopConfig (rqOf 1 [3, 0, 5, 1, 7, 0, 0, 0, 10, 0, 0, 4]) (passTime 0 wHw) = true ∧ (
    let b : Hw := entered opCleLoopConfig (rqOf 1 [3, 0, 5, 1, 7, 0, 0, 0, 10, 0, 0, 4]) (passTime 0 wHw)
    let c : Call := callOf opCleLoopConfig (rqOf 1 [3, 0, 5, 1, 7, 0, 0, 0, 10, 0, 0, 4]) (passTime 0 wHw)
    loopMode b (u8 c.p 0) = 0 ∧ (hasBit (u8 c.p 9) 0 = false ∨ u8 c.p 0 ≤ 15)) := by decide +kernel

theorem witness_cleCoefLoad :
  taken opCleCoefLoad (rqOf 1 ([3, 0] ++ zeros 64)) (passTime 0 wHw) = true ∧ (
    let b : Hw := entered opCleCoefLoad (rqOf 1 ([3, 0] ++ zeros 64)) (passTime 0 wHw)
    let c : Call := callOf opCleCoefLoad (rqOf 1 ([3, 0] ++ zeros 64)) (passTime 0 wHw)
    loopMode b (u8 c.p 0) = 0 ∧ hasBit (u8 c.p 1) 0 = false) := by decide +kernel

theorem witness_cleCoefLoad_2 :
  taken opCleCoefLoad (rqOf 1 ([3, 1] ++ zeros 64)) (passTime 0 wHw) = true ∧ (
    let b : Hw := entered opCleCoefLoad (rqOf 1 ([3, 1] ++ zeros 64)) (passTime 0 wHw)
    let c : Call := callOf opCleCoefLoad (rqOf 1 ([3, 1] ++ zeros 64)) (passTime 0 wHw)
    hasBit (u8 c.p 1) 0 = true) := by decide +kernel

theorem witness_cleModeSet :
  taken opCleModeSet (rqOf 1 [0, 0, 0, 9, 0]) (passTime 0 (wHw.setFld (CLE_STATUS_mode 3) 1)) = true ∧ (
    let b : Hw := entered opCleModeSet (rqOf 1 [0, 0, 0, 9, 0]) (passTime 0 (wHw.setFld (CLE_STATUS_mode 3) 1))
    let c : Call := callOf opCleModeSet (rqOf 1 [0, 0, 0, 9, 0]) (passTime 0 (wHw.setFld (CLE_STATUS_mode 3) 1))
    u8 c.p 4 = 0) := by decide +kernel

theorem witness_cleModeSet_2 :
  taken opCleModeSet (rqOf 1 [0, 0, 0, 8, 1]) (passTime 0 (setDeclared wHw 22 true)) = true ∧ (
    let b : Hw := entered opCleModeSet (rqOf 1 [0, 0, 0, 8, 1]) (passTime 0 (setDeclared wHw 22 true))
    let c : Call := callOf opCleModeSet (rqOf 1 [0, 0, 0, 8, 1]) (passTime 0 (setDeclared wHw 22 true))
    u8 c.p 4 ≠ 0 ∧ modeRefused b (bitsOf 32 (u32 c.p 0)) = none ∧ (loops32.any fun x => (fun l => if (bitsOf 32 (u32 c.p 0)).contains l then true else loopMode b l != 0) x && loops32.any fun y => decide (x < y) && (fun l => if (bitsOf 32 (u32 c.p 0)).contains l then true else loopMode b l != 0) y && sameDest b x y) = false ∧ (engineLoad b (fun l => if (bitsOf 32 (u32 c.p 0)).contains l then true else loopMode b l != 0)).1 ≤ 3 * (engineLoad b (fun l => if (bitsOf 32 (u32 c.p 0)).contains l then true else loopMode b l != 0)).2) := by decide +kernel

theorem witness_cleSetpoint :
  taken opCleSetpoint (rqOf 1 [3, 0, 0, 1, 0, 0, 0, 2, 0, 3]) (passTime 0 wHw) = true ∧ (
    let b : Hw := entered opCleSetpoint (rqOf 1 [3, 0, 0, 1, 0, 0, 0, 2, 0, 3]) (passTime 0 wHw)
    let c : Call := callOf opCleSetpoint (rqOf 1 [3, 0, 0, 1, 0, 0, 0, 2, 0, 3]) (passTime 0 wHw)
    cascaded b (u8 c.p 0) = false) := by decide +kernel

theorem witness_cleRepLoad :
  taken opCleRepLoad (rqOf 1 [3, 10, 0, 1, 0, 0, 1, 0, 0]) (passTime 0 wHw) = true ∧ (
    let b : Hw := entered opCleRepLoad (rqOf 1 [3, 10, 0, 1, 0, 0, 1, 0, 0]) (passTime 0 wHw)
    let c : Call := callOf opCleRepLoad (rqOf 1 [3, 10, 0, 1, 0, 0, 1, 0, 0]) (passTime 0 wHw)
    (loopMode b (u8 c.p 0) ≠ 2 ∨ hasBit (u8 c.p 4) 0 = true) ∧ (hasBit (u8 c.p 4) 0 = false ∨ coverFull (putWords b (CLE_REP (u8 c.p 0) (u8 c.p 1)) ((List.range (u16 c.p 2)).map fun i => u32 c.p (5 + 4 * i))) (51 + u8 c.p 0) = true) ∧ b.fld (CLE_STATUS_rep (u8 c.p 0)) < 2) := by decide +kernel

theorem witness_cleRepLoad_2 :
  taken opCleRepLoad (rqOf 1 [3, 10, 0, 1, 0, 0, 1, 0, 0]) (passTime 0 (wHw.setFld (CLE_STATUS_rep 3) 2)) = true ∧ (
    let b : Hw := entered opCleRepLoad (rqOf 1 [3, 10, 0, 1, 0, 0, 1, 0, 0]) (passTime 0 (wHw.setFld (CLE_STATUS_rep 3) 2))
    let c : Call := callOf opCleRepLoad (rqOf 1 [3, 10, 0, 1, 0, 0, 1, 0, 0]) (passTime 0 (wHw.setFld (CLE_STATUS_rep 3) 2))
    (loopMode b (u8 c.p 0) ≠ 2 ∨ hasBit (u8 c.p 4) 0 = true) ∧ (hasBit (u8 c.p 4) 0 = false ∨ coverFull (putWords b (CLE_REP (u8 c.p 0) (u8 c.p 1)) ((List.range (u16 c.p 2)).map fun i => u32 c.p (5 + 4 * i))) (51 + u8 c.p 0) = true) ∧ 2 ≤ b.fld (CLE_STATUS_rep (u8 c.p 0))) := by decide +kernel

theorem witness_cleRepRead :
  taken opCleRepRead (rqOf 0 [3, 10, 0, 2]) (passTime 0 (setDeclared wHw 54 true)) = true ∧ (
    let b : Hw := entered opCleRepRead (rqOf 0 [3, 10, 0, 2]) (passTime 0 (setDeclared wHw 54 true))
    let c : Call := callOf opCleRepRead (rqOf 0 [3, 10, 0, 2]) (passTime 0 (setDeclared wHw 54 true))
    b.declared (51 + u8 c.p 0) = true) := by decide +kernel

theorem witness_cleRepReset :
  taken opCleRepReset (rqOf 1 [0, 8]) (passTime 0 wHw) = true ∧ (
    let b : Hw := entered opCleRepReset (rqOf 1 [0, 8]) (passTime 0 wHw)
    let c : Call := callOf opCleRepReset (rqOf 1 [0, 8]) (passTime 0 wHw)
    True) := by decide +kernel

theorem witness_cleLiaConfig :
  taken opCleLiaConfig (rqOf 1 [3, 0, 5, 1, 2, 0, 100, 0, 10]) (passTime 0 wHw) = true ∧ (
    let b : Hw := entered opCleLiaConfig (rqOf 1 [3, 0, 5, 1, 2, 0, 100, 0, 10]) (passTime 0 wHw)
    let c : Call := callOf opCleLiaConfig (rqOf 1 [3, 0, 5, 1, 2, 0, 100, 0, 10]) (passTime 0 wHw)
    True) := by decide +kernel

theorem witness_cleTestStart :
  taken opCleTestStart (rqOf 1 [3, 1, 3, 0, 0, 0, 9, 0, 1, 0, 0, 0, 0, 0, 0, 0, 0, 0, 0, 0, 9]) (passTime 0 (wHw.setFld (CLE_STATUS_mode 3) 2)) = true ∧ (
    let b : Hw := entered opCleTestStart (rqOf 1 [3, 1, 3, 0, 0, 0, 9, 0, 1, 0, 0, 0, 0, 0, 0, 0, 0, 0, 0, 0, 9]) (passTime 0 (wHw.setFld (CLE_STATUS_mode 3) 2))
    let c : Call := callOf opCleTestStart (rqOf 1 [3, 1, 3, 0, 0, 0, 9, 0, 1, 0, 0, 0, 0, 0, 0, 0, 0, 0, 0, 0, 9]) (passTime 0 (wHw.setFld (CLE_STATUS_mode 3) 2))
    b.flag CLE_TEST_running = false ∧ loopMode b (u8 c.p 0) ≠ 0) := by decide +kernel

theorem witness_cleTestStop :
  taken opCleTestStop (rqOf 1 []) (passTime 0 (wHw.setFld CLE_TEST_running 1)) = true ∧ (
    let b : Hw := entered opCleTestStop (rqOf 1 []) (passTime 0 (wHw.setFld CLE_TEST_running 1))
    let c : Call := callOf opCleTestStop (rqOf 1 []) (passTime 0 (wHw.setFld CLE_TEST_running 1))
    True) := by decide +kernel

theorem witness_cleStatusRead :
  taken opCleStatusRead (rqOf 0 [0, 0, 0, 9, 0]) (passTime 0 wHw) = true ∧ (
    let b : Hw := entered opCleStatusRead (rqOf 0 [0, 0, 0, 9, 0]) (passTime 0 wHw)
    let c : Call := callOf opCleStatusRead (rqOf 0 [0, 0, 0, 9, 0]) (passTime 0 wHw)
    True) := by decide +kernel

theorem witness_cleInit :
  taken opCleInit (rqOf 1 []) (passTime 0 wHw) = true ∧ (
    let b : Hw := entered opCleInit (rqOf 1 []) (passTime 0 wHw)
    let c : Call := callOf opCleInit (rqOf 1 []) (passTime 0 wHw)
    True) := by decide +kernel

theorem witness_repCycleEnd :
    let l : Fin 32 := 3
    let h : Hw := passTime 0 ((((wHw.setFld (CLE_STATUS_mode 3) 2).setFld (CLE_CFG_rep_en 3) 1).setFld (CLE_STATUS_rep 3) 2).setFld CLE_MAINS_valid 1 |>.setNum64 MCV_MAINS_T 5)
    h.ready 15 = true ∧ (l : Nat) < 16 ∧ h.flag (CLE_CFG_rep_en l) = true ∧ loopMode h l = 2 ∧ h.flag CLE_MAINS_valid = true ∧ (h.loop l).cycle ≠ h.num64 MCV_MAINS_T := by decide +kernel

theorem witness_mainsInvalidDisengage :
    let l : Fin 32 := 3
    let t : Nat := 0
    let h : Hw := passTime 0 ({ ((wHw.setFld (CLE_STATUS_mode 3) 2).setFld (CLE_CFG_rep_en 3) 1) with cle := { wHw.cle with badAt := some 0 }, dtime := 10 ^ 9 })
    h.ready 15 = true ∧ (l : Nat) < 16 ∧ h.flag (CLE_CFG_rep_en l) = true ∧ loopMode h l = 2 ∧ h.flag CLE_MAINS_valid = false ∧ (h.loop l).offAt = none ∧ h.cle.badAt = some t ∧ t + 10 ^ 9 ≤ h.dtime := by decide +kernel

theorem witness_lockinWindowEnd :
    let d : Fin 8 := 3
    let v : List Int := [-7, 8]
    let h : Hw := passTime 0 ({ wHw.setFld (CLE_LIA_WIN_window 3) 10 with dtime := 10 ^ 9 })
    h.ready 15 = true ∧ Map.get 0 h.cle.liaAt d + h.fld (CLE_LIA_WIN_window d) * 1000 ≤ h.dtime := by decide +kernel

theorem witness_testSignalEnd :
    let t : TestSig := { amp := 9, h := 1, f0 := 0, f1 := 0, len := 4, k := 4 }
    let h : Hw := passTime 0 ({ wHw.setFld CLE_TEST_running 1 with cle := { wHw.cle with test := some { amp := 9, h := 1, f0 := 0, f1 := 0, len := 4, k := 4 } } })
    h.ready 15 = true ∧ h.cle.test = some t ∧ t.len ≤ t.k := by decide +kernel

theorem witness_outputLimitAlarm :
    let l : Fin 32 := 3
    let k : Nat := 1
    let since : Nat := 0
    let h : Hw := passTime 0 ({ wHw.setFld (CLE_STATUS_mode 3) 1 with cle := { wHw.cle with loops := [(3, { satAt := some (1, 0) })] }, dtime := 10 ^ 9 })
    h.ready 15 = true ∧ loopMode h l ≠ 0 ∧ (h.loop l).satAt = some (k, since) ∧ (h.loop l).satSaid = false ∧ since + 10 ^ 9 ≤ h.dtime := by decide +kernel

theorem witness_loopSample :
    let l : Fin 32 := 3
    let d : List (List Nat) := [[70]]
    let h : Hw := passTime 0 ({ (((((setDeclared wHw 22 true).setFld (CLE_STATUS_mode 3) 1).setFld (CLE_CFG_src_kind 3) 1).setNum (CLE_COEF 3 4) 65536).setInt (CLE_MANUAL 3) 44).setFld (CLE_PERIOD_period 3) 1000 with cle := { wHw.cle with loops := [(3, { fresh := false, instant := 999 })] }, dtime := 10 ^ 9 })
    h.ready 15 = true ∧ sampleDue (h.each (List.range ((l : Nat) + 1)) catchUp) l = true := by decide +kernel

theorem witness_loopSample_2 :
    let l : Fin 32 := 3
    let d : List (List Nat) := [[70]]
    let h : Hw := passTime 0 wHw
    h.ready 15 = true ∧ sampleDue (h.each (List.range ((l : Nat) + 1)) catchUp) l = false := by decide +kernel

theorem witness_deadlineMiss :
    let l : Fin 32 := 3
    let h : Hw := passTime 0 ({ (wHw.setFld (CLE_STATUS_mode 3) 1).setFld (CLE_PERIOD_period 3) 1000 with dtime := 10 ^ 9 })
    h.ready 15 = true ∧ loopMode h l ≠ 0 ∧ (byMains h l = true → h.flag CLE_MAINS_valid = true ∧ (h.loop l).cycle = h.num64 MCV_MAINS_T) ∧ instantNext h l < instantNow h l := by decide +kernel

theorem witness_aouWrite :
  taken opAouWrite (rqOf 1 [1, 0, 0, 0, 5, 0, 0x12, 0x34]) (passTime 0 wHw) = true ∧ (
    let b : Hw := entered opAouWrite (rqOf 1 [1, 0, 0, 0, 5, 0, 0x12, 0x34]) (passTime 0 wHw)
    let c : Call := callOf opAouWrite (rqOf 1 [1, 0, 0, 0, 5, 0, 0x12, 0x34]) (passTime 0 wHw)
    ((List.range (u8 c.p 0)).findSome? fun j => writeRefused b (u8 (aouItem c.p j) 0)) = none) := by decide +kernel

theorem witness_outputUpdate :
    let h : Hw := passTime 0 ({ wHw with aou := { outs := [(5, { want := 77 })] }, dtime := 5000 })
    h.ready 15 = true ∧ h.dtime % 1000 = 0 ∧ h.aou.instant < h.dtime / 1000 := by decide +kernel

theorem witness_gateWrite :
    let o : Fin 24 := 5
    let k : Nat := 77
    let h : Hw := passTime 0 ({ wHw with aou := { outs := [(5, { gate := some 77 })] } })
    h.ready 15 = true ∧ (h.aouOut o).gate = some k := by decide +kernel

theorem witness_aouRangeSet :
  taken opAouRangeSet (rqOf 1 [5, 1, 0x10, 0]) (passTime 0 wHw) = true ∧ (
    let b : Hw := entered opAouRangeSet (rqOf 1 [5, 1, 0x10, 0]) (passTime 0 wHw)
    let c : Call := callOf opAouRangeSet (rqOf 1 [5, 1, 0x10, 0]) (passTime 0 wHw)
    (b.aouOut (u8 c.p 0)).change = none ∧ cleOwns b (u8 c.p 0) = false ∧ (fesOwners b (u8 c.p 0) = [] ∨ (fesOwners b (u8 c.p 0)).all (fun u => b.fld (FES_STATE_state u) == 0) = true)) := by decide +kernel

theorem witness_aouSafeSet :
  taken opAouSafeSet (rqOf 1 [5, 0x10, 0]) (passTime 0 wHw) = true ∧ (
    let b : Hw := entered opAouSafeSet (rqOf 1 [5, 0x10, 0]) (passTime 0 wHw)
    let c : Call := callOf opAouSafeSet (rqOf 1 [5, 0x10, 0]) (passTime 0 wHw)
    True) := by decide +kernel

theorem witness_aouDitherSet :
  taken opAouDitherSet (rqOf 1 [5, 2, 1, 0x10, 0]) (passTime 0 wHw) = true ∧ (
    let b : Hw := entered opAouDitherSet (rqOf 1 [5, 2, 1, 0x10, 0]) (passTime 0 wHw)
    let c : Call := callOf opAouDitherSet (rqOf 1 [5, 2, 1, 0x10, 0]) (passTime 0 wHw)
    isGate b (u8 c.p 0) = false ∧ isStageBias b (u8 c.p 0) = false) := by decide +kernel

theorem witness_aouGenSet :
  taken opAouGenSet (rqOf 1 [3, 3, 0, 0, 1, 0, 0, 0, 0, 7]) (passTime 0 wHw) = true ∧ (
    let b : Hw := entered opAouGenSet (rqOf 1 [3, 3, 0, 0, 1, 0, 0, 0, 0, 7]) (passTime 0 wHw)
    let c : Call := callOf opAouGenSet (rqOf 1 [3, 3, 0, 0, 1, 0, 0, 0, 0, 7]) (passTime 0 wHw)
    (genNamed b (u8 c.p 0) && (hasBit (u8 c.p 1) 1 || hasBit (u8 c.p 1) 0 && u32 c.p 2 != b.num (AOU_GEN_INC (u8 c.p 0)))) = false) := by decide +kernel

theorem witness_aouTableLoad :
  taken opAouTableLoad (rqOf 1 [2, 0, 0, 4, 0, 2, 0x7F, 0xFF, 0x80, 0]) (passTime 0 wHw) = true ∧ (
    let b : Hw := entered opAouTableLoad (rqOf 1 [2, 0, 0, 4, 0, 2, 0x7F, 0xFF, 0x80, 0]) (passTime 0 wHw)
    let c : Call := callOf opAouTableLoad (rqOf 1 [2, 0, 0, 4, 0, 2, 0x7F, 0xFF, 0x80, 0]) (passTime 0 wHw)
    hasBit (u8 c.p 1) 1 = false ∧ hasBit (u8 c.p 1) 0 = false) := by decide +kernel

theorem witness_aouTableLoad_2 :
  taken opAouTableLoad (rqOf 1 [2, 2, 0, 0, 0, 0]) (passTime 0 wHw) = true ∧ (
    let b : Hw := entered opAouTableLoad (rqOf 1 [2, 2, 0, 0, 0, 0]) (passTime 0 wHw)
    let c : Call := callOf opAouTableLoad (rqOf 1 [2, 2, 0, 0, 0, 0]) (passTime 0 wHw)
    hasBit (u8 c.p 1) 1 = true ∨ (hasBit (u8 c.p 1) 0 = true ∧ coverFull (loadEntries b (u8 c.p 0) (u16 c.p 2) (u16 c.p 4) (c.p.drop 6)) (3 + u8 c.p 0) = true)) := by decide +kernel

theorem witness_aouStatusRead :
  taken opAouStatusRead (rqOf 0 [0, 0, 0, 0x21]) (passTime 0 wHw) = true ∧ (
    let b : Hw := entered opAouStatusRead (rqOf 0 [0, 0, 0, 0x21]) (passTime 0 wHw)
    let c : Call := callOf opAouStatusRead (rqOf 0 [0, 0, 0, 0x21]) (passTime 0 wHw)
    True) := by decide +kernel

theorem witness_complianceFail :
    let o : Fin 24 := 5
    let h : Hw := passTime 0 ({ wHw with aou := { outs := [(5, { want := 700 })] } })
    h.ready 15 = true ∧ h.flag (AOU_OSTAT_comp o) = false ∧ 65535 ≤ 100 * ((h.aouOut o).gate.getD (h.aouOut o).want) := by decide +kernel

theorem witness_complianceRegained :
    let o : Fin 24 := 5
    let h : Hw := passTime 0 (wHw.setFld (AOU_OSTAT_comp 5) 1)
    h.ready 15 = true ∧ h.flag (AOU_OSTAT_comp o) = true := by decide +kernel

theorem witness_rangeSwitch :
    let o : Fin 24 := 5
    let r : Nat := 1
    let k : Nat := 77
    let old : Nat := 0
    let keep : Nat := 0
    let h : Hw := passTime 0 ({ wHw.setFld (AOU_OSTAT_ranging 5) 1 with aou := { outs := [(5, { change := some (1, 77, 0, 0) })] }, dtime := 1000 })
    (h.aouOut o).change = some (r, k, old, keep) ∧ h.flag (AOU_OSTAT_ranging o) = true ∧ (h.aouOut o).changeAt + 1000 ≤ h.dtime := by decide +kernel

theorem witness_rangeChangeComplete :
    let o : Fin 24 := 5
    let r : Nat := 1
    let k : Nat := 77
    let old : Nat := 0
    let keep : Nat := 0
    let h : Hw := passTime 0 ({ (wHw.setFld (AOU_OSTAT_ranging 5) 1).setFld (AOU_OCFG_range 5) 1 with aou := { outs := [(5, { change := some (1, 77, 0, 0) })] }, dtime := 21000 })
    (h.aouOut o).change = some (r, k, old, keep) ∧ h.flag (AOU_OSTAT_ranging o) = true ∧ h.fld (AOU_OCFG_range o) = r ∧ (h.aouOut o).changeAt + 21000 ≤ h.dtime := by decide +kernel

theorem witness_mcvConfig :
  taken opMcvConfig (rqOf 1 [2, 1, 0x10, 0]) (passTime 0 wHw) = true ∧ (
    let b : Hw := entered opMcvConfig (rqOf 1 [2, 1, 0x10, 0]) (passTime 0 wHw)
    let c : Call := callOf opMcvConfig (rqOf 1 [2, 1, 0x10, 0]) (passTime 0 wHw)
    True) := by decide +kernel

theorem witness_mcvSeqLoad :
  taken opMcvSeqLoad (rqOf 1 ([3, 1, 0, 0] ++ zeros 32)) (passTime 0 wHw) = true ∧ (
    let b : Hw := entered opMcvSeqLoad (rqOf 1 ([3, 1, 0, 0] ++ zeros 32)) (passTime 0 wHw)
    let c : Call := callOf opMcvSeqLoad (rqOf 1 ([3, 1, 0, 0] ++ zeros 32)) (passTime 0 wHw)
    hasBit (u8 c.p 2) 0 = false) := by decide +kernel

theorem witness_mcvSeqLoad_2 :
  taken opMcvSeqLoad (rqOf 1 ([3, 1, 1, 0] ++ zeros 32)) (passTime 0 ({ wHw with mem := { wHw.mem with words := (List.range 256).map fun i => (MCV_SEQ 0 0 / 2 + i, true) } })) = true ∧ (
    let b : Hw := entered opMcvSeqLoad (rqOf 1 ([3, 1, 1, 0] ++ zeros 32)) (passTime 0 ({ wHw with mem := { wHw.mem with words := (List.range 256).map fun i => (MCV_SEQ 0 0 / 2 + i, true) } }))
    let c : Call := callOf opMcvSeqLoad (rqOf 1 ([3, 1, 1, 0] ++ zeros 32)) (passTime 0 ({ wHw with mem := { wHw.mem with words := (List.range 256).map fun i => (MCV_SEQ 0 0 / 2 + i, true) } }))
    hasBit (u8 c.p 2) 0 = true ∧ coverFull (putWords b (MCV_SEQ (u8 c.p 0) 0) ((List.range (8 * u8 c.p 1)).map fun i => u32 c.p (4 + 4 * i))) 2 = true) := by decide +kernel

theorem witness_mcvSeqStore :
  taken opMcvSeqStore (rqOf 1 []) (passTime 0 (wHw.setFld MCV_STATUS_declared 1)) = true ∧ (
    let b : Hw := entered opMcvSeqStore (rqOf 1 []) (passTime 0 (wHw.setFld MCV_STATUS_declared 1))
    let c : Call := callOf opMcvSeqStore (rqOf 1 []) (passTime 0 (wHw.setFld MCV_STATUS_declared 1))
    b.flag MCV_STATUS_declared = true) := by decide +kernel

theorem witness_mcvSeqRead :
  taken opMcvSeqRead (rqOf 0 [3, 1]) (passTime 0 (setDeclared wHw 2 true)) = true ∧ (
    let b : Hw := entered opMcvSeqRead (rqOf 0 [3, 1]) (passTime 0 (setDeclared wHw 2 true))
    let c : Call := callOf opMcvSeqRead (rqOf 0 [3, 1]) (passTime 0 (setDeclared wHw 2 true))
    b.declared 2 = true) := by decide +kernel

theorem witness_mcvResultRead :
  taken opMcvResultRead (rqOf 0 [0, 0, 0, 0, 0, 0, 0, 9]) (passTime 0 wHw) = true ∧ (
    let b : Hw := entered opMcvResultRead (rqOf 0 [0, 0, 0, 0, 0, 0, 0, 9]) (passTime 0 wHw)
    let c : Call := callOf opMcvResultRead (rqOf 0 [0, 0, 0, 0, 0, 0, 0, 9]) (passTime 0 wHw)
    True) := by decide +kernel

theorem witness_mcvPlausRun :
  taken opMcvPlausRun (rqOf 1 [1, 4]) (passTime 0 wHw) = true ∧ (
    let b : Hw := entered opMcvPlausRun (rqOf 1 [1, 4]) (passTime 0 wHw)
    let c : Call := callOf opMcvPlausRun (rqOf 1 [1, 4]) (passTime 0 wHw)
    ((bitsOf 2 (u8 c.p 0)).any fun p => (pairConvs p).any (quarantined b)) = false) := by decide +kernel

theorem witness_mcvUnquarantine :
  taken opMcvUnquarantine (rqOf 1 [1]) (passTime 0 (wHw.setFld MCV_STATUS_quar 2)) = true ∧ (
    let b : Hw := entered opMcvUnquarantine (rqOf 1 [1]) (passTime 0 (wHw.setFld MCV_STATUS_quar 2))
    let c : Call := callOf opMcvUnquarantine (rqOf 1 [1]) (passTime 0 (wHw.setFld MCV_STATUS_quar 2))
    quarantined b (u8 c.p 0) = true ∧ quarantined b (convPartner (u8 c.p 0)) = false) := by decide +kernel

theorem witness_mcvStatusRead :
  taken opMcvStatusRead (rqOf 0 [1]) (passTime 0 (wHw.setNum MCV_OVER_N 5)) = true ∧ (
    let b : Hw := entered opMcvStatusRead (rqOf 0 [1]) (passTime 0 (wHw.setNum MCV_OVER_N 5))
    let c : Call := callOf opMcvStatusRead (rqOf 0 [1]) (passTime 0 (wHw.setNum MCV_OVER_N 5))
    True) := by decide +kernel

theorem witness_plausRoundEnd :
    let p : Fin 2 := 0
    let a : Nat := 100
    let b : Nat := 101
    let x : Nat := 5
    let y : Nat := 5
    let z : Plaus := Plaus.mk 8 2 0 1 0 0
    let h : Hw := passTime 0 ({ wHw.setFld MCV_CFG_tol 50 with mcv := { wHw.mcv with plaus := [(0, some (Plaus.mk 8 2 0 1 0 0))] }, dtime := 4004000 })
    h.ready 16 = true ∧ Map.get none h.mcv.plaus p = some z ∧ z.since + 4004000 ≤ h.dtime ∧ max (absDiff a b) (absDiff x y) ≤ h.fld MCV_CFG_tol ∧ z.passed + 1 < z.total := by decide +kernel

theorem witness_plausRoundEnd_2 :
    let p : Fin 2 := 0
    let a : Nat := 100
    let b : Nat := 101
    let x : Nat := 5
    let y : Nat := 5
    let z : Plaus := Plaus.mk 8 7 0 1 0 0
    let h : Hw := passTime 0 ({ wHw.setFld MCV_CFG_tol 50 with mcv := { wHw.mcv with plaus := [(0, some (Plaus.mk 8 7 0 1 0 0))] }, dtime := 4004000 })
    h.ready 16 = true ∧ Map.get none h.mcv.plaus p = some z ∧ z.since + 4004000 ≤ h.dtime ∧ max (absDiff a b) (absDiff x y) ≤ h.fld MCV_CFG_tol ∧ z.total ≤ z.passed + 1 := by decide +kernel

theorem witness_plausRoundEnd_3 :
    let p : Fin 2 := 0
    let a : Nat := 10000
    let b : Nat := 1000
    let x : Nat := 5
    let y : Nat := 5
    let z : Plaus := Plaus.mk 8 2 0 1 0 0
    let h : Hw := passTime 0 ({ wHw.setFld MCV_CFG_tol 50 with mcv := { wHw.mcv with plaus := [(0, some (Plaus.mk 8 2 0 1 0 0))] }, dtime := 4004000 })
    h.ready 16 = true ∧ Map.get none h.mcv.plaus p = some z ∧ z.since + 4004000 ≤ h.dtime ∧ h.fld MCV_CFG_tol < max (absDiff a b) (absDiff x y) := by decide +kernel

theorem witness_suppressionEnd :
    let k : Fin 4 := 1
    let h : Hw := passTime 0 ({ wHw with mcv := { wHw.mcv with conv := [(1, { phase := 1 })] }, dtime := 5000 })
    h.ready 16 = true ∧ (h.conv k).phase = 1 ∧ (h.conv k).since + profSuppression (eProf (h.conv k).words) ≤ h.dtime := by decide +kernel

theorem witness_conversionWindowEnd :
    let k : Fin 4 := 1
    let ones : Nat := 500
    let n : Nat := 1024
    let fir : Nat := 70000
    let h : Hw := passTime 0 ({ wHw with mcv := { wHw.mcv with conv := [(1, { phase := 2, entry := 9, left := 1, len := 100000, words := [0x84020064, 0x00010005, 65536, 0, 0, 0, 0, 0] })] }, dtime := 100000 })
    h.ready 16 = true ∧ (h.conv k).phase = 2 ∧ n ≠ 0 ∧ periodsFit (h.conv k).len n = true ∧ ones ≤ n ∧ (h.conv k).since + (h.conv k).len ≤ h.dtime := by decide +kernel

theorem witness_entryDelayEnd :
    let k : Fin 4 := 1
    let h : Hw := passTime 0 ({ wHw with mcv := { wHw.mcv with conv := [(1, { phase := 3 })] } })
    h.ready 16 = true ∧ (h.conv k).phase = 3 ∧ (h.conv k).since + eDelay (h.conv k).words * 1000 ≤ h.dtime := by decide +kernel

theorem witness_mainsEdge :
    let h : Hw := passTime 0 ({ wHw.setFld MCV_CFG_mains_src 0 with dtime := 50000 })
    h.ready 16 = true ∧ mainsSrc h = 0 ∧ h.mcv.edge = none := by decide +kernel

theorem witness_mainsEdge_2 :
    let t : Nat := 0
    let h : Hw := passTime 0 ({ wHw.setFld MCV_CFG_mains_src 0 with mcv := { wHw.mcv with edge := some 0, period := 20000000, goodRun := 3 }, dtime := 20020000 })
    h.ready 16 = true ∧ mainsSrc h = 0 ∧ h.mcv.edge = some t ∧ t + 10 ^ 7 ≤ h.dtime - 20000 ∧ 10 ^ 9 ≤ (h.dtime - 20000 - t) * 62 ∧ (h.dtime - 20000 - t) * 48 ≤ 10 ^ 9 := by decide +kernel

theorem witness_mainsEdge_3 :
    let t : Nat := 0
    let h : Hw := passTime 0 ({ wHw.setFld MCV_CFG_mains_src 0 with mcv := { wHw.mcv with edge := some 0, period := 20000000, goodRun := 3 }, dtime := 30020000 })
    h.ready 16 = true ∧ mainsSrc h = 0 ∧ h.mcv.edge = some t ∧ t + 10 ^ 7 ≤ h.dtime - 20000 ∧ ¬ (10 ^ 9 ≤ (h.dtime - 20000 - t) * 62 ∧ (h.dtime - 20000 - t) * 48 ≤ 10 ^ 9) := by decide +kernel

theorem witness_mainsTimeout :
    let t : Nat := 0
    let h : Hw := passTime 0 ({ (wHw.setFld MCV_CFG_mains_src 0).setFld MCV_MAINS_valid 1 with mcv := { wHw.mcv with edge := some 0 }, dtime := 25000000 })
    h.ready 16 = true ∧ mainsSrc h = 0 ∧ h.mcv.edge = some t ∧ t + 25 * 10 ^ 6 ≤ h.dtime := by decide +kernel

theorem witness_gthConfig :
  taken opGthConfig (rqOf 1 [2, 0, 4, 0, 0, 0, 0, 5, 0, 0, 0, 0, 0, 0, 0, 9, 0, 0, 0, 0, 0, 0, 0, 8, 0, 0, 0, 4, 0, 7, 0, 1]) (passTime 0 wHw) = true ∧ (
    let b : Hw := entered opGthConfig (rqOf 1 [2, 0, 4, 0, 0, 0, 0, 5, 0, 0, 0, 0, 0, 0, 0, 9, 0, 0, 0, 0, 0, 0, 0, 8, 0, 0, 0, 4, 0, 7, 0, 1]) (passTime 0 wHw)
    let c : Call := callOf opGthConfig (rqOf 1 [2, 0, 4, 0, 0, 0, 0, 5, 0, 0, 0, 0, 0, 0, 0, 9, 0, 0, 0, 0, 0, 0, 0, 8, 0, 0, 0, 4, 0, 7, 0, 1]) (passTime 0 wHw)
    gthIdle b = true) := by decide +kernel

theorem witness_gthTrigConfig :
  taken opGthTrigConfig (rqOf 1 [3, 1, 1, 2, 7, 0, 0, 0, 0, 0, 0, 9, 0x0E, 1, 0xFF, 0]) (passTime 0 wHw) = true ∧ (
    let b : Hw := entered opGthTrigConfig (rqOf 1 [3, 1, 1, 2, 7, 0, 0, 0, 0, 0, 0, 9, 0x0E, 1, 0xFF, 0]) (passTime 0 wHw)
    let c : Call := callOf opGthTrigConfig (rqOf 1 [3, 1, 1, 2, 7, 0, 0, 0, 0, 0, 0, 9, 0x0E, 1, 0xFF, 0]) (passTime 0 wHw)
    gthIdle b = true) := by decide +kernel

theorem witness_gthArm :
  taken opGthArm (rqOf 1 []) (passTime 0 ((wHw.setNum GTH_SRC 1).setFld GTH_TRIG_enable 1)) = true ∧ (
    let b : Hw := entered opGthArm (rqOf 1 []) (passTime 0 ((wHw.setNum GTH_SRC 1).setFld GTH_TRIG_enable 1))
    let c : Call := callOf opGthArm (rqOf 1 []) (passTime 0 ((wHw.setNum GTH_SRC 1).setFld GTH_TRIG_enable 1))
    b.num GTH_SRC % 32 ≠ 0 ∧ b.fld GTH_TRIG_enable ≠ 0) := by decide +kernel

theorem witness_gthTrigger :
  taken opGthTrigger (rqOf 1 []) (passTime 0 ((wHw.setFld GTH_TRIG_enable 1).setFld GTH_STATE_state 2)) = true ∧ (
    let b : Hw := entered opGthTrigger (rqOf 1 []) (passTime 0 ((wHw.setFld GTH_TRIG_enable 1).setFld GTH_STATE_state 2))
    let c : Call := callOf opGthTrigger (rqOf 1 []) (passTime 0 ((wHw.setFld GTH_TRIG_enable 1).setFld GTH_STATE_state 2))
    hasBit (b.fld GTH_TRIG_enable) 0 = true) := by decide +kernel

theorem witness_gthTrigger_2 :
  taken opGthTrigger (rqOf 1 []) (passTime 0 (wHw.setFld GTH_TRIG_enable 0)) = true ∧ (
    let b : Hw := entered opGthTrigger (rqOf 1 []) (passTime 0 (wHw.setFld GTH_TRIG_enable 0))
    let c : Call := callOf opGthTrigger (rqOf 1 []) (passTime 0 (wHw.setFld GTH_TRIG_enable 0))
    hasBit (b.fld GTH_TRIG_enable) 0 = false) := by decide +kernel

theorem witness_gthStop :
  taken opGthStop (rqOf 1 []) (passTime 0 (wHw.setFld GTH_STATE_state 2)) = true ∧ (
    let b : Hw := entered opGthStop (rqOf 1 []) (passTime 0 (wHw.setFld GTH_STATE_state 2))
    let c : Call := callOf opGthStop (rqOf 1 []) (passTime 0 (wHw.setFld GTH_STATE_state 2))
    True) := by decide +kernel

theorem witness_gthRead :
  taken opGthRead (rqOf 0 [2, 0, 0, 0, 0, 0, 0, 0, 1]) (passTime 0 ({ wHw.setFld (GTH_SEG_closed 2) 1 with gth := { wHw.gth with segs := [(2, [GBlock.mk 1 0 0 1 64 [1, 2]])] } })) = true ∧ (
    let b : Hw := entered opGthRead (rqOf 0 [2, 0, 0, 0, 0, 0, 0, 0, 1]) (passTime 0 ({ wHw.setFld (GTH_SEG_closed 2) 1 with gth := { wHw.gth with segs := [(2, [GBlock.mk 1 0 0 1 64 [1, 2]])] } }))
    let c : Call := callOf opGthRead (rqOf 0 [2, 0, 0, 0, 0, 0, 0, 0, 1]) (passTime 0 ({ wHw.setFld (GTH_SEG_closed 2) 1 with gth := { wHw.gth with segs := [(2, [GBlock.mk 1 0 0 1 64 [1, 2]])] } }))
    b.flag (GTH_SEG_closed (u8 c.p 0)) = true ∧ u32 c.p 4 + u8 c.p 8 ≤ (Map.get [] b.gth.segs (u8 c.p 0)).length) := by decide +kernel

theorem witness_gthStatusRead :
  taken opGthStatusRead (rqOf 0 []) (passTime 0 wHw) = true ∧ (
    let b : Hw := entered opGthStatusRead (rqOf 0 []) (passTime 0 wHw)
    let c : Call := callOf opGthStatusRead (rqOf 0 []) (passTime 0 wHw)
    True) := by decide +kernel

theorem witness_gthPmcConfig :
  taken opGthPmcConfig (rqOf 1 [2, 0, 0x90, 1]) (passTime 0 wHw) = true ∧ (
    let b : Hw := entered opGthPmcConfig (rqOf 1 [2, 0, 0x90, 1]) (passTime 0 wHw)
    let c : Call := callOf opGthPmcConfig (rqOf 1 [2, 0, 0x90, 1]) (passTime 0 wHw)
    b.flag (GTH_PMC_CFG_run (u8 c.p 0)) = false) := by decide +kernel

theorem witness_gthPmcCtrl :
  taken opGthPmcCtrl (rqOf 1 [5, 0]) (passTime 0 wHw) = true ∧ (
    let b : Hw := entered opGthPmcCtrl (rqOf 1 [5, 0]) (passTime 0 wHw)
    let c : Call := callOf opGthPmcCtrl (rqOf 1 [5, 0]) (passTime 0 wHw)
    u8 c.p 1 = 0) := by decide +kernel

theorem witness_gthPmcCtrl_2 :
  taken opGthPmcCtrl (rqOf 1 [5, 1]) (passTime 0 wHw) = true ∧ (
    let b : Hw := entered opGthPmcCtrl (rqOf 1 [5, 1]) (passTime 0 wHw)
    let c : Call := callOf opGthPmcCtrl (rqOf 1 [5, 1]) (passTime 0 wHw)
    u8 c.p 1 = 1) := by decide +kernel

theorem witness_gthPmcCtrl_3 :
  taken opGthPmcCtrl (rqOf 1 [5, 2]) (passTime 0 (wHw.setNum (GTH_PMC 2) 9)) = true ∧ (
    let b : Hw := entered opGthPmcCtrl (rqOf 1 [5, 2]) (passTime 0 (wHw.setNum (GTH_PMC 2) 9))
    let c : Call := callOf opGthPmcCtrl (rqOf 1 [5, 2]) (passTime 0 (wHw.setNum (GTH_PMC 2) 9))
    u8 c.p 1 = 2) := by decide +kernel

theorem witness_gthCountRead :
  taken opGthCountRead (rqOf 1 [3, 0xFF]) (passTime 0 wHw) = true ∧ (
    let b : Hw := entered opGthCountRead (rqOf 1 [3, 0xFF]) (passTime 0 wHw)
    let c : Call := callOf opGthCountRead (rqOf 1 [3, 0xFF]) (passTime 0 wHw)
    True) := by decide +kernel

theorem witness_gthCounterOpen :
  taken opGthCounterOpen (rqOf 1 [1]) (passTime 0 wHw) = true ∧ (
    let b : Hw := entered opGthCounterOpen (rqOf 1 [1]) (passTime 0 wHw)
    let c : Call := callOf opGthCounterOpen (rqOf 1 [1]) (passTime 0 wHw)
    True) := by decide +kernel

theorem witness_captureBlockWrite :
    let ls : List (Nat × Byte) := []
    let ds : List (Nat × Nat) := []
    let h : Hw := passTime 0 ({ wHw.setFld GTH_STATE_state 2 with gth := { wHw.gth with urgent := [GBlock.mk 7 0 0 1 64 []] } })
    h.ready 17 = true := by decide +kernel

theorem witness_triggerCandidate :
    let ri : Bool := true
    let hl : Nat := 20
    let fr : Nat := 7
    let h : Hw := passTime 0 ((wHw.setFld GTH_TRIG_enable 2).setFld GTH_STATE_state 2)
    h.ready 17 = true ∧ hasBit (h.fld GTH_TRIG_enable) 1 = true ∧ ri = true ∧ 20 ≤ hl := by decide +kernel

theorem witness_memTableFill :
  taken opMemTableFill (rqOf 1 [1, 1, 0, 0, 0, 0, 0, 0, 0, 0, 0, 0]) (passTime 0 wHw) = true ∧ (
    let b : Hw := entered opMemTableFill (rqOf 1 [1, 1, 0, 0, 0, 0, 0, 0, 0, 0, 0, 0]) (passTime 0 wHw)
    let c : Call := callOf opMemTableFill (rqOf 1 [1, 1, 0, 0, 0, 0, 0, 0, 0, 0, 0, 0]) (passTime 0 wHw)
    fillCond b (u8 c.p 0) = none) := by decide +kernel

theorem witness_memTableDeclare :
  taken opMemTableDeclare (rqOf 1 [1]) (passTime 0 ({ wHw with mem := { wHw.mem with whole := [(1, true)] } })) = true ∧ (
    let b : Hw := entered opMemTableDeclare (rqOf 1 [1]) (passTime 0 ({ wHw with mem := { wHw.mem with whole := [(1, true)] } }))
    let c : Call := callOf opMemTableDeclare (rqOf 1 [1]) (passTime 0 ({ wHw with mem := { wHw.mem with whole := [(1, true)] } }))
    coverFull b (u8 c.p 0) = true) := by decide +kernel

theorem witness_memConfig :
  taken opMemConfig (rqOf 1 [0, 1, 0, 2, 0, 3, 0, 4, 0, 5]) (passTime 0 wHw) = true ∧ (
    let b : Hw := entered opMemConfig (rqOf 1 [0, 1, 0, 2, 0, 3, 0, 4, 0, 5]) (passTime 0 wHw)
    let c : Call := callOf opMemConfig (rqOf 1 [0, 1, 0, 2, 0, 3, 0, 4, 0, 5]) (passTime 0 wHw)
    True) := by decide +kernel

theorem witness_memStatusRead :
  taken opMemStatusRead (rqOf 0 [1]) (passTime 0 wHw) = true ∧ (
    let b : Hw := entered opMemStatusRead (rqOf 0 [1]) (passTime 0 wHw)
    let c : Call := callOf opMemStatusRead (rqOf 0 [1]) (passTime 0 wHw)
    True) := by decide +kernel

theorem witness_memLogRead :
  taken opMemLogRead (rqOf 0 []) (passTime 0 ({ wHw with mem := { wHw.mem with log := [MemErr.mk 4 0 9 3 0 77] } })) = true ∧ (
    let b : Hw := entered opMemLogRead (rqOf 0 []) (passTime 0 ({ wHw with mem := { wHw.mem with log := [MemErr.mk 4 0 9 3 0 77] } }))
    let c : Call := callOf opMemLogRead (rqOf 0 []) (passTime 0 ({ wHw with mem := { wHw.mem with log := [MemErr.mk 4 0 9 3 0 77] } }))
    True) := by decide +kernel

theorem witness_memRepairRead :
  taken opMemRepairRead (rqOf 0 [4]) (passTime 0 wHw) = true ∧ (
    let b : Hw := entered opMemRepairRead (rqOf 0 [4]) (passTime 0 wHw)
    let c : Call := callOf opMemRepairRead (rqOf 0 [4]) (passTime 0 wHw)
    True) := by decide +kernel

theorem witness_scrubVisit :
    let w : ScrubWord := ScrubWord.mk 4 0 9 1 0 3 [5]
    let h : Hw := passTime 0 wHw
    (∀ x, wordDomain w = some x → h.ready x = true) ∧ w.mem ≠ 0 ∧ w.mem ≠ 1 ∧ (w.mem < 7 ∨ 12 < w.mem) ∧ w.kind = 0 := by decide +kernel

theorem witness_scrubVisit_2 :
    let w : ScrubWord := ScrubWord.mk 4 0 9 1 1 3 [5]
    let h : Hw := passTime 0 wHw
    (∀ x, wordDomain w = some x → h.ready x = true) ∧ w.mem ≠ 0 ∧ w.mem ≠ 1 ∧ (w.mem < 7 ∨ 12 < w.mem) ∧ w.kind = 1 := by decide +kernel

theorem witness_scrubVisit_3 :
    let w : ScrubWord := ScrubWord.mk 4 0 9 1 2 3 [5]
    let h : Hw := passTime 0 wHw
    (∀ x, wordDomain w = some x → h.ready x = true) ∧ w.mem ≠ 0 ∧ w.mem ≠ 1 ∧ (w.mem < 7 ∨ 12 < w.mem) ∧ w.kind = 2 := by decide +kernel

theorem witness_scrubVisit_4 :
    let w : ScrubWord := ScrubWord.mk 1 0 9 1 1 3 [7]
    let h : Hw := passTime 0 ({ setDeclared wHw 1 true with mem := { (setDeclared wHw 1 true).mem with joined := [(1, true)] } })
    h.ready 14 = true ∧ w.mem = 1 ∧ h.declared 1 = true ∧ lapHolds h 1 = true ∧ w.kind ≤ 1 := by decide +kernel

theorem witness_scrubVisit_5 :
    let w : ScrubWord := ScrubWord.mk 1 0 9 1 2 3 [7]
    let h : Hw := passTime 0 ({ setDeclared wHw 1 true with mem := { (setDeclared wHw 1 true).mem with joined := [(1, true)] } })
    h.ready 14 = true ∧ w.mem = 1 ∧ h.declared 1 = true ∧ lapHolds h 1 = true ∧ w.kind = 2 := by decide +kernel

theorem witness_scrubVisit_6 :
    let w : ScrubWord := ScrubWord.mk 0 0 9 1 2 3 [7]
    let h : Hw := passTime 0 ({ setDeclared wHw 0 true with mem := { (setDeclared wHw 0 true).mem with joined := [(0, true)] } })
    h.ready 14 = true ∧ w.mem = 0 ∧ h.declared 0 = true ∧ lapHolds h 0 = true ∧ w.kind = 2 := by decide +kernel

theorem witness_scrubVisit_7 :
    let w : ScrubWord := ScrubWord.mk 7 0 9 1 1 3 [MCV_SEQ 0 0]
    let k : Nat := 16
    let t : Nat := 2
    let h : Hw := passTime 0 ({ setDeclared wHw 2 true with mem := { (setDeclared wHw 2 true).mem with joined := [(2, true)] } })
    h.ready k = true ∧ memDomain w.mem = some k ∧ 7 ≤ w.mem ∧ w.mem ≤ 12 ∧ tableOf (w.item.headD 0) = some t ∧ h.declared t = true ∧ lapHolds h t = true ∧ tableMem t = w.mem ∧ (w.kind = 1 ∨ w.kind = 2) := by decide +kernel

theorem witness_scrubLapComplete :
    let r : Fin 5 := 0
    let h : Hw := passTime 0 wHw
    ((r : Nat) ≤ 1 → h.ready 14 = true) ∧ ((r : Nat) = 2 → h.ready 17 = true) ∧ ((r : Nat) = 4 → h.ready 15 = true ∨ h.ready 16 = true) ∧ Map.get false h.mem.broken r = false := by decide +kernel

theorem witness_pwrDomainRead :
  taken opPwrDomainRead (rqOf 0 [0, 0, 0x40, 1]) (passTime 0 wHw) = true ∧ (
    let b : Hw := entered opPwrDomainRead (rqOf 0 [0, 0, 0x40, 1]) (passTime 0 wHw)
    let c : Call := callOf opPwrDomainRead (rqOf 0 [0, 0, 0x40, 1]) (passTime 0 wHw)
    True) := by decide +kernel

theorem witness_pwrWake :
  taken opPwrWake (rqOf 1 [0, 0, 0x40, 1, 0]) (passTime 0 wHw) = true ∧ (
    let b : Hw := entered opPwrWake (rqOf 1 [0, 0, 0x40, 1, 0]) (passTime 0 wHw)
    let c : Call := callOf opPwrWake (rqOf 1 [0, 0, 0x40, 1, 0]) (passTime 0 wHw)
    (bitsOf 20 (u32 c.p 0)).any b.fenced = false ∧ (bitsOf 20 (u32 c.p 0)).all (fun d => b.ready d && (!hasBit (u8 c.p 4) 0 || b.flag (PWR_DOM_analog d))) = true) := by decide +kernel

theorem witness_pwrWake_2 :
  taken opPwrWake (rqOf 1 [0, 0, 0x40, 0, 0]) (passTime 0 (wHw.setFld (PWR_DOM_state 14) 0)) = true ∧ (
    let b : Hw := entered opPwrWake (rqOf 1 [0, 0, 0x40, 0, 0]) (passTime 0 (wHw.setFld (PWR_DOM_state 14) 0))
    let c : Call := callOf opPwrWake (rqOf 1 [0, 0, 0x40, 0, 0]) (passTime 0 (wHw.setFld (PWR_DOM_state 14) 0))
    (bitsOf 20 (u32 c.p 0)).any b.fenced = false ∧ (bitsOf 20 (u32 c.p 0)).all (fun d => b.ready d && (!hasBit (u8 c.p 4) 0 || b.flag (PWR_DOM_analog d))) = false) := by decide +kernel

theorem witness_pwrSleep :
  taken opPwrSleep (rqOf 1 [0, 0, 0x40, 0]) (passTime 0 wHw) = true ∧ (
    let b : Hw := entered opPwrSleep (rqOf 1 [0, 0, 0x40, 0]) (passTime 0 wHw)
    let c : Call := callOf opPwrSleep (rqOf 1 [0, 0, 0x40, 0]) (passTime 0 wHw)
    b.pwr.lehr = none ∧ (beginSleep b (u32 c.p 0) 0 0 false).pwr.sleep.isSome = true) := by decide +kernel

theorem witness_pwrSleep_2 :
  taken opPwrSleep (rqOf 1 [0, 0, 0x40, 0]) (passTime 0 (wHw.setFld (PWR_DOM_state 14) 0)) = true ∧ (
    let b : Hw := entered opPwrSleep (rqOf 1 [0, 0, 0x40, 0]) (passTime 0 (wHw.setFld (PWR_DOM_state 14) 0))
    let c : Call := callOf opPwrSleep (rqOf 1 [0, 0, 0x40, 0]) (passTime 0 (wHw.setFld (PWR_DOM_state 14) 0))
    b.pwr.lehr = none ∧ (beginSleep b (u32 c.p 0) 0 0 false).pwr.sleep = none) := by decide +kernel

theorem witness_pwrFence :
  taken opPwrFence (rqOf 2 (signed ([0, 0, 0x40, 0, 1]) 0x7096823e46bf00a43b97130fcba2cd695c757d640caaf962f147a626796945bd926e8bcd53bfe7f3ff48f002e19b64146bedd2b21a5b80e1aa4f3d9943a9fc430c049ef48e363ea0a90576e6fc86dac4ae29f3444f096f5460ffb1e2eb70004f)) (passTime 0 wKeys) = true ∧ (
    let b : Hw := entered opPwrFence (rqOf 2 (signed ([0, 0, 0x40, 0, 1]) 0x7096823e46bf00a43b97130fcba2cd695c757d640caaf962f147a626796945bd926e8bcd53bfe7f3ff48f002e19b64146bedd2b21a5b80e1aa4f3d9943a9fc430c049ef48e363ea0a90576e6fc86dac4ae29f3444f096f5460ffb1e2eb70004f)) (passTime 0 wKeys)
    let c : Call := callOf opPwrFence (rqOf 2 (signed ([0, 0, 0x40, 0, 1]) 0x7096823e46bf00a43b97130fcba2cd695c757d640caaf962f147a626796945bd926e8bcd53bfe7f3ff48f002e19b64146bedd2b21a5b80e1aa4f3d9943a9fc430c049ef48e363ea0a90576e6fc86dac4ae29f3444f096f5460ffb1e2eb70004f)) (passTime 0 wKeys)
    True) := by decide +kernel

theorem witness_pwrDomainReset :
  taken opPwrDomainReset (rqOf 2 (signed ([14]) 0x1b07b77dfd0b021e9d2436010839c5031ea243b957df4b07be13cebb50ab30016a32bfabea9586228a17ec01bb5916b75e2dc4049a78b000826d593ba1583fca59ea9a0637235f00d924ade57538e0205e3c76f69eac61a5c33cd939750301b)) (passTime 0 wKeys) = true ∧ (
    let b : Hw := entered opPwrDomainReset (rqOf 2 (signed ([14]) 0x1b07b77dfd0b021e9d2436010839c5031ea243b957df4b07be13cebb50ab30016a32bfabea9586228a17ec01bb5916b75e2dc4049a78b000826d593ba1583fca59ea9a0637235f00d924ade57538e0205e3c76f69eac61a5c33cd939750301b)) (passTime 0 wKeys)
    let c : Call := callOf opPwrDomainReset (rqOf 2 (signed ([14]) 0x1b07b77dfd0b021e9d2436010839c5031ea243b957df4b07be13cebb50ab30016a32bfabea9586228a17ec01bb5916b75e2dc4049a78b000826d593ba1583fca59ea9a0637235f00d924ade57538e0205e3c76f69eac61a5c33cd939750301b)) (passTime 0 wKeys)
    True) := by decide +kernel

theorem witness_pwrLehrRun :
  taken opPwrLehrRun (rqOf 2 (signed ([14]) 0x5291e53acf8642bb193f91a9d64a2cdb22dad87075155a66f3d84f699a103441c86ab08c773ae8f36b8e1aefda97bf876178932d42d8edc64014646ae15525656fd0c127796fbb200fc0beafe2a78fa2b1a35149572f14adbba596ae6ed8411)) (passTime 0 (wKeys.setFld PWR_OP_STATUS_vcore_mv 750)) = true ∧ (
    let b : Hw := entered opPwrLehrRun (rqOf 2 (signed ([14]) 0x5291e53acf8642bb193f91a9d64a2cdb22dad87075155a66f3d84f699a103441c86ab08c773ae8f36b8e1aefda97bf876178932d42d8edc64014646ae15525656fd0c127796fbb200fc0beafe2a78fa2b1a35149572f14adbba596ae6ed8411)) (passTime 0 (wKeys.setFld PWR_OP_STATUS_vcore_mv 750))
    let c : Call := callOf opPwrLehrRun (rqOf 2 (signed ([14]) 0x5291e53acf8642bb193f91a9d64a2cdb22dad87075155a66f3d84f699a103441c86ab08c773ae8f36b8e1aefda97bf876178932d42d8edc64014646ae15525656fd0c127796fbb200fc0beafe2a78fa2b1a35149572f14adbba596ae6ed8411)) (passTime 0 (wKeys.setFld PWR_OP_STATUS_vcore_mv 750))
    lehrPre b = 0 ∧ u8 c.p 0 ≠ 0xFE ∧ (u8 c.p 0 = 17 ∨ capturing b = false)) := by decide +kernel

theorem witness_pwrLehrRun_2 :
  taken opPwrLehrRun (rqOf 2 (signed ([0xFE]) 0x4e5bc77474ad1d2bff7f7a06c1866b0f47b5e25efb3deb9f8532bf4d9f24742d2eb833f20a0201e7c9c7bc663e927fc8296656873035adec275901f5747489d10e1ce8393bcc59ac9662eb1416e51467b8a072eb573223c833a090c74917762a)) (passTime 0 (wKeys.setFld PWR_OP_STATUS_vcore_mv 750)) = true ∧ (
    let b : Hw := entered opPwrLehrRun (rqOf 2 (signed ([0xFE]) 0x4e5bc77474ad1d2bff7f7a06c1866b0f47b5e25efb3deb9f8532bf4d9f24742d2eb833f20a0201e7c9c7bc663e927fc8296656873035adec275901f5747489d10e1ce8393bcc59ac9662eb1416e51467b8a072eb573223c833a090c74917762a)) (passTime 0 (wKeys.setFld PWR_OP_STATUS_vcore_mv 750))
    let c : Call := callOf opPwrLehrRun (rqOf 2 (signed ([0xFE]) 0x4e5bc77474ad1d2bff7f7a06c1866b0f47b5e25efb3deb9f8532bf4d9f24742d2eb833f20a0201e7c9c7bc663e927fc8296656873035adec275901f5747489d10e1ce8393bcc59ac9662eb1416e51467b8a072eb573223c833a090c74917762a)) (passTime 0 (wKeys.setFld PWR_OP_STATUS_vcore_mv 750))
    lehrPre b = 0 ∧ u8 c.p 0 = 0xFE) := by decide +kernel

theorem witness_pwrLehrRead :
  taken opPwrLehrRead (rqOf 0 [3]) (passTime 0 wHw) = true ∧ (
    let b : Hw := entered opPwrLehrRead (rqOf 0 [3]) (passTime 0 wHw)
    let c : Call := callOf opPwrLehrRead (rqOf 0 [3]) (passTime 0 wHw)
    True) := by decide +kernel

theorem witness_pwrConfig :
  taken opPwrConfig (rqOf 1 [1]) (passTime 0 wHw) = true ∧ (
    let b : Hw := entered opPwrConfig (rqOf 1 [1]) (passTime 0 wHw)
    let c : Call := callOf opPwrConfig (rqOf 1 [1]) (passTime 0 wHw)
    True) := by decide +kernel

theorem witness_domainWakeSource :
    let d : Fin 20 := 14
    let h : Hw := passTime 0 (wHw.setFld (PWR_DOM_state 14) 0)
    True := by decide +kernel

theorem witness_domainWakeSource_2 :
    let d : Fin 20 := 14
    let k : Fin 4 := 2
    let h : Hw := passTime 0 (wHw.setFld (PWR_DOM_state 14) 0)
    (k : Nat) ≠ 0 := by decide +kernel

theorem witness_domainReady :
    let d : Fin 20 := 18
    let h : Hw := passTime 0 (wHw.setFld (PWR_DOM_state 18) 1)
    h.domState d = 1 := by decide +kernel

theorem witness_domainFailure :
    let d : Fin 20 := 18
    let k : Fin 2 := 1
    let h : Hw := passTime 0 wHw
    (h.domState d = 2 ∨ ((k : Nat) = 0 ∧ h.domState d ≠ 0)) ∧ h.pwr.sleep = none ∧ (recentFails (h.setDom d { h.dom d with fails := recentFails h d ++ [h.dtime] }) d).length < 3 := by decide +kernel

theorem witness_domainFailure_2 :
    let d : Fin 20 := 18
    let k : Fin 2 := 1
    let h : Hw := passTime 0 ({ wHw with pwr := { wHw.pwr with doms := [(18, { fails := [0, 0] })] } })
    (h.domState d = 2 ∨ ((k : Nat) = 0 ∧ h.domState d ≠ 0)) ∧ h.pwr.sleep = none ∧ 3 ≤ (recentFails (h.setDom d { h.dom d with fails := recentFails h d ++ [h.dtime] }) d).length := by decide +kernel

theorem witness_domainPrepareAnswer :
    let d : Fin 20 := 17
    let z : Sleep := Sleep.mk [17] [] (2 ^ 17) false 0 0
    let h : Hw := passTime 0 ({ ((wHw.setFld (PWR_DOM_state 17) 3).setFld GTH_STATE_state 2) with pwr := { wHw.pwr with sleep := some (Sleep.mk [17] [] (2 ^ 17) false 0 0) } })
    h.pwr.sleep = some z ∧ h.domState d = 3 ∧ z.toAsk.head? = some (d : Nat) ∧ z.forced = false ∧ (refuses h d = true ∨ (h.dom d).queued ≠ 0) := by decide +kernel

theorem witness_domainPrepareAnswer_2 :
    let d : Fin 20 := 18
    let z : Sleep := Sleep.mk [18] [] (2 ^ 18) false 0 0
    let h : Hw := passTime 0 ({ (wHw.setFld (PWR_DOM_state 18) 3) with pwr := { wHw.pwr with sleep := some (Sleep.mk [18] [] (2 ^ 18) false 0 0) } })
    h.pwr.sleep = some z ∧ h.domState d = 3 ∧ z.toAsk.head? = some (d : Nat) ∧ (z.forced = true ∨ (refuses h d = false ∧ (h.dom d).queued = 0)) := by decide +kernel

theorem witness_lowPowerIdleSleep :
    let d : Fin 20 := 14
    let h : Hw := passTime 0 ({ wHw with dtime := 10000000, pwr := { wHw.pwr with lowPower := true, doms := [(14, { byAccess := true })] } })
    h.pwr.lowPower = true ∧ h.pwr.sleep = none ∧ lowSet.contains (d : Nat) = true ∧ h.ready d = true ∧ (h.dom d).byAccess = true ∧ (h.dom d).access + 10000000 ≤ h.dtime := by decide +kernel

theorem witness_lowPowerEnter :
    let h : Hw := passTime 0 wUp
    h.pwr.lowPower = false ∧ h.phase ≠ Phase.held ∧ h.phase ≠ Phase.starting ∧ h.phase ≠ Phase.warmReset ∧ h.phase ≠ Phase.recovery ∧ h.phase ≠ Phase.shut ∧ h.pwr.lehr = none ∧ h.pwr.sleep = none := by decide +kernel

theorem witness_lowPowerEnter_2 :
    let h : Hw := passTime 0 ({ wHw with pwr := { wHw.pwr with sleep := some (Sleep.mk [17] [] (2 ^ 17) false 0 0) } })
    h.pwr.lowPower = false ∧ h.phase ≠ Phase.held ∧ h.phase ≠ Phase.starting ∧ h.phase ≠ Phase.warmReset ∧ h.phase ≠ Phase.recovery ∧ h.phase ≠ Phase.shut ∧ h.pwr.lehr = none ∧ h.pwr.sleep.isSome = true := by decide +kernel

theorem witness_lowPowerExit :
    let h : Hw := passTime 0 ({ wHw with pwr := { wHw.pwr with lowPower := true } })
    h.pwr.lowPower = true ∧ h.phase ≠ Phase.shut ∧ (h.pwr.lehr.any fun (x : LehrRun) => x.kind == 0) = false ∧ (h.pwr.sleep.any fun (z : Sleep) => z.owner == 1) = false := by decide +kernel

theorem witness_lowPowerExit_2 :
    let h : Hw := passTime 0 ({ wHw with pwr := { wHw.pwr with lowPower := true, sleep := some (Sleep.mk [17] [] (2 ^ 17) true 1 0) } })
    h.pwr.lowPower = true ∧ (h.pwr.sleep.any fun (z : Sleep) => z.owner == 1) = true := by decide +kernel

theorem witness_lehrPreconditionCheck :
    let mv : Nat := 750
    let lo : Int := 200
    let hi : Int := 300
    let l : List LehrRegion := []
    let h : Hw := passTime 0 wHw
    h.pwr.lehr = none := by decide +kernel

theorem witness_lehrPreconditionCheck_2 :
    let mv : Nat := 700
    let lo : Int := 200
    let hi : Int := 300
    let l : List LehrRegion := []
    let x : LehrRun := LehrRun.mk 1 14 0 true 750 750 0 0 [] [] 0
    let h : Hw := passTime 0 ({ (wHw.setFld PWR_OP_STATUS_vcore_mv 750) with pwr := { wHw.pwr with lehr := some (LehrRun.mk 1 14 0 true 750 750 0 0 [] [] 0) } })
    h.pwr.lehr = some x := by decide +kernel

theorem witness_lehrComplete :
    let l : List LehrRegion := []
    let x : LehrRun := LehrRun.mk 1 14 0 true 750 750 0 0 [] [] 0
    let h : Hw := passTime 0 ({ (wHw.setFld PWR_OP_STATUS_vcore_mv 750) with pwr := { wHw.pwr with lehr := some (LehrRun.mk 1 14 0 true 750 750 0 0 [] [] 0) } })
    h.pwr.lehr = some x ∧ x.testing = true ∧ x.target ≠ 0xFE ∧ (x.target = 17 ∨ h.ready 17 = true) := by decide +kernel

theorem witness_modrstlLow :
    let tn : Bool := false
    let h : Hw := passTime 0 wUp
    h.phase ≠ Phase.held := by decide +kernel

theorem witness_supplyOutOfWindow :
    let k : Fin 5 := 2
    let x : Nat := 1000
    let us : Nat := 15
    let tn : Bool := false
    let h : Hw := passTime 0 wHw
    h.phase ≠ Phase.held := by decide +kernel

theorem witness_supplyOutOfWindow_2 :
    let k : Fin 5 := 2
    let x : Nat := 1000
    let us : Nat := 15
    let tn : Bool := false
    let h : Hw := passTime 0 wHw
    h.phase ≠ Phase.held := by decide +kernel

theorem witness_coldStart :
    let bd : List (Nat × Nat) := []
    let mv : List Nat := []
    let fd : List LehrRegion := []
    let h : Hw := passTime 0 (State.reset.hw)
    h.phase = Phase.held := by decide +kernel

theorem witness_commandReady :
    let h : Hw := passTime 0 ({ wHw with phase := .starting })
    h.phase = Phase.starting ∧ h.flag SEC_FW_recovery = false := by decide +kernel

theorem witness_commandReady_2 :
    let h : Hw := passTime 0 ({ wHw.setFld SEC_FW_recovery 1 with phase := .starting })
    h.phase = Phase.starting ∧ h.flag SEC_FW_recovery = true := by decide +kernel

theorem witness_trialTimeout :
    let h : Hw := passTime 0 ({ wHw.setFld SEC_CFG_trial_s 0 with nv := { wHw.nv with ident := { trial := true, fallback := some 1 } } })
    h.phase = Phase.ready ∧ h.nv.ident.trial = true ∧ trialLeft h = 0 ∧ (h.cmd.running.any fun (r : RunCmd) => r.index != 0) = false ∧ h.pwr.resetting = 0 := by decide +kernel

theorem witness_randomHealthFail :
    let n : Nat := 2
    let h : Hw := passTime 0 wHw
    True := by decide +kernel

theorem witness_randomHealthRestored :
    let h : Hw := passTime 0 ({ wHw with evr := { randomOk := false } })
    True := by decide +kernel

theorem witness_secIdRead :
  taken opSecIdRead (rqOf 0 []) (passTime 0 wHw) = true ∧ (
    let b : Hw := entered opSecIdRead (rqOf 0 []) (passTime 0 wHw)
    let c : Call := callOf opSecIdRead (rqOf 0 []) (passTime 0 wHw)
    True) := by decide +kernel

theorem witness_secCertRead :
  taken opSecCertRead (rqOf 0 [1, 0, 0, 0, 16]) (passTime 0 wHw) = true ∧ (
    let b : Hw := entered opSecCertRead (rqOf 0 [1, 0, 0, 0, 16]) (passTime 0 wHw)
    let c : Call := callOf opSecCertRead (rqOf 0 [1, 0, 0, 0, 16]) (passTime 0 wHw)
    True) := by decide +kernel

theorem witness_secAttest :
  taken opSecAttest (rqOf 0 (zeros 32)) (passTime 0 wHw) = true ∧ (
    let b : Hw := entered opSecAttest (rqOf 0 (zeros 32)) (passTime 0 wHw)
    let c : Call := callOf opSecAttest (rqOf 0 (zeros 32)) (passTime 0 wHw)
    True) := by decide +kernel

theorem witness_secKeyEnroll :
  taken opSecKeyEnroll (rqOf 1 ([0, 2, 0, 0] ++ ownerKey)) (passTime 0 wHw) = true ∧ (
    let b : Hw := entered opSecKeyEnroll (rqOf 1 ([0, 2, 0, 0] ++ ownerKey)) (passTime 0 wHw)
    let c : Call := callOf opSecKeyEnroll (rqOf 1 ([0, 2, 0, 0] ++ ownerKey)) (passTime 0 wHw)
    onCurve (slice c.p 4 97) = true ∧ keySlot b (u8 c.p 0) = none) := by decide +kernel

theorem witness_secKeyRevoke :
  taken opSecKeyRevoke (rqOf 2 (signed ([1]) 0x660b2918e6e655ca8a61192ef8a2fc963cbf25664128ca7e9117622824b03c23a8b18fca00d5da8f42a24d955a234463816fa107e437b441d3b5f55978cd2ae416c40900a0c181637e669613ab3e5f63706c1cb54f2eb6418ba1c3a8eeadd857)) (passTime 0 ({ wKeys with nv := { wKeys.nv with ident := { wKeys.nv.ident with slots := [(0, some ⟨2, false, ownerKey⟩), (1, some ⟨2, false, ownerKey⟩)] } } })) = true ∧ (
    let x : KeySlot := ⟨2, false, ownerKey⟩
    let b : Hw := entered opSecKeyRevoke (rqOf 2 (signed ([1]) 0x660b2918e6e655ca8a61192ef8a2fc963cbf25664128ca7e9117622824b03c23a8b18fca00d5da8f42a24d955a234463816fa107e437b441d3b5f55978cd2ae416c40900a0c181637e669613ab3e5f63706c1cb54f2eb6418ba1c3a8eeadd857)) (passTime 0 ({ wKeys with nv := { wKeys.nv with ident := { wKeys.nv.ident with slots := [(0, some ⟨2, false, ownerKey⟩), (1, some ⟨2, false, ownerKey⟩)] } } }))
    let c : Call := callOf opSecKeyRevoke (rqOf 2 (signed ([1]) 0x660b2918e6e655ca8a61192ef8a2fc963cbf25664128ca7e9117622824b03c23a8b18fca00d5da8f42a24d955a234463816fa107e437b441d3b5f55978cd2ae416c40900a0c181637e669613ab3e5f63706c1cb54f2eb6418ba1c3a8eeadd857)) (passTime 0 ({ wKeys with nv := { wKeys.nv with ident := { wKeys.nv.ident with slots := [(0, some ⟨2, false, ownerKey⟩), (1, some ⟨2, false, ownerKey⟩)] } } }))
    keySlot b (u8 c.p 0) = some x ∧ ([0, 1, 2, 3].any fun (j : Nat) => j != u8 c.p 0 && (keySlot b j).any fun (y : KeySlot) => y.level == 2) = true) := by decide +kernel

theorem witness_secKeyRead :
  taken opSecKeyRead (rqOf 0 []) (passTime 0 wHw) = true ∧ (
    let b : Hw := entered opSecKeyRead (rqOf 0 []) (passTime 0 wHw)
    let c : Call := callOf opSecKeyRead (rqOf 0 []) (passTime 0 wHw)
    True) := by decide +kernel

theorem witness_secFwWrite :
  taken opSecFwWrite (rqOf 2 (signed ([0, 0, 0, 64, 0, 2, 0, 0, 0xAA, 0xBB]) 0x13ec2b29ef5fc176a599ab850203d528733d4264cbb6153c9cd4e22ab7b8527aeaa8344d3a9f06ac3dd52c9c6edccc0e5c7ab8e44387b1f90ad72f006923158c069cde6de344496720c4ecd598f406dd1205d7ba604b5cb1a97a5caff6520232)) (passTime 0 wKeys) = true ∧ (
    let b : Hw := entered opSecFwWrite (rqOf 2 (signed ([0, 0, 0, 64, 0, 2, 0, 0, 0xAA, 0xBB]) 0x13ec2b29ef5fc176a599ab850203d528733d4264cbb6153c9cd4e22ab7b8527aeaa8344d3a9f06ac3dd52c9c6edccc0e5c7ab8e44387b1f90ad72f006923158c069cde6de344496720c4ecd598f406dd1205d7ba604b5cb1a97a5caff6520232)) (passTime 0 wKeys)
    let c : Call := callOf opSecFwWrite (rqOf 2 (signed ([0, 0, 0, 64, 0, 2, 0, 0, 0xAA, 0xBB]) 0x13ec2b29ef5fc176a599ab850203d528733d4264cbb6153c9cd4e22ab7b8527aeaa8344d3a9f06ac3dd52c9c6edccc0e5c7ab8e44387b1f90ad72f006923158c069cde6de344496720c4ecd598f406dd1205d7ba604b5cb1a97a5caff6520232)) (passTime 0 wKeys)
    u32 c.p 0 + u16 c.p 4 ≤ 2 ^ 21 ∧ (b.nv.ident.trial = false ∨ b.nv.ident.fallback = none)) := by decide +kernel

theorem witness_secFwActivate :
  taken opSecFwActivate (rqOf 2 (signed ([]) 0x5760942ae4c45dbc83df542fba762b8748a57f9b1c2ade9ad927ccc7bcec3dce43a3bf6139c4d43fbbaa8c796392b46a5d3ecb9cd9a10f7beac722124a5550ee457ce3bc434284ad8f98f06fc9be5256d945c9c4fcd84484349fcbab86336637)) (passTime 0 wKeys) = true ∧ (
    let b : Hw := entered opSecFwActivate (rqOf 2 (signed ([]) 0x5760942ae4c45dbc83df542fba762b8748a57f9b1c2ade9ad927ccc7bcec3dce43a3bf6139c4d43fbbaa8c796392b46a5d3ecb9cd9a10f7beac722124a5550ee457ce3bc434284ad8f98f06fc9be5256d945c9c4fcd84484349fcbab86336637)) (passTime 0 wKeys)
    let c : Call := callOf opSecFwActivate (rqOf 2 (signed ([]) 0x5760942ae4c45dbc83df542fba762b8748a57f9b1c2ade9ad927ccc7bcec3dce43a3bf6139c4d43fbbaa8c796392b46a5d3ecb9cd9a10f7beac722124a5550ee457ce3bc434284ad8f98f06fc9be5256d945c9c4fcd84484349fcbab86336637)) (passTime 0 wKeys)
    b.nv.ident.trial = false) := by decide +kernel

theorem witness_secFwCommit :
  taken opSecFwCommit (rqOf 2 (signed ([]) 0x7ba98399857bc59cbd6a7cd232728e413a567022f613e60ec33084ec175f4a4e09e54ed4098b70b8b855531e2a9eb6627f188a1ff60e7ad6e0c55011ab10a2733f81aa81f9463202e0639884789dafac61308bae9bc87be28e67f57cde75952e)) (passTime 0 ({ wKeys with nv := { wKeys.nv with ident := { wKeys.nv.ident with trial := true } } })) = true ∧ (
    let b : Hw := entered opSecFwCommit (rqOf 2 (signed ([]) 0x7ba98399857bc59cbd6a7cd232728e413a567022f613e60ec33084ec175f4a4e09e54ed4098b70b8b855531e2a9eb6627f188a1ff60e7ad6e0c55011ab10a2733f81aa81f9463202e0639884789dafac61308bae9bc87be28e67f57cde75952e)) (passTime 0 ({ wKeys with nv := { wKeys.nv with ident := { wKeys.nv.ident with trial := true } } }))
    let c : Call := callOf opSecFwCommit (rqOf 2 (signed ([]) 0x7ba98399857bc59cbd6a7cd232728e413a567022f613e60ec33084ec175f4a4e09e54ed4098b70b8b855531e2a9eb6627f188a1ff60e7ad6e0c55011ab10a2733f81aa81f9463202e0639884789dafac61308bae9bc87be28e67f57cde75952e)) (passTime 0 ({ wKeys with nv := { wKeys.nv with ident := { wKeys.nv.ident with trial := true } } }))
    b.nv.ident.trial = true) := by decide +kernel

theorem witness_secCosignSet :
  taken opSecCosignSet (rqOf 2 (signed ([0]) 0x14b179638775b8d94b69be806319938c6dcbe7aaa23a8db7ad8f1f4edd051dba24946cca293003203c64970cfb7bb44a381e0b884c4877828c8967f38e32568ed2aee797e30204cdbd908e09ac3e360851c53c0f5e5965bbde29698ed93aa325)) (passTime 0 wKeys) = true ∧ (
    let b : Hw := entered opSecCosignSet (rqOf 2 (signed ([0]) 0x14b179638775b8d94b69be806319938c6dcbe7aaa23a8db7ad8f1f4edd051dba24946cca293003203c64970cfb7bb44a381e0b884c4877828c8967f38e32568ed2aee797e30204cdbd908e09ac3e360851c53c0f5e5965bbde29698ed93aa325)) (passTime 0 wKeys)
    let c : Call := callOf opSecCosignSet (rqOf 2 (signed ([0]) 0x14b179638775b8d94b69be806319938c6dcbe7aaa23a8db7ad8f1f4edd051dba24946cca293003203c64970cfb7bb44a381e0b884c4877828c8967f38e32568ed2aee797e30204cdbd908e09ac3e360851c53c0f5e5965bbde29698ed93aa325)) (passTime 0 wKeys)
    u8 c.p 0 = 0 ∨ cosignOk b (slotImage b b.nv.ident.active) = true) := by decide +kernel

theorem witness_secDebugUnlock :
  taken opSecDebugUnlock (rqOf 2 (signed ([]) 0x4dac902779d8884ec78db471dfac647b36cf072ed2b68ae5ded1378ea692af1283f9cc4800140f41575be1e6e93fb3693c981384957a186645479836dda58e9c159a295f88fe7dbd8912e25bb0fd9af71f6a5abc3c334f1a031a59ad75d1364a)) (passTime 0 wKeys) = true ∧ (
    let b : Hw := entered opSecDebugUnlock (rqOf 2 (signed ([]) 0x4dac902779d8884ec78db471dfac647b36cf072ed2b68ae5ded1378ea692af1283f9cc4800140f41575be1e6e93fb3693c981384957a186645479836dda58e9c159a295f88fe7dbd8912e25bb0fd9af71f6a5abc3c334f1a031a59ad75d1364a)) (passTime 0 wKeys)
    let c : Call := callOf opSecDebugUnlock (rqOf 2 (signed ([]) 0x4dac902779d8884ec78db471dfac647b36cf072ed2b68ae5ded1378ea692af1283f9cc4800140f41575be1e6e93fb3693c981384957a186645479836dda58e9c159a295f88fe7dbd8912e25bb0fd9af71f6a5abc3c334f1a031a59ad75d1364a)) (passTime 0 wKeys)
    True) := by decide +kernel

theorem witness_secFwStatus :
  taken opSecFwStatus (rqOf 0 []) (passTime 0 wHw) = true ∧ (
    let b : Hw := entered opSecFwStatus (rqOf 0 []) (passTime 0 wHw)
    let c : Call := callOf opSecFwStatus (rqOf 0 []) (passTime 0 wHw)
    True) := by decide +kernel

theorem witness_secConfig :
  taken opSecConfig (rqOf 2 (signed ([0, 120]) 0x6e2ed5927c245372c968dfdc7f8938a9f46f4293dc401e9b05f5648863bcd5c128a1e7d931bc54ff114ad6e4938b64c18900839d037e1c8f337f53c7cc607371c2272c52a5108d5597bd0dbdb6b7896490cc073525df23bb399d10f51f3b4b88)) (passTime 0 wKeys) = true ∧ (
    let b : Hw := entered opSecConfig (rqOf 2 (signed ([0, 120]) 0x6e2ed5927c245372c968dfdc7f8938a9f46f4293dc401e9b05f5648863bcd5c128a1e7d931bc54ff114ad6e4938b64c18900839d037e1c8f337f53c7cc607371c2272c52a5108d5597bd0dbdb6b7896490cc073525df23bb399d10f51f3b4b88)) (passTime 0 wKeys)
    let c : Call := callOf opSecConfig (rqOf 2 (signed ([0, 120]) 0x6e2ed5927c245372c968dfdc7f8938a9f46f4293dc401e9b05f5648863bcd5c128a1e7d931bc54ff114ad6e4938b64c18900839d037e1c8f337f53c7cc607371c2272c52a5108d5597bd0dbdb6b7896490cc073525df23bb399d10f51f3b4b88)) (passTime 0 wKeys)
    True) := by decide +kernel

theorem witness_evrInfo :
  taken opEvrInfo (rqOf 0 []) (passTime 0 wHw) = true ∧ (
    let b : Hw := entered opEvrInfo (rqOf 0 []) (passTime 0 wHw)
    let c : Call := callOf opEvrInfo (rqOf 0 []) (passTime 0 wHw)
    True) := by decide +kernel

theorem witness_evrRead :
  taken opEvrRead (rqOf 0 [1, 0, 0, 0, 0, 0, 0, 0, 5]) (passTime 0 wHw) = true ∧ (
    let b : Hw := entered opEvrRead (rqOf 0 [1, 0, 0, 0, 0, 0, 0, 0, 5]) (passTime 0 wHw)
    let c : Call := callOf opEvrRead (rqOf 0 [1, 0, 0, 0, 0, 0, 0, 0, 5]) (passTime 0 wHw)
    u8 c.p 0 = 1) := by decide +kernel

theorem witness_evrRead_2 :
  taken opEvrRead (rqOf 0 [0, 0, 0, 0, 0, 0, 0, 0, 5]) (passTime 0 wHw) = true ∧ (
    let b : Hw := entered opEvrRead (rqOf 0 [0, 0, 0, 0, 0, 0, 0, 0, 5]) (passTime 0 wHw)
    let c : Call := callOf opEvrRead (rqOf 0 [0, 0, 0, 0, 0, 0, 0, 0, 5]) (passTime 0 wHw)
    u8 c.p 0 ≠ 1) := by decide +kernel

theorem witness_evrConfig :
  taken opEvrConfig (rqOf 1 ([0, 100, 1] ++ zeros 32)) (passTime 0 wHw) = true ∧ (
    let b : Hw := entered opEvrConfig (rqOf 1 ([0, 100, 1] ++ zeros 32)) (passTime 0 wHw)
    let c : Call := callOf opEvrConfig (rqOf 1 ([0, 100, 1] ++ zeros 32)) (passTime 0 wHw)
    True) := by decide +kernel

theorem witness_evrSnapSet :
  taken opEvrSnapSet (rqOf 1 [2, 1, 0x0E, 1, 0xFF, 0xFF, 0, 0, 0xF0, 1]) (passTime 0 wHw) = true ∧ (
    let b : Hw := entered opEvrSnapSet (rqOf 1 [2, 1, 0x0E, 1, 0xFF, 0xFF, 0, 0, 0xF0, 1]) (passTime 0 wHw)
    let c : Call := callOf opEvrSnapSet (rqOf 1 [2, 1, 0x0E, 1, 0xFF, 0xFF, 0, 0, 0xF0, 1]) (passTime 0 wHw)
    ((List.range (u8 c.p 1)).all fun j => decide (u32 c.p (6 + 4 * j) < 2 ^ 24) && unitListed (u32 c.p (6 + 4 * j))) = true) := by decide +kernel

theorem witness_evrFlush :
  taken opEvrFlush (rqOf 1 []) (passTime 0 wHw) = true ∧ (
    let b : Hw := entered opEvrFlush (rqOf 1 []) (passTime 0 wHw)
    let c : Call := callOf opEvrFlush (rqOf 1 []) (passTime 0 wHw)
    b.fenced 19 = false) := by decide +kernel

theorem witness_evrErase :
  taken opEvrErase (rqOf 2 (signed ([]) 0x65f988e9b0be4d4ac9c8c6ae9ec69c7de07300d9176dc6f665d2fbdfcdfd3fe508c2710b066de04549dc5b83d07cd4e544a6bf22bd3f670211e31891157c44b315d44c1bb16c01134776af9e19a871db6b925bf02f55590e31e8360e9c96ed20)) (passTime 0 wKeys) = true ∧ (
    let b : Hw := entered opEvrErase (rqOf 2 (signed ([]) 0x65f988e9b0be4d4ac9c8c6ae9ec69c7de07300d9176dc6f665d2fbdfcdfd3fe508c2710b066de04549dc5b83d07cd4e544a6bf22bd3f670211e31891157c44b315d44c1bb16c01134776af9e19a871db6b925bf02f55590e31e8360e9c96ed20)) (passTime 0 wKeys)
    let c : Call := callOf opEvrErase (rqOf 2 (signed ([]) 0x65f988e9b0be4d4ac9c8c6ae9ec69c7de07300d9176dc6f665d2fbdfcdfd3fe508c2710b066de04549dc5b83d07cd4e544a6bf22bd3f670211e31891157c44b315d44c1bb16c01134776af9e19a871db6b925bf02f55590e31e8360e9c96ed20)) (passTime 0 wKeys)
    (b.evr.staged.any Rec.inStage) = false ∧ b.nv.items = []) := by decide +kernel

theorem witness_eventDeliver :
    let x : Ev := Ev.mk 5 [] 0
    let y : List Ev := []
    let h : Hw := passTime 0 ({ wHw with evr := { bus := [Ev.mk 5 [] 0] } })
    h.evr.bus = x :: y := by decide +kernel

theorem witness_pageCommit :
    let h : Hw := passTime 0 ({ wHw with evr := { staged := [Rec.mk 5 false false 0 0 0 1 0 [] [] 0 false false 0] } })
    h.fenced 19 = false ∧ h.ready 19 = true ∧ h.evr.staged.any (due h) = true ∧ (h.evr.commits.filter fun (t : Nat) => decide (h.dtime < t + 10 ^ 9)).length < 100 := by decide +kernel

theorem witness_optimeCheckpoint :
    let h : Hw := passTime 0 ({ wHw with dtime := 60000000000 })
    h.evr.lastCkpt + 60000000000 ≤ h.dtime ∧ h.ready 19 = true ∧ h.fenced 19 = false := by decide +kernel

/-! ### The statements about the machine as a whole -/

/-- A queue of one command on a part in service. -/
def wQueue : State := { hw := wHw, pending := [.nonceExpiry 0 0xFFF1] }

theorem witness_step : wQueue.pending = Instr.nonceExpiry 0 0xFFF1 :: [] := rfl

theorem witness_idle : State.reset.pending = [] ∧ State.reset.hw.phase = .held ∧ ({ hw := wHw } : State).pending = [] ∧ wHw.phase ≠ .held := by
  decide +kernel

theorem witness_heldStep : ∃ t, State.reset.hw.phase = .held ∧ exec (.nonceExpiry 5 0xFFF1) State.reset = .next t := ⟨_, rfl, rfl⟩

theorem witness_stepNext : ∃ t, step State.reset = .next t := ⟨_, rfl⟩

/-- An event on the bus. -/
def wBus : Hw := wHw.raise 0x0101 [1]

theorem witness_eventsOnBus : wBus.evr.bus = Ev.mk 0x0101 [1] 0 :: [] ∧ wBus.evr.lostNow = 0 := by decide +kernel

theorem test_eventsInOrder : ((wBus.raise 0x0102).evr.bus.map Ev.code) = [0x0101, 0x0102] := by decide +kernel

/-- A Maintainer request in an opened session of level Operator. -/
def rqHigh : Request := { rqOf 2 [] with session := 7 }

theorem witness_levels :
    (rqHigh.level ≤ 3 ∧ opEcho.levelOf wSess rqHigh ≤ rqHigh.level ∧ byKey rqHigh = false ∧ granted wSess rqHigh < rqHigh.level) ∧
    (rqOf 3 []).level = 3 ∧ (rqOf 0 []).level < opPwrPaceSet.levelOf wHw (rqOf 0 []) ∧
    (opCheck wHw opEcho (rqOf 0 [1])).isNone = true := by decide +kernel

/-- The owner's key enrolled with level Operator only, and a request that it signed at level Maintainer. -/
def wLow : Hw := { wKeys with nv := { wKeys.nv with ident := { slots := [(0, some ⟨1, false, ownerKey⟩)] } } }
def rqLow : Request := rqOf 2 (signed [] 0x7ba98399857bc59cbd6a7cd232728e413a567022f613e60ec33084ec175f4a4e09e54ed4098b70b8b855531e2a9eb6627f188a1ff60e7ad6e0c55011ab10a2733f81aa81f9463202e0639884789dafac61308bae9bc87be28e67f57cde75952e)

theorem witness_levelOfKey :
    byKey rqLow = true ∧ opSecFwCommit.levelOf wLow rqLow ≤ 2 ∧ 100 ≤ rqLow.params.length ∧
    trailerCheck wLow opSecFwCommit.opcode rqLow = none ∧ granted wLow rqLow < 2 := by
  decide +kernel

theorem test_levelRefused : opCheck wSess opEcho rqHigh = some (stACCESS, 2) ∧ opCheck wHw opEcho (rqOf 3 []) = some (stACCESS, 3) := by
  decide +kernel

/-- A request that the two-wire session has had: its reply kept; journaled only; or neither. -/
def rqAgain : Request := { rqOf 1 [1] with seq := 5 }
def xMark : Session := { num := 0xFFF1, level := 1, mark := some 5 }
def keptReply : SentReply := ⟨5, 0x0001, digestOf [1], ⟨0x0001, 5, 0, 0, 0, 0, [1]⟩⟩
def xKept : Session := { xMark with replies := [keptReply] }
def wMark : Hw := { wHw with cmd := { wHw.cmd with sessions := [xMark] } }
def wReplied : Hw := { wHw with cmd := { wHw.cmd with sessions := [xKept] } }
def keptEntry : JEntry := { wEntry with opcode := 0x0213, seq := 5, digest := digestOf [1] }
def wJournaled : Hw := { wMark with cmd := { wMark.cmd with journal := [keptEntry] } }

/-- The conditions that the clauses on a request that is not newer share. -/
def isRetry (h : Hw) (op : OpSpec) (rq : Request) (x : Session) : Bool :=
  h.takesCommands && rq.route != .inband && rq.length == rq.params.length && decide (outstanding h rq < routeLimit rq.route) &&
    (headCheck h op.opcode rq).isNone && findSession (heard rq h) (sessionOf rq) == some x && rq.seq != 0 && !newer x.mark rq.seq

theorem witness_retryKept : isRetry wReplied opEcho rqAgain xKept = true ∧
    xKept.replies.find? (fun (r : SentReply) => r.seq == rqAgain.seq && r.opcode == opEcho.opcode && r.digest == digestOf rqAgain.params) =
      some keptReply := by decide +kernel

theorem witness_retryJournaled : isRetry wJournaled opPwrFloorSet rqAgain xMark = true ∧ xMark.replies = [] ∧
    wJournaled.cmd.journal.find? (fun (e : JEntry) => e.session == xMark.num && e.seq == rqAgain.seq && e.opcode == opPwrFloorSet.opcode &&
      e.digest == digestOf rqAgain.params) = some keptEntry := by decide +kernel

theorem witness_retryUnknown : isRetry wMark opPwrFloorSet rqAgain xMark = true ∧ xMark.replies = [] ∧ wMark.cmd.journal = [] := by
  decide +kernel

theorem test_retryAnswers :
    (serve 0x0213 (some opPwrFloorSet) rqAgain wMark).out =
      [.cdb (cdbLocal ⟨0x0213, 5, stSEQUENCE, 0, 5, 0, []⟩) (cdbExtended ⟨0x0213, 5, stSEQUENCE, 0, 5, 0, []⟩)] := by decide +kernel

/-- A full journal whose oldest entry is pending. -/
def wFull : Hw :=
  { wHw with cmd := { wHw.cmd with journal := { wEntry with status := stACCEPTED } :: List.replicate (ramTier - 1) wEntry } }

theorem witness_journalFull :
    (wFull.phase = .ready ∧ opPwrFloorSet.journal ≠ 0 ∧ resetBusy wFull opPwrFloorSet.opcode = false ∧
      (clashes wFull opPwrFloorSet [0] || opPwrFloorSet.busy wFull [0]) = false ∧ ¬ (opPwrFloorSet.journal = 2 ∧ nvRate wFull = true)) ∧
    wFull.cmd.journal.length = ramTier ∧ { wEntry with status := stACCEPTED }.status = stACCEPTED := by
  refine ⟨by decide +kernel, ?_, rfl⟩
  show (_ :: List.replicate (ramTier - 1) wEntry).length = ramTier
  rw [List.length_cons, List.length_replicate]
  decide

theorem witness_pair : pairUpper EVR_OPTIME = true ∧ EVR_OPTIME % 4096 ≠ 4095 := by decide +kernel

theorem test_pairLatched :
    let h : Hw := { wHw with dtime := 2 ^ 32 - 1 }
    let t : Hw := { (readWord 0 PWR_DTIME h).2 with dtime := 2 ^ 32 }
    (readWord 0 (PWR_DTIME + 1) t).1 = 0xFFFFFFFF ∧ (readWord 1 (PWR_DTIME + 1) t).1 = 0 := by decide +kernel

/-- Unit 0 in EMIT with lock and temperature, or on its way there from LIT. -/
def wEmit : Hw :=
  let s := ((wLit.setFld (FES_STATE_state 0) 4).setFld (FES_STATE_target 0) 4).setFld (FES_STATE_lock 0) 1
  (s.setFld (FES_STATE_temp_ok 0) 1).setFld (FES_MAP3_gate_open 0) 65535
def wNear : Hw := ((wEmit.setFld (FES_STATE_state 0) 2).setFld (FES_STATE_moving 0) 1).updFes 0 fun x => { x with toward := 4 }

theorem witness_gate : gateWanted { wEmit with fes := [(0, { stgt := 1 })] } 0 = true ∨ effect wEmit 0 ≠ 4 := by decide +kernel

theorem witness_emit : wNear.fstate 0 ≠ 4 ∧ (fesMoveDone 0 wNear).fstate 0 = 4 := by decide +kernel

theorem witness_gateShut :
    let h : Hw := (wEmit.setFld (FES_STATE_lock 0) 0).updOut 5 fun x => { x with want := 65535 }
    h.fld (FES_MAP0_gate_out 0) < 24 ∧ h.ready 15 = true ∧ h.flag (AOU_OSTAT_ranging (h.fld (FES_MAP0_gate_out 0))) = false ∧
    gateWanted h 0 = false ∧
    ((settleGate 0 h).aouOut 5).gate.getD ((settleGate 0 h).aouOut 5).want = h.fld (AOU_OCFG_safe 5) := by decide +kernel

theorem witness_field : FES_STATE_lock 0 = ⟨0x0D0004, (FES_STATE_lock 0).lo, 1⟩ ∧ (FES_STATE_lock 0).lo + 1 ≤ 32 ∧
    ((FES_STATE_lock 0).lo + 1 ≤ (FES_STATE_temp_ok 0).lo ∨ (FES_STATE_temp_ok 0).lo + 1 ≤ (FES_STATE_lock 0).lo) := by decide +kernel

theorem witness_writeWord :
    (regFind 0x00F100).isNone = true ∧
    (match regFind CMD_INT_STATUS with | some (d, _) => d.rw &&& d.c1 == 0 && d.c1.testBit 3 | none => false) = true ∧
    hostTable CMD_INT_STATUS = none ∧ CMD_INT_STATUS / 65536 ∉ [0x03, 0x04, 0x0D] ∧ regsRight wHw := by
  refine ⟨by decide +kernel, by decide +kernel, by decide +kernel, by decide, ?_⟩
  show Map.wf coldWord wHw.regs = true
  decide +kernel

/-- Lane 0 with a main tap alone and no pre-distortion. -/
def wTap : Hw := { phase := .ready, regs := [(0x030010, 0x4000), (0x030011, 0)] }

theorem witness_coding :
    (∀ k, k < 16 → wTap.num (LTX_PD 0 k) = 0) ∧ sumN ((List.range 7).map fun i => (txTap wTap 0 i).natAbs) ≤ 128 ∧
    (List.replicate 162 true).length = (innerColumns 0).length ∧ ([true, false].length % 2 = 0) ∧ (∀ a ∈ [0, 1, 2, 3], a < 4) := by
  decide +kernel

/-! ### Conditions of the clauses that name no row -/

/-- A flow's item without a key at index 7, and one with a key. -/
def itBare : Bytes := zeros 8 ++ [0, 0, 0, 7, 64] ++ zeros 7 ++ [4] ++ zeros 11
def itKey : Bytes := [2, 0, 0, 0, 0, 1, 0, 9, 0, 0, 0, 7, 64] ++ zeros 19

theorem witness_FlowTables :
    (itemNoKey itBare = true ∧ cxState (wTab.ctx (itemIndex itBare)) = 0 ∧ isCooling wTab (itemIndex itBare) = false) ∧
    (itemNoKey itKey = false ∧ findKey wTab (itemKey itKey) = none ∧ cxState (wTab.ctx (itemIndex itKey)) = 0 ∧
      ((homeSlots wTab (itemKey itKey)).find? fun k => !slotValid wTab k).isSome = true) ∧
    (cxState (wAdm.ctx (itemIndex itBare)) = 1 ∧ cxHasKey (wAdm.ctx (itemIndex itBare)) = false ∧ indexKeyed wAdm (itemIndex itBare) = false) := by
  decide +kernel

theorem witness_LineWake :
    let low : Hw := { wHw with pwr := { wHw.pwr with lowPower := true } }
    (wHw.pwr.lowPower = false ∧ goingToSleep wHw 0 = false) ∧ low.pwr.lowPower = true := by decide +kernel

theorem witness_Admission :
    cxState (wAdm.ctx 7) = 1 ∧ cxHasKey (wAdm.ctx 7) = false ∧ (cxClass (wAdm.ctx 7) = 1 ∨ cxClass (wAdm.ctx 7) = 2) ∧
    wAdm.flag PWR_SPD_STATUS_suspended = false ∧ wAdm.fld PWR_DTIME_SRC_source ≠ 3 ∧
    budgetCheck wAdm wAdm.terms ((allSums wAdm wAdm.terms).add wAdm.terms (admOf (wAdm.ctx 7))) (admOf (wAdm.ctx 7)) = none ∧
    classCCheck wAdm wAdm.terms ((allSums wAdm wAdm.terms).add wAdm.terms (admOf (wAdm.ctx 7))) (admOf (wAdm.ctx 7)) = none := by
  decide +kernel

theorem witness_FrontEnd :
    (hasBit 1 0 = true ∧ hasBit 1 11 = false) ∧ (wTurn.fesu 1).turn = none ∧ wEmit.fstate 0 = 4 ∧ (wEmit.fesu 0).turn = none ∧
    ({ wTurn with fes := [(1, { turn := some 3 })] }.fesu 1).turn ≠ none ∧ wTurn.fstate 1 ≠ 4 ∧
    wEmit.flag (FES_STATE_fault 0) = false ∧ (wEmit.setFld (FES_STATE_fault 0) 1).flag (FES_STATE_fault 0) = true := by decide +kernel

/-- Stage 0's bias is output 4, which dithers. -/
def wDith : Hw := ((wHw.setFld (FES_MAP0_bias_out 8) 4).setFld (AOU_OSTAT_dither_on 4) 1).setFld (AOU_DITHER_amp 4) 100

theorem witness_BandRepeater :
    (-60 < bandEst wBand 0 ∧ (bandStages 0).any (ampEmits wBand) = true ∧ (bandStages 0).all (fun st => hasCause wBand st cGuard) = false) ∧
    bandEst (wBand.setFldS (BRC_EST_est 0) (-500) |>.setFldS (BRC_EST_est 1) (-500)) 0 ≤ -60 ∧
    (wDith.fld (FES_MAP0_bias_out 8) < 24 ∧ wDith.flag (AOU_OSTAT_dither_on (wDith.fld (FES_MAP0_bias_out 8))) = true ∧
      wDith.fld (AOU_DITHER_amp (wDith.fld (FES_MAP0_bias_out 8))) ≠ 0) ∧
    (wHw.fld (FES_MAP0_bias_out 8) = 255 ∨ wHw.flag (AOU_OSTAT_dither_on (wHw.fld (FES_MAP0_bias_out 8))) = false) ∧
    estValid wHw 0 = false ∧ (estValid wRise 0 = true ∧ (bandStages 0).filter (mayRise wRise) = [1]) ∧
    ((bandStages 0).any (fun st => wBand.flag (BRC_SSTAT_coex_hold st)) = false) := by decide +kernel

/-- Both stages of band 0 free to rise. -/
def wRise2 : Hw := (({ wRise with fes := [(8, { stgt := 5 }), (9, { stgt := 5 })] }.setFld (BRC_SSTAT_desired 0) 5).setNum (FES_STEPTAB 8 1) 1).setNum
  (FES_STEPTAB 8 3) (50 * 65536 + 1)

theorem witness_bothRise : estValid wRise2 0 = true ∧ (bandStages 0).filter (mayRise wRise2) = [0, 1] := by decide +kernel

theorem witness_lowerBand :
    prediction wRise 0 ≤ marginOf wRise ∧
    (let h := (wBand.setFld (BRC_SSTAT_target 0) 3).setFld (BRC_SSTAT_target 1) 3
     marginOf h < prediction h 0 ∧ h.fld (BRC_SSTAT_target (higherOf h 0)) ≠ 0) := by decide +kernel

theorem witness_ControlLoops :
    wHw.flag CLE_TEST_running = false ∧ (wHw.setFld CLE_TEST_running 1).flag CLE_TEST_running = true ∧
    (let h := ((wHw.setFld (CLE_STATUS_mode 1) 2).setFld (CLE_CFG_dst_kind 1) 0)
     loopMode h 1 = 2 ∧ h.fld (CLE_CFG_dst_kind 1) = 0 ∧ coefI h 1 6 ≤ coefI h 1 7) ∧
    (wHw.setFld (CLE_STATUS_rep 1) 2).fld (CLE_STATUS_rep 1) = 2 ∧ (wHw.setFld (CLE_STATUS_rep 1) 1).fld (CLE_STATUS_rep 1) = 1 ∧
    (wHw.setFld (CLE_STATUS_rep 1) 3).fld (CLE_STATUS_rep 1) = 3 := by decide +kernel

theorem witness_AnalogueOutputs :
    (wHw.ready 15 = true ∧ wHw.flag (AOU_OSTAT_ranging 23) = false) ∧ (wHw.setFld (AOU_OSTAT_ranging 23) 1).flag (AOU_OSTAT_ranging 23) = true ∧
    (wHw.aouOut 23).change = none ∧ wHw.flag (AOU_OSTAT_dither_on 23) = false ∧
    (wDith.flag (AOU_OSTAT_dither_on 4) = true ∧ isGate wDith 4 = false ∧ (wDith.aouOut 4).change = none) := by decide +kernel

/-- Converter 1 in a window of entry 9, with repeats left, with none and a delay, with none and no delay. -/
def wConv (n : Nat) (d : Nat) : Hw :=
  { wHw with mcv := { wHw.mcv with conv := [(1, { phase := 2, entry := 9, left := n, len := 100000, words := [0x84020064, d, 65536, 0, 0, 0, 0, 0] })] } }

theorem witness_MonitorConverter :
    ((wConv 2 0).conv 1).entry < 64 ∧ 1 < ((wConv 2 0).conv 1).left ∧
    (((wConv 1 0x00010005).conv 1).left ≤ 1 ∧ eDelay ((wConv 1 0x00010005).conv 1).words ≠ 0) ∧ eDelay ((wConv 1 0).conv 1).words = 0 ∧
    entriesOf wHw 1 = [] ∧ wHw.declared 2 = false ∧ quarantined wHw 0 = false ∧ quarantined wHw 1 = false := by decide +kernel

/-- Entry 0 valid for converter 1, in a declared table. -/
def wSeq : Hw :=
  let s : Hw := { wHw with mem := { wHw.mem with whole := [(2, true)] } }
  setDeclared (((s.setNum (MCV_SEQ 0 0) 0x84020064).setNum (MCV_SEQ 0 1) 0x00010005).setNum (MCV_SEQ 0 2) 65536) 2 true

theorem witness_entryToRun :
    wSeq.declared 2 = true ∧ inPlaus wSeq 1 = false ∧ (entriesOf wSeq 1).filter (0 ≤ ·) = [0] ∧ entryFault wSeq 0 = none := by decide +kernel

theorem witness_Gather :
    let ready : Hw := wHw.setFld GTH_STATE_state 2
    let thr : Hw := { ((wHw.setFld GTH_TRIG_enable 8).setFld GTH_TRIG_thr_kind 1).setFld GTH_TRIG_thr_idx 2 with gth := { wHw.gth with signal := some (-5, 0) } }
    (ready.fld GTH_STATE_state = 2 ∧ ready.gth.candAt ≠ some (640 / 64) ∧ ready.gth.last = none) ∧
    ({ wHw with gth := { wHw.gth with urgent := [GBlock.mk 7 0 0 1 64 []] } } : Hw).gth.urgent = [GBlock.mk 7 0 0 1 64 []] ∧
    (thr.ready 17 = true ∧ hasBit (thr.fld GTH_TRIG_enable) 3 = true ∧ thr.fld GTH_TRIG_thr_kind = 1 ∧ thr.fld GTH_TRIG_thr_idx = 2 ∧
      thr.gth.signal = some (-5, 0) ∧ thr.int GTH_TRIG_LVL = 0 ∧ thr.fld GTH_TRIG_dir = 0) := by decide +kernel

theorem witness_Power :
    let off : Hw := wHw.setFld (PWR_DOM_state 19) 0
    let slp : Hw := { wHw.setFld (PWR_DOM_state 19) 4 with pwr := { wHw.pwr with sleep := some (Sleep.mk [17] [19] (2 ^ 17 + 2 ^ 19) false 0 0) } }
    ((wHw.setFld (PWR_DOM_fenced 19) 1).fenced 19 = true) ∧ (off.fenced 19 = false ∧ off.domState 19 = 0) ∧ wHw.domState 19 = 2 ∧
    (slp.domState 19 = 4 ∧ slp.pwr.sleep.isSome = true) ∧ (wHw.fenced 19 = false) := by decide +kernel

theorem witness_Security :
    let two : Hw := { wHw with nv := { wHw.nv with ident := { trial := true, fallback := some 1 } } }
    two.nv.ident.fallback = some 1 ∧ wHw.nv.ident.fallback = none := by decide +kernel

theorem witness_Recorder :
    let r : Rec := Rec.mk 0x0101 false false 0 0 0 1 0 [1] [] 0 false false 0
    let h : Hw := { wHw with evr := { staged := [r] } }
    (lastWith (fun (q : Rec) => !q.snap && q.code == 0x0101) h.evr.staged = some r ∧ h.optime ≤ r.last + h.fld EVR_CFG_merge_ms) ∧
    (takePage h h.evr.staged 15).1 ≠ [] ∧ stagedSlots h.evr.staged + r.slots ≤ 2048 ∧
    2048 < stagedSlots ([{ r with snap := true }]) + 2046 := by decide +kernel

/-! ### The line coding against the spec's numbers -/

/-- R171: the first and the last columns; Table 05-2: cell positions and zero bits. -/
theorem test_columns : (innerColumns 0).take 2 = [3, 5] ∧ (innerColumns 0).getD 161 0 = 0xAA ∧ (innerColumns 0).length = 162 ∧
    (innerColumns 1).take 2 = [7, 0x0B] ∧ (innerColumns 1).getD 119 0 = 0xFE ∧ (innerColumns 1).length = 120 := by decide +kernel

theorem test_cellPositions : ([4, 3, 2, 1].map fun l => (cellPositions l, cellPadding l)) =
    [(80974, 3200), (60731, 320), (40487, 1600), (20243, 2880)] := by decide +kernel

/-- R185: the header of a filler cell. -/
theorem test_fillerHeader : cellHeader 0 0 0 0 0 = 0x44 := by decide +kernel

/-- R179: after 24 symbols 1 comes the stuff symbol 3. -/
theorem test_stuff : stuff 0 0 (List.replicate 25 1) = List.replicate 24 1 ++ [3, 1] := by decide +kernel

/-- The example of R189: frames of 64, 1000 and 64 bytes for port 2 leave in three cells. -/
def beFrame (n b : Nat) : BeFrame := { port := 2, bytes := List.replicate n (BitVec.ofNat 8 b) }
def wBest : Hw := (List.range 3).foldl (fun s _ => issueBest s 0)
  (wUp.updGrp 0 fun x => { x with be := [beFrame 64 1, beFrame 1000 2, beFrame 64 3] })

theorem test_bestEffortCells : (wBest.grp 0).lfm.map (fun c => (c.header / 2 ^ 61, c.header / 2 ^ 8 % 2 ^ 16, u16 c.payload 66)) =
    [(1, 0, 1000), (2, 0xFFFF, 0x0202), (2, 44, 0x0303)] := by decide +kernel

/-! ### The functions of the security chapter against the standards' examples -/

/-- FIPS 180-4's example "abc". -/
theorem test_sha384 : sha384 [0x61, 0x62, 0x63] =
    0xcb00753f45a35e8bb5a03d699ac65007272c32ab0eded1631a8b605a43ff5bed8086072ba1e7cc2358baeca134c825a7#384 := by decide +kernel

/-- RFC 4231's case 2, its key filled to 48 bytes with zeros. -/
theorem test_hmac384 : hmac384 (0x4a656665#384 <<< 352)
    [0x77, 0x68, 0x61, 0x74, 0x20, 0x64, 0x6f, 0x20, 0x79, 0x61, 0x20, 0x77, 0x61, 0x6e, 0x74, 0x20, 0x66, 0x6f, 0x72, 0x20, 0x6e, 0x6f, 0x74,
      0x68, 0x69, 0x6e, 0x67, 0x3f] =
    0xaf45d2e376484031617f78d2b58a6b1b9c7ef464f5a01b47e42ec3736322445e8e2240ca5e69e2c78b3239ecfab21649#384 := by decide +kernel

/-- A signature made outside the model verifies, and not over another digest. -/
theorem test_ecdsa : ecdsaVerify ownerKey (sha384 [1]) (toBE 96 0x75656caf19e8130049d6fa08716ce7079008b78b875eaf04d606bc3410d583097eccc3ff9d9d66617809c5684fb6d6a438cfbf312eaff3469f7ba588e2c4c782d137ae04988d4db90548263659098d9c52373d047a334d1c75dc47a7b9f2022f) = true ∧ ecdsaVerify ownerKey (sha384 [2]) (toBE 96 0x75656caf19e8130049d6fa08716ce7079008b78b875eaf04d606bc3410d583097eccc3ff9d9d66617809c5684fb6d6a438cfbf312eaff3469f7ba588e2c4c782d137ae04988d4db90548263659098d9c52373d047a334d1c75dc47a7b9f2022f) = false := by
  decide +kernel

/-! ### Reset and a first request -/

/-- COLD_START and COMMAND_READY stand between the state after reset and the first request (R86, R534). -/
theorem test_heldIgnores : (match step { State.reset with pending := [.nonceExpiry 5 0xFFF1] } with
    | .next t => t.hw.phase == .held && t.hw.dtime == 0 && t.pending.isEmpty
    | _ => false) = true := by decide +kernel

theorem test_echo : (match exec (.echo 10 (rqOf 0 [1, 2])) { hw := wHw } with
    | .next t => t.hw.out == [.cdb (cdbLocal ⟨0x0001, 1, stOK, 0, 0, 0, [1, 2]⟩) []] && t.hw.dtime == 10
    | _ => false) = true := by decide +kernel

theorem test_noWordSpellsACommand : decodeTableWord 32 0x00010000 = none := rfl

/-! ### Ill-formed commands are refused: one for each check of Sys2Proof/WellFormed.lean -/

/-- A region of a Lehr run and a visited word, well formed. -/
def r0 : LehrRegion := { region := 0, failed := 0, executed := 0, sig := 0, rows := [], duration := 0 }
def w0 : ScrubWord := { mem := 0, bank := 0, off := 0, row := 0, kind := 0, synd := 0, item := [] }

theorem test_illFormed_1 : [
    .cdbRequest 0 (2 ^ 16) false [] [],
    .nonceExpiry 0 (2 ^ 16),
    .provisionalSessionTimeout 0 (2 ^ 16),
    .sessionIdleClose 0 (2 ^ 16),
    .registerWrite 0 (2 ^ 24) 0 0,
    .registerWrite 0 0 (2 ^ 32) 0,
    .registerWrite 0 0 0 (2 ^ 32),
    .wordPairLatchRead 0 (2 ^ 4) 0,
    .wordPairLatchRead 0 0 (2 ^ 24),
    .avsbusStepDone 0 (2 ^ 12),
    .avsbusFault 0 (2 ^ 12) 0,
    .avsbusFault 0 0 (2 ^ 16),
    .speedReading 0 0 (2 ^ 16),
    .timeTransferTick 0 0 (2 ^ 6),
    .timeTransferRequestRx 0 0 (2 ^ 64) 0 0 0,
    .timeTransferRequestRx 0 0 0 (2 ^ 16) 0 0,
    .timeTransferRequestRx 0 0 0 0 (2 ^ 6) 0,
    .timeTransferRequestRx 0 0 0 0 0 (2 ^ 6),
    .timeTransferAnswerRx 0 0 (2 ^ 64) 0 0 0 0,
    .timeTransferAnswerRx 0 0 0 (2 ^ 64) 0 0 0,
    .timeTransferAnswerRx 0 0 0 0 (2 ^ 64) 0 0,
    .timeTransferAnswerRx 0 0 0 0 0 (2 ^ 16) 0,
    .timeTransferAnswerRx 0 0 0 0 0 0 (2 ^ 6),
    .referenceMeasure 0 (2 ^ 31) 0 0,
    .referenceMeasure 0 0 (2 ^ 31) 0,
    .referenceMeasure 0 0 0 (2 ^ 31),
    .lossOfSignal 0 0 (2 ^ 16),
    .signalRestored 0 0 (2 ^ 16),
    .lrxLockLost 0 0 (2 ^ 31),
    .saturationInterval 0 0 (2 ^ 32) 0].all (fun i : Instr => !i.wellFormed) = true := by decide +kernel

theorem test_illFormed_2 : [
    .saturationInterval 0 0 0 (2 ^ 32),
    .snrUpdate 0 0 (2 ^ 64) 0 0,
    .snrUpdate 0 0 0 (2 ^ 64) 0,
    .snrUpdate 0 0 0 0 (2 ^ 31),
    .prefecUpdate 0 0 (2 ^ 64) 0 0 0 0 0,
    .prefecUpdate 0 0 0 (2 ^ 64) 0 0 0 0,
    .prefecUpdate 0 0 0 0 (2 ^ 64) 0 0 0,
    .prefecUpdate 0 0 0 0 0 (2 ^ 64) 0 0,
    .prefecUpdate 0 0 0 0 0 0 (2 ^ 32) 0,
    .prefecUpdate 0 0 0 0 0 0 0 (2 ^ 32),
    .histRunComplete 0 0 (2 ^ 32) (List.replicate 256 default),
    .histRunComplete 0 0 0 [],
    .laneFrameBoundary 0 0 (2 ^ 6),
    .amReceived 0 0 [] false 0,
    .amReceived 0 0 (List.replicate 32 default) false (2 ^ 16),
    .cellReceived 0 0 (2 ^ 4) 0 (List.replicate 512 default) 0 0 default,
    .cellReceived 0 0 0 (2 ^ 64) (List.replicate 512 default) 0 0 default,
    .cellReceived 0 0 0 0 [] 0 0 default,
    .cellReceived 0 0 0 0 (List.replicate 512 default) (2 ^ 6) 0 default,
    .cellReceived 0 0 0 0 (List.replicate 512 default) 0 (2 ^ 6) default,
    .cellReceived 0 0 0 0 (List.replicate 512 default) 0 0 (2 ^ 16, []),
    .cellReceived 0 0 0 0 (List.replicate 512 default) 0 0 (0, [4]),
    .statusReceived 0 0 (2 ^ 16) 0 0,
    .statusReceived 0 0 0 (2 ^ 16) 0,
    .statusReceived 0 0 0 0 (2 ^ 8),
    .remapReceived 0 0 (2 ^ 8) 0 0 0 0,
    .remapReceived 0 0 0 (2 ^ 4) 0 0 0,
    .remapReceived 0 0 0 0 (2 ^ 48) 0 0,
    .remapReceived 0 0 0 0 0 (2 ^ 16) 0,
    .remapReceived 0 0 0 0 0 0 (2 ^ 8)].all (fun i : Instr => !i.wellFormed) = true := by decide +kernel

theorem test_illFormed_3 : [
    .remapAckReceived 0 0 (2 ^ 8),
    .quietReceived 0 0 (2 ^ 2) false,
    .capsReceived 0 0 (2 ^ 32) 0 0 0 0 0 0 0,
    .capsReceived 0 0 0 (2 ^ 8) 0 0 0 0 0 0,
    .capsReceived 0 0 0 0 (2 ^ 8) 0 0 0 0 0,
    .capsReceived 0 0 0 0 0 (2 ^ 4) 0 0 0 0,
    .capsReceived 0 0 0 0 0 0 (2 ^ 16) 0 0 0,
    .capsReceived 0 0 0 0 0 0 0 (2 ^ 16) 0 0,
    .capsReceived 0 0 0 0 0 0 0 0 (2 ^ 64) 0,
    .capsReceived 0 0 0 0 0 0 0 0 0 (2 ^ 32),
    .capsAckReceived 0 0 (2 ^ 8),
    .seedStartReceived 0 0 (2 ^ 48),
    .laneTrainReceived 0 0 0 (2 ^ 8) 0,
    .laneTrainReceived 0 0 0 0 (2 ^ 48),
    .delayReceived 0 0 (2 ^ 32),
    .laneHealthReceived 0 0 (2 ^ 4) 0,
    .laneHealthReceived 0 0 0 (2 ^ 4),
    .sproutFrameReceived 0 0 false (2 ^ 96),
    .trainingFrameReceived 0 0 false (2 ^ 32) 0,
    .trainingFrameReceived 0 0 false 0 (2 ^ 96),
    .sproutWake 0 0 (2 ^ 32),
    .lightWake 0 0 (2 ^ 16),
    .hrxLossOfSignal 0 0 (2 ^ 16),
    .hrxSignalRestored 0 0 (2 ^ 16),
    .hrx0Wake 0 (2 ^ 16),
    .hostFrameReceived 0 0 (2 ^ 6) 0 0 false 0 [],
    .hostFrameReceived 0 0 0 (2 ^ 32) 0 false 0 [],
    .hostFrameReceived 0 0 0 0 (2 ^ 32) false 0 [],
    .hostFrameReceived 0 0 0 0 0 false (2 ^ 32) [],
    .hostFrameSend 0 0 (2 ^ 6) none].all (fun i : Instr => !i.wellFormed) = true := by decide +kernel

theorem test_illFormed_4 : [
    .classCRelease 0 0 (2 ^ 6),
    .reassemblyTimeout 0 (2 ^ 20),
    .laneFailDeclare 0 0 (2 ^ 8) 0,
    .laneFailDeclare 0 0 0 (2 ^ 16),
    .fesFault 0 0 (2 ^ 8) 0,
    .fesFault 0 0 0 (2 ^ 8),
    .pilotEstimateUpdate 0 [],
    .pilotEstimateUpdate 0 (List.replicate 8 [4096]),
    .runawayMute 0 0 4096 0 default,
    .runawayMute 0 0 0 4096 default,
    .runawayMute 0 0 0 0 (4096, 0),
    .runawayMute 0 0 0 0 (0, 4096),
    .inputLossHold 0 0 4096,
    .inputLossMute 0 0 4096,
    .inputRestored 0 0 4096,
    .limitCeilingFall 0 0 4096,
    .limitCeilingRise 0 0 4096,
    .loopSample 0 0 (List.replicate 8 [4096]),
    .lockinWindowEnd 0 0 [2 ^ 31],
    .conversionWindowEnd 0 0 (2 ^ 32) 0 0,
    .conversionWindowEnd 0 0 0 (2 ^ 32) 0,
    .conversionWindowEnd 0 0 0 0 (2 ^ 32),
    .plausRoundEnd 0 0 (2 ^ 32) 0 0 0,
    .plausRoundEnd 0 0 0 (2 ^ 32) 0 0,
    .plausRoundEnd 0 0 0 0 (2 ^ 32) 0,
    .plausRoundEnd 0 0 0 0 0 (2 ^ 32),
    .triggerCandidate 0 false (2 ^ 32) 0,
    .triggerCandidate 0 false 0 (2 ^ 6),
    .scrubVisit 0 { w0 with mem := 14 },
    .scrubVisit 0 { w0 with kind := 3 }].all (fun i : Instr => !i.wellFormed) = true := by decide +kernel

theorem test_illFormed_5 : [
    .scrubVisit 0 { w0 with synd := 256 },
    .scrubVisit 0 { w0 with off := 2 ^ 24 },
    .coldStart 0 [] [] [{ r0 with region := 21 }],
    .coldStart 0 [] [] [{ r0 with failed := 8 }],
    .coldStart 0 [] [] [{ r0 with executed := 2 ^ 32 }],
    .coldStart 0 [] [] [{ r0 with sig := 2 ^ 64 }],
    .coldStart 0 [] [] [{ r0 with duration := 2 ^ 32 }],
    .supplyOutOfWindow 0 0 (2 ^ 16) 0 false false,
    .supplyOutOfWindow 0 0 0 (2 ^ 32) false false,
    .lehrPreconditionCheck 0 (2 ^ 12) 0 0 [],
    .lehrPreconditionCheck 0 0 (2 ^ 15) 0 [],
    .lehrPreconditionCheck 0 0 0 (2 ^ 15) [],
    .lehrPreconditionCheck 0 0 0 0 [{ r0 with region := 21 }],
    .lehrPreconditionCheck 0 0 0 0 [{ r0 with failed := 8 }],
    .lehrPreconditionCheck 0 0 0 0 [{ r0 with executed := 2 ^ 32 }],
    .lehrPreconditionCheck 0 0 0 0 [{ r0 with sig := 2 ^ 64 }],
    .lehrPreconditionCheck 0 0 0 0 [{ r0 with duration := 2 ^ 32 }],
    .lehrComplete 0 [{ r0 with region := 21 }],
    .lehrComplete 0 [{ r0 with failed := 8 }],
    .lehrComplete 0 [{ r0 with executed := 2 ^ 32 }],
    .lehrComplete 0 [{ r0 with sig := 2 ^ 64 }],
    .lehrComplete 0 [{ r0 with duration := 2 ^ 32 }],
    .randomHealthFail 0 (2 ^ 8),
    .busStuckRelease 0 (2 ^ 32),
    .echo 0 { rqOf 0 [] with length := 2 ^ 16 },
    .echo 0 { rqOf 0 [] with seq := 2 ^ 32 },
    .echo 0 { rqOf 0 [] with level := 256 },
    .echo 0 { rqOf 0 [] with flags := 256 },
    .echo 0 { rqOf 0 [] with session := 2 ^ 16 },
    .echo 0 { rqOf 0 [] with resv := 2 ^ 32 }].all (fun i : Instr => !i.wellFormed) = true := by decide +kernel

theorem test_illFormed_6 : [
    .echo 0 { rqOf 0 [] with tag := 2 ^ 128 },
    .echo 0 { rqOf 0 [] with port := 8 },
    .echo 0 { rqOf 0 [] with src := 2 ^ 48 },
    .echo 0 { rqOf 0 [] with vlan := some (2 ^ 16) }].all (fun i : Instr => !i.wellFormed) = true := by decide +kernel

theorem test_longBlockIllFormed : (Instr.echo 0 { rqOf 0 [] with params := zeros 2049 }).wellFormed = false := by
  have h : (zeros 2049).length = 2049 := zeros_length 2049
  simp [Instr.wellFormed, Request.wf, rqOf, h]

theorem test_wellFormed : (Instr.echo 0 (rqOf 0 [1, 2])).wellFormed = true := by decide +kernel
end Sys2Proof.Tests
end

/-!
The statements of the family 01_architecture.md: the latches of the two words of a 64-bit value (R29), and the order of the events
of one nanosecond (R33).
-/
namespace Sys2Proof.Machine

/-! ### A word read by a source (R29) -/

/-- The two words of a pair are in one unit, so that they share a latch. -/
theorem latchKey_succ (src : Nat) {a : Nat} (ha : a % 4096 ≠ 4095) : latchKey src (a + 1) = latchKey src a := by
  simp only [latchKey]
  omega

theorem latchKey_eq_of_unit (src : Nat) {a b : Nat} (hb : b / 4096 = a / 4096) : latchKey src b = latchKey src a := by
  simp only [latchKey]
  omega

/-- What a read of `b` leaves in the latch of its source and unit. -/
theorem readWord_latch (src b : Nat) (s : Hw) :
    Map.get none (readWord src b s).2.cmd.latches (latchKey src b) =
      if pairUpper b then some ⟨b + 1, liveWord s (b + 1)⟩ else none :=
  Map.get_put_same none s.cmd.latches (latchKey src b) _

/-- A read leaves the latches of other sources and of other units. -/
theorem readWord_other_latch (src b : Nat) (s : Hw) {k : Nat} (hk : k ≠ latchKey src b) :
    Map.get none (readWord src b s).2.cmd.latches k = Map.get none s.cmd.latches k :=
  Map.get_put_other none none s.cmd.latches _ hk

/-- A read of the latched address gives the latched value. -/
theorem readWord_value_latched {src b : Nat} {s : Hw} {w : Word}
    (hl : Map.get none s.cmd.latches (latchKey src b) = some ⟨b, w⟩) : (readWord src b s).1 = w := by
  simp [readWord, hl]

/-- A read of an address that its source has not latched gives the present value. -/
theorem readWord_value_live {src b : Nat} {s : Hw}
    (hl : ∀ l, Map.get none s.cmd.latches (latchKey src b) = some l → l.addr ≠ b) :
    (readWord src b s).1 = liveWord s b := by
  cases h : Map.get none s.cmd.latches (latchKey src b) with
  | none => simp [readWord, h]
  | some l => simp [readWord, h, hl l h]

/-- After a read of another word `c` of the unit, unless `c` is the upper word of `b`, a source reads the present value of `b`. -/
theorem readWord_live_after_read {src b c : Nat} {t v : Hw} (hk : latchKey src b = latchKey src c) (hc : c + 1 ≠ b)
    (hv : v.cmd.latches = (readWord src c t).2.cmd.latches) : (readWord src b v).1 = liveWord v b := by
  apply readWord_value_live
  intro l hl
  rw [hv, hk, readWord_latch] at hl
  split at hl
  · cases hl
    exact hc
  · cases hl

/-- Settles O9: the latch that each read leaves decides what the next read of the lower word gives. -/
theorem pairReadsAreConsistent : Obligations.PairReadsAreConsistent := by
  unfold Obligations.PairReadsAreConsistent
  intro src a h hp ha
  have hkey := latchKey_succ src ha
  refine ⟨rfl, fun t ht => ⟨?_, fun v hv => ?_, fun b hb hba _ v hv => ?_⟩, fun k hk => readWord_other_latch src a h hk⟩
  · exact readWord_value_latched (by rw [ht, hkey, readWord_latch, if_pos hp])
  · exact readWord_live_after_read rfl (by omega) hv
  · exact readWord_live_after_read (hkey.trans (latchKey_eq_of_unit src hb).symm) (by omega) hv

/-! ### The bus while an event is recorded (R33, R549) -/

@[simp] theorem interrupt_bus (s : Hw) (code : Nat) : (interrupt s code).evr.bus = s.evr.bus :=
  Hw.cond_keeps (fun t => t.evr.bus = s.evr.bus) _ _ s id rfl

@[simp] theorem stageRec_bus (s : Hw) (r : Rec) : (stageRec s r).evr.bus = s.evr.bus := rfl

@[simp] theorem handOver_bus (s : Hw) (e : Ev) : (handOver s e).evr.bus = s.evr.bus := rfl

@[simp] theorem loseRecords_bus (s : Hw) (k : Nat) : (loseRecords s k).evr.bus = s.evr.bus := rfl

/-- A choice between two states with the same bus. -/
theorem ite_bus {c : Prop} [Decidable c] {s t : Hw} {l : List Ev} (hs : s.evr.bus = l) (ht : t.evr.bus = l) :
    (if c then s else t).evr.bus = l := by
  split
  · exact hs
  · exact ht

@[simp] theorem stageLost_bus (s : Hw) : (stageLost s).evr.bus = s.evr.bus := by
  unfold stageLost
  refine ite_bus rfl ?_
  simp only [handOver_bus, interrupt_bus, stageRec_bus, updEvr_evr]

@[simp] theorem stageNew_bus (s : Hw) (r : Rec) : (stageNew s r).evr.bus = s.evr.bus := by
  unfold stageNew
  refine ite_bus ?_ (ite_bus (ite_bus ?_ ?_) ?_)
  · simp only [interrupt_bus, stageRec_bus]
  · simp only [interrupt_bus, stageRec_bus, loseRecords_bus, updEvr_evr]
  · exact loseRecords_bus s 1
  · exact loseRecords_bus s 1

@[simp] theorem stageCode_bus (s : Hw) (e : Ev) (l : List Rec) : (stageCode s e l).evr.bus = s.evr.bus := by
  unfold stageCode
  refine ite_bus ?_ (stageNew_bus s _)
  simp only [interrupt_bus, updEvr_evr]

@[simp] theorem readWord_evr (src a : Nat) (s : Hw) : (readWord src a s).2.evr = s.evr := rfl

@[simp] theorem snapRead_evr (as : List Nat) (s : Hw) : (snapRead as s).2.evr = s.evr := by
  induction as generalizing s with
  | nil => rfl
  | cons a as ih =>
    unfold snapRead
    split
    · exact ih s
    · exact (ih _).trans (readWord_evr 2 a s)

@[simp] theorem snapWords_evr (s : Hw) (code : Nat) : (snapWords s code).2.evr = s.evr := by
  unfold snapWords
  split
  · rfl
  · exact snapRead_evr _ s

/-- Recording takes the first event off the bus and raises none. -/
theorem recordEvent_bus {s : Hw} {e : Ev} {rest : List Ev} (h : s.evr.bus = e :: rest) :
    (recordEvent s).evr.bus = rest := by
  have hbus : (stageLost (updEvr s fun x => { x with bus := rest })).evr.bus = rest := by
    rw [stageLost_bus, updEvr_evr]
  unfold recordEvent
  rw [h]
  dsimp only
  generalize stageLost (updEvr s fun x => { x with bus := rest }) = t at hbus ⊢
  refine ite_bus (ite_bus ?_ ?_) ?_
  · exact (stageCode_bus t e _).trans hbus
  · rw [stageNew_bus, snapWords_evr, hbus]
  · exact (stageCode_bus t e _).trans hbus

/-- Settles O6: `raise` appends to the bus, and recording takes its head alone. -/
theorem eventsKeepTheirOrder : Obligations.EventsKeepTheirOrder := by
  unfold Obligations.EventsKeepTheirOrder
  refine ⟨fun h a p b q => ?_, fun _ _ _ hb => recordEvent_bus hb⟩
  simp only [Hw.raise_bus, Hw.raise_dtime, List.append_assoc, List.cons_append, List.nil_append]

end Sys2Proof.Machine

/-!
The statements of the family 02_commands_journal.md: a request whose sequence number is not newer is a retry, which is answered and
never executed again (R59).
-/
namespace Sys2Proof.Machine
open Reg

/-! ### What a reply may change -/

/-- From `h` to `u` only the sessions, the replies that wait on the routes and the outputs may differ. -/
def RepliesOnly (h u : Hw) : Prop :=
  ∃ (sessions : List Session) (mspiQ : List Reply) (ports : Map Port) (lpl epl : Bytes) (out : List Out),
    u = { h with
      cmd := { h.cmd with sessions := sessions, mspiQ := mspiQ }
      host := { h.host with ports := ports }
      cmis := { h.cmis with lpl := lpl, epl := epl }
      out := out }

theorem repliesOnly_refl (h : Hw) : RepliesOnly h h := ⟨_, _, _, _, _, _, rfl⟩

theorem repliesOnly_trans {a b c : Hw} (hab : RepliesOnly a b) (hbc : RepliesOnly b c) : RepliesOnly a c := by
  obtain ⟨_, _, _, _, _, _, rfl⟩ := hab
  obtain ⟨_, _, _, _, _, _, rfl⟩ := hbc
  exact ⟨_, _, _, _, _, _, rfl⟩

theorem repliesOnly_keeps {h u : Hw} (hu : RepliesOnly h u) : keeps [] [.cmd, .host, .cmis, .out] h u := by
  obtain ⟨_, _, _, _, _, _, rfl⟩ := hu
  refine ⟨fun _ _ => rfl, fun p hp => ?_, rfl⟩
  cases p with
  | cmd | host | cmis | out => simp at hp
  | _ => rfl

theorem repliesOnly_running {h u : Hw} (hu : RepliesOnly h u) : u.cmd.running = h.cmd.running := by
  obtain ⟨_, _, _, _, _, _, rfl⟩ := hu
  rfl

theorem repliesOnly_journal {h u : Hw} (hu : RepliesOnly h u) : u.cmd.journal = h.cmd.journal := by
  obtain ⟨_, _, _, _, _, _, rfl⟩ := hu
  rfl

theorem updSession_repliesOnly (s : Hw) (n : Nat) (f : Session → Session) : RepliesOnly s (updSession s n f) :=
  ⟨_, _, _, _, _, _, rfl⟩

theorem heard_repliesOnly (rq : Request) (s : Hw) : RepliesOnly s (heard rq s) := updSession_repliesOnly ..

theorem useNonce_repliesOnly (s : Hw) (rq : Request) : RepliesOnly s (useNonce s rq) := by
  unfold useNonce
  split
  · exact updSession_repliesOnly ..
  · exact repliesOnly_refl s

theorem keepReply_repliesOnly (s : Hw) (opc : Nat) (rq : Request) (r : Reply) : RepliesOnly s (keepReply s opc rq r) := by
  unfold keepReply
  split
  · exact repliesOnly_refl s
  · exact updSession_repliesOnly ..

/-- On each route a reply joins what waits there. -/
theorem deliver_repliesOnly (s : Hw) (rq : Request) (r : Reply) : RepliesOnly s (deliver s rq r) := by
  unfold deliver
  cases rq.route with
  | twoWire => exact ⟨_, _, _, _, _, _, rfl⟩
  | mspi => exact ⟨_, _, _, _, _, _, rfl⟩
  | inband => exact ⟨_, _, _, _, _, _, rfl⟩

/-- Only status AUTH sets an interrupt bit and raises an event (R73). -/
theorem tellAuth_of_ne {st : Nat} (hst : st ≠ stAUTH) (s : Hw) (route : Route) (sess detail : Nat) :
    tellAuth s route sess st detail = s := by
  unfold tellAuth
  rw [beq_false_of_ne hst, Hw.cond_false]

/-- A completion with a status other than AUTH changes replies alone. -/
theorem answer_repliesOnly {st : Nat} (hst : st ≠ stAUTH) (s : Hw) (opc : Nat) (rq : Request) (detail : Nat)
    (payload : Bytes) (index : Nat) (keep : Bool) : RepliesOnly s (answer s opc rq st detail payload index keep) := by
  unfold answer
  simp only [tellAuth_of_ne hst]
  refine repliesOnly_trans ?_ (deliver_repliesOnly ..)
  exact Hw.cond_keeps (RepliesOnly s) _ _ s (fun _ => keepReply_repliesOnly ..) (repliesOnly_refl s)

/-! ### The replay of a request (R59) -/

/-- The session's kept reply that answers a request again. -/
def keptReply (opc : Nat) (rq : Request) (x : Session) : Option SentReply :=
  x.replies.find? fun r => r.seq == rq.seq && r.opcode == opc && r.digest == digestOf rq.params

/-- The journal entry from which a reply to a request is rebuilt. -/
def keptEntry (s : Hw) (opc : Nat) (rq : Request) (x : Session) : Option JEntry :=
  s.cmd.journal.find? fun e =>
    e.session == x.num && e.seq == rq.seq && e.opcode == opc && e.digest == digestOf rq.params

theorem keptEntry_of_repliesOnly {h u : Hw} (hu : RepliesOnly h u) (opc : Nat) (rq : Request) (x : Session) :
    keptEntry u opc rq x = keptEntry h opc rq x := by
  unfold keptEntry
  rw [repliesOnly_journal hu]

section
variable {s : Hw} {opc : Nat} {rq : Request} {x : Session}

theorem replay_keptReply {r : SentReply} (hr : keptReply opc rq x = some r) :
    replay s opc rq x = deliver s rq { r.reply with flags := setBit r.reply.flags 2 true } := by
  unfold keptReply at hr
  simp only [replay, hr]

theorem replay_keptEntry {e : JEntry} (hr : keptReply opc rq x = none) (he : keptEntry s opc rq x = some e) :
    replay s opc rq x = deliver s rq ⟨opc, rq.seq, e.status, 0x0C, e.detail, e.index, []⟩ := by
  unfold keptReply at hr
  unfold keptEntry at he
  simp only [replay, hr, he]

theorem replay_unknown (hr : keptReply opc rq x = none) (he : keptEntry s opc rq x = none) :
    replay s opc rq x = answer s opc rq stSEQUENCE (x.mark.getD 0 % 65536) := by
  unfold keptReply at hr
  unfold keptEntry at he
  simp only [replay, hr, he]

end

theorem replay_repliesOnly (s : Hw) (opc : Nat) (rq : Request) (x : Session) : RepliesOnly s (replay s opc rq x) := by
  cases hr : keptReply opc rq x with
  | some r => exact replay_keptReply hr ▸ deliver_repliesOnly ..
  | none =>
    cases he : keptEntry s opc rq x with
    | some e => exact replay_keptEntry hr he ▸ deliver_repliesOnly ..
    | none => exact replay_unknown hr he ▸ answer_repliesOnly (by decide) ..

/-! ### A retry is replayed -/

/-- The request comes on a route that takes it, passes its header checks, and bears a number other than 0 that is not newer than the
mark of its session `x`. -/
structure Retried (h : Hw) (opc : Nat) (rq : Request) (x : Session) : Prop where
  takes : h.takesCommands = true
  inband : rq.route = .inband → h.flag CMD_CFG_inband_en = true ∧ (h.phase = .ready ∨ h.phase = .shut)
  length : rq.length = rq.params.length
  room : outstanding h rq < routeLimit rq.route
  head : headCheck h opc rq = none
  session : findSession (heard rq h) (sessionOf rq) = some x
  seq : rq.seq ≠ 0
  old : newer x.mark rq.seq = false

/-- Only a request with number 0 escapes the comparison (R60). -/
theorem seqFree_of_ne {rq : Request} (hq : rq.seq ≠ 0) (op : Option OpSpec) : seqFree op rq = false := by
  simp [seqFree, hq]

/-- Serving a retry is replaying it, whatever its command. -/
theorem serve_retried {h : Hw} {opc : Nat} {rq : Request} {x : Session} (hx : Retried h opc rq x) (op : Option OpSpec) :
    serve opc op rq h = replay (useNonce (heard rq h) rq) opc rq x := by
  have hroute : (rq.route == .inband && (!h.flag CMD_CFG_inband_en || h.phase != .ready && h.phase != .shut)) = false := by
    by_cases hi : rq.route = .inband
    · obtain ⟨hen, hp | hp⟩ := hx.inband hi <;> simp [hen, hp]
    · simp [hi]
  have hblock : cdbMismatch rq = false := by simp [cdbMismatch, hx.length]
  have hs := hx.session
  unfold heard at hs
  simp only [serve, hx.takes, hroute, hblock, Nat.not_le.mpr hx.room, hx.head, hs, seqFree_of_ne hx.seq, hx.old, hx.seq,
    Bool.not_true, Bool.false_eq_true, and_false, if_false]
  rfl

/-- Before its replay a retry leaves its mark on its session alone (R64, R67). -/
theorem heard_useNonce_repliesOnly (h : Hw) (rq : Request) : RepliesOnly h (useNonce (heard rq h) rq) :=
  repliesOnly_trans (heard_repliesOnly rq h) (useNonce_repliesOnly _ rq)

section
variable {h : Hw} {opc : Nat} {rq : Request} {x : Session} (hx : Retried h opc rq x) (op : Option OpSpec)
include hx

theorem serve_retried_keptReply {r : SentReply} (hr : keptReply opc rq x = some r) :
    serve opc op rq h =
      deliver (useNonce (heard rq h) rq) rq { r.reply with flags := setBit r.reply.flags 2 true } :=
  (serve_retried hx op).trans (replay_keptReply hr)

theorem serve_retried_keptEntry {e : JEntry} (hr : keptReply opc rq x = none) (he : keptEntry h opc rq x = some e) :
    serve opc op rq h =
      deliver (useNonce (heard rq h) rq) rq ⟨opc, rq.seq, e.status, 0x0C, e.detail, e.index, []⟩ :=
  (serve_retried hx op).trans
    (replay_keptEntry hr ((keptEntry_of_repliesOnly (heard_useNonce_repliesOnly h rq) opc rq x).trans he))

theorem serve_retried_unknown (hr : keptReply opc rq x = none) (he : keptEntry h opc rq x = none) :
    serve opc op rq h = answer (useNonce (heard rq h) rq) opc rq stSEQUENCE (x.mark.getD 0 % 65536) :=
  (serve_retried hx op).trans
    (replay_unknown hr ((keptEntry_of_repliesOnly (heard_useNonce_repliesOnly h rq) opc rq x).trans he))

theorem serve_retried_repliesOnly : RepliesOnly h (serve opc op rq h) :=
  serve_retried hx op ▸ repliesOnly_trans (heard_useNonce_repliesOnly h rq) (replay_repliesOnly ..)

end

/-! ### A retry that the part knows nothing of -/

/-- The implicit MSPI session with high mark 5 and no kept reply. -/
def sessionAtFive : Session := { num := 0xFFF2, level := 1, mark := some 5 }

/-- A part in service with that session alone. -/
def partAtFive : Hw := { phase := .ready, cmd := { sessions := [sessionAtFive] } }

/-- A request without parameters whose number is behind the mark. -/
def requestFour : Request :=
  { route := .mspi, length := 0, seq := 4, level := 0, flags := 0, session := 0, resv := 0, params := [] }

theorem retried_requestFour : Retried partAtFive 0x0001 requestFour sessionAtFive where
  takes := rfl
  inband := nofun
  length := rfl
  room := by decide
  head := by decide
  session := rfl
  seq := by decide
  old := by decide

/-- It completes SEQUENCE with the mark as detail. -/
theorem serve_requestFour (op : Option OpSpec) :
    serve 0x0001 op requestFour partAtFive = answer partAtFive 0x0001 requestFour stSEQUENCE 5 :=
  serve_retried_unknown retried_requestFour op rfl rfl

/-- Settles O8: a retry is replayed, and a replay changes sessions, waiting replies and outputs alone. -/
theorem retriesAreNotExecuted : Obligations.RetriesAreNotExecuted := by
  unfold Obligations.RetriesAreNotExecuted
  refine ⟨?_, ?_, ?_, ?_⟩
  · intro h op rq x takes inband length room head session seq old r hr
    exact serve_retried_keptReply ⟨takes, inband, length, room, head, session, seq, old⟩ _ hr
  · intro h op rq x takes inband length room head session seq old e hr he
    exact serve_retried_keptEntry ⟨takes, inband, length, room, head, session, seq, old⟩ _ hr he
  · intro h op rq x takes inband length room head session seq old hr he
    exact serve_retried_unknown ⟨takes, inband, length, room, head, session, seq, old⟩ _ hr he
  · intro h op rq x takes inband length room head session seq old
    have hu := serve_retried_repliesOnly ⟨takes, inband, length, room, head, session, seq, old⟩ (some op)
    exact ⟨repliesOnly_keeps hu, repliesOnly_running hu, repliesOnly_journal hu⟩

end Sys2Proof.Machine

namespace Sys2Proof.Machine
open Reg

/-- Bit `j` of a word after a field was put. -/
theorem getLsbD_putField (x : Word) (lo w v j : Nat) :
    (putField x lo w v).getLsbD j =
      (decide (j < 32) && if j < lo then x.getLsbD j else if j < lo + w then v.testBit (j - lo) else x.getLsbD j) := by
  have hv : v % 2 ^ w < 2 ^ w := Nat.mod_lt _ (Nat.two_pow_pos w)
  have hx : x.toNat % 2 ^ lo < 2 ^ lo := Nat.mod_lt _ (Nat.two_pow_pos lo)
  have hsum : x.toNat / 2 ^ (lo + w) * 2 ^ (lo + w) + (v % 2 ^ w) * 2 ^ lo + x.toNat % 2 ^ lo =
      2 ^ lo * (2 ^ w * (x.toNat / 2 ^ (lo + w)) + v % 2 ^ w) + x.toNat % 2 ^ lo := by
    rw [Nat.mul_add, ← Nat.mul_assoc, ← Nat.pow_add, Nat.mul_comm (2 ^ (lo + w)), Nat.mul_comm (2 ^ lo) (v % 2 ^ w)]
  rw [putField, BitVec.getLsbD_ofNat, hsum, Nat.testBit_two_pow_mul_add _ hx, Nat.testBit_two_pow_mul_add _ hv]
  simp only [Nat.testBit_mod_two_pow, Nat.testBit_div_two_pow]
  congr 1
  by_cases h1 : j < lo
  · simp [h1, BitVec.getLsbD]
  · by_cases h2 : j < lo + w
    · have : j - lo < w := by omega
      simp [h1, h2, this]
    · have h3 : ¬ j - lo < w := by omega
      have h4 : j - lo - w + (lo + w) = j := by omega
      simp [h1, h2, h3, h4, BitVec.getLsbD]

/-- Bit `i` of a field. -/
theorem testBit_getField (x : Word) (lo w i : Nat) : (getField x lo w).testBit i = (decide (i < w) && x.getLsbD (lo + i)) := by
  rw [getField, Nat.testBit_mod_two_pow, Nat.testBit_div_two_pow, BitVec.getLsbD, Nat.add_comm]

theorem getField_putField_same (x : Word) {lo w : Nat} (v : Nat) (h : lo + w ≤ 32) : getField (putField x lo w v) lo w = v % 2 ^ w := by
  apply Nat.eq_of_testBit_eq
  intro i
  rw [testBit_getField, Nat.testBit_mod_two_pow]
  by_cases hi : i < w
  · have h1 : lo + i < 32 := by omega
    have h2 : ¬ lo + i < lo := by omega
    rw [getLsbD_putField]
    simp [hi, h1, h2]
  · simp [hi]

/-- A field keeps its value when one that shares no bit with it is put. -/
theorem getField_putField_other (x : Word) {lo w l u : Nat} (v : Nat) (hg : l + u ≤ 32) (h : l + u ≤ lo ∨ lo + w ≤ l) :
    getField (putField x lo w v) l u = getField x l u := by
  apply Nat.eq_of_testBit_eq
  intro i
  rw [testBit_getField, testBit_getField, getLsbD_putField]
  by_cases hi : i < u
  · have h1 : l + i < 32 := by omega
    rcases h with h | h
    · have h2 : l + i < lo := by omega
      simp [h1, h2]
    · have h2 : ¬ l + i < lo := by omega
      have h3 : ¬ l + i < lo + w := by omega
      simp [h1, h2, h3]
  · simp [hi]

theorem Hw.fld_setFld_same (s : Hw) {f : Fld} (v : Nat) (h : f.lo + f.w ≤ 32) : (s.setFld f v).fld f = v % 2 ^ f.w := by
  rw [Hw.fld, Hw.setFld, Hw.reg_setReg_same]
  exact getField_putField_same _ v h

theorem Hw.fld_setFld_other (s : Hw) {f g : Fld} (v : Nat) (hg : g.lo + g.w ≤ 32)
    (h : g.addr ≠ f.addr ∨ g.lo + g.w ≤ f.lo ∨ f.lo + f.w ≤ g.lo) : (s.setFld f v).fld g = s.fld g := by
  unfold Hw.fld
  by_cases ha : g.addr = f.addr
  · rw [ha, Hw.setFld, Hw.reg_setReg_same]
    exact getField_putField_other _ v hg (h.resolve_left fun n => n ha)
  · rw [Hw.reg_setFld_other _ _ _ ha]

/-- A one-bit field reads back the flag it was set to. -/
theorem Hw.flag_setFlag_same (s : Hw) {f : Fld} (b : Bool) (hw : f.w = 1) (h : f.lo < 32) : (s.setFlag f b).flag f = b := by
  unfold Hw.flag Hw.setFlag
  rw [Hw.fld_setFld_same s _ (by omega), hw]
  cases b <;> rfl

theorem Hw.flag_setFlag_other (s : Hw) {f g : Fld} (b : Bool) (hg : g.lo + g.w ≤ 32)
    (h : g.addr ≠ f.addr ∨ g.lo + g.w ≤ f.lo ∨ f.lo + f.w ≤ g.lo) : (s.setFlag f b).flag g = s.flag g := by
  unfold Hw.flag Hw.setFlag
  rw [Hw.fld_setFld_other s _ hg h]

/-! ### The end of every step -/

/-- Every command answers a next state, which is settled, with the queue left as it is. -/
theorem exec_settles (c : Instr) (s : State) : ∃ h, exec c s = .next { s with hw := settle h } := by
  cases c <;> exact ⟨_, rfl⟩

/-- So does every step, with the front of the queue taken off. -/
theorem step_settles (s : State) : ∃ h, step s = .next { hw := settle h, pending := s.pending.tail } := by
  unfold step
  cases s.pending with
  | nil => exact ⟨passTime 1 s.hw, rfl⟩
  | cons c rest => exact exec_settles c _

theorem fld_settleEvr_other (s : Hw) {f : Fld} (hf : f.lo + f.w ≤ 32) (h : f.addr ≠ EVR_STATUS) : (settleEvr s).fld f = s.fld f := by
  unfold settleEvr Hw.setFlag
  rw [Hw.fld_setFld_other _ _ hf (.inl h), Hw.fld_setFld_other _ _ hf (.inl h)]

theorem fld_settleInt_other (s : Hw) {f : Fld} (hf : f.lo + f.w ≤ 32) (h : f.addr ≠ CMD_INT_STATUS) : (settleInt s).fld f = s.fld f := by
  have e : ∀ t : Hw, ∀ b, ({ t with intl := b } : Hw).fld f = t.fld f := fun _ _ => rfl
  unfold settleInt Hw.setFlag
  rw [e, Hw.fld_setFld_other _ _ hf (.inl h), Hw.fld_setFld_other _ _ hf (.inl h)]


/-- The signals' own levels move no stage. -/
theorem stage_settleSignals (s : Hw) (g : Nat) (hs : g ≤ 1) : (settleInt (settleEvr s)).stage g = s.stage g := by
  have hw : (LNK_STATUS_stage g).lo + (LNK_STATUS_stage g).w ≤ 32 := Nat.le_refl 32
  have hint : (LNK_STATUS_stage g).addr ≠ CMD_INT_STATUS := by
    change 0x060002 + 0x1000 * g ≠ 0x00F002
    omega
  have hevr : (LNK_STATUS_stage g).addr ≠ EVR_STATUS := by
    change 0x060002 + 0x1000 * g ≠ 0x13F002
    omega
  exact (fld_settleInt_other _ hw hint).trans (fld_settleEvr_other s hw hevr)

theorem intlRight_settleInt (s : Hw) : intlRight (settleInt s) := rfl

theorem noticeRight_settleInt (s : Hw) : noticeRight (settleInt s) := by
  change ((s.setFlag CMD_INT_STATUS_notice (!s.cmd.notices.isEmpty)).setFlag CMD_INT_STATUS_cmis _).flag CMD_INT_STATUS_notice = _
  rw [Hw.flag_setFlag_other _ _ (by decide) (.inr (.inl (by decide))), Hw.flag_setFlag_same _ _ rfl (by decide)]
  rfl

/-- A data path state follows a stage that nothing after it moves. -/
theorem cmisPath_settled (s : Hw) (g : Nat) (hg : g ≤ 1) :
    cmisPath s g = cmisPath (settleInt (settleEvr (settleCmis s))) g := by
  unfold cmisPath
  rw [stage_settleSignals _ g hg]
  rfl

theorem cmisRight_settle (s : Hw) : cmisRight (settleInt (settleEvr (settleCmis s))) :=
  ⟨cmisPath_settled s 0 (by decide), cmisPath_settled s 1 (by decide)⟩

/-- Settles O3: every step ends by settling, and settling ends with the data path states, the notice bit and INTL. -/
theorem signalsFollowEveryStep : Obligations.SignalsFollowEveryStep := by
  unfold Obligations.SignalsFollowEveryStep
  intro s t ht
  obtain ⟨h, hs⟩ := step_settles s
  cases hs.symm.trans ht
  exact ⟨intlRight_settleInt _, noticeRight_settleInt _, cmisRight_settle _⟩


/-- A happening of a part that is not held has its effect. -/
theorem happens_live {k : Nat → Instr} {f : Hw → Hw} {pre : Hw → Prop} {post : Hw → Hw → Prop}
    (hk : ∀ dt s, exec (k dt) s = event dt f s) (hf : ∀ h, h.phase ≠ .held → pre h → post h (f h)) : Happens k pre post := by
  intro dt s hh hp
  exact ⟨f (passTime dt s.hw), hf _ hh hp, by rw [hk, event_eq, happen_live _ _ hh]⟩

/-! ### The passing of time -/

/-- What every update of a run through a list leaves as it is, the run leaves as it is. -/
theorem Hw.each_same {α : Type} (φ : Hw → α) (l : List Nat) {f : Nat → Hw → Hw} (hf : ∀ i s, φ (f i s) = φ s) (s : Hw) :
    φ (s.each l f) = φ s :=
  Hw.each_keeps (fun t => φ t = φ s) l f (fun i _ t ht => (hf i t).trans ht) s rfl

/-- So does an update under a condition. -/
theorem Hw.cond_same {α : Type} (φ : Hw → α) (b : Bool) {f : Hw → Hw} (s : Hw) (hf : φ (f s) = φ s) : φ (s.cond b f) = φ s := by
  cases b
  · rfl
  · exact hf

/-- A choice between two states that agree with a third. -/
theorem Hw.ite_same {α : Type} (φ : Hw → α) {c : Prop} [Decidable c] {s t u : Hw} (hs : φ s = φ u) (ht : φ t = φ u) :
    φ (if c then s else t) = φ u := by
  split
  · exact hs
  · exact ht

/-- What a performance counter can do at a happening: nothing, count, or wrap round and tell it (R496). -/
theorem pmcOne_cases (ev k n : Nat) (s : Hw) :
    pmcOne ev k n s = s ∨ (∃ v, pmcOne ev k n s = s.setNum64 (GTH_PMC n) v) ∨
      ∃ v w, pmcOne ev k n s =
        (s.setNum64 (GTH_PMC n) v).cond (s.flag (GTH_PMC_CFG_ovf_evt n)) fun s => s.raise 0x1204 [n, ev, w] := by
  unfold pmcOne
  by_cases h : (s.flag (GTH_PMC_CFG_run n) && s.fld (GTH_PMC_CFG_event n) == ev) = true
  · rw [if_pos h]
    by_cases hc : s.num64 (GTH_PMC n) % 2 ^ 48 + k < 2 ^ 48
    · exact .inr (.inl ⟨_, if_pos hc⟩)
    · exact .inr (.inr ⟨_, _, if_neg hc⟩)
  · exact .inl (if_neg h)

@[simp] theorem pmcOne_dtime (ev k n : Nat) (s : Hw) : (pmcOne ev k n s).dtime = s.dtime := by
  rcases pmcOne_cases ev k n s with h | ⟨v, h⟩ | ⟨v, w, h⟩
  · rw [h]
  · rw [h, Hw.setNum64_dtime]
  · rw [h, Hw.cond_same Hw.dtime _ _ (Hw.raise_dtime ..), Hw.setNum64_dtime]

@[simp] theorem Hw.pmc_dtime (s : Hw) (ev k : Nat) : (s.pmc ev k).dtime = s.dtime := by
  unfold Hw.pmc
  exact Hw.ite_same Hw.dtime rfl (Hw.each_same Hw.dtime _ (pmcOne_dtime ev k) s)

theorem foldl_raise_dtime {α : Type} (l : List α) (c : Nat) (p : α → List Nat) (s : Hw) :
    (l.foldl (fun s e => s.raise c (p e)) s).dtime = s.dtime := by
  induction l generalizing s with
  | nil => rfl
  | cons x l ih => exact ih _

@[simp] theorem tellLoss_dtime (s : Hw) (g k : Nat) (c : LCell) : (tellLoss s g k c).dtime = s.dtime := by
  unfold tellLoss
  exact Hw.ite_same Hw.dtime rfl (foldl_raise_dtime _ _ _ _)

@[simp] theorem carry_dtime (s : Hw) (g k header : Nat) (pl : Bytes) : (carry s g k header pl).dtime = s.dtime := by
  unfold carry
  rw [Hw.updGrp_dtime, Hw.emit_dtime, Hw.pmc_dtime]

@[simp] theorem leaveLine_dtime (s : Hw) (g k : Nat) (c : LCell) : (leaveLine s g k c).dtime = s.dtime := by
  have hc : (s.cond (c.kind == 1 || c.kind == 2) fun s => s.pmc (0x022 + 8 * g)).dtime = s.dtime :=
    Hw.cond_same Hw.dtime _ s (Hw.pmc_dtime _ _ _)
  unfold leaveLine
  cases c.stamp with
  | none => simp only [carry_dtime, tellLoss_dtime, hc]
  | some x =>
    refine (carry_dtime _ _ _ _ _).trans ((Hw.cond_same Hw.dtime _ _ rfl).trans ?_)
    rw [tellLoss_dtime, hc]

@[simp] theorem onePosition_dtime (g : Nat) (s : Hw) : (onePosition g s).dtime = s.dtime := by
  unfold onePosition
  dsimp only
  split
  · simp only [leaveLine_dtime, Hw.updGrp_dtime]
  · simp only [carry_dtime, Hw.pmc_dtime, Hw.updGrp_dtime]

@[simp] theorem positionsGo_dtime (n g : Nat) (s : Hw) : (positionsGo n g s).dtime = s.dtime := by
  induction n generalizing s with
  | zero => rfl
  | succ n ih => exact (ih _).trans (onePosition_dtime g s)

@[simp] theorem groupTime_dtime (dt g : Nat) (s : Hw) : (groupTime dt g s).dtime = s.dtime := by
  have hslots : (runSlots dt g s).dtime = s.dtime := by
    unfold runSlots
    split
    · rfl
    · exact Hw.updGrp_dtime ..
  unfold groupTime runPositions
  split
  · exact hslots
  · exact (positionsGo_dtime _ _ _).trans hslots

/-- A context that is written moves, beside its word, the count of contexts at most. -/
theorem setCtx_cases (s : Hw) (i v : Nat) :
    let u : Hw := { s with flw := { s.flw with ctxs := Map.put s.flw.ctxFill s.flw.ctxs i v } }
    s.setCtx i v = u ∨ ∃ n, s.setCtx i v = u.setFld FLW_CTX_contexts n := by
  unfold Hw.setCtx
  generalize decide (cxState (s.ctx i) ≠ 0) = was
  generalize decide (cxState v ≠ 0) = is
  cases was <;> cases is
  · exact .inl rfl
  · exact .inr ⟨_, rfl⟩
  · exact .inr ⟨_, rfl⟩
  · exact .inl rfl

@[simp] theorem setCtx_dtime (s : Hw) (i v : Nat) : (s.setCtx i v).dtime = s.dtime := by
  rcases setCtx_cases s i v with h | ⟨n, h⟩
  · rw [h]
  · rw [h, Hw.setFld_dtime]

/-- The state that executing a command gives, whether the command is done or waits. -/
def Res.state : Res → Hw
  | .done _ _ _ s => s
  | .wait _ s => s

@[simp] theorem freeCtx_dtime (s : Hw) (i : Nat) : (freeCtx s i).dtime = s.dtime := by
  simp only [freeCtx, Hw.setFld_dtime, setCtx_dtime]

@[simp] theorem setStashRegs_dtime (s : Hw) : (setStashRegs s).dtime = s.dtime := by
  unfold setStashRegs
  rw [Hw.setFld_dtime, Hw.setFld_dtime]

@[simp] theorem countKeys_dtime (s : Hw) (up : Bool) : (countKeys s up).dtime = s.dtime := Hw.setFld_dtime ..

@[simp] theorem putSlot_dtime (s : Hw) (k v : Nat) : (putSlot s k v).dtime = s.dtime := rfl

@[simp] theorem removeKey_dtime (s : Hw) (k : Nat) : (removeKey s k).dtime = s.dtime := by
  unfold removeKey
  rw [setStashRegs_dtime]
  dsimp only
  rw [countKeys_dtime, putSlot_dtime]

/-- What a deletion leaves of the state, whether the context had a key or not. -/
theorem deleted_dtime (s : Hw) (k : Option Nat) (i : Nat) :
    (freeCtx (match k with | some k => removeKey s k | none => s) i).dtime = s.dtime := by
  rw [freeCtx_dtime]
  cases k with
  | none => rfl
  | some k => exact removeKey_dtime s k

theorem deleteItems_dtime (p : Bytes) (w : Bool) (n j : Nat) (s : Hw) : (deleteItems p w n j s).state.dtime = s.dtime := by
  induction n generalizing j s with
  | zero => rfl
  | succ n ih =>
    unfold deleteItems
    cases deleteItem s (hasBit (u8 p 1) 0) (itemOf p 12 j) with
    | error det => rfl
    | ok r =>
      obtain ⟨i, k⟩ := r
      dsimp only
      split
      · rfl
      · exact (ih _ _).trans (deleted_dtime s k i)

@[simp] theorem coolTime_dtime (s : Hw) : (coolTime s).dtime = s.dtime := by
  unfold coolTime
  split
  · unfold coolingExpiry
    dsimp only
    split
    · rfl
    · rename_i r _
      cases r.wait with
      | cooling j c =>
        have h := deleteItems_dtime (coreParams r.req) true (u8 (coreParams r.req) 0 - j) j (purgeCooling s)
        dsimp only
        generalize deleteItems (coreParams r.req) true (u8 (coreParams r.req) 0 - j) j (purgeCooling s) = x at h ⊢
        cases x <;> exact h
      | _ => rfl
  · rfl

/-- Time passes, in a part that is not held, by as much as is said (R88). -/
theorem passTime_dtime (dt : Nat) (s : Hw) (h : s.phase ≠ .held) : (passTime dt s).dtime = s.dtime + dt := by
  have hloss : ∀ was c (t : Hw), (lossDue was c t).dtime = t.dtime := fun was c t => Hw.ite_same Hw.dtime rfl rfl
  unfold passTime
  rw [if_neg h]
  dsimp only
  rw [coolTime_dtime, Hw.each_same Hw.dtime [0, 1] (groupTime_dtime dt), hloss, hloss]

/-- Settles O2: every step ends by settling; with an empty queue it is one nanosecond that passes. -/
theorem everyStepAnswers : Obligations.EveryStepAnswers := by
  unfold Obligations.EveryStepAnswers
  refine ⟨fun s => ?_, fun s hq => ⟨by simp [step, hq, tick], passTime_dtime 1 s.hw, fun hp => ?_⟩⟩
  · obtain ⟨h, hs⟩ := step_settles s
    exact ⟨_, hs, rfl⟩
  · rw [passTime_phase 1 s.hw hp]
end Sys2Proof.Machine

namespace Sys2Proof.Machine
open Reg

/-! ### A step, and the state after reset -/

/-- Settles O1: a step looks at the front of the queue alone. -/
theorem stepTakesTheFrontCommand : Obligations.StepTakesTheFrontCommand := by
  unfold Obligations.StepTakesTheFrontCommand
  intro c rest s hq
  rw [step, hq]

/-- Settles O4: nothing has been written, so that every word is at its cold-start value and both groups are in P0. -/
theorem resetState : Obligations.ResetState := by
  unfold Obligations.ResetState
  exact ⟨rfl, rfl, rfl, fun _ => rfl, rfl, rfl, rfl, rfl, rfl, rfl, rfl, rfl, rfl⟩

end Sys2Proof.Machine

namespace Sys2Proof.Machine
open Reg

/-! ### A held part in which low power has stayed in force -/

/-- A part held in reset whose low power has not been left, with LIT kept as the target of unit 0 (R532). -/
def heldInLowPower : Hw := { phase := .held, pwr := { lowPower := true, kept := [(0, 2)] } }

theorem settleInt_cmd (s : Hw) : (settleInt s).cmd = s.cmd := by
  unfold settleInt
  dsimp only
  rw [Hw.setFlag_cmd, Hw.setFlag_cmd]

theorem settleEvr_cmd (s : Hw) : (settleEvr s).cmd = s.cmd := by
  unfold settleEvr
  rw [Hw.setFlag_cmd, Hw.setFld_cmd]

/-- A held part settles its signals alone, so its commands and its journal stand. -/
theorem settle_held_cmd (s : Hw) (h : s.phase = .held) : (settle s).cmd = s.cmd := by
  unfold settle
  rw [if_pos h, settleInt_cmd, settleEvr_cmd]
  rfl

theorem lowPowerExit_heldInLowPower :
    (lowPowerExit (passTime 0 heldInLowPower)).phase = .held ∧ (lowPowerExit (passTime 0 heldInLowPower)).cmd.journal.length = 1 := by
  decide +kernel

/-- Refutes O5: LOW_POWER_EXIT acts in a held part too, and restoring a kept target makes an entry in the journal (R533). -/
theorem not_onlyAStartLeavesReset : ¬ Obligations.OnlyAStartLeavesReset := by
  unfold Obligations.OnlyAStartLeavesReset
  intro h
  obtain ⟨hphase, hlen⟩ := lowPowerExit_heldInLowPower
  have hexec : exec (.lowPowerExit 0) { hw := heldInLowPower } =
      .next { hw := settle (lowPowerExit (passTime 0 heldInLowPower)) } := rfl
  rcases h (.lowPowerExit 0) { hw := heldInLowPower } _ rfl hexec with ⟨_, _, _, _, hc⟩ | ⟨_, _, _, hj⟩
  · cases hc
  · rw [settle_held_cmd _ hphase] at hj
    rw [hj] at hlen
    exact absurd hlen (by decide)

end Sys2Proof.Machine

namespace Sys2Proof.Machine
open Reg

/-! ### Levels (R62, steps 5 and 6 of R51) -/

theorem opCheck_short {h : Hw} {op : OpSpec} {rq : Request} (h3 : rq.level ≠ 3) (hl : rq.level < op.levelOf h rq) :
    opCheck h op rq = some (stACCESS, op.levelOf h rq) := by
  simp [opCheck, h3, hl]

/-- A claimed level above the one granted, where no key has to verify first. -/
theorem opCheck_ungranted {h : Hw} {op : OpSpec} {rq : Request} (h3 : rq.level ≠ 3) (hl : op.levelOf h rq ≤ rq.level)
    (hk : byKey rq = false) (hg : granted h rq < rq.level) : opCheck h op rq = some (stACCESS, rq.level) := by
  have hl : ¬ op.levelOf h rq > rq.level := Nat.not_lt.mpr hl
  simp [opCheck, h3, hl, hk, hg]

/-- A key that verifies and does not grant the claimed level. -/
theorem opCheck_weakKey {h : Hw} {op : OpSpec} {rq : Request} (hk : byKey rq = true) (hl : op.levelOf h rq ≤ 2)
    (hn : 100 ≤ rq.params.length) (ht : trailerCheck h op.opcode rq = none) (hg : granted h rq < 2) :
    opCheck h op rq = some (stACCESS, 2) := by
  have h2 : rq.level = 2 := by
    simp only [byKey, Bool.and_eq_true, beq_iff_eq] at hk
    exact hk.1
  have hl : ¬ op.levelOf h rq > 2 := Nat.not_lt.mpr hl
  simp [opCheck, h2, hl, hk, hn, ht, hg]

/-- A Maintainer request of an implicit session that is too short for a trailer does not pass. -/
theorem opCheck_unsigned {h : Hw} {op : OpSpec} {rq : Request} (hk : byKey rq = true) (hn : rq.params.length < 100) :
    opCheck h op rq ≠ none := by
  have h2 : rq.level = 2 := by
    simp only [byKey, Bool.and_eq_true, beq_iff_eq] at hk
    exact hk.1
  have hs : (rq.level == 2 && decide (rq.params.length ≥ 100)) = false := by simp [Nat.not_le.mpr hn]
  have hlen : rq.params.length < op.fixed + trailerLen rq := by simp [trailerLen, h2]; omega
  unfold opCheck
  dsimp only
  rw [hs, if_neg (by omega : ¬ rq.level = 3)]
  by_cases hl : op.levelOf h rq > rq.level
  · simp [hl]
  · simp [hl, hk, hlen]

theorem opCheck_none {h : Hw} {op : OpSpec} {rq : Request} (hc : opCheck h op rq = none) :
    op.levelOf h rq ≤ rq.level ∧ rq.level ≤ granted h rq ∧ rq.level ≠ 3 := by
  have hv : rq.level ≠ 3 := fun e => by simp [opCheck_level h op rq e] at hc
  have hl : op.levelOf h rq ≤ rq.level := Nat.not_lt.mp fun l => by simp [opCheck_short hv l] at hc
  refine ⟨hl, Nat.not_lt.mp fun hg => ?_, hv⟩
  cases hk : byKey rq with
  | false => simp [opCheck_ungranted hv hl hk hg] at hc
  | true =>
    have h2 : rq.level = 2 := by
      simp only [byKey, Bool.and_eq_true, beq_iff_eq] at hk
      exact hk.1
    rw [h2] at hl hg
    by_cases hn : 100 ≤ rq.params.length
    · cases ht : trailerCheck h op.opcode rq with
      | none => simp [opCheck_weakKey hk hl hn ht hg] at hc
      | some d =>
        have hl : ¬ op.levelOf h rq > 2 := Nat.not_lt.mpr hl
        simp [opCheck, h2, hl, hk, hn, ht] at hc
    · exact opCheck_unsigned hk (Nat.not_le.mp hn) hc

/-! ### What the parts of serving keep -/

theorem keeps_mono {ss ss' : List Nat} {ps ps' : List Part} {h u : Hw} (hs : ss ⊆ ss') (hp : ps ⊆ ps') (k : keeps ss ps h u) :
    keeps ss' ps' h u :=
  ⟨fun a ha => k.1 a fun m => ha (hs m), fun p hq => k.2.1 p fun m => hq (hp m), k.2.2⟩

theorem keeps_cond {ss : List Nat} {ps : List Part} (s : Hw) (b : Bool) {f : Hw → Hw} (hf : keeps ss ps s (f s)) :
    keeps ss ps s (s.cond b f) :=
  Hw.cond_keeps (keeps ss ps s) b f s (fun _ => hf) (keeps_refl ss ps s)

theorem keeps_each {ss : List Nat} {ps : List Part} (l : List Nat) {f : Nat → Hw → Hw} (hf : ∀ i ∈ l, ∀ s, keeps ss ps s (f i s))
    (s : Hw) : keeps ss ps s (s.each l f) :=
  Hw.each_keeps (keeps ss ps s) l f (fun i hi t ht => keeps_trans ht (hf i hi t)) s (keeps_refl ss ps s)

theorem keeps_setNum64 (ss : List Nat) (ps : List Part) (s : Hw) {a : Nat} (n : Nat) (h : a / 65536 ∈ ss)
    (h' : (a + 1) / 65536 ∈ ss) : keeps ss ps s (s.setNum64 a n) :=
  keeps_trans (keeps_setReg ss ps s a _ h) (keeps_setReg ss ps _ (a + 1) _ h')

/-- A change of the command processor alone. -/
theorem keeps_cmd (s : Hw) (c : Cmd) : keeps [] [.cmd] s { s with cmd := c } := by
  refine ⟨fun _ _ => rfl, fun p hp => ?_, rfl⟩
  cases p with
  | cmd => simp at hp
  | _ => rfl

theorem keeps_nv (s : Hw) (n : Nv) : keeps [] [.nv] s { s with nv := n } := by
  refine ⟨fun _ _ => rfl, fun p hp => ?_, rfl⟩
  cases p with
  | nv => simp at hp
  | _ => rfl

theorem keeps_pwr (s : Hw) (x : Pwr) : keeps [] [.pwr] s { s with pwr := x } := by
  refine ⟨fun _ _ => rfl, fun p hp => ?_, rfl⟩
  cases p with
  | pwr => simp at hp
  | _ => rfl

theorem keeps_pmcOne (ev k : Nat) {n : Nat} (hn : n < 8) (s : Hw) : keeps [0x12] [.evr] s (pmcOne ev k n s) := by
  have hu : GTH_PMC n / 65536 ∈ [0x12] := by
    change (0x122011 + 0x4 * n) / 65536 ∈ [0x12]
    simp only [List.mem_singleton]
    omega
  have hl : (GTH_PMC n + 1) / 65536 ∈ [0x12] := by
    change (0x122011 + 0x4 * n + 1) / 65536 ∈ [0x12]
    simp only [List.mem_singleton]
    omega
  rcases pmcOne_cases ev k n s with h | ⟨v, h⟩ | ⟨v, w, h⟩ <;> rw [h]
  · exact keeps_refl _ _ s
  · exact keeps_setNum64 _ _ s v hu hl
  · exact keeps_trans (keeps_setNum64 _ _ s v hu hl) (keeps_cond _ _ (keeps_raise _ _ _ _ _ (by simp)))

theorem keeps_pmc (s : Hw) (ev k : Nat) : keeps [0x12] [.evr] s (s.pmc ev k) := by
  unfold Hw.pmc
  split
  · exact keeps_refl _ _ s
  · exact keeps_each _ (fun n hn t => keeps_pmcOne ev k (by simpa using hn) t) s

theorem pmcOne_nv (ev k n : Nat) (s : Hw) : (pmcOne ev k n s).nv = s.nv := by
  rcases pmcOne_cases ev k n s with h | ⟨v, h⟩ | ⟨v, w, h⟩ <;> rw [h]
  · rw [Hw.setNum64_nv]
  · rw [Hw.cond_same Hw.nv _ _ (Hw.raise_nv ..), Hw.setNum64_nv]

@[simp] theorem Hw.pmc_nv (s : Hw) (ev k : Nat) : (s.pmc ev k).nv = s.nv := by
  unfold Hw.pmc
  split
  · rfl
  · exact Hw.each_same Hw.nv _ (pmcOne_nv ev k) s

theorem keeps_updSession (s : Hw) (n : Nat) (f : Session → Session) : keeps [] [.cmd] s (updSession s n f) := keeps_cmd s _

theorem keeps_marked (op : OpSpec) (rq : Request) (h : Hw) : keeps [] [.cmd] h (marked op rq h) := by
  have hh : keeps [] [.cmd] h (heard rq h) := keeps_updSession h _ _
  unfold marked
  split
  · exact hh
  · split
    · exact hh
    · exact keeps_trans hh (keeps_updSession _ _ _)

theorem keeps_useNonce (s : Hw) (rq : Request) : keeps [] [.cmd] s (useNonce s rq) := by
  unfold useNonce
  split
  · exact keeps_updSession _ _ _
  · exact keeps_refl _ _ s

theorem addEntry_keeps (s : Hw) (e : JEntry) : keeps [0x12] [.cmd, .evr, .nv] s (addEntry s e) := by
  have hp : keeps [0x12] [.cmd, .evr, .nv] s (s.pmc 0x091) := keeps_mono (by simp) (by simp) (keeps_pmc s _ _)
  unfold addEntry
  refine keeps_trans hp ⟨fun _ _ => rfl, fun p hp => ?_, rfl⟩
  cases p with
  | cmd | nv => simp at hp
  | _ => rfl

theorem addEntry_nv (s : Hw) (e : JEntry) : (addEntry s e).nv = { s.nv with epoch := e.epoch } := rfl

theorem keeps_entered (op : OpSpec) (rq : Request) (h : Hw) : keeps [0x12] [.cmd, .evr, .nv] h (entered op rq h) := by
  have hm : keeps [0x12] [.cmd, .evr, .nv] h (useNonce (marked op rq h) rq) :=
    keeps_mono (by simp) (by simp) (keeps_trans (keeps_marked op rq h) (keeps_useNonce _ rq))
  exact keeps_trans hm (keeps_cond _ _ (addEntry_keeps _ _))

/-- Of the non-volatile state only the epoch of the numbering moves as a request is taken up (R77). -/
theorem entered_nv (op : OpSpec) (rq : Request) (h : Hw) : { (entered op rq h).nv with epoch := h.nv.epoch } = h.nv := by
  have hn : (useNonce (marked op rq h) rq).nv = h.nv :=
    (keeps_trans (keeps_marked op rq h) (keeps_useNonce _ rq)).2.1 .nv (by simp)
  unfold entered
  dsimp only
  cases op.journal != 0
  · rw [Hw.cond_false, hn]
  · rw [Hw.cond_true, addEntry_nv, hn]

theorem keeps_wake (s : Hw) (d cause : Nat) (hd : d < 0x1000) : keeps [0x02] [.pwr] s (s.wake d cause) := by
  have hst : (PWR_DOM_state d).addr / 65536 ∈ [0x02] := by
    change (0x023000 + d) / 65536 ∈ [0x02]
    simp only [List.mem_singleton]
    omega
  unfold Hw.wake
  split
  · exact keeps_refl _ _ s
  split
  · exact keeps_setFld _ _ s (PWR_DOM_ignored d) _ hst
  split
  · exact keeps_trans (keeps_setFld _ _ s (PWR_DOM_state d) _ hst) (keeps_mono (by simp) (by simp) (keeps_pwr _ _))
  split
  · exact keeps_mono (by simp) (by simp) (keeps_pwr _ _)
  · exact keeps_refl _ _ s

theorem keeps_access (s : Hw) (d : Nat) (hd : d < 0x1000) : keeps [0x02] [.pwr] s (s.access d) :=
  keeps_trans (keeps_wake s d 0 hd) (keeps_mono (by simp) (by simp) (keeps_pwr _ _))

theorem keeps_startCommit (s : Hw) (index : Nat) (objs : List (Nat × Bytes)) (undo : Undo) :
    keeps [0x02] [.pwr, .nv] s (startCommit s index objs undo) := by
  unfold startCommit
  split
  · exact keeps_refl _ _ s
  · exact keeps_trans (keeps_cond _ _ (keeps_mono (by simp) (by simp) (keeps_access s 19 (by decide))))
      (keeps_mono (by simp) (by simp) (keeps_nv _ _))

theorem keeps_record (s : Hw) (op : OpSpec) (p : Bytes) (index st det : Nat) (undo : Undo) :
    keeps [0x02] [.cmd, .pwr, .nv] s (record s op p index st det undo) :=
  keeps_trans (keeps_cond s _ (keeps_mono (by simp) (by simp) (keeps_cmd s _)))
    (keeps_cond _ _ (keeps_mono (by simp) (by simp) (keeps_startCommit _ _ _ _)))

theorem keeps_closed (op : OpSpec) (rq : Request) (b e : Hw) (pl : Bytes) (hl : tooLong rq pl = false) :
    keeps [0x02] [.cmd, .nv, .pwr, .host, .out, .cmis] e (closed op rq b e pl) := by
  unfold closed
  rw [hl, if_neg (by decide)]
  exact keeps_trans (keeps_mono (by simp) (by simp) (keeps_record e op _ _ _ _ _))
    (keeps_mono (by simp) (by simp) (repliesOnly_keeps (answer_repliesOnly (by decide) _ _ _ _ _ _ _)))

/-! ### The full journal (R78) -/

/-- With the RAM tier full a new entry takes the oldest one's place. -/
theorem addEntry_full {h : Hw} (e : JEntry) (hf : h.cmd.journal.length = ramTier) :
    (addEntry h e).cmd.journal = h.cmd.journal.tail ++ [e] := by
  unfold addEntry
  dsimp only
  rw [List.length_append, hf, List.length_singleton, Nat.add_sub_cancel_left]
  cases hj : h.cmd.journal with
  | nil => simp [hj, ramTier] at hf
  | cons x l => rfl

theorem refusal_full {h : Hw} {op : OpSpec} {p : Bytes} {x : JEntry} {l : List JEntry} (hp : h.phase = .ready)
    (hj : op.journal ≠ 0) (hr : resetBusy h op.opcode = false) (hb : (clashes h op p || op.busy h p) = false)
    (hn : ¬ (op.journal = 2 ∧ nvRate h = true)) (hq : h.cmd.journal = x :: l) (hf : h.cmd.journal.length = ramTier)
    (hx : x.status = stACCEPTED) : refusal h op p = some (stBUSY, 5) := by
  have ho : oldestPending h = true := by
    rw [hq] at hf
    simp [oldestPending, hq, hx, ← hf]
  have hn : ¬ (op.journal = 2 ∧ nvRate h = true) := hn
  unfold refusal
  rw [if_neg (by simp [hp]), if_neg hj, hr, if_neg (by decide), hb, if_neg (by decide), if_neg hn, ho, if_pos rfl]

/-- Settles O7: the checks of levels, what each part of serving keeps, and the journal with its RAM tier full. -/
theorem levelsFramesAndTheFullJournal : Obligations.LevelsFramesAndTheFullJournal := by
  unfold Obligations.LevelsFramesAndTheFullJournal
  refine ⟨fun h op rq _ => ⟨fun hc => opCheck_none hc, ?_, ?_, fun hk hl hn ht hg => opCheck_weakKey hk hl hn ht hg⟩, ?_,
    fun op rq h => ⟨keeps_entered op rq h, entered_nv op rq h⟩, ?_, fun op rq b e w => ⟨keeps_cmd e _, rfl, rfl⟩,
    fun h e hf => addEntry_full e hf, ?_⟩
  · intro hv
    by_cases e : rq.level = 3
    · exact ⟨3, opCheck_level h op rq e⟩
    · exact ⟨_, opCheck_short e (hv.resolve_left e)⟩
  · intro hl h2 hk hg
    exact opCheck_ungranted (by omega) hl hk hg
  · intro h op rq st det hc
    simp [proceed, hc]
  · intro op rq b e pl
    cases hl : tooLong rq pl with
    | true => exact .inr rfl
    | false => exact .inl (keeps_closed op rq b e pl hl)
  · intro h op p x l hp hj hr hb hn hq hf hx
    exact refusal_full hp hj hr hb hn hq hf hx

end Sys2Proof.Machine

namespace Sys2Proof.Machine
open Reg

/-! ### 64-bit values and counters -/

theorem num64_setNum64 (h : Hw) (a n : Nat) : (h.setNum64 a n).num64 a = n % 2 ^ 64 := by
  have hu : (h.setNum64 a n).num a = n / 2 ^ 32 % 2 ^ 32 := by
    unfold Hw.setNum64
    rw [Hw.num_setNum_other _ _ (by omega), Hw.num_setNum_same, Nat.mod_mod]
  have hl : (h.setNum64 a n).num (a + 1) = n % 2 ^ 32 := by
    unfold Hw.setNum64
    rw [Hw.num_setNum_same, Nat.mod_mod]
  rw [Hw.num64, hu, hl]
  omega

theorem reg_setNum64_other (h : Hw) {a b : Nat} (n : Nat) (ha : b ≠ a) (hl : b ≠ a + 1) : (h.setNum64 a n).reg b = h.reg b := by
  unfold Hw.setNum64 Hw.setNum
  rw [Hw.reg_setReg_other _ _ hl, Hw.reg_setReg_other _ _ ha]

/-! ### A word that is written through the fabric -/

theorem reg_clampFld_other (lo hi : Nat) (f : Fld) (s : Hw) {b : Nat} (hb : b ≠ f.addr) : (clampFld lo hi f s).reg b = s.reg b :=
  Hw.reg_setFld_other s f _ hb

theorem regsRight_clampFld (lo hi : Nat) (f : Fld) (s : Hw) (h : regsRight s) : regsRight (clampFld lo hi f s) :=
  regsRight_setFld s f _ h

/-- The words to which a written word is limited: LRX_CFG and LTX_LEVELS of a lane, and FES_CFG (R136, R158, R392). -/
theorem clampWord_cases (a : Nat) (s : Hw) :
    (∃ n, n < 8 ∧ a = LRX_CFG n ∧
      clampWord a s = holdMain (clampFld 8 24 (LRX_CFG_main_pos n) (clampFld 20 80 (LRX_CFG_los_thr n) s)) n) ∨
    (∃ n, n < 8 ∧ a = LTX_LEVELS n ∧
      clampWord a s = clampFld 64 106 (LTX_LEVELS_inner_pos n) (clampFld 64 106 (LTX_LEVELS_inner_neg n) s)) ∨
    (a = FES_CFG ∧ clampWord a s = clampFld 100 5000 FES_CFG_settle_max (clampFld 1 1000 FES_CFG_deadline s)) ∨
    clampWord a s = s := by
  unfold clampWord
  dsimp only
  split
  · rename_i h
    exact .inl ⟨_, h.2, h.1, rfl⟩
  · split
    · rename_i h
      exact .inr (.inl ⟨_, h.2, h.1, rfl⟩)
    · split
      · rename_i h
        exact .inr (.inr (.inl ⟨h, rfl⟩))
      · exact .inr (.inr (.inr rfl))

theorem regsRight_clampWord (a : Nat) (s : Hw) (h : regsRight s) : regsRight (clampWord a s) := by
  rcases clampWord_cases a s with ⟨n, _, _, e⟩ | ⟨n, _, _, e⟩ | ⟨_, e⟩ | e <;> rw [e]
  · exact regsRight_setFld _ _ _ (regsRight_clampFld _ _ _ _ (regsRight_clampFld _ _ _ _ h))
  · exact regsRight_clampFld _ _ _ _ (regsRight_clampFld _ _ _ _ h)
  · exact regsRight_clampFld _ _ _ _ (regsRight_clampFld _ _ _ _ h)
  · exact h

/-- The main tap of a lane stands in subsystem 0x04. -/
theorem holdMain_reg_other (s : Hw) {n b : Nat} (hn : n < 8) (hb : b / 65536 ≠ 4) : (holdMain s n).reg b = s.reg b := by
  have hpos : s.fld (LRX_CFG_main_pos n) < 2 ^ 5 := Nat.mod_lt _ (Nat.two_pow_pos 5)
  refine Hw.reg_setFld_other s _ _ fun e => hb ?_
  change b = 0x040100 + 0x1000 * n + s.fld (LRX_CFG_main_pos n) at e
  omega

theorem clampWord_reg_other (a : Nat) (s : Hw) {b : Nat} (hb : b ≠ a) (h4 : a / 65536 = 4 → b / 65536 ≠ 4) :
    (clampWord a s).reg b = s.reg b := by
  rcases clampWord_cases a s with ⟨n, hn, ha, e⟩ | ⟨n, _, ha, e⟩ | ⟨ha, e⟩ | e <;> rw [e]
  · subst ha
    have hs : LRX_CFG n / 65536 = 4 := by
      change (0x040001 + 0x1000 * n) / 65536 = 4
      omega
    rw [holdMain_reg_other _ hn (h4 hs), reg_clampFld_other _ _ _ _ hb, reg_clampFld_other _ _ _ _ hb]
  · subst ha
    rw [reg_clampFld_other _ _ _ _ hb, reg_clampFld_other _ _ _ _ hb]
  · subst ha
    rw [reg_clampFld_other _ _ _ _ hb, reg_clampFld_other _ _ _ _ hb]

/-- Outside the subsystems 0x03, 0x04 and 0x0D a written word is not limited. -/
theorem clampWord_free {a : Nat} (s : Hw) (h : a / 65536 ∉ [0x03, 0x04, 0x0D]) : clampWord a s = s := by
  simp only [List.mem_cons, List.not_mem_nil, or_false, not_or] at h
  rcases clampWord_cases a s with ⟨n, hn, ha, _⟩ | ⟨n, hn, ha, _⟩ | ⟨ha, _⟩ | e
  · change a = 0x040001 + 0x1000 * n at ha
    omega
  · change a = 0x030012 + 0x1000 * n at ha
    omega
  · change a = 0x0DF001 at ha
    omega
  · exact e

theorem regsRight_putTable (s : Hw) (a : Nat) (v : Word) (h : regsRight s) : regsRight (putTable s a v) :=
  Hw.cond_keeps regsRight _ _ _ id (regsRight_setReg s a _ h)

/-- The word that a write gives: bits `rw` from `v`, bits `c1` cleared where `v` has them unless the hardware sets them. -/
def writtenWord (d : RegDesc) (x : Word) (v during : Nat) : Word :=
  (x &&& ~~~(BitVec.ofNat 32 d.rw ||| (BitVec.ofNat 32 d.c1 &&& BitVec.ofNat 32 v))) |||
    (BitVec.ofNat 32 v &&& BitVec.ofNat 32 d.rw) ||| (BitVec.ofNat 32 during &&& BitVec.ofNat 32 d.c1)

theorem writeWord_none {a : Nat} (v during : Nat) (s : Hw) (h : regFind a = none) : writeWord a v during s = s := by
  simp [writeWord, h]

theorem writeWord_table {a : Nat} (v during : Nat) (s : Hw) {r : RegDesc × List Nat} (hr : regFind a = some r)
    (ht : (hostTable a).isSome = true) : writeWord a v during s = putTable s a (BitVec.ofNat 32 v) := by
  simp [writeWord, hr, ht]

theorem writeWord_plain {a : Nat} (v during : Nat) (s : Hw) {d : RegDesc} {k : List Nat} (hr : regFind a = some (d, k))
    (ht : (hostTable a).isSome = false) :
    writeWord a v during s = clampWord a (s.setReg a (writtenWord d (s.reg a) v during)) := by
  simp [writeWord, hr, ht, writtenWord]

theorem regsRight_writeWord (a v during : Nat) (s : Hw) (h : regsRight s) : regsRight (writeWord a v during s) := by
  cases hr : regFind a with
  | none => rwa [writeWord_none v during s hr]
  | some r =>
    obtain ⟨d, k⟩ := r
    cases ht : (hostTable a).isSome with
    | true => exact writeWord_table v during s hr ht ▸ regsRight_putTable _ _ _ h
    | false => exact writeWord_plain v during s hr ht ▸ regsRight_clampWord _ _ (regsRight_setReg _ _ _ h)

theorem writeWord_reg_other {a b : Nat} (v during : Nat) (s : Hw) (hb : b ≠ a) (h4 : a / 65536 = 4 → b / 65536 ≠ 4)
    (ht : (hostTable a).isSome = false) : (writeWord a v during s).reg b = s.reg b := by
  cases hr : regFind a with
  | none => rw [writeWord_none v during s hr]
  | some r =>
    rw [writeWord_plain v during s hr ht, clampWord_reg_other a _ hb h4, Hw.reg_setReg_other _ _ hb]

/-- Each bit of a written word goes by its access kind (R8, R28). -/
theorem writtenWord_bit (d : RegDesc) (x : Word) (v during : Nat) {i : Nat} (hd : d.rw &&& d.c1 = 0) (hi : i < 32) :
    (writtenWord d x v during).getLsbD i =
      if d.rw.testBit i then v.testBit i
      else if d.c1.testBit i then (during.testBit i || (x.getLsbD i && !v.testBit i)) else x.getLsbD i := by
  have hex : ¬ (d.rw.testBit i = true ∧ d.c1.testBit i = true) := by
    intro ⟨hr, hc⟩
    have := congrArg (fun n => n.testBit i) hd
    simp [Nat.testBit_and, hr, hc] at this
  unfold writtenWord
  simp only [BitVec.getLsbD_or, BitVec.getLsbD_and, BitVec.getLsbD_not, BitVec.getLsbD_ofNat, hi, decide_true, Bool.true_and]
  cases hr : d.rw.testBit i <;> cases hc : d.c1.testBit i
  · simp
  · simp [Bool.or_comm]
  · simp
  · exact absurd ⟨hr, hc⟩ hex

/-- Settles O10: a field is a run of bits of its word, and a write goes by the bits' access kinds. -/
theorem registersAndWrites : Obligations.RegistersAndWrites := by
  unfold Obligations.RegistersAndWrites
  refine ⟨fun h f v hf => Hw.fld_setFld_same h v hf, fun h f g v _ hg hd => Hw.fld_setFld_other h v hg hd,
    fun h a n => ⟨num64_setNum64 h a n, fun b ha hl => reg_setNum64_other h n ha hl⟩,
    fun h a k => ⟨Hw.num_count_same h a k, fun b hb => Hw.reg_setReg_other h _ hb⟩,
    fun h a v during hr => regsRight_writeWord a v during h hr, fun h a v during hn => writeWord_none v during h hn, ?_, ?_⟩
  · intro h a b v during hb h4 ht
    exact writeWord_reg_other v during h hb h4 (by simpa using ht)
  · intro h a v during i d k hr ht hs hd hi
    rw [writeWord_plain v during h hr (by simp [ht]), clampWord_free _ hs, Hw.reg_setReg_same, writtenWord_bit d _ v during hd hi]

end Sys2Proof.Machine

namespace Sys2Proof.Machine
open Reg

/-! ### A symbol value that is none, and the word behind the pre-distortion table -/

/-- A part whose lane 0 has a tap c(-2) of 10 and no other, a pre-distortion table of zeros, and 127 in the first byte of the word
behind the table. -/
def beyondTable : Hw := { regs := [(LTX_TAPS 0 0, 0x0A000000#32), (LTX_TAPS 0 1, 0#32), (LTX_PD 0 16, 0x7F000000#32)] }

/-- A window with 64 in the place of a symbol value. -/
def windowBeyond : List Nat := [3, 64, 0, 0, 0, 0, 0]

theorem beyondTable_zeros : ∀ k, k < 16 → beyondTable.num (LTX_PD 0 k) = 0 := by decide +kernel

theorem beyondTable_taps : sumN ((List.range 7).map fun i => (txTap beyondTable 0 i).natAbs) ≤ 128 := by decide +kernel

theorem dacRaw_beyondTable : dacRaw beyondTable 0 windowBeyond = 265 := by decide +kernel

/-- Refutes O11: its last clause takes windows of any numbers, and a number above 3 reads a word behind the pre-distortion table. -/
theorem not_lineCoding : ¬ Obligations.LineCoding := by
  unfold Obligations.LineCoding
  intro ⟨_, _, _, _, _, _, hclip⟩
  have h := hclip beyondTable 0 windowBeyond beyondTable_zeros beyondTable_taps
  rw [dacClips, dacRaw_beyondTable] at h
  exact absurd h (by decide)

end Sys2Proof.Machine

namespace Sys2Proof.Machine
open Reg

/-! ### The routes (R43 to R46) -/

theorem cdbRequest_served {h : Hw} {lpl : Bytes} (epl : Bytes) (ht : h.takesCommands = true)
    (hl : lpl.length = (if u16 lpl 2 ≤ 104 then 16 + u16 lpl 2 else 16)) :
    cdbRequest 0xB800 true lpl epl h =
      serveRequest (parsePacket .twoWire (lpl.take 16) (if u16 lpl 2 ≤ 104 then lpl.drop 16 else epl)) h := by
  have h16 : ¬ lpl.length < 16 := by
    split at hl <;> omega
  unfold cdbRequest
  rw [if_neg (by simp [ht])]
  dsimp only
  rw [if_neg (by simp [h16, ← hl])]

theorem mspiWrite_served {h : Hw} {pk : Bytes} (ht : h.takesCommands = true) (hl : 16 ≤ pk.length) :
    mspiWrite pk h = serveRequest (parsePacket .mspi (pk.take 16) (pk.drop 16)) h := by
  unfold mspiWrite
  rw [if_neg]
  simp only [ht, Bool.not_true, Bool.false_eq_true, false_or]
  omega

theorem mspiRead_reply {h : Hw} {r : Reply} {t : List Reply} (ht : h.takesCommands = true) (hq : h.cmd.mspiQ = r :: t) :
    mspiRead h = ({ h with cmd := { h.cmd with mspiQ := t } } : Hw).emit (.mspi (1 :: replyBytes r)) := by
  simp [mspiRead, ht, hq]

theorem mspiRead_empty {h : Hw} (ht : h.takesCommands = true) (hq : h.cmd.mspiQ = []) : mspiRead h = h.emit (.mspi [0]) := by
  simp [mspiRead, ht, hq]

/-- A frame that is kept is counted as received, and nothing else (R256). -/
theorem keepFrame_kept {h : Hw} {p : Nat} {b : Bytes} (hk : (keepFrame h p b).1 = true) :
    keepFrame h p b = (true, h.count64 (HPC_RX_FRAMES p)) := by
  unfold keepFrame at hk ⊢
  dsimp only at hk ⊢
  split at hk
  · cases hk
  · rename_i hb
    rw [if_neg hb]
    simp only [Bool.or_eq_true, not_or, Bool.not_eq_true] at hb
    rw [hb.1, Hw.cond_false]

theorem inbandRequest_kept {h : Hw} {p : Nat} {f : Bytes} (he : portEnabled h p = true)
    (hr : (portLanes h p).all (fun l => h.ready (8 + l / 4)) = true) (ha : h.flag (HPC_PORT_STATUS_aligned p) = true)
    (hh : portHeld h p = false) (hd : frameDst f = h.mac) (ht : frameType f = h.fld CMD_CFG_inband_etype)
    (hk : (keepFrame h p f).1 = true) : inbandRequest p f h = inbandPacket p f (h.count64 (HPC_RX_FRAMES p)) := by
  unfold inbandRequest
  simp [he, hr, ha, hh, hd, ht, keepFrame_kept hk]

/-! ### The times of sessions and nonces (R64, R67) -/

theorem nonceExpiry_old {h : Hw} {n v t : Nat} {x : Session} (hx : findSession h n = some x) (hn : x.nonce = some (v, t))
    (ht : t + 10 ^ 10 < h.dtime) : nonceExpiry n h = updSession h n fun x => { x with nonce := none } := by
  have hl : nonceLive h x = false := by
    simp only [nonceLive, hn, decide_eq_false_iff_not]
    omega
  simp [nonceExpiry, hx, hn, hl]

theorem provisionalTimeout_old {h : Hw} {n t : Nat} {tr : Bytes} {x : Session} (hx : findSession h n = some x)
    (hp : x.prov = some (tr, t)) (ht : t + 5000000000 ≤ h.dtime) : provisionalTimeout n h = dropSession h n := by
  unfold provisionalTimeout
  rw [hx]
  dsimp only
  rw [if_pos]
  rw [hp, Option.any_some, decide_eq_true_eq]
  exact ht

theorem sessionIdle_old {h : Hw} {n : Nat} {x : Session} (hn : n < 0xFFF0) (hx : findSession h n = some x) (hp : x.prov = none)
    (ht : x.lastReq + 300000000000 ≤ h.dtime) : sessionIdle n h = (dropSession h n).raise 0x0008 [n] := by
  unfold sessionIdle
  rw [hx]
  dsimp only
  rw [if_pos]
  exact ⟨hn, by rw [hp, Option.isNone_none], ht⟩

theorem findSession_dropSession (h : Hw) (n : Nat) : findSession (dropSession h n) n = none := by
  simp [findSession, dropSession]

/-! ### Counts of a second that has ended (R604) -/

theorem keeps_foldl_raiseCount (l : List (Nat × Nat × Nat × Nat × Nat)) (s : Hw) :
    keeps [] [.evr] s (l.foldl Hw.raiseCount s) := by
  induction l generalizing s with
  | nil => exact keeps_refl _ _ s
  | cons e l ih => exact keeps_trans (keeps_raise _ _ s _ _ (by simp)) (ih _)

theorem foldl_raiseCount_counts (l : List (Nat × Nat × Nat × Nat × Nat)) (s : Hw) :
    (l.foldl Hw.raiseCount s).evr.counts = s.evr.counts := by
  induction l generalizing s with
  | nil => rfl
  | cons e l ih => exact ih _

theorem foldl_raiseCount_bus (l : List (Nat × Nat × Nat × Nat × Nat)) (s : Hw) :
    (l.foldl Hw.raiseCount s).evr.bus = s.evr.bus ++ l.map fun e =>
      Ev.mk (e.1 / 2 ^ 24) (countParams (e.1 / 2 ^ 24) (e.1 % 2 ^ 24) e.2.2.1 e.2.2.2.1 e.2.2.2.2) s.dtime := by
  induction l generalizing s with
  | nil => simp
  | cons e l ih =>
    rw [List.foldl_cons, ih, Hw.raiseCount, Hw.raise_bus, Hw.raise_dtime, List.append_assoc, List.map_cons]
    rfl

theorem keeps_updEvr (s : Hw) (f : Evr → Evr) : keeps [] [.evr] s (updEvr s f) := by
  refine ⟨fun _ _ => rfl, fun p hp => ?_, rfl⟩
  cases p with
  | evr => simp at hp
  | _ => rfl

theorem reportCounts_keeps (h : Hw) : keeps [] [.evr] h (reportCounts h) :=
  keeps_trans (keeps_updEvr h _) (keeps_foldl_raiseCount _ _)

/-- Settles O12: what each route serves, and what ends with its time. -/
theorem routesAndSessionTimers : Obligations.RoutesAndSessionTimers := by
  unfold Obligations.RoutesAndSessionTimers
  refine ⟨fun lpl epl => ?_, fun pk => ?_, fun r t => ?_, ?_, fun p f => ?_, fun n x v t => ?_, fun n x tr t => ?_, fun n x => ?_, ?_⟩
  · exact happens_intro (fun _ _ => rfl) fun h ⟨ht, hl⟩ => cdbRequest_served epl ht hl
  · exact happens_intro (fun _ _ => rfl) fun h ⟨ht, hl⟩ => mspiWrite_served ht hl
  · exact happens_intro (fun _ _ => rfl) fun h ⟨ht, hq⟩ => mspiRead_reply ht hq
  · exact happens_intro (fun _ _ => rfl) fun h ⟨ht, hq⟩ => mspiRead_empty ht hq
  · exact happens_intro (fun _ _ => rfl) fun h ⟨he, hr, ha, hh, hd, ht, hk⟩ => inbandRequest_kept he hr ha hh hd ht hk
  · exact happens_intro (fun _ _ => rfl) fun h ⟨hx, hn, ht⟩ => nonceExpiry_old hx hn ht
  · refine happens_intro (f := provisionalTimeout n) (fun _ _ => rfl) fun h ⟨hx, hp, ht⟩ => ?_
    rw [provisionalTimeout_old hx hp ht]
    exact ⟨rfl, findSession_dropSession h n⟩
  · refine happens_intro (f := sessionIdle n) (fun _ _ => rfl) fun h ⟨hn, hx, hp, ht⟩ => ?_
    rw [sessionIdle_old hn hx hp ht]
    exact ⟨rfl, findSession_dropSession h n⟩
  · exact happens_intro (f := reportCounts) (fun _ _ => rfl) fun h _ =>
      ⟨reportCounts_keeps h, foldl_raiseCount_counts _ _, foldl_raiseCount_bus _ _⟩

end Sys2Proof.Machine

namespace Sys2Proof.Machine
open Reg

/-! ### Sessions (R64 to R67) -/

theorem needRandom_ok {s : Hw} (f : Hw → Res) (h : s.evr.randomOk = true) : needRandom s f = f s := by
  simp [needRandom, h]

theorem getNonce_body {b : Hw} (c : Call) (h : b.evr.randomOk = true) :
    opGetNonce.body b c = .ok
      (updSession { b with freeN := b.freeN + 1 } c.sess fun x =>
        { x with nonce := some ((Config.random b.freeN).toNat % 2 ^ 256, b.dtime) })
      (toBE 32 ((Config.random b.freeN).toNat % 2 ^ 256)) := by
  simp only [opGetNonce, OpSpec.fix]
  rw [needRandom_ok _ h]
  rfl

/-- The three values that an opening draws, and the session that it makes. -/
structure Opening where
  num : Nat
  pub : Bytes
  nonce : Bytes
  text : Bytes
  session : Session

/-- What SESSION_OPEN_1 with the block `p` makes of the next three random values, for key slot `k` (R65). -/
def openingOf (b : Hw) (rq : Request) (p : Bytes) (k : KeySlot) : Opening :=
  let n := unusedFrom b 5 (freshNumber b)
  let priv := scalarOf (Config.random b.freeN).toNat
  let pub := publicKey priv
  let nonce := toBE 32 ((Config.random (b.freeN + 1)).toNat % 2 ^ 256)
  let t := p ++ pub ++ nonce ++ toBE 2 n
  { num := n, pub := pub, nonce := nonce, text := t,
    session :=
      { num := n, level := min (u8 p 130) k.level
        key := (sha384 (ecdhShared priv (slice p 0 97) ++ slice p 97 32 ++ nonce)).toNat
        slot := u8 p 129, prov := some (t, b.dtime), reqLvl := u8 p 130, lastReq := b.dtime, port := rq.port, src := rq.src,
        vlan := rq.vlan } }

/-- The state with the session of an opening. -/
def opened (b : Hw) (o : Opening) : Hw :=
  { b with freeN := b.freeN + 3
           cmd := { b.cmd with sessions := b.cmd.sessions ++ [o.session], nextSess := o.num + 1, sessEpoch := b.cmd.epoch } }

theorem opened_keeps (b : Hw) (o : Opening) : keeps [] [.cmd, .freeN] b (opened b o) := by
  refine ⟨fun _ _ => rfl, fun p hp => ?_, rfl⟩
  cases p with
  | cmd | freeN => simp at hp
  | _ => rfl

theorem sessionOpen1_body {b : Hw} {c : Call} {k : KeySlot} (hr : b.evr.randomOk = true)
    (hk : keySlot b (u8 (slice c.p 0 132) 129) = some k) (hs : (openSessions b).length < 4)
    (hn : unusedFrom b 5 (freshNumber b) ≤ 0xFFEF) :
    opSessionOpen1.body b c =
      .ok (opened b (openingOf b c.rq (slice c.p 0 132) k))
        (toBE 2 (openingOf b c.rq (slice c.p 0 132) k).num ++ zeros 2 ++ (openingOf b c.rq (slice c.p 0 132) k).pub ++
          (openingOf b c.rq (slice c.p 0 132) k).nonce ++
          deviceSign (sha384 ((openingOf b c.rq (slice c.p 0 132) k).text ++ [1])) (Config.random (b.freeN + 2))) := by
  have hfull : ¬ ((openSessions b).length ≥ 4 ∨ unusedFrom b 5 (freshNumber b) > 0xFFEF) := by omega
  simp only [opSessionOpen1, OpSpec.fix]
  rw [needRandom_ok _ hr, hk]
  dsimp only
  rw [if_neg hfull]
  rfl

theorem sessionOpen2_body {b : Hw} {c : Call} {x : Session} {t : Bytes} {since : Nat} {k : KeySlot}
    (hx : (openSessions b).find? (fun (x : Session) => x.num == u16 c.p 0) = some x) (hp : x.prov = some (t, since))
    (ht : b.dtime ≤ since + 5000000000) (hk : keySlot b x.slot = some k)
    (hv : ecdsaVerify k.key (sha384 (t ++ [2])) (slice c.p 4 96) = true) :
    opSessionOpen2.body b c = .ok (updSession b (u16 c.p 0) fun x =>
      { x with prov := none, level := min x.reqLvl k.level, lastReq := b.dtime, port := c.rq.port, src := c.rq.src
               vlan := c.rq.vlan }) := by
  have hlate : ¬ since + 5000000000 < b.dtime := Nat.not_lt.mpr ht
  simp only [opSessionOpen2, OpSpec.fix]
  rw [hx]
  dsimp only
  rw [hp]
  dsimp only
  rw [if_neg hlate, hk]
  dsimp only
  rw [hv]
  rfl

theorem sessionStatus_body {b : Hw} {c : Call} {x : Session} (hx : findSession b (u16 c.p 0) = some x) (hp : x.prov = none) :
    opSessionStatus.body b c = .ok b (toBE 1 x.level ++ toBE 1 (if x.mark.isSome then 1 else 0) ++ zeros 2 ++
      toBE 4 (x.mark.getD 0) ++ toBE 4 (min ((b.dtime - x.lastReq) / 1000000) (2 ^ 32 - 1))) := by
  simp only [opSessionStatus, OpSpec.fix, hx, hp, Option.isSome_none, Bool.false_eq_true, if_false]

/-- Settles O14: each body answers the state and the payload that its row names. -/
theorem infoAndSessionRequests : Obligations.InfoAndSessionRequests := by
  unfold Obligations.InfoAndSessionRequests
  refine ⟨?_, ?_, ?_, fun k => ?_, fun x t since k => ?_, ?_, fun x => ?_⟩
  · exact runsOk_intro (fun _ _ _ => rfl) fun b c _ => ⟨_, _, rfl, rfl, rfl⟩
  · exact runsOk_intro (fun _ _ _ => rfl) fun b c _ => ⟨_, _, rfl, rfl, rfl⟩
  · exact runsOk_intro (fun _ _ _ => rfl) fun b c hr => ⟨_, _, getNonce_body c hr, rfl, rfl⟩
  · refine runsOk_intro (fun _ _ _ => rfl) fun b c ⟨hr, hk, hs, hn⟩ => ⟨_, _, sessionOpen1_body hr hk hs hn, opened_keeps _ _, ?_⟩
    exact ⟨rfl, rfl, rfl, _, rfl, rfl, rfl, rfl, rfl, rfl, rfl, rfl, rfl⟩
  · exact runsOk_intro (fun _ _ _ => rfl) fun b c ⟨hx, hp, ht, hk, hv⟩ => ⟨_, _, sessionOpen2_body hx hp ht hk hv, rfl, rfl⟩
  · exact runsOk_intro (fun _ _ _ => rfl) fun b c _ => ⟨_, _, rfl, rfl, rfl⟩
  · exact runsOk_intro (fun _ _ _ => rfl) fun b c ⟨hx, hp⟩ => ⟨_, _, sessionStatus_body hx hp, rfl, rfl⟩

end Sys2Proof.Machine

namespace Sys2Proof.Machine
open Reg

/-! ### A commit of non-volatile memory (R79, R562) -/

theorem foldl_objs_items {α : Type} (l : List α) (f : Hw → α → Map CfgObj) (s : Hw) :
    (l.foldl (fun s o => { s with nv := { s.nv with objs := f s o } }) s).nv.items = s.nv.items := by
  induction l generalizing s with
  | nil => rfl
  | cons o l ih => exact ih _

theorem writeObjs_items (s : Hw) (i : NvItem) : (writeObjs s i).nv.items = s.nv.items :=
  foldl_objs_items i.objs (fun s o => Map.upd {} s.nv.objs o.1 fun x =>
    writeCopy x { pcc := i.entry.pcc, epoch := i.entry.epoch, index := i.entry.index, body := o.2 }) s

theorem adoptObjs_items (s : Hw) (i : NvItem) : (adoptObjs s i).nv.items = s.nv.items :=
  foldl_objs_items i.objs (fun s o => Map.upd {} s.nv.objs o.1 fun x => { x with adopted := some o.2 }) s

theorem commitItem_journal (s : Hw) (i : NvItem) : ∃ j, commitItem s i =
    { adoptObjs (writeObjs s i) i with nv := { (adoptObjs (writeObjs s i) i).nv with journal := j } } :=
  ⟨_, rfl⟩

/-- A commit adds none to those that wait. -/
theorem commitItem_items (s : Hw) (i : NvItem) : (commitItem s i).nv.items = s.nv.items := by
  obtain ⟨j, hj⟩ := commitItem_journal s i
  rw [hj]
  exact (adoptObjs_items _ i).trans (writeObjs_items s i)

theorem setOutcome_nv (s : Hw) (hit : RunCmd → Bool) (st det : Nat) (pl : Bytes) : (setOutcome s hit st det pl).nv = s.nv := rfl

theorem nvTierCommit_last {h : Hw} {i : NvItem} (hi : h.nv.items = [i]) (hr : h.ready 19 = true) (hf : h.fenced 19 = false) :
    nvTierCommit h = setOutcome (commitItem { h with nv := { h.nv with items := [] } } i) isSync stOK 0 := by
  unfold nvTierCommit
  rw [hi]
  dsimp only
  rw [hr, hf]
  rfl

/-! ### JOURNAL_READ (R82) -/

theorem toBE_one (n : Nat) : toBE 1 n = [BitVec.ofNat 8 n] := by simp [toBE]

theorem u8_cons_zero (b : Byte) (l : Bytes) : u8 (b :: l) 0 = b.toNat := by
  simp [u8, un, slice, beNat, zeros]

/-- The entries that JOURNAL_READ returns. -/
def entriesRead (b : Hw) (c : Call) : List JEntry :=
  ((startFrom b (u8 c.p 1) (u32 c.p 2) (tierOf b (u8 c.p 0))).1.filter fun x =>
    u16 c.p 6 == 0xFFFF || x.session == u16 c.p 6).take (if c.rq.route = Route.inband then min 22 (u8 c.p 8) else u8 c.p 8)

/-- Its payload: eight bytes that begin with their number, and the entries. -/
theorem journalRead_body (b : Hw) (c : Call) :
    ∃ flag next : Nat, opJournalRead.body b c = .ok b
      (toBE 1 (entriesRead b c).length ++ toBE 1 flag ++ zeros 2 ++ toBE 4 next ++ (entriesRead b c).flatMap entryBytes) :=
  ⟨_, _, rfl⟩

theorem journalRead_number (l : List JEntry) (flag next : Nat) (t : Bytes) :
    u8 (toBE 1 l.length ++ toBE 1 flag ++ zeros 2 ++ toBE 4 next ++ t) 0 = l.length % 256 := by
  rw [toBE_one]
  simp only [List.cons_append, List.nil_append, List.append_assoc, u8_cons_zero, BitVec.toNat_ofNat]

theorem toBE_length (k n : Nat) : (toBE k n).length = k := by
  induction k generalizing n with
  | zero => rfl
  | succ k ih => simp [toBE, ih]

theorem journalRead_entries (n flag next : Nat) (t : Bytes) :
    (toBE 1 n ++ toBE 1 flag ++ zeros 2 ++ toBE 4 next ++ t).drop 8 = t := by
  have hl : (toBE 1 n ++ toBE 1 flag ++ zeros 2 ++ toBE 4 next).length = 8 := by
    simp only [List.length_append, toBE_length, zeros, List.length_replicate]
  rw [List.drop_append_of_le_length (Nat.le_of_eq hl.symm), ← hl, List.drop_length, List.nil_append]

/-! ### Rows of the routes' bus and of CMIS (R83, R592) -/

theorem busRelease_live {h : Hw} {us : Nat} (hp : h.phase ≠ .held) (hu : 25000 ≤ us) :
    busRelease us h = if h.phase = .mgmtReset then updPwr (h.emit .busFree) fun x => { x with busFreed := some us }
      else (h.emit .busFree).raise 0x0006 [us] := by
  unfold busRelease
  rw [if_neg (by simp only [hp, false_or]; omega)]
  rfl

/-- Settles O15: each body and each row answers what its clause names. -/
theorem noticesJournalAndCmis : Obligations.NoticesJournalAndCmis := by
  unfold Obligations.NoticesJournalAndCmis
  refine ⟨?_, ?_, ?_, ?_, ?_, ?_, fun i => ?_, fun n off => ?_, fun g => ?_, fun g => ?_, fun us => ?_⟩
  · exact runsOk_intro (fun _ _ _ => rfl) fun b c hr => ⟨_, _, if_pos hr, rfl, rfl⟩
  · exact runsOk_intro (fun _ _ _ => rfl) fun b c _ => ⟨_, _, rfl, rfl, rfl⟩
  · refine runsOk_intro (fun _ _ _ => rfl) fun b c _ => ?_
    obtain ⟨flag, next, hb⟩ := journalRead_body b c
    exact ⟨_, _, hb, rfl, journalRead_number _ _ _ _, journalRead_entries _ _ _ _⟩
  · exact runsOk_intro (fun _ _ _ => rfl) fun b c hi => ⟨_, _, if_pos (by rw [hi]; rfl), rfl, rfl⟩
  · exact runsOn_intro (fun _ _ _ => rfl) fun b c hi => ⟨_, _, if_neg (by simpa using hi), rfl, rfl⟩
  · exact runsOk_intro (fun _ _ _ => rfl) fun b c _ => ⟨_, _, rfl, rfl, rfl⟩
  · refine happens_intro (f := nvTierCommit) (fun _ _ => rfl) fun h ⟨hi, hr, hf⟩ => ?_
    rw [nvTierCommit_last hi hr hf]
    refine ⟨rfl, ?_⟩
    rw [setOutcome_nv, commitItem_items]
  · exact happens_intro (f := cmisTxDisable n off) (fun _ _ => rfl) fun h _ => rfl
  · exact happens_intro (f := cmisDeinit g true) (fun _ _ => rfl) fun h ht => by simp [cmisDeinit, ht]
  · exact happens_intro (f := cmisDeinit g false) (fun _ _ => rfl) fun h ht => by simp [cmisDeinit, ht]
  · refine happens_live (f := busRelease us) (fun _ _ => rfl) fun h hp hu => ?_
    rw [busRelease_live hp hu]
    exact ⟨fun hm => by rw [if_neg hm], fun hm => by rw [if_pos hm]⟩

end Sys2Proof.Machine

namespace Sys2Proof.Machine
open Reg

/-! ### Pace, operating points and floor (R98 to R110) -/

theorem alarmed_setCeiling (s : Hw) (n : Nat) : alarmed (s.setFld TDS_PACE_ceiling n) = alarmed s := by
  unfold alarmed
  rw [Hw.fld_setFld_other s n (by decide) (.inl (by decide))]

theorem pwrPaceSet_body {b : Hw} {c : Call} (hn : u16 c.p 0 ≤ opGuaranteed (b.fld PWR_OP_STATUS_current)) :
    opPwrPaceSet.body b c = .ok (if alarmed b then b.setFld TDS_PACE_ceiling (u16 c.p 0)
      else (b.setFld TDS_PACE_ceiling (u16 c.p 0)).setFld PWR_SPD_STATUS_limited 0) := by
  simp only [opPwrPaceSet, OpSpec.fix]
  rw [if_neg (Nat.not_lt.mpr hn), alarmed_setCeiling]

/-- With the start checks passed the move begins. -/
theorem startOp_free {b : Hw} {opc n : Nat} {p : Bytes} (hn : (if opc = 0x0211 then b.ceiling else u16 p 1) = n)
    (hc : moveCheck b (u8 p 0) n = none) :
    startOp b opc p = .wait .opMove ((beginMove b false (u8 p 0) (if opc = 0x0211 then none else some n)).cond
      (opc == 0x0212 && decide (u8 p 0 > b.fld PWR_OP_STATUS_current)) fun s => s.setFld TDS_PACE_ceiling n) := by
  subst hn
  unfold startOp
  dsimp only
  rw [hc]

theorem startOp_set {b : Hw} {p : Bytes} (hc : moveCheck b (u8 p 0) b.ceiling = none) :
    startOp b 0x0211 p = .wait .opMove (beginMove b false (u8 p 0) none) := by
  have hset : ((0x0211 : Nat) == 0x0212) = false := by decide
  rw [startOp_free (if_pos rfl) hc, if_pos rfl, hset, Bool.false_and, Hw.cond_false]

theorem startOp_move {b : Hw} {p : Bytes} (hc : moveCheck b (u8 p 0) (u16 p 1) = none) :
    startOp b 0x0212 p = .wait .opMove ((beginMove b false (u8 p 0) (some (u16 p 1))).cond
      (decide (u8 p 0 > b.fld PWR_OP_STATUS_current)) fun s => s.setFld TDS_PACE_ceiling (u16 p 1)) := by
  rw [startOp_free (if_neg (by decide)) hc, if_neg (by decide), beq_self_eq_true, Bool.true_and]

/-- With no move in progress a commanded move starts. -/
theorem opBody_start {b : Hw} (opc : Nat) (p : Bytes) (hm : b.pwr.move = none) : opBody opc b p = startOp b opc p := by
  simp [opBody, hm]

/-- With one in progress it waits. -/
theorem opBody_wait {b : Hw} (opc : Nat) (p : Bytes) (hm : b.pwr.move.isSome = true) : opBody opc b p = .wait .opMove b := by
  obtain ⟨m, hm⟩ := Option.isSome_iff_exists.mp hm
  simp [opBody, hm]

theorem pwrFloorSet_body {b : Hw} {c : Call} (hf : b.fld PWR_OP_STATUS_current ≤ u8 c.p 0)
    (hr : recheck b { b.terms with floor := opGuaranteed (u8 c.p 0) } = none) :
    opPwrFloorSet.body b c = .ok ((b.setFld TDS_PACE_floor (u8 c.p 0)).cond
      (decide ((b.setFld TDS_PACE_floor (u8 c.p 0)).ceiling < opGuaranteed (u8 c.p 0)))
      fun s => s.setFld TDS_PACE_ceiling (opGuaranteed (u8 c.p 0))) := by
  simp only [opPwrFloorSet, OpSpec.fix]
  rw [if_neg (Nat.not_lt.mpr hf), hr]

/-- Settles O17: each body answers the state and the payload that its row names. -/
theorem paceAndSpeedRequests : Obligations.PaceAndSpeedRequests := by
  unfold Obligations.PaceAndSpeedRequests
  refine ⟨?_, ?_, ?_, ?_, ?_, ?_, ?_, ?_⟩
  · exact runsOk_intro (fun _ _ _ => rfl) fun b c hn => ⟨_, _, pwrPaceSet_body hn, rfl, rfl⟩
  · exact runsOn_intro (fun _ _ _ => rfl) fun b c ⟨hm, hc⟩ =>
      ⟨_, _, (opBody_start 0x0211 c.p hm).trans (startOp_set hc), rfl, rfl⟩
  · exact runsOn_intro (fun _ _ _ => rfl) fun b c hm => ⟨_, _, opBody_wait 0x0211 c.p hm, rfl, rfl⟩
  · exact runsOn_intro (fun _ _ _ => rfl) fun b c ⟨hm, hc⟩ =>
      ⟨_, _, (opBody_start 0x0212 c.p hm).trans (startOp_move hc), rfl, rfl⟩
  · exact runsOk_intro (fun _ _ _ => rfl) fun b c ⟨hf, hr⟩ => ⟨_, _, pwrFloorSet_body hf hr, rfl, rfl⟩
  · exact runsOk_intro (fun _ _ _ => rfl) fun b c _ => ⟨_, _, rfl, rfl, rfl⟩
  · exact runsOk_intro (fun _ _ _ => rfl) fun b c _ => ⟨_, _, rfl, rfl, rfl⟩
  · exact runsOk_intro (fun _ _ _ => rfl) fun b c _ => ⟨_, _, rfl, rfl, rfl⟩

end Sys2Proof.Machine

namespace Sys2Proof.Machine
open Reg

/-! ### Voltage moves (R99 to R104) -/

theorem avsStepDone_further {h : Hw} {mv : Nat} {m : VMove} (hm : h.pwr.move = some m) (hg : m.cmdMv ≠ m.goal) :
    avsStepDone mv h = (setMove (h.setFld PWR_OP_STATUS_vcore_mv mv) (some
      { m with cmdMv := nextMv m.cmdMv m.goal, asked := true })).emit (.avs (nextMv m.cmdMv m.goal)) := by
  unfold avsStepDone
  rw [hm]
  dsimp only
  rw [if_pos hg]

theorem avsStepDone_last {h : Hw} {mv : Nat} {m : VMove} (hm : h.pwr.move = some m) (hg : m.cmdMv = m.goal)
    (hn : mv ≤ m.goal + 8 ∧ m.goal ≤ mv + 8) :
    avsStepDone mv h = tryEndMove (setMove (h.setFld PWR_OP_STATUS_vcore_mv mv) (some
      { m with asked := false, settled := some (m.settled.getD h.dtime), reads := if m.settled.isNone then 0 else m.reads })) := by
  unfold avsStepDone
  rw [hm]
  dsimp only
  rw [if_neg (not_not_intro hg), if_pos (decide_eq_true hn), Hw.setFld_dtime]

theorem avsFault_idle {h : Hw} {mv st : Nat} (hm : h.pwr.move = none) : avsFault mv st h = h.raise 0x0217 [mv, st] := by
  have hr : (h.raise 0x0217 [mv, st]).pwr.move = none := hm
  unfold avsFault
  dsimp only
  rw [hr]

theorem avsFault_auto {h : Hw} {mv st : Nat} {m : VMove} (hm : h.pwr.move = some m) (ha : m.auto = true) :
    avsFault mv st h = afterRaise (setMove ((((h.raise 0x0217 [mv, st]).setFld PWR_OP_STATUS_vcore_mv mv).setFld
      PWR_OP_STATUS_current (pointOf mv)).setFld TDS_PACE_ceiling (min (((h.raise 0x0217 [mv, st]).setFld
      PWR_OP_STATUS_vcore_mv mv).setFld PWR_OP_STATUS_current (pointOf mv)).ceiling (opGuaranteed (pointOf mv)))) none) := by
  have hr : (h.raise 0x0217 [mv, st]).pwr.move = some m := hm
  unfold avsFault
  dsimp only
  rw [hr]
  dsimp only
  rw [if_pos ha, if_pos ha]

theorem avsFault_commanded {h : Hw} {mv st : Nat} {m : VMove} (hm : h.pwr.move = some m) (ha : m.auto = false)
    (hn : m.aborted = none) :
    avsFault mv st h = endMove (((((h.raise 0x0217 [mv, st]).setFld PWR_OP_STATUS_vcore_mv mv).setFld
      PWR_OP_STATUS_current (pointOf mv)).setFld TDS_PACE_ceiling (min m.startCeil (opGuaranteed (pointOf mv)))).raise 0x0214
      [m.target, 3]) stCONDITIONS 3 := by
  have hr : (h.raise 0x0217 [mv, st]).pwr.move = some m := hm
  have hf : ¬ m.auto = true := by rw [ha]; exact Bool.false_ne_true
  unfold avsFault
  dsimp only
  rw [hr]
  dsimp only
  rw [if_neg hf, if_neg hf, hn]

theorem autoRaiseComplete_settled {h : Hw} {m : VMove} (hm : h.pwr.move = some m) (ha : m.auto = true)
    (hs : moveSettled h m = true) : autoRaiseComplete h =
      afterRaise ((setMove (h.setFld PWR_OP_STATUS_current m.target) none).raise 0x0213 [m.origin, m.target]) := by
  unfold autoRaiseComplete
  rw [hm]
  dsimp only
  rw [ha, hs]
  rfl

/-- Settles O18: what a step of the voltage, a fault on the bus and the end of a raise do. -/
theorem voltageMoves : Obligations.VoltageMoves := by
  unfold Obligations.VoltageMoves
  refine ⟨fun mv m => ?_, fun mv m => ?_, fun mv st => ?_, fun mv st m => ?_, fun mv st m => ?_, fun m => ?_⟩
  · exact happens_intro (fun _ _ => rfl) fun h ⟨hm, hg⟩ => avsStepDone_further hm hg
  · exact happens_intro (fun _ _ => rfl) fun h ⟨hm, hg, hn⟩ => avsStepDone_last hm hg hn
  · exact happens_intro (fun _ _ => rfl) fun h hm => avsFault_idle hm
  · exact happens_intro (fun _ _ => rfl) fun h ⟨hm, ha⟩ => avsFault_auto hm ha
  · exact happens_intro (fun _ _ => rfl) fun h ⟨hm, ha, hn⟩ => avsFault_commanded hm ha hn
  · exact happens_intro (fun _ _ => rfl) fun h ⟨hm, ha, hs⟩ => autoRaiseComplete_settled hm ha hs

end Sys2Proof.Machine

namespace Sys2Proof.Machine
open Reg

theorem Hw.fld_raise (s : Hw) (c : Nat) (l : List Nat) (f : Fld) : (s.raise c l).fld f = s.fld f := rfl

/-! ### Signed fields and bits of masks -/

/-- A signed field reads back a value within its range. -/
theorem Hw.fldS_setFldS (s : Hw) {f : Fld} {m : Int} {w : Nat} (hw : f.w = w + 1) (h : f.lo + f.w ≤ 32)
    (h1 : -(2 : Int) ^ w ≤ m) (h2 : m < (2 : Int) ^ w) : (s.setFldS f m).fldS f = m := by
  have h0 : (0 : Int) < (2 : Int) ^ w := Int.pow_pos (by decide)
  have hpi : (2 : Int) ^ (w + 1) = 2 * (2 : Int) ^ w := by rw [Int.pow_succ, Int.mul_comm]
  have hpn : ((2 ^ (w + 1) : Nat) : Int) = 2 * (2 : Int) ^ w := by
    rw [Int.natCast_pow]
    exact hpi
  have hq : 0 ≤ m % (2 : Int) ^ (w + 1) ∧ m % (2 : Int) ^ (w + 1) < 2 * (2 : Int) ^ w := by
    rw [hpi]
    exact ⟨Int.emod_nonneg _ (by omega), Int.emod_lt_of_pos _ (by omega)⟩
  have hm : m % (2 : Int) ^ (w + 1) = if 0 ≤ m then m else m + 2 * (2 : Int) ^ w := by
    rw [hpi]
    split
    · next h => exact Int.emod_eq_of_lt h (by omega)
    · rw [← Int.add_mul_emod_self_left m _ 1, Int.mul_one]
      exact Int.emod_eq_of_lt (by omega) (by omega)
  rw [Hw.fldS, Hw.setFldS, Hw.fld_setFld_same s _ h, hw]
  unfold sx enc
  have hl : (m % (2 : Int) ^ (w + 1)).toNat < 2 ^ (w + 1) := by omega
  rw [Nat.mod_eq_of_lt (Nat.mod_lt _ (Nat.two_pow_pos _)), Nat.mod_eq_of_lt hl]
  generalize m % (2 : Int) ^ (w + 1) = q at hq hm
  dsimp only
  rw [hpi]
  split at hm <;> split <;> omega

/-- The range of an 11-bit one. -/
theorem Hw.fldS_setFldS_same (s : Hw) {f : Fld} {m : Int} (hw : f.w = 11) (h : f.lo + f.w ≤ 32) (h1 : -1024 ≤ m) (h2 : m ≤ 1023) :
    (s.setFldS f m).fldS f = m :=
  Hw.fldS_setFldS s hw h h1 (Int.lt_add_one_of_le h2)

theorem Hw.fldS_setFldS_other (s : Hw) {f g : Fld} (m : Int) (hg : g.lo + g.w ≤ 32)
    (h : g.addr ≠ f.addr ∨ g.lo + g.w ≤ f.lo ∨ f.lo + f.w ≤ g.lo) : (s.setFldS f m).fldS g = s.fldS g := by
  rw [Hw.fldS, Hw.setFldS, Hw.fld_setFld_other s _ hg h, Hw.fldS]

theorem hasBit_eq_testBit (n b : Nat) : hasBit n b = n.testBit b := by
  rw [hasBit, Nat.testBit_eq_decide_div_mod_eq]
  rfl

theorem hasBit_setBit_same (n b : Nat) (v : Bool) : hasBit (setBit n b v) b = v := by
  have hp : 0 < 2 ^ b := Nat.two_pow_pos b
  have hadd : (n + 2 ^ b) / 2 ^ b = n / 2 ^ b + 1 := Nat.add_div_right n hp
  have hsub : (n - 2 ^ b) / 2 ^ b = n / 2 ^ b - 1 := by simpa using Nat.sub_mul_div n (2 ^ b) 1
  unfold setBit
  cases hb : hasBit n b <;> cases v
  · exact hb
  · simp only [hasBit, beq_eq_false_iff_ne, Bool.false_eq_true, if_false, if_true, hadd, beq_iff_eq] at hb ⊢
    omega
  · simp only [hasBit, beq_eq_false_iff_ne, Bool.false_eq_true, if_false, if_true, hsub, beq_iff_eq] at hb ⊢
    omega
  · exact hb

theorem hasBit_mod (n : Nat) {b w : Nat} (h : b < w) : hasBit (n % 2 ^ w) b = hasBit n b := by
  rw [hasBit_eq_testBit, hasBit_eq_testBit, Nat.testBit_mod_two_pow, decide_eq_true h, Bool.true_and]

theorem clampI_bounds (x : Int) : -1024 ≤ clampI (-1024) 1023 x ∧ clampI (-1024) 1023 x ≤ 1023 := by
  unfold clampI
  split
  · omega
  · split <;> omega

/-! ### Alarms (R117) -/

theorem keeps_setAlarm (s : Hw) (d : Nat) (v : Bool) : keeps [0x02] [] s (setAlarm s d v) :=
  keeps_trans (keeps_setFld _ _ s _ _ (by decide)) (keeps_cond _ _ (keeps_setFld _ _ _ _ _ (by decide)))

/-- An alarm moves no word but the speed status and its latch. -/
theorem reg_setAlarm_other (s : Hw) (d : Nat) (v : Bool) {a : Nat} (h1 : a ≠ PWR_SPD_STATUS) (h2 : a ≠ PWR_SPD_LATCH) :
    (setAlarm s d v).reg a = s.reg a := by
  unfold setAlarm
  rw [Hw.cond_same (fun t => t.reg a) _ _ (Hw.reg_setFld_other _ _ _ h2), Hw.reg_setFld_other _ _ _ h1]

theorem fld_status_setAlarm (s : Hw) (d : Nat) (v : Bool) {f : Fld} (h : f.addr = PWR_SPD_STATUS) :
    (setAlarm s d v).fld f = (s.setFld PWR_SPD_STATUS_alarm (setBit (s.fld PWR_SPD_STATUS_alarm) d v)).fld f := by
  have hne : f.addr ≠ PWR_SPD_LATCH_alarm.addr := h ▸ by decide
  unfold setAlarm
  rw [Hw.cond_same (fun t => t.fld f) _ _ (by rw [Hw.fld, Hw.reg_setFld_other _ _ _ hne]; rfl)]

theorem inAlarm_setAlarm (s : Hw) {d : Nat} (v : Bool) (hd : d < 19) : inAlarm (setAlarm s d v) d = v := by
  unfold inAlarm
  rw [fld_status_setAlarm s d v rfl, Hw.fld_setFld_same _ _ (by decide), hasBit_mod _ (by exact hd), hasBit_setBit_same]

/-- What the status bits of a state tell stands in another with its status word. -/
theorem inAlarm_of_fld {s t : Hw} (d : Nat) (h : t.fld PWR_SPD_STATUS_alarm = s.fld PWR_SPD_STATUS_alarm) :
    inAlarm t d = inAlarm s d := by
  unfold inAlarm
  rw [h]

theorem inAlarm_leaveAlarm {s : Hw} {d : Nat} (hd : d < 19) (h : inAlarm s d = true) : inAlarm (leaveAlarm s d) d = false := by
  unfold leaveAlarm
  dsimp only
  rw [if_neg]
  · refine (Hw.ite_same (fun t => inAlarm t d) ?_ rfl).trans (inAlarm_setAlarm _ false hd)
    exact inAlarm_of_fld d (Hw.fld_setFld_other _ _ (by decide) (.inr (.inl (by decide))))
  · exact fun hn => by
      rw [Bool.not_eq_true'] at hn
      exact Bool.false_ne_true (hn.symm.trans h)

theorem speedAlarmEnd_due {h : Hw} {d : Nat} (ha : inAlarm h d = true) (hd : d < 15) (h0 : Map.get 0 h.pwr.okSince d ≠ 0)
    (ht : Map.get 0 h.pwr.okSince d - 1 + 10000000 ≤ h.dtime) : speedAlarmEnd d h = leaveAlarm h d := by
  unfold speedAlarmEnd
  dsimp only
  rw [if_pos]
  rw [ha, decide_eq_true hd, decide_eq_true ht, bne_iff_ne.mpr h0]
  rfl

/-! ### Readings (R114 to R116) -/

/-- The margin of a reading. -/
def speedMargin (s : Hw) (su : Nat) : Int := clampI (-1024) 1023 ((su : Int) - max (groupPace s 0) (groupPace s 1))

/-- A margin that is noted, with the lowest one. -/
def noteMargin (s : Hw) (d : Nat) (m : Int) : Hw :=
  (s.setFldS (PWR_SPD_MARGIN_margin d) m).cond (decide (m < (s.setFldS (PWR_SPD_MARGIN_margin d) m).fldS (PWR_SPD_MARGIN_min_margin d)))
    fun s => s.setFldS (PWR_SPD_MARGIN_min_margin d) m

theorem reg_noteMargin_other (s : Hw) (d : Nat) (m : Int) {a : Nat} (h : a ≠ PWR_SPD_MARGIN d) : (noteMargin s d m).reg a = s.reg a := by
  unfold noteMargin
  rw [Hw.cond_same (fun t => t.reg a) _ _ (Hw.reg_setFld_other _ _ _ h), Hw.setFldS, Hw.reg_setFld_other _ _ _ h]

theorem fld_noteMargin_other (s : Hw) (d : Nat) (m : Int) {f : Fld} (h : f.addr ≠ PWR_SPD_MARGIN d) :
    (noteMargin s d m).fld f = s.fld f := by
  rw [Hw.fld, reg_noteMargin_other s d m h, Hw.fld]

theorem keeps_noteMargin (s : Hw) {d : Nat} (m : Int) (hd : d < 19) : keeps [0x02] [] s (noteMargin s d m) := by
  have ha : PWR_SPD_MARGIN d / 65536 ∈ [0x02] := by
    simp only [PWR_SPD_MARGIN, List.mem_singleton]
    omega
  exact keeps_trans (keeps_setFld _ _ s _ _ ha) (keeps_cond _ _ (keeps_setFld _ _ _ _ _ ha))

theorem margin_fits (d : Nat) : (PWR_SPD_MARGIN_margin d).lo + (PWR_SPD_MARGIN_margin d).w ≤ 32 := by
  unfold PWR_SPD_MARGIN_margin
  dsimp only
  decide

theorem minMargin_fits (d : Nat) : (PWR_SPD_MARGIN_min_margin d).lo + (PWR_SPD_MARGIN_min_margin d).w ≤ 32 := by
  unfold PWR_SPD_MARGIN_min_margin
  dsimp only
  decide

/-- The two margins of a word share no bit. -/
theorem margins_apart (d : Nat) : (PWR_SPD_MARGIN_margin d).lo + (PWR_SPD_MARGIN_margin d).w ≤ (PWR_SPD_MARGIN_min_margin d).lo := by
  unfold PWR_SPD_MARGIN_margin PWR_SPD_MARGIN_min_margin
  dsimp only
  decide

theorem margin_noteMargin (s : Hw) (d : Nat) {m : Int} (h1 : -1024 ≤ m) (h2 : m ≤ 1023) :
    (noteMargin s d m).fldS (PWR_SPD_MARGIN_margin d) = m := by
  have hb := Hw.fldS_setFldS_same s (f := PWR_SPD_MARGIN_margin d) rfl (margin_fits d) h1 h2
  unfold noteMargin
  refine (Hw.cond_same (fun t => t.fldS (PWR_SPD_MARGIN_margin d)) _ _ ?_).trans hb
  exact Hw.fldS_setFldS_other _ _ (margin_fits d) (.inr (.inl (margins_apart d)))

theorem minMargin_noteMargin (s : Hw) (d : Nat) {m : Int} (h1 : -1024 ≤ m) (h2 : m ≤ 1023) :
    (noteMargin s d m).fldS (PWR_SPD_MARGIN_min_margin d) = min (s.fldS (PWR_SPD_MARGIN_min_margin d)) m := by
  have ho : (s.setFldS (PWR_SPD_MARGIN_margin d) m).fldS (PWR_SPD_MARGIN_min_margin d) = s.fldS (PWR_SPD_MARGIN_min_margin d) :=
    Hw.fldS_setFldS_other _ _ (minMargin_fits d) (.inr (.inr (margins_apart d)))
  have hb := Hw.fldS_setFldS_same (s.setFldS (PWR_SPD_MARGIN_margin d) m) (f := PWR_SPD_MARGIN_min_margin d) rfl (minMargin_fits d) h1 h2
  unfold noteMargin
  by_cases hm : m < s.fldS (PWR_SPD_MARGIN_min_margin d)
  · rw [ho, decide_eq_true hm, Hw.cond_true, hb, Int.min_eq_right (Int.le_of_lt hm)]
  · rw [ho, decide_eq_false hm, Hw.cond_false, ho, Int.min_eq_left (Int.not_lt.mp hm)]

/-- The mark of the moment since which a domain has been well: kept, set or removed by a reading. -/
def okMark (s : Hw) (d : Nat) (ok : Bool) : Nat :=
  if ok then (if Map.get 0 s.pwr.okSince d = 0 then s.dtime + 1 else Map.get 0 s.pwr.okSince d) else 0

def noteOk (s : Hw) (d : Nat) (ok : Bool) : Hw :=
  { s with pwr := { s.pwr with okSince := Map.put 0 s.pwr.okSince d (okMark s d ok) } }

theorem keeps_noteOk (s : Hw) (d : Nat) (ok : Bool) : keeps [] [.pwr] s (noteOk s d ok) := keeps_pwr s _

/-- The suspension that a margin below the critical threshold starts (R118). -/
def beginSuspension (s : Hw) (d : Nat) (m : Int) (pace : Nat) : Hw :=
  let s := (s.setFld PWR_SPD_STATUS_suspended 1).setFld PWR_SPD_LATCH_suspended 1
  let s := s.raise 0x0211 [d, enc 32 m, pace]
  { s with pwr := { s.pwr with susAt := s.dtime, susUp := false,
                               susLim := [0, 1].foldl (fun l g => Map.put 1000 l g (ownPace s g)) [] } }

/-- The move in progress takes note of a reading at or above the alarm threshold. -/
def noteMove (s : Hw) (d : Nat) (well : Bool) : Hw :=
  match s.pwr.move with
  | some v =>
    if v.settled.isSome && well then
      tryEndMove { s with pwr := { s.pwr with move := some { v with reads := setBit v.reads d true } } }
    else s
  | none => s

/-- What a reading of D00 to D14 does once its margin is noted. -/
def afterMargin (s : Hw) (d : Nat) (m : Int) (pace : Nat) (atFloor : Bool) : Hw :=
  let a := s.cond (!inAlarm s d && decide (m < s.fld PWR_SPD_CFG_alarm)) fun t => enterAlarm t d m
  let k := noteOk a d (decide ((s.fld PWR_SPD_CFG_alarm : Int) + a.fld PWR_SPD_CFG_hyst ≤ m))
  let u := k.cond (!k.flag PWR_SPD_STATUS_suspended && atFloor && k.fld PWR_DTIME_SRC_source != 3 &&
    decide (m < k.fld PWR_SPD_CFG_crit)) fun t => beginSuspension t d m pace
  noteMove u d (decide ((s.fld PWR_SPD_CFG_alarm : Int) ≤ m))

theorem speedReading_core {s : Hw} {d : Nat} (su : Nat) (hd : d < 15) (hr : reading s d = true) :
    ∃ pace f, speedReading d su s = afterMargin (noteMargin s d (speedMargin s su)) d (speedMargin s su) pace f := by
  refine ⟨max (groupPace s 0) (groupPace s 1), [0, 1].all fun g => decide (ownPace s g ≤ groupFloor s g), ?_⟩
  have hg : ¬ (decide (d > 18) || !reading s d) = true := by
    rw [hr, decide_eq_false (by omega)]
    decide
  unfold speedReading
  dsimp only
  rw [if_neg hg, if_neg (by omega)]
  rfl

theorem speedReading_edge {s : Hw} {d : Nat} (su : Nat) (h1 : 15 ≤ d) (h2 : d < 19) (hr : reading s d = true) :
    let n := noteMargin s d (speedMargin s su)
    speedReading d su s = if speedMargin s su < n.fld PWR_SPD_CFG_alarm then
      (setAlarm n d true).cond (!inAlarm n d) fun t => t.raise 0x0210 [d, enc 32 (speedMargin s su), t.fld TDS_PACE_current]
      else setAlarm n d false := by
  have hg : ¬ (decide (d > 18) || !reading s d) = true := by
    rw [hr, decide_eq_false (by omega)]
    decide
  unfold speedReading
  dsimp only
  rw [if_neg hg, if_pos (by omega)]
  rfl

theorem afterMargin_well {s : Hw} (d : Nat) {m : Int} (pace : Nat) (f : Bool) (hm : s.pwr.move = none)
    (ha : (s.fld PWR_SPD_CFG_alarm : Int) ≤ m) (hc : (s.fld PWR_SPD_CFG_crit : Int) ≤ m) :
    ∃ ok, afterMargin s d m pace f = noteOk s d ok := by
  refine ⟨decide ((s.fld PWR_SPD_CFG_alarm : Int) + s.fld PWR_SPD_CFG_hyst ≤ m), ?_⟩
  have hk : ∀ ok, (noteOk s d ok).fld PWR_SPD_CFG_crit = s.fld PWR_SPD_CFG_crit := fun _ => rfl
  have hv : ∀ ok, (noteOk s d ok).pwr.move = none := fun _ => hm
  unfold afterMargin
  dsimp only
  rw [decide_eq_false (Int.not_lt.mpr ha), Bool.and_false, Hw.cond_false, hk, decide_eq_false (Int.not_lt.mpr hc), Bool.and_false,
    Hw.cond_false, noteMove, hv]

/-- The word of a domain's margins is none of those that the thresholds stand in. -/
theorem cfg_ne_margin (d : Nat) : PWR_SPD_CFG ≠ PWR_SPD_MARGIN d := by
  unfold PWR_SPD_CFG PWR_SPD_MARGIN
  omega

theorem status_ne_margin (d : Nat) : PWR_SPD_STATUS ≠ PWR_SPD_MARGIN d := by
  unfold PWR_SPD_STATUS PWR_SPD_MARGIN
  omega

theorem speedReading_well {h : Hw} {d : Nat} {su : Nat} (hd : d < 15) (hr : reading h d = true) (hm : h.pwr.move = none)
    (ha : (h.fld PWR_SPD_CFG_alarm : Int) ≤ speedMargin h su) (hc : (h.fld PWR_SPD_CFG_crit : Int) ≤ speedMargin h su) :
    ∃ ok, speedReading d su h = noteOk (noteMargin h d (speedMargin h su)) d ok := by
  obtain ⟨pace, f, hs⟩ := speedReading_core su hd hr
  have k := keeps_noteMargin h (speedMargin h su) (Nat.lt_trans hd (by decide : 15 < 19))
  have hp : (noteMargin h d (speedMargin h su)).pwr = h.pwr := k.2.1 .pwr List.not_mem_nil
  rw [hs]
  refine afterMargin_well d pace f (hp ▸ hm) ?_ ?_
  · rw [fld_noteMargin_other _ _ _ (cfg_ne_margin d)]
    exact ha
  · rw [fld_noteMargin_other _ _ _ (cfg_ne_margin d)]
    exact hc

/-! ### What alarm, suspension and the move in progress leave of the speed status -/

/-- The alarms and the limit of the speed status stand, no event is taken back, and only subsystems 0x02 and 0x0A move. -/
def SpeedKept (s t : Hw) : Prop :=
  keeps [0x02, 0x0A] [.cmd, .evr, .pwr, .out] s t ∧ t.fld PWR_SPD_STATUS_alarm = s.fld PWR_SPD_STATUS_alarm ∧
    t.fld PWR_SPD_STATUS_limited = s.fld PWR_SPD_STATUS_limited ∧ ∀ e ∈ s.evr.bus, e ∈ t.evr.bus

theorem SpeedKept.refl (s : Hw) : SpeedKept s s := ⟨keeps_refl _ _ s, rfl, rfl, fun _ h => h⟩

theorem SpeedKept.trans {s t u : Hw} (h : SpeedKept s t) (k : SpeedKept t u) : SpeedKept s u := by
  obtain ⟨h1, h2, h3, h4⟩ := h
  obtain ⟨k1, k2, k3, k4⟩ := k
  exact ⟨keeps_trans h1 k1, k2.trans h2, k3.trans h3, fun e he => k4 e (h4 e he)⟩

theorem SpeedKept.cond {s t : Hw} (b : Bool) {f : Hw → Hw} (h : SpeedKept s t) (hf : SpeedKept t (f t)) : SpeedKept s (t.cond b f) := by
  cases b
  · exact h
  · exact h.trans hf

/-- A change of the command processor, the power parts and the outputs only. -/
theorem speedKept_of_regs {s t : Hw} (hk : keeps [] [.cmd, .pwr, .out] s t) (he : t.evr = s.evr) : SpeedKept s t := by
  have hr : ∀ f : Fld, t.fld f = s.fld f := fun f => by rw [Hw.fld, hk.1 _ List.not_mem_nil, Hw.fld]
  exact ⟨keeps_mono (List.nil_subset _) (by decide) hk, hr _, hr _, fun e h => he ▸ h⟩

theorem speedKept_setFld (s : Hw) {f : Fld} (v : Nat) (h : f.addr / 65536 ∈ [0x02, 0x0A])
    (hf : f.addr ≠ PWR_SPD_STATUS ∨ 31 ≤ f.lo) : SpeedKept s (s.setFld f v) := by
  refine ⟨keeps_setFld _ _ s f v h, Hw.fld_setFld_other s v (by decide) ?_, Hw.fld_setFld_other s v (by decide) ?_, fun _ h => h⟩
  · exact hf.imp Ne.symm fun h => .inl (Nat.le_trans (by decide : 0 + 19 ≤ 31) h)
  · exact hf.imp Ne.symm fun h => .inl h

theorem speedKept_raise (s : Hw) (c : Nat) (l : List Nat) : SpeedKept s (s.raise c l) :=
  ⟨keeps_raise _ _ s c l (by decide), rfl, rfl, fun e h => by rw [Hw.raise_bus]; exact List.mem_append_left _ h⟩

theorem speedKept_emit (s : Hw) (o : Out) : SpeedKept s (s.emit o) :=
  speedKept_of_regs (keeps_emit _ _ s o (by decide)) rfl

theorem speedKept_pwr (s : Hw) (x : Pwr) : SpeedKept s { s with pwr := x } :=
  speedKept_of_regs (keeps_mono (List.nil_subset _) (by decide) (keeps_pwr s x)) rfl

theorem speedKept_setMove (s : Hw) (m : Option VMove) : SpeedKept s (setMove s m) :=
  (speedKept_setFld s _ (by decide) (.inl (by decide))).trans (speedKept_pwr _ _)

theorem speedKept_rollBack (s : Hw) (m : VMove) (st det : Nat) : SpeedKept s (rollBack s m st det) := by
  have hr := speedKept_raise s 0x0214 [m.target, if st = stCONDITIONS then det else 0]
  unfold rollBack
  dsimp only
  split
  · exact hr.trans (speedKept_setMove _ _)
  · split
    · exact hr.trans (speedKept_setMove _ _)
    · exact (hr.trans (speedKept_setMove _ _)).trans (speedKept_emit _ _)

theorem speedKept_beginMove (s : Hw) (a : Bool) (t : Nat) (c : Option Nat) : SpeedKept s (beginMove s a t c) :=
  ((speedKept_setFld s _ (by decide) (.inl (by decide))).trans (speedKept_setMove _ _)).cond _ (speedKept_emit _ _)

theorem speedKept_autoRaise (s : Hw) : SpeedKept s (autoRaise s) := by
  unfold autoRaise
  dsimp only
  split
  · exact speedKept_beginMove _ _ _ _
  · exact SpeedKept.refl s

theorem speedKept_abortMove (s : Hw) (k : Nat) : SpeedKept s (abortMove s k) := by
  unfold abortMove
  split
  · split
    · exact SpeedKept.refl s
    · exact speedKept_rollBack _ _ _ _
  · exact SpeedKept.refl s

theorem speedKept_beginSuspension (s : Hw) (d : Nat) (m : Int) (pace : Nat) : SpeedKept s (beginSuspension s d m pace) := by
  have h1 := speedKept_setFld s (f := PWR_SPD_STATUS_suspended) 1 (by decide) (.inr (by decide))
  have h2 := speedKept_setFld (s.setFld PWR_SPD_STATUS_suspended 1) (f := PWR_SPD_LATCH_suspended) 1 (by decide) (.inl (by decide))
  exact ((h1.trans h2).trans (speedKept_raise _ _ _)).trans (speedKept_pwr _ _)

/-- A reading below the alarm threshold is none that the move in progress waits for. -/
theorem noteMove_below (s : Hw) (d : Nat) : noteMove s d false = s := by
  unfold noteMove
  split
  · rw [Bool.and_false]
    rfl
  · rfl

/-! ### The entry into an alarm -/

/-- The state once the alarm is set and told. -/
def alarmSet (s : Hw) (d : Nat) (m : Int) : Hw :=
  (((setAlarm s d true).setFld PWR_SPD_STATUS_limited 1).setFld PWR_SPD_LATCH_limited 1).raise 0x0210
    [d, enc 32 m, s.fld TDS_PACE_current]

theorem enterAlarm_alarmSet (s : Hw) (d : Nat) (m : Int) : SpeedKept (alarmSet s d m) (enterAlarm s d m) := by
  have he : enterAlarm s d m = autoRaise (match (alarmSet s d m).pwr.move with
      | some v => (alarmSet s d m).cond (!v.auto && decide (v.target > v.origin)) fun s => abortMove s 2
      | none => alarmSet s d m) := rfl
  rw [he]
  refine SpeedKept.trans ?_ (speedKept_autoRaise _)
  split
  · exact (SpeedKept.refl _).cond _ (speedKept_abortMove _ _)
  · exact SpeedKept.refl _

theorem keeps_alarmSet (s : Hw) (d : Nat) (m : Int) : keeps [0x02, 0x0A] [.cmd, .evr, .pwr, .out] s (alarmSet s d m) := by
  refine keeps_trans (keeps_mono (by decide) (List.nil_subset _) (keeps_setAlarm s d true)) ?_
  exact keeps_trans (keeps_trans (keeps_setFld _ _ _ _ _ (by decide)) (keeps_setFld _ _ _ _ _ (by decide)))
    (keeps_raise _ _ _ _ _ (by decide))

theorem limited_alarmSet (s : Hw) (d : Nat) (m : Int) : (alarmSet s d m).fld PWR_SPD_STATUS_limited = 1 := by
  unfold alarmSet
  rw [Hw.fld_raise, Hw.fld_setFld_other _ _ (by decide) (.inl (by decide)), Hw.fld_setFld_same _ _ (by decide)]
  decide

theorem inAlarm_alarmSet (s : Hw) {d : Nat} (m : Int) (hd : d < 19) : inAlarm (alarmSet s d m) d = true := by
  refine Eq.trans (inAlarm_of_fld d ?_) (inAlarm_setAlarm s true hd)
  unfold alarmSet
  rw [Hw.fld_raise, Hw.fld_setFld_other _ _ (by decide) (.inl (by decide)),
    Hw.fld_setFld_other _ _ (by decide) (.inr (.inl (by decide)))]

theorem dtime_alarmSet (s : Hw) (d : Nat) (m : Int) :
    Ev.mk 0x0210 [d, enc 32 m, s.fld TDS_PACE_current] s.dtime ∈ (alarmSet s d m).evr.bus := by
  have hd := (keeps_setAlarm s d true).2.1 .dtime List.not_mem_nil
  unfold alarmSet
  rw [Hw.raise_bus]
  refine List.mem_append_right _ (List.mem_singleton.mpr ?_)
  rw [Hw.setFld_dtime, Hw.setFld_dtime, show (setAlarm s d true).dtime = s.dtime from hd]

theorem afterMargin_alarm {s : Hw} (d : Nat) {m : Int} (pace : Nat) (f : Bool) (ha : inAlarm s d = false)
    (hm : m < (s.fld PWR_SPD_CFG_alarm : Int)) : SpeedKept (alarmSet s d m) (afterMargin s d m pace f) := by
  unfold afterMargin
  dsimp only
  rw [ha, decide_eq_true hm, decide_eq_false (Int.not_le.mpr hm), noteMove_below]
  exact SpeedKept.cond _ ((enterAlarm_alarmSet s d m).trans (speedKept_pwr _ _)) (speedKept_beginSuspension _ _ _ _)

theorem speedReading_alarm {h : Hw} {d : Nat} {su : Nat} (hd : d < 15) (hr : reading h d = true) (ha : inAlarm h d = false)
    (hm : speedMargin h su < (h.fld PWR_SPD_CFG_alarm : Int)) :
    SpeedKept (alarmSet (noteMargin h d (speedMargin h su)) d (speedMargin h su)) (speedReading d su h) := by
  obtain ⟨pace, f, hs⟩ := speedReading_core su hd hr
  rw [hs]
  refine afterMargin_alarm d pace f ?_ ?_
  · rw [inAlarm_of_fld d (fld_noteMargin_other h _ _ (status_ne_margin d)), ha]
  · rw [fld_noteMargin_other _ _ _ (cfg_ne_margin d)]
    exact hm

/-! ### Readings of D15 to D18 -/

/-- The alarm bit of D15 to D18, and the event of one that begins. -/
def edgeAlarm (s : Hw) (d : Nat) (m : Int) : Hw :=
  if m < s.fld PWR_SPD_CFG_alarm then
    (setAlarm s d true).cond (!inAlarm s d) fun t => t.raise 0x0210 [d, enc 32 m, t.fld TDS_PACE_current]
  else setAlarm s d false

/-- Whatever an alarm bit and an event leave, such a reading leaves. -/
theorem edgeAlarm_same {α : Type} (φ : Hw → α) (s : Hw) (d : Nat) (m : Int) (h : ∀ v, φ (setAlarm s d v) = φ s)
    (hr : ∀ t c l, φ (Hw.raise t c l) = φ t) : φ (edgeAlarm s d m) = φ s :=
  Hw.ite_same φ ((Hw.cond_same φ _ _ (hr _ _ _)).trans (h true)) (h false)

theorem keeps_edgeAlarm (s : Hw) (d : Nat) (m : Int) : keeps [0x02] [.evr] s (edgeAlarm s d m) := by
  have k := fun v => keeps_mono (List.Subset.refl _) (List.nil_subset [Part.evr]) (keeps_setAlarm s d v)
  unfold edgeAlarm
  split
  · exact keeps_trans (k true) (keeps_cond _ _ (keeps_raise _ _ _ _ _ (by decide)))
  · exact k false

theorem inAlarm_edgeAlarm (s : Hw) {d : Nat} (m : Int) (hd : d < 19) :
    inAlarm (edgeAlarm s d m) d = true ↔ m < s.fld PWR_SPD_CFG_alarm := by
  unfold edgeAlarm
  split
  · rename_i hm
    rw [Hw.cond_same (fun t => inAlarm t d) _ _ (inAlarm_of_fld d (Hw.fld_raise _ _ _ _)), inAlarm_setAlarm s true hd]
    exact iff_of_true rfl hm
  · rename_i hm
    rw [inAlarm_setAlarm s false hd]
    exact iff_of_false Bool.false_ne_true hm

theorem speedReading_outer {h : Hw} {d su : Nat} (h1 : 15 ≤ d) (h2 : d < 19) (hr : reading h d = true) :
    speedReading d su h = edgeAlarm (noteMargin h d (speedMargin h su)) d (speedMargin h su) :=
  speedReading_edge su h1 h2 hr

theorem margin_ne_status (d : Nat) : PWR_SPD_MARGIN d ≠ PWR_SPD_STATUS := (status_ne_margin d).symm

theorem margin_ne_latch (d : Nat) : PWR_SPD_MARGIN d ≠ PWR_SPD_LATCH := by
  unfold PWR_SPD_LATCH PWR_SPD_MARGIN
  omega

theorem margin_edgeAlarm (s : Hw) (d : Nat) (m : Int) :
    (edgeAlarm s d m).fldS (PWR_SPD_MARGIN_margin d) = s.fldS (PWR_SPD_MARGIN_margin d) := by
  refine edgeAlarm_same (fun t => t.fldS (PWR_SPD_MARGIN_margin d)) s d m (fun v => ?_) fun _ _ _ => rfl
  have hr := reg_setAlarm_other s d v (margin_ne_status d) (margin_ne_latch d)
  simp only [Hw.fldS, Hw.fld, PWR_SPD_MARGIN_margin, hr]

/-! ### The suspension (R118) -/

/-- The limits of both groups, moved by a function of group and limit. -/
def susLimits (s : Hw) (f : Nat → Nat → Nat) : Map Nat :=
  Map.put 1000 (Map.put 1000 s.pwr.susLim 0 (f 0 (Map.get 1000 s.pwr.susLim 0))) 1 (f 1 (Map.get 1000 s.pwr.susLim 1))

theorem susLimits_get (s : Hw) (f : Nat → Nat → Nat) : Map.get 1000 (susLimits s f) 0 = f 0 (Map.get 1000 s.pwr.susLim 0) ∧
    Map.get 1000 (susLimits s f) 1 = f 1 (Map.get 1000 s.pwr.susLim 1) :=
  ⟨(Map.get_put_other _ _ _ _ (by decide)).trans (Map.get_put_same _ _ _ _), Map.get_put_same _ _ _ _⟩

theorem suspensionStep_short {h : Hw} (hs : h.flag PWR_SPD_STATUS_suspended = true) (hm : marginsOk h = false)
    (hu : h.pwr.susUp = false) (hd : h.fld PWR_DTIME_SRC_source ≠ 3) :
    suspensionStep h = { h with pwr := { h.pwr with susLim := susLimits h fun _ l => max 250 (l - 50) } } := by
  unfold suspensionStep
  rw [hs, hm, hu]
  dsimp only
  rw [if_neg (by decide), if_neg (by decide), if_neg (by simpa using hd)]
  rfl

/-- The end of a suspension. -/
def endSuspension (s : Hw) : Hw :=
  let s := (s.setFld PWR_SPD_STATUS_suspended 0).cond (s.fld PWR_DTIME_SRC_source != 3) fun s =>
    s.raise 0x0212 [(s.dtime - s.pwr.susAt) / 1000]
  { s with pwr := { s.pwr with susLim := [], susUp := false } }

theorem suspensionStep_over {h : Hw} (hs : h.flag PWR_SPD_STATUS_suspended = true) (hm : marginsOk h = true)
    (h0 : groupFloor h 0 ≤ Map.get 1000 h.pwr.susLim 0 + 50) (h1 : groupFloor h 1 ≤ Map.get 1000 h.pwr.susLim 1 + 50) :
    suspensionStep h = endSuspension { h with pwr := { h.pwr with
      susLim := susLimits h fun g l => min (groupFloor h g) (l + 50), susUp := true } } := by
  obtain ⟨g0, g1⟩ := susLimits_get h fun g l => min (groupFloor h g) (l + 50)
  have hg : ([0, 1].all fun g => decide (groupFloor { h with pwr := { h.pwr with
      susLim := susLimits h fun g l => min (groupFloor h g) (l + 50), susUp := true } } g ≤
      Map.get 1000 (susLimits h fun g l => min (groupFloor h g) (l + 50)) g)) = true := by
    simp only [List.all_cons, List.all_nil, Bool.and_true, Bool.and_eq_true, decide_eq_true_eq, g0, g1]
    exact ⟨Nat.le_min_of_le_of_le (Nat.le_refl _) h0, Nat.le_min_of_le_of_le (Nat.le_refl _) h1⟩
  unfold suspensionStep
  rw [hs, hm]
  dsimp only
  rw [if_neg (by decide), if_pos rfl]
  exact if_pos hg

theorem Hw.fld_pwr (s : Hw) (x : Pwr) (f : Fld) : ({ s with pwr := x } : Hw).fld f = s.fld f := rfl

theorem endSuspension_ends (s : Hw) (hd : s.fld PWR_DTIME_SRC_source ≠ 3) : keeps [0x02] [.evr, .pwr] s (endSuspension s) ∧
    (endSuspension s).flag PWR_SPD_STATUS_suspended = false ∧ (endSuspension s).pwr.susLim = [] ∧
    (endSuspension s).evr.bus = s.evr.bus ++ [Ev.mk 0x0212 [(s.dtime - s.pwr.susAt) / 1000] s.dtime] := by
  have hf : (s.setFld PWR_SPD_STATUS_suspended 0).fld PWR_SPD_STATUS_suspended = 0 := Hw.fld_setFld_same s 0 (by decide)
  unfold endSuspension
  rw [bne_iff_ne.mpr hd, Hw.cond_true]
  refine ⟨?_, ?_, rfl, ?_⟩
  · exact keeps_trans (keeps_trans (keeps_setFld _ _ s _ _ (by decide)) (keeps_raise _ _ _ _ _ (by decide)))
      (keeps_mono (List.nil_subset _) (by decide) (keeps_pwr _ _))
  · rw [Hw.flag, Hw.fld_pwr, Hw.fld_raise, hf]
    decide
  · dsimp only
    rw [Hw.raise_bus, Hw.setFld_dtime, Hw.setFld_pwr, Hw.setFld_evr]

/-- Settles O19: what a reading notes, when an alarm ends, and how a suspension goes on. -/
theorem speedReadingsAndSuspension : Obligations.SpeedReadingsAndSuspension := by
  unfold Obligations.SpeedReadingsAndSuspension
  refine ⟨fun d su => ?_, fun d su => ?_, fun d su => ?_, fun d => ?_, ?_, ?_⟩
  · refine happens_intro (f := speedReading d su) (fun _ _ => rfl) fun h ⟨hd, hr, hm, ha, hc⟩ => ?_
    obtain ⟨h1, h2⟩ := clampI_bounds ((su : Int) - max (groupPace h 0) (groupPace h 1))
    obtain ⟨ok, hs⟩ := speedReading_well hd hr hm ha hc
    have hk : keeps [0x02, 0x0A] [.cmd, .evr, .pwr, .out] h (noteOk (noteMargin h d (speedMargin h su)) d ok) :=
      keeps_trans (keeps_mono (by decide) (List.nil_subset _) (keeps_noteMargin h (speedMargin h su) d.isLt))
        (keeps_mono (List.nil_subset _) (by decide) (keeps_noteOk _ _ _))
    rw [hs]
    exact ⟨hk, margin_noteMargin h d h1 h2, minMargin_noteMargin h d h1 h2, fun a ha => reg_noteMargin_other h d _ ha,
      (keeps_noteMargin h (speedMargin h su) d.isLt).2.1 .evr List.not_mem_nil⟩
  · refine happens_intro (f := speedReading d su) (fun _ _ => rfl) fun h ⟨hd, hr, ha, hm⟩ => ?_
    obtain ⟨hk, hal, hli, hb⟩ := speedReading_alarm hd hr ha hm
    have hn := keeps_noteMargin h (speedMargin h su) d.isLt
    have hnd : (noteMargin h d (speedMargin h su)).dtime = h.dtime := hn.2.1 .dtime List.not_mem_nil
    have he := dtime_alarmSet (noteMargin h d (speedMargin h su)) d (speedMargin h su)
    rw [hnd, Hw.fld, hn.1 _ (by decide)] at he
    refine ⟨keeps_trans (keeps_trans (keeps_mono (by decide) (List.nil_subset _) hn) (keeps_alarmSet _ _ _)) hk, ?_, ?_, hb _ he⟩
    · rw [inAlarm_of_fld d hal, inAlarm_alarmSet _ _ d.isLt]
    · rw [Hw.flag, hli, limited_alarmSet]
      rfl
  · refine happens_intro (f := speedReading d su) (fun _ _ => rfl) fun h ⟨hd, hr⟩ => ?_
    obtain ⟨h1, h2⟩ := clampI_bounds ((su : Int) - max (groupPace h 0) (groupPace h 1))
    have hn := keeps_noteMargin h (speedMargin h su) d.isLt
    have he := keeps_edgeAlarm (noteMargin h d (speedMargin h su)) d (speedMargin h su)
    rw [speedReading_outer hd d.isLt hr]
    refine ⟨keeps_mono (by decide) (by decide) (keeps_trans (keeps_mono (List.Subset.refl _) (List.nil_subset _) hn) he), ?_, ?_, ?_⟩
    · exact (margin_edgeAlarm _ _ _).trans (margin_noteMargin h d h1 h2)
    · rw [inAlarm_edgeAlarm _ _ d.isLt, fld_noteMargin_other _ _ _ (cfg_ne_margin d)]
      rfl
    · exact (he.2.1 .pwr (by decide)).trans (hn.2.1 .pwr List.not_mem_nil)
  · refine happens_intro (f := speedAlarmEnd d) (fun _ _ => rfl) fun h ⟨ha, hd, h0, ht⟩ => ?_
    exact ⟨speedAlarmEnd_due ha hd h0 ht, (speedAlarmEnd_due ha hd h0 ht) ▸ inAlarm_leaveAlarm d.isLt ha⟩
  · exact happens_intro (f := suspensionStep) (fun _ _ => rfl) fun h ⟨hs, hm, hu, hd⟩ => suspensionStep_short hs hm hu hd
  · refine happens_intro (f := suspensionStep) (fun _ _ => rfl) fun h ⟨hs, hm, hd, h0, h1⟩ => ?_
    rw [suspensionStep_over hs hm h0 h1]
    obtain ⟨hk, hrest⟩ := endSuspension_ends { h with pwr := { h.pwr with
      susLim := susLimits h fun g l => min (groupFloor h g) (l + 50), susUp := true } } hd
    exact ⟨keeps_trans (keeps_mono (List.nil_subset _) (by decide) (keeps_pwr h _)) hk, hrest⟩

end Sys2Proof.Machine

namespace Sys2Proof.Machine
open Reg

/-! ### Two updates of one key -/

theorem Map.erase_insert {α : Type} (m : Map α) (k : Nat) (v : α) : Map.erase (Map.insert m k v) k = Map.erase m k := by
  induction m with
  | nil => simp [Map.insert, Map.erase]
  | cons x m ih =>
    obtain ⟨i, w⟩ := x
    by_cases hk : k < i
    · simp [Map.insert, hk, Map.erase]
    · simp [Map.insert, hk, Map.erase, ih]

theorem Map.erase_erase {α : Type} (m : Map α) (k : Nat) : Map.erase (Map.erase m k) k = Map.erase m k := by
  induction m with
  | nil => rfl
  | cons x m ih =>
    obtain ⟨i, w⟩ := x
    by_cases hk : i = k
    · simp [Map.erase, hk, ih]
    · simp [Map.erase, hk, ih]

section
variable {α : Type} [DecidableEq α]

theorem Map.erase_put (d : α) (m : Map α) (k : Nat) (v : α) : Map.erase (Map.put d m k v) k = Map.erase m k := by
  unfold Map.put
  split
  · exact Map.erase_erase m k
  · rw [Map.erase_insert, Map.erase_erase]

/-- The later of two writes to one key stands alone. -/
theorem Map.put_put (d : α) (m : Map α) (k : Nat) (v w : α) : Map.put d (Map.put d m k v) k w = Map.put d m k w := by
  unfold Map.put
  split
  · exact Map.erase_put d m k v
  · congr 1
    exact Map.erase_put d m k v

theorem Map.get_upd_same (d : α) (m : Map α) (k : Nat) (f : α → α) : Map.get d (Map.upd d m k f) k = f (Map.get d m k) :=
  Map.get_put_same d m k _

theorem Map.upd_upd (d : α) (m : Map α) (k : Nat) (f g : α → α) :
    Map.upd d (Map.upd d m k f) k g = Map.upd d m k fun x => g (f x) := by
  rw [Map.upd, Map.get_upd_same]
  exact Map.put_put d m k _ _
end

theorem Hw.updGrp_updGrp (s : Hw) (g : Nat) (f k : Grp → Grp) : (s.updGrp g f).updGrp g k = s.updGrp g fun x => k (f x) := by
  rw [Hw.updGrp, Hw.updGrp, Hw.updGrp, Map.upd_upd]

theorem Hw.grp_updGrp_same (s : Hw) (g : Nat) (f : Grp → Grp) : (s.updGrp g f).grp g = f (s.grp g) :=
  Map.get_upd_same _ _ _ _

/-! ### The references (R587 to R589) -/

theorem clampI_within {lo hi x : Int} (h1 : lo ≤ x) (h2 : x ≤ hi) : clampI lo hi x = x := by
  rw [clampI, if_neg (Int.not_lt.mpr h1), if_neg (Int.not_lt.mpr h2)]

theorem clampI_offset {x : Int} (h : x.natAbs ≤ 11500) : clampI (-32768) 32767 x = x := clampI_within (by omega) (by omega)

/-- The state in which the offsets of a measurement are set. -/
def measuring (s : Hw) : Hw := { s with pwr := { s.pwr with measAt := some s.dtime } }

theorem referenceMeasure_all {h : Hw} {x a b : Int} (hd : measureDue h = true) (h0 : h.flag (PWR_REF_present 0) = true)
    (h1 : h.flag (PWR_REF_present 1) = true) (h2 : h.flag (PWR_REF_present 2) = true) (hx : (x - median x a b).natAbs ≤ 1500)
    (ha : (a - median x a b).natAbs ≤ 1500) (hb : (b - median x a b).natAbs ≤ 1500) :
    referenceMeasure x a b h = (((measuring h).setFldS (PWR_REF_offset 0) (x - median x a b)).setFldS
      (PWR_REF_offset 1) (a - median x a b)).setFldS (PWR_REF_offset 2) (b - median x a b) := by
  have hp : ([0, 1, 2].filter fun r => (measuring h).flag (PWR_REF_present r)) = [0, 1, 2] := by
    change ([0, 1, 2].filter fun r => h.flag (PWR_REF_present r)) = [0, 1, 2]
    simp [h0, h1, h2]
  have far : ∀ y : Int, y.natAbs ≤ 1500 → decide (y.natAbs > 1500) = false := fun y hy => decide_eq_false (Nat.not_lt.mpr hy)
  unfold referenceMeasure
  rw [hd]
  dsimp only
  rw [if_neg (by decide), ← measuring, hp]
  simp [Hw.each, refBase, far, hx, ha, hb, clampI_offset (Nat.le_trans hx (by decide)), clampI_offset (Nat.le_trans ha (by decide)), clampI_offset (Nat.le_trans hb (by decide))]

theorem referenceMeasure_lone {h : Hw} {x : Int} (a b : Int) (hd : measureDue h = true) (h0 : h.flag (PWR_REF_present 0) = true)
    (h1 : h.flag (PWR_REF_present 1) = false) (h2 : h.flag (PWR_REF_present 2) = false) (hx : x.natAbs ≤ 11500) :
    referenceMeasure x a b h = (measuring h).setFldS (PWR_REF_offset 0) x := by
  have hp : ([0, 1, 2].filter fun r => (measuring h).flag (PWR_REF_present r)) = [0] := by
    change ([0, 1, 2].filter fun r => h.flag (PWR_REF_present r)) = [0]
    simp [h0, h1, h2]
  have near : decide (x.natAbs > 11500) = false := decide_eq_false (Nat.not_lt.mpr hx)
  unfold referenceMeasure
  rw [hd]
  dsimp only
  rw [if_neg (by decide), ← measuring, hp]
  simp [Hw.each, refBase, near, clampI_offset hx]

theorem rejectRef_rejected {s : Hw} {r : Nat} (h : s.refOk r = false) : rejectRef s r = s := by
  unfold rejectRef
  rw [h]
  rfl

/-- Whether a reference is accepted stands when it is marked absent. -/
theorem refOk_absent (s : Hw) (r : Nat) : (refOut (s.setFld (PWR_REF_present r) 0) r).refOk r = s.refOk r := by
  have hw : (PWR_REF_accepted r).lo + (PWR_REF_accepted r).w ≤ 32 := by
    unfold PWR_REF_accepted
    dsimp only
    decide
  have hl : (PWR_REF_accepted r).lo + (PWR_REF_accepted r).w ≤ (PWR_REF_present r).lo := by
    unfold PWR_REF_accepted PWR_REF_present
    dsimp only
    decide
  rw [Hw.refOk, Hw.refOk, Hw.flag, Hw.flag, refOut, Hw.fld_pwr, Hw.fld_setFld_other s 0 hw (.inr (.inl hl))]

theorem referenceAccepted_good {h : Hw} {r : Nat} (ho : h.refOk r = false) (hg : refGood h r = true) : referenceAccepted r h =
    let s : Hw := { (h.setFld (PWR_REF_present r) 1).setFld (PWR_REF_accepted r) 1 with
      pwr := { h.pwr with refOkSince := Map.put 0 h.pwr.refOkSince r (h.dtime + 1) } }
    if r = 0 then s else enterIfEnabled s (r - 1) := by
  unfold referenceAccepted
  rw [ho, hg, if_neg (by decide)]
  dsimp only
  rw [Hw.setFld_pwr, Hw.setFld_pwr, Hw.setFld_dtime, Hw.setFld_dtime]

theorem changeSource_new {s : Hw} {src : Nat} (h : src ≠ s.fld PWR_DTIME_SRC_source) : ∃ gs, changeSource s src =
    { (({ s with freeN := s.freeN + 1 } : Hw).setFld PWR_DTIME_SRC_source src).raise 0x0215
      [s.fld PWR_DTIME_SRC_source, src, Config.free s.freeN % 65] with grps := gs } := by
  unfold changeSource
  dsimp only [Hw.free]
  rw [if_neg h]
  cases src == 3 || s.fld PWR_DTIME_SRC_source == 3
  · exact ⟨s.grps, rfl⟩
  · exact ⟨_, rfl⟩

theorem Hw.fld_grps (s : Hw) (x : Map Grp) (f : Fld) : ({ s with grps := x } : Hw).fld f = s.fld f := rfl

/-- A new source stands in its register, and its event has the old one and the step. -/
theorem changeSource_tells {s : Hw} {src : Nat} (h : src ≠ s.fld PWR_DTIME_SRC_source) :
    (changeSource s src).fld PWR_DTIME_SRC_source = src % 2 ^ 2 ∧ (changeSource s src).evr.bus = s.evr.bus ++
      [Ev.mk 0x0215 [s.fld PWR_DTIME_SRC_source, src, Config.free s.freeN % 65] s.dtime] := by
  obtain ⟨gs, hc⟩ := changeSource_new h
  rw [hc]
  constructor
  · rw [Hw.fld_grps, Hw.fld_raise, Hw.fld_setFld_same _ _ (by decide)]
    rfl
  · dsimp only
    rw [Hw.raise_bus, Hw.setFld_evr, Hw.setFld_dtime]

/-- A source whose reference has been accepted for 1 s. -/
def sourceLasts (s : Hw) (src : Nat) : Bool :=
  s.refOk (sourceRef src) && decide (Map.get 0 s.pwr.refOkSince (sourceRef src) = 0 ∨
    Map.get 0 s.pwr.refOkSince (sourceRef src) - 1 + 1000000000 ≤ s.dtime)

theorem dtimeSourceReturn_eq (s : Hw) : dtimeSourceReturn s = match [0, 1, 2].find? (sourceLasts s) with
    | some src => if src < s.fld PWR_DTIME_SRC_source then changeSource s src else s
    | none => s := rfl

theorem dtimeSourceReturn_lrefa {h : Hw} (ho : h.refOk 1 = true) (ht : Map.get 0 h.pwr.refOkSince 1 + 1000000000 ≤ h.dtime)
    (hs : h.fld PWR_DTIME_SRC_source ≠ 0) : dtimeSourceReturn h = changeSource h 0 := by
  have hk : sourceLasts h 0 = true := by
    have h1 : sourceRef 0 = 1 := by decide
    rw [sourceLasts, h1, ho, Bool.true_and, decide_eq_true_eq]
    omega
  rw [dtimeSourceReturn_eq, List.find?_cons_of_pos hk]
  exact if_pos (Nat.pos_of_ne_zero hs)

/-! ### Time transfer (R92 to R97) -/

/-- The number of the next request of a lane. -/
def nextTime (h : Hw) (n : Nat) : Nat := (Map.get 0 (h.grp (laneGroup n)).ttSeq (n % 4) + 1) % 65536

theorem timeTick_active {h : Hw} {n : Nat} (fr : Nat) (hf : framing h (laneGroup n) = true) (hs : 4 ≤ h.stage (laneGroup n))
    (hm : hasBit (h.txMask (laneGroup n)) (n % 4) = true) : timeTick n fr h =
      sendTime (h.updGrp (laneGroup n) fun x => { x with ttSeq := Map.put 0 x.ttSeq (n % 4) (nextTime h n) })
        (laneGroup n) (n % 4) 1 (nextTime h n) fr (timePayload h 0 0 0 0) := by
  unfold timeTick
  dsimp only
  rw [if_pos]
  · rfl
  · rw [hf, hm, decide_eq_true hs]
    rfl

theorem timeAnswer_unasked {h : Hw} {n a b d q fr : Nat} (hq : Map.get none (h.grp (laneGroup n)).ttOut (n % 4) ≠ some (q, a)) :
    timeAnswer n a b d q fr h = h := by
  unfold timeAnswer
  dsimp only
  rw [if_pos]
  rw [bne_iff_ne.mpr hq, Bool.or_true]

/-- The exchange of an answer that completes its request is noted. -/
def noteExchange (h : Hw) (n : Nat) (dly : Int) : Hw :=
  h.updGrp (laneGroup n) fun x => { x with
    ttOut := Map.put none x.ttOut (n % 4) none, dlys := Map.put [] x.dlys (n % 4) ((dly :: Map.get [] x.dlys (n % 4)).take 16),
    exch := x.exch + 1 }

/-- A raw offset is taken into the list. -/
def takeOffset (h : Hw) (n : Nat) (o : Int) : Hw :=
  h.updGrp (laneGroup n) fun x => { x with offs := ((n % 4, o) :: x.offs).take 64, aside := [], exchOffs := min 64 (x.exchOffs + 1) }

theorem timeAnswer_near {h : Hw} {n a b d q fr : Nat} (hf : framing h (laneGroup n) = true) (hs : 4 ≤ h.stage (laneGroup n))
    (hq : Map.get none (h.grp (laneGroup n)).ttOut (n % 4) = some (q, a))
    (hn : h.flag (peerValid (laneGroup n)) = false ∨ ((exchange h (laneGroup n) a b d (fine h fr)).1 -
      2 * sx 64 (h.num64 (PWR_PEER_OFS (laneGroup n)))).natAbs ≤ 2560) :
    timeAnswer n a b d q fr h =
      let x := exchange h (laneGroup n) a b d (fine h fr)
      let t := takeOffset (noteExchange h n x.2) n x.1
      tryReady (if !(recentOffs t (laneGroup n)).isEmpty && (h.flag (peerValid (laneGroup n)) ||
        decide ((recentOffs t (laneGroup n)).length ≥ 16)) then publish t (laneGroup n) (recentOffs t (laneGroup n)) else t)
        (laneGroup n) := by
  have hne : ((noteExchange h n (exchange h (laneGroup n) a b d (fine h fr)).2).flag (peerValid (laneGroup n)) &&
      decide (((exchange h (laneGroup n) a b d (fine h fr)).1 - 2 * sx 64 ((noteExchange h n (exchange h (laneGroup n) a b d
        (fine h fr)).2).num64 (PWR_PEER_OFS (laneGroup n)))).natAbs > 2560)) = false := by
    change (h.flag (peerValid (laneGroup n)) && decide (((exchange h (laneGroup n) a b d (fine h fr)).1 -
      2 * sx 64 (h.num64 (PWR_PEER_OFS (laneGroup n)))).natAbs > 2560)) = false
    rcases hn with hn | hn
    · rw [hn, Bool.false_and]
    · rw [decide_eq_false (Nat.not_lt.mpr hn), Bool.and_false]
  unfold timeAnswer
  dsimp only
  rw [if_neg, ← noteExchange, if_neg]
  · rfl
  · exact Bool.eq_false_iff.mp hne
  · rw [hf, decide_eq_true hs, hq]
    simp

theorem takeOffset_noteExchange (h : Hw) (n : Nat) (o dly : Int) : takeOffset (noteExchange h n dly) n o =
    h.updGrp (laneGroup n) fun y => { y with
      ttOut := Map.put none y.ttOut (n % 4) none, dlys := Map.put [] y.dlys (n % 4) ((dly :: Map.get [] y.dlys (n % 4)).take 16),
      exch := y.exch + 1, offs := ((n % 4, o) :: y.offs).take 64, aside := [], exchOffs := min 64 (y.exchOffs + 1) } := by
  rw [takeOffset, noteExchange, Hw.updGrp_updGrp]

/-- Settles O20: what a measurement, an acceptance, a change of source and an exchange of times do. -/
theorem referencesAndTimeTransfer : Obligations.ReferencesAndTimeTransfer := by
  unfold Obligations.ReferencesAndTimeTransfer
  refine ⟨fun x a b => ?_, fun x a b => ?_, fun r => ?_, ?_, fun r => ?_, ?_, fun n fr => ?_, fun n a b d q fr => ?_,
    fun n a b d q fr => ?_⟩
  · exact happens_intro (fun _ _ => rfl) fun h ⟨hd, h0, h1, h2, hx, ha, hb⟩ => referenceMeasure_all hd h0 h1 h2 hx ha hb
  · exact happens_intro (fun _ _ => rfl) fun h ⟨hd, h0, h1, h2, hx⟩ => referenceMeasure_lone a b hd h0 h1 h2 hx
  · exact happens_intro (f := referenceAbsent r) (fun _ _ => rfl) fun h _ =>
      ⟨rfl, fun ho => rejectRef_rejected ((refOk_absent h r).trans ho)⟩
  · exact happens_intro (f := referenceAccepted (0 : Fin 3)) (fun _ _ => rfl) fun h ⟨ho, hg⟩ =>
      (referenceAccepted_good (r := (0 : Fin 3)) ho hg).trans (if_pos rfl)
  · refine happens_intro (f := referenceAccepted r) (fun _ _ => rfl) fun h ⟨hr, ho, hg⟩ => ?_
    rw [referenceAccepted_good ho hg]
    exact if_neg hr
  · refine happens_intro (f := dtimeSourceReturn) (fun _ _ => rfl) fun h ⟨ho, ht, hs⟩ => ?_
    obtain ⟨hf, hb⟩ := changeSource_tells (Ne.symm hs)
    rw [dtimeSourceReturn_lrefa ho ht hs]
    exact ⟨rfl, hf, hb⟩
  · exact happens_intro (fun _ _ => rfl) fun h ⟨hf, hs, hm⟩ => timeTick_active fr hf hs hm
  · refine happens_intro (f := timeAnswer n a b d q fr) (fun _ _ => rfl) fun h ⟨hf, hs, hq, hn⟩ => ?_
    rw [timeAnswer_near hf hs hq hn]
    dsimp only
    rw [takeOffset_noteExchange]
  · exact happens_intro (fun _ _ => rfl) fun h hq => timeAnswer_unasked hq

end Sys2Proof.Machine

namespace Sys2Proof.Machine
open Reg

/-! ### Conditions over lists of lanes -/

/-- The blocks of an equaliser that a request sets do not run. -/
theorem eqSet_held {b : Hw} {n m : Nat} (ha : hasBit m 0 = true → held b (LRX_ADAPT_afe n) = true)
    (hf : hasBit m 1 = true → held b (LRX_ADAPT_ffe n) = true) (hr : hasBit m 2 = true → held b (LRX_ADAPT_rsse n) = true) :
    ¬ ((hasBit m 0 && !held b (LRX_ADAPT_afe n)) || (hasBit m 1 && !held b (LRX_ADAPT_ffe n)) ||
      (hasBit m 2 && !held b (LRX_ADAPT_rsse n))) = true := by
  have no : ∀ {x y : Bool}, (x = true → y = true) → (x && !y) = false := by decide
  rw [no ha, no hf, no hr]
  exact Bool.false_ne_true

theorem notP2_any {b : Hw} {l : List Nat} (h : l.all (fun n => b.stage (laneGroup n) != 2) = true) :
    ¬ (l.any fun n => b.stage (laneGroup n) == 2) = true := by
  rw [List.any_eq_true]
  rintro ⟨n, hn, h2⟩
  have := List.all_eq_true.mp h n hn
  rw [bne, h2] at this
  exact Bool.false_ne_true this

theorem histRun_body {b : Hw} {c : Call} (hb : b.flag (LRX_STATUS_hist_busy (u8 c.p 0)) = false)
    (hl : b.flag (LRX_STATUS_los (u8 c.p 0)) = false) : opLrxHistRun.body b c = .wait (.hist (u8 c.p 0))
      (((b.each (List.range 256) fun i s => setPoison (s.setNum (LRX_HIST (u8 c.p 0) i) 0) (LRX_HIST (u8 c.p 0) i) false).setFld
        (LRX_STATUS_hist_busy (u8 c.p 0)) 1).updLane (u8 c.p 0) fun l => { l with
          hist := some (u8 c.p 1, u8 c.p 2), histLos := false,
          histOld := (List.range 256).map fun i => b.num (LRX_HIST (u8 c.p 0) i) }) := by
  unfold opLrxHistRun OpSpec.fix
  dsimp only
  rw [hb, hl]
  rfl

theorem histRead_body {b : Hw} {c : Call}
    (hp : (List.range (u16 c.p 2)).all (fun i => !poisoned b (LRX_HIST (u8 c.p 0) (u8 c.p 1) + i)) = true) :
    opLrxHistRead.body b c = .ok b (b.words (LRX_HIST (u8 c.p 0) (u8 c.p 1)) (u16 c.p 2)) := by
  have hn : ((List.range (u16 c.p 2)).find? fun i => poisoned b (LRX_HIST (u8 c.p 0) (u8 c.p 1) + i)) = none := by
    rw [List.find?_eq_none]
    intro i hi hq
    have := List.all_eq_true.mp hp i hi
    rw [hq] at this
    exact Bool.false_ne_true this
  unfold opLrxHistRead OpSpec.fix
  dsimp only
  rw [hn]

/-- Settles O21: the body of each request under its row's condition. -/
theorem laneSettingsAndReads : Obligations.LaneSettingsAndReads := by
  unfold Obligations.LaneSettingsAndReads
  refine ⟨?_, ?_, ?_, ?_, ?_, ?_, ?_, ?_, ?_, ?_, ?_, ?_⟩
  · exact runsOk_intro (fun _ _ _ => rfl) fun b c _ => ⟨_, _, rfl, rfl, rfl⟩
  · exact runsOk_intro (fun _ _ _ => rfl) fun b c h2 => ⟨_, _, if_neg (notP2_any h2), rfl, rfl⟩
  · exact runsOk_intro (fun _ _ _ => rfl) fun b c _ => ⟨_, _, rfl, rfl, rfl⟩
  · exact runsOk_intro (fun _ _ _ => rfl) fun b c _ => ⟨_, _, rfl, rfl, rfl⟩
  · exact runsOk_intro (fun _ _ _ => rfl) fun b c hm => ⟨_, _, if_neg (Bool.eq_false_iff.mp hm), rfl, rfl⟩
  · exact runsOk_intro (fun _ _ _ => rfl) fun b c _ => ⟨_, _, rfl, rfl, rfl⟩
  · exact runsOk_intro (fun _ _ _ => rfl) fun b c ⟨ha, hf, hr⟩ => ⟨_, _, if_neg (eqSet_held ha hf hr), rfl, rfl⟩
  · exact runsOk_intro (fun _ _ _ => rfl) fun b c ha => ⟨_, _, if_neg (Bool.eq_false_iff.mp ha), rfl, rfl⟩
  · exact runsOk_intro (fun _ _ _ => rfl) fun b c _ => ⟨_, _, rfl, rfl, rfl⟩
  · exact runsOk_intro (fun _ _ _ => rfl) fun b c _ => ⟨_, _, rfl, rfl, rfl⟩
  · exact runsOn_intro (fun _ _ _ => rfl) fun b c ⟨hb, hl⟩ => ⟨_, _, histRun_body hb hl, rfl, rfl⟩
  · exact runsOk_intro (fun _ _ _ => rfl) fun b c hp => ⟨_, _, histRead_body hp, rfl, rfl⟩

end Sys2Proof.Machine

namespace Sys2Proof.Machine
open Reg

/-! ### Flags -/

/-- A read sees the register words only. -/
theorem Hw.flag_of_regs {s t : Hw} (h : t.regs = s.regs) (f : Fld) : t.flag f = s.flag f := by
  rw [Hw.flag, Hw.fld, Hw.reg, h, ← Hw.reg, ← Hw.fld, ← Hw.flag]

theorem Hw.fld_of_regs {s t : Hw} (h : t.regs = s.regs) (f : Fld) : t.fld f = s.fld f := by
  rw [Hw.fld, Hw.reg, h, ← Hw.reg, ← Hw.fld]

theorem Hw.flag_set (s : Hw) {f : Fld} (hw : f.w = 1) (h : f.lo < 32) : (s.setFld f 1).flag f = true := by
  rw [Hw.flag, Hw.fld_setFld_same s 1 (by omega), hw]
  rfl

theorem Hw.flag_clear (s : Hw) {f : Fld} (hw : f.w = 1) (h : f.lo < 32) : (s.setFld f 0).flag f = false := by
  rw [Hw.flag, Hw.fld_setFld_same s 0 (by omega), hw]
  rfl

theorem Hw.flag_setFld_other (s : Hw) {f g : Fld} (v : Nat) (hg : g.lo + g.w ≤ 32)
    (h : g.addr ≠ f.addr ∨ g.lo + g.w ≤ f.lo ∨ f.lo + f.w ≤ g.lo) : (s.setFld f v).flag g = s.flag g := by
  rw [Hw.flag, Hw.fld_setFld_other s v hg h, Hw.flag]

theorem Hw.flag_raise (s : Hw) (c : Nat) (l : List Nat) (f : Fld) : (s.raise c l).flag f = s.flag f := rfl

theorem Hw.flag_updLane (s : Hw) (n : Nat) (k : Lane → Lane) (f : Fld) : (s.updLane n k).flag f = s.flag f := rfl

/-! ### One more update that keeps what has been kept -/

section
variable {ss : List Nat} {ps : List Part} {s t : Hw}

theorem keeps.setFld (k : keeps ss ps s t) {f : Fld} (v : Nat) (h : f.addr / 65536 ∈ ss) : keeps ss ps s (t.setFld f v) :=
  keeps_trans k (keeps_setFld ss ps t f v h)

theorem keeps.raise (k : keeps ss ps s t) (c : Nat) (l : List Nat) (h : Part.evr ∈ ps) : keeps ss ps s (t.raise c l) :=
  keeps_trans k (keeps_raise ss ps t c l h)

theorem keeps.emit (k : keeps ss ps s t) (o : Out) (h : Part.out ∈ ps) : keeps ss ps s (t.emit o) :=
  keeps_trans k (keeps_emit ss ps t o h)

theorem keeps.cond (k : keeps ss ps s t) (b : Bool) {f : Hw → Hw} (hf : keeps ss ps t (f t)) : keeps ss ps s (t.cond b f) :=
  keeps_trans k (keeps_cond t b hf)

theorem keeps.each (k : keeps ss ps s t) (l : List Nat) {f : Nat → Hw → Hw} (hf : ∀ i ∈ l, ∀ u, keeps ss ps u (f i u)) :
    keeps ss ps s (t.each l f) :=
  keeps_trans k (keeps_each l hf t)

/-- A state that differs from another in the register words of no subsystem and in one part alone. -/
theorem keeps.part (k : keeps ss ps s t) {p : Part} {u : Hw} (hp : p ∈ ps) (hu : keeps [] [p] t u) : keeps ss ps s u :=
  keeps_trans k (keeps_mono (List.nil_subset _) (List.cons_subset.mpr ⟨hp, List.nil_subset _⟩) hu)

/-- The one event told after an update that tells none. -/
theorem keeps.raise_bus (k : keeps ss ps s t) (he : Part.evr ∉ ps) (hd : Part.dtime ∉ ps) (c : Nat) (l : List Nat) :
    (t.raise c l).evr.bus = s.evr.bus ++ [⟨c, l, s.dtime⟩] := by
  have h1 : t.evr = s.evr := k.2.1 .evr he
  have h2 : t.dtime = s.dtime := k.2.1 .dtime hd
  rw [Hw.raise_bus, h1, h2]
end

/-- A lane's own records are no register words. -/
theorem keeps_updLane (s : Hw) (n : Nat) (f : Lane → Lane) : keeps [] [.lanes] s (s.updLane n f) := by
  refine ⟨fun _ _ => rfl, fun p hp => ?_, rfl⟩
  cases p with
  | lanes => simp at hp
  | _ => rfl

theorem keeps_cmis (s : Hw) (x : Cmis) : keeps [] [.cmis] s { s with cmis := x } := by
  refine ⟨fun _ _ => rfl, fun p hp => ?_, rfl⟩
  cases p with
  | cmis => simp at hp
  | _ => rfl

/-! ### Stored sets (R156 to R160) -/

theorem storedSetAutoSave_due {h : Hw} {n : Nat} (hr : h.ready n = true) (hs : h.stage (laneGroup n) = 5)
    (hc : h.flag (LRX_STATUS_converged n) = true) (hn : (h.lane n).savedAt = none)
    (ht : max (h.lane n).convAt (h.lane n).p5At + 60000000000 ≤ h.dtime) (hf : h.fenced 19 = false) :
    storedSetAutoSave n h = saveLane h n 0 := by
  unfold storedSetAutoSave
  dsimp only
  rw [hn]
  dsimp only
  rw [if_pos]
  rw [hr, hs, hc, hf, decide_eq_true ht]
  rfl

theorem histRunComplete_running {h : Hw} {n k : Nat} {bins : List Nat} {pt d : Nat} (hr : (h.lane n).hist = some (pt, d)) :
    histRunComplete n k bins h = setOutcome (((h.each (List.range (if pt = 0 then 128 else 256)) fun i s =>
      s.setNum (LRX_HIST n i) (min (s.num (LRX_HIST n i) + bins.getD i 0) (2 ^ 32 - 1))).setFld (LRX_STATUS_hist_busy n)
      0).updLane n fun l => { l with hist := none, histLos := false, histOld := [] }) (fun r => r.wait == Wait.hist n) stOK 0
      (toBE 1 (if (h.lane n).histLos then 1 else 0) ++ zeros 3 ++ toBE 8 (if (h.lane n).histLos then min k (2 ^ d) else 2 ^ d)) := by
  unfold histRunComplete
  rw [hr]

/-! ### Signal and lock (R139 to R142) -/

/-- The state in which a loss of signal is marked, before its event. -/
def lossMarked (s : Hw) (n : Nat) : Hw :=
  ((((s.setFld (LRX_STATUS_los n) 1).setFld (LRX_STATUS_held n) 1).updLane n fun l =>
    { l with histLos := l.histLos || l.hist.isSome }).setFld (LRX_LATCH_los_seen n) 1).latchLos n

theorem lossOfSignal_low {h : Hw} {n mv : Nat} (hr : h.ready n = true) (hl : h.flag (LRX_STATUS_los n) = false)
    (hm : mv < h.fld (LRX_CFG_los_thr n)) : lossOfSignal n mv h = (lossMarked h n).raise 0x0401 [n, mv] := by
  unfold lossOfSignal
  rw [hr, hl, decide_eq_false (Nat.not_le.mpr hm)]
  rfl

/-- The receiver's words of a lane are of subsystem 0x04. -/
theorem lrx_unit {n : Nat} (hn : n < 8) {k : Nat} (hk : k < 0x1000) : (0x040000 + k + 0x1000 * n) / 65536 ∈ [0x04] := by
  rw [List.mem_singleton]
  omega

theorem lrxLatch_ne_status (n : Nat) : LRX_STATUS n ≠ LRX_LATCH n := by
  unfold LRX_STATUS LRX_LATCH
  omega

theorem keeps_lossMarked (s : Hw) {n : Nat} (hn : n < 8) : keeps [0x04] [.lanes, .cmis] s (lossMarked s n) := by
  have hs : LRX_STATUS n / 65536 ∈ [0x04] := lrx_unit hn (by decide : 3 < 0x1000)
  have hl : LRX_LATCH n / 65536 ∈ [0x04] := lrx_unit hn (by decide : 4 < 0x1000)
  unfold lossMarked
  exact (((((keeps_refl _ _ s).setFld 1 hs).setFld 1 hs).part (by decide) (keeps_updLane _ n _)).setFld 1 hl).part (by decide)
    (keeps_cmis _ _)

/-- A latch of a lane leaves its status. -/
theorem flag_status_latched (s : Hw) {n : Nat} {f g : Fld} (v : Nat) (hf : f.addr = LRX_LATCH n) (hg : g.addr = LRX_STATUS n)
    (hw : g.lo + g.w ≤ 32) : (s.setFld f v).flag g = s.flag g :=
  Hw.flag_setFld_other s v hw (.inl (by rw [hf, hg]; exact lrxLatch_ne_status n))

theorem flags_lossMarked (s : Hw) (n : Nat) : (lossMarked s n).flag (LRX_STATUS_los n) = true ∧
    (lossMarked s n).flag (LRX_STATUS_held n) = true ∧ (lossMarked s n).flag (LRX_LATCH_los_seen n) = true := by
  have cm : ∀ (t : Hw) (f : Fld), (t.latchLos n).flag f = t.flag f := fun _ _ => rfl
  unfold lossMarked
  refine ⟨?_, ?_, ?_⟩
  · rw [cm, flag_status_latched (n := n) _ 1 rfl rfl (Nat.le_of_ble_eq_true rfl), Hw.flag_updLane,
      Hw.flag_setFld_other _ _ (Nat.le_of_ble_eq_true rfl) (.inr (.inl (Nat.le_of_ble_eq_true rfl)))]
    exact Hw.flag_set s rfl (Nat.le_of_ble_eq_true rfl)
  · rw [cm, flag_status_latched (n := n) _ 1 rfl rfl (Nat.le_of_ble_eq_true rfl), Hw.flag_updLane]
    exact Hw.flag_set _ rfl (Nat.le_of_ble_eq_true rfl)
  · rw [cm]
    exact Hw.flag_set _ rfl (Nat.le_of_ble_eq_true rfl)

theorem signalRestored_high {h : Hw} {n mv : Nat} (hr : h.ready n = true) (hl : h.flag (LRX_STATUS_los n) = true)
    (hm : 5 * h.fld (LRX_CFG_los_thr n) < 4 * mv) : signalRestored n mv h =
      markGood ((h.setFld (LRX_STATUS_los n) 0).updLane n fun l => { l with sigAt := h.dtime }) n := by
  unfold signalRestored
  rw [hr, hl, decide_eq_false (Nat.not_le.mpr hm)]
  rfl

/-- To mark indications good moves no register word. -/
theorem markGood_regs (s : Hw) (n : Nat) : (markGood s n).regs = s.regs := Hw.cond_same Hw.regs _ s rfl

theorem lrxLockLost_locked {h : Hw} {n : Nat} (fr : Int) (hr : h.ready n = true) (hl : h.flag (LRX_STATUS_cdr_lock n) = true) :
    lrxLockLost n fr h = (dropLock h n).raise 0x0402 [n, enc 32 fr] := by
  unfold lrxLockLost
  rw [hr, hl]
  rfl

theorem flags_dropLock (s : Hw) (n : Nat) : (dropLock s n).flag (LRX_STATUS_cdr_lock n) = false ∧
    (dropLock s n).flag (LRX_STATUS_held n) = true ∧ (dropLock s n).flag (LRX_LATCH_lock_lost n) = true := by
  have cm : ∀ (t : Hw) (f : Fld), (t.latchLol n).flag f = t.flag f := fun _ _ => rfl
  unfold dropLock
  refine ⟨?_, ?_, ?_⟩
  · rw [cm, flag_status_latched (n := n) _ 1 rfl rfl (Nat.le_of_ble_eq_true rfl),
      Hw.flag_setFld_other _ _ (Nat.le_of_ble_eq_true rfl) (.inr (.inl (Nat.le_of_ble_eq_true rfl)))]
    exact Hw.flag_clear s rfl (Nat.le_of_ble_eq_true rfl)
  · rw [cm, flag_status_latched (n := n) _ 1 rfl rfl (Nat.le_of_ble_eq_true rfl)]
    exact Hw.flag_set _ rfl (Nat.le_of_ble_eq_true rfl)
  · rw [cm]
    exact Hw.flag_set _ rfl (Nat.le_of_ble_eq_true rfl)

theorem lockRegained_ready {h : Hw} {n : Nat} (hr : h.ready n = true) (hl : h.flag (LRX_STATUS_cdr_lock n) = false)
    (ho : laneRefOk h n = true) :
    lockRegainedLink n h = tryP4 (markGood (h.setFld (LRX_STATUS_cdr_lock n) 1) n) (laneGroup n) := by
  unfold lockRegainedLink lrxLockRegained
  rw [hr, hl, ho]
  rfl

theorem adaptationResume_good {h : Hw} {n : Nat} (hh : h.flag (LRX_STATUS_held n) = true) (hl : h.flag (LRX_STATUS_los n) = false)
    (hc : h.flag (LRX_STATUS_cdr_lock n) = true) (ht : (h.lane n).goodAt + 10000 ≤ h.dtime) :
    adaptationResume n h = h.setFld (LRX_STATUS_held n) 0 := by
  unfold adaptationResume
  rw [hh, hl, hc, decide_eq_true ht]
  rfl

/-- Settles O22: what the stored sets, a histogram's end, and signal and lock do. -/
theorem laneStoresAndSignal : Obligations.LaneStoresAndSignal := by
  unfold Obligations.LaneStoresAndSignal
  refine ⟨?_, ?_, ?_, ?_, fun n => ?_, fun n k bins pt d => ?_, fun n mv => ?_, fun n mv => ?_, fun n fr => ?_, fun n => ?_, fun n => ?_⟩
  · exact runsOk_intro (fun _ _ _ => rfl) fun b c _ => ⟨_, _, rfl, rfl, rfl⟩
  · exact runsOk_intro (fun _ _ _ => rfl) fun b c ha => ⟨_, _, if_pos ha, rfl, rfl⟩
  · exact runsOk_intro (fun _ _ _ => rfl) fun b c _ => ⟨_, _, rfl, rfl, rfl⟩
  · exact runsOk_intro (fun _ _ _ => rfl) fun b c _ => ⟨_, _, rfl, rfl, rfl⟩
  · exact happens_intro (fun _ _ => rfl) fun h ⟨hr, hs, hc, hn, ht, hf⟩ => storedSetAutoSave_due hr hs hc hn ht hf
  · exact happens_intro (fun _ _ => rfl) fun h hr => histRunComplete_running hr
  · refine happens_intro (f := lossOfSignal n mv) (fun _ _ => rfl) fun h ⟨hr, hl, hm⟩ => ?_
    obtain ⟨h1, h2, h3⟩ := flags_lossMarked h n
    rw [lossOfSignal_low hr hl hm, Hw.flag_raise, Hw.flag_raise, Hw.flag_raise]
    have hk := keeps_lossMarked h n.isLt
    exact ⟨(keeps_mono (List.Subset.refl _) (by decide) hk).raise _ _ (by decide), h1, h2, h3,
      hk.raise_bus (by decide) (by decide) _ _⟩
  · refine happens_intro (f := signalRestored n mv) (fun _ _ => rfl) fun h ⟨hr, hl, hm⟩ => ?_
    rw [signalRestored_high hr hl hm, Hw.flag_of_regs (markGood_regs _ _), Hw.flag_updLane]
    exact ⟨rfl, Hw.flag_clear h rfl (Nat.le_of_ble_eq_true rfl)⟩
  · refine happens_intro (f := lrxLockLost n fr) (fun _ _ => rfl) fun h ⟨hr, hl⟩ => ?_
    rw [lrxLockLost_locked fr hr hl, Hw.flag_raise, Hw.flag_raise, Hw.flag_raise]
    exact ⟨rfl, flags_dropLock h n⟩
  · exact happens_intro (fun _ _ => rfl) fun h ⟨hr, hl, ho⟩ => lockRegained_ready hr hl ho
  · exact happens_intro (fun _ _ => rfl) fun h ⟨hh, hl, hc, ht⟩ => adaptationResume_good hh hl hc ht

end Sys2Proof.Machine

namespace Sys2Proof.Machine
open Reg

/-! ### Saturation (R138) -/

theorem saturationInterval_rises {h : Hw} {n k x : Nat} (hr : h.ready n = true) (hk : k < x * 1000)
    (hs : h.flag (LRX_STATUS_sat n) = false) : saturationInterval n k x h =
      ((h.setFlag (LRX_STATUS_sat n) true).setFld (LRX_LATCH_sat n) 1).raise 0x0408 [n, x * 1000 / k] := by
  have hh : decide (x * 1000 > k) = true := decide_eq_true hk
  unfold saturationInterval
  rw [hr, hh, hs]
  rfl

theorem saturationInterval_well {h : Hw} {n k x : Nat} (hr : h.ready n = true) (hk : x * 1000 ≤ k) :
    saturationInterval n k x h = h.setFlag (LRX_STATUS_sat n) false := by
  have hh : decide (x * 1000 > k) = false := decide_eq_false (Nat.not_lt.mpr hk)
  unfold saturationInterval
  rw [hr, hh]
  rfl

/-! ### What adaptation moves (R143 to R150) -/

/-- Nothing moved but a lane's equaliser values, its records and the count of free values. -/
def Adapted (n : Nat) (s t : Hw) : Prop :=
  keeps [0x04] [.lanes, .freeN] s t ∧ ∀ a, a < 0x040100 + 0x1000 * n ∨ 0x040131 + 0x1000 * n < a → t.reg a = s.reg a

theorem Adapted.refl (n : Nat) (s : Hw) : Adapted n s s := ⟨keeps_refl _ _ s, fun _ _ => rfl⟩

theorem Adapted.trans {n : Nat} {s t u : Hw} (h : Adapted n s t) (k : Adapted n t u) : Adapted n s u :=
  ⟨keeps_trans h.1 k.1, fun a ha => (k.2 a ha).trans (h.2 a ha)⟩

theorem adapted_setFld (s : Hw) {n : Nat} (hn : n < 8) {f : Fld} (v : Nat)
    (h : 0x040100 + 0x1000 * n ≤ f.addr ∧ f.addr ≤ 0x040131 + 0x1000 * n) : Adapted n s (s.setFld f v) := by
  refine ⟨keeps_setFld _ _ s f v ?_, fun a ha => Hw.reg_setFld_other s f v ?_⟩
  · rw [List.mem_singleton]
    omega
  · omega

theorem adapted_cond {n : Nat} {s : Hw} (b : Bool) {f : Hw → Hw} (h : Adapted n s (f s)) : Adapted n s (s.cond b f) := by
  cases b
  · exact Adapted.refl n s
  · exact h

theorem adapted_updLane (n : Nat) (s : Hw) (f : Lane → Lane) : Adapted n s (s.updLane n f) :=
  ⟨(keeps_refl _ _ s).part (by decide) (keeps_updLane s n f), fun _ _ => rfl⟩

theorem adapted_putCoeffs (s : Hw) {n : Nat} (hn : n < 8) (x : Receiver) (c : Coeffs) : Adapted n s (putCoeffs s n x c) := by
  have hr : 0x040100 + 0x1000 * n ≤ LRX_RSSE n ∧ LRX_RSSE n ≤ 0x040131 + 0x1000 * n := by
    unfold LRX_RSSE
    omega
  unfold putCoeffs setRsse
  dsimp only
  refine Adapted.trans ?_ (adapted_updLane n _ _)
  refine Adapted.trans (Adapted.trans ?_ (adapted_setFld _ hn _ hr)) (adapted_setFld _ hn _ hr)
  refine Hw.each_keeps (Adapted n s) _ _ (fun i hi t ht => ht.trans (adapted_setFld t hn _ ?_)) s (Adapted.refl n s)
  have := List.mem_range.mp hi
  change 0x040100 + 0x1000 * n ≤ LRX_FFE n i ∧ LRX_FFE n i ≤ 0x040131 + 0x1000 * n
  unfold LRX_FFE
  omega

theorem adapted_setFront (s : Hw) {n : Nat} (hn : n < 8) (x y : Nat) : Adapted n s (setFront s n x y) := by
  have hr : 0x040100 + 0x1000 * n ≤ LRX_AFE n ∧ LRX_AFE n ≤ 0x040131 + 0x1000 * n := by
    unfold LRX_AFE
    omega
  exact (adapted_setFld s hn (f := LRX_AFE_ctle n) _ hr).trans (adapted_setFld _ hn (f := LRX_AFE_vga n) _ hr)

theorem adapted_adaptFront (s : Hw) {n : Nat} (hn : n < 8) (x y r : Nat) : Adapted n s (adaptFront n x y r s) := by
  unfold adaptFront
  exact adapted_setFront s hn _ _

theorem adapted_free (n : Nat) (s : Hw) : Adapted n s s.free.2 := by
  refine ⟨⟨fun _ _ => rfl, fun p hp => ?_, rfl⟩, fun _ _ => rfl⟩
  cases p with
  | freeN => simp at hp
  | _ => rfl

theorem adapted_adapt (s : Hw) {n : Nat} (hn : n < 8) : Adapted n s (adapt s n) := by
  unfold adapt
  dsimp only
  split
  · exact Adapted.refl n s
  · refine (adapted_free n s).trans ?_
    refine Adapted.trans ?_ (adapted_cond _ (adapted_adaptFront _ hn _ _ _))
    refine adapted_cond _ ?_
    exact adapted_putCoeffs _ hn _ _

/-- What both states of a choice have, the choice has. -/
theorem Hw.ite_keeps {P : Hw → Prop} {c : Prop} [Decidable c] {s t : Hw} (hs : P s) (ht : P t) : P (if c then s else t) := by
  split
  · exact hs
  · exact ht

/-! ### The signal-to-noise ratio (R151, R152) -/

theorem roundLog_bounds (k a b : Nat) (lo : Int) (n : Nat) : lo ≤ roundLog k a b lo n ∧ roundLog k a b lo n ≤ lo + n := by
  induction n with
  | zero => exact ⟨Int.le_refl lo, by simp [roundLog]⟩
  | succ n ih =>
    have hs : roundLog k a b lo (n + 1) = if logAtLeast k a b (lo + 1 + n) then lo + 1 + n else roundLog k a b lo n := by
      simp only [roundLog, List.range_succ, List.foldl_append, List.foldl_cons, List.foldl_nil]
    rw [hs]
    split <;> omega

/-- The ratio in 0.1 dB. -/
def snrOf (a d : Nat) : Nat := if d = 0 then 1023 else (roundLog 100 a d 0 1023).toNat

theorem snrOf_int (a d : Nat) : (snrOf a d : Int) = if d = 0 then 1023 else ((roundLog 100 a d 0 1023).toNat : Int) := by
  unfold snrOf
  split <;> rfl

theorem snrOf_le (a d : Nat) : snrOf a d ≤ 1023 := by
  unfold snrOf
  split
  · exact Nat.le_refl _
  · obtain ⟨_, h⟩ := roundLog_bounds 100 a d 0 1023
    omega

/-- The three values that an update writes. -/
def noteSnr (s : Hw) (n snr : Nat) (m f : Int) : Hw :=
  ((s.setFld (LRX_MEAS_snr n) snr).setFldS (LRX_MEAS_margin n) m).setFldS (LRX_FREQ_offset n) (clampI (-32768) 32767 f)

/-- What an update does after that: the count, an alarm of the frequency, the runs, and the alarm of a low margin. -/
def afterSnr (n snr : Nat) (margin freq : Int) (s : Hw) : Hw :=
  let s := { s with cle := { s.cle with lrxN := Map.put 0 s.cle.lrxN n (Map.get 0 s.cle.lrxN n + 1) } }
  let alarm := s.fldS (LRX_ALARM_margin_alarm n)
  let far := decide (freq.natAbs > 3000)
  let s := s.cond (far && !(s.lane n).freqFar) fun s => s.raise 0x0409 [n, enc 32 freq]
  let s := s.updLane n fun l =>
    { l with freqFar := far, best := max l.best margin,
             sync := l.sync || (laneMode s n == 2 && acquiring s n && s.flag (LRX_STATUS_cdr_lock n) && decide (80 ≤ snr)),
             goodRun := if s.fld (LRX_CFG_conv_margin n) ≤ margin then l.goodRun + 1 else 0,
             highRun := if alarm + 5 ≤ margin then l.highRun + 1 else 0 }
  if !s.flag (LRX_STATUS_margin_low n) && decide (margin < alarm) then
    ((s.setFld (LRX_STATUS_margin_low n) 1).setFld (LRX_LATCH_margin_low n) 1).raise 0x0407 [n, enc 32 margin]
  else if s.flag (LRX_STATUS_margin_low n) && decide ((s.lane n).highRun ≥ 10) then s.setFld (LRX_STATUS_margin_low n) 0
  else s

theorem snrUpdate_ready {h : Hw} {n a d : Nat} (f : Int) (hr : h.ready n = true) : snrUpdate n a d f h =
    let s := adapt h n
    let m := clampI (-1024) 1023 ((snrOf a d : Int) - refSnr s (laneMode s n))
    afterSnr n (snrOf a d) m f (noteSnr s n (snrOf a d) m f) := by
  unfold snrUpdate afterSnr noteSnr snrOf
  rw [hr, if_neg (by decide)]

/-- Nothing of a lane's measurements moved. -/
def MeasKept (n : Nat) (s t : Hw) : Prop :=
  keeps [0x04] [.evr, .lanes, .cle, .freeN] s t ∧ t.reg (LRX_MEAS n) = s.reg (LRX_MEAS n) ∧ t.reg (LRX_FREQ n) = s.reg (LRX_FREQ n)

theorem MeasKept.setFld {n : Nat} {s t : Hw} (h : MeasKept n s t) {f : Fld} (v : Nat) (hu : f.addr / 65536 ∈ [0x04])
    (hm : LRX_MEAS n ≠ f.addr) (hf : LRX_FREQ n ≠ f.addr) : MeasKept n s (t.setFld f v) := by
  obtain ⟨hk, h1, h2⟩ := h
  exact ⟨hk.setFld v hu, (Hw.reg_setFld_other t f v hm).trans h1, (Hw.reg_setFld_other t f v hf).trans h2⟩

theorem MeasKept.raise {n : Nat} {s t : Hw} (h : MeasKept n s t) (c : Nat) (l : List Nat) : MeasKept n s (t.raise c l) :=
  ⟨h.1.raise c l (by decide), h.2⟩

theorem keeps_cle (s : Hw) (x : Cle) : keeps [] [.cle] s { s with cle := x } := by
  refine ⟨fun _ _ => rfl, fun p hp => ?_, rfl⟩
  cases p with
  | cle => simp at hp
  | _ => rfl

theorem measKept_afterSnr {n : Nat} (hn : n < 8) (snr : Nat) (m f : Int) (s : Hw) : MeasKept n s (afterSnr n snr m f s) := by
  have hs : LRX_STATUS n / 65536 ∈ [0x04] := lrx_unit hn (by decide : 3 < 0x1000)
  have hl : LRX_LATCH n / 65536 ∈ [0x04] := lrx_unit hn (by decide : 4 < 0x1000)
  have h1 : LRX_MEAS n ≠ LRX_STATUS n := by
    unfold LRX_MEAS LRX_STATUS
    omega
  have h2 : LRX_FREQ n ≠ LRX_STATUS n := by
    unfold LRX_FREQ LRX_STATUS
    omega
  have h3 : LRX_MEAS n ≠ LRX_LATCH n := by
    unfold LRX_MEAS LRX_LATCH
    omega
  have h4 : LRX_FREQ n ≠ LRX_LATCH n := by
    unfold LRX_FREQ LRX_LATCH
    omega
  have cnt : MeasKept n s { s with cle := { s.cle with lrxN := Map.put 0 s.cle.lrxN n (Map.get 0 s.cle.lrxN n + 1) } } :=
    ⟨(keeps_refl _ _ s).part (by decide) (keeps_cle s _), rfl, rfl⟩
  have lane : ∀ {t : Hw} (k : Lane → Lane), MeasKept n s t → MeasKept n s (t.updLane n k) := fun k ht =>
    ⟨ht.1.part (by decide) (keeps_updLane _ n k), ht.2⟩
  have far : ∀ {t : Hw} (b : Bool) (l : List Nat), MeasKept n s t → MeasKept n s (t.cond b fun s => s.raise 0x0409 l) := by
    intro t b l ht
    cases b
    · exact ht
    · exact ht.raise _ _
  unfold afterSnr
  dsimp only
  refine Hw.ite_keeps ?_ (Hw.ite_keeps ?_ ?_)
  · exact (((lane _ (far _ _ cnt)).setFld 1 hs h1 h2).setFld 1 hl h3 h4).raise _ _
  · exact (lane _ (far _ _ cnt)).setFld 0 hs h1 h2
  · exact lane _ (far _ _ cnt)

theorem reg_noteSnr_other (s : Hw) (n snr : Nat) (m f : Int) {a : Nat} (h1 : a ≠ LRX_MEAS n) (h2 : a ≠ LRX_FREQ n) :
    (noteSnr s n snr m f).reg a = s.reg a := by
  unfold noteSnr Hw.setFldS
  rw [Hw.reg_setFld_other _ _ _ h2, Hw.reg_setFld_other _ _ _ h1, Hw.reg_setFld_other _ _ _ h1]

theorem measFits (n : Nat) : (LRX_MEAS_snr n).lo + (LRX_MEAS_snr n).w ≤ 32 ∧ (LRX_MEAS_margin n).lo + (LRX_MEAS_margin n).w ≤ 32 ∧
    (LRX_FREQ_offset n).lo + (LRX_FREQ_offset n).w ≤ 32 ∧
    (LRX_MEAS_margin n).lo + (LRX_MEAS_margin n).w ≤ (LRX_MEAS_snr n).lo := by
  unfold LRX_MEAS_snr LRX_MEAS_margin LRX_FREQ_offset
  dsimp only
  decide

theorem clampI_mem {lo hi : Int} (h : lo ≤ hi) (x : Int) : lo ≤ clampI lo hi x ∧ clampI lo hi x ≤ hi := by
  unfold clampI
  split
  · exact ⟨Int.le_refl lo, h⟩
  · split <;> omega

theorem values_noteSnr (s : Hw) (n : Nat) {snr : Nat} {m : Int} (f : Int) (hs : snr ≤ 1023) (h1 : -1024 ≤ m) (h2 : m ≤ 1023) :
    (noteSnr s n snr m f).fld (LRX_MEAS_snr n) = snr ∧ (noteSnr s n snr m f).fldS (LRX_MEAS_margin n) = m ∧
      (noteSnr s n snr m f).fldS (LRX_FREQ_offset n) = clampI (-32768) 32767 f := by
  obtain ⟨f1, f2, f3, f4⟩ := measFits n
  obtain ⟨c1, c2⟩ := clampI_mem (show (-32768 : Int) ≤ 32767 by decide) f
  have ha : LRX_MEAS n ≠ LRX_FREQ n := by
    unfold LRX_MEAS LRX_FREQ
    omega
  unfold noteSnr
  refine ⟨?_, ?_, Hw.fldS_setFldS _ (w := 15) rfl f3 c1 (Int.lt_add_one_of_le c2)⟩
  · rw [Hw.setFldS, Hw.setFldS, Hw.fld_setFld_other (f := LRX_FREQ_offset n) _ _ f1 (.inl ha), Hw.fld_setFld_other _ _ f1 (.inr (.inr f4)),
      Hw.fld_setFld_same _ _ f1]
    exact Nat.mod_eq_of_lt (Nat.lt_succ_of_le hs)
  · rw [Hw.fldS_setFldS_other (f := LRX_FREQ_offset n) _ _ f2 (.inl ha)]
    exact Hw.fldS_setFldS_same _ rfl f2 h1 h2

theorem snrUpdate_values {h : Hw} {n a d : Nat} {f : Int} (hn : n < 8) (hr : h.ready n = true) :
    keeps [0x04] [.evr, .lanes, .cle, .freeN] h (snrUpdate n a d f h) ∧
      (snrUpdate n a d f h).fld (LRX_MEAS_snr n) = snrOf a d ∧
      (snrUpdate n a d f h).fldS (LRX_MEAS_margin n) = clampI (-1024) 1023 ((snrOf a d : Int) - refSnr h (laneMode h n)) ∧
      (snrUpdate n a d f h).fldS (LRX_FREQ_offset n) = clampI (-32768) 32767 f := by
  obtain ⟨ka, ra⟩ := adapted_adapt h hn
  have href : ∀ g : Fld, g.addr = LRX_REF_SNR → (adapt h n).fld g = h.fld g := fun g hg => by
    rw [Hw.fld, hg, ra, Hw.fld, hg]
    unfold LRX_REF_SNR
    omega
  have hmode : laneMode (adapt h n) n = laneMode h n := by
    have hu : (LNK_STATUS_mode (laneGroup n)).addr / 65536 ∉ [0x04] := by
      change (0x060002 + 0x1000 * (n / 4)) / 65536 ∉ [0x04]
      rw [List.mem_singleton]
      omega
    rw [laneMode, Hw.fld, ka.1 _ hu, laneMode, Hw.fld]
  have hsnr : refSnr (adapt h n) (laneMode (adapt h n) n) = refSnr h (laneMode h n) := by
    rw [hmode, refSnr, refSnr, href _ rfl, href _ rfl, href _ rfl]
  rw [snrUpdate_ready f hr]
  dsimp only
  rw [hsnr]
  generalize hm : clampI (-1024) 1023 ((snrOf a d : Int) - refSnr h (laneMode h n)) = m
  obtain ⟨m1, m2⟩ := clampI_bounds ((snrOf a d : Int) - refSnr h (laneMode h n))
  rw [hm] at m1 m2
  obtain ⟨v1, v2, v3⟩ := values_noteSnr (adapt h n) n f (snrOf_le a d) m1 m2
  obtain ⟨kt, t1, t2⟩ := measKept_afterSnr hn (snrOf a d) m f (noteSnr (adapt h n) n (snrOf a d) m f)
  have um : LRX_MEAS n / 65536 ∈ [0x04] := lrx_unit hn (by decide : 0x10 < 0x1000)
  have uf : LRX_FREQ n / 65536 ∈ [0x04] := lrx_unit hn (by decide : 0x12 < 0x1000)
  have kn : keeps [0x04] [.evr, .lanes, .cle, .freeN] h (noteSnr (adapt h n) n (snrOf a d) m f) :=
    (((keeps_mono (List.Subset.refl _) (by decide) ka).setFld (f := LRX_MEAS_snr n) _ um).setFld (f := LRX_MEAS_margin n) _ um).setFld
      (f := LRX_FREQ_offset n) _ uf
  refine ⟨keeps_trans kn kt, ?_, ?_, ?_⟩
  · exact (congrArg (getField · _ _) t1).trans v1
  · exact (congrArg (fun x => sx _ (getField x _ _)) t1).trans v2
  · exact (congrArg (fun x => sx _ (getField x _ _)) t2).trans v3

/-! ### Counts, seeds, convergence and PLLs -/

theorem prefecUpdate_ready {h : Hw} {n b0 c0 wb wc un0 fx : Nat} (hr : h.ready n = true) :
    prefecUpdate n b0 c0 wb wc un0 fx h =
      let x : Int := if wb = 0 ∨ wc * 10 ^ 15 < wb then -1500 else roundLog 100 wc wb (-1500) 1500
      ((((((h.setFldS (LRX_PREFEC_log n) x).setFld (LRX_PREFEC_updates n) (((h.setFldS (LRX_PREFEC_log n) x).fld
        (LRX_PREFEC_updates n) + 1) % 65536)).count64 (LRX_BITS n) b0).count64 (LRX_CORR n) c0).count (LRX_UNCORR n) un0).pmc
        (0x070 + n) un0).pmc (0x078 + n) fx := by
  unfold prefecUpdate
  rw [hr, if_neg (by decide)]

theorem fld_updates_log (h : Hw) (n : Nat) (x : Int) :
    (h.setFldS (LRX_PREFEC_log n) x).fld (LRX_PREFEC_updates n) = h.fld (LRX_PREFEC_updates n) := by
  have hw : (LRX_PREFEC_updates n).lo + (LRX_PREFEC_updates n).w ≤ 32 := by
    unfold LRX_PREFEC_updates
    dsimp only
    decide
  have hl : (LRX_PREFEC_log n).lo + (LRX_PREFEC_log n).w ≤ (LRX_PREFEC_updates n).lo := by
    unfold LRX_PREFEC_log LRX_PREFEC_updates
    dsimp only
    decide
  exact Hw.fld_setFld_other h _ hw (.inr (.inr hl))

theorem seedAttemptTimeout_due {h : Hw} {n : Nat} (hr : h.ready n = true) (ha : acquiring h n = true) (hs : (h.lane n).sync = false)
    (ht : (h.lane n).seedAt + 20000000 ≤ h.dtime) : seedAttemptTimeout n h = seedFrom 20 ((h.lane n).seedStep + 1) n h := by
  unfold seedAttemptTimeout
  dsimp only
  rw [if_pos]
  rw [hr, ha, hs, decide_eq_true ht]
  rfl

theorem laneConverged_good {h : Hw} {n : Nat} (hr : h.ready n = true) (ha : acquiring h n = true) (hg : 3 ≤ (h.lane n).goodRun) :
    laneConverged n h = ((h.setFld (LRX_STATUS_converged n) 1).updLane n fun l => { l with convAt := h.dtime }).raise 0x0403
      [n, (h.setFld (LRX_STATUS_converged n) 1).fld (LRX_STATUS_seed n), (h.dtime - (h.lane n).p2At) / 1000000] := by
  unfold laneConverged
  dsimp only
  rw [if_pos]
  · rw [Hw.fld_of_regs (Hw.updLane_regs _ _ _), Hw.updLane_dtime, Hw.setFld_dtime]
  · rw [hr, ha, decide_eq_true hg]
    rfl

theorem txPllLock_ready {h : Hw} {n : Nat} (hr : h.ready n = true) (hl : h.flag (LTX_STATUS_pll_lock n) = false)
    (ho : laneRefOk h n = true) :
    txPllLock n h = settleSquelch ((h.setFld (LTX_STATUS_pll_lock n) 1).setFld (PWR_DOM_analog n) 1) n := by
  unfold txPllLock
  rw [hr, hl, ho]
  rfl

theorem txPllLockLost_locked {h : Hw} {n : Nat} (hl : h.flag (LTX_STATUS_pll_lock n) = true) :
    txPllLockLost n h = (settleSquelch (h.setFld (LTX_STATUS_pll_lock n) 0) n).raise 0x0301 [n] := by
  unfold txPllLockLost
  rw [hl]
  rfl

theorem pllFits (n : Nat) : (LTX_STATUS_pll_lock n).lo + (LTX_STATUS_pll_lock n).w ≤ 32 ∧
    (LTX_STATUS_squelch n).lo + (LTX_STATUS_squelch n).w ≤ (LTX_STATUS_pll_lock n).lo := by
  unfold LTX_STATUS_pll_lock LTX_STATUS_squelch
  dsimp only
  decide

/-- The squelch leaves the PLL's lock. -/
theorem pllLock_settleSquelch (s : Hw) (n : Nat) : (settleSquelch s n).flag (LTX_STATUS_pll_lock n) = s.flag (LTX_STATUS_pll_lock n) := by
  obtain ⟨hw, hl⟩ := pllFits n
  exact Hw.flag_setFlag_other s _ hw (.inr (.inr hl))

/-- Settles O23: what measurements, convergence and the locks of PLLs do. -/
theorem laneMeasurementsAndConvergence : Obligations.LaneMeasurementsAndConvergence := by
  unfold Obligations.LaneMeasurementsAndConvergence
  refine ⟨fun n k x => ?_, fun n k x => ?_, fun n a d f => ?_, fun n b0 c0 wb wc un0 fx => ?_, fun n => ?_, fun n => ?_, fun n => ?_,
    fun n => ?_⟩
  · exact happens_intro (fun _ _ => rfl) fun h ⟨hr, hk, hs⟩ => saturationInterval_rises hr hk hs
  · exact happens_intro (fun _ _ => rfl) fun h ⟨hr, hk⟩ => saturationInterval_well hr hk
  · refine happens_intro (f := snrUpdate n a d f) (fun _ _ => rfl) fun h hr => ?_
    have hv := snrUpdate_values (a := a) (d := d) (f := f) n.isLt hr
    rw [snrOf_int] at hv
    exact hv
  · refine happens_intro (f := prefecUpdate n b0 c0 wb wc un0 fx) (fun _ _ => rfl) fun h hr => ?_
    rw [prefecUpdate_ready hr]
    dsimp only
    rw [fld_updates_log]
  · exact happens_intro (fun _ _ => rfl) fun h ⟨hr, ha, hs, ht⟩ => seedAttemptTimeout_due hr ha hs ht
  · refine happens_intro (f := laneConvergedLink n) (fun _ _ => rfl) fun h ⟨hr, ha, hg⟩ => ?_
    rw [laneConvergedLink, laneConverged_good hr ha hg]
  · refine happens_intro (f := txPllLock n) (fun _ _ => rfl) fun h ⟨hr, hl, ho⟩ => ?_
    obtain ⟨hw, _⟩ := pllFits n
    have hd : LTX_STATUS n ≠ PWR_DOM n := by
      unfold LTX_STATUS PWR_DOM
      omega
    rw [txPllLock_ready hr hl ho]
    refine ⟨rfl, ?_⟩
    rw [pllLock_settleSquelch, Hw.flag_setFld_other (f := PWR_DOM_analog n) _ _ hw (.inl hd)]
    exact Hw.flag_set h rfl (Nat.le_of_ble_eq_true rfl)
  · refine happens_intro (f := txPllLockLost n) (fun _ _ => rfl) fun h hl => ?_
    have hu : LTX_STATUS n / 65536 ∈ [0x03] := by
      have := n.isLt
      unfold LTX_STATUS
      rw [List.mem_singleton]
      omega
    have hc : (h.setFld (LTX_STATUS_pll_lock n) 0).flag (LTX_STATUS_pll_lock n) = false :=
      Hw.flag_clear h rfl (Nat.le_of_ble_eq_true rfl)
    have hk : keeps [0x03] [] h (settleSquelch (h.setFld (LTX_STATUS_pll_lock n) 0) n) :=
      ((keeps_refl _ _ h).setFld (f := LTX_STATUS_pll_lock n) 0 hu).setFld (f := LTX_STATUS_squelch n) _ hu
    rw [txPllLockLost_locked hl, Hw.flag_raise, Hw.flag_raise]
    refine ⟨(keeps_mono (List.Subset.refl _) (List.nil_subset _) hk).raise _ _ (by decide), ?_, ?_,
      hk.raise_bus List.not_mem_nil List.not_mem_nil _ _⟩
    · rw [pllLock_settleSquelch, hc]
    · rw [settleSquelch, hc]
      exact Hw.flag_setFlag_same _ true rfl (Nat.le_of_ble_eq_true rfl)

end Sys2Proof.Machine

namespace Sys2Proof.Machine
open Reg

/-! ### Lane frames (R172 to R182) -/

theorem laneFrameBoundary_framing {h : Hw} {g f : Nat} (hf : framing h g = true) : laneFrameBoundary g f h =
    startFrame (finishFrame (lateRemap h g) g) g ((((finishFrame (lateRemap h g) g).grp g).txFc + 1) % 2 ^ 48) f := by
  unfold laneFrameBoundary
  rw [hf, if_neg (by decide)]

/-! ### Alignment markers (R175 to R182) -/

/-- A marker with sync word and check code. -/
def goodMarker (bs : Bytes) : Prop :=
  bs.length = 32 ∧ un bs 0 8 = 0x9C3AB4E163C54B1E ∧ crcMsb 16 0x1021 0xFFFF ((bs.take 30).drop 8) = u16 bs 30

theorem goodMarker_iff (bs : Bytes) : ¬ goodMarker bs ↔ (bs.length ≠ 32 || un bs 0 8 != 0x9C3AB4E163C54B1E ||
    crcMsb 16 0x1021 0xFFFF ((bs.take 30).drop 8) != u16 bs 30) = true := by
  unfold goodMarker
  rw [Bool.or_eq_true, Bool.or_eq_true, decide_eq_true_eq, bne_iff_ne, bne_iff_ne]
  rw [Classical.not_and_iff_not_or_not, Classical.not_and_iff_not_or_not, or_assoc]

/-- The state once a good marker of a lane has been noted. -/
def markerNoted (h : Hw) (n : Nat) (bs : Bytes) (ins : Bool) (sk : Nat) : Hw :=
  let a := updAm h (laneGroup n) (n % 4) fun a => { a with
    good := if ins then a.good + 1 else 1, bad := 0, frame := un bs 12 6, skew := sk, aligned := decide (sk ≤ 500) }
  gainLock ((a.updGrp (laneGroup n) fun x => { x with rxFrameAt := h.dtime }).setNum64 (LFM_FRAMES (laneGroup n)) (un bs 12 6))
    (laneGroup n) (n % 4)

/-- A gained lock sets its bit of the status word and tells an event. -/
theorem gainLock_same {α : Type} (φ : Hw → α) (s : Hw) (g p : Nat)
    (h : φ ((setLfmBit s (LFM_STATUS_am_lock g) p true).raise 0x0502 [g, p]) = φ s) : φ (gainLock s g p) = φ s :=
  Hw.ite_same φ h rfl

/-- The frame of a marker, and a lock that it gains, are written to the format's words. -/
theorem fld_markerNoted (h : Hw) (n : Nat) (bs : Bytes) (ins : Bool) (sk : Nat) {f : Fld} (hw : f.lo + f.w ≤ 32)
    (hf : f.addr ≠ LFM_FRAMES (laneGroup n) ∧ f.addr ≠ LFM_FRAMES (laneGroup n) + 1)
    (hl : f.addr ≠ LFM_STATUS (laneGroup n) ∨ 8 ≤ f.lo) : (markerNoted h n bs ins sk).fld f = h.fld f := by
  unfold markerNoted
  dsimp only
  rw [gainLock_same (fun t => t.fld f)]
  · rw [Hw.fld, reg_setNum64_other _ _ hf.1 hf.2, Hw.fld]
    rfl
  · rw [Hw.fld_raise, setLfmBit]
    exact Hw.fld_setFld_other _ _ hw (hl.imp_right fun h8 => .inr h8)

/-- A good marker moves neither the stage of its group nor its receive mask nor what the peer said of its seed. -/
theorem stage_markerNoted (h : Hw) (n : Nat) (bs : Bytes) (ins : Bool) (sk : Nat) :
    (markerNoted h n bs ins sk).stage (laneGroup n) = h.stage (laneGroup n) := by
  have e1 : (LNK_STATUS_stage (laneGroup n)).addr = 0x060002 + 0x1000 * (n / 4) := rfl
  have e2 : LFM_FRAMES (laneGroup n) = 0x050010 + 0x1000 * (n / 4) := rfl
  have e3 : LFM_STATUS (laneGroup n) = 0x050002 + 0x1000 * (n / 4) := rfl
  exact fld_markerNoted h n bs ins sk (Nat.le_of_ble_eq_true rfl) ⟨by omega, by omega⟩ (.inl (by omega))

theorem rxMask_markerNoted (h : Hw) (n : Nat) (bs : Bytes) (ins : Bool) (sk : Nat) :
    (markerNoted h n bs ins sk).rxMask (laneGroup n) = h.rxMask (laneGroup n) := by
  have e1 : (LFM_STATUS_rx_mask (laneGroup n)).addr = 0x050002 + 0x1000 * (n / 4) := rfl
  have e2 : LFM_FRAMES (laneGroup n) = 0x050010 + 0x1000 * (n / 4) := rfl
  exact fld_markerNoted h n bs ins sk (Nat.le_of_ble_eq_true rfl) ⟨by omega, by omega⟩ (.inr (Nat.le_refl 8))

theorem peerF_markerNoted (h : Hw) (n : Nat) (bs : Bytes) (ins : Bool) (sk : Nat) :
    ((markerNoted h n bs ins sk).grp (laneGroup n)).peerF = (h.grp (laneGroup n)).peerF := by
  have hu : ∀ (s : Hw) (k : Nat), ((s.setNum64 (LFM_FRAMES (laneGroup n)) k).grp (laneGroup n)) = s.grp (laneGroup n) := fun _ _ => rfl
  unfold markerNoted
  dsimp only
  rw [gainLock_same (fun t => (t.grp (laneGroup n)).peerF)]
  · rw [hu, Hw.grp_updGrp_same, updAm, Hw.grp_updGrp_same]
  · rw [setLfmBit, Hw.grp, Hw.raise_grps, Hw.setFld_grps, ← Hw.grp]

theorem seedWrong_markerNoted (h : Hw) (n : Nat) (bs : Bytes) (ins : Bool) (sk fc : Nat) (b : Bool) :
    seedWrong (markerNoted h n bs ins sk) (laneGroup n) fc b = seedWrong h (laneGroup n) fc b := by
  rw [seedWrong, seedWrong, peerF_markerNoted]

/-- What a good marker does once it is noted and its seed bit is right. -/
def markerTaken (n : Nat) (bs : Bytes) (s : Hw) : Hw :=
  let g := laneGroup n
  let d := judgeSkew s g
  let j := d.cond ((d.grp g).peerF.any fun f => frameAfter (un bs 12 6) f) fun s => s.updGrp g fun x => { x with rxPast := true }
  tryReady (tryP4 (adoptMask (remapPoint g 1 (setFar j g (u8 bs 11 % 8))) g (u8 bs 9 % 16) (u8 bs 10)) g) g

/-- Once it is noted the tag and the seed bit of a good marker are judged. -/
def judgeMarker (n : Nat) (bs : Bytes) (s : Hw) : Hw :=
  let g := laneGroup n
  if (s.stage g = 3 ∨ s.stage g = 4) ∧ u32 bs 20 ≠ s.num (LNK_PEER g) then failGroup s g 7
  else if hasBit (s.rxMask g) (n % 4) && seedWrong s g (un bs 12 6) (hasBit (u8 bs 11) 3) then failGroup s g 9
  else markerTaken n bs s

theorem native_of_framing {h : Hw} {g : Nat} (hf : framing h g = true) : h.mode g ≠ 2 := by
  unfold framing Hw.native at hf
  intro hm
  rw [hm] at hf
  simp at hf

section
variable {h : Hw} {n : Nat} {bs : Bytes} {ins : Bool} {sk : Nat} (hr : h.ready n = true) (hd : h.ready (12 + laneGroup n) = true)
include hr hd

theorem amReceived_c2 (hm : h.mode (laneGroup n) = 2) : amReceived n bs ins sk h =
    c2Aligned (gainLock (updAm h (laneGroup n) (n % 4) fun a => { a with good := if ins then a.good + 1 else 1, bad := 0, aligned := true })
      (laneGroup n) (n % 4)) n := by
  unfold amReceived
  dsimp only
  rw [hr, hd, if_neg (by decide), if_pos hm]

theorem amReceived_bad (hf : framing h (laneGroup n) = true) (hb : ¬ goodMarker bs) :
    amReceived n bs ins sk h = missMarker h (laneGroup n) (n % 4) := by
  unfold amReceived
  dsimp only
  rw [hr, hd, if_neg (by decide), if_neg (native_of_framing hf), hf, if_neg (by decide), if_pos ((goodMarker_iff bs).mp hb)]

theorem amReceived_marked (hf : framing h (laneGroup n) = true) (hb : goodMarker bs) :
    amReceived n bs ins sk h = judgeMarker n bs (markerNoted h n bs ins sk) := by
  unfold amReceived judgeMarker markerTaken markerNoted
  dsimp only
  rw [hr, hd, if_neg (by decide), if_neg (native_of_framing hf), hf, if_neg (by decide),
    if_neg (fun hx => (goodMarker_iff bs).mpr hx hb)]
  rfl

theorem amReceived_good (hf : framing h (laneGroup n) = true) (hs : h.stage (laneGroup n) = 5) (hb : goodMarker bs)
    (hw : hasBit (h.rxMask (laneGroup n)) (n % 4) = true → seedWrong h (laneGroup n) (un bs 12 6) (hasBit (u8 bs 11) 3) = false) :
    amReceived n bs ins sk h = markerTaken n bs (markerNoted h n bs ins sk) := by
  have no : ¬ (hasBit (h.rxMask (laneGroup n)) (n % 4) && seedWrong h (laneGroup n) (un bs 12 6) (hasBit (u8 bs 11) 3)) = true := by
    rw [Bool.and_eq_true]
    rintro ⟨hm, hx⟩
    exact Bool.false_ne_true ((hw hm).symm.trans hx)
  rw [amReceived_marked hr hd hf hb, judgeMarker, stage_markerNoted, hs, rxMask_markerNoted, seedWrong_markerNoted, if_neg (by simp), if_neg no]
end

theorem lfmConfig_body {b : Hw} {c : Call} (h : ¬ ((u8 c.p 1 ≠ b.fld (LFM_CFG_mode_pref (u8 c.p 0)) ∨
    u8 c.p 2 ≠ b.fld (LFM_CFG_c2_layout (u8 c.p 0))) ∧ 1 < b.stage (u8 c.p 0))) :
    opLfmConfig.body b c = .ok (applyLfmConfig c.p b) := by
  refine if_neg ?_
  rw [Bool.and_eq_true, Bool.or_eq_true, bne_iff_ne, bne_iff_ne, decide_eq_true_eq]
  exact h

/-- Settles O24: what the format's requests, a lane frame's end and a marker do. -/
theorem lineFormatRows : Obligations.LineFormatRows := by
  unfold Obligations.LineFormatRows
  refine ⟨?_, ?_, ?_, fun g f => ?_, fun n bs ins sk => ?_, fun n bs ins sk => ?_, fun n bs ins sk => ?_, fun n => ?_⟩
  · exact runsOk_intro (fun _ _ _ => rfl) fun b c h => ⟨_, _, lfmConfig_body h, rfl, rfl⟩
  · exact runsOk_intro (fun _ _ _ => rfl) fun b c _ => ⟨_, _, rfl, rfl, rfl⟩
  · exact runsOk_intro (fun _ _ _ => rfl) fun b c _ => ⟨_, _, rfl, rfl, rfl⟩
  · exact happens_intro (fun _ _ => rfl) fun h hf => laneFrameBoundary_framing hf
  · exact happens_intro (fun _ _ => rfl) fun h ⟨hr, hd, hf, hs, hl, hy, hc, hw⟩ => amReceived_good hr hd hf hs ⟨hl, hy, hc⟩ hw
  · exact happens_intro (fun _ _ => rfl) fun h ⟨hr, hd, hf, hb⟩ => amReceived_bad hr hd hf hb
  · exact happens_intro (fun _ _ => rfl) fun h ⟨hr, hd, hm⟩ => amReceived_c2 hr hd hm
  · refine happens_intro (f := amNotFound n) (fun _ _ => rfl) fun h ⟨hf, hm⟩ => ?_
    unfold amNotFound
    dsimp only
    rw [if_neg hm, hf, if_neg (by decide)]

end Sys2Proof.Machine

namespace Sys2Proof.Machine
open Reg

/-! ### Cells (R185 to R189) -/

section
variable {h : Hw} {g on hd : Nat} {pb : Bytes} {fr dp rm : Nat} {wr : List Nat} (hf : framing h g = true)
include hf

theorem cellReceived_failedLane (hl : on &&& ((stuffRemoved h g rm wr).pmc 0x0F0).fld (failedFld g) ≠ 0) :
    cellReceived g on hd pb fr dp rm wr h = (stuffRemoved h g rm wr).pmc 0x0F0 := by
  unfold cellReceived
  dsimp only
  rw [hf, if_neg (by decide), if_pos hl]

theorem cellReceived_badHeader (hl : on &&& ((stuffRemoved h g rm wr).pmc 0x0F0).fld (failedFld g) = 0)
    (hc : crcMsb 8 0x07 0xFF (toBE 7 (hd / 256 % 2 ^ 56)) ≠ hd % 256) :
    cellReceived g on hd pb fr dp rm wr h = headerFailure ((stuffRemoved h g rm wr).pmc 0x0F0) g := by
  unfold cellReceived
  dsimp only
  rw [hf, if_neg (by decide), if_neg (not_not_intro hl), if_pos hc]

/-- Where a cell's type sends it (Table 05-6). -/
def sortCell (t : Hw) (g k i q r : Nat) (b : Bytes) (fr dp : Nat) : Hw :=
  if k = 1 ∨ k = 2 then bestCell t g (i % 8) q r b else if k = 3 then timedCell t g i q r true b
  else if k = 4 then timedCell t g i q r false b else if k = 5 then oamCell t g b
  else if k = 6 then timeCell t g i q b fr dp else if k = 7 then cellDiscarded t g else t

theorem cellReceived_good (hl : on &&& ((stuffRemoved h g rm wr).pmc 0x0F0).fld (failedFld g) = 0)
    (hc : crcMsb 8 0x07 0xFF (toBE 7 (hd / 256 % 2 ^ 56)) = hd % 256) :
    cellReceived g on hd pb fr dp rm wr h = sortCell (((stuffRemoved h g rm wr).pmc 0x0F0).pmc (0x024 + 8 * g)) g
      (hd / 256 % 2 ^ 56 / 2 ^ 53) (hd / 256 % 2 ^ 56 / 2 ^ 32 % 2 ^ 20) (hd / 256 % 2 ^ 56 / 2 ^ 16 % 2 ^ 16)
      (hd / 256 % 2 ^ 56 % 2 ^ 16) (slice pb 0 512) fr dp := by
  unfold cellReceived
  dsimp only
  rw [hf, if_neg (by decide), if_neg (not_not_intro hl), if_neg (not_not_intro hc)]
  generalize hd / 256 % 2 ^ 56 / 2 ^ 53 = k
  unfold sortCell
  match k with
  | 0 | 1 | 2 | 3 | 4 | 5 | 6 | 7 => rfl
  | k + 8 =>
    have e : ∀ j : Nat, j < 8 → ¬ k + 8 = j := fun j hj => by omega
    rw [if_neg (by omega), if_neg (e 3 (by decide)), if_neg (e 4 (by decide)), if_neg (e 5 (by decide)), if_neg (e 6 (by decide)),
      if_neg (e 7 (by decide))]
    rfl

theorem statusReceived_far {pc fl fg : Nat} : statusReceived g pc fl fg h =
    let s := setFar (h.updGrp g fun x => { x with peerPace := some pc, peerFloor := some fl }) g fg
    if hasBit fg 1 = true then loseGroup s g 3 else s := by
  unfold statusReceived
  rw [hf, if_neg (by decide)]

end

/-! ### Loss reports and remap points (R168, R197) -/

/-- The groups whose flags do not show the loss of D14 yet. -/
def untold (h : Hw) : List Nat :=
  [0, 1].filter fun g => framing h g && lossFlags h g &&& 1 == 1 && (h.grp g).flags &&& 1 != 1

/-- When D14 was lost is no part of a group's records. -/
theorem lossTime_flags (h : Hw) (l : List Nat) (k : Grp → Grp) : lossTime (h.each l fun g s => s.updGrp g k) 0 = lossTime h 0 := by
  rw [lossTime, lossTime, if_pos rfl, if_pos rfl, Hw.each_same Hw.pwr l (f := fun g s => s.updGrp g k) fun _ _ => rfl]

theorem coreLostReport_d14 {h : Hw} (hu : untold h ≠ []) : coreLostReport 0 h =
    let s := h.each (untold h) fun g s => s.updGrp g fun x => { x with flags := x.flags ||| 1 }
    { s with pwr := { s.pwr with lossTold := (s.pwr.lossTold.filter fun e => e.1 != 0) ++ [(0, lossTime h 0)] } } := by
  have he : ¬ (untold h).isEmpty = true := by simpa using hu
  unfold coreLostReport
  dsimp only
  rw [if_pos rfl, ← untold, if_neg he, lossTime_flags]

theorem remapPoint_transmit {h : Hw} {g : Nat} {r : Remap} (hr : (h.grp g).txRemap = some r) (hf : framing h g = true)
    (hp : pointCome (h.grp g).txFc (nowQ h g) r = true) : remapPoint g 0 h = applyRemap h g r := by
  unfold remapPoint
  rw [if_pos rfl, hr]
  dsimp only
  rw [hf, hp, if_pos (by decide)]

theorem remapPoint_receive {h : Hw} {g : Nat} {r : Remap} (hr : (h.grp g).rxRemap = some r)
    (hp : pointCome (h.num64 (LFM_FRAMES g)) (rxQ h g) r = true) : remapPoint g 1 h =
      (setRxMask (h.updGrp g fun x => { x with rxRemap := none }) g r.mask r.gen).raise 0x050A
        [g, 1, together 0x050A [h.rxMask g, r.mask, r.gen]] := by
  unfold remapPoint
  rw [if_neg (by decide), hr]
  dsimp only
  rw [hp, if_neg (by decide)]

/-- Settles O25: where cells go, and what STATUS, time requests, loss reports and remap points do. -/
theorem cellAndMessageRows : Obligations.CellAndMessageRows := by
  unfold Obligations.CellAndMessageRows
  refine ⟨fun g on hd pb fr dp rm wr => ?_, fun g on hd pb fr dp rm wr => ?_, fun g on hd pb fr dp rm wr => ?_,
    fun g pc fl fg => ?_, fun g pc fl fg => ?_, fun g => ?_, ?_, fun n a q fr dp => ?_, fun g r => ?_, fun g r => ?_⟩
  · exact happens_intro (f := cellReceived g on hd pb fr dp rm wr) (fun _ _ => rfl) fun h ⟨hf, hl, hc⟩ => cellReceived_good hf hl hc
  · exact happens_intro (f := cellReceived g on hd pb fr dp rm wr) (fun _ _ => rfl) fun h ⟨hf, hl, hc⟩ =>
      cellReceived_badHeader hf hl hc
  · exact happens_intro (f := cellReceived g on hd pb fr dp rm wr) (fun _ _ => rfl) fun h ⟨hf, hl⟩ => cellReceived_failedLane hf hl
  · refine happens_intro (f := statusReceived g pc fl fg) (fun _ _ => rfl) fun h ⟨hf, hb⟩ => ?_
    exact (statusReceived_far hf).trans (if_neg (Bool.eq_false_iff.mp hb))
  · refine happens_intro (f := statusReceived g pc fl fg) (fun _ _ => rfl) fun h ⟨hf, hb⟩ => ?_
    exact (statusReceived_far hf).trans (if_pos hb)
  · exact happens_intro (f := statusPeriod g) (fun _ _ => rfl) fun h hs => if_pos hs
  · exact happens_intro (f := coreLostReport (0 : Fin 2)) (fun _ _ => rfl) fun h hu => coreLostReport_d14 hu
  · refine happens_intro (f := timeRequest n a q fr dp) (fun _ _ => rfl) fun h ⟨hf, hl⟩ => if_pos ?_
    rw [hf, hl]
    rfl
  · exact happens_intro (f := remapPoint g (0 : Fin 2)) (fun _ _ => rfl) fun h ⟨hr, hf, hp⟩ => remapPoint_transmit hr hf hp
  · exact happens_intro (f := remapPoint g (1 : Fin 2)) (fun _ _ => rfl) fun h ⟨hr, hp⟩ => remapPoint_receive hr hp

end Sys2Proof.Machine

namespace Sys2Proof.Machine
open Reg

/-! ### Requests of bring-up (R211, R241) -/

theorem lnkUp_body {b : Hw} {c : Call} (hf : b.fenced (12 + u8 c.p 0) = false) : opLnkUp.body b c =
    .ok (enterIfEnabled (wakeDomains (b.setFld (LNK_CFG_enable (u8 c.p 0)) 1) (u8 c.p 0) 1) (u8 c.p 0)) :=
  if_neg (Bool.eq_false_iff.mp hf)

theorem lnkLaneRejoin_body {b : Hw} {c : Call} (hs : b.stage (u8 c.p 0) = 5) (hm : b.txMask (u8 c.p 0) &&& u8 c.p 1 = 0) :
    opLnkLaneRejoin.body b c = .ok (b.each (bitsOf 4 (u8 c.p 1)) fun p s =>
      let t := s.updGrp (u8 c.p 0) fun x => { x with rtFails := Map.put [] x.rtFails p [] }
      if (Map.get none (t.grp (u8 c.p 0)).retrain p).isSome || hasBit (t.grp (u8 c.p 0)).crossed p then t
      else startRetrain t (u8 c.p 0) p) :=
  (if_neg (not_not_intro hs)).trans (if_neg (not_not_intro hm))

/-! ### Bursts and backoff (R215, R218) -/

theorem burstStart_due {h : Hw} {g : Nat} (hp : inP1 h g = true) (hs : (h.grp g).seenAt = none) (hb : (h.grp g).burstAt ≤ h.dtime) :
    burstStart g h = h.updGrp g fun x => { x with bursting := true, burstAt := h.dtime + 2000000000, noMode := false } := by
  unfold burstStart
  dsimp only
  rw [hp, hs, decide_eq_true hb, if_pos (by decide)]

theorem burstEnd_due {h : Hw} {g : Nat} (hb : (h.grp g).burstAt ≤ h.dtime + 1990000000) :
    burstEnd g h = h.updGrp g fun x => { x with bursting := false } := by
  unfold burstEnd
  rw [if_pos hb]

theorem backoffEnd_due {h : Hw} {g : Nat} (hb : h.flag (LNK_STATUS_backoff g) = true) (ht : (h.grp g).backoffEnd ≤ h.dtime) :
    backoffEnd g h = burstStart g ((h.setFld (LNK_STATUS_backoff g) 0).updGrp g fun x => { x with burstAt := h.dtime }) := by
  unfold backoffEnd
  rw [hb, decide_eq_true ht, if_pos (by decide)]

theorem failureCountReset_due {h : Hw} {g : Nat} (hs : h.stage g = 5) (ht : (h.grp g).p5At + 10000000000 ≤ h.dtime) :
    failureCountReset g h = h.setFld (LNK_STATUS_fails g) 0 := by
  unfold failureCountReset
  rw [if_pos ⟨hs, ht⟩]

/-! ### Sprout frames (R214, R216) -/

/-- The state once a valid frame of tag `t` has joined its lane's run. -/
def frameJoined (h : Hw) (n t : Nat) : Hw :=
  let o := Map.get (0, 0, 0) (h.grp (laneGroup n)).sprout (n % 4)
  h.updGrp (laneGroup n) fun x => { x with
    sprout := Map.put (0, 0, 0) x.sprout (n % 4) (t, (if o.1 = t then o.2.1 + 1 else 1), o.2.2 + 1) }

/-- What a valid frame does once it has joined: it ends a bring-up that has gone on, or it detects the peer. -/
def heardFrame (n bits tag run all : Nat) (s : Hw) : Hw :=
  let g := laneGroup n
  if s.stage g ≥ 2 then
    if all < 1 then s else if s.stage g = 5 then loseGroup s g 4 else failGroup s g 11
  else if (s.grp g).relock || (s.grp g).noMode then s
  else
    let pos := bits / 2 ^ 48 % 4
    let s := s.cond (pos != n % 4 && !hasBit (s.grp g).crossed (n % 4)) fun s =>
      let c := setBit (s.grp g).crossed (n % 4) true
      ((s.updGrp g fun x => { x with crossed := c }).setFld (LNK_STATUS_excluded g) c).raise 0x0606 [g, n % 4, pos]
    let s := s.cond (run ≥ 2 && (s.grp g).seenAt.isNone) fun s =>
      detectPeer s g tag (bits / 2 ^ 52 % 2) (bits / 2 ^ 50 % 4) (bits / 2 ^ 55 % 2)
    s.cond (hasBit bits 53 && (s.grp g).seenAt.isSome && (s.grp g).offer.1 == tag) fun s => s.updGrp g fun x => { x with peerSeen := true }

section
variable {h : Hw} {n bits : Nat} {cl : Bool} (hr : h.ready (12 + laneGroup n) = true) (hm : h.fld (LFM_CFG_mode_pref (laneGroup n)) ≠ 2)
include hr hm

theorem listens (hs : h.stage (laneGroup n) ≠ 0) :
    ¬ (h.stage (laneGroup n) = 0 ∨ (!h.ready (12 + laneGroup n)) = true ∨ h.fld (LFM_CFG_mode_pref (laneGroup n)) = 2) := by
  rw [hr]
  rintro (h0 | h0 | h0)
  · exact hs h0
  · exact Bool.false_ne_true h0
  · exact hm h0

theorem sproutFrame_bad (hs : h.stage (laneGroup n) ≠ 0) (hv : sproutValid cl bits = false) :
    sproutFrame n cl bits h = (h.count (LNK_SPROUT_ERR (laneGroup n))).updGrp (laneGroup n) fun x =>
      { x with sprout := Map.put (0, 0, 0) x.sprout (n % 4) (0, 0, 0) } := by
  unfold sproutFrame
  dsimp only
  rw [if_neg (listens hr hm hs), hv, if_pos (by decide)]

theorem sproutFrame_valid (hs : h.stage (laneGroup n) ≠ 0) (hv : sproutValid cl bits = true) :
    sproutFrame n cl bits h =
      let o := Map.get (0, 0, 0) (h.grp (laneGroup n)).sprout (n % 4)
      let t := bits / 2 ^ 56 % 2 ^ 32
      heardFrame n bits t (if o.1 = t then o.2.1 + 1 else 1) o.2.2 (frameJoined h n t) := by
  unfold sproutFrame frameJoined
  dsimp only
  rw [if_neg (listens hr hm hs), hv, if_neg (by decide)]
  rfl

end

theorem frameJoined_grp (h : Hw) (n t : Nat) : ((frameJoined h n t).grp (laneGroup n)).relock = (h.grp (laneGroup n)).relock ∧
    ((frameJoined h n t).grp (laneGroup n)).noMode = (h.grp (laneGroup n)).noMode := by
  unfold frameJoined
  dsimp only
  rw [Hw.grp_updGrp_same]
  exact ⟨rfl, rfl⟩

/-- The stage is a register word. -/
theorem frameJoined_stage (h : Hw) (n t : Nat) : (frameJoined h n t).stage (laneGroup n) = h.stage (laneGroup n) :=
  Hw.fld_of_regs (Hw.updGrp_regs _ _ _) _

/-- A second valid frame of a group that should hear none. -/
theorem heardFrame_late {s : Hw} {n bits t run all : Nat} (hs : 2 ≤ s.stage (laneGroup n)) (ha : 1 ≤ all) :
    heardFrame n bits t run all s =
      if s.stage (laneGroup n) = 5 then loseGroup s (laneGroup n) 4 else failGroup s (laneGroup n) 11 := by
  unfold heardFrame
  dsimp only
  rw [if_pos hs, if_neg (Nat.not_lt.mpr ha)]

/-- A valid frame on its own position, before the mode is agreed. -/
theorem heardFrame_p1 {s : Hw} {n bits t run all : Nat} (hs : s.stage (laneGroup n) = 1) (hp : bits / 2 ^ 48 % 4 = n % 4)
    (hl : (s.grp (laneGroup n)).relock = false) (ho : (s.grp (laneGroup n)).noMode = false) : heardFrame n bits t run all s =
      let g := laneGroup n
      let d := s.cond (decide (run ≥ 2) && (s.grp g).seenAt.isNone) fun s =>
        detectPeer s g t (bits / 2 ^ 52 % 2) (bits / 2 ^ 50 % 4) (bits / 2 ^ 55 % 2)
      d.cond (hasBit bits 53 && (d.grp g).seenAt.isSome && (d.grp g).offer.1 == t) fun s => s.updGrp g fun x =>
        { x with peerSeen := true } := by
  have hq : ((n % 4 : Nat) != n % 4) = false := bne_self_eq_false _
  unfold heardFrame
  dsimp only
  rw [hs, if_neg (by decide), hl, ho, if_neg (by decide), hp, hq, Bool.false_and, Hw.cond_false]

/-- Settles O26: what the requests of bring-up do, and what goes on in P1. -/
theorem linkRequestsAndSprout : Obligations.LinkRequestsAndSprout := by
  unfold Obligations.LinkRequestsAndSprout
  refine ⟨?_, ?_, ?_, ?_, ?_, ?_, ?_, fun g => ?_, fun g => ?_, fun n cl bits => ?_, fun n cl bits => ?_, fun n cl bits => ?_,
    fun g => ?_, fun g => ?_⟩
  · exact runsOk_intro (fun _ _ _ => rfl) fun b c _ => ⟨_, _, rfl, rfl, rfl⟩
  · exact runsOk_intro (fun _ _ _ => rfl) fun b c _ => ⟨_, _, rfl, rfl, rfl⟩
  · exact runsOk_intro (fun _ _ _ => rfl) fun b c hf => ⟨_, _, lnkUp_body hf, rfl, rfl⟩
  · exact runsOk_intro (fun _ _ _ => rfl) fun b c _ => ⟨_, _, rfl, rfl, rfl⟩
  · exact runsOk_intro (fun _ _ _ => rfl) fun b c hs => ⟨_, _, if_neg hs, rfl, rfl⟩
  · exact runsOk_intro (fun _ _ _ => rfl) fun b c _ => ⟨_, _, rfl, rfl, rfl⟩
  · exact runsOk_intro (fun _ _ _ => rfl) fun b c ⟨hs, hm⟩ => ⟨_, _, lnkLaneRejoin_body hs hm, rfl, rfl⟩
  · exact happens_intro (fun _ _ => rfl) fun h ⟨hp, hs, hb⟩ => burstStart_due hp hs hb
  · exact happens_intro (fun _ _ => rfl) fun h hb => burstEnd_due hb
  · exact happens_intro (fun _ _ => rfl) fun h ⟨hs, hr, hm, hv⟩ => sproutFrame_bad hr hm hs hv
  · refine happens_intro (f := sproutFrame n cl bits) (fun _ _ => rfl) fun h ⟨hs, hr, hm, hv, hp, hl, ho⟩ => ?_
    obtain ⟨gl, gn⟩ := frameJoined_grp h n (bits / 2 ^ 56 % 2 ^ 32)
    rw [sproutFrame_valid hr hm (by omega) hv]
    exact heardFrame_p1 ((frameJoined_stage _ _ _).trans hs) hp (gl.trans hl) (gn.trans ho)
  · refine happens_intro (f := sproutFrame n cl bits) (fun _ _ => rfl) fun h ⟨hs, hr, hm, hv, ho⟩ => ?_
    rw [sproutFrame_valid hr hm (by omega) hv]
    refine (heardFrame_late ((frameJoined_stage _ _ _).symm ▸ hs) ho).trans ?_
    rw [frameJoined_stage, frameJoined]
  · exact happens_intro (fun _ _ => rfl) fun h ⟨hb, ht⟩ => backoffEnd_due hb ht
  · exact happens_intro (fun _ _ => rfl) fun h ⟨hs, ht⟩ => failureCountReset_due hs ht

end Sys2Proof.Machine

namespace Sys2Proof.Machine
open Reg

/-! ### Messages of bring-up (R209, R232 to R234) -/

/-- A message that is queued is no register word. -/
theorem sendOam_regs (s : Hw) (g kind : Nat) (body : Bytes) : (sendOam s g kind body).regs = s.regs := by
  unfold sendOam placeOam
  refine Hw.ite_same Hw.regs ?_ rfl
  rw [Hw.updGrp_regs, queueCell_grp, Hw.updGrp_regs]

theorem sendOam_stage (s : Hw) (g kind : Nat) (body : Bytes) (j : Nat) : (sendOam s g kind body).stage j = s.stage j :=
  Hw.fld_of_regs (sendOam_regs s g kind body) _

section
variable {h : Hw} {g : Nat}

theorem capsReceived_stranger {tg v m k fl pc ct ft : Nat} (hf : framing h g = true) (hs : h.stage g < 5)
    (ht : tg ≠ h.num (LNK_PEER g)) : capsReceived g tg v m k fl pc ct ft h = failGroup h g 7 := by
  unfold capsReceived
  rw [hf, if_neg (by decide), if_pos ⟨hs, ht⟩]

theorem capsReceived_peer {fl pc ct ft : Nat} (hf : framing h g = true) (hs : h.stage g < 5) :
    capsReceived g (h.num (LNK_PEER g)) 1 (h.mode g) (h.rxMask g) fl pc ct ft h =
      trySeed (((sendOam h g 0x0011 (toBE 1 0 ++ zeros 7)).updGrp g fun x =>
        { x with peerContrib := some ct, ackSent := true, peerPace := some pc, peerFloor := some fl }).setFld
        (LNK_PEER_INFO_features g) ft) g := by
  unfold capsReceived
  dsimp only
  rw [hf, if_neg (by decide), if_neg (fun x => x.2 rfl), if_neg (not_not_intro rfl), if_neg (not_not_intro rfl),
    if_neg (c := h.stage g < 5 ∧ h.rxMask g ≠ h.rxMask g) (fun x => x.2 rfl), sendOam_stage, if_neg (by omega), if_neg (not_not_intro rfl)]

theorem capsAckReceived_refused {r : Nat} (hs : h.stage g = 4) (hr : r ≠ 0) : capsAckReceived g r h = failGroup h g 6 := by
  unfold capsAckReceived
  rw [if_neg (not_not_intro hs), if_pos hr]

theorem capsAckReceived_accepted (hs : h.stage g = 4) :
    capsAckReceived g 0 h = trySeed (h.updGrp g fun x => { x with ackRcvd := true }) g := by
  unfold capsAckReceived
  rw [if_neg (not_not_intro hs), if_neg (not_not_intro rfl)]

theorem seedStartReceived_p4 {f : Nat} (hs : h.stage g = 4) :
    seedStartReceived g f h = h.updGrp g fun x => { x with peerF := some (f % 2 ^ 48) } := by
  unfold seedStartReceived
  rw [if_pos hs]

theorem p4Repeat_p4 (hs : h.stage g = 4) : p4Repeat g h =
    let a := h.cond (!(h.grp g).ackRcvd) fun s => sendOam s g 0x0010 (capsBody s g)
    let b := a.cond ((h.grp g).ownF.isSome && !(h.grp g).txPast) fun s => sendOam s g 0x0012 (toBE 6 ((h.grp g).ownF.getD 0) ++ zeros 2)
    b.cond ((h.grp g).readySent && !(h.grp g).readyRcvd) fun s => sendOam s g 0x0013 (readyBody s g) := by
  unfold p4Repeat
  dsimp only
  rw [if_neg (not_not_intro hs)]
  cases (h.grp g).ownF with
  | none =>
    dsimp only
    rw [Option.isSome_none, Bool.false_and, Hw.cond_false]
  | some f =>
    dsimp only
    rw [Option.isSome_some, Bool.true_and, Option.getD_some]

/-! ### Wakes from the line (R235 to R238) -/

theorem sproutWake_armed {n tg : Nat} (ha : armedFor h (laneGroup n) = true) (ht : h.num LNK_WAKE_CFG = 0 ∨ h.num LNK_WAKE_CFG = tg) :
    sproutWake n tg h = lineWake h (laneGroup n) 0 tg := by
  refine if_pos ?_
  rw [ha, Bool.true_and, Bool.or_eq_true, beq_iff_eq, beq_iff_eq]
  exact ht

theorem lightWake_armed {n mv : Nat} (ha : armedFor h (laneGroup n) = true) (hl : h.flag (LNK_CFG_wake_light (laneGroup n)) = true)
    (hm : h.fld (LRX_CFG_los_thr n) < mv) : lightWake n mv h = lineWake h (laneGroup n) 1 0 := by
  refine if_pos ?_
  rw [ha, hl, Bool.true_and, Bool.true_and, decide_eq_true_eq]
  exact hm

theorem lineWake_acts {c t : Nat} (hl : h.pwr.lowPower = false) (hs : goingToSleep h g = false) :
    lineWake h g c t = wakeDomains ((h.setFld (wokeFld g) 1).raise 0x0607 [g, c, t]) g 2 := by
  unfold lineWake actWake
  dsimp only
  rw [if_neg (Bool.eq_false_iff.mp hl), if_neg (Bool.eq_false_iff.mp hs)]

theorem lineWake_lowPower {c t : Nat} (hl : h.pwr.lowPower = true) : lineWake h g c t =
    ({ h.setFld (pendingFld g) 1 with pwr := { h.pwr with lineWakes := Map.put (0, 0) h.pwr.lineWakes g (c, t) } } : Hw).raise
      0x0608 [g, c] := by
  unfold lineWake
  dsimp only
  rw [if_pos hl]

end

/-- Settles O28: what each message and each wake from the line does. -/
theorem bringUpMessagesAndWakes : Obligations.BringUpMessagesAndWakes := by
  unfold Obligations.BringUpMessagesAndWakes
  refine ⟨fun g tg v m k fl pc ct ft => ?_, fun g tg v m k fl pc ct ft => ?_, fun g r => ?_, fun g => ?_, fun g f => ?_, fun g => ?_,
    fun g => ?_, fun g => ?_, fun n tg => ?_, fun n mv => ?_, fun h g c t => ⟨fun hl hs => lineWake_acts hl hs, fun hl => lineWake_lowPower hl⟩⟩
  · exact happens_intro (fun _ _ => rfl) fun h ⟨hf, hs, ht⟩ => capsReceived_stranger hf hs ht
  · refine happens_intro (f := capsReceived g tg v m k fl pc ct ft) (fun _ _ => rfl) fun h ⟨hf, hs, ht, hv, hm, hk⟩ => ?_
    subst ht hv hm hk
    exact capsReceived_peer hf hs
  · exact happens_intro (fun _ _ => rfl) fun h ⟨hs, hr⟩ => capsAckReceived_refused hs hr
  · exact happens_intro (fun _ _ => rfl) fun h hs => capsAckReceived_accepted hs
  · exact happens_intro (fun _ _ => rfl) fun h hs => seedStartReceived_p4 hs
  · exact happens_intro (f := readyReceived g) (fun _ _ => rfl) fun h hs => if_pos hs
  · exact happens_intro (fun _ _ => rfl) fun h hs => p4Repeat_p4 hs
  · exact happens_intro (f := abortReceived g) (fun _ _ => rfl) fun h hs => if_pos hs
  · exact happens_intro (fun _ _ => rfl) fun h ⟨ha, ht⟩ => sproutWake_armed ha ht
  · exact happens_intro (fun _ _ => rfl) fun h ⟨ha, hl, hm⟩ => lightWake_armed ha hl hm

end Sys2Proof.Machine

namespace Sys2Proof.Machine
open Reg

/-! ### Retraining in service (R239 to R242) -/

section
variable {h : Hw} {g q : Nat} (hs : h.stage g = 5) (hn : h.native g = true) (hq : q < 4)
include hs hn hq

theorem trains : ¬ (h.stage g ≠ 5 ∨ (!h.native g) = true ∨ q > 3) := by
  rw [hn]
  rintro (h0 | h0 | h0)
  · exact h0 hs
  · exact Bool.false_ne_true h0
  · omega

theorem laneTrain_request {f : Nat} (hr : h.ready (4 * g + q) = true) (hf : h.fenced (4 * g + q) = false)
    (hc : hasBit (h.grp g).crossed q = false) (ho : (Map.get none (h.grp g).retrain q).all (fun r => r.phase == 1) = true) :
    laneTrain g q 1 f h = beginTraining (sendOam h g 0x0015 (toBE 1 q ++ toBE 1 2 ++ zeros 6)) g q h.dtime := by
  have no : ((Map.get none (h.grp g).retrain q).any fun r => r.phase != 1) = false := by
    cases hm : Map.get none (h.grp g).retrain q with
    | none => rfl
    | some r =>
      rw [hm, Option.all_some] at ho
      rw [Option.any_some, bne, ho]
      rfl
  unfold laneTrain
  dsimp only
  rw [if_neg (trains hs hn hq), hr, hf, hc, no, if_neg (by decide)]
  rfl

theorem laneTrain_accepted {f : Nat} {r : Retrain} (hm : Map.get none (h.grp g).retrain q = some r) (hp : r.phase = 1) :
    laneTrain g q 2 f h = beginTraining h g q r.t0 := by
  unfold laneTrain
  dsimp only
  rw [if_neg (trains hs hn hq), hm]
  dsimp only
  rw [if_pos hp]
  rfl

theorem laneTrain_ended {f : Nat} (hm : (Map.get none (h.grp g).retrain q).isSome = true) :
    laneTrain g q 3 f h = (setRetrain h g q none).raise 0x060A [g, q, 3] := by
  unfold laneTrain
  dsimp only
  rw [if_neg (trains hs hn hq), if_pos hm]
  rfl

theorem laneTrain_converged {f : Nat} {r : Retrain} (hm : Map.get none (h.grp g).retrain q = some r) :
    laneTrain g q 4 f h = retrainOn (setRetrain h g q (some { r with peer4 := true })) g q := by
  unfold laneTrain
  dsimp only
  rw [if_neg (trains hs hn hq), hm]
  rfl

theorem laneTrain_frames {f : Nat} {r : Retrain} (hm : Map.get none (h.grp g).retrain q = some r) :
    laneTrain g q 5 f h = setRetrain h g q (some { r with phase := 4, frame := some (f % 2 ^ 48) }) := by
  unfold laneTrain
  dsimp only
  rw [if_neg (trains hs hn hq), hm]
  rfl

end

/-- The failed attempts of a lane in the last 60 s, with one that fails now. -/
def failsWith (h : Hw) (n : Nat) : List Nat :=
  (Map.get [] (h.grp (laneGroup n)).rtFails (n % 4)).filter (fun t => decide (h.dtime < t + 60000000000)) ++ [h.dtime]

theorem retrainTimeout_due {h : Hw} {n : Nat} {r : Retrain} (hm : Map.get none (h.grp (laneGroup n)).retrain (n % 4) = some r)
    (ht : r.t0 + 310000000 ≤ h.dtime) : retrainTimeout n h =
      ((setRetrain h (laneGroup n) (n % 4) none).updGrp (laneGroup n) fun x =>
        { x with rtFails := Map.put [] x.rtFails (n % 4) (failsWith h n) }).raise 0x060A [laneGroup n, n % 4, 2] := by
  unfold retrainTimeout
  dsimp only
  rw [hm]
  dsimp only
  rw [if_neg (Nat.not_lt.mpr ht), failsWith]

/-- Whether a lane that left the mask has lost lock, or the peer shows it unhealthy. -/
def laneTroubled (h : Hw) (n : Nat) : Bool :=
  (!h.flag (LRX_STATUS_cdr_lock n) || !hasBit (h.fld (LFM_STATUS_am_lock (laneGroup n))) (n % 4)) ||
    match (h.grp (laneGroup n)).health.head? with
    | some (x, _) => !hasBit x (n % 4)
    | none => false

theorem laneTroubled_of {h : Hw} {n : Nat} (ht : h.flag (LRX_STATUS_cdr_lock n) = false ∨
    hasBit (h.fld (LFM_STATUS_am_lock (laneGroup n))) (n % 4) = false ∨
    (h.grp (laneGroup n)).health.head?.any (fun x => !hasBit x.1 (n % 4)) = true) : laneTroubled h n = true := by
  unfold laneTroubled
  rcases ht with h1 | h1 | h1
  · rw [h1, Bool.not_false, Bool.true_or, Bool.true_or]
  · rw [h1, Bool.not_false, Bool.or_true, Bool.true_or]
  · cases hh : (h.grp (laneGroup n)).health.head? with
    | none =>
      rw [hh] at h1
      cases h1
    | some x =>
      rw [hh, Option.any_some] at h1
      dsimp only
      rw [h1, Bool.or_true]

theorem autoRejoin_eq (h : Hw) (n : Nat) : autoRejoin n h =
    if h.stage (laneGroup n) = 5 && h.native (laneGroup n) && !hasBit (h.txMask (laneGroup n)) (n % 4) &&
      h.flag (LNK_CFG_auto_rejoin (laneGroup n)) && decide (Map.get 0 (h.grp (laneGroup n)).leftAt (n % 4) + 1000000000 ≤ h.dtime) &&
      laneTroubled h n && !hasBit (h.grp (laneGroup n)).crossed (n % 4) && (Map.get none (h.grp (laneGroup n)).retrain (n % 4)).isNone &&
      decide ((Map.get [] (h.grp (laneGroup n)).rtFails (n % 4)).length < 3) && h.ready n
    then startRetrain h (laneGroup n) (n % 4) else h := rfl

theorem autoRejoin_due {h : Hw} {n : Nat} (hs : h.stage (laneGroup n) = 5) (hn : h.native (laneGroup n) = true)
    (hm : hasBit (h.txMask (laneGroup n)) (n % 4) = false) (ha : h.flag (LNK_CFG_auto_rejoin (laneGroup n)) = true)
    (hl : Map.get 0 (h.grp (laneGroup n)).leftAt (n % 4) + 1000000000 ≤ h.dtime) (ht : laneTroubled h n = true)
    (hc : hasBit (h.grp (laneGroup n)).crossed (n % 4) = false) (hr : Map.get none (h.grp (laneGroup n)).retrain (n % 4) = none)
    (hf : (Map.get [] (h.grp (laneGroup n)).rtFails (n % 4)).length < 3) (hd : h.ready n = true) :
    autoRejoin n h = startRetrain h (laneGroup n) (n % 4) := by
  rw [autoRejoin_eq, if_pos]
  rw [decide_eq_true hs, hn, hm, ha, decide_eq_true hl, ht, hc, hr, decide_eq_true hf, hd]
  rfl

/-! ### The alignment of C2 (R243) -/

section
variable {h : Hw} {n : Nat}

theorem c2P1Check_layouts (hs : h.stage (laneGroup n) ≠ 0) (hp : h.fld (LFM_CFG_mode_pref (laneGroup n)) = 2)
    (hm : 2 ≤ h.mode (laneGroup n)) (hl : c2Layout h (laneGroup n) = 1)
    (ho : h.fld (LFM_CFG_mode_pref (other (laneGroup n))) ≠ 2 ∨ c2Layout h (other (laneGroup n)) ≠ 1) :
    c2P1Check n h = h.raise 0x0508 [c2Layout h 0, c2Layout h 1] := by
  unfold c2P1Check
  dsimp only
  rw [if_neg (by rw [hp]; omega), if_neg (by omega), if_pos ho]

theorem c2P1Check_lane (hs : h.stage (laneGroup n) ≠ 0) (hp : h.fld (LFM_CFG_mode_pref (laneGroup n)) = 2)
    (hm : 2 ≤ h.mode (laneGroup n)) (hl : c2Layout h (laneGroup n) = 0) (hv : h.num (LNK_LSTAGE (laneGroup n)) / 16 ^ (n % 4) % 8 < 3)
    (hb : Map.get 0 (h.grp (laneGroup n)).lback (n % 4) ≤ h.dtime) (hr : c2LaneReady h n = true) :
    c2P1Check n h = seedLane (enterC2 (h.setNum (LNK_LSTAGE (laneGroup n)) (h.num (LNK_LSTAGE (laneGroup n)) -
      h.num (LNK_LSTAGE (laneGroup n)) / 16 ^ (n % 4) % 8 * 16 ^ (n % 4) + 3 * 16 ^ (n % 4))) (laneGroup n) 3) n := by
  unfold c2P1Check
  dsimp only
  rw [if_neg (by rw [hp]; omega), if_pos hl, if_neg]
  rw [decide_eq_false (Nat.not_le.mpr hv), decide_eq_false (Nat.not_lt.mpr hb), hr]
  decide

theorem c2P1Check_both (h0 : h.stage 0 = 1) (h1 : h.stage 1 = 1) (p0 : h.fld (LFM_CFG_mode_pref 0) = 2)
    (p1 : h.fld (LFM_CFG_mode_pref 1) = 2) (hm : 2 ≤ h.mode (laneGroup n)) (l0 : c2Layout h 0 = 1) (l1 : c2Layout h 1 = 1)
    (hb : Map.get 0 (h.grp 0).lback 0 ≤ h.dtime) (ha : (List.range 8).all (fun n => c2LaneReady h n) = true)
    (hg : laneGroup n = 0 ∨ laneGroup n = 1) :
    c2P1Check n h = h.each (List.range 8) fun n s => seedLane (enterC2 s (laneGroup n) 3) n := by
  have all : ∀ g, g = 0 ∨ g = 1 → h.stage g = 1 ∧ h.fld (LFM_CFG_mode_pref g) = 2 ∧ c2Layout h g = 1 := by
    rintro g (rfl | rfl)
    · exact ⟨h0, p0, l0⟩
    · exact ⟨h1, p1, l1⟩
  have ho : other (laneGroup n) = 0 ∨ other (laneGroup n) = 1 := by
    unfold other
    omega
  obtain ⟨gs, gp, gl⟩ := all _ hg
  obtain ⟨_, op, ol⟩ := all _ ho
  unfold c2P1Check
  dsimp only
  rw [if_neg (by rw [gp, gs]; omega), if_neg (by omega), if_neg (by rw [op, ol]; omega), if_neg (by rw [h0, h1]; omega), if_pos ha]

end

/-- Settles O29: how retraining goes on, and when C2 begins its alignment. -/
theorem retrainingAndC2Alignment : Obligations.RetrainingAndC2Alignment := by
  unfold Obligations.RetrainingAndC2Alignment
  refine ⟨fun g q fr => ?_, fun g q fr r => ?_, fun g q fr => ?_, fun g q fr r => ?_, fun g q fr r => ?_, fun n => ?_, fun n r => ?_,
    fun n => ?_, fun n => ?_, fun n => ?_⟩
  · exact happens_intro (fun _ _ => rfl) fun h ⟨hs, hn, hr, hf, hc, ho⟩ => laneTrain_request hs hn q.isLt hr hf hc ho
  · exact happens_intro (fun _ _ => rfl) fun h ⟨hs, hn, hm, hp⟩ => laneTrain_accepted hs hn q.isLt hm hp
  · exact happens_intro (fun _ _ => rfl) fun h ⟨hs, hn, hm⟩ => laneTrain_ended hs hn q.isLt hm
  · exact happens_intro (fun _ _ => rfl) fun h ⟨hs, hn, hm⟩ => laneTrain_converged hs hn q.isLt hm
  · exact happens_intro (fun _ _ => rfl) fun h ⟨hs, hn, hm⟩ => laneTrain_frames hs hn q.isLt hm
  · exact happens_intro (fun _ _ => rfl) fun h ⟨hs, hn, hm, ha, hl, ht, hc, hr, hf, hd⟩ =>
      autoRejoin_due hs hn hm ha hl (laneTroubled_of ht) hc hr hf hd
  · exact happens_intro (fun _ _ => rfl) fun h ⟨hm, ht⟩ => retrainTimeout_due hm ht
  · exact happens_intro (fun _ _ => rfl) fun h ⟨hs, hp, hm, hl, ho⟩ => c2P1Check_layouts hs hp hm hl ho
  · exact happens_intro (fun _ _ => rfl) fun h ⟨hs, hp, hm, hl, hv, hb, hr⟩ => c2P1Check_lane hs hp hm hl hv hb hr
  · refine happens_intro (f := c2P1Check n) (fun _ _ => rfl) fun h ⟨h0, h1, p0, p1, hm, l0, l1, hb, ha⟩ => ?_
    have hn := n.isLt
    have hg : laneGroup n = 0 ∨ laneGroup n = 1 := by
      unfold laneGroup
      omega
    exact c2P1Check_both h0 h1 p0 p1 hm l0 l1 hb ha hg

end Sys2Proof.Machine

namespace Sys2Proof.Machine
open Reg

/-- An update under a condition is looked at in its own state only. -/
theorem Hw.cond_congr {s : Hw} (b : Bool) {f k : Hw → Hw} (h : f s = k s) : s.cond b f = s.cond b k := by
  cases b
  · rfl
  · exact h

/-! ### Ports (R260) -/

/-- What setting a port does to a state that has its entry (R260): its event, its alignment or what it held. -/
def portSet (b : Hw) (p : Bytes) : Hw :=
  let s := applyPort p b
  let t := s.cond (b.num (HPC_PORT (u8 p 0)) != s.num (HPC_PORT (u8 p 0))) fun x =>
    x.raise 0x0806 [u8 p 0, b.num (HPC_PORT (u8 p 0)), s.num (HPC_PORT (u8 p 0))]
  let v := t.cond ((entryOf p).enable && !(b.mapEntry (u8 p 0)).enable) fun s => updPort s (u8 p 0) fun x => { x with since := s.dtime }
  v.cond (!(entryOf p).enable && (b.mapEntry (u8 p 0)).enable) fun s => (dropHeld s (u8 p 0)).setFld (HPC_PORT_STATUS_aligned (u8 p 0)) 0

theorem portSet_body {b : Hw} {c : Call}
    (h1 : ((b.mapEntry (u8 c.p 0)).enable && { entryOf c.p with enable := true } != b.mapEntry (u8 c.p 0)) = false)
    (h2 : firstLaneOk (entryOf c.p) = true)
    (h3 : ((entryOf c.p).enable && (List.range 8).any fun j =>
      j != u8 c.p 0 && (b.mapEntry j).enable && sharesLane (entryOf c.p) (b.mapEntry j)) = false)
    (h4 : mapFits b (mapWith b (u8 c.p 0) (entryOf c.p)) 0 = true) (h5 : mapFits b (mapWith b (u8 c.p 0) (entryOf c.p)) 1 = true) :
    opHpcPortSet.body b c = .ok (portSet b c.p) := by
  have h6 : ([0, 1].all fun g => mapFits b (mapWith b (u8 c.p 0) (entryOf c.p)) g) = true := by
    simp only [List.all_cons, List.all_nil, h4, h5, Bool.and_self]
  unfold opHpcPortSet OpSpec.fix portSet
  dsimp only
  rw [if_neg (Bool.eq_false_iff.mp h1), h2, if_neg (by decide), if_neg (Bool.eq_false_iff.mp h3), h6, if_neg (by decide),
    Hw.cond_congr (s := applyPort c.p b) (k := fun x =>
      x.raise 0x0806 [u8 c.p 0, b.num (HPC_PORT (u8 c.p 0)), (applyPort c.p b).num (HPC_PORT (u8 c.p 0))]) _ rfl]

/-! ### Host lanes (R248 to R254) -/

section
variable {h : Hw} {l : Nat}

theorem hrxLossOfSignal_low {mv : Nat} (hr : h.ready (8 + l / 4) = true) (hl : h.flag (hrxLos l) = false) (hm : mv < 50) :
    hrxLossOfSignal l mv h = (h.setFld (hrxLos l) 1).raise 0x0701 [l, mv] := by
  refine if_neg ?_
  rw [hr, hl, decide_eq_false (Nat.not_le.mpr hm)]
  decide

theorem hrxSignalRestored_high {mv : Nat} (hr : h.ready (8 + l / 4) = true) (hl : h.flag (hrxLos l) = true) (hm : 75 < mv) :
    hrxSignalRestored l mv h = h.setFld (hrxLos l) 0 := by
  refine if_neg ?_
  rw [hr, hl, decide_eq_false (Nat.not_le.mpr hm)]
  decide

theorem hrxLockLost_locked (hl : h.flag (hrxLock l) = true) : hrxLockLost l h =
    ((h.setFld (hrxLock l) 0).raise 0x0702 [l]).each (portsOn ((h.setFld (hrxLock l) 0).raise 0x0702 [l]) l) loseAlignment := by
  unfold hrxLockLost
  rw [hl, if_neg (by decide)]

theorem hrxLockRegained_ready (hr : h.ready (8 + l / 4) = true) (hl : h.flag (hrxLock l) = false) (ho : h.refOk 0 = true) :
    hrxLockRegained l h = h.setFld (hrxLock l) 1 := by
  refine if_neg ?_
  rw [hr, hl, ho]
  decide

theorem hostPllLock_ready {q : Nat} (hr : h.ready (8 + q) = true) (ho : h.refOk 0 = true) (hl : h.flag (htxPll (4 * q)) = false) :
    hostPllLock q h = (h.each (groupLanes q) fun l s => s.setFld (htxPll l) 1).setFld (PWR_DOM_analog (8 + q)) 1 := by
  refine if_neg ?_
  rw [hr, ho, hl]
  decide

/-- The held quads that cannot leave yet. -/
def staying (h : Hw) : Nat := sumN (((List.range 4).filter fun q => quadHeld h q && !quadLeaves h q).map fun q => 2 ^ q)

theorem hostQuadRestore_all {t : Nat} (ht : h.host.hrefAt = some t) (ho : h.refOk 0 = true) (hs : staying h = 0) :
    hostQuadRestore h = ({ h with host := { h.host with hrefAt := none, held := 0, hit := 0 } } : Hw).raise 0x0803
      [(h.dtime - t) / 1000, h.host.hit] := by
  unfold hostQuadRestore
  rw [ht]
  dsimp only
  rw [← staying, hs, ho, if_pos ⟨rfl, rfl⟩]

theorem hostQuadRestore_some {t : Nat} (ht : h.host.hrefAt = some t) (hs : staying h ≠ 0) :
    hostQuadRestore h = { h with host := { h.host with held := staying h } } := by
  unfold hostQuadRestore
  rw [ht]
  dsimp only
  rw [← staying, if_neg (fun x => hs x.1)]

end

/-- Settles O30: what the requests of the host side and the rows of its lanes do. -/
theorem hostSettingsAndLanes : Obligations.HostSettingsAndLanes := by
  unfold Obligations.HostSettingsAndLanes
  refine ⟨?_, ?_, ?_, ?_, ?_, ?_, ?_, fun l mv => ?_, fun l mv => ?_, fun l => ?_, fun l => ?_, fun q => ?_, fun t => ?_, fun t => ?_⟩
  · exact runsOk_intro (fun _ _ _ => rfl) fun b c _ => ⟨_, _, rfl, rfl, rfl⟩
  · exact runsOk_intro (fun _ _ _ => rfl) fun b c _ => ⟨_, _, rfl, rfl, rfl⟩
  · exact runsOk_intro (fun _ _ _ => rfl) fun b c _ => ⟨_, _, rfl, rfl, rfl⟩
  · exact runsOk_intro (fun _ _ _ => rfl) fun b c _ => ⟨_, _, rfl, rfl, rfl⟩
  · exact runsOk_intro (fun _ _ _ => rfl) fun b c _ => ⟨_, _, rfl, rfl, rfl⟩
  · exact runsOk_intro (fun _ _ _ => rfl) fun b c _ => ⟨_, _, rfl, rfl, rfl⟩
  · exact runsOk_intro (fun _ _ _ => rfl) fun b c ⟨h1, h2, h3, h4, h5⟩ => ⟨_, _, portSet_body h1 h2 h3 h4 h5, rfl, rfl⟩
  · exact happens_intro (fun _ _ => rfl) fun h ⟨hr, hl, hm⟩ => hrxLossOfSignal_low hr hl hm
  · exact happens_intro (fun _ _ => rfl) fun h ⟨hr, hl, hm⟩ => hrxSignalRestored_high hr hl hm
  · exact happens_intro (fun _ _ => rfl) fun h hl => hrxLockLost_locked hl
  · exact happens_intro (fun _ _ => rfl) fun h ⟨hr, hl, ho⟩ => hrxLockRegained_ready hr hl ho
  · exact happens_intro (fun _ _ => rfl) fun h ⟨hr, ho, hl⟩ => hostPllLock_ready hr ho hl
  · exact happens_intro (fun _ _ => rfl) fun h ⟨ht, ho, hs⟩ => hostQuadRestore_all ht ho hs
  · exact happens_intro (fun _ _ => rfl) fun h ⟨ht, hs⟩ => hostQuadRestore_some ht hs

end Sys2Proof.Machine

namespace Sys2Proof.Machine
open Reg

/-! ### Ports (R255, R258) -/

theorem hrx0Wake_awake {h : Hw} {mv : Nat} (hd : h.domState 8 = 0) (hw : h.flag HSL_CFG_wake_hrx0 = true) (hm : 75 < mv) :
    hrx0Wake mv h = (h.wake 8 3).raise 0x0703 := if_pos ⟨hd, hw, hm⟩

theorem portAligned_locked {h : Hw} {p : Nat} (he : portEnabled h p = true) (ha : h.flag (HPC_PORT_STATUS_aligned p) = false)
    (ho : h.refOk 0 = true) (hl : (portLanes h p).all (fun l => h.ready (8 + l / 4) && h.flag (hrxLock l)) = true) :
    portAligned p h = (h.setFld (HPC_PORT_STATUS_aligned p) 1).raise 0x0802 [p, (h.dtime - (h.port p).since) / 1000] := by
  unfold portAligned
  rw [if_pos]
  rw [he, ha, ho, hl]
  rfl

theorem loseAlignment_aligned {h : Hw} {p : Nat} (ha : h.flag (HPC_PORT_STATUS_aligned p) = true) : loseAlignment p h =
    (updPort ((h.setFld (HPC_PORT_STATUS_aligned p) 0).setFld (HPC_PORT_STATUS_align_lost p) 1) p fun x =>
      { x with since := h.dtime }).raise 0x0801
      [p, sumN (((portLanes h p).filter fun l => h.flag (hrxLos l) || !h.flag (hrxLock l)).map fun l => 2 ^ l)] := by
  unfold loseAlignment
  rw [ha, if_neg (by decide)]
  dsimp only
  rw [Hw.setFld_dtime, Hw.setFld_dtime]

/-! ### Frames from the host (R256, R257) -/

section
variable {h : Hw} {p fr cr un rs : Nat} {f : Bytes} (he : portEnabled h p = true)
  (hl : (portLanes h p).all (fun l => h.ready (8 + l / 4)) = true)
  (ha : (countFec h p cr un).flag (HPC_PORT_STATUS_aligned p) = true) (hh : portHeld (countFec h p cr un) p = false)
include he hl ha hh

/-- What a frame does on a port that takes it, once the FEC is counted and the frame is judged. -/
theorem hostFrameIn_taken : hostFrameIn p fr cr un false rs f h =
    let k := keepFrame (countFec h p cr un) p f
    if !k.1 then k.2
    else if frameDst f = k.2.mac ∧ frameType f = k.2.fld CMD_CFG_inband_etype then inbandPacket p f k.2
    else
      let s := ptpNote k.2 p f
      if budgetMode s (s.fld (HPC_PORT_group p)) = 2 then c2Frame s p (fine s fr) rs f
      else if ptpFrame f then
        bestEffortFrame (ptpCorrect s p f (-(fine s fr * 1024 : Int))).2 p (ptpCorrect s p f (-(fine s fr * 1024 : Int))).1
      else if tablesReady s && s.ready 14 then timedFrame s p (s.dtime * 64 + fr) f
      else bestEffortFrame s p f := by
  unfold hostFrameIn hostFrame
  rw [he, hl, if_neg (by decide)]
  dsimp only
  rw [ha, hh, if_neg (by decide)]

theorem hostFrameIn_dropped (hk : (keepFrame (countFec h p cr un) p f).1 = false) :
    hostFrameIn p fr cr un false rs f h = (keepFrame (countFec h p cr un) p f).2 := by
  rw [hostFrameIn_taken he hl ha hh]
  dsimp only
  rw [hk, if_pos (by decide)]

theorem hostFrameIn_packet (hk : (keepFrame (countFec h p cr un) p f).1 = true)
    (hm : frameDst f = (keepFrame (countFec h p cr un) p f).2.mac ∧
      frameType f = (keepFrame (countFec h p cr un) p f).2.fld CMD_CFG_inband_etype) :
    hostFrameIn p fr cr un false rs f h = inbandPacket p f (keepFrame (countFec h p cr un) p f).2 := by
  rw [hostFrameIn_taken he hl ha hh]
  dsimp only
  rw [hk, if_neg (by decide), if_pos hm]

theorem hostFrameIn_other (hk : (keepFrame (countFec h p cr un) p f).1 = true)
    (hm : ¬ (frameDst f = (keepFrame (countFec h p cr un) p f).2.mac ∧
      frameType f = (keepFrame (countFec h p cr un) p f).2.fld CMD_CFG_inband_etype)) :
    hostFrameIn p fr cr un false rs f h =
      let k := ptpNote (keepFrame (countFec h p cr un) p f).2 p f
      if budgetMode k (k.fld (HPC_PORT_group p)) = 2 then c2Frame k p (fine k fr) rs f
      else if ptpFrame f then
        bestEffortFrame (ptpCorrect k p f (-(fine k fr * 1024 : Int))).2 p (ptpCorrect k p f (-(fine k fr * 1024 : Int))).1
      else if tablesReady k && k.ready 14 then timedFrame k p (k.dtime * 64 + fr) f
      else bestEffortFrame k p f := by
  rw [hostFrameIn_taken he hl ha hh]
  dsimp only
  rw [hk, if_neg (by decide), if_neg hm]

end

/-! ### Frames to the host (R259) -/

theorem hostFrameSend_next {h : Hw} {p fr : Nat} {f : TxFrame} (hr : htxRuns h p = true) (hn : (h.port p).free ≤ h.dtime * 64 + fr)
    (hq : (((h.port p).q.find? fun f => f.timed).orElse fun _ => (h.port p).q.head?) = some f)
    (hs : (releases h p).any (fun r => decide (64 * r ≤ ((h.dtime * 64 + fr : Nat) : Int) +
      hostTime (h.fld (HPC_PORT_rate p)) f.bytes.length)) = false)
    (hg : gapEnds h p f.came ≤ h.dtime * 64 + fr) (hd : h.ready 14 = true ∨ f.grp = 2) :
    hostFrameSend p fr none h =
      let t := judgeB (updPort h p fun x => { x with q := x.q.erase f }) f fr
      let z := h.dtime * 64 + fr
      if f.timed = false ∧ f.grp < 2 then
        htxSend (ptpCorrect t p f.bytes (leaveGain t f fr)).2 p z (ptpCorrect t p f.bytes (leaveGain t f fr)).1
      else htxSend t p z f.bytes := by
  have hi : (!h.ready 14 && f.grp != 2) = false := by
    rcases hd with hd | hd
    · rw [hd]
      rfl
    · rw [hd]
      cases h.ready 14 <;> rfl
  unfold hostFrameSend
  dsimp only
  rw [hr, decide_eq_false (Nat.not_lt.mpr hn), if_neg (by decide), hq]
  dsimp only
  rw [hs, decide_eq_false (Nat.not_lt.mpr hg), hi, if_neg (by decide)]
  by_cases ht : f.timed = false ∧ f.grp < 2
  · rw [if_pos ht, ht.1, decide_eq_true ht.2, if_pos (by decide)]
  · rw [if_neg ht, if_neg]
    rw [Bool.and_eq_true, Bool.not_eq_true', decide_eq_true_eq]
    exact ht

theorem port_updPort_same (s : Hw) (p : Nat) (k : Port → Port) : (updPort s p k).port p = k (s.port p) := Map.get_upd_same _ _ _ _

/-- A frame's code blocks on one lane of a port. -/
def sendLane (r p : Nat) (f : Bytes) (l : Nat) (s : Hw) : Hw :=
  let x := pcsFrame (2 + r) l (Map.get [] (s.port p).blocks l) f
  (updPort s p fun y => { y with blocks := Map.put [] y.blocks l x.2 }).emit (.htx l x.1)

theorem port_sendLane (r p : Nat) (f : Bytes) (l : Nat) (s : Hw) : ∃ b, (sendLane r p f l s).port p =
    { s.port p with blocks := Map.put [] (s.port p).blocks l b } := ⟨_, port_updPort_same s p _⟩

/-- The lanes of a port send each its own blocks, in order. -/
theorem out_sendLanes (r p : Nat) (f : Bytes) {ls : List Nat} (hn : ls.Nodup) (s : Hw) :
    (s.each ls (sendLane r p f)).out =
      s.out ++ ls.map fun l => Out.htx l (pcsFrame (2 + r) l (Map.get [] (s.port p).blocks l) f).1 := by
  induction ls generalizing s with
  | nil => exact (List.append_nil _).symm
  | cons l ls ih =>
    obtain ⟨hl, hr⟩ := List.nodup_cons.mp hn
    obtain ⟨b, hb⟩ := port_sendLane r p f l s
    have hrest : ∀ j ∈ ls, Map.get [] ((sendLane r p f l s).port p).blocks j = Map.get [] (s.port p).blocks j := fun j hj => by
      rw [hb]
      exact Map.get_put_other _ _ _ _ fun e => hl (e ▸ hj)
    rw [Hw.each_cons, ih hr, List.map_cons, List.append_cons]
    congr 1
    exact List.map_congr_left fun j hj => by rw [hrest j hj]

theorem portLanes_nodup (s : Hw) (p : Nat) : (portLanes s p).Nodup :=
  List.Pairwise.map _ (fun _ _ h hn => h (Nat.add_left_cancel hn)) List.nodup_range

/-- The counter of frames sent is no word of the port map. -/
theorem portLanes_counted (s : Hw) (p k : Nat) : portLanes (s.setNum64 (HPC_TX_FRAMES p) k) p = portLanes s p := by
  have h1 : HPC_PORT p ≠ HPC_TX_FRAMES p := by
    unfold HPC_PORT HPC_TX_FRAMES
    omega
  have h2 : HPC_PORT p ≠ HPC_TX_FRAMES p + 1 := by
    unfold HPC_PORT HPC_TX_FRAMES
    omega
  have hf : ∀ f : Fld, f.addr = HPC_PORT p → (s.setNum64 (HPC_TX_FRAMES p) k).fld f = s.fld f := fun f ha => by
    rw [Hw.fld, ha, reg_setNum64_other _ _ h1 h2, Hw.fld, ha]
  unfold portLanes Hw.mapEntry Hw.flag
  rw [hf _ rfl, hf _ rfl, hf _ rfl, hf _ rfl, hf _ rfl]

/-- The state once a frame has left, before its blocks. -/
def frameLeft (h : Hw) (p z : Nat) (f : Bytes) : Hw :=
  ((updPort h p fun x => { x with free := z + hostTime (h.fld (HPC_PORT_rate p)) (f.length + 16) }).count64 (HPC_TX_FRAMES p)).emit
    (.frame p f)

theorem htxSend_eq (h : Hw) (p z : Nat) (f : Bytes) : htxSend h p z f =
    (frameLeft h p z f).each (portLanes (frameLeft h p z f) p) (sendLane (h.fld (HPC_PORT_rate p)) p f) := rfl

theorem portLanes_frameLeft (h : Hw) (p z : Nat) (f : Bytes) : portLanes (frameLeft h p z f) p = portLanes h p := by
  have hu : ∀ (s : Hw) (k : Port → Port) (n : Nat), portLanes (((updPort s p k).setNum64 (HPC_TX_FRAMES p) n).emit (.frame p f)) p =
      portLanes (s.setNum64 (HPC_TX_FRAMES p) n) p := fun _ _ _ => rfl
  rw [frameLeft, Hw.count64, hu, portLanes_counted]

theorem port_frameLeft (h : Hw) (p z : Nat) (f : Bytes) : (frameLeft h p z f).port p =
    { h.port p with free := z + hostTime (h.fld (HPC_PORT_rate p)) (f.length + 16) } := by
  have hu : ∀ (s : Hw) (n : Nat), ((s.setNum64 (HPC_TX_FRAMES p) n).emit (.frame p f)).port p = s.port p := fun _ _ => rfl
  rw [frameLeft, Hw.count64, hu, port_updPort_same]

theorem out_frameLeft (h : Hw) (p z : Nat) (f : Bytes) : (frameLeft h p z f).out = h.out ++ [Out.frame p f] := by
  have hu : ∀ (s : Hw) (k : Port → Port) (a n : Nat), (((updPort s p k).setNum64 a n).emit (.frame p f)).out =
      s.out ++ [Out.frame p f] := fun _ _ _ _ => rfl
  rw [frameLeft, Hw.count64, hu]

theorem num64_sendLanes (r p : Nat) (f : Bytes) (a : Nat) (ls : List Nat) (s : Hw) :
    (s.each ls (sendLane r p f)).num64 a = s.num64 a :=
  Hw.each_same (fun s : Hw => s.num64 a) ls (f := sendLane r p f) (fun _ _ => rfl) s

theorem num64_frameLeft (h : Hw) (p z : Nat) (f : Bytes) :
    (frameLeft h p z f).num64 (HPC_TX_FRAMES p) = min (h.num64 (HPC_TX_FRAMES p) + 1) (2 ^ 64 - 1) := by
  have hu : ∀ (s : Hw) (o : Out), (s.emit o).num64 (HPC_TX_FRAMES p) = s.num64 (HPC_TX_FRAMES p) := fun _ _ => rfl
  have hp : ∀ (s : Hw) (k : Port → Port), (updPort s p k).num64 (HPC_TX_FRAMES p) = s.num64 (HPC_TX_FRAMES p) := fun _ _ => rfl
  rw [frameLeft, hu, Hw.count64, num64_setNum64, hp]
  exact Nat.mod_eq_of_lt (Nat.lt_of_le_of_lt (Nat.min_le_right _ _) (by decide))

theorem htxSend_tells (h : Hw) (p z : Nat) (f : Bytes) :
    (htxSend h p z f).out = h.out ++ [Out.frame p f] ++ (portLanes h p).map (fun l =>
      Out.htx l (pcsFrame (2 + h.fld (HPC_PORT_rate p)) l (Map.get [] (h.port p).blocks l) f).1) ∧
    ((htxSend h p z f).port p).free = z + hostTime (h.fld (HPC_PORT_rate p)) (f.length + 16) ∧
    (htxSend h p z f).num64 (HPC_TX_FRAMES p) = min (h.num64 (HPC_TX_FRAMES p) + 1) (2 ^ 64 - 1) := by
  rw [htxSend_eq, portLanes_frameLeft]
  refine ⟨?_, ?_, ?_⟩
  · rw [out_sendLanes _ _ _ (portLanes_nodup h p), out_frameLeft, port_frameLeft]
  · rw [Hw.each_same (fun s => (s.port p).free) _ fun l s => by
      obtain ⟨b, hb⟩ := port_sendLane (h.fld (HPC_PORT_rate p)) p f l s
      rw [hb], port_frameLeft]
  · rw [num64_sendLanes, num64_frameLeft]

/-- Settles O31: how a port aligns, what it takes, and what it sends. -/
theorem portsAndHostFrames : Obligations.PortsAndHostFrames := by
  unfold Obligations.PortsAndHostFrames
  refine ⟨fun mv => ?_, fun p => ?_, fun p => ?_, fun p fr cr un rs f => ?_, fun p fr cr un rs f => ?_, fun p fr cr un rs f => ?_,
    fun p fr f => ?_, htxSend_tells⟩
  · exact happens_intro (fun _ _ => rfl) fun h ⟨hd, hw, hm⟩ => hrx0Wake_awake hd hw hm
  · exact happens_intro (fun _ _ => rfl) fun h ⟨he, ha, ho, hl⟩ => portAligned_locked he ha ho hl
  · exact happens_intro (fun _ _ => rfl) fun h ha => loseAlignment_aligned ha
  · exact happens_intro (fun _ _ => rfl) fun h ⟨he, hl, ha, hh, hk⟩ => hostFrameIn_dropped he hl ha hh hk
  · exact happens_intro (fun _ _ => rfl) fun h ⟨he, hl, ha, hh, hk, hm⟩ => hostFrameIn_packet he hl ha hh hk hm
  · exact happens_intro (fun _ _ => rfl) fun h ⟨he, hl, ha, hh, hk, hm⟩ => hostFrameIn_other he hl ha hh hk hm
  · exact happens_intro (fun _ _ => rfl) fun h ⟨hr, hn, hq, hs, hg, hd⟩ => hostFrameSend_next hr hn hq hs hg hd

end Sys2Proof.Machine

namespace Sys2Proof.Machine
open Reg

/-! ### The first admission -/

/-- A part with one present context, of class B and without a key, before any admission. -/
def firstOffer : Hw := { flw := { ctxs := [(0, 2 ^ 126 + 2 ^ 124)] } }

theorem admitOne_firstOffer : (admitOne firstOffer 0).toOption.map (fun s => s.tds.begun) = some true := by decide +kernel

/-- Refutes O33: an admission also notes that admissions have begun (`begun`), which clause (2) leaves as it was. -/
theorem not_timedDeliveryRequests : ¬ Obligations.TimedDeliveryRequests := by
  unfold Obligations.TimedDeliveryRequests
  intro ⟨_, hadmit, _⟩
  have h := hadmit firstOffer 0 (by decide +kernel) (fun hk => absurd hk (by decide +kernel)) (.inl (by decide +kernel))
    (by decide +kernel) (by decide +kernel) (by decide +kernel) (by decide +kernel)
  have hb := admitOne_firstOffer
  rw [h] at hb
  exact absurd hb (by decide +kernel)

end Sys2Proof.Machine

namespace Sys2Proof.Machine
open Reg

/-! ### Slots (R330 to R333) -/

theorem pmcOne_grps (ev k n : Nat) (s : Hw) : (pmcOne ev k n s).grps = s.grps := by
  rcases pmcOne_cases ev k n s with h | ⟨v, h⟩ | ⟨v, w, h⟩
  · rw [h]
  · rw [h, Hw.setNum64_grps]
  · rw [h, Hw.cond_same Hw.grps _ _ (Hw.raise_grps ..), Hw.setNum64_grps]

theorem Hw.pmc_grps (s : Hw) (ev k : Nat) : (s.pmc ev k).grps = s.grps := by
  unfold Hw.pmc
  exact Hw.ite_same Hw.grps rfl (Hw.each_same Hw.grps _ (pmcOne_grps ev k) s)

theorem num64_updGrp (s : Hw) (g a : Nat) (k : Grp → Grp) : (s.updGrp g k).num64 a = s.num64 a := rfl

/-- A slot is counted. -/
def slotCounted (g : Nat) (s : Hw) : Hw := (s.setNum64 (GTH_SLOTS g) ((s.num64 (GTH_SLOTS g) + 1) % 2 ^ 64)).pmc (0x014 + 8 * g)

/-- The state once a group's slot has been taken and counted. -/
def slotTaken (h : Hw) (g : Nat) : Hw := slotCounted g (h.updGrp g fun x => { x with credit := x.credit - wholeSlot })

theorem slotTaken_eq (h : Hw) (g : Nat) : slotTaken h g =
    ((h.updGrp g fun x => { x with credit := x.credit - wholeSlot }).setNum64 (GTH_SLOTS g)
      ((h.num64 (GTH_SLOTS g) + 1) % 2 ^ 64)).pmc (0x014 + 8 * g) := by
  unfold slotTaken slotCounted
  rw [num64_updGrp]

theorem grps_slotCounted (g : Nat) (s : Hw) : (slotCounted g s).grps = s.grps := by
  unfold slotCounted
  rw [Hw.pmc_grps, Hw.setNum64_grps]

theorem grp_slotTaken (h : Hw) (g : Nat) : (slotTaken h g).grp g = { h.grp g with credit := (h.grp g).credit - wholeSlot } := by
  unfold slotTaken
  rw [Hw.grp, grps_slotCounted]
  exact Hw.grp_updGrp_same h g _

theorem dtime_slotTaken (h : Hw) (g : Nat) : (slotTaken h g).dtime = h.dtime := by
  unfold slotTaken slotCounted
  rw [Hw.pmc_dtime, Hw.setNum64_dtime, Hw.updGrp_dtime]

/-- What a slot that has been taken goes to. -/
def slotUse (g : Nat) (takes : Bool) (s : Hw) : Hw :=
  match pickTimed ((s.grp g).revertAt != 0) (s.grp g).tq with
  | some c =>
    if !takes && (s.grp g).txRemap.isSome then s.pmc (0x013 + 8 * g)
    else if c.cls = 2 ∧ c.latest < s.dtime * 64 then
      (noteLateC (s.updGrp g fun x => { x with tq := x.tq.filter fun d => d.frame != c.frame }) g 0 c.flow).pmc (0x011 + 8 * g)
    else issueTimed s g c
  | none =>
    if (s.grp g).be.isEmpty then s.pmc (0x012 + 8 * g)
    else if !takes && ((s.grp g).txRemap.isSome || s.flag (LFM_STATUS_stuff_over g)) then s.pmc (0x013 + 8 * g)
    else ((issueBest s g).pmc (0x010 + 8 * g)).pmc (0x021 + 8 * g)

theorem slotUse_some {g : Nat} {tk : Bool} {t : Hw} {x : TCell} (hp : pickTimed ((t.grp g).revertAt != 0) (t.grp g).tq = some x) :
    slotUse g tk t =
      if !tk && (t.grp g).txRemap.isSome then t.pmc (0x013 + 8 * g)
      else if x.cls = 2 ∧ x.latest < t.dtime * 64 then
        (noteLateC (t.updGrp g fun y => { y with tq := y.tq.filter fun d => d.frame != x.frame }) g 0 x.flow).pmc (0x011 + 8 * g)
      else issueTimed t g x := by
  unfold slotUse
  rw [hp]

theorem slotUse_none {g : Nat} {tk : Bool} {t : Hw} (hp : pickTimed ((t.grp g).revertAt != 0) (t.grp g).tq = none) :
    slotUse g tk t =
      if (t.grp g).be.isEmpty then t.pmc (0x012 + 8 * g)
      else if !tk && ((t.grp g).txRemap.isSome || t.flag (LFM_STATUS_stuff_over g)) then t.pmc (0x013 + 8 * g)
      else ((issueBest t g).pmc (0x010 + 8 * g)).pmc (0x021 + 8 * g) := by
  unfold slotUse
  rw [hp]

section
variable {h : Hw} {g : Nat} {tk : Bool} (hu : usableGroup h g = true) (hr : h.ready 14 = true) (hc : wholeSlot ≤ (h.grp g).credit)
include hu hr hc

theorem slotIssue_due : slotIssue g tk h = slotUse g tk (slotTaken h g) := by
  unfold slotIssue slotTaken
  rw [hu, hr, decide_eq_false (Nat.not_lt.mpr hc), if_neg (by decide)]
  extract_lets s c t x remap filler
  have ht : slotCounted g s = t := rfl
  clear_value t
  refine Eq.trans ?_ (congrArg (slotUse g tk) ht.symm)
  clear ht hu hr hc c s
  cases hq : pickTimed ((t.grp g).revertAt != 0) (t.grp g).tq with
  | none => rw [slotUse_none hq]
  | some y => rw [slotUse_some hq]

theorem slotIssue_timed {x : TCell} (hp : pickTimed ((h.grp g).revertAt != 0) (h.grp g).tq = some x)
    (ht : tk = true ∨ (h.grp g).txRemap = none) : slotIssue g tk h =
      if x.cls = 2 ∧ x.latest < h.dtime * 64 then
        (noteLateC ((slotTaken h g).updGrp g fun y => { y with tq := y.tq.filter fun d => d.frame != x.frame }) g 0 x.flow).pmc
          (0x011 + 8 * g)
      else issueTimed (slotTaken h g) g x := by
  have hm : ¬ (!tk && (h.grp g).txRemap.isSome) = true := by
    rcases ht with ht | ht <;> rw [ht] <;> simp
  rw [slotIssue_due hu hr hc, slotUse, grp_slotTaken, dtime_slotTaken]
  dsimp only
  rw [hp]
  dsimp only
  rw [if_neg hm]

theorem slotIssue_best (hp : pickTimed ((h.grp g).revertAt != 0) (h.grp g).tq = none) (hb : (h.grp g).be ≠ []) :
    slotIssue g true h = ((issueBest (slotTaken h g) g).pmc (0x010 + 8 * g)).pmc (0x021 + 8 * g) := by
  rw [slotIssue_due hu hr hc, slotUse, grp_slotTaken]
  dsimp only
  rw [hp]
  dsimp only
  rw [if_neg (by rwa [List.isEmpty_iff]), Bool.not_true, Bool.false_and, if_neg Bool.false_ne_true]

theorem slotIssue_idle (hp : pickTimed ((h.grp g).revertAt != 0) (h.grp g).tq = none) (hb : (h.grp g).be = []) :
    slotIssue g tk h = (slotTaken h g).pmc (0x012 + 8 * g) := by
  rw [slotIssue_due hu hr hc, slotUse, grp_slotTaken]
  dsimp only
  rw [hp]
  dsimp only
  rw [hb, if_pos List.isEmpty_nil]

end

/-! ### Class C releases and the revert gap (R337, R361) -/

theorem classCRelease_due {h : Hw} {p fr : Nat} {f : SkewFrame} (hn : nextRelease h p = some f) (hf : f.rel ≤ (h.dtime : Int) + 4)
    (hr : h.ready 14 = true) (hx : htxRuns h p = true) (hb : (h.port p).free ≤ h.dtime * 64 + fr) : classCRelease p fr h =
    let t := (({ h with tds := { h.tds with store := h.tds.store.erase f } } : Hw).cond (decide (64 * f.rel < ((h.port p).lastC : Int)))) fun s =>
      (s.count TDS_DISPLACED).raise 0x0A08 [p, f.flow, ((s.dtime : Int) - f.rel).toNat]
    updPort ((htxSend t p (h.dtime * 64 + fr) f.bytes).pmc 0x041) p fun x => { x with lastC := x.free } := by
  unfold classCRelease
  rw [hn]
  dsimp only
  rw [if_neg, hx, if_neg (by decide), if_neg (Nat.not_lt.mpr hb)]
  rw [hr]
  rintro (hl | hl)
  · exact absurd hl (Int.not_lt.mpr hf)
  · exact absurd hl (by decide)

theorem revertGapEnd_passed {h : Hw} {g : Nat} (ha : (h.grp g).revertAt ≠ 0)
    (hn : ((h.grp (other g)).tq.any fun x => x.cls == 1 && prefers x.path g) = false)
    (hp : (h.grp (other g)).txEndB + ((h.num (PWR_PATH_DLY (other g)) - h.num (PWR_PATH_DLY g)) / 64 + 2000) ≤ h.dtime) :
    revertGapEnd g h = h.updGrp g fun x => { x with revertAt := 0, tq := x.tq.map fun d => { d with gap := false } } := by
  unfold revertGapEnd
  dsimp only
  rw [decide_eq_true ha, hn, decide_eq_true hp, if_pos (by decide)]

/-! ### Reassembly (R340) -/

/-- A cell held alone is its own frame. -/
theorem mates_alone (x : ACell) : mates [x] x = [x] := by
  have hs : startOf [x] x.seq = if x.start && decide (seqAfter x.seq x.seq < startSize x) then some x else none := by
    unfold startOf
    rw [List.find?_cons]
    cases x.start && decide (seqAfter x.seq x.seq < startSize x) <;> rfl
  unfold mates
  rw [hs]
  by_cases h : (x.start && decide (seqAfter x.seq x.seq < startSize x)) = true
  · rw [if_pos h]
    dsimp only
    exact List.filter_cons_of_pos (Bool.and_eq_true_iff.mp h).2
  · rw [if_neg h]
    dsimp only
    rw [List.filter_cons_of_pos, List.filter_nil]
    rw [hs, if_neg h, beq_self_eq_true]
    rfl

theorem asmFrames_alone (x : ACell) : asmFrames [x] = [[x]] := by
  rw [asmFrames, List.map_singleton, mates_alone]
  rfl

theorem reassemblyTimeout_alone {h : Hw} {i : Nat} {x : ACell} (hr : h.ready 14 = true) (hx : (h.asm i).cells = [x]) :
    reassemblyTimeout i h =
      if cxClass x.cx = 2 ∧ x.moment ≤ (h.dtime : Int) + 200 then (lateAtReceiver h x.grp i [x]).count RDN_FRAME_LOST
      else if x.time + (h.fld RDN_CFG_reasm_us * 1000 + (if cxPath x.cx = 4 then delayGap h else 0)) ≤ h.dtime then
        (dropFrame h i [x]).count RDN_FRAME_LOST
      else h := by
  unfold reassemblyTimeout
  rw [hr, if_neg (by decide), hx, asmFrames_alone, List.foldl_cons, List.foldl_nil]

/-- Settles O34: what a slot issues, what a release sends, and what is given up in reassembly. -/
theorem slotsReleasesAndReassembly : Obligations.SlotsReleasesAndReassembly := by
  unfold Obligations.SlotsReleasesAndReassembly
  refine ⟨fun g tk x => ?_, fun g tk x => ?_, fun g => ?_, fun g tk => ?_, fun p fr f => ?_, fun g => ?_, ?_, fun i x => ?_,
    fun i x => ?_⟩
  · refine happens_intro (fun _ _ => rfl) fun h ⟨hu, hr, hc, hp, ht, hl⟩ => ?_
    rw [slotIssue_timed hu hr hc hp ht, if_neg hl, slotTaken_eq]
  · refine happens_intro (fun _ _ => rfl) fun h ⟨hu, hr, hc, hp, ht, hl⟩ => ?_
    rw [slotIssue_timed hu hr hc hp ht, if_pos hl, slotTaken_eq]
  · refine happens_intro (fun _ _ => rfl) fun h ⟨hu, hr, hc, hp, hb⟩ => ?_
    rw [slotIssue_best hu hr hc hp hb, slotTaken_eq]
  · refine happens_intro (fun _ _ => rfl) fun h ⟨hu, hr, hc, hp, hb⟩ => ?_
    rw [slotIssue_idle hu hr hc hp hb, slotTaken_eq]
  · exact happens_intro (fun _ _ => rfl) fun h ⟨hn, hf, hr, hx, hb⟩ => classCRelease_due hn hf hr hx hb
  · exact happens_intro (fun _ _ => rfl) fun h ⟨ha, hn, hp⟩ => revertGapEnd_passed ha hn hp
  · exact happens_intro (fun _ _ => rfl) fun h hr => if_neg (by rw [hr]; decide)
  · refine happens_intro (fun _ _ => rfl) fun h ⟨hr, hx, hk, ht⟩ => ?_
    rw [reassemblyTimeout_alone hr hx, if_neg fun h2 => absurd (hk.symm.trans h2.1) (by decide), if_pos ht]
  · refine happens_intro (fun _ _ => rfl) fun h ⟨hr, hx, hk, ht⟩ => ?_
    rw [reassemblyTimeout_alone hr hx, if_pos ⟨hk, ht⟩]

end Sys2Proof.Machine

namespace Sys2Proof.Machine
open Reg

/-! ### Many fields at once -/

/-- Fields set one after another. -/
def Hw.sets (s : Hw) (l : List (Fld × Nat)) : Hw := l.foldl (fun s x => s.setFld x.1 x.2) s

theorem Hw.sets_cons (s : Hw) (x : Fld × Nat) (l : List (Fld × Nat)) : s.sets (x :: l) = (s.setFld x.1 x.2).sets l := rfl

theorem keeps.sets {ss : List Nat} {ps : List Part} {s t : Hw} (k : keeps ss ps s t) {l : List (Fld × Nat)}
    (h : ∀ x ∈ l, x.1.addr / 65536 ∈ ss) : keeps ss ps s (t.sets l) := by
  induction l generalizing t with
  | nil => exact k
  | cons x l ih => exact ih (k.setFld x.2 (h x (List.mem_cons_self ..))) fun y hy => h y (List.mem_cons_of_mem _ hy)

theorem Hw.fld_sets {f : Fld} (s : Hw) {l : List (Fld × Nat)} (hf : f.lo + f.w ≤ 32)
    (h : ∀ x ∈ l, f.addr ≠ x.1.addr ∨ f.lo + f.w ≤ x.1.lo ∨ x.1.lo + x.1.w ≤ f.lo) : (s.sets l).fld f = s.fld f := by
  induction l generalizing s with
  | nil => rfl
  | cons x l ih =>
    rw [Hw.sets_cons, ih _ fun y hy => h y (List.mem_cons_of_mem _ hy), Hw.fld_setFld_other s x.2 hf (h x (List.mem_cons_self ..))]

theorem keeps.setNum {ss : List Nat} {ps : List Part} {s t : Hw} (k : keeps ss ps s t) {a : Nat} (v : Nat) (h : a / 65536 ∈ ss) :
    keeps ss ps s (t.setNum a v) := keeps_trans k (keeps_setReg ss ps t a _ h)

theorem Hw.fld_setNum_other {f : Fld} (s : Hw) {a : Nat} (v : Nat) (h : f.addr ≠ a) : (s.setNum a v).fld f = s.fld f := by
  rw [Hw.fld, Hw.setNum, Hw.reg_setReg_other _ _ h, Hw.fld]

theorem Hw.fld_updGrp (s : Hw) (g : Nat) (k : Grp → Grp) (f : Fld) : (s.updGrp g k).fld f = s.fld f := rfl

theorem keeps_updGrp (s : Hw) (g : Nat) (k : Grp → Grp) : keeps [] [.grps] s (s.updGrp g k) := by
  refine ⟨fun _ _ => rfl, fun p hp => ?_, rfl⟩
  cases p with
  | grps => simp at hp
  | _ => rfl

theorem keeps_free (s : Hw) (n : Nat) : keeps [] [.freeN] s { s with freeN := n } := by
  refine ⟨fun _ _ => rfl, fun p hp => ?_, rfl⟩
  cases p with
  | freeN => simp at hp
  | _ => rfl

theorem keeps_brc (s : Hw) (x : Brc) : keeps [] [.brc] s { s with brc := x } := by
  refine ⟨fun _ _ => rfl, fun p hp => ?_, rfl⟩
  cases p with
  | brc => simp at hp
  | _ => rfl

/-! ### A group leaves its stages (R204, R239) -/

/-- What a group's lanes forget. -/
def lanesLeft (s : Hw) (g : Nat) : Hw :=
  (s.cond (s.stage g == 5) fun s => (retainGroup s g).setFld (LNK_LATCH_p5_left g) 1).each (groupLanes g) fun n s =>
    (s.updLane n fun l => { l with sync := false, seedAt := s.dtime }).setFld (LRX_STATUS_converged n) 0

/-- The fields of subsystems 0x05 and 0x06 that a group which leaves its stages gives up. -/
def stageFlds (g : Nat) : List (Fld × Nat) :=
  [(LFM_STATUS_mode g, 3), (LFM_STATUS_generation g, 0), (LFM_STATUS_tx_mask g, 0), (LFM_STATUS_rx_mask g, 0),
    (LFM_STATUS_am_lock g, 0), (LFM_STATUS_seed g, 0), (LFM_STATUS_far_core_lost g, 0), (LFM_STATUS_far_ref_lost g, 0),
    (LFM_STATUS_stuff_over g, 0), (LNK_STATUS_excluded g, 0), (LNK_STATUS_retrain g, 0), (LNK_STATUS_peer_seen g, 0),
    (LNK_STATUS_mode g, 3)]

/-- And those of the redundancy and of its peer. -/
def peerFlds (g : Nat) : List (Fld × Nat) := [(failedFld g, 0), (peerFailFld g, 0), (heldFld g, 0), (peerValid g, 0)]

theorem leaveStages_eq (s : Hw) (g : Nat) : leaveStages s g =
    ((((lanesLeft s g).sets (stageFlds g)).setNum (LNK_LSTAGE g) 0).sets (peerFlds g)).updGrp g Grp.forget := rfl

theorem fld_updLane (s : Hw) (n : Nat) (k : Lane → Lane) (f : Fld) : (s.updLane n k).fld f = s.fld f := rfl

theorem fld_retainGroup (s : Hw) (g : Nat) (f : Fld) : (retainGroup s g).fld f = s.fld f := by
  unfold retainGroup
  exact Hw.each_keeps (fun t => t.fld f = s.fld f) _ _ (fun n _ t ht => (fld_updLane t n _ f).trans ht) s rfl

theorem group_cases {g : Nat} (hg : g < 2) : g = 0 ∨ g = 1 := by omega

section
variable {g : Nat} (hg : g < 2)
include hg

theorem keeps_lanesLeft (s : Hw) : keeps [0x04, 0x06] [.lanes] s (lanesLeft s g) := by
  have hl : ∀ n ∈ groupLanes g, LRX_STATUS n / 65536 ∈ [0x04, 0x06] := by obtain rfl | rfl := group_cases hg <;> decide
  have hr : keeps [0x04, 0x06] [.lanes] s (retainGroup s g) :=
    (keeps_refl _ _ s).each _ fun n _ u => keeps_mono (by simp) (by simp) (keeps_updLane u n _)
  have hp : LNK_LATCH g / 65536 ∈ [0x04, 0x06] := by obtain rfl | rfl := group_cases hg <;> decide
  exact ((keeps_refl _ _ s).cond _ (hr.setFld (f := LNK_LATCH_p5_left g) _ hp)).each _ fun n hn u =>
    ((keeps_refl _ _ u).part (by simp) (keeps_updLane u n _)).setFld (f := LRX_STATUS_converged n) _ (hl n hn)

theorem keeps_leaveStages (s : Hw) : keeps [0x02, 0x04, 0x05, 0x06, 0x0B] [.lanes, .grps] s (leaveStages s g) := by
  have hs : ∀ x ∈ stageFlds g, x.1.addr / 65536 ∈ [0x02, 0x04, 0x05, 0x06, 0x0B] := by obtain rfl | rfl := group_cases hg <;> decide
  have hp : ∀ x ∈ peerFlds g, x.1.addr / 65536 ∈ [0x02, 0x04, 0x05, 0x06, 0x0B] := by obtain rfl | rfl := group_cases hg <;> decide
  have hn : LNK_LSTAGE g / 65536 ∈ [0x02, 0x04, 0x05, 0x06, 0x0B] := by obtain rfl | rfl := group_cases hg <;> decide
  rw [leaveStages_eq]
  have hl : keeps [0x02, 0x04, 0x05, 0x06, 0x0B] [.lanes, .grps] s (lanesLeft s g) :=
    keeps_mono (by decide) (by decide) (keeps_lanesLeft hg s)
  have hk := ((hl.sets hs).setNum 0 hn).sets hp
  exact hk.part (by decide) (keeps_updGrp _ g Grp.forget)

/-- The fields that show a group's loss and its peer group's stage. -/
def lossFlds (g : Nat) : List Fld := [LNK_STATUS_reason g, LNK_STATUS_stage g, LNK_STATUS_stage (other g), lostFld g]

theorem fld_leaveStages (s : Hw) {f : Fld} (h : f ∈ lossFlds g) : (leaveStages s g).fld f = s.fld f := by
  have hw : ∀ f ∈ lossFlds g, f.lo + f.w ≤ 32 := by obtain rfl | rfl := group_cases hg <;> decide
  have hs : ∀ f ∈ lossFlds g, ∀ x ∈ stageFlds g, f.addr ≠ x.1.addr ∨ f.lo + f.w ≤ x.1.lo ∨ x.1.lo + x.1.w ≤ f.lo := by
    obtain rfl | rfl := group_cases hg <;> decide
  have hp : ∀ f ∈ lossFlds g, ∀ x ∈ peerFlds g, f.addr ≠ x.1.addr ∨ f.lo + f.w ≤ x.1.lo ∨ x.1.lo + x.1.w ≤ f.lo := by
    obtain rfl | rfl := group_cases hg <;> decide
  have hn : ∀ f ∈ lossFlds g, f.addr ≠ LNK_LSTAGE g := by obtain rfl | rfl := group_cases hg <;> decide
  have hl : ∀ f ∈ lossFlds g, f.addr ≠ LNK_LATCH g := by obtain rfl | rfl := group_cases hg <;> decide
  have hc : ∀ f ∈ lossFlds g, ∀ n ∈ groupLanes g, f.addr ≠ LRX_STATUS n := by obtain rfl | rfl := group_cases hg <;> decide
  have hlanes : (lanesLeft s g).fld f = s.fld f := by
    unfold lanesLeft
    refine Hw.each_keeps (fun t => t.fld f = s.fld f) _ _ (fun n hn t ht => ?_) _ ?_
    · rw [Hw.fld_setFld_other _ _ (hw f h) (.inl (hc f h n hn))]
      exact (fld_updLane t n _ f).trans ht
    · refine Hw.cond_same (fun t => t.fld f) _ s ?_
      rw [Hw.fld_setFld_other (f := LNK_LATCH_p5_left g) _ _ (hw f h) (.inl (hl f h))]
      exact fld_retainGroup s g f
  rw [leaveStages_eq, Hw.fld_updGrp, Hw.fld_sets _ (hw f h) (hp f h), Hw.fld_setNum_other _ _ (hn f h),
    Hw.fld_sets _ (hw f h) (hs f h), hlanes]

/-- A group is in P1: the other fields of its loss stand. -/
theorem keeps_toP1 (s : Hw) : keeps [0x02, 0x04, 0x05, 0x06, 0x0B] [.evr, .lanes, .grps] s (toP1 s g) := by
  have hs : LNK_STATUS g / 65536 ∈ [0x02, 0x04, 0x05, 0x06, 0x0B] := by obtain rfl | rfl := group_cases hg <;> decide
  have hn : LNK_LSTAGE g / 65536 ∈ [0x02, 0x04, 0x05, 0x06, 0x0B] := by obtain rfl | rfl := group_cases hg <;> decide
  have hl : keeps [0x02, 0x04, 0x05, 0x06, 0x0B] [.evr, .lanes, .grps] s (leaveStages s g) :=
    keeps_mono (by simp) (by simp) (keeps_leaveStages hg s)
  have ht : keeps [0x02, 0x04, 0x05, 0x06, 0x0B] [.evr, .lanes, .grps] s (setStage (leaveStages s g) g 1) :=
    ((hl.setFld (f := LNK_STATUS_stage g) 1 hs).raise 0x0601 _ (by decide)).part (by decide) (keeps_updGrp _ g _)
  exact ((ht.setNum _ hn).setFld (f := LNK_STATUS_backoff g) 0 hs).part (by decide) (keeps_updGrp _ g _)

/-- What `toP1` does to a field that is not the stage's lanes or backoff. -/
theorem fld_toP1 (s : Hw) {f : Fld} (h : f ∈ lossFlds g) :
    (toP1 s g).fld f = ((leaveStages s g).setFld (LNK_STATUS_stage g) 1).fld f := by
  have hw : ∀ f ∈ lossFlds g, f.lo + f.w ≤ 32 := by obtain rfl | rfl := group_cases hg <;> decide
  have hn : ∀ f ∈ lossFlds g, f.addr ≠ LNK_LSTAGE g := by obtain rfl | rfl := group_cases hg <;> decide
  have hb : ∀ f ∈ lossFlds g, f.addr ≠ (LNK_STATUS_backoff g).addr ∨ f.lo + f.w ≤ (LNK_STATUS_backoff g).lo ∨
      (LNK_STATUS_backoff g).lo + (LNK_STATUS_backoff g).w ≤ f.lo := by obtain rfl | rfl := group_cases hg <;> decide
  unfold toP1 startLaneStages setStage
  dsimp only
  rw [Hw.fld_updGrp, Hw.fld_setFld_other _ _ (hw f h) (hb f h), Hw.fld_setNum_other _ _ (hn f h), Hw.fld_updGrp, Hw.fld_raise]

theorem stage_toP1 (s : Hw) : (toP1 s g).stage g = 1 := by
  rw [Hw.stage, fld_toP1 hg s (by simp [lossFlds]), Hw.fld_setFld_same _ _ (by obtain rfl | rfl := group_cases hg <;> decide)]
  rfl

theorem fld_toP1_other (s : Hw) {f : Fld} (h : f ∈ [LNK_STATUS_reason g, LNK_STATUS_stage (other g), lostFld g]) :
    (toP1 s g).fld f = s.fld f := by
  have ha : ∀ f ∈ [LNK_STATUS_reason g, LNK_STATUS_stage (other g), lostFld g], f.lo + f.w ≤ 32 ∧
      (f.addr ≠ (LNK_STATUS_stage g).addr ∨ f.lo + f.w ≤ (LNK_STATUS_stage g).lo ∨
        (LNK_STATUS_stage g).lo + (LNK_STATUS_stage g).w ≤ f.lo) := by obtain rfl | rfl := group_cases hg <;> decide
  have hm : f ∈ lossFlds g := by
    simp only [List.mem_cons, List.not_mem_nil, or_false, lossFlds] at h ⊢
    obtain h | h | h := h
    · exact .inl h
    · exact .inr (.inr (.inl h))
    · exact .inr (.inr (.inr h))
  rw [fld_toP1 hg s hm, Hw.fld_setFld_other _ _ (ha f h).1 (ha f h).2, fld_leaveStages hg s hm]

/-- The fails are counted, and a backoff begins. -/
def backsOff (g : Nat) (s : Hw) : Hw :=
  let k := min (s.fld (LNK_STATUS_fails g) + 1) 15
  let (r, s) := s.random
  let s := (s.setFld (LNK_STATUS_fails g) k).setFld (LNK_STATUS_backoff g) 1
  s.updGrp g fun x => { x with backoffEnd := s.dtime + backoffTime k r.toNat }

theorem keeps_backsOff (s : Hw) : keeps [0x06] [.freeN, .grps] s (backsOff g s) := by
  have ha : LNK_STATUS g / 65536 ∈ [0x06] := by obtain rfl | rfl := group_cases hg <;> decide
  have hf : keeps [0x06] [.freeN, .grps] s { s with freeN := s.freeN + 1 } := (keeps_refl _ _ s).part (by decide) (keeps_free s _)
  exact ((hf.setFld (f := LNK_STATUS_fails g) _ ha).setFld (f := LNK_STATUS_backoff g) 1 ha).part (by decide) (keeps_updGrp _ g _)

theorem fld_backsOff (s : Hw) {f : Fld} (h : f ∈ lossFlds g) : (backsOff g s).fld f = s.fld f := by
  have hw : ∀ f ∈ lossFlds g, f.lo + f.w ≤ 32 := by obtain rfl | rfl := group_cases hg <;> decide
  have hb : ∀ f ∈ lossFlds g, ∀ x ∈ [LNK_STATUS_fails g, LNK_STATUS_backoff g],
      f.addr ≠ x.addr ∨ f.lo + f.w ≤ x.lo ∨ x.lo + x.w ≤ f.lo := by obtain rfl | rfl := group_cases hg <;> decide
  have hr : ∀ n, ({ s with freeN := n } : Hw).fld f = s.fld f := fun _ => rfl
  unfold backsOff Hw.random
  dsimp only
  rw [Hw.fld_updGrp, Hw.fld_setFld_other _ _ (hw f h) (hb f h _ (by simp)),
    Hw.fld_setFld_other _ _ (hw f h) (hb f h _ (by simp)), hr]

omit hg in
theorem tellAbort_p5 {s : Hw} (r : Nat) (h : s.stage g = 5) : tellAbort s g r = s := by
  unfold tellAbort
  rw [if_neg (by rw [h]; decide), if_neg (by rw [h]; decide)]

/-- The failure is told. -/
def failTold (s : Hw) (g reason : Nat) : Hw :=
  ((s.setFld (LNK_STATUS_reason g) reason).setFld (LNK_LATCH_fail g) 1).count (LNK_C_FAIL g)

omit hg in
theorem failGroup_p5 {s : Hw} (h : s.stage g = 5) : failGroup s g 10 =
    backsOff g (toP1 ((failTold s g 10).raise 0x0602 [g, (failTold s g 10).stage g, 10]) g) := by
  unfold failGroup
  rw [tellAbort_p5 _ h]
  rfl

theorem keeps_failGroup_p5 {s : Hw} (h : s.stage g = 5) :
    keeps [0x02, 0x04, 0x05, 0x06, 0x0B] [.evr, .lanes, .grps, .freeN] s (failGroup s g 10) := by
  have ha : ∀ a ∈ [LNK_STATUS g, LNK_LATCH g, LNK_C_FAIL g], a / 65536 ∈ [0x02, 0x04, 0x05, 0x06, 0x0B] := by
    obtain rfl | rfl := group_cases hg <;> decide
  have ht : keeps [0x02, 0x04, 0x05, 0x06, 0x0B] [.evr, .lanes, .grps, .freeN] s (failTold s g 10) :=
    ((((keeps_refl _ _ s).setFld (f := LNK_STATUS_reason g) 10 (ha (LNK_STATUS g) (by simp))).setFld
      (f := LNK_LATCH_fail g) 1 (ha (LNK_LATCH g) (by simp))).setNum _ (ha (LNK_C_FAIL g) (by simp)))
  rw [failGroup_p5 h]
  exact keeps_trans (keeps_trans (ht.raise _ _ (by decide)) (keeps_mono (by decide) (by decide) (keeps_toP1 hg _)))
    (keeps_mono (by decide) (by decide) (keeps_backsOff hg _))

theorem fld_failTold (s : Hw) (r : Nat) {f : Fld} (h : f ∈ [LNK_STATUS_stage (other g), lostFld g]) :
    (failTold s g r).fld f = s.fld f := by
  have ha : ∀ f ∈ [LNK_STATUS_stage (other g), lostFld g], f.lo + f.w ≤ 32 ∧ f.addr ≠ LNK_STATUS g ∧ f.addr ≠ LNK_LATCH g ∧
      f.addr ≠ LNK_C_FAIL g := by obtain rfl | rfl := group_cases hg <;> decide
  obtain ⟨hw, h1, h2, h3⟩ := ha f h
  unfold failTold Hw.count
  rw [Hw.fld_setNum_other _ _ h3, Hw.fld_setFld_other _ _ hw (.inl h2), Hw.fld_setFld_other _ _ hw (.inl h1)]

/-- A group lost in P5 is in P1 with reason 10; its other marks stand. -/
theorem failGroup_p5_shows {s : Hw} (h : s.stage g = 5) : (failGroup s g 10).stage g = 1 ∧
    (failGroup s g 10).fld (LNK_STATUS_reason g) = 10 ∧ (failGroup s g 10).stage (other g) = s.stage (other g) ∧
    (failGroup s g 10).fld (lostFld g) = s.fld (lostFld g) := by
  have hr : (failTold s g 10).fld (LNK_STATUS_reason g) = 10 := by
    have h1 : (LNK_STATUS_reason g).addr ≠ LNK_LATCH g := by obtain rfl | rfl := group_cases hg <;> decide
    have h2 : (LNK_STATUS_reason g).addr ≠ LNK_C_FAIL g := by obtain rfl | rfl := group_cases hg <;> decide
    unfold failTold Hw.count
    rw [Hw.fld_setNum_other _ _ h2, Hw.fld_setFld_other (f := LNK_LATCH_fail g) _ _ (by obtain rfl | rfl := group_cases hg <;> decide) (.inl h1),
      Hw.fld_setFld_same _ _ (by obtain rfl | rfl := group_cases hg <;> decide)]
    rfl
  rw [failGroup_p5 h]
  refine ⟨?_, ?_, ?_, ?_⟩
  · rw [Hw.stage, fld_backsOff hg _ (by simp [lossFlds])]
    exact stage_toP1 hg _
  · rw [fld_backsOff hg _ (by simp [lossFlds]), fld_toP1_other hg _ (by simp), Hw.fld_raise, hr]
  · rw [Hw.stage, fld_backsOff hg _ (by simp [lossFlds]), fld_toP1_other hg _ (by simp), Hw.fld_raise,
      fld_failTold hg _ _ (by simp), Hw.stage]
  · rw [fld_backsOff hg _ (by simp [lossFlds]), fld_toP1_other hg _ (by simp), Hw.fld_raise, fld_failTold hg _ _ (by simp)]

/-! ### A group's flows are rerouted (R357) -/

/-- The marks of a rerouted group. -/
def rerouted (s : Hw) (g : Nat) : Hw :=
  (s.setFld (reroutedFld g) 1).cond (s.stage (other g) == 5) fun s => s.setFld (reroutedFld (other g)) 0

omit hg in
theorem reroute_eq (s : Hw) (g : Nat) : reroute s g = if s.flag (reroutedFld g) then rerouted s g else
    let t := ((rerouted s g).setFld RDN_LATCH_reroute 1).count RDN_REROUTE
    { t.raise 0x0B04 [g, other g, preferring t g] with brc := { t.brc with rerouteAt := some t.dtime } } := rfl

theorem keeps_reroute (s : Hw) : keeps [0x0B] [.evr, .brc] s (reroute s g) := by
  have ha : ∀ a ∈ [(reroutedFld g).addr, (reroutedFld (other g)).addr], a / 65536 ∈ [0x0B] := by obtain rfl | rfl := group_cases hg <;> decide
  have hr : keeps [0x0B] [.evr, .brc] s (rerouted s g) :=
    ((keeps_refl _ _ s).setFld 1 (ha _ (by simp))).cond _ (keeps_setFld _ _ _ _ _ (ha _ (by simp)))
  rw [reroute_eq]
  refine Hw.ite_keeps (P := keeps [0x0B] [.evr, .brc] s) hr ?_
  exact (((hr.setFld (f := RDN_LATCH_reroute) 1 (by decide)).setNum _ (by decide)).raise _ _ (by decide)).part (by decide)
    (keeps_brc _ _)

/-- Beyond the marks in `rerouted`, no field of RDN_STATUS or of a group's status changes. -/
theorem fld_reroute (s : Hw) {f : Fld} (h : f ∈ [lostFld g, reroutedFld g, reroutedFld (other g), LNK_STATUS_reason g, LNK_STATUS_stage g]) :
    (reroute s g).fld f = (rerouted s g).fld f := by
  have ha : ∀ f ∈ [lostFld g, reroutedFld g, reroutedFld (other g), LNK_STATUS_reason g, LNK_STATUS_stage g],
      f.lo + f.w ≤ 32 ∧ f.addr ≠ RDN_LATCH ∧ f.addr ≠ RDN_REROUTE := by obtain rfl | rfl := group_cases hg <;> decide
  have hb : ∀ (t : Hw) (x : Brc), ({ t with brc := x } : Hw).fld f = t.fld f := fun _ _ => rfl
  obtain ⟨hw, h1, h2⟩ := ha f h
  rw [reroute_eq]
  refine Hw.ite_same (fun t => t.fld f) rfl ?_
  dsimp only
  rw [hb, Hw.fld_raise, Hw.count, Hw.fld_setNum_other _ _ h2, Hw.fld_setFld_other (f := RDN_LATCH_reroute) _ _ hw (.inl h1)]

theorem fld_rerouted_other (s : Hw) {f : Fld} (h : f ∈ [lostFld g, LNK_STATUS_reason g, LNK_STATUS_stage g]) :
    (rerouted s g).fld f = s.fld f := by
  have ha : ∀ f ∈ [lostFld g, LNK_STATUS_reason g, LNK_STATUS_stage g], f.lo + f.w ≤ 32 ∧
      ∀ x ∈ [reroutedFld g, reroutedFld (other g)], f.addr ≠ x.addr ∨ f.lo + f.w ≤ x.lo ∨ x.lo + x.w ≤ f.lo := by
    obtain rfl | rfl := group_cases hg <;> decide
  obtain ⟨hw, hx⟩ := ha f h
  unfold rerouted
  refine (Hw.cond_same (fun t => t.fld f) _ _ ?_).trans ?_
  · exact Hw.fld_setFld_other _ _ hw (hx _ (by simp))
  · exact Hw.fld_setFld_other _ _ hw (hx _ (by simp))

theorem rerouted_shows (s : Hw) : (rerouted s g).flag (reroutedFld g) = true ∧
    (s.stage (other g) = 5 → (rerouted s g).flag (reroutedFld (other g)) = false) := by
  have ha : (reroutedFld g).lo + (reroutedFld g).w ≤ 32 ∧ (reroutedFld g).w = 1 ∧ (reroutedFld (other g)).w = 1 ∧
      (reroutedFld (other g)).lo < 32 ∧ ((reroutedFld g).lo + (reroutedFld g).w ≤ (reroutedFld (other g)).lo ∨
        (reroutedFld (other g)).lo + (reroutedFld (other g)).w ≤ (reroutedFld g).lo) := by obtain rfl | rfl := group_cases hg <;> decide
  obtain ⟨hw, h1, h2, h3, hd⟩ := ha
  unfold rerouted
  constructor
  · refine (Hw.cond_same (fun t : Hw => t.flag (reroutedFld g)) _ _ ?_).trans ?_
    · exact Hw.flag_setFld_other _ _ hw (.inr hd)
    · exact Hw.flag_set _ h1 (by omega)
  · intro h
    rw [h]
    exact Hw.flag_clear _ h2 h3

/-! ### The loss of a group (R235) -/

omit hg in
theorem loseGroup_native {s : Hw} {k : Nat} (hk : k < 3) (h5 : s.stage g = 5) (hn : s.native g = true) : loseGroup s g k =
    reroute (failGroup (((s.raise 0x0B03 [g, k, s.fld (failedFld g)]).setFld (lostFld g) 1).setFld RDN_LATCH_lost 1) g 10) g := by
  have hm : (s.mode g == 2 && s.fld (LFM_CFG_c2_layout g) == 1) = false := by
    have := of_decide_eq_true hn
    rw [beq_false_of_ne (by omega), Bool.false_and]
  unfold loseGroup
  rw [if_neg (not_not_intro h5), hm, if_neg (by omega), Hw.cond, if_neg Bool.false_ne_true]

/-- The loss is told. -/
def lossTold (s : Hw) (g k : Nat) : Hw :=
  ((s.raise 0x0B03 [g, k, s.fld (failedFld g)]).setFld (lostFld g) 1).setFld RDN_LATCH_lost 1

theorem lossTold_shows (s : Hw) (k : Nat) : (lossTold s g k).stage g = s.stage g ∧ (lossTold s g k).stage (other g) = s.stage (other g) ∧
    (lossTold s g k).fld (lostFld g) = 1 := by
  have hs : ∀ j, j < 2 → (lossTold s g k).stage j = s.stage j := fun j hj => by
    have h1 : (LNK_STATUS_stage j).addr ≠ RDN_LATCH ∧ (LNK_STATUS_stage j).addr ≠ (lostFld g).addr := by
      obtain rfl | rfl := group_cases hj <;> obtain rfl | rfl := group_cases hg <;> decide
    rw [Hw.stage, lossTold, Hw.fld_setFld_other (f := RDN_LATCH_lost) _ _ (by obtain rfl | rfl := group_cases hj <;> decide) (.inl h1.1),
      Hw.fld_setFld_other _ _ (by obtain rfl | rfl := group_cases hj <;> decide) (.inl h1.2), Hw.fld_raise, Hw.stage]
  refine ⟨hs g hg, hs (other g) (by unfold other; omega), ?_⟩
  rw [lossTold, Hw.fld_setFld_other (f := RDN_LATCH_lost) _ _ (by obtain rfl | rfl := group_cases hg <;> decide)
    (.inl (by obtain rfl | rfl := group_cases hg <;> decide)), Hw.fld_setFld_same _ _ (by obtain rfl | rfl := group_cases hg <;> decide)]
  obtain rfl | rfl := group_cases hg <;> rfl

theorem loseGroup_shows {s : Hw} {k : Nat} (hk : k < 3) (h5 : s.stage g = 5) (hn : s.native g = true) :
    keeps [0x02, 0x03, 0x04, 0x05, 0x06, 0x0B, 0x12] [.evr, .pwr, .lanes, .grps, .brc, .freeN, .out] s (loseGroup s g k) ∧
    (loseGroup s g k).stage g = 1 ∧ (loseGroup s g k).flag (lostFld g) = true ∧ (loseGroup s g k).flag (reroutedFld g) = true ∧
    (s.stage (other g) = 5 → (loseGroup s g k).flag (reroutedFld (other g)) = false) ∧
    (loseGroup s g k).fld (LNK_STATUS_reason g) = 10 := by
  obtain ⟨hs, ho, hl⟩ := lossTold_shows hg s k
  have ht : keeps [0x0B] [.evr] s (lossTold s g k) :=
    ((keeps_refl _ _ s).raise _ _ (by decide)).setFld _ (by obtain rfl | rfl := group_cases hg <;> decide) |>.setFld _ (by decide)
  obtain ⟨fs, fr, fo, fl⟩ := failGroup_p5_shows hg (hs.trans h5)
  obtain ⟨hr, hx⟩ := rerouted_shows hg (failGroup (lossTold s g k) g 10)
  rw [loseGroup_native hk h5 hn, ← lossTold]
  refine ⟨?_, ?_, ?_, ?_, fun h => ?_, ?_⟩
  · exact keeps_trans (keeps_mono (by decide) (by decide) ht)
      (keeps_trans (keeps_mono (by decide) (by decide) (keeps_failGroup_p5 hg (hs.trans h5)))
        (keeps_mono (by decide) (by decide) (keeps_reroute hg _)))
  · rw [Hw.stage, fld_reroute hg _ (by simp), fld_rerouted_other hg _ (by simp)]
    exact fs
  · rw [Hw.flag, fld_reroute hg _ (by simp), fld_rerouted_other hg _ (by simp), fl, hl]
    rfl
  · rw [Hw.flag, fld_reroute hg _ (by simp)]
    exact hr
  · rw [Hw.flag, fld_reroute hg _ (by simp)]
    exact hx (fo.trans (ho.trans h))
  · rw [fld_reroute hg _ (by simp), fld_rerouted_other hg _ (by simp), fr]

end

/-! ### The redundancy requests -/

theorem rdnLaneSet_body {b : Hw} {c : Call} (hs : b.stage (u8 c.p 0) = 5)
    (hl : u8 c.p 1 = 0 ∨ b.fld (LNK_CFG_min_lanes (u8 c.p 0)) ≤
      popCount 4 (b.txMask (u8 c.p 0)) - popCount 4 (b.txMask (u8 c.p 0) &&& u8 c.p 1))
    (hj : ((bitsOf 4 (u8 c.p 2)).all fun p => (b.grp (u8 c.p 0)).health.head?.any (fun x => hasBit x.1 p) &&
      (Map.get none (b.grp (u8 c.p 0)).retrain p).isNone) = true) :
    opRdnLaneSet.body b c = .ok (askMask ((b.setFld (heldFld (u8 c.p 0)) ((bitsOf 4 (u8 c.p 2)).foldl (fun m p => setBit m p false)
      ((bitsOf 4 (u8 c.p 1)).foldl (fun m p => setBit m p true) (b.fld (heldFld (u8 c.p 0)))))).updGrp (u8 c.p 0) fun x =>
        { x with
          handShed := (bitsOf 4 (u8 c.p 2)).foldl (fun m p => setBit m p false)
            ((bitsOf 4 (u8 c.p 1)).foldl (fun m p => setBit m p true) x.handShed)
          sheds := (bitsOf 4 (u8 c.p 2)).foldl (fun m p => Map.put [] m p []) x.sheds })
      (u8 c.p 0) ((bitsOf 4 (u8 c.p 1)).map (fun p => MaskWant.mk p false 4 255) ++
        (bitsOf 4 (u8 c.p 2)).map fun p => MaskWant.mk p true 4 255)) := by
  have hn : ¬ (u8 c.p 1 ≠ 0 ∧ popCount 4 (b.txMask (u8 c.p 0)) - popCount 4 (b.txMask (u8 c.p 0) &&& u8 c.p 1) <
      b.fld (LNK_CFG_min_lanes (u8 c.p 0))) := fun ⟨h0, h1⟩ => hl.elim h0 fun h => absurd h1 (Nat.not_lt.mpr h)
  unfold opRdnLaneSet OpSpec.fix
  dsimp only
  rw [if_neg (not_not_intro hs), if_neg hn, if_neg]
  rw [Bool.not_eq_true', Bool.not_eq_false, ← hj]
  congr 1
  funext p
  cases (b.grp (u8 c.p 0)).health.head? <;> rfl

theorem revert_eq (h : Hw) (g k : Nat) : revert h g k = ((h.setFld (reroutedFld g) 0).raise 0x0B07 [g, k]).updGrp g fun x =>
    { x with revertAt := h.dtime + 1 } := by
  unfold revert
  dsimp only
  rw [Hw.raise_dtime, Hw.setFld_dtime]

theorem rdnFaultInject_body {b : Hw} {c : Call} (hs : b.stage (u8 c.p 0) = 5) : opRdnFaultInject.body b c =
    .ok (declareFail (abandonRetrain (b.updGrp (u8 c.p 0) fun x =>
      { x with inject := Map.put 0 x.inject (u8 c.p 1) (b.dtime + u16 c.p 2 * 1000000) }) (u8 c.p 0) (u8 c.p 1)) (u8 c.p 0)
        (u8 c.p 1) 4) :=
  if_neg (not_not_intro hs)

theorem revertHoldExpiry_due {h : Hw} {g t : Nat} (hp : (h.grp g).promSince = some t) (hr : h.flag (reroutedFld g) = true)
    (h0 : h.fld RDN_CFG_revert_s ≠ 0) (hs : h.stage g = 5) (hd : t + h.fld RDN_CFG_revert_s * 1000000000 ≤ h.dtime) :
    revertHoldExpiry g h = revert h g 0 := by
  unfold revertHoldExpiry
  rw [hp]
  dsimp only
  rw [hr, bne_iff_ne.mpr h0, hs, decide_eq_true hd, if_pos (by decide)]

/-- Settles O35: the bodies of the requests, and what the loss of a group shows. -/
theorem redundancyRequestsAndReverts : Obligations.RedundancyRequestsAndReverts := by
  unfold Obligations.RedundancyRequestsAndReverts
  refine ⟨?_, ?_, ?_, revert_eq, ?_, ?_, fun g k => ?_, fun g t => ?_⟩
  · exact runsOk_intro (fun _ _ _ => rfl) fun b c _ => ⟨_, _, rfl, rfl, rfl⟩
  · exact runsOk_intro (fun _ _ _ => rfl) fun b c ⟨hs, hl, hj⟩ => ⟨_, _, rdnLaneSet_body hs hl hj, rfl, rfl⟩
  · refine runsOk_intro (fun _ _ _ => rfl) fun b c ⟨hs, hp⟩ => ⟨_, _, if_neg ?_, rfl, rfl⟩
    rw [hp]
    exact fun h => h.elim (fun h => h hs) (by decide)
  · exact runsOk_intro (fun _ _ _ => rfl) fun b c _ => ⟨_, _, rfl, rfl, rfl⟩
  · exact runsOk_intro (fun _ _ _ => rfl) fun b c hs => ⟨_, _, rdnFaultInject_body hs, rfl, rfl⟩
  · refine happens_intro (fun _ _ => rfl) fun h ⟨hc, hs, hn⟩ => ?_
    rw [groupLoss, if_pos hc]
    exact loseGroup_shows g.isLt k.isLt hs hn
  · exact happens_intro (fun _ _ => rfl) fun h ⟨hp, hr, h0, hs, hd⟩ => revertHoldExpiry_due hp hr h0 hs hd

end Sys2Proof.Machine

namespace Sys2Proof.Machine
open Reg

/-! ### Lane health (R359) -/

theorem laneFailDeclare_holds {h : Hw} {n cs cw : Nat} (hs : h.stage (laneGroup n) = 5) (hn : h.native (laneGroup n) = true)
    (hc : failCause h (laneGroup n) (n % 4) cs cw = true) : laneFailDeclare n cs cw h =
      declareFail (abandonRetrain h (laneGroup n) (n % 4)) (laneGroup n) (n % 4) cs := by
  unfold laneFailDeclare
  dsimp only
  rw [hs, hn, hc, if_pos (by decide)]

theorem laneHealthReceived_native {h : Hw} {g a f : Nat} (hs : h.stage g = 5) (hn : h.native g = true) :
    laneHealthReceived g a f h =
      let t := (h.setFld (peerFailFld g) f).updGrp g fun x => { x with health := ((a % 16, f % 16) :: x.health).take 2 }
      let gone := (bitsOf 4 (f &&& ((h.grp g).health.head?.map Prod.snd).getD 0)).filter fun p => hasBit (t.txMask g) p
      let v := t.cond (!gone.isEmpty) fun s => askMask s g (gone.map fun p => MaskWant.mk p false 1 255)
      v.cond (v.stage g == 5) fun s => s.cond (!((List.range 4).filter fun p => mayJoin s g p).isEmpty) fun s =>
        askMask s g (((List.range 4).filter fun p => mayJoin s g p).map fun p => MaskWant.mk p true 3 255) := by
  unfold laneHealthReceived
  rw [hs, hn, if_neg (by decide)]
  exact Hw.cond_congr _ (Hw.cond_congr _ rfl)

theorem laneHealthPeriod_native {h : Hw} {g : Nat} (hs : h.stage g = 5) (hn : h.native g = true) :
    laneHealthPeriod g h = sendHealth h g := by
  unfold laneHealthPeriod
  rw [hs, hn, if_pos (by decide)]

/-! ### Remaps received (R242) -/

/-- What a REMAP does: `known` says that its generation is in force or pending, `passed` that its point has gone by. -/
def remapTaken (g : Nat) (r : Remap) (known passed : Bool) (s : Hw) : Hw :=
  let s := sendFour s g 0x0003 (ackMask s g r.mask) (toBE 1 r.gen ++ toBE 1 r.mask ++ toBE 1 (if passed then 1 else 0))
  let s := s.cond (!known && !passed) fun s => s.updGrp g fun x => { x with rxRemap := some r }
  let asked := fun p => ((s.grp g).wants.any fun w => !w.join && w.lane == p) || ((s.grp g).txRemap.any fun r => !hasBit r.mask p)
  let gone := (bitsOf 4 (s.txMask g)).filter fun p => hasBit (s.rxMask g) p && !hasBit r.mask p && !asked p
  if known || r.reason ≠ 2 || gone.isEmpty then s else askMask s g (gone.map fun p => ⟨p, false, 1, 255⟩)

section
variable {h : Hw} {g ge m fr q rs : Nat} (hs : h.stage g = 5) (hn : h.native g = true)
include hs hn

theorem remapReceived_native : remapReceived g ge m fr q rs h =
    let known := decide (ge = (h.grp g).rxGen) || (h.grp g).rxRemap.any fun r => r.gen == ge
    remapTaken g ⟨ge, m, fr, q, rs, h.dtime⟩ known
      (!known && frameAfter (h.num64 (LFM_FRAMES g)) fr && (h.num64 (LFM_FRAMES g) != fr || decide (q < rxQ h g))) h := by
  unfold remapReceived
  rw [hs, hn, if_neg (by decide)]
  rfl

end

/-- The answer to a REMAP. -/
def remapAnswered (g : Nat) (r : Remap) (passed : Bool) (s : Hw) : Hw :=
  sendFour s g 0x0003 (ackMask s g r.mask) (toBE 1 r.gen ++ toBE 1 r.mask ++ toBE 1 (if passed then 1 else 0))

theorem remapTaken_known (g : Nat) (r : Remap) (p : Bool) (s : Hw) : remapTaken g r true p s = remapAnswered g r p s := rfl

theorem remapTaken_passed (g : Nat) {r : Remap} (h : r.reason ≠ 2) (s : Hw) :
    remapTaken g r false true s = remapAnswered g r true s := by
  unfold remapTaken
  dsimp only
  rw [Bool.false_or, decide_eq_true h, Bool.true_or, if_pos rfl]
  rfl

theorem remapTaken_pending (g : Nat) {r : Remap} (h : r.reason ≠ 2) (s : Hw) : remapTaken g r false false s =
    (remapAnswered g r false s).updGrp g fun x => { x with rxRemap := some r } := by
  unfold remapTaken
  dsimp only
  rw [Bool.false_or, decide_eq_true h, Bool.true_or, if_pos rfl]
  rfl

theorem remapTaken_receiver (g : Nat) {r : Remap} (p : Bool) (h : r.reason = 2) (s : Hw) : remapTaken g r false p s =
    let t := (remapAnswered g r p s).cond (!p) fun s => s.updGrp g fun x => { x with rxRemap := some r }
    let gone := (bitsOf 4 (t.txMask g)).filter fun p => hasBit (t.rxMask g) p && !hasBit r.mask p &&
      !((t.grp g).wants.any (fun w => !w.join && w.lane == p) || (t.grp g).txRemap.any fun r => !hasBit r.mask p)
    if gone.isEmpty then t else askMask t g (gone.map fun p => MaskWant.mk p false 1 255) := by
  unfold remapTaken
  dsimp only
  rw [Bool.false_or, decide_eq_false (not_not_intro h), Bool.false_or]
  rfl

/-! ### Acknowledgements -/

/-- Settles O36: what the lanes' health and the peer's remaps do to a group. -/
theorem laneHealthAndRemaps : Obligations.LaneHealthAndRemaps := by
  unfold Obligations.LaneHealthAndRemaps
  refine ⟨fun n cs cw => ?_, fun n => ?_, fun g a f => ?_, fun g => ?_, fun g ge m fr q rs => ?_, fun g ge m fr q rs => ?_,
    fun g ge m fr q rs => ?_, fun g ge => ?_, fun g => ?_⟩
  · exact happens_intro (fun _ _ => rfl) fun h ⟨hs, hn, hc⟩ => laneFailDeclare_holds hs hn hc
  · exact happens_intro (fun _ _ => rfl) fun h hd => if_pos hd
  · exact happens_intro (fun _ _ => rfl) fun h ⟨hs, hn⟩ => laneHealthReceived_native hs hn
  · exact happens_intro (fun _ _ => rfl) fun h ⟨hs, hn⟩ => laneHealthPeriod_native hs hn
  · refine happens_intro (fun _ _ => rfl) fun h ⟨hs, hn, hk, hp, hr⟩ => ?_
    rw [remapReceived_native hs hn]
    dsimp only
    rw [hk, Bool.not_false, Bool.true_and, hp, remapTaken_pending _ hr]
    rfl
  · refine happens_intro (fun _ _ => rfl) fun h ⟨hs, hn, hk, hr⟩ => ?_
    rw [remapReceived_native hs hn]
    dsimp only
    rw [hk, Bool.not_false, Bool.true_and, remapTaken_receiver _ _ hr]
    rfl
  · refine happens_intro (fun _ _ => rfl) fun h ⟨hs, hn, hc⟩ => ?_
    rw [remapReceived_native hs hn]
    dsimp only
    rcases hk : (decide (ge = (h.grp g).rxGen) || (h.grp g).rxRemap.any fun r => r.gen == ge)
    · obtain ⟨hp, hr⟩ := hc.resolve_left (by rw [hk]; decide)
      rw [hk, Bool.not_false, Bool.true_and, hp, remapTaken_passed _ hr, if_pos ⟨rfl, rfl⟩]
      rfl
    · rw [hk, remapTaken_known, Bool.not_true, Bool.false_and, if_neg (by simp)]
      rfl
  · exact happens_intro (fun _ _ => rfl) fun h _ => rfl
  · exact happens_intro (fun _ _ => rfl) fun h _ => rfl

end Sys2Proof.Machine

namespace Sys2Proof.Machine
open Reg

/-! ### A run over units (R374) -/

/-- What the step of index `n` brings about stands after the run: each step keeps the premise `P`, and those of other indices keep
what has been brought about. -/
theorem Hw.each_reaches (P F : Hw → Prop) {f : Nat → Hw → Hw} {n : Nat} (hP : ∀ u s, P s → P (f u s)) (hn : ∀ s, P s → F (f n s))
    (hF : ∀ u s, u ≠ n → F s → F (f u s)) {l : List Nat} (hl : n ∈ l) {s : Hw} (hs : P s) : F (s.each l f) := by
  induction l generalizing s with
  | nil => simp at hl
  | cons u l ih =>
    rw [Hw.each_cons]
    by_cases hm : n ∈ l
    · exact ih hm (hP u s hs)
    · have hu : n = u := (List.mem_cons.mp hl).resolve_right hm
      subst hu
      exact Hw.each_keeps F l f (fun i hi t ht => hF i t (fun e => hm (e ▸ hi)) ht) _ (hn s hs)

theorem mem_bitsOf {k m n : Nat} : n ∈ bitsOf k m ↔ n < k ∧ hasBit m n = true := by
  unfold bitsOf
  rw [List.mem_filter, List.mem_range]

/-- A unit's new target. -/
def targetOne (t u : Nat) (s : Hw) : Hw :=
  let s := (s.setFld (FES_STATE_target u) t).updFes u fun x => { x with failed := false, turned := false }
  s.setFlag (FES_STATE_held u) (decide (t ≥ 2) && !s.flag (FES_STATE_lock u))

theorem setTargets_eq (s : Hw) (m t : Nat) : setTargets s m t = s.each (bitsOf 12 m) (targetOne t) := rfl

theorem FES_STATE_inj {u n : Nat} (h : u ≠ n) : FES_STATE n ≠ FES_STATE u := by
  unfold FES_STATE
  omega

theorem fld_updFes (s : Hw) (u : Nat) (k : Fes → Fes) (f : Fld) : (s.updFes u k).fld f = s.fld f := rfl

theorem fesu_updFes_same (s : Hw) (u : Nat) (k : Fes → Fes) : (s.updFes u k).fesu u = k (s.fesu u) := Map.get_upd_same _ _ _ _

theorem fesu_updFes_other (s : Hw) {u n : Nat} (h : u ≠ n) (k : Fes → Fes) : (s.updFes u k).fesu n = s.fesu n :=
  Map.get_put_other _ _ _ _ h.symm

theorem fesu_setFld (s : Hw) (f : Fld) (v n : Nat) : (s.setFld f v).fesu n = s.fesu n := rfl

theorem fesu_targetOne_other (t : Nat) {u n : Nat} (h : u ≠ n) (s : Hw) : (targetOne t u s).fesu n = s.fesu n := by
  unfold targetOne Hw.setFlag
  dsimp only
  rw [fesu_setFld, fesu_updFes_other _ h, fesu_setFld]

theorem fld_targetOne_other (t : Nat) {u n : Nat} (h : u ≠ n) (s : Hw) {f : Fld} (hf : f.lo + f.w ≤ 32) (ha : f.addr = FES_STATE n) :
    (targetOne t u s).fld f = s.fld f := by
  have hu : f.addr ≠ FES_STATE u := ha ▸ FES_STATE_inj h
  unfold targetOne Hw.setFlag
  dsimp only
  rw [Hw.fld_setFld_other (f := FES_STATE_held u) _ _ hf (.inl hu), fld_updFes,
    Hw.fld_setFld_other (f := FES_STATE_target u) _ _ hf (.inl hu)]

theorem fitsState (n : Nat) : (FES_STATE_lock n).lo + (FES_STATE_lock n).w ≤ 32 ∧ (FES_STATE_target n).lo + (FES_STATE_target n).w ≤ 32 ∧
    (FES_STATE_held n).lo + (FES_STATE_held n).w ≤ 32 := by
  unfold FES_STATE_lock FES_STATE_target FES_STATE_held
  dsimp only
  decide

theorem lock_targetOne (t u n : Nat) (s : Hw) : (targetOne t u s).flag (FES_STATE_lock n) = s.flag (FES_STATE_lock n) := by
  obtain ⟨hl, _, _⟩ := fitsState n
  by_cases h : u = n
  · subst h
    unfold targetOne Hw.setFlag
    dsimp only
    rw [Hw.flag, Hw.fld_setFld_other (f := FES_STATE_held u) _ _ hl (.inr (.inr (by unfold FES_STATE_held FES_STATE_lock; dsimp only; decide))),
      fld_updFes,
      Hw.fld_setFld_other (f := FES_STATE_target u) _ _ hl (.inr (.inl (by unfold FES_STATE_target FES_STATE_lock; dsimp only; decide))),
      Hw.flag]
  · rw [Hw.flag, fld_targetOne_other t h s hl rfl, Hw.flag]

/-- What a unit's new target shows. -/
structure TargetShown (t n : Nat) (k : Bool) (s : Hw) : Prop where
  target : s.fld (FES_STATE_target n) = t
  failed : (s.fesu n).failed = false
  turned : (s.fesu n).turned = false
  held   : s.flag (FES_STATE_held n) = (decide (2 ≤ t) && !k)

theorem targetShown_same {t n : Nat} (ht : t < 8) (s : Hw) : TargetShown t n (s.flag (FES_STATE_lock n)) (targetOne t n s) := by
  obtain ⟨hl, hg, hh⟩ := fitsState n
  have ha : (FES_STATE_held n).lo + (FES_STATE_held n).w ≤ (FES_STATE_target n).lo ∧
      (FES_STATE_lock n).lo + (FES_STATE_lock n).w ≤ (FES_STATE_target n).lo ∧ (FES_STATE_held n).w = 1 ∧
      (FES_STATE_held n).lo < 32 ∧ (FES_STATE_target n).w = 3 := by
    unfold FES_STATE_held FES_STATE_target FES_STATE_lock
    dsimp only
    decide
  obtain ⟨h1, h2, h3, h4, h5⟩ := ha
  unfold targetOne
  dsimp only
  refine ⟨?_, ?_, ?_, ?_⟩
  · rw [Hw.setFlag, Hw.fld_setFld_other (f := FES_STATE_held n) _ _ hg (.inr (.inr h1)), fld_updFes, Hw.fld_setFld_same _ _ hg, h5]
    exact Nat.mod_eq_of_lt ht
  · rw [Hw.setFlag, fesu_setFld, fesu_updFes_same]
  · rw [Hw.setFlag, fesu_setFld, fesu_updFes_same]
  · rw [Hw.flag_setFlag_same _ _ h3 h4, Hw.flag, fld_updFes, Hw.fld_setFld_other (f := FES_STATE_target n) _ _ hl (.inr (.inl h2)),
      Hw.flag]

theorem targetShown_other {t u n : Nat} {k : Bool} (h : u ≠ n) {s : Hw} (hs : TargetShown t n k s) :
    TargetShown t n k (targetOne t u s) := by
  obtain ⟨_, hg, hh⟩ := fitsState n
  refine ⟨?_, ?_, ?_, ?_⟩
  · exact (fld_targetOne_other t h s hg rfl).trans hs.target
  · rw [fesu_targetOne_other t h]
    exact hs.failed
  · rw [fesu_targetOne_other t h]
    exact hs.turned
  · rw [Hw.flag, fld_targetOne_other t h s hh rfl]
    exact hs.held

theorem setTargets_shows (h : Hw) (m : Nat) {t n : Nat} (ht : t < 8) (hn : n < 12) (hm : hasBit m n = true) :
    TargetShown t n (h.flag (FES_STATE_lock n)) (setTargets h m t) := by
  rw [setTargets_eq]
  refine Hw.each_reaches (fun s => s.flag (FES_STATE_lock n) = h.flag (FES_STATE_lock n)) _
    (fun u s hs => (lock_targetOne t u n s).trans hs) (fun s hs => ?_) (fun u s hu hs => targetShown_other hu hs)
    (mem_bitsOf.mpr ⟨hn, hm⟩) rfl
  rw [← hs]
  exact targetShown_same ht s

theorem setTargets_outside (h : Hw) (m t : Nat) {n : Nat} (hm : hasBit m n = false) :
    (setTargets h m t).fld (FES_STATE_target n) = h.fld (FES_STATE_target n) := by
  rw [setTargets_eq]
  refine Hw.each_keeps (fun s => s.fld (FES_STATE_target n) = h.fld (FES_STATE_target n)) _ _ (fun u hu s hs => ?_) _ rfl
  have hne : u ≠ n := fun e => by
    rw [e, mem_bitsOf, hm] at hu
    exact Bool.false_ne_true hu.2
  exact (fld_targetOne_other t hne s (fitsState n).2.1 rfl).trans hs

/-! ### The front-end requests (R371 to R390) -/

theorem fesConfig_body {b : Hw} {c : Call} (hs : b.fstate (u8 c.p 0) = 0) (hm : b.flag (FES_STATE_moving (u8 c.p 0)) = false) :
    opFesConfig.body b c = .ok (safeNamed (applyFesConfig c.p b) (u8 c.p 0)) := by
  unfold opFesConfig OpSpec.fix
  dsimp only
  rw [if_neg]
  rw [hm]
  exact fun h => h.elim (fun h => h hs) Bool.false_ne_true

/-- The state that a target is set in. -/
def targetsSet (b : Hw) (m t : Nat) : Hw := setTargets { b with pwr := { b.pwr with setSince := b.pwr.setSince ||| m } } m t

theorem not_any_of_all {l : List Nat} {p : Nat → Bool} (h : l.all p = true) : (l.any fun u => !p u) = false := by
  rw [← Bool.not_eq_true, List.any_eq_true]
  rintro ⟨u, hu, hp⟩
  rw [List.all_eq_true.mp h u hu] at hp
  exact Bool.false_ne_true hp

theorem fesStateSet_body {b : Hw} {c : Call} (hw : u8 c.p 2 = 0 ∨ (bitsOf 12 (u16 c.p 0)).all (fun u => wired b u) = true)
    (ht : u8 c.p 2 ≤ 1 ∨ (bitsOf 12 (u16 c.p 0)).all (fun u => tableOk b u) = true) : opFesStateSet.body b c =
      if ((bitsOf 12 (u16 c.p 0)).all fun u => reached (targetsSet b (u16 c.p 0) (u8 c.p 2)) u) then
        .ok (targetsSet b (u16 c.p 0) (u8 c.p 2))
      else .wait (.fesState (u16 c.p 0) (if u16 c.p 3 = 0 then b.fld FES_CFG_deadline else u16 c.p 3)
        (units12.map fun u => b.fld (FES_STATE_target u))) (targetsSet b (u16 c.p 0) (u8 c.p 2)) := by
  have h1 : ¬ (u8 c.p 2 > 0 ∧ ((bitsOf 12 (u16 c.p 0)).any fun u => !wired b u) = true) := fun ⟨h, k⟩ => by
    have := not_any_of_all (hw.resolve_left (by omega))
    exact Bool.false_ne_true (this.symm.trans k)
  have h2 : ¬ (u8 c.p 2 > 1 ∧ ((bitsOf 12 (u16 c.p 0)).any fun u => !tableOk b u) = true) := fun ⟨h, k⟩ => by
    have := not_any_of_all (ht.resolve_left (by omega))
    exact Bool.false_ne_true (this.symm.trans k)
  unfold opFesStateSet OpSpec.fix
  dsimp only
  rw [if_neg h1, if_neg h2]
  rfl

theorem requestTurn_eq (h : Hw) (n : Nat) : requestTurn n h =
    let s := (h.setNum64 (FES_TURN_T n) (h.dtime % 2 ^ 64)).updFes n fun x => { x with turned := true, reqAt := some h.dtime }
    if turnReady h n = true then (s.setFld (FES_STATE_moving n) 1).updFes n fun x =>
      { x with turn := some (x.turn.getD h.dtime), toward := 4 }
    else (s.setFld (FES_LATCH_turn_missed n) 1).raise 0x0D05 [n, 1] := by
  have hd : ∀ (s : Hw) (k : Fes → Fes), (s.updFes n k).dtime = s.dtime := fun _ _ => rfl
  unfold requestTurn
  dsimp only
  rw [hd, Hw.setNum64_dtime]

theorem faultClear_one (s : Hw) (u : Nat) : (match faultCause s u with
    | some (c, w) => setFault s u c w
    | none => s) = (faultCause s u).elim s fun x => setFault s u x.1 x.2 := by
  cases faultCause s u <;> rfl

/-- Settles O37: the bodies of the requests, and what a target and a turn set. -/
theorem frontEndRequests : Obligations.FrontEndRequests := by
  unfold Obligations.FrontEndRequests
  refine ⟨?_, ?_, ?_, fun h m t n ht hn => ⟨fun hm => ?_, setTargets_outside h m t⟩, ?_, ?_, fun h n _ => requestTurn_eq h n, ?_, ?_⟩
  · exact runsOk_intro (fun _ _ _ => rfl) fun b c ⟨hs, hm⟩ => ⟨_, _, fesConfig_body hs hm, rfl, rfl⟩
  · exact runsOk_intro (fun _ _ _ => rfl) fun b c ⟨hw, ht, hr⟩ => ⟨_, _, (fesStateSet_body hw ht).trans (if_pos hr), rfl, rfl⟩
  · exact runsOn_intro (fun _ _ _ => rfl) fun b c ⟨hw, ht, hr⟩ =>
      ⟨_, _, (fesStateSet_body hw ht).trans (if_neg (Bool.eq_false_iff.mp hr)), rfl, rfl⟩
  · obtain ⟨h1, h2, h3, h4⟩ := setTargets_shows h m ht hn hm
    exact ⟨h1, h2, h3, h4⟩
  · exact runsOk_intro (fun _ _ _ => rfl) fun b c h => ⟨_, _, if_neg (Bool.eq_false_iff.mp (not_any_of_all h)), rfl, rfl⟩
  · exact runsOk_intro (fun _ _ _ => rfl) fun b c h => ⟨_, _, if_neg (Bool.eq_false_iff.mp (not_any_of_all h)), rfl, rfl⟩
  · refine runsOk_intro (fun _ _ _ => rfl) fun b c _ => ⟨_, _, rfl, rfl, ?_⟩
    congr 1
    funext u s
    exact faultClear_one _ u
  · exact runsOk_intro (fun _ _ _ => rfl) fun b c _ => ⟨_, _, rfl, rfl, rfl⟩

end Sys2Proof.Machine

namespace Sys2Proof.Machine
open Reg

/-! ### The analogue outputs lie behind every front-end word (Tables 11-4 and 14-3) -/

theorem Hw.fld_updOut (s : Hw) (o : Nat) (k : AouOut → AouOut) (f : Fld) : (s.updOut o k).fld f = s.fld f := rfl

theorem Hw.fld_cond {s : Hw} {b : Bool} {k : Hw → Hw} {f : Fld} (h : (k s).fld f = s.fld f) : (s.cond b k).fld f = s.fld f :=
  Hw.cond_same (fun t => t.fld f) b s h

theorem Hw.fld_ite {c : Prop} [Decidable c] {s t u : Hw} {f : Fld} (hs : s.fld f = u.fld f) (ht : t.fld f = u.fld f) :
    (if c then s else t).fld f = u.fld f := Hw.ite_same (fun t => t.fld f) hs ht

section
variable {f : Fld} (hf : f.lo + f.w ≤ 32) (ha : f.addr < 0x100000)
include hf ha

theorem fld_aouCode (s : Hw) (o v : Nat) {g : Fld} (hg : g.addr = AOU_CODE o) : (s.setFld g v).fld f = s.fld f := by
  refine Hw.fld_setFld_other s v hf (.inl fun h => ?_)
  rw [hg, AOU_CODE] at h
  omega

theorem fld_aouStat (s : Hw) (o v : Nat) {g : Fld} (hg : g.addr = AOU_OSTAT o) : (s.setFld g v).fld f = s.fld f := by
  refine Hw.fld_setFld_other s v hf (.inl fun h => ?_)
  rw [hg, AOU_OSTAT] at h
  omega

theorem fld_aouWrite (s : Hw) (o c w : Nat) : (aouWrite s o c w).fld f = s.fld f := by
  unfold aouWrite
  refine Hw.fld_ite rfl ?_
  dsimp only
  rw [Hw.fld_updOut, fld_aouStat hf ha _ o _ rfl, fld_aouCode hf ha _ o _ rfl, fld_aouCode hf ha _ o _ rfl,
    fld_aouCode hf ha _ o _ rfl]

theorem fld_aouGate (s : Hw) (o c : Nat) : (aouGate s o c).fld f = s.fld f := by
  unfold aouGate
  refine Hw.fld_ite rfl ?_
  dsimp only
  rw [Hw.fld_updOut, Hw.setFlag, fld_aouStat hf ha _ o _ rfl, fld_aouCode hf ha _ o _ rfl, fld_aouCode hf ha _ o _ rfl,
    fld_aouCode hf ha _ o _ rfl]

theorem fld_aouSafe (s : Hw) (o w : Nat) : (aouSafe s o w).fld f = s.fld f := by
  unfold aouSafe
  refine Hw.fld_ite rfl ?_
  rw [fld_aouStat hf ha _ o _ rfl, fld_aouWrite hf ha]

theorem fld_safeDrives (s : Hw) (u : Nat) : (safeDrives s u).fld f = s.fld f := by
  unfold safeDrives
  dsimp only
  refine (Hw.fld_cond ?_).trans (Hw.fld_cond ?_)
  · exact fld_aouSafe hf ha _ _ _
  · exact fld_aouSafe hf ha _ _ _

theorem fld_writeDrives (s : Hw) (u b d : Nat) : (writeDrives s u b d).fld f = s.fld f := by
  unfold writeDrives
  dsimp only
  refine (Hw.fld_cond ?_).trans (Hw.fld_cond ?_)
  · exact fld_aouWrite hf ha _ _ _ _
  · exact fld_aouWrite hf ha _ _ _ _

theorem fld_settleGate (s : Hw) (u : Nat) : (settleGate u s).fld f = s.fld f := by
  unfold settleGate
  dsimp only
  exact Hw.fld_ite rfl (Hw.fld_ite rfl (fld_aouGate hf ha _ _ _))

end

/-! ### The state word of a unit (R370 to R373) -/

section
variable {n : Nat} (hn : n < 12) {f : Fld} (hf : f.lo + f.w ≤ 32) (ha : f.addr = FES_STATE n)
include hn hf ha

omit hf in
theorem stateWord_low : f.addr < 0x100000 := by
  rw [ha, FES_STATE]
  omega

theorem fld_setFault (h12 : 12 ≤ f.lo) (s : Hw) (c w : Nat) : (setFault s n c w).fld f = s.fld f := by
  have hl : f.addr ≠ FES_LATCH n := by
    rw [ha, FES_STATE, FES_LATCH]
    omega
  have h1 : (FES_STATE_ramping n).lo + (FES_STATE_ramping n).w ≤ f.lo := h12
  have h2 : (FES_STATE_fault n).lo + (FES_STATE_fault n).w ≤ f.lo := Nat.le_trans (by unfold FES_STATE_fault; dsimp only; decide) h12
  have hm : ∀ s : Hw, (s.latchFault n).fld f = s.fld f := fun _ => rfl
  unfold setFault
  refine Hw.fld_ite rfl ?_
  dsimp only
  rw [fld_settleGate hf (stateWord_low hn ha), Hw.fld_raise, Hw.fld_setFld_other _ _ hf (.inr (.inr h1)),
    Hw.fld_cond (hm _), fld_updFes, Hw.fld_setFld_other (f := FES_LATCH_fault n) _ _ hf (.inl hl),
    Hw.fld_setFld_other _ _ hf (.inr (.inr h2))]

theorem fld_applyStep (h12 : 12 ≤ f.lo) (s : Hw) : (applyStep s n).fld f = s.fld f := by
  unfold applyStep
  exact Hw.fld_ite (fld_setFault hn hf ha h12 s _ _) (fld_writeDrives hf (stateWord_low hn ha) s _ _ _)

end

/-- A unit in its new state, before what the state brings. -/
def arrived (s : Hw) (u k : Nat) : Hw :=
  ((s.setFld (FES_STATE_state u) k).setFld (FES_STATE_moving u) 0).updFes u fun x =>
    { x with litAt := none, turn := none, rxOn := decide (u < 8 ∧ k ≥ 3), refsOn := decide (k ≥ 1), tecOn := decide (k ≥ 1) }

/-- Of what the new state brings below EMIT, nothing touches the upper fields of the unit's state word. -/
theorem fld_arrive {n : Nat} (hn : n < 12) {f : Fld} (hf : f.lo + f.w ≤ 32) (ha : f.addr = FES_STATE n) (h12 : 12 ≤ f.lo) {k : Nat}
    (hk : k < 4) (s : Hw) : (arrive s n k).fld f = (arrived s n k).fld f := by
  have hlow := stateWord_low hn ha
  have hb : ∀ g ∈ [FES_STATE_temp_ok n, FES_STATE_lock n, FES_STATE_held n], g.lo + g.w ≤ f.lo := by
    intro g hg
    refine Nat.le_trans ?_ h12
    simp only [List.mem_cons, List.not_mem_nil, or_false] at hg
    rcases hg with rfl | rfl | rfl
    · unfold FES_STATE_temp_ok; dsimp only; decide
    · unfold FES_STATE_lock; dsimp only; decide
    · unfold FES_STATE_held; dsimp only; decide
  have hset : ∀ (t : Hw) (v : Nat), ∀ g ∈ [FES_STATE_temp_ok n, FES_STATE_lock n, FES_STATE_held n], (t.setFld g v).fld f = t.fld f :=
    fun t v g hg => Hw.fld_setFld_other t v hf (.inr (.inr (hb g hg)))
  have hms : ∀ (t : Hw) (v : Nat), (t.setFld (FES_SETTLE_ms n) v).fld f = t.fld f := fun t v =>
    Hw.fld_setFld_other (f := FES_SETTLE_ms n) t v hf (.inl (by rw [ha, FES_STATE, FES_SETTLE_ms, FES_SETTLE]; dsimp only; omega))
  unfold arrive
  dsimp only
  refine Hw.fld_ite ?_ (Hw.fld_ite (Hw.fld_ite ?_ ?_)
    (Hw.fld_ite ?_ ?_))
  · rw [hset _ _ _ (by simp), hset _ _ _ (by simp), fld_updFes, fld_safeDrives hf hlow]
    rfl
  · refine (Hw.fld_cond ?_).trans ?_
    · rw [fld_updFes, hset _ _ _ (by simp), hset _ _ _ (by simp)]
    · rw [fld_updFes, hms, hset _ _ _ (by simp)]
      rfl
  · rw [fld_updFes]
    refine (Hw.fld_cond ?_).trans rfl
    exact fld_safeDrives hf hlow _ n
  · exact fld_applyStep hn hf ha h12 _
  · rw [if_neg (by omega)]
    rfl

theorem arrive_state {n k : Nat} (hn : n < 12) (hk : k < 4) (s : Hw) : (arrive s n k).fstate n = k := by
  have hw : (FES_STATE_state n).lo + (FES_STATE_state n).w ≤ 32 ∧ 12 ≤ (FES_STATE_state n).lo ∧ (FES_STATE_state n).w = 3 := by
    unfold FES_STATE_state
    dsimp only
    decide
  have hm : (FES_STATE_moving n).lo + (FES_STATE_moving n).w ≤ (FES_STATE_state n).lo := by
    unfold FES_STATE_state FES_STATE_moving
    dsimp only
    decide
  obtain ⟨hf, h12, h3⟩ := hw
  rw [Hw.fstate, fld_arrive hn hf rfl h12 hk, arrived, fld_updFes, Hw.fld_setFld_other (f := FES_STATE_moving n) _ _ hf (.inr (.inr hm)),
    Hw.fld_setFld_same _ _ hf, h3]
  exact Nat.mod_eq_of_lt (by omega)

theorem arrive_moving {n k : Nat} (hn : n < 12) (hk : k < 4) (s : Hw) : (arrive s n k).flag (FES_STATE_moving n) = false := by
  have hw : (FES_STATE_moving n).lo + (FES_STATE_moving n).w ≤ 32 ∧ 12 ≤ (FES_STATE_moving n).lo := by
    unfold FES_STATE_moving
    dsimp only
    decide
  rw [Hw.flag, fld_arrive hn hw.1 rfl hw.2 hk, arrived, fld_updFes]
  exact Hw.flag_clear _ rfl (by unfold FES_STATE_moving; dsimp only; decide)

theorem arrive_dark (s : Hw) (n : Nat) : (arrive s n 0).flag (FES_STATE_temp_ok n) = false ∧ (arrive s n 0).flag (FES_STATE_lock n) = false := by
  have hw : (FES_STATE_temp_ok n).lo + (FES_STATE_temp_ok n).w ≤ 32 ∧ (FES_STATE_lock n).lo + (FES_STATE_lock n).w ≤ (FES_STATE_temp_ok n).lo := by
    unfold FES_STATE_temp_ok FES_STATE_lock
    dsimp only
    decide
  unfold arrive
  dsimp only
  rw [if_pos rfl]
  constructor
  · rw [Hw.flag_setFld_other (f := FES_STATE_lock n) _ _ hw.1 (.inr (.inr hw.2))]
    exact Hw.flag_clear _ rfl (by unfold FES_STATE_temp_ok; dsimp only; decide)
  · exact Hw.flag_clear _ rfl (by unfold FES_STATE_lock; dsimp only; decide)

/-! ### Moves and turns that end (R373, R380, R382) -/

theorem fesMoveDone_ended {h : Hw} {n : Nat} (hr : h.ready 15 = true) (hm : h.flag (FES_STATE_moving n) = true)
    (hh : (h.fesu n).hooking = false) (ht : (h.fesu n).turn = none)
    (hl : (h.fesu n).toward = 2 → h.fstate n = 1 → h.flag (FES_STATE_lock n) = true)
    (he : (h.fesu n).toward < 4 ∨ (h.flag (FES_STATE_lock n) = true ∧ h.flag (FES_STATE_temp_ok n) = true ∧
      h.flag (FES_STATE_fault n) = false)) : fesMoveDone n h = arrive h n (h.fesu n).toward := by
  have h1 : ((h.fesu n).toward != 2 || h.fstate n != 1 || h.flag (FES_STATE_lock n)) = true := by
    by_cases ha : (h.fesu n).toward = 2
    · by_cases hb : h.fstate n = 1
      · rw [hl ha hb, Bool.or_true]
      · rw [bne_iff_ne.mpr hb, Bool.or_true, Bool.true_or]
    · rw [bne_iff_ne.mpr ha, Bool.true_or, Bool.true_or]
  have h2 : (decide ((h.fesu n).toward < 4) || h.flag (FES_STATE_lock n) && h.flag (FES_STATE_temp_ok n) &&
      !h.flag (FES_STATE_fault n)) = true := by
    rcases he with he | ⟨ha, hb, hc⟩
    · rw [decide_eq_true he, Bool.true_or]
    · rw [ha, hb, hc, Bool.or_eq_true]
      exact .inr rfl
  unfold fesMoveDone
  dsimp only
  rw [h1, h2, hr, hm, hh, ht, if_pos (by decide)]

/-- A move that ends in EMIT has lock, temp_ok and no fault. -/
theorem fesMoveDone_emit {h : Hw} {n : Nat} (hn : n < 12) (h4 : h.fstate n ≠ 4) (he : (fesMoveDone n h).fstate n = 4) :
    h.flag (FES_STATE_lock n) = true ∧ h.flag (FES_STATE_temp_ok n) = true ∧ h.flag (FES_STATE_fault n) = false := by
  unfold fesMoveDone at he
  dsimp only at he
  split at he
  · next hc =>
    obtain ⟨_, hok⟩ := Bool.and_eq_true_iff.mp hc
    rcases Bool.or_eq_true_iff.mp hok with hk | hk
    · have ht := of_decide_eq_true hk
      rw [arrive_state hn ht] at he
      omega
    · obtain ⟨hk, hf⟩ := Bool.and_eq_true_iff.mp hk
      obtain ⟨hl, ho⟩ := Bool.and_eq_true_iff.mp hk
      exact ⟨hl, ho, Bool.not_eq_true' _ |>.mp hf⟩
  · exact absurd he h4

theorem turnComplete_due {h : Hw} {n t : Nat} (hr : h.ready 15 = true) (ht : (h.fesu n).turn = some t) (hd : t + 3950 ≤ h.dtime)
    (hl : h.flag (FES_STATE_lock n) = true) (ho : h.flag (FES_STATE_temp_ok n) = true) (hf : h.flag (FES_STATE_fault n) = false) :
    turnComplete n h = arrive h n 4 := by
  unfold turnComplete
  rw [ht]
  dsimp only
  rw [hr, decide_eq_true hd, hl, ho, hf, if_pos (by decide)]

theorem turnComplete_emit {h : Hw} {n : Nat} (h4 : h.fstate n ≠ 4) (he : (turnComplete n h).fstate n = 4) :
    h.flag (FES_STATE_lock n) = true ∧ h.flag (FES_STATE_temp_ok n) = true ∧ h.flag (FES_STATE_fault n) = false := by
  unfold turnComplete at he
  extract_lets due at he
  split at he
  · next hc =>
    obtain ⟨hk, hf⟩ := Bool.and_eq_true_iff.mp hc
    obtain ⟨hk, ho⟩ := Bool.and_eq_true_iff.mp hk
    exact ⟨(Bool.and_eq_true_iff.mp hk).2, ho, Bool.not_eq_true' _ |>.mp hf⟩
  · exact absurd he h4

/-! ### Step ramps (R377) -/

theorem onLine_whole (h : Hw) {a c k n : Nat} (hv : (a * (n - k) + c * k) % n = 0) : onLine h a c k n = ((a * (n - k) + c * k) / n, h) :=
  if_pos hv

theorem onLine_part (h : Hw) (a c k n : Nat) :
    (onLine h a c k n).1 = (a * (n - k) + c * k) / n ∨ (onLine h a c k n).1 = (a * (n - k) + c * k) / n + 1 := by
  unfold onLine
  dsimp only
  split
  · exact .inl rfl
  · rcases Nat.mod_two_eq_zero_or_one h.free.1 with hm | hm
    · exact .inl (by dsimp only; rw [hm, Nat.add_zero])
    · exact .inr (by dsimp only; rw [hm])

theorem onLine_regs (h : Hw) (a c k n : Nat) : (onLine h a c k n).2.regs = h.regs := by
  unfold onLine
  dsimp only
  split <;> rfl

section
variable {h : Hw} {n j k : Nat} (hr : h.ready 15 = true) (hj : (h.fesu n).ramp = some (j, k))
  (hd : (h.fesu n).rampAt + (k + 1) * 1000 ≤ h.dtime)
include hr hj hd

/-- A microsecond of a ramp that has passed, between two correct entries. -/
theorem stepRampUpdate_good (hp : [h.fld (FES_STATE_step n), j].find? (stepPoisoned h n) = none) : stepRampUpdate n h =
    if k + 1 ≥ rampTime h n (h.fld (FES_STATE_step n)) j then
      applyStep ((h.updFes n fun x => { x with ramp := none, stepAt := some h.dtime }).setFld (FES_STATE_step n) j) n
    else
      let x := onLine h (stepBias h n (h.fld (FES_STATE_step n))) (stepBias h n j) (k + 1) (rampTime h n (h.fld (FES_STATE_step n)) j)
      let y := onLine x.2 (stepDrive2 x.2 n (h.fld (FES_STATE_step n))) (stepDrive2 x.2 n j) (k + 1)
        (rampTime h n (h.fld (FES_STATE_step n)) j)
      (writeDrives y.2 n x.1 y.1).updFes n fun x => { x with ramp := some (j, k + 1) } := by
  unfold stepRampUpdate
  rw [hj]
  dsimp only
  rw [hr, decide_eq_false (Nat.not_lt.mpr hd), if_neg (by decide), hp]

theorem stepRampUpdate_poisoned {e : Nat} (hp : [h.fld (FES_STATE_step n), j].find? (stepPoisoned h n) = some e) :
    stepRampUpdate n h = setFault h n 3 e := by
  unfold stepRampUpdate
  rw [hj]
  dsimp only
  rw [hr, decide_eq_false (Nat.not_lt.mpr hd), if_neg (by decide), hp]

end

theorem stepDrive2_regs {s t : Hw} (h : t.regs = s.regs) (n e : Nat) : stepDrive2 t n e = stepDrive2 s n e := by
  unfold stepDrive2 Hw.num Hw.reg
  rw [h]

/-! ### Gates (R374) -/

theorem gateWanted_emit {h : Hw} {n : Nat} (hg : gateWanted h n = true) : h.fstate n = 4 ∧ h.flag (FES_STATE_lock n) = true ∧
    h.flag (FES_STATE_temp_ok n) = true ∧ h.flag (FES_STATE_fault n) = false := by
  unfold gateWanted at hg
  simp only [Bool.and_eq_true, Bool.not_eq_true', beq_iff_eq] at hg
  obtain ⟨⟨⟨⟨⟨⟨⟨⟨_, hs⟩, _⟩, _⟩, hl⟩, ho⟩, hf⟩, _⟩, _⟩ := hg
  exact ⟨hs, hl, ho, hf⟩

theorem aouOut_updOut_same (s : Hw) (o : Nat) (k : AouOut → AouOut) : (s.updOut o k).aouOut o = k (s.aouOut o) := Map.get_upd_same _ _ _ _

theorem aouGate_code {s : Hw} {o : Nat} (c : Nat) (hr : s.ready 15 = true) (hg : s.flag (AOU_OSTAT_ranging o) = false) :
    ((aouGate s o c).aouOut o).gate = some c := by
  unfold aouGate
  rw [hr, hg, if_neg (by decide)]
  dsimp only
  rw [aouOut_updOut_same]

/-- A wired gate that is not wanted open is at its closed code. -/
theorem settleGate_closed {h : Hw} {n : Nat} (ho : h.fld (FES_MAP0_gate_out n) < 24) (hr : h.ready 15 = true)
    (hg : h.flag (AOU_OSTAT_ranging (h.fld (FES_MAP0_gate_out n))) = false) (hw : gateWanted h n = false) :
    ((settleGate n h).aouOut (h.fld (FES_MAP0_gate_out n))).gate.getD ((settleGate n h).aouOut (h.fld (FES_MAP0_gate_out n))).want =
      h.fld (AOU_OCFG_safe (h.fld (FES_MAP0_gate_out n))) := by
  have hn : ¬ (h.fld (FES_MAP0_gate_out n) = 255 ∨ (!h.ready 15) = true) := by
    rw [hr]
    exact fun h => h.elim (by omega) (by decide)
  unfold settleGate
  dsimp only
  rw [if_neg hn, hw, if_neg Bool.false_ne_true]
  split
  · next hs => exact hs
  · rw [aouGate_code _ hr hg]
    rfl

/-- Settles O39: how moves, ramps and turns end, and what the gates follow. -/
theorem frontEndMovesTurnsAndGates : Obligations.FrontEndMovesTurnsAndGates := by
  unfold Obligations.FrontEndMovesTurnsAndGates
  refine ⟨fun n => ?_, fun h n k hn hk => ⟨arrive_state hn hk h, arrive_moving hn hk h, fun h0 => ?_⟩, fun n j k => ?_, fun n j k => ?_,
    fun n j k e => ?_, fun h a c k n _ _ => ⟨onLine_whole h, onLine_part h a c k n⟩, ?_, fun n t => ?_,
    fun h n _ hg => gateWanted_emit hg, fun h n hn h4 he => ?_, fun h n _ ho hr hg hw => settleGate_closed ho hr hg hw⟩
  · exact happens_intro (fun _ _ => rfl) fun h ⟨hr, hm, hh, ht, hl, he⟩ => fesMoveDone_ended hr hm hh ht hl he
  · rw [h0]
    exact arrive_dark h n
  · refine happens_intro (fun _ _ => rfl) fun h ⟨hr, hj, hd, hp, hk⟩ => ?_
    rw [stepRampUpdate_good hr hj hd hp, if_pos hk]
  · refine happens_intro (fun _ _ => rfl) fun h ⟨hr, hj, hd, hp, hk⟩ => ?_
    rw [stepRampUpdate_good hr hj hd hp]
    dsimp only
    rw [if_neg (Nat.not_le.mpr hk), stepDrive2_regs (onLine_regs _ _ _ _ _), stepDrive2_regs (onLine_regs _ _ _ _ _)]
  · exact happens_intro (fun _ _ => rfl) fun h ⟨hr, hj, hd, hp⟩ => stepRampUpdate_poisoned hr hj hd hp
  · exact happens_intro (fun _ _ => rfl) fun h hr => if_neg (by rw [hr]; decide)
  · exact happens_intro (fun _ _ => rfl) fun h ⟨hr, ht, hd, hl, ho, hf⟩ => turnComplete_due hr ht hd hl ho hf
  · exact he.elim (fesMoveDone_emit hn h4) (turnComplete_emit h4)

end Sys2Proof.Machine

namespace Sys2Proof.Machine
open Reg

/-! ### A unit's errors do not lie in its own words (R375, R376) -/

theorem loopErr_same {s t : Hw} (h : ∀ a, 0x0F0000 ≤ a → t.reg a = s.reg a) (l : Nat) : loopErr t l = loopErr s l := by
  have hs : 0x0F0000 ≤ CLE_STATUS l := Nat.le_trans (by decide) (Nat.le_add_right _ _)
  have he : 0x0F0000 ≤ CLE_E l := Nat.le_trans (by decide) (Nat.le_add_right _ _)
  have hm : t.fld (CLE_STATUS_mode l) = s.fld (CLE_STATUS_mode l) := by
    rw [Hw.fld, Hw.fld, h (CLE_STATUS_mode l).addr hs]
  have hf : t.flag (CLE_STATUS_stale l) = s.flag (CLE_STATUS_stale l) := by
    rw [Hw.flag, Hw.fld, h (CLE_STATUS_stale l).addr hs, Hw.flag, Hw.fld]
  unfold loopErr Hw.int
  rw [hm, hf, h _ he]

theorem lockErr_setFld (s : Hw) (n : Nat) {f : Fld} (v : Nat) (h1 : f.addr < 0x0F0000) (h2 : FES_MAP1 n ≠ f.addr) :
    lockErr (s.setFld f v) n = lockErr s n := by
  have hl : (s.setFld f v).fld (FES_MAP1_lock_loop n) = s.fld (FES_MAP1_lock_loop n) :=
    Hw.fld_setFld_other s v (by unfold FES_MAP1_lock_loop; dsimp only; decide) (.inl h2)
  unfold lockErr
  rw [hl, loopErr_same fun a ha => Hw.reg_setFld_other s f v (by omega)]

theorem lockErr_updFes (s : Hw) (u n : Nat) (k : Fes → Fes) : lockErr (s.updFes u k) n = lockErr s n := rfl

theorem lockErr_raise (s : Hw) (c : Nat) (l : List Nat) (n : Nat) : lockErr (s.raise c l) n = lockErr s n := rfl

/-! ### Temperature (R375) -/

section
variable {h : Hw} {n : Nat} (hr : h.ready 15 = true)
include hr

theorem tempOk_in (hl : h.fld (FES_MAP1_tec_loop n) ≠ 255) (hs : h.fstate n ≠ 0) (ho : h.flag (FES_STATE_temp_ok n) = false)
    (ht : tempStayedIn h n = true) : tempOk n true h =
      let s := ((h.setFld (FES_STATE_temp_ok n) 1).setFld (FES_SETTLE_ms n) (((h.fesu n).warmAt.map fun t =>
        min ((h.dtime - t) / 10 ^ 6) 65535).getD (h.fld (FES_SETTLE_ms n)))).updFes n fun x => { x with warmAt := none }
      s.cond (!ownLock s n) fun s => declareLock s n := by
  unfold tempOk
  rw [hr, beq_false_of_ne hl, beq_false_of_ne hs, if_neg (by decide), ho, ht, if_pos (by decide)]
  cases (h.fesu n).warmAt <;> rfl

theorem tempOk_out (hl : h.fld (FES_MAP1_tec_loop n) ≠ 255) (hs : h.fstate n ≠ 0) (ho : h.flag (FES_STATE_temp_ok n) = true)
    (ht : tempStayedOut h n = true) : tempOk n false h =
      (h.setFld (FES_STATE_temp_ok n) 0).cond ((h.setFld (FES_STATE_temp_ok n) 0).flag (FES_STATE_lock n)) fun s => loseLock s n := by
  unfold tempOk
  rw [hr, beq_false_of_ne hl, beq_false_of_ne hs, if_neg (by decide), ho, ht, if_neg (by simp), if_pos (by decide)]

/-! ### Lock (R376, R378) -/

theorem lockDeclared_in (hs : 1 ≤ h.fstate n) (ho : ownLock h n = true) (hk : h.flag (FES_STATE_temp_ok n) = true)
    (hl : h.flag (FES_STATE_lock n) = false) (ht : lockStayedIn h n = true) : lockDeclared n h = declareLock h n := by
  unfold lockDeclared
  rw [hr, decide_eq_true hs, ho, hk, hl, ht, if_pos (by decide)]

theorem fesLockLost_out (ho : ownLock h n = true) (hl : h.flag (FES_STATE_lock n) = true) (ht : lockStayedOut h n = true) :
    fesLockLost n h = loseLock h n := by
  unfold fesLockLost
  rw [hr, ho, hl, ht, if_pos (by decide)]

theorem lockDeadlineExpiry_due (hk : h.flag (FES_STATE_held n) = true) (hs : (h.fesu n).litAt ≠ none ∨ 2 ≤ h.fstate n)
    (hd : deadlinePast h n = true) : lockDeadlineExpiry n h = notLocked n h := by
  have ho : ((h.fesu n).litAt.isSome || decide (h.fstate n ≥ 2)) = true := by
    rcases hs with hs | hs
    · rw [Option.isSome_iff_ne_none.mpr hs, Bool.true_or]
    · rw [decide_eq_true hs, Bool.or_true]
  unfold lockDeadlineExpiry
  rw [hr, hk, ho, hd, if_pos (by decide)]

theorem settleMaxExpiry_due {t : Nat} (hs : h.fstate n = 1) (hw : (h.fesu n).warmAt = some t)
    (hd : t + h.fld FES_CFG_settle_max * 10 ^ 6 ≤ h.dtime) (hx : (h.fesu n).settled = false)
    (ho : h.flag (FES_STATE_temp_ok n) = false) : settleMaxExpiry n h =
      (((h.setFld (FES_LATCH_settle_over n) 1).updFes n fun x => { x with settled := true }).raise 0x0D04
        [n, errParam (tecErr h n)]).cond
        ((((h.setFld (FES_LATCH_settle_over n) 1).updFes n fun x => { x with settled := true }).raise 0x0D04
          [n, errParam (tecErr h n)]).flag (FES_STATE_held n)) fun s => failHeld s n := by
  unfold settleMaxExpiry
  extract_lets x due
  have hdue : due = true := by
    simp only [due, x, hw]
    exact decide_eq_true hd
  rw [hr, hs, hdue, hx, ho, if_pos (by decide)]

/-! ### Faults (R379) -/

theorem fesFault_named {w : Nat} (hn : fesNames h n w = true) (hw : w < 24) (hf : h.flag (AOU_OSTAT_comp w) = true) :
    fesFault n 1 w h = setFault h n 1 w := by
  unfold fesFault
  rw [hr, if_neg (by decide), if_pos rfl, hn, decide_eq_true hw, hf, if_pos (by decide)]

theorem fesFault_other {k : Nat} (w : Nat) (hk : k ≠ 1) : fesFault n k w h = setFault h n k w := by
  unfold fesFault
  rw [hr, if_neg (by decide), if_neg hk]

end

theorem fld_latch_other {n : Nat} (s : Hw) {f g : Fld} (v : Nat) (hf : f.lo + f.w ≤ 32) (ha : f.addr = FES_STATE n)
    (hg : g.addr = FES_LATCH n) : (s.setFld g v).fld f = s.fld f := by
  refine Hw.fld_setFld_other s v hf (.inl ?_)
  rw [ha, hg, FES_STATE, FES_LATCH]
  omega

theorem map1_ne_state (n : Nat) : FES_MAP1 n ≠ FES_STATE n := by
  unfold FES_MAP1 FES_STATE
  omega

theorem map1_ne_latch (n : Nat) : FES_MAP1 n ≠ FES_LATCH n := by
  unfold FES_MAP1 FES_LATCH
  omega

theorem loseLock_emit {h : Hw} {n : Nat} (hn : n < 12) (ht : (h.fesu n).turn = none) (hs : h.fstate n = 4) : loseLock h n =
    (((h.setFld (FES_STATE_lock n) 0).setFld (FES_LATCH_lock_lost n) 1).updFes n fun x => { x with lost := true }).raise 0x0D02
      [n, h.fld (FES_STATE_temp_ok n), errParam (lockErr h n)] := by
  have hlow : FES_STATE n < 0x0F0000 := by
    unfold FES_STATE
    omega
  have h4 : (h.setFld (FES_STATE_lock n) 0).fstate n = 4 := by
    rw [Hw.fstate, Hw.fld_setFld_other (f := FES_STATE_lock n) _ _ (by unfold FES_STATE_state; dsimp only; decide)
      (.inr (.inr (by unfold FES_STATE_state FES_STATE_lock; dsimp only; decide)))]
    exact hs
  have ho : (h.setFld (FES_STATE_lock n) 0).fld (FES_STATE_temp_ok n) = h.fld (FES_STATE_temp_ok n) :=
    Hw.fld_setFld_other h 0 (by unfold FES_STATE_temp_ok; dsimp only; decide)
      (.inr (.inr (by unfold FES_STATE_temp_ok FES_STATE_lock; dsimp only; decide)))
  unfold loseLock
  rw [ht, Option.isSome_none]
  dsimp only
  rw [Hw.cond_false, h4, beq_self_eq_true, Hw.cond_true, ho, lockErr_setFld _ _ _ hlow (map1_ne_state n)]

theorem loseLock_turn {h : Hw} {n : Nat} (ht : (h.fesu n).turn ≠ none) (hs : h.fstate n ≠ 4) : loseLock h n =
    (((h.setFld (FES_STATE_lock n) 0).setFld (FES_STATE_moving n) 0).updFes n fun x =>
      { x with turn := none, turned := false }).raise 0x0D05 [n, 2] := by
  have h4 : ∀ k l, ((((h.setFld (FES_STATE_lock n) 0).setFld (FES_STATE_moving n) 0).updFes n k).raise 0x0D05 l).fstate n ≠ 4 :=
    fun k l => by
      have hf : (FES_STATE_state n).lo + (FES_STATE_state n).w ≤ 32 := by unfold FES_STATE_state; dsimp only; decide
      rw [Hw.fstate, Hw.fld_raise, fld_updFes, Hw.fld_setFld_other (f := FES_STATE_moving n) _ _ hf
        (.inr (.inr (by unfold FES_STATE_state FES_STATE_moving; dsimp only; decide))),
        Hw.fld_setFld_other (f := FES_STATE_lock n) _ _ hf
        (.inr (.inr (by unfold FES_STATE_state FES_STATE_lock; dsimp only; decide)))]
      exact hs
  unfold loseLock
  rw [Option.isSome_iff_ne_none.mpr ht]
  dsimp only
  rw [Hw.cond_true, Hw.cond, if_neg]
  rw [beq_iff_eq]
  exact h4 _ _

theorem failHeld_settled (h : Hw) {n : Nat} (hn : n < 12) (k : Fes → Fes) (l : List Nat) :
    failHeld (((h.setFld (FES_LATCH_settle_over n) 1).updFes n k).raise 0x0D04 l) n =
      (((((h.setFld (FES_LATCH_settle_over n) 1).updFes n k).raise 0x0D04 l).setFld (FES_STATE_held n) 0).updFes n fun x =>
        { x with failed := true }).raise 0x0D01 [n, errParam (lockErr h n), heldFor h n] := by
  have hlow : FES_LATCH n < 0x0F0000 := by
    unfold FES_LATCH
    omega
  have hh : ∀ (s : Hw) (f : Fld) (v : Nat) (k : Fes → Fes) (l : List Nat), heldFor (((s.setFld f v).updFes n k).raise 0x0D04 l) n =
      heldFor s n := fun _ _ _ _ _ => rfl
  unfold failHeld
  rw [hh, lockErr_raise, lockErr_updFes, lockErr_setFld (f := FES_LATCH_settle_over n) _ _ _ hlow (map1_ne_latch n)]

/-- Settles O40: what each time of a front-end unit brings. -/
theorem temperatureLockAndFaults : Obligations.TemperatureLockAndFaults := by
  unfold Obligations.TemperatureLockAndFaults
  refine ⟨fun n => ?_, fun n => ?_, fun n => ?_, fun h n _ => rfl, fun n => ?_, fun h n hn => ⟨loseLock_emit hn, loseLock_turn⟩,
    fun n => ?_, fun n t => ?_, fun n k w => ?_, fun n w => ?_, fun h n k w _ => ⟨fun hf => if_pos hf, fun hf => ?_⟩⟩
  · exact happens_intro (fun _ _ => rfl) fun h ⟨hr, hl, hs, ho, ht⟩ => tempOk_in hr hl hs ho ht
  · exact happens_intro (fun _ _ => rfl) fun h ⟨hr, hl, hs, ho, ht⟩ => tempOk_out hr hl hs ho ht
  · exact happens_intro (fun _ _ => rfl) fun h ⟨hr, hs, ho, hk, hl, ht⟩ => lockDeclared_in hr hs ho hk hl ht
  · exact happens_intro (fun _ _ => rfl) fun h ⟨hr, ho, hl, ht⟩ => fesLockLost_out hr ho hl ht
  · refine happens_intro (fun _ _ => rfl) fun h ⟨hr, hk, hs, hd⟩ => ?_
    rw [lockDeadlineExpiry_due hr hk hs hd]
    rfl
  · refine happens_intro (fun _ _ => rfl) fun h ⟨hr, hs, hw, hd, hx, ho⟩ => ?_
    have hheld : ∀ (k : Fes → Fes) (l : List Nat), (((h.setFld (FES_LATCH_settle_over n) 1).updFes n k).raise 0x0D04 l).flag
        (FES_STATE_held n) = h.flag (FES_STATE_held n) := fun k l => by
      rw [Hw.flag, Hw.fld_raise, fld_updFes, fld_latch_other _ _ (by unfold FES_STATE_held; dsimp only; decide) rfl rfl, Hw.flag]
    rw [settleMaxExpiry_due hr hs hw hd hx ho, hheld]
    exact Hw.cond_congr _ (failHeld_settled h n.isLt _ _)
  · refine happens_intro (fun _ _ => rfl) fun h ⟨hr, hk⟩ => fesFault_other hr w ?_
    omega
  · exact happens_intro (fun _ _ => rfl) fun h ⟨hr, hn, hw, hf⟩ => fesFault_named hr hn hw hf
  · unfold setFault
    rw [hf, if_neg (by decide)]

end Sys2Proof.Machine

namespace Sys2Proof.Machine
open Reg

/-! ### The band repeater requests (R391 to R428) -/

theorem Hw.fld_brc (s : Hw) (x : Brc) (f : Fld) : ({ s with brc := x } : Hw).fld f = s.fld f := rfl

theorem brcStageConfig_body {b : Hw} {c : Call} (hp : u8 c.p 5 ≠ b.fld (BRC_SSEL_pilot_gen (partner (u8 c.p 0))))
    (hq : u8 c.p 5 = b.fld (BRC_SSEL_pilot_gen (u8 c.p 0)) ∨ quietStage b (u8 c.p 0) = true) :
    opBrcStageConfig.body b c = .ok (applyBrcStage c.p b) := by
  unfold opBrcStageConfig OpSpec.fix
  dsimp only
  rw [if_neg hp, if_neg]
  rintro ⟨h1, h2⟩
  rw [hq.resolve_left h1] at h2
  exact Bool.false_ne_true h2

theorem brcCoexReq_lowered {b : Hw} {c : Call} (ho : b.flag BRC_COEX_CFG_out_en = true) (h0 : u8 c.p 0 = 0) :
    opBrcCoexReq.body b c = .ok (((b.setFld BRC_COEX_STATUS_xreq_out 0).each [2, 3] settleCauses).each [2, 3] fun st s =>
      settleGate (8 + st) s) := by
  unfold opBrcCoexReq OpSpec.fix
  dsimp only
  rw [ho, if_neg (by decide), if_pos h0]

/-- XREQ_OUT is high from now. -/
def xreqRaised (b : Hw) : Hw :=
  let s := b.setFld BRC_COEX_STATUS_xreq_out 1
  { s with brc := { s.brc with xoutAt := b.dtime } }

theorem brcCoexReq_raised {b : Hw} {c : Call} (ho : b.flag BRC_COEX_CFG_out_en = true) (h1 : u8 c.p 0 = 1) :
    opBrcCoexReq.body b c = if b.flag BRC_COEX_STATUS_xgnt_in then .ok (xreqRaised b) else .wait .coex (xreqRaised b) := by
  have hx : (xreqRaised b).flag BRC_COEX_STATUS_xgnt_in = b.flag BRC_COEX_STATUS_xgnt_in := by
    unfold xreqRaised
    rw [Hw.flag, Hw.fld_brc, Hw.fld_setFld_other _ _ (by decide) (.inr (by decide)), Hw.flag]
  unfold opBrcCoexReq OpSpec.fix
  dsimp only
  rw [ho, if_neg (by decide), if_neg (by omega), ← hx]
  rfl

/-- Settles O41: the body of each request under its row's condition. -/
theorem bandRepeaterRequests : Obligations.BandRepeaterRequests := by
  unfold Obligations.BandRepeaterRequests
  refine ⟨?_, ?_, ?_, ?_, ?_, ?_, ?_, ?_, ?_⟩
  · exact runsOk_intro (fun _ _ _ => rfl) fun b c h => ⟨_, _, if_neg (Bool.eq_false_iff.mp h), rfl, rfl⟩
  · exact runsOk_intro (fun _ _ _ => rfl) fun b c ⟨hp, hq⟩ => ⟨_, _, brcStageConfig_body hp hq, rfl, rfl⟩
  · exact runsOk_intro (fun _ _ _ => rfl) fun b c _ => ⟨_, _, rfl, rfl, rfl⟩
  · exact runsOk_intro (fun _ _ _ => rfl) fun b c _ => ⟨_, _, rfl, rfl, rfl⟩
  · exact runsOk_intro (fun _ _ _ => rfl) fun b c h => ⟨_, _, if_neg (Bool.eq_false_iff.mp h), rfl, rfl⟩
  · exact runsOk_intro (fun _ _ _ => rfl) fun b c ⟨ho, h0⟩ => ⟨_, _, brcCoexReq_lowered ho h0, rfl, rfl⟩
  · exact runsOk_intro (fun _ _ _ => rfl) fun b c ⟨ho, h1, hg⟩ => ⟨_, _, (brcCoexReq_raised ho h1).trans (if_pos hg), rfl, rfl⟩
  · exact runsOn_intro (fun _ _ _ => rfl) fun b c ⟨ho, h1, hg⟩ =>
      ⟨_, _, (brcCoexReq_raised ho h1).trans (if_neg (Bool.eq_false_iff.mp hg)), rfl, rfl⟩
  · exact runsOk_intro (fun _ _ _ => rfl) fun b c _ => ⟨_, _, rfl, rfl, rfl⟩

end Sys2Proof.Machine

namespace Sys2Proof.Machine
open Reg

/-! ### Acts of the band repeater that recur (R391) -/

/-- An act was done now. -/
def actNoted (k : Nat) (s : Hw) : Hw := { s with brc := { s.brc with acts := Map.put none s.brc.acts k (some s.dtime) } }

theorem everyBrc_due {k p : Nat} (f : Hw → Hw) {s : Hw} (h : (Map.get none s.brc.acts k).all (fun t => decide (t + p ≤ s.dtime)) = true) :
    everyBrc k p f s = f (actNoted k s) := by
  unfold everyBrc
  cases ha : Map.get none s.brc.acts k with
  | none => rfl
  | some t =>
    rw [ha, Option.all_some] at h
    exact if_pos h

/-! ### Quiet requests (R413 to R417) -/

section
variable {b : Hw} {c : Call} (hs : b.stage (u8 c.p 0) = 5) (hn : b.native (u8 c.p 0) = true)
  (hf : hasBit (b.fld (LNK_PEER_INFO_features (u8 c.p 0))) 1 = true)
include hs hn hf

theorem quietSend_body : opBrcQuietSend.body b c = if u8 c.p 2 = 0 then
    let s := (b.setFld BRC_QUIET_sending (b.fld BRC_QUIET_sending ||| u8 c.p 1 * 4 ^ u8 c.p 0)).each
      (quietBits (u8 c.p 0) (u8 c.p 1)) (fun k s => setRelease k 0 s)
    .ok (quietFrom (u8 c.p 0) (sendOam s (u8 c.p 0) 0x0004 (quietBody (s.fld BRC_QUIET_sending / 4 ^ u8 c.p 0 % 4) 0)))
  else
    .ok (quietFrom (u8 c.p 0) (sendOam ((b.setFld BRC_QUIET_sending (b.fld BRC_QUIET_sending -
      (b.fld BRC_QUIET_sending &&& u8 c.p 1 * 4 ^ u8 c.p 0))).each (quietBits (u8 c.p 0) (u8 c.p 1)) (fun k s => setRelease k 2 s))
        (u8 c.p 0) 0x0004 (quietBody (u8 c.p 1) 1))) := by
  unfold opBrcQuietSend OpSpec.fix
  dsimp only
  rw [if_neg, hf, if_neg (by decide)]
  rw [hn]
  exact fun h => h.elim (fun h => h hs) (by decide)

end

section
variable {h : Hw} {g : Nat} (hr : h.ready 15 = true)
include hr

theorem quietReceived_native {m : Nat} (r : Bool) (hn : h.native g = true) : quietReceived g m r h =
    let old := h.fld BRC_QUIET_received
    let k := m % 4 * 4 ^ g
    if r then
      (h.setFld BRC_QUIET_received (old - (old &&& k))).cond (decide ((old &&& k) / 4 ^ g ≠ 0)) fun s =>
        s.raise 0x0E08 [g, (old &&& k) / 4 ^ g, 1]
    else
      let s := ((h.each (quietBits g m) fun i s => { s with brc := { s.brc with quietAt := Map.put 0 s.brc.quietAt i s.dtime } }).setFld
        BRC_QUIET_received (old ||| k)).count BRC_QUIET_N
      let s := s.cond (decide ((k - (old &&& k)) / 4 ^ g ≠ 0)) fun s => s.raise 0x0E08 [g, (k - (old &&& k)) / 4 ^ g, 0]
      (s.each stages4 settleCauses).each stages4 fun st s => settleGate (8 + st) s := by
  unfold quietReceived
  rw [hr, hn, if_neg (by decide)]

theorem quietSilenceEnd_due {n : Nat} (hb : hasBit (h.fld BRC_QUIET_received) (2 * g + n) = true)
    (hd : Map.get 0 h.brc.quietAt (2 * g + n) + 10 ^ 7 ≤ h.dtime) : quietSilenceEnd g n h =
      (h.setFld BRC_QUIET_received (setBit (h.fld BRC_QUIET_received) (2 * g + n) false)).raise 0x0E08 [g, 2 ^ n, 2] := by
  unfold quietSilenceEnd
  rw [hr, hb, decide_eq_true hd, if_pos (by decide)]

theorem quietResend_due (hd : (Map.get none h.brc.acts (12 + g)).all (fun t => decide (t + 10 ^ 6 ≤ h.dtime)) = true) :
    quietResend g h = quietCells g (actNoted (12 + g) h) := by
  unfold quietResend
  rw [hr, if_neg (by decide), everyBrc_due _ hd]

end

theorem quietCells_eq (g : Nat) (h : Hw) : quietCells g h =
    let m := h.fld BRC_QUIET_sending / 4 ^ g % 4
    let s := h.cond (decide (m ≠ 0)) fun s => sendOam s g 0x0004 (quietBody m 0)
    let l := (quietBits g 3).filter fun k => decide (Map.get 0 s.brc.release k ≠ 0)
    s.cond (!l.isEmpty) fun s => (sendOam s g 0x0004 (quietBody (sumN (l.map (2 ^ ·)) / 4 ^ g) 1)).each l fun k s =>
      setRelease k (Map.get 0 s.brc.release k - 1) s := by
  unfold quietCells
  extract_lets m s l
  cases l.isEmpty <;> rfl

/-- Settles O42: what is sent and kept when bands are muted over the line. -/
theorem quietRequestsAndReleases : Obligations.QuietRequestsAndReleases := by
  unfold Obligations.QuietRequestsAndReleases
  refine ⟨?_, ?_, fun g m => ?_, fun g m => ?_, fun g n => ?_, fun g => ?_⟩
  · exact runsOk_intro (fun _ _ _ => rfl) fun b c ⟨hs, hn, hf, h0⟩ => ⟨_, _, (quietSend_body hs hn hf).trans (if_pos h0), rfl, rfl⟩
  · exact runsOk_intro (fun _ _ _ => rfl) fun b c ⟨hs, hn, hf, h1⟩ =>
      ⟨_, _, (quietSend_body hs hn hf).trans (if_neg (by omega)), rfl, rfl⟩
  · refine happens_intro (fun _ _ => rfl) fun h ⟨hr, hn⟩ => ?_
    rw [quietReceived_native hr false hn]
    exact if_neg Bool.false_ne_true
  · refine happens_intro (fun _ _ => rfl) fun h ⟨hr, hn⟩ => ?_
    rw [quietReceived_native hr true hn]
    exact if_pos rfl
  · exact happens_intro (fun _ _ => rfl) fun h ⟨hr, hb, hd⟩ => quietSilenceEnd_due hr hb hd
  · refine happens_intro (fun _ _ => rfl) fun h ⟨hr, hd⟩ => ?_
    rw [quietResend_due hr hd, quietCells_eq]
    rfl

end Sys2Proof.Machine

namespace Sys2Proof.Machine
open Reg

/-! ### Detectors (R397) -/

theorem sumN_zero {l : List Nat} (h : ∀ x ∈ l, x = 0) : sumN l = 0 := by
  rw [List.eq_replicate_of_mem h, sumN]
  induction l.length with
  | zero => rfl
  | succ n ih => exact ih

theorem detectorPower_eq (h : Hw) (n : Nat) (codes : List Nat) : detectorPower h n codes =
    meanPower h n (sumN ((codes.drop (codes.length - 1000)).map fun x => x % 4096 - h.fld (BRC_CAL_dark n)))
      (codes.drop (codes.length - 1000)).length := by
  unfold detectorPower
  dsimp only
  rw [List.length_map]
  rfl

theorem detectorPower_dark {h : Hw} {n : Nat} {codes : List Nat} (hd : ∀ x ∈ codes, x % 4096 ≤ h.fld (BRC_CAL_dark n)) :
    detectorPower h n codes = -5000 := by
  rw [detectorPower_eq, meanPower, if_pos]
  refine sumN_zero fun y hy => ?_
  obtain ⟨x, hx, rfl⟩ := List.mem_map.mp hy
  exact Nat.sub_eq_zero_of_le (hd x (List.mem_of_mem_drop hx))

/-! ### Trips and runaway (R401, R408) -/

theorem tripBand_above {h : Hw} {n : Nat} (he : -60 < bandEst h n) (ha : (bandStages n).any (ampEmits h) = true)
    (hc : (bandStages n).all (fun st => hasCause h st cGuard) = false) : tripBand n h = guardTrip h n := by
  unfold tripBand
  rw [decide_eq_true he, ha, hc, if_pos (by decide)]

theorem tripBand_below {h : Hw} {n : Nat} (he : bandEst h n ≤ -60) : tripBand n h = h := by
  unfold tripBand
  rw [decide_eq_false (Int.not_lt.mpr he), Bool.false_and, Bool.false_and, if_neg Bool.false_ne_true]

theorem runawayMute_hit {h : Hw} {st a b : Nat} {q : Nat × Nat} (hr : h.ready 15 = true) (he : ampEmits h st = true)
    (hh : (1000 * lit h (2 * st + 1) a ^ 10 < lit h (2 * st + 1) b ^ 10 ∧
      (lit h (2 * st) q.2 ^ 10 < 10 * lit h (2 * st) q.1 ^ 10 ∨ lit h (2 * st) q.2 = lit h (2 * st) q.1)) ∨
      powerGt h (2 * st + 1) b (h.fldS (BRC_SCFG_limit st) + 300) = true)
    (hc : (bandStages (st / 2)).all (fun x => hasCause h x cRunaway) = false) : runawayMute st a b q h =
      let x := riseOf h (2 * st + 1) a b
      let y := riseOf x.2 (2 * st) q.1 q.2
      noteMute (((y.2.raise 0x0E02 [st, x.1 % 2 ^ 32, y.1 % 2 ^ 32]).count BRC_RUNAWAY).each (bandStages (st / 2)) fun x s =>
        settleGate (8 + x) (setCause x cRunaway true s)) (st / 2) := by
  have hhit : (roseMore h (2 * st + 1) a b && roseLess h (2 * st) q.1 q.2 ||
      powerGt h (2 * st + 1) b (h.fldS (BRC_SCFG_limit st) + 300)) = true := by
    rcases hh with ⟨h1, h2⟩ | h3
    · rw [roseMore, decide_eq_true h1, roseLess, decide_eq_true h2, Bool.true_and, Bool.true_or]
    · rw [h3, Bool.or_true]
  unfold runawayMute
  dsimp only
  rw [hhit, hr, he, hc, if_pos (by decide)]

/-! ### Pilots (R400) -/

theorem adjustPilot_stays {h : Hw} {st : Nat}
    (hs : h.fld (FES_MAP0_bias_out (8 + st)) = 255 ∨ h.flag (AOU_OSTAT_dither_on (h.fld (FES_MAP0_bias_out (8 + st)))) = false) :
    adjustPilot st h = h := by
  unfold adjustPilot
  dsimp only
  rw [if_pos]
  rcases hs with hs | hs
  · exact .inl hs
  · rw [hs]
    exact .inr rfl

/-- A pilot's next amplitude, from the amplitude, the index and a free step. -/
def pilotNext (a i f : Nat) : Nat :=
  if a = 0 then f % 32768 else if i < 200 then min 32767 (a + f % (a / 20 + 1)) else if i > 200 then a - f % (a / 20 + 1) else a

theorem pilotNext_bounds {a : Nat} (i f : Nat) (h0 : a ≠ 0) (ha : a < 32768) : pilotNext a i f < 32768 ∧
    20 * pilotNext a i f ≤ 21 * a ∧ 19 * a ≤ 20 * pilotNext a i f ∧ (a < pilotNext a i f → i < 200) ∧ (pilotNext a i f < a → 200 < i) := by
  have hd : f % (a / 20 + 1) ≤ a / 20 := Nat.le_of_lt_succ (Nat.mod_lt _ (Nat.succ_pos _))
  unfold pilotNext
  rw [if_neg h0]
  split
  · omega
  · split <;> omega

theorem Hw.fld_lt (s : Hw) (f : Fld) : s.fld f < 2 ^ f.w := Nat.mod_lt _ (Nat.two_pow_pos _)

theorem adjustPilot_runs {h : Hw} {st : Nat} (ho : h.fld (FES_MAP0_bias_out (8 + st)) ≠ 255)
    (hd : h.flag (AOU_OSTAT_dither_on (h.fld (FES_MAP0_bias_out (8 + st)))) = true) : adjustPilot st h =
      h.free.2.setFld (AOU_DITHER_amp (h.fld (FES_MAP0_bias_out (8 + st))))
        (pilotNext (h.fld (AOU_DITHER_amp (h.fld (FES_MAP0_bias_out (8 + st))))) (h.fld (BRC_EST_pilot_idx st)) h.free.1) := by
  unfold adjustPilot
  dsimp only
  rw [hd, if_neg]
  · rfl
  · exact fun h => h.elim ho (by decide)

theorem adjustPilot_amp {h : Hw} {st : Nat} (ho : h.fld (FES_MAP0_bias_out (8 + st)) ≠ 255)
    (hd : h.flag (AOU_OSTAT_dither_on (h.fld (FES_MAP0_bias_out (8 + st)))) = true)
    (h0 : h.fld (AOU_DITHER_amp (h.fld (FES_MAP0_bias_out (8 + st)))) ≠ 0) :
    (adjustPilot st h).fld (AOU_DITHER_amp (h.fld (FES_MAP0_bias_out (8 + st)))) =
      pilotNext (h.fld (AOU_DITHER_amp (h.fld (FES_MAP0_bias_out (8 + st))))) (h.fld (BRC_EST_pilot_idx st)) h.free.1 := by
  have ha := Hw.fld_lt h (AOU_DITHER_amp (h.fld (FES_MAP0_bias_out (8 + st))))
  have hw : ∀ o, (AOU_DITHER_amp o).lo + (AOU_DITHER_amp o).w ≤ 32 ∧ 2 ^ (AOU_DITHER_amp o).w = 32768 := fun o => by
    unfold AOU_DITHER_amp
    dsimp only
    decide
  rw [(hw _).2] at ha
  rw [adjustPilot_runs ho hd, Hw.fld_setFld_same _ _ (hw _).1, (hw _).2]
  exact Nat.mod_eq_of_lt (pilotNext_bounds _ _ h0 ha).1

/-! ### The guard (R402 to R405) -/

theorem raiseBand_invalid {h : Hw} {n : Nat} (he : estValid h n = false) : raiseBand n h = h := by
  unfold raiseBand
  dsimp only
  rw [he, if_pos (by decide)]

theorem raiseBand_one {h : Hw} {n x : Nat} (he : estValid h n = true) (hx : (bandStages n).filter (mayRise h) = [x]) :
    raiseBand n h = if prediction h n + riseGain h x ≤ marginOf h then setTarget h x (h.fld (BRC_SSTAT_target x) + 1) else h := by
  unfold raiseBand
  dsimp only
  rw [he, if_neg (by decide), hx]
  dsimp only
  simp only [decide_eq_true_eq]
  rfl

theorem raiseBand_two {h : Hw} {n x y : Nat} (he : estValid h n = true) (hx : (bandStages n).filter (mayRise h) = [x, y]) :
    raiseBand n h = if prediction h n + (riseGain h x + riseGain h y) ≤ marginOf h then riseOne (riseOne h x) y
      else if prediction h n + riseGain h (lowerOf h n) ≤ marginOf h then riseOne h (lowerOf h n) else h := by
  unfold raiseBand
  dsimp only
  rw [he, if_neg (by decide), hx]
  dsimp only
  simp only [decide_eq_true_eq]

theorem lowerBand_within {h : Hw} {n : Nat} (hg : guardRests h n = false) (hp : prediction h n ≤ marginOf h) :
    lowerBand n h = h.updBand n fun x => { x with lowering := false } := by
  unfold lowerBand
  rw [hg, if_neg (by decide), if_pos hp]

theorem lowerBand_above {h : Hw} {n : Nat} (hg : guardRests h n = false) (hp : marginOf h < prediction h n)
    (ht : h.fld (BRC_SSTAT_target (higherOf h n)) ≠ 0) : lowerBand n h =
      setTarget (h.cond (!(h.band n).lowering) fun s => (s.raise 0x0E0C [n, enc 32 (bandEst h n), stepsParam h 0x0E0C n]).updBand n
        fun x => { x with lowering := true }) (higherOf h n) (h.fld (BRC_SSTAT_target (higherOf h n)) - 1) := by
  unfold lowerBand
  rw [hg, if_neg (by decide), if_neg (Int.not_le.mpr hp)]
  dsimp only
  rw [if_neg ht]
  exact congrArg (fun t => setTarget t _ _) (Hw.cond_congr _ rfl)

theorem guardBandMute_due {h : Hw} {n t : Nat} (hr : h.ready 15 = true) (hf : (h.band n).floorAt = some t) (hd : t + 10 ^ 7 ≤ h.dtime)
    (hg : guardRests h n = false) (hc : (bandStages n).all (fun st => hasCause h st cGuard) = false) :
    guardBandMute n h = guardTrip h n := by
  unfold guardBandMute
  extract_lets due
  have hdue : due = true := by
    simp only [due, hf]
    exact decide_eq_true hd
  rw [hr, hdue, hg, hc, if_pos (by decide)]

theorem autoRetryRelease_due {h : Hw} {n : Nat} (hr : h.ready 15 = true) (hd : (h.band n).mutedAt + 10 ^ 9 ≤ h.dtime)
    (ha : h.flag BRC_CFG_auto_retry = true) (hs : (h.band n).stopped = false) :
    autoRetryRelease n h = h.each (bandStages n) clearGuard := by
  unfold autoRetryRelease
  rw [hr, decide_eq_true hd, ha, hs, if_pos (by decide)]

/-- Settles O43: what the guard, the pilots and runaway do to a band. -/
theorem guardAndRunaway : Obligations.GuardAndRunaway := by
  unfold Obligations.GuardAndRunaway
  refine ⟨fun codes => ?_, fun h n codes => ⟨detectorPower_eq h n codes, detectorPower_dark⟩,
    fun h n => ⟨fun he ha hc => tripBand_above he ha hc, tripBand_below⟩, fun st a b q => ?_, ?_,
    fun h st => ⟨fun ho _ hd h0 => ?_, adjustPilot_stays⟩, ?_, fun h n x y => ⟨raiseBand_invalid, raiseBand_one, raiseBand_two⟩, ?_,
    fun h n hg => ⟨lowerBand_within hg, lowerBand_above hg⟩, fun n t => ?_, fun n => ?_⟩
  · refine happens_intro (fun _ _ => rfl) fun h ⟨hr, hd⟩ => ?_
    rw [pilotEstimateUpdate, hr, if_neg (by decide), everyBrc_due _ hd]
    rfl
  · exact happens_intro (fun _ _ => rfl) fun h ⟨hr, he, hh, hc⟩ => runawayMute_hit hr he hh hc
  · refine happens_intro (fun _ _ => rfl) fun h ⟨hr, hd⟩ => ?_
    rw [pilotAmplitudeAdjust, hr, if_neg (by decide), everyBrc_due _ hd]
    rfl
  · rw [adjustPilot_amp ho hd h0]
    exact (pilotNext_bounds _ _ h0 (Hw.fld_lt h (AOU_DITHER_amp _))).2
  · refine happens_intro (fun _ _ => rfl) fun h ⟨hr, hd⟩ => ?_
    rw [guardRaiseTick, hr, if_neg (by decide), everyBrc_due _ hd]
    rfl
  · refine happens_intro (fun _ _ => rfl) fun h ⟨hr, hd⟩ => ?_
    rw [guardLowerTick, hr, if_neg (by decide), everyBrc_due _ hd]
    rfl
  · exact happens_intro (fun _ _ => rfl) fun h ⟨hr, hf, hd, hg, hc⟩ => guardBandMute_due hr hf hd hg hc
  · exact happens_intro (fun _ _ => rfl) fun h ⟨hr, hd, ha, hs⟩ => autoRetryRelease_due hr hd ha hs

end Sys2Proof.Machine

namespace Sys2Proof.Machine
open Reg

/-! ### Input loss (R406, R407) -/

section
variable {h : Hw} {st x : Nat} (hr : h.ready 15 = true) (hc : h.flag (BRC_SSTAT_coex_hold st) = false)
include hr hc

theorem inputLossHold_low (hp : powerGe h (2 * st) x (h.fldS (BRC_SCFG_in_los st)) = false)
    (hm : h.flag (BRC_SSTAT_held_min st) = false) : inputLossHold st x h =
      ((h.setFld (BRC_SSTAT_held_min st) 1).updAmp st fun y => { y with lossAt := h.dtime }).raise 0x0E03
        [st, enc 32 (samplePower h (2 * st) x)] := by
  unfold inputLossHold timersHeld inputLow
  rw [hr, hc, hp, hm, if_pos (by decide)]

theorem inputLossMute_due (hp : powerGe h (2 * st) x (h.fldS (BRC_SCFG_in_los st)) = false)
    (hm : h.flag (BRC_SSTAT_held_min st) = true) (hl : h.flag (BRC_SSTAT_input_lost st) = false)
    (hd : (h.amp st).lossAt + 4950000 ≤ h.dtime) : inputLossMute st x h =
      settleGate (8 + st) (setCause st cInput true ((h.setFld (BRC_SSTAT_input_lost st) 1).raise 0x0E04 [st])) := by
  unfold inputLossMute timersHeld inputLow
  rw [hr, hc, hp, hm, hl, decide_eq_true hd, if_pos (by decide)]

theorem inputRestored_high (hp : powerGe h (2 * st) x (h.fldS (BRC_SCFG_in_los st) + 100) = true) : inputRestored st x h =
    setCause st cInput false ((h.setFld (BRC_SSTAT_held_min st) 0).setFld (BRC_SSTAT_input_lost st) 0) := by
  unfold inputRestored timersHeld
  rw [hr, hc, hp, if_pos (by decide)]

end

/-! ### The output limit (R409) -/

theorem limitCeilingFall_due {h : Hw} {st x : Nat} (hr : h.ready 15 = true)
    (hp : powerGt h (2 * st + 1) x (h.fldS (BRC_SCFG_limit st)) = true)
    (hd : (Map.get none h.brc.acts (4 + st)).all (fun t => decide (t + 100000 ≤ h.dtime)) = true) : limitCeilingFall st x h =
      let s := (actNoted (4 + st) h).cond (!h.flag (BRC_SSTAT_over_limit st)) fun s =>
        ((s.setFld (BRC_SSTAT_over_limit st) 1).setFld (BRC_SLATCH_over_limit st) 1).raise 0x0E05
          [st, enc 32 (samplePower s (2 * st + 1) x), s.fld (BRC_SSTAT_limit_ceil st)]
      s.setFld (BRC_SSTAT_limit_ceil st) (s.fld (BRC_SSTAT_limit_ceil st) - 1) := by
  have ha : (actNoted (4 + st) h).flag (BRC_SSTAT_over_limit st) = h.flag (BRC_SSTAT_over_limit st) := rfl
  unfold limitCeilingFall
  rw [hr, hp, if_pos (by decide), everyBrc_due _ hd, ← ha]

theorem fld_over_other {s : Hw} {st : Nat} (v : Nat) {f : Fld} (hf : f.lo + f.w ≤ 32) (ha : f.addr ≠ BRC_SSTAT st) :
    (s.setFld (BRC_SSTAT_over_limit st) v).fld f = s.fld f := Hw.fld_setFld_other s v hf (.inl ha)

/-- Neither a power nor a gain depends on the status of a stage. -/
theorem powerGt_over {s : Hw} {st : Nat} (hs : st < 4) (c x v : Nat) (l : Int) :
    powerGt (s.setFld (BRC_SSTAT_over_limit st) v) c x l = powerGt s c x l := by
  have ha : BRC_CAL c ≠ BRC_SSTAT st := by
    unfold BRC_CAL BRC_SSTAT
    omega
  have hd : (s.setFld (BRC_SSTAT_over_limit st) v).fld (BRC_CAL_dark c) = s.fld (BRC_CAL_dark c) :=
    fld_over_other v (by unfold BRC_CAL_dark; dsimp only; decide) ha
  have hk : (s.setFld (BRC_SSTAT_over_limit st) v).fldS (BRC_CAL_k c) = s.fldS (BRC_CAL_k c) :=
    congrArg (sx _) (fld_over_other v (by unfold BRC_CAL_k; dsimp only; decide) ha)
  unfold powerGt lit
  rw [hd, hk]

theorem stepGain_over {s : Hw} {st a b : Nat} (_hs : st < 4) (ha : a < 32) (hb : b ≤ 32) (v : Nat) :
    stepGain (s.setFld (BRC_SSTAT_over_limit st) v) st a b = stepGain s st a b := by
  have hn : ∀ e, e ≤ 32 → (s.setFld (BRC_SSTAT_over_limit st) v).num (FES_STEPTAB (8 + st) (2 * e + 1)) =
      s.num (FES_STEPTAB (8 + st) (2 * e + 1)) := fun e he => by
    have hx : FES_STEPTAB (8 + st) (2 * e + 1) ≠ (BRC_SSTAT_over_limit st).addr := by
      unfold FES_STEPTAB BRC_SSTAT_over_limit BRC_SSTAT
      dsimp only
      omega
    rw [Hw.num, Hw.reg_setFld_other _ _ _ hx, Hw.num]
  unfold stepGain stepExpected
  rw [hn a (by omega), hn b hb]

/-- The ceiling's rise, once its 1 ms has passed. -/
def ceilingRises (st x : Nat) (s : Hw) : Hw :=
  let c := s.fld (BRC_SSTAT_limit_ceil st)
  let s := s.cond (!powerGt s (2 * st + 1) x (s.fldS (BRC_SCFG_limit st))) fun s => s.setFld (BRC_SSTAT_over_limit st) 0
  if c < 31 ∧ powerGt s (2 * st + 1) x (s.fldS (BRC_SCFG_limit st) - 50 - stepGain s st c (c + 1)) = false then
    s.setFld (BRC_SSTAT_limit_ceil st) (c + 1)
  else s

theorem ceilingRises_below {s : Hw} {st x : Nat} (hs : st < 4) (hc : s.fld (BRC_SSTAT_limit_ceil st) < 31)
    (hp : powerGt s (2 * st + 1) x (s.fldS (BRC_SCFG_limit st) - 50 -
      stepGain s st (s.fld (BRC_SSTAT_limit_ceil st)) (s.fld (BRC_SSTAT_limit_ceil st) + 1)) = false) :
    ceilingRises st x s = (s.cond (!powerGt s (2 * st + 1) x (s.fldS (BRC_SCFG_limit st))) fun s =>
      s.setFld (BRC_SSTAT_over_limit st) 0).setFld (BRC_SSTAT_limit_ceil st) (s.fld (BRC_SSTAT_limit_ceil st) + 1) := by
  have hl : BRC_SCFG st ≠ BRC_SSTAT st := by
    unfold BRC_SCFG BRC_SSTAT
    omega
  have hf : (s.setFld (BRC_SSTAT_over_limit st) 0).fldS (BRC_SCFG_limit st) = s.fldS (BRC_SCFG_limit st) :=
    congrArg (sx _) (fld_over_other 0 (by unfold BRC_SCFG_limit; dsimp only; decide) hl)
  unfold ceilingRises
  dsimp only
  rw [if_pos]
  refine ⟨hc, ?_⟩
  cases powerGt s (2 * st + 1) x (s.fldS (BRC_SCFG_limit st))
  · rw [Bool.not_false, Hw.cond_true, hf, stepGain_over hs (by omega) (by omega), powerGt_over hs]
    exact hp
  · exact hp

theorem limitCeilingRise_due {h : Hw} {st x : Nat} (hr : h.ready 15 = true)
    (hd : (Map.get none h.brc.acts (8 + st)).all (fun t => decide (t + 10 ^ 6 ≤ h.dtime)) = true) :
    limitCeilingRise st x h = ceilingRises st x (actNoted (8 + st) h) := by
  unfold limitCeilingRise
  rw [hr, if_neg (by decide), everyBrc_due _ hd]
  rfl

/-! ### Power reduction (R418 to R421) -/

theorem aprStart_due {h : Hw} {g : Nat} (hr : h.ready 15 = true) (hf : h.flag (aprFld g) = false) (hd : aprDue h g = true) :
    aprStart g h =
      let s := ((h.setFld (aprFld g) 1).count BRC_APR_N).raise 0x0E06
        [g, sumN ((groupLanes g).map fun n => 2 ^ n) + sumN ((emitters h g).map fun st => 2 ^ (8 + st)), enc 32 (h.fldS BRC_APR_level)]
      let t := { s with brc := { s.brc with
        aprAt := Map.put 0 s.brc.aprAt g s.dtime, enterP2 := Map.put false s.brc.enterP2 g false } }
      let v := t.each (groupLanes g) fun n s => settleGate n (s.updFes n fun x => { x with apr := some (aprStep s n), aprShut := true })
      v.each (emitters v g) fun st s => settleGate (8 + st) (setCause st cApr true
        ((s.updAmp st fun x => { x with apr := aprStep s (8 + st) }).setFld (BRC_SSTAT_apr st) 1)) := by
  unfold aprStart
  rw [hr, hf, hd, if_neg (by decide)]

theorem aprEnd_due {h : Hw} {g : Nat} (hr : h.ready 15 = true) (hf : h.flag (aprFld g) = true)
    (ho : (if inC2 h g = true then (groupLanes g).any (fun n => !h.flag (LRX_STATUS_los n) &&
      decide ((h.lane n).sigAt + 10 ^ 7 ≤ h.dtime)) else Map.get false h.brc.enterP2 g) = true) : aprEnd g h =
      let s := (h.setFld (aprFld g) 0).raise 0x0E07 [g, (h.dtime - Map.get 0 h.brc.aprAt g) / 10 ^ 6]
      let v := ({ s with brc := { s.brc with ending := Map.put false s.brc.ending g true } } : Hw).each (groupLanes g) fun n s =>
        s.updFes n fun x => { x with apr := none, aprShut := false }
      v.each (emitters v g) fun st s => setCause st cApr false
        ((s.updAmp st fun x => { x with apr := none }).setFld (BRC_SSTAT_apr st) 0) := by
  unfold aprEnd
  dsimp only
  rw [ho, hr, hf, if_neg (by decide)]

/-- Settles O44: what the samples of a stage and the condition of a fibre bring. -/
theorem inputLossLimitAndReduction : Obligations.InputLossLimitAndReduction := by
  unfold Obligations.InputLossLimitAndReduction
  refine ⟨fun st x => ?_, fun st x => ?_, fun st x => ?_, fun st x => ?_, fun st x => ?_, fun g => ?_, fun g => ?_⟩
  · exact happens_intro (fun _ _ => rfl) fun h ⟨hr, hc, hp, hm⟩ => inputLossHold_low hr hc hp hm
  · exact happens_intro (fun _ _ => rfl) fun h ⟨hr, hc, hp, hm, hl, hd⟩ => inputLossMute_due hr hc hp hm hl hd
  · exact happens_intro (fun _ _ => rfl) fun h ⟨hr, hc, hp⟩ => inputRestored_high hr hc hp
  · exact happens_intro (fun _ _ => rfl) fun h ⟨hr, hp, hd⟩ => limitCeilingFall_due hr hp hd
  · refine happens_intro (fun _ _ => rfl) fun h ⟨hr, hd, hc, hp⟩ => ?_
    rw [limitCeilingRise_due hr hd]
    exact ceilingRises_below st.isLt hc hp
  · exact happens_intro (fun _ _ => rfl) fun h ⟨hr, hf, hd⟩ => aprStart_due hr hf hd
  · exact happens_intro (fun _ _ => rfl) fun h ⟨hr, hf, ho⟩ => aprEnd_due hr hf ho

end Sys2Proof.Machine

namespace Sys2Proof.Machine
open Reg

/-! ### Requests on the inbound wire (R424 to R426) -/

/-- A request that is enabled and not stuck is taken. -/
theorem takeRequest_enabled {s : Hw} (he : s.flag BRC_COEX_CFG_in_en = true) (hs : s.flag BRC_COEX_STATUS_in_stuck = false) :
    takeRequest s =
      let t := s.setFld BRC_COEX_STATUS_xreq_in 1
      let u := enterMode { t with brc := { t.brc with xreqAt := t.dtime } }
      u.setFlag BRC_COEX_STATUS_deferring (protection u) := by
  have h1 : (s.setFld BRC_COEX_STATUS_xreq_in 1).flag BRC_COEX_CFG_in_en = true :=
    (Hw.flag_setFld_other s 1 (by decide) (.inl (by decide))).trans he
  have h2 : (s.setFld BRC_COEX_STATUS_xreq_in 1).flag BRC_COEX_STATUS_in_stuck = false :=
    (Hw.flag_setFld_other s 1 (by decide) (.inr (by decide))).trans hs
  unfold takeRequest
  dsimp only
  rw [h1, h2, if_pos (by decide)]

/-- A request clears `in_stuck` where the wire has been low for 1 ms. -/
def stuckCleared (h : Hw) : Hw :=
  h.cond (!h.brc.xreqPin && decide (h.brc.xlowAt + 10 ^ 6 ≤ h.dtime)) fun s => s.setFld BRC_COEX_STATUS_in_stuck 0

theorem fld_stuckCleared (h : Hw) {f : Fld} (hf : f.lo + f.w ≤ 32)
    (ha : f.addr ≠ BRC_COEX_STATUS ∨ f.lo + f.w ≤ 2 ∨ 3 ≤ f.lo) : (stuckCleared h).fld f = h.fld f :=
  Hw.fld_cond (Hw.fld_setFld_other h 0 hf ha)

theorem stuck_stuckCleared {h : Hw} (hs : h.flag BRC_COEX_STATUS_in_stuck = false ∨ h.brc.xreqPin = false ∧ h.brc.xlowAt + 10 ^ 6 ≤ h.dtime) :
    (stuckCleared h).flag BRC_COEX_STATUS_in_stuck = false := by
  unfold stuckCleared
  cases hb : (!h.brc.xreqPin && decide (h.brc.xlowAt + 10 ^ 6 ≤ h.dtime))
  · refine hs.resolve_right fun ⟨hp, hl⟩ => ?_
    rw [hp, decide_eq_true hl] at hb
    exact absurd hb (by decide)
  · exact Hw.flag_clear h rfl (by decide)

theorem Hw.flag_brc (s : Hw) (x : Brc) (f : Fld) : ({ s with brc := x } : Hw).flag f = s.flag f := rfl

theorem Hw.ready_brc (s : Hw) (x : Brc) (d : Nat) : ({ s with brc := x } : Hw).ready d = s.ready d := rfl

theorem xreqInHigh_taken {h : Hw} (hr : h.ready 15 = true) (he : h.flag BRC_COEX_CFG_in_en = true)
    (hs : h.flag BRC_COEX_STATUS_in_stuck = false ∨ h.brc.xreqPin = false ∧ h.brc.xlowAt + 10 ^ 6 ≤ h.dtime) : xreqInHigh h =
      let a := stuckCleared h
      let t := ({ a with brc := { a.brc with xreqPin := true } } : Hw).setFld BRC_COEX_STATUS_xreq_in 1
      let s := enterMode { t with brc := { t.brc with xreqAt := t.dtime } }
      s.setFlag BRC_COEX_STATUS_deferring (protection s) := by
  have hready : (stuckCleared h).ready 15 = true := by
    rw [Hw.ready, Hw.domState, fld_stuckCleared h (by decide) (.inl (by decide))]
    exact hr
  have hen : (stuckCleared h).flag BRC_COEX_CFG_in_en = true := by
    rw [Hw.flag, fld_stuckCleared h (by decide) (.inl (by decide))]
    exact he
  unfold xreqInHigh
  rw [← stuckCleared]
  dsimp only
  rw [Hw.ready_brc, hready, if_pos rfl, takeRequest_enabled ((Hw.flag_brc ..).trans hen)
    ((Hw.flag_brc ..).trans (stuck_stuckCleared hs))]

theorem inboundGrant_due {h : Hw} (hr : h.ready 15 = true) (hx : h.flag BRC_COEX_STATUS_xreq_in = true)
    (he : h.flag BRC_COEX_CFG_in_en = true) (hg : h.flag BRC_COEX_STATUS_in_granted = false)
    (hs : h.flag BRC_COEX_STATUS_in_stuck = false) (hi : inbound h = true)
    (hp : protection h = false ∨ h.brc.xreqAt + 2 * 10 ^ 6 ≤ h.dtime) : inboundGrant h =
      ((((h.setFld BRC_COEX_STATUS_xgnt_out 1).setFld BRC_COEX_STATUS_in_granted 1).setFld BRC_COEX_STATUS_deferring 0).count
        BRC_GRANTS).raise 0x0E09 [(h.dtime - h.brc.xreqAt) / 1000, h.fld BRC_COEX_STATUS_deferring, h.fld BRC_COEX_CFG_mode] := by
  have hn : (protection h && decide (h.dtime < h.brc.xreqAt + 2 * 10 ^ 6)) = false := by
    rcases hp with hp | hp
    · rw [hp, Bool.false_and]
    · rw [decide_eq_false (Nat.not_lt.mpr hp), Bool.and_false]
  have hm : (((h.setFld BRC_COEX_STATUS_xgnt_out 1).setFld BRC_COEX_STATUS_in_granted 1).setFld BRC_COEX_STATUS_deferring 0).fld
      BRC_COEX_CFG_mode = h.fld BRC_COEX_CFG_mode := by
    rw [Hw.fld_setFld_other _ _ (by decide) (.inl (by decide)), Hw.fld_setFld_other _ _ (by decide) (.inl (by decide)),
      Hw.fld_setFld_other _ _ (by decide) (.inl (by decide))]
  have hb : ∀ (s : Hw) (f : Fld) (v : Nat), (s.setFld f v).brc = s.brc := fun _ _ _ => rfl
  unfold inboundGrant
  rw [hr, hx, he, hg, hs, hi, if_neg (by decide), hn, if_neg (by decide)]
  dsimp only
  rw [hm, hb, hb, hb, Hw.setFld_dtime, Hw.setFld_dtime, Hw.setFld_dtime]

/-! ### The mode ends (R425, R427) -/

theorem setCause_same {α : Type} (φ : Hw → α) (hφ : ∀ (s : Hw) (f : Fld) (v : Nat), φ (s.setFld f v) = φ s) (st c : Nat) (v : Bool) (s : Hw) :
    φ (setCause st c v s) = φ s := by
  unfold setCause
  have hf : ∀ (s : Hw) (f : Fld) (b : Bool), φ (s.setFlag f b) = φ s := fun s f b => hφ s f _
  extract_lets old a b m d
  have hb : φ b = φ s := by
    show φ (match causeLatch st c with
      | some f => a.cond (v && !hasBit old c) fun s => s.setFld f 1
      | none => a) = φ s
    cases causeLatch st c with
    | none => exact hφ _ _ _
    | some f => exact (Hw.cond_same φ _ a (hφ a f 1)).trans (hφ _ _ _)
  rw [hf, hf, hb]

theorem leaveMode_same {α : Type} (φ : Hw → α) (hφ : ∀ (s : Hw) (f : Fld) (v : Nat), φ (s.setFld f v) = φ s)
    (hr : ∀ s, φ (resumeTimers s) = φ s) (s : Hw) : φ (leaveMode s) = φ s := by
  unfold leaveMode
  dsimp only
  rw [Hw.each_same φ _ fun st t => (setCause_same φ hφ _ _ _ _).trans (hφ _ _ _), hφ, hφ, hφ, Hw.cond_same φ _ s (hr s)]

theorem dtime_resumeTimers (s : Hw) : (resumeTimers s).dtime = s.dtime := rfl

theorem xreqAt_resumeTimers (s : Hw) : (resumeTimers s).brc.xreqAt = s.brc.xreqAt := rfl

theorem inboundRequestStuck_due {h : Hw} (hr : h.ready 15 = true) (hx : h.flag BRC_COEX_STATUS_xreq_in = true)
    (he : h.flag BRC_COEX_CFG_in_en = true) (hs : h.flag BRC_COEX_STATUS_in_stuck = false)
    (hd : h.brc.xreqAt + h.fld BRC_COEX_CFG_req_max * 10 ^ 9 ≤ h.dtime) : inboundRequestStuck h =
      (((leaveMode h).setFld BRC_COEX_STATUS_in_stuck 1).count BRC_STUCK).raise 0x0E0A [(h.dtime - h.brc.xreqAt) / 10 ^ 9] := by
  have ht : (((leaveMode h).setFld BRC_COEX_STATUS_in_stuck 1).count BRC_STUCK).dtime = h.dtime := by
    rw [Hw.count_dtime, Hw.setFld_dtime, leaveMode_same Hw.dtime (fun _ _ _ => rfl) dtime_resumeTimers]
  have hb : (((leaveMode h).setFld BRC_COEX_STATUS_in_stuck 1).count BRC_STUCK).brc.xreqAt = h.brc.xreqAt := by
    rw [Hw.count_brc, Hw.setFld_brc, leaveMode_same (fun s => s.brc.xreqAt) (fun _ _ _ => rfl) xreqAt_resumeTimers]
  unfold inboundRequestStuck
  rw [hr, hx, he, hs, decide_eq_true hd, if_pos (by decide)]
  dsimp only
  rw [ht, hb]

/-! ### The outbound wires (R428) -/

theorem outboundGrantTimeout_due {h : Hw} (hr : h.ready 15 = true)
    (hg : (h.flag BRC_COEX_STATUS_xreq_out && h.flag BRC_COEX_STATUS_xgnt_in) = false) (hw : waiting h isCoex = true)
    (hd : h.brc.xoutAt + h.fld BRC_COEX_CFG_grant_timeout * 10 ^ 6 ≤ h.dtime) : outboundGrantTimeout h =
      setOutcome ((h.setFld BRC_COEX_STATUS_xreq_out 0).raise 0x0E0B [h.fld BRC_COEX_CFG_grant_timeout]) isCoex stREFUSED 0x0E02 := by
  unfold outboundGrantTimeout
  rw [hr, hg, hw, decide_eq_true hd, if_pos (by decide)]

/-- Settles O45: what each wire brings. -/
theorem coexistenceWires : Obligations.CoexistenceWires := by
  unfold Obligations.CoexistenceWires
  refine ⟨?_, ?_, ?_, fun h => rfl, ?_, ?_, ?_, ?_⟩
  · exact happens_intro (fun _ _ => rfl) fun h ⟨hr, he, hs⟩ => xreqInHigh_taken hr he hs
  · exact happens_intro (fun _ _ => rfl) fun h ⟨hr, hx, he, hg, hs, hi, hp⟩ => inboundGrant_due hr hx he hg hs hi hp
  · exact happens_intro (fun _ _ => rfl) fun h hr => if_pos hr
  · exact happens_intro (fun _ _ => rfl) fun h ⟨hr, hx, he, hs, hd⟩ => inboundRequestStuck_due hr hx he hs hd
  · exact happens_intro (fun _ _ => rfl) fun h hr => if_neg (by
      have : ({ h with brc := { h.brc with xgntPin := true } } : Hw).ready 15 = true := hr
      rw [this]
      decide)
  · exact happens_intro (fun _ _ => rfl) fun h hr => if_neg (by
      have : ({ h with brc := { h.brc with xgntPin := false } } : Hw).ready 15 = true := hr
      rw [this]
      decide)
  · exact happens_intro (fun _ _ => rfl) fun h ⟨hr, hg, hw, hd⟩ => outboundGrantTimeout_due hr hg hw hd

end Sys2Proof.Machine

namespace Sys2Proof.Machine
open Reg

/-! ### Loops and their coefficients (R430 to R434) -/

section
variable {b : Hw} {c : Call}

theorem cleLoopConfig_body (hm : loopMode b (u8 c.p 0) = 0) (hr : hasBit (u8 c.p 9) 0 = false ∨ u8 c.p 0 ≤ 15) :
    opCleLoopConfig.body b c = .ok (applyCleLoop c.p b) := by
  unfold opCleLoopConfig OpSpec.fix
  dsimp only
  rw [if_neg (not_not_intro hm), if_neg]
  rintro ⟨h1, h2⟩
  rcases hr with hr | hr
  · exact Bool.false_ne_true (hr.symm.trans h1)
  · omega

/-- The coefficients of a request, written. -/
def coefsPut (b : Hw) (c : Call) : Hw := putWords b (CLE_COEF (u8 c.p 0) 0) ((List.range 16).map fun w => u32 c.p (2 + 4 * w))

theorem cleCoefLoad_plain (hm : loopMode b (u8 c.p 0) = 0) (hd : hasBit (u8 c.p 1) 0 = false) :
    opCleCoefLoad.body b c = .ok (coefsPut b c) := by
  unfold opCleCoefLoad OpSpec.fix
  dsimp only
  rw [if_neg fun h => h.1 hm, hd, if_neg Bool.false_ne_true]
  rfl

theorem cleCoefLoad_declares (hd : hasBit (u8 c.p 1) 0 = true) : opCleCoefLoad.body b c =
    .ok ((setDeclared (coefsPut b c) (19 + u8 c.p 0) true).raise 0x0C07 [19 + u8 c.p 0, Map.get 0 b.mem.preN (19 + u8 c.p 0)]) := by
  unfold opCleCoefLoad OpSpec.fix
  dsimp only
  rw [hd, if_neg fun h => absurd h.2 (by decide), if_pos rfl]
  rfl

/-! ### Modes (R431, R432) -/

/-- The loops that would run after CLE_MODE_SET. -/
def runsAfter (b : Hw) (c : Call) (l : Nat) : Bool := if (bitsOf 32 (u32 c.p 0)).contains l then u8 c.p 4 != 0 else loopMode b l != 0

/-- A mode taken, with the load that follows. -/
def modesTaken (b : Hw) (c : Call) : Hw := settleLoad (b.each (bitsOf 32 (u32 c.p 0)) fun l s => changeMode s l (u8 c.p 4))

theorem cleModeSet_body (hr : u8 c.p 4 = 0 ∨ modeRefused b (bitsOf 32 (u32 c.p 0)) = none)
    (hc : u8 c.p 4 = 0 ∨ (loops32.any fun x => runsAfter b c x && loops32.any fun y =>
      decide (x < y) && runsAfter b c y && sameDest b x y) = false)
    (hl : u8 c.p 4 = 0 ∨ (engineLoad b (runsAfter b c)).1 ≤ 3 * (engineLoad b (runsAfter b c)).2) :
    opCleModeSet.body b c = .ok (modesTaken b c) (toBE 2 ((modesTaken b c).fld CLE_LOAD_load) ++ [0, 0]) := by
  have h1 : (if u8 c.p 4 = 0 then none else modeRefused b (bitsOf 32 (u32 c.p 0))) = none := by
    split
    · rfl
    · next h => exact hr.resolve_left h
  have h2 : (u8 c.p 4 != 0 && loops32.any fun x => runsAfter b c x && loops32.any fun y =>
      decide (x < y) && runsAfter b c y && sameDest b x y) = false := by
    rcases hc with hc | hc
    · rw [hc]
      rfl
    · rw [hc, Bool.and_false]
  have h3 : ¬ (u8 c.p 4 ≠ 0 ∧ (engineLoad b (runsAfter b c)).1 > 3 * (engineLoad b (runsAfter b c)).2) := fun ⟨h, k⟩ =>
    absurd k (Nat.not_lt.mpr (hl.resolve_left h))
  unfold opCleModeSet OpSpec.fix
  dsimp only
  rw [h1]
  dsimp only
  refine (if_neg ?_).trans ((if_neg h3).trans rfl)
  exact Bool.eq_false_iff.mp h2

/-! ### Set-points and repetitive tables (R433 to R435) -/

theorem preN_putTable (s : Hw) (a : Nat) (v : Word) : (putTable s a v).mem.preN = s.mem.preN :=
  Hw.cond_same (fun s => s.mem.preN) _ _ rfl

theorem preN_putWords (s : Hw) (a : Nat) (vs : List Nat) : (putWords s a vs).mem.preN = s.mem.preN := by
  have hf : ∀ (vs : List Nat) (x : Hw × Nat),
      (vs.foldl (fun (x : Hw × Nat) v => (putTable x.1 x.2 (BitVec.ofNat 32 v), x.2 + 1)) x).1.mem.preN = x.1.mem.preN := by
    intro vs
    induction vs with
    | nil => exact fun _ => rfl
    | cons v vs ih => exact fun x => (ih _).trans (preN_putTable _ _ _)
  unfold putWords
  exact (Hw.each_same (fun s => s.mem.preN) (wholeWords a vs.length) (f := fun w s => wroteWhole s w) (fun _ _ => rfl) _).trans
    (hf vs (s, a))

/-- The entries of CLE_REP_LOAD. -/
def repEntries (c : Call) : List Nat := (List.range (u16 c.p 2)).map fun i => u32 c.p (5 + 4 * i)

/-- The repetitive table of a loop is declared, with its event. -/
def repDeclared (b : Hw) (c : Call) (s : Hw) : Hw := s.cond (hasBit (u8 c.p 4) 0) fun s =>
  (setDeclared s (51 + u8 c.p 0) true).raise 0x0C07 [51 + u8 c.p 0, Map.get 0 b.mem.preN (51 + u8 c.p 0)]

section
variable (hm : loopMode b (u8 c.p 0) ≠ 2 ∨ hasBit (u8 c.p 4) 0 = true) (hc : hasBit (u8 c.p 4) 0 = false ∨
  coverFull (putWords b (CLE_REP (u8 c.p 0) (u8 c.p 1)) (repEntries c)) (51 + u8 c.p 0) = true)
include hm hc

theorem cleRepLoad_body : opCleRepLoad.body b c =
    let s := if b.fld (CLE_STATUS_rep (u8 c.p 0)) ≥ 2 then
        b.updLoop (u8 c.p 0) fun x => { x with load := x.load ++ (List.range (repEntries c).length).map fun i =>
          (u8 c.p 1 + i, (repEntries c).getD i 0) }
      else (putWords b (CLE_REP (u8 c.p 0) (u8 c.p 1)) (repEntries c)).updLoop (u8 c.p 0) fun x =>
        { x with engage := hasBit (u8 c.p 4) 1 }
    .ok (s.cond (hasBit (u8 c.p 4) 0) fun s =>
      (setDeclared s (51 + u8 c.p 0) true).raise 0x0C07 [51 + u8 c.p 0, Map.get 0 s.mem.preN (51 + u8 c.p 0)]) := by
  have h1 : ¬ (loopMode b (u8 c.p 0) = 2 ∧ (!hasBit (u8 c.p 4) 0) = true) := fun ⟨h, k⟩ => by
    rw [hm.resolve_left (not_not_intro h)] at k
    exact Bool.false_ne_true k
  have h2 : ¬ (hasBit (u8 c.p 4) 0 = true ∧
      (!coverFull (putWords b (CLE_REP (u8 c.p 0) (u8 c.p 1)) (repEntries c)) (51 + u8 c.p 0)) = true) := fun ⟨h, k⟩ => by
    rw [hc.resolve_left (by rw [h]; decide)] at k
    exact Bool.false_ne_true k
  unfold opCleRepLoad OpSpec.list
  dsimp only
  exact (if_neg h1).trans (if_neg h2)

theorem cleRepLoad_now (hp : b.fld (CLE_STATUS_rep (u8 c.p 0)) < 2) : opCleRepLoad.body b c =
    .ok (repDeclared b c ((putWords b (CLE_REP (u8 c.p 0) (u8 c.p 1)) (repEntries c)).updLoop (u8 c.p 0) fun x =>
      { x with engage := hasBit (u8 c.p 4) 1 })) := by
  have hn : ∀ k : Loop → Loop, ((putWords b (CLE_REP (u8 c.p 0) (u8 c.p 1)) (repEntries c)).updLoop (u8 c.p 0) k).mem.preN =
      b.mem.preN := fun k => preN_putWords ..
  rw [cleRepLoad_body hm hc]
  dsimp only
  rw [if_neg (Nat.not_le.mpr hp), repDeclared]
  refine congrArg (fun e => Res.ok e []) (Hw.cond_congr _ ?_)
  rw [hn]

theorem cleRepLoad_later (hp : 2 ≤ b.fld (CLE_STATUS_rep (u8 c.p 0))) : opCleRepLoad.body b c =
    .ok (repDeclared b c (b.updLoop (u8 c.p 0) fun x => { x with load := x.load ++ (List.range (repEntries c).length).map fun i =>
      (u8 c.p 1 + i, (repEntries c).getD i 0) })) := by
  rw [cleRepLoad_body hm hc]
  dsimp only
  rw [if_pos hp, repDeclared]
  exact congrArg (fun e => Res.ok e []) (Hw.cond_congr _ rfl)

end

theorem cleRepRead_body (hd : b.declared (51 + u8 c.p 0) = true) : opCleRepRead.body b c = .ok b ((List.range (u16 c.p 2)).flatMap
    (fun i => toBE 4 (tableWord b (CLE_REP (u8 c.p 0) (u8 c.p 1) + i)).toNat) ++ toBE 8 (b.num64 MCV_MAINS_T)) :=
  if_pos hd

theorem runsAfter_on (hm : u8 c.p 4 ≠ 0) : runsAfter b c = fun l =>
    if (bitsOf 32 (u32 c.p 0)).contains l then true else loopMode b l != 0 := by
  funext l
  unfold runsAfter
  rw [bne_iff_ne.mpr hm]

end

/-- Settles O46: the body of each request under its row's condition. -/
theorem controlLoopSettings : Obligations.ControlLoopSettings := by
  unfold Obligations.ControlLoopSettings
  refine ⟨?_, ?_, ?_, ?_, ?_, ?_, ?_, ?_, ?_, ?_, ?_⟩
  · exact runsOk_intro (fun _ _ _ => rfl) fun b c ⟨hm, hr⟩ => ⟨_, _, cleLoopConfig_body hm hr, rfl, rfl⟩
  · exact runsOk_intro (fun _ _ _ => rfl) fun b c ⟨hm, hd⟩ => ⟨_, _, cleCoefLoad_plain hm hd, rfl, rfl⟩
  · exact runsOk_intro (fun _ _ _ => rfl) fun b c hd => ⟨_, _, cleCoefLoad_declares hd, rfl, rfl⟩
  · refine runsOk_intro (fun _ _ _ => rfl) fun b c h0 => ⟨_, _, cleModeSet_body (.inl h0) (.inl h0) (.inl h0), ?_, rfl⟩
    rw [modesTaken, h0]
  · refine runsOk_intro (fun _ _ _ => rfl) fun b c ⟨hm, hr, hc, hl⟩ => ⟨_, _, cleModeSet_body (.inr hr) ?_ ?_, rfl, rfl⟩
    · rw [runsAfter_on hm]
      exact .inr hc
    · rw [runsAfter_on hm]
      exact .inr hl
  · exact runsOk_intro (fun _ _ _ => rfl) fun b c h => ⟨_, _, if_neg (Bool.eq_false_iff.mp h), rfl, rfl⟩
  · exact runsOk_intro (fun _ _ _ => rfl) fun b c ⟨hm, hc, hp⟩ => ⟨_, _, cleRepLoad_now hm hc hp, rfl, rfl⟩
  · exact runsOk_intro (fun _ _ _ => rfl) fun b c ⟨hm, hc, hp⟩ => ⟨_, _, cleRepLoad_later hm hc hp, rfl, rfl⟩
  · exact runsOk_intro (fun _ _ _ => rfl) fun b c hd => ⟨_, _, cleRepRead_body hd, rfl, rfl⟩
  · exact runsOk_intro (fun _ _ _ => rfl) fun b c _ => ⟨_, _, rfl, rfl, rfl⟩
  · exact runsOk_intro (fun _ _ _ => rfl) fun b c _ => ⟨_, _, rfl, rfl, rfl⟩

end Sys2Proof.Machine

namespace Sys2Proof.Machine
open Reg

/-! ### Test signals (R441) -/

theorem nextSample_raise (s : Hw) (c : Nat) (p : List Nat) (l : Nat) : nextSample (s.raise c p) l = nextSample s l := rfl

/-- The signal that a call asks for. -/
def testAsked (c : Call) : TestSig where
  amp := s32 c.p 3
  h := u16 c.p 7
  f0 := u32 c.p 9
  f1 := u32 c.p 13
  len := u32 c.p 17

/-- A test that runs now. -/
def testRuns (b : Hw) (c : Call) : Hw :=
  let s := (((((b.setFld CLE_TEST_running 1).setFld CLE_TEST_point (u8 c.p 1)).setFld CLE_TEST_type (u8 c.p 2)).setFld
    CLE_TEST_loop (u8 c.p 0)).setNum CLE_TEST_DONE 0).setFld (CLE_STATUS_test (u8 c.p 0)) 1
  { s with cle := { s.cle with test := some (testAsked c) } }

theorem cleTestStart_body {b : Hw} {c : Call} (hr : b.flag CLE_TEST_running = false) (hm : loopMode b (u8 c.p 0) ≠ 0) :
    opCleTestStart.body b c = .ok ((testRuns b c).raise 0x0F05 [u8 c.p 0, u8 c.p 1, u8 c.p 2])
      (toBE 8 (nextSample (testRuns b c) (u8 c.p 0) % 2 ^ 64)) := by
  unfold opCleTestStart OpSpec.fix
  dsimp only
  rw [hr, if_neg Bool.false_ne_true, if_neg hm]
  rfl

theorem endTest_off {h : Hw} (k : Nat) (hr : h.flag CLE_TEST_running = false) : endTest h k = h := by
  unfold endTest
  rw [hr, if_pos (by decide)]

theorem endTest_on {h : Hw} (k : Nat) (hr : h.flag CLE_TEST_running = true) : endTest h k =
    let s := ((h.raise 0x0F06 [h.fld CLE_TEST_loop, k, h.num CLE_TEST_DONE]).setFld (CLE_STATUS_test (h.fld CLE_TEST_loop)) 0).setFld
      CLE_TEST_running 0
    { s with cle := { s.cle with test := none } } := by
  have hc : ∀ (s : Hw) (f : Fld) (v : Nat), (s.setFld f v).cle = s.cle := fun _ _ _ => rfl
  unfold endTest
  rw [hr, if_neg (by decide)]
  dsimp only
  rw [Hw.fld_raise, hc _ CLE_TEST_running]

/-! ### Cycles (R436 to R439) -/

theorem fld_pmc (s : Hw) (ev k : Nat) {f : Fld} (h : f.addr / 65536 ≠ 0x12) : (s.pmc ev k).fld f = s.fld f := by
  rw [Hw.fld, (keeps_pmc s ev k).1 f.addr (by simpa using h), Hw.fld]

theorem fld_testConsume (s : Hw) (l n : Nat) {f : Fld} (h : f.addr ≠ CLE_TEST_DONE) : (testConsume s l n).fld f = s.fld f := by
  unfold testConsume
  cases testOn s l with
  | none => rfl
  | some t => exact Hw.fld_setNum_other _ _ h

theorem Hw.fld_updLoop (s : Hw) (l : Nat) (k : Loop → Loop) (f : Fld) : (s.updLoop l k).fld f = s.fld f := rfl

/-- Misses, in the order of their effects. -/
theorem missSamples_pos (s : Hw) (l : Nat) {n : Nat} (hn : n ≠ 0) : missSamples s l n =
    let m := (s.loop l).misses
    let a := s.cond (m.1 != s.second) fun t => t.raise 0x0F01 [l, if m.1 + 1 = s.second then m.2 else 0]
    let b := a.updLoop l fun x => { x with misses := if m.1 = s.second then (m.1, m.2 + n) else (s.second, n) }
    let w := ((b.setFld (CLE_STATUS_miss l) 1).setFld (CLE_LATCH_miss l) 1).count (CLE_MISS l) n
    testConsume (w.pmc 0x0A1 n) l n := by
  unfold missSamples
  rw [if_neg hn]

theorem loopMode_missSamples (s : Hw) {l : Nat} (n : Nat) (hl : l < 16) : loopMode (missSamples s l n) l = loopMode s l := by
  have hw : (CLE_STATUS_mode l).lo + (CLE_STATUS_mode l).w ≤ 32 ∧
      (CLE_STATUS_miss l).lo + (CLE_STATUS_miss l).w ≤ (CLE_STATUS_mode l).lo := by
    unfold CLE_STATUS_mode CLE_STATUS_miss
    dsimp only
    decide
  have ha : CLE_STATUS l / 65536 ≠ 0x12 ∧ CLE_STATUS l ≠ CLE_TEST_DONE ∧ CLE_STATUS l ≠ CLE_LATCH l ∧ CLE_STATUS l ≠ CLE_MISS l := by
    unfold CLE_STATUS CLE_TEST_DONE CLE_LATCH CLE_MISS
    omega
  obtain ⟨h1, h2, h3, h4⟩ := ha
  by_cases hn : n = 0
  · rw [hn]
    rfl
  rw [missSamples_pos s l hn, loopMode, loopMode]
  dsimp only
  rw [fld_testConsume _ _ _ (f := CLE_STATUS_mode l) h2, fld_pmc _ _ _ (f := CLE_STATUS_mode l) h1]
  rw [Hw.count, Hw.fld_setNum_other _ _ (f := CLE_STATUS_mode l) h4,
    Hw.fld_setFld_other (f := CLE_LATCH_miss l) _ _ hw.1 (.inl h3), Hw.fld_setFld_other _ _ hw.1 (.inr (.inr hw.2)), Hw.fld_updLoop]
  exact Hw.fld_cond rfl

/-- The samples left of a cycle that ends are missed. -/
def cycleMissed (h : Hw) (l : Nat) : Hw := h.cond (decide ((h.loop l).cycleT ≠ 0)) fun s => missSamples s l (cycleLeft s l)

theorem repCycleEnd_turns {h : Hw} {l : Nat} (hr : h.ready 15 = true) (hl : l < 16) (he : h.flag (CLE_CFG_rep_en l) = true)
    (hm : loopMode h l = 2) (hv : h.flag CLE_MAINS_valid = true) (hc : (h.loop l).cycle ≠ h.num64 MCV_MAINS_T) :
    repCycleEnd l h = (turnCycle (cycleMissed h l) l).updLoop l fun x =>
      { x with j := 0, cycle := h.num64 MCV_MAINS_T, cycleT := (turnCycle (cycleMissed h l) l).fld CLE_MAINS_period } := by
  have h2 : loopMode (cycleMissed h l) l = 2 :=
    (Hw.cond_same (fun s => loopMode s l) _ h (loopMode_missSamples h _ hl)).trans hm
  unfold repCycleEnd endCycle byMains
  rw [if_pos hr]
  extract_lets z a b
  have ha : a = cycleMissed h l := rfl
  have hb : b = turnCycle (cycleMissed h l) l := by
    show (a.cond (loopMode a l == 2) fun s => turnCycle s l) = _
    rw [ha, h2, beq_self_eq_true, Hw.cond_true]
  rw [decide_eq_true hl, he, hm, hv, beq_false_of_ne hc, if_neg (by decide), hb]

/-- A cycle's turn, in the order of its effects. -/
theorem turnCycle_eq (m : Hw) (l : Nat) : turnCycle m l =
    let d := (m.loop l).delta
    let s := nextPhase (applyLoads (m.cond (!d.isEmpty) fun s => addRecord s l d) l) l (!d.isEmpty)
    let r := if cycleRecorded s l (m.fld (CLE_STATUS_rep l)) (cycleSteady m l) = true then
      cycleRecord s l (m.fld (CLE_STATUS_rep l)) else ([], s)
    cycleBegins r.2 l r.1 := rfl

section
variable {h : Hw} {l : Nat} {a : Bool}

theorem nextPhase_engaging (hp : h.fld (CLE_STATUS_rep l) = 2) : nextPhase h l a =
    (h.setFld (CLE_STATUS_rep l) 3).raise 0x0F03 [l, h.fld (CLE_STATUS_cycles l)] := by
  unfold nextPhase
  dsimp only
  rw [hp, if_neg (by simp), if_pos (beq_self_eq_true _)]

theorem nextPhase_engaged (hp : h.fld (CLE_STATUS_rep l) = 3) : nextPhase h l a = h := by
  unfold nextPhase
  dsimp only
  rw [hp, if_neg (by simp), if_neg (by decide)]

theorem nextPhase_learning (hp : h.fld (CLE_STATUS_rep l) = 1) : (nextPhase h l a).fld (CLE_STATUS_rep l) = 2 ↔
    ((h.loop l).engage = true ∨ h.fld (CLE_LEARN_learn_cycles l) = 0 ∨ ((h.loop l).begun = true ∧ a = true ∧
      h.fld (CLE_LEARN_learn_cycles l) ≤ h.fld (CLE_STATUS_cycles l))) := by
  have hw : (CLE_STATUS_rep l).lo + (CLE_STATUS_rep l).w ≤ 32 := by
    unfold CLE_STATUS_rep
    dsimp only
    decide
  have hc : ((1 == 1) && ((h.loop l).engage || h.fld (CLE_LEARN_learn_cycles l) == 0 || ((h.loop l).begun && a &&
      decide (h.fld (CLE_STATUS_cycles l) ≥ h.fld (CLE_LEARN_learn_cycles l))))) = true ↔
      ((h.loop l).engage = true ∨ h.fld (CLE_LEARN_learn_cycles l) = 0 ∨ ((h.loop l).begun = true ∧ a = true ∧
        h.fld (CLE_LEARN_learn_cycles l) ≤ h.fld (CLE_STATUS_cycles l))) := by
    simp only [beq_self_eq_true, Bool.true_and, Bool.or_eq_true, Bool.and_eq_true, beq_iff_eq, decide_eq_true_eq, ge_iff_le,
      or_assoc, and_assoc]
  unfold nextPhase
  dsimp only
  rw [hp, ← hc]
  split
  · next hx =>
    refine iff_of_true ?_ hx
    rw [Hw.fld_updLoop, Hw.fld_setFld_same _ _ hw]
    rfl
  · next hx =>
    rw [if_neg (by decide), hp]
    exact iff_of_false (by decide) hx

end

theorem mainsInvalidDisengage_due {h : Hw} {l t : Nat} (hr : h.ready 15 = true) (hl : l < 16) (he : h.flag (CLE_CFG_rep_en l) = true)
    (hm : loopMode h l = 2) (hv : h.flag CLE_MAINS_valid = false) (ho : (h.loop l).offAt = none) (hb : h.cle.badAt = some t)
    (hd : t + 10 ^ 9 ≤ h.dtime) : mainsInvalidDisengage l h = (h.updLoop l fun x =>
      { x with offAt := some h.dtime, weight := weightNow h l, back := false }).raise 0x0F04 [l, h.fld CLE_MAINS_period] := by
  unfold mainsInvalidDisengage
  refine if_pos ?_
  simp only [hr, he, decide_eq_true hl, hm, hv, ho, hb, decide_eq_true hd]
  decide

theorem lockinWindowEnd_due {h : Hw} {d : Nat} {v : List Int} (hr : h.ready 15 = true)
    (hd : Map.get 0 h.cle.liaAt d + h.fld (CLE_LIA_WIN_window d) * 1000 ≤ h.dtime) : lockinWindowEnd d v h =
      let s := (liaMean h d v).2.setInt (CLE_LIA_OUT d) (liaMean h d v).1
      { s with cle := { s.cle with
        liaN := Map.put 0 s.cle.liaN d (Map.get 0 s.cle.liaN d + 1), liaAt := Map.put 0 s.cle.liaAt d s.dtime } } := by
  unfold lockinWindowEnd
  rw [hr, decide_eq_false (Nat.not_lt.mpr hd), if_neg (by decide)]

theorem testSignalEnd_done {h : Hw} {t : TestSig} (hr : h.ready 15 = true) (ht : h.cle.test = some t) (hd : t.len ≤ t.k) :
    testSignalEnd h = endTest h 0 := by
  unfold testSignalEnd
  rw [ht]
  exact if_pos (by rw [hr, decide_eq_true hd]; decide)

theorem outputLimitAlarm_due {h : Hw} {l k since : Nat} (hr : h.ready 15 = true) (hm : loopMode h l ≠ 0)
    (hs : (h.loop l).satAt = some (k, since)) (hn : (h.loop l).satSaid = false) (hd : since + 10 ^ 9 ≤ h.dtime) :
    outputLimitAlarm l h = (h.updLoop l fun x => { x with satSaid := true }).raise 0x0F08 [l, k, h.num (CLE_Y l)] := by
  unfold outputLimitAlarm
  rw [hs]
  dsimp only
  rw [hr, bne_iff_ne.mpr hm, hn, decide_eq_true hd, if_pos (by decide)]

/-- Settles O47: what tests, cycles, windows and limits bring. -/
theorem cyclesTestsAndLockIn : Obligations.CyclesTestsAndLockIn := by
  unfold Obligations.CyclesTestsAndLockIn
  refine ⟨?_, ?_, fun h k => ⟨endTest_off k, endTest_on k⟩, ?_, ?_, fun l => ?_,
    fun h l a _ => ⟨nextPhase_engaging, nextPhase_learning, nextPhase_engaged⟩, fun l t => ?_, fun d v => ?_, fun t => ?_,
    fun l k since => ?_⟩
  · refine runsOk_intro (fun _ _ _ => rfl) fun b c ⟨hr, hm⟩ => ⟨_, _, cleTestStart_body hr hm, rfl, ?_⟩
    rw [nextSample_raise]
  · exact runsOk_intro (fun _ _ _ => rfl) fun b c _ => ⟨_, _, rfl, rfl, rfl⟩
  · exact runsOk_intro (fun _ _ _ => rfl) fun b c _ => ⟨_, _, rfl, rfl, rfl⟩
  · exact runsOk_intro (fun _ _ _ => rfl) fun b c _ => ⟨_, _, rfl, rfl, rfl⟩
  · refine happens_intro (fun _ _ => rfl) fun h ⟨hr, hl, he, hm, hv, hc⟩ => ?_
    rw [repCycleEnd_turns hr hl he hm hv hc, turnCycle_eq]
    rfl
  · exact happens_intro (fun _ _ => rfl) fun h ⟨hr, hl, he, hm, hv, ho, hb, hd⟩ => mainsInvalidDisengage_due hr hl he hm hv ho hb hd
  · exact happens_intro (fun _ _ => rfl) fun h ⟨hr, hd⟩ => lockinWindowEnd_due hr hd
  · exact happens_intro (fun _ _ => rfl) fun h ⟨hr, ht, hd⟩ => testSignalEnd_done hr ht hd
  · exact happens_intro (fun _ _ => rfl) fun h ⟨hr, hm, hs, hn, hd⟩ => outputLimitAlarm_due hr hm hs hn hd

end Sys2Proof.Machine

namespace Sys2Proof.Machine
open Reg

/-! ### What Gather keeps when it is shown a sample (R487, R492) -/

theorem keeps_updGth (s : Hw) (f : Gth → Gth) : keeps [] [.gth] s (updGth s f) := by
  refine ⟨fun _ _ => rfl, fun p hp => ?_, rfl⟩
  cases p with
  | gth => simp at hp
  | _ => rfl

theorem keeps_candidate (s : Hw) (k t : Nat) : keeps [0x12] [.gth, .evr] s (candidate s k t).2 := by
  have hg : s.fld GTH_STATE_segment < 2 ^ 4 := Hw.fld_lt s GTH_STATE_segment
  have ha : ∀ g, g < 2 ^ 4 → (GTH_SEG_triggered g).addr / 65536 = 0x12 ∧ GTH_SEG_T g / 65536 = 0x12 ∧ (GTH_SEG_T g + 1) / 65536 = 0x12 := by
    unfold GTH_SEG_triggered GTH_SEG GTH_SEG_T
    dsimp only
    omega
  obtain ⟨h1, h2, h3⟩ := ha _ hg
  have hc : keeps [0x12] [.gth, .evr] s (((s.setFld GTH_STATE_state 3).setFld (GTH_SEG_triggered (s.fld GTH_STATE_segment)) 1).setNum64
      (GTH_SEG_T (s.fld GTH_STATE_segment)) t) :=
    keeps_trans (((keeps_refl _ _ s).setFld 3 (by decide)).setFld 1 (List.mem_singleton.mpr h1))
      (keeps_setNum64 _ _ _ t (List.mem_singleton.mpr h2) (List.mem_singleton.mpr h3))
  unfold candidate
  extract_lets held
  split
  · exact (hc.part (by simp) (keeps_updGth _ _)).raise _ _ (by simp)
  · exact keeps.part ((keeps_refl _ _ s).setNum _ (by decide)) (by simp) (keeps_updGth _ _)

theorem keeps_offer (s : Hw) (k t : Nat) : keeps [0x12] [.gth, .evr] s (offer s k t).2 := by
  have hs := keeps_refl [0x12] [.gth, .evr] s
  unfold offer
  split
  · split
    · split
      · exact (hs.part (by simp) (keeps_updEvr s _)).part (by simp) (keeps_updGth _ _)
      · exact hs
    · exact hs
  · exact (keeps_candidate s k t).part (by simp) (keeps_updGth _ _)

theorem keeps_watch (kind idx : Nat) (v : Int) (t : Nat) (s : Hw) : keeps [0x12] [.gth, .evr] s (watch kind idx v t s) := by
  have hs := keeps_refl [0x12] [.gth, .evr] s
  unfold watch
  extract_lets named level w
  split
  · exact hs
  · refine keeps.part ?_ (by simp) (keeps_updGth _ _)
    simp only [w]
    cases s.gth.signal with
    | none => exact hs
    | some q => exact Hw.ite_keeps (keeps_offer s 8 _) hs

theorem keeps_stageUnit (s : Hw) (kind src t : Nat) (u : Bytes) : keeps [0x12] [.gth, .evr] s (stageUnit s kind src t u) := by
  have hs := keeps_refl [0x12] [.gth, .evr] s
  have hput : ∀ {w : Hw} (f : Gth → Gth), keeps [0x12] [.gth, .evr] s w → keeps [0x12] [.gth, .evr] s (updGth w f) :=
    fun f hw => hw.part (by simp) (keeps_updGth _ f)
  have hgap : ∀ n, keeps [0x12] [.gth, .evr] s (countGap s n) := fun n =>
    keeps_trans (hs.setNum _ (by decide)) (keeps_setNum64 _ _ _ _ (by decide) (by decide))
  unfold stageUnit
  split
  · exact hs
  extract_lets st put full w b
  have hw : keeps [0x12] [.gth, .evr] s w := by
    simp only [w]
    cases st.gap with
    | none => exact hs
    | some q => exact hput _ (hgap _)
  split
  · exact hput _ hs
  · split
    · exact hput _ hw
    · exact hput _ hw

theorem keeps_showSample (s : Hw) (l : Nat) (i : Int) : keeps [0x12] [.gth, .evr] s (showSample s l i) := by
  unfold showSample
  extract_lets u w
  exact keeps_trans (keeps_trans (keeps_stageUnit s 2 l _ u) (keeps_mono (by simp) (by simp) (keeps_pmc _ _ _))) (keeps_watch 1 l _ _ w)

/-! ### Samples (R430 to R434) -/

theorem computeSample_stale {h : Hw} {l : Nat} (d : List (List Nat)) (hs : coefN h l 3 % 65536 ≠ 0 ∧
    coefN h l 3 % 65536 ≤ if sourceNew h l = true then 0 else (h.loop l).unchanged + 1) : computeSample d l h =
      let n := if sourceNew h l = true then 0 else (h.loop l).unchanged + 1
      let t := h.updLoop l fun x => { x with unchanged := n, taken := if sourceNew h l = true then sourceCount h l else x.taken }
      let j := injections t l
      let z := testConsume (staleSample j.2 l (j.1.1 + j.1.2.1 + shr16 j.1.2.2)) l 1
      if (byMains z l && !z.flag CLE_MAINS_valid) = true then z else goTo z l (instantNow z l + 1) := by
  unfold computeSample
  dsimp only
  rw [decide_eq_true hs, if_pos rfl]

theorem computeSample_live {h : Hw} {l : Nat} (d : List (List Nat)) (hs : ¬ (coefN h l 3 % 65536 ≠ 0 ∧
    coefN h l 3 % 65536 ≤ if sourceNew h l = true then 0 else (h.loop l).unchanged + 1)) : computeSample d l h =
      let n := if sourceNew h l = true then 0 else (h.loop l).unchanged + 1
      let t := h.updLoop l fun x => { x with unchanged := n, taken := if sourceNew h l = true then sourceCount h l else x.taken }
      let j := injections t l
      let s := j.2.setFld (CLE_STATUS_stale l) 0
      let x := sat32 (shr16 ((rawValue s l d - coefI s l 5) * coefI s l 4) + j.1.2.1)
      let w := s.cond (s.loop l).fresh fun s => startLoop s l x
      let z := testConsume (completeSample w l (loopTerms w l x j.1.1 j.1.2.2 (j.1.1 + j.1.2.1 + shr16 j.1.2.2))) l 1
      if (byMains z l && !z.flag CLE_MAINS_valid) = true then z else goTo z l (instantNow z l + 1) := by
  unfold computeSample
  dsimp only
  rw [decide_eq_false hs, if_neg Bool.false_ne_true]

theorem writeDest_none {s : Hw} {l : Nat} (y : Int) (hk : s.fld (CLE_CFG_dst_kind l) = 0) : writeDest s l y = s := by
  unfold writeDest
  dsimp only
  rw [hk]
  rfl

theorem recordError_regs (s : Hw) (l : Nat) (e : Int) : (recordError s l e).regs = s.regs := by
  unfold recordError
  exact Hw.ite_same Hw.regs rfl rfl

theorem sat32_mem (x : Int) : -(2 : Int) ^ 31 ≤ sat32 x ∧ sat32 x ≤ 2 ^ 31 - 1 := clampI_mem (by decide) x

theorem Hw.reg_setInt_other (s : Hw) {a b : Nat} (y : Int) (h : b ≠ a) : (s.setInt a y).reg b = s.reg b := Hw.reg_setReg_other _ _ h

theorem Hw.reg_updLoop (s : Hw) (l : Nat) (k : Loop → Loop) (a : Nat) : (s.updLoop l k).reg a = s.reg a := rfl

theorem Hw.int_setInt (s : Hw) (a : Nat) {y : Int} (h1 : -(2 : Int) ^ 31 ≤ y) (h2 : y ≤ 2 ^ 31 - 1) : (s.setInt a y).int a = y := by
  rw [Hw.int, Hw.setInt, Hw.reg_setReg_same]
  exact BitVec.toInt_ofInt_eq_self (by decide) (by omega) (by omega)

/-- Between whole limits, a value rounded to a whole one lies between the same limits. -/
theorem rounded_mem {a b : Int} (h : a ≤ b) (v : Int) : a ≤ shr16 (clampI (a * 65536) (b * 65536) v + 32768) ∧
    shr16 (clampI (a * 65536) (b * 65536) v + 32768) ≤ b := by
  obtain ⟨h1, h2⟩ := clampI_mem (show a * 65536 ≤ b * 65536 by omega) v
  unfold shr16
  omega

theorem completeSample_y {h : Hw} {l : Nat} (t : Terms13) (hl : l < 32) (hm : loopMode h l = 2)
    (hk : h.fld (CLE_CFG_dst_kind l) = 0) (hc : coefI h l 6 ≤ coefI h l 7) : ∃ v, coefI h l 6 ≤ v ∧ v ≤ coefI h l 7 ∧
      (completeSample h l t).int (CLE_Y l) = sat32 (slewed (h.int (CLE_Y l)) v (coefN h l 8)) := by
  have ha : CLE_Y l / 65536 = 0x0F ∧ CLE_CFG l / 65536 = 0x0F ∧ CLE_Y l ≠ CLE_STATUS l ∧ CLE_COEF l 8 ≠ CLE_STATUS l ∧
      CLE_CFG l ≠ CLE_STATUS l ∧ CLE_CFG l ≠ CLE_LATCH l ∧ CLE_CFG l ≠ CLE_X l ∧ CLE_CFG l ≠ CLE_E l ∧ CLE_CFG l ≠ CLE_R l ∧
      CLE_CFG l ≠ CLE_Y l := by
    unfold CLE_Y CLE_CFG CLE_STATUS CLE_COEF CLE_LATCH CLE_X CLE_E CLE_R
    omega
  obtain ⟨hy, hcf, y1, c1, f1, f2, f3, f4, f5, f6⟩ := ha
  have hwd : (CLE_STATUS_mode l).lo + (CLE_STATUS_mode l).w ≤ 32 ∧
      (CLE_STATUS_dest_below l).lo + (CLE_STATUS_dest_below l).w ≤ (CLE_STATUS_mode l).lo ∧
      (CLE_STATUS_dest_above l).lo + (CLE_STATUS_dest_above l).w ≤ (CLE_STATUS_mode l).lo := by
    unfold CLE_STATUS_mode CLE_STATUS_dest_below CLE_STATUS_dest_above
    dsimp only
    decide
  obtain ⟨w1, w2, w3⟩ := hwd
  unfold completeSample
  generalize destHeld h l = q
  obtain ⟨below, above⟩ := q
  dsimp -zeta only
  extract_lets z lo hi ki s1 iTry v heldHi heldLo iTry' manual i u yNew y side rose s2 s3 s4 s5 s6
  have r1 : ∀ a, a ≠ CLE_STATUS l → s1.reg a = h.reg a := fun a hn =>
    (Hw.reg_setFld_other _ _ _ hn).trans (Hw.reg_setFld_other _ _ _ hn)
  have hman : manual = false := by
    have hw : s1.fld (CLE_STATUS_mode l) = 2 := by
      exact ((Hw.fld_setFld_other _ _ w1 (.inr (.inr w3))).trans (Hw.fld_setFld_other _ _ w1 (.inr (.inr w2)))).trans hm
    simp only [manual]
    rw [loopMode, hw]
    rfl
  have hyv : y = sat32 (slewed (h.int (CLE_Y l)) yNew (coefN h l 8)) := by
    simp only [y]
    rw [hman, if_neg Bool.false_ne_true, Hw.int, r1 _ y1, coefN, Hw.num, r1 _ c1]
    rfl
  have hyr : -(2 : Int) ^ 31 ≤ y ∧ y ≤ 2 ^ 31 - 1 := hyv ▸ sat32_mem _
  have hv : coefI h l 6 ≤ yNew ∧ yNew ≤ coefI h l 7 := rounded_mem hc _
  have r3 : s3.reg (CLE_CFG l) = h.reg (CLE_CFG l) :=
    (Hw.cond_same (fun s => s.reg (CLE_CFG l)) _ s2 (Hw.reg_setFld_other _ _ _ f2)).trans
      ((Hw.reg_setFld_other _ _ _ f1).trans ((Hw.reg_setFld_other _ _ _ f1).trans (r1 _ f1)))
  clear_value s3 yNew y
  have r4 : s4.reg (CLE_CFG l) = h.reg (CLE_CFG l) :=
    (Hw.reg_setInt_other _ y f6).trans ((Hw.reg_setInt_other _ t.r f5).trans
      ((Hw.reg_setInt_other _ t.e f4).trans ((Hw.reg_setInt_other _ t.x f3).trans r3)))
  have h4 : s4.int (CLE_Y l) = y := by
    obtain ⟨h1, h2⟩ := hyr
    exact Hw.int_setInt _ _ h1 h2
  clear_value s4
  have r6 : s6.reg (CLE_CFG l) = h.reg (CLE_CFG l) :=
    (Hw.reg_updLoop s5 l _ _).trans ((Hw.reg_setFld_other s4 (CLE_STATUS_miss l) 0 f1).trans r4)
  have h6 : s6.int (CLE_Y l) = y := by
    rw [Hw.int, show s6.reg (CLE_Y l) = s4.reg (CLE_Y l) from
      (Hw.reg_updLoop s5 l _ _).trans (Hw.reg_setFld_other s4 (CLE_STATUS_miss l) 0 y1)]
    exact h4
  clear_value s6
  have hr : (recordError s6 l t.e).reg = s6.reg := by
    funext a
    rw [Hw.reg, recordError_regs, Hw.reg]
  have hn := (keeps_showSample (recordError s6 l t.e) l t.inj).1
  have hd : (showSample (recordError s6 l t.e) l t.inj).fld (CLE_CFG_dst_kind l) = 0 := by
    refine Eq.trans ?_ hk
    exact congrArg (fun w => getField w 13 3) ((hn (CLE_CFG l) (by rw [hcf]; decide)).trans ((congrFun hr _).trans r6))
  refine ⟨yNew, hv.1, hv.2, ?_⟩
  rw [writeDest_none _ hd, ← hyv, ← h6, Hw.int, Hw.int, hn (CLE_Y l) (by rw [hy]; decide), hr]

/-! ### Deadlines and updates (R432, R450 to R454) -/

theorem deadlineMiss_late {h : Hw} {l : Nat} (hr : h.ready 15 = true) (hm : loopMode h l ≠ 0)
    (hb : byMains h l = true → h.flag CLE_MAINS_valid = true ∧ (h.loop l).cycle = h.num64 MCV_MAINS_T)
    (hn : instantNext h l < instantNow h l) : deadlineMiss l h =
      goTo (missSamples h l (instantNow h l - instantNext h l)) l (instantNow h l) := by
  have he : endCycle l h = h := by
    unfold endCycle
    refine if_pos ?_
    cases hbm : byMains h l with
    | false => rfl
    | true => simp [(hb hbm).1, (hb hbm).2]
  have hi : instantsMissed h l = instantNow h l - instantNext h l := by
    unfold instantsMissed
    refine if_neg ?_
    cases hbm : byMains h l with
    | false => exact Bool.false_ne_true
    | true =>
      rw [(hb hbm).1]
      decide
  unfold deadlineMiss catchUp takeMisses
  rw [if_pos hr, if_neg hm, he, hi]
  exact if_neg (by omega)

theorem keeps_updOut (s : Hw) (o : Nat) (k : AouOut → AouOut) : keeps [] [.aou] s (s.updOut o k) := by
  refine ⟨fun _ _ => rfl, fun p hp => ?_, rfl⟩
  cases p with
  | aou => simp at hp
  | _ => rfl

theorem aouWrite_stops {h : Hw} (o k w : Nat) (hs : h.ready 15 = false ∨ h.flag (AOU_OSTAT_ranging o) = true) :
    aouWrite h o k w = h := by
  unfold aouWrite
  refine if_pos ?_
  rcases hs with hs | hs <;> simp [hs]

theorem aouWrite_takes {h : Hw} (o k w : Nat) (hr : h.ready 15 = true) (hg : h.flag (AOU_OSTAT_ranging o) = false) :
    aouWrite h o k w = ((((h.setFld (AOU_CODE_code o) k).setFld (AOU_CODE_never_written o) 0).setFld (AOU_CODE_writer o) w).setFld
      (AOU_OSTAT_at_safe o) 0).updOut o fun x => { x with want := k } := by
  unfold aouWrite
  rw [hr, hg]
  rfl

theorem Hw.flag_updOut (s : Hw) (o : Nat) (k : AouOut → AouOut) (f : Fld) : (s.updOut o k).flag f = s.flag f := rfl

theorem aouWrite_fields {h : Hw} {o k w : Nat} (ho : o < 24) (hk : k < 65536) (hw : w < 4) (hr : h.ready 15 = true)
    (hg : h.flag (AOU_OSTAT_ranging o) = false) : (aouWrite h o k w).fld (AOU_CODE_code o) = k ∧
      (aouWrite h o k w).fld (AOU_CODE_writer o) = w ∧ (aouWrite h o k w).flag (AOU_CODE_never_written o) = false ∧
      (aouWrite h o k w).flag (AOU_OSTAT_at_safe o) = false ∧ ((aouWrite h o k w).aouOut o).want = k ∧
      keeps [0x10] [.aou] h (aouWrite h o k w) := by
  have ha : AOU_CODE o ≠ AOU_OSTAT o ∧ AOU_CODE o / 65536 = 0x10 ∧ AOU_OSTAT o / 65536 = 0x10 := by
    unfold AOU_CODE AOU_OSTAT
    omega
  obtain ⟨hn, h1, h2⟩ := ha
  have m1 : AOU_CODE o / 65536 ∈ [0x10] := List.mem_singleton.mpr h1
  have m2 : AOU_OSTAT o / 65536 ∈ [0x10] := List.mem_singleton.mpr h2
  rw [aouWrite_takes o k w hr hg]
  have hf : (AOU_CODE_code o).lo + (AOU_CODE_code o).w ≤ 32 ∧ (AOU_CODE_writer o).lo + (AOU_CODE_writer o).w ≤ 32 ∧
      (AOU_CODE_never_written o).lo + (AOU_CODE_never_written o).w ≤ (AOU_CODE_code o).lo ∧
      (AOU_CODE_writer o).lo + (AOU_CODE_writer o).w ≤ (AOU_CODE_never_written o).lo ∧ (AOU_CODE_code o).w = 16 ∧
      (AOU_CODE_writer o).w = 3 ∧ (AOU_CODE_never_written o).w = 1 ∧ (AOU_OSTAT_at_safe o).w = 1 ∧ (AOU_OSTAT_at_safe o).lo < 32 := by
    unfold AOU_CODE_code AOU_CODE_writer AOU_CODE_never_written AOU_OSTAT_at_safe
    dsimp only
    decide
  obtain ⟨f1, f2, f3, f4, c1, c2, c3, c4, c5⟩ := hf
  have a1 : (AOU_CODE_code o).addr ≠ (AOU_OSTAT_at_safe o).addr := hn
  have a2 : (AOU_CODE_writer o).addr ≠ (AOU_OSTAT_at_safe o).addr := hn
  have a3 : (AOU_CODE_never_written o).addr ≠ (AOU_OSTAT_at_safe o).addr := hn
  refine ⟨?_, ?_, ?_, ?_, ?_, ?_⟩
  · rw [Hw.fld_updOut, Hw.fld_setFld_other _ _ f1 (.inl a1), Hw.fld_setFld_other _ _ f1 (.inr (.inr (by omega))),
      Hw.fld_setFld_other _ _ f1 (.inr (.inr f3)), Hw.fld_setFld_same _ _ f1, c1]
    exact Nat.mod_eq_of_lt hk
  · rw [Hw.fld_updOut, Hw.fld_setFld_other _ _ f2 (.inl a2), Hw.fld_setFld_same _ _ f2, c2]
    omega
  · rw [Hw.flag_updOut, Hw.flag_setFld_other _ _ (by omega) (.inl a3), Hw.flag_setFld_other _ _ (by omega) (.inr (.inr f4)),
      Hw.flag_clear _ c3 (by omega)]
  · rw [Hw.flag_updOut, Hw.flag_clear _ c4 c5]
  · exact congrArg AouOut.want (aouOut_updOut_same _ _ _)
  · exact (((((keeps_refl _ _ h).setFld _ m1).setFld _ m1).setFld _ m1).setFld _ m2).part (by simp) (keeps_updOut _ _ _)

theorem outStep_steady {h : Hw} {o : Nat} (hc : (h.aouOut o).change = none)
    (hd : h.flag (AOU_OSTAT_dither_on o) = false ∨ isGate h o = true) : outStep o h = driveOut h o (h.aouOut o).want := by
  unfold outStep
  rw [hc]
  extract_lets st s x
  have hs : s = h := rfl
  rw [if_pos (by rcases hd with hd | hd <;> simp [hs, hd]), show x = h.aouOut o from rfl, hs]

theorem driveOut_drive (s : Hw) (o c : Nat) : ((driveOut s o c).aouOut o).drive = c := by
  unfold driveOut
  rw [aouOut_updOut_same]
  split <;> rfl

theorem outStep_dithers {h : Hw} {o : Nat} (hc : (h.aouOut o).change = none) (hg : h.flag (AOU_OSTAT_ranging o) = false)
    (hd : h.flag (AOU_OSTAT_dither_on o) = true) (hn : isGate h o = false) : ((outStep o h).aouOut o).drive =
      (clampI 0 65535 (((h.aouOut o).want : Int) + ((h.fld (AOU_DITHER_amp o) : Int) * genSample h (h.fld (AOU_DITHER_gen o))) / 32768)).toNat := by
  unfold outStep
  rw [hc]
  extract_lets st s x v c t
  have hs : s = h := rfl
  rw [if_neg (by simp [hs, hd, hg, hn]), driveOut_drive]
  simp only [c, v, x, hs]

theorem outputUpdate_due {h : Hw} (hr : h.ready 15 = true) (hm : h.dtime % 1000 = 0) (hi : h.aou.instant < h.dtime / 1000) :
    outputUpdate h = (({ h with aou := { h.aou with instant := h.dtime / 1000 } } : Hw).each [0, 1, 2, 3] fun g s =>
      genRun (h.dtime / 1000 - h.aou.instant - 1) g (genStep g s)).each outputs outStep := by
  unfold outputUpdate
  rw [hr, hm, decide_eq_false (Nat.not_le.mpr hi), if_neg (by decide)]

theorem aouWrite_body {b : Hw} {c : Call} (hw : (List.range (u8 c.p 0)).findSome? (fun j => writeRefused b (u8 (aouItem c.p j) 0)) = none) :
    opAouWrite.body b c = .ok (b.each (List.range (u8 c.p 0)) fun j s => aouWrite s (u8 (aouItem c.p j) 0) (u16 (aouItem c.p j) 2) 0)
      (toBE 8 (nextUpdate b % 2 ^ 64)) := by
  unfold opAouWrite OpSpec.list
  dsimp only
  rw [hw]

/-- Settles O48: samples, deadlines, codes and updates. -/
theorem loopSamplesAndOutputUpdates : Obligations.LoopSamplesAndOutputUpdates := by
  unfold Obligations.LoopSamplesAndOutputUpdates
  refine ⟨fun l d => ?_, fun l d => ?_, fun h l d hs => ?_, fun h l d hs => ?_, fun h l x a y z => ?_, fun h l t => ?_, fun l => ?_,
    fun h l n => missSamples_pos h l, ?_, fun h o k w ho hk hw => ⟨fun ⟨hr, hg⟩ => aouWrite_fields ho hk hw hr hg, aouWrite_stops o k w⟩,
    ?_, fun h o _ hc hg => ⟨outStep_steady hc, outStep_dithers hc hg⟩, fun o k => ?_⟩
  · refine happens_intro (fun _ _ => rfl) fun h ⟨hr, hd⟩ => ?_
    unfold loopSample
    dsimp only
    rw [hr, hd, if_neg (by decide), if_neg (by decide), Hw.each, Hw.each, List.foldl_append]
    rfl
  · refine happens_intro (fun _ _ => rfl) fun h ⟨hr, hd⟩ => ?_
    unfold loopSample
    dsimp only
    rw [hr, hd, if_neg (by decide), if_pos (by decide)]
  · rw [computeSample_live d hs]
    simp only [Bool.and_eq_true, Bool.not_eq_true']
  · rw [computeSample_stale d hs]
    simp only [Bool.and_eq_true, Bool.not_eq_true']
  · refine ⟨rfl, rfl, rfl, rfl, ?_, rfl, rfl, rfl⟩
    have hc : ((coefN h l 3 / 65536 : Nat) : Int) = (coefN h l 3 : Int) / 65536 := Int.natCast_ediv _ _
    rw [loopTerms, hc]
  · exact completeSample_y t
  · exact happens_intro (fun _ _ => rfl) fun h ⟨hr, hm, hb, hn⟩ => deadlineMiss_late hr hm hb hn
  · exact runsOk_intro (fun _ _ _ => rfl) fun b c hw => ⟨_, _, aouWrite_body hw, rfl, rfl⟩
  · exact happens_intro (fun _ _ => rfl) fun h ⟨hr, hm, hi⟩ => outputUpdate_due hr hm hi
  · refine happens_intro (fun _ _ => rfl) fun h ⟨hr, hg⟩ => ?_
    unfold gateWrite
    rw [hg]
    exact if_pos hr

end Sys2Proof.Machine

namespace Sys2Proof.Machine
open Reg

/-! ### Requests on outputs (R445 to R449) -/

theorem aouRangeSet_body {b : Hw} {c : Call} (hn : (b.aouOut (u8 c.p 0)).change = none) (ho : cleOwns b (u8 c.p 0) = false)
    (hf : fesOwners b (u8 c.p 0) = [] ∨ (fesOwners b (u8 c.p 0)).all (fun u => b.fld (FES_STATE_state u) == 0) = true) :
    opAouRangeSet.body b c = .wait (.rangeChange (u8 c.p 0)) (b.updOut (u8 c.p 0) fun x =>
      { x with change := some (u8 c.p 1, u16 c.p 2, b.fld (AOU_OCFG_range (u8 c.p 0)), if (fesOwners b (u8 c.p 0)).isEmpty then 0 else 1) }) := by
  have hd : ¬ (!(fesOwners b (u8 c.p 0)).isEmpty && !(fesOwners b (u8 c.p 0)).all fun u => b.fld (FES_STATE_state u) == 0) = true := by
    rcases hf with hf | hf <;> simp [hf]
  unfold opAouRangeSet OpSpec.fix
  dsimp only
  rw [if_neg (by rw [hn]; decide), if_neg (by rw [ho]; decide), if_neg hd]

theorem applyAouSafe_eq (p : Bytes) (s : Hw) : applyAouSafe p s =
    let t := s.setFld (AOU_OCFG_safe (u8 p 0)) (u16 p 1)
    if s.flag (AOU_OSTAT_at_safe (u8 p 0)) = true then t.updOut (u8 p 0) fun x => { x with want := u16 p 1 } else t := by
  have hn : (AOU_OSTAT_at_safe (u8 p 0)).addr ≠ (AOU_OCFG_safe (u8 p 0)).addr := by
    unfold AOU_OSTAT_at_safe AOU_OCFG_safe AOU_OSTAT AOU_OCFG
    dsimp only
    omega
  have hw : (AOU_OSTAT_at_safe (u8 p 0)).lo + (AOU_OSTAT_at_safe (u8 p 0)).w ≤ 32 := by
    unfold AOU_OSTAT_at_safe
    dsimp only
    decide
  unfold applyAouSafe
  dsimp only
  rw [Hw.flag_setFld_other s (u16 p 1) hw (.inl hn)]

theorem aouDitherSet_body {b : Hw} {c : Call} (hg : isGate b (u8 c.p 0) = false) (hs : isStageBias b (u8 c.p 0) = false) :
    opAouDitherSet.body b c = .ok (((b.setFld (AOU_DITHER_gen (u8 c.p 0)) (u8 c.p 1)).setFld (AOU_DITHER_amp (u8 c.p 0)) (u16 c.p 3)).setFld
      (AOU_OSTAT_dither_on (u8 c.p 0)) (bit (u8 c.p 2) 0)) := by
  unfold opAouDitherSet OpSpec.fix
  dsimp only
  rw [hg, hs]
  rfl

theorem aouGenSet_body {b : Hw} {c : Call} (hg : (genNamed b (u8 c.p 0) && (hasBit (u8 c.p 1) 1 || hasBit (u8 c.p 1) 0 &&
    u32 c.p 2 != b.num (AOU_GEN_INC (u8 c.p 0)))) = false) : opAouGenSet.body b c = .ok
      { b with aou := { b.aou with gens := Map.upd {} b.aou.gens (u8 c.p 0) fun w =>
        { w with inc := if hasBit (u8 c.p 1) 0 = true then some (u32 c.p 2) else w.inc
                 phase := if hasBit (u8 c.p 1) 1 = true then some (u32 c.p 6) else w.phase } } }
      (toBE 8 (nextUpdate b % 2 ^ 64)) := by
  unfold opAouGenSet OpSpec.fix
  dsimp only
  rw [hg]
  rfl

theorem aouTableLoad_writes {b : Hw} {c : Call} (hs : hasBit (u8 c.p 1) 1 = false) (hd : hasBit (u8 c.p 1) 0 = false) :
    opAouTableLoad.body b c = .ok (loadEntries b (u8 c.p 0) (u16 c.p 2) (u16 c.p 4) (c.p.drop 6)) := by
  unfold opAouTableLoad
  dsimp only
  rw [hs, hd]
  rfl

theorem aouTableLoad_declares {b : Hw} {c : Call} (h : hasBit (u8 c.p 1) 1 = true ∨ (hasBit (u8 c.p 1) 0 = true ∧
    coverFull (loadEntries b (u8 c.p 0) (u16 c.p 2) (u16 c.p 4) (c.p.drop 6)) (3 + u8 c.p 0) = true)) :
    opAouTableLoad.body b c = .ok ((setDeclared (loadEntries (b.cond (hasBit (u8 c.p 1) 1) fun s => fillSine s (u8 c.p 0)) (u8 c.p 0)
      (u16 c.p 2) (u16 c.p 4) (c.p.drop 6)) (3 + u8 c.p 0) true).raise 0x0C07 [3 + u8 c.p 0, Map.get 0 b.mem.preN (3 + u8 c.p 0)]) := by
  unfold opAouTableLoad
  dsimp only
  cases hs : hasBit (u8 c.p 1) 1 with
  | true => rfl
  | false =>
    obtain ⟨hd, hc⟩ := h.resolve_left (by rw [hs]; decide)
    rw [if_neg (by rw [hd]; decide), Hw.cond_false, if_pos (by rw [hc]; rfl)]

/-! ### Compliance and ranges (R445, R456 to R459) -/

/-- Which units name an output rests on the registers of subsystem 0x0D alone. -/
theorem fesOwners_congr {s t : Hw} (h : ∀ a, a / 65536 = 0x0D → t.reg a = s.reg a) (o : Nat) : fesOwners t o = fesOwners s o := by
  have hf : ∀ f : Fld, f.addr / 65536 = 0x0D → t.fld f = s.fld f := fun f hf => by
    rw [Hw.fld, h _ hf, Hw.fld]
  refine List.filter_congr fun u hm => ?_
  have ha : FES_MAP0 u / 65536 = 0x0D := by
    have hb := List.mem_range.mp hm
    unfold FES_MAP0
    omega
  unfold fesNames
  rw [hf (FES_MAP0_bias_out u) ha, hf (FES_MAP0_gate_out u) ha, hf (FES_MAP0_drive2_out u) ha]

/-- The bits that a compliance failure sets. -/
def compLatched (h : Hw) (o : Nat) : Hw :=
  ((h.setFld (AOU_OSTAT_comp o) 1).setFld (AOU_OLATCH_comp o) 1).setFld AOU_LATCH_comp (setBit (h.fld AOU_LATCH_comp) o true)

/-- What a compliance failure marks, before its event. -/
def compMarked (h : Hw) (o : Nat) : Hw := (compLatched h o).updOut o fun x => { x with compAt := h.dtime }

theorem keeps_compMarked (h : Hw) {o : Nat} (ho : o < 24) : keeps [0x10] [.aou] h (compMarked h o) := by
  have ha : AOU_OSTAT o / 65536 = 0x10 ∧ AOU_OLATCH o / 65536 = 0x10 := by
    unfold AOU_OSTAT AOU_OLATCH
    omega
  exact ((((keeps_refl _ _ h).setFld _ (List.mem_singleton.mpr ha.1)).setFld _ (List.mem_singleton.mpr ha.2)).setFld _ (by decide)).part
    (by simp) (keeps_updOut _ _ _)

theorem compLatched_range (h : Hw) (o : Nat) : (compLatched h o).fld (AOU_OCFG_range o) = h.fld (AOU_OCFG_range o) := by
  have ha : AOU_OCFG o ≠ AOU_OSTAT o ∧ AOU_OCFG o ≠ AOU_OLATCH o ∧ AOU_OCFG o ≠ AOU_LATCH := by
    unfold AOU_OCFG AOU_OSTAT AOU_OLATCH AOU_LATCH
    omega
  obtain ⟨h1, h2, h3⟩ := ha
  have hw : (AOU_OCFG_range o).lo + (AOU_OCFG_range o).w ≤ 32 := by
    unfold AOU_OCFG_range
    dsimp only
    decide
  unfold compLatched
  rw [Hw.fld_setFld_other (f := AOU_LATCH_comp) _ _ hw (.inl h3),
    Hw.fld_setFld_other (f := AOU_OLATCH_comp o) _ _ hw (.inl h2), Hw.fld_setFld_other (f := AOU_OSTAT_comp o) _ _ hw (.inl h1)]

theorem complianceFail_flags {h : Hw} {o : Nat} (ho : o < 24) (hr : h.ready 15 = true) (hc : h.flag (AOU_OSTAT_comp o) = false)
    (hd : 65535 ≤ 100 * ((h.aouOut o).gate.getD (h.aouOut o).want)) : complianceFail o h =
      ((compMarked h o).raise 0x1001 [o, (h.aouOut o).gate.getD (h.aouOut o).want, h.fld (AOU_OCFG_range o)]).each
        (fesOwners h o) fun n s => setFault s n 1 o := by
  have hown : ∀ p, fesOwners ((compMarked h o).raise 0x1001 p) o = fesOwners h o := fun p =>
    fesOwners_congr (fun a ha => ((keeps_mono (by simp) (by simp) (keeps_compMarked h ho) :
      keeps [0x10] [.aou, .evr] h _).raise 0x1001 p (by simp)).1 a (by rw [ha]; decide)) o
  unfold complianceFail
  rw [hr, hc]
  extract_lets code s t
  rw [decide_eq_false (show ¬ code * 100 < 65535 by simp only [code]; omega), if_neg (by decide)]
  have ht : t = (compMarked h o).raise 0x1001 [o, code, h.fld (AOU_OCFG_range o)] := by
    have hs : s = compLatched h o := rfl
    have hdt : (compLatched h o).dtime = h.dtime := by
      rw [compLatched, Hw.setFld_dtime, Hw.setFld_dtime, Hw.setFld_dtime]
    simp only [t, hs]
    rw [compLatched_range, hdt, ← compMarked]
  rw [ht, hown]

theorem rangeSwitch_due {h : Hw} {o r k old keep : Nat} (hc : (h.aouOut o).change = some (r, k, old, keep))
    (hg : h.flag (AOU_OSTAT_ranging o) = true) (hd : (h.aouOut o).changeAt + 1000 ≤ h.dtime) :
    rangeSwitch o h = h.setFld (AOU_OCFG_range o) r := by
  unfold rangeSwitch
  rw [hc]
  dsimp only
  rw [hg, decide_eq_true hd, if_pos (by decide)]

theorem rangeChangeComplete_due {h : Hw} {o r k old keep : Nat} (hc : (h.aouOut o).change = some (r, k, old, keep))
    (hg : h.flag (AOU_OSTAT_ranging o) = true) (hf : h.fld (AOU_OCFG_range o) = r) (hd : (h.aouOut o).changeAt + 21000 ≤ h.dtime) :
    rangeChangeComplete o h = setOutcome (((((h.setFld (AOU_OSTAT_ranging o) 0).updOut o fun x => { x with change := none }).cond
      (keep != 1) fun s => driveOut (aouWrite s o k 0) o k).raise 0x1003 [o, old, r])) (isRange o) stOK 0 := by
  unfold rangeChangeComplete
  rw [hc]
  dsimp only
  rw [hg, hf, bne_self_eq_false, decide_eq_false (Nat.not_lt.mpr hd), if_neg (by decide)]
  by_cases hk : keep = 1
  · rw [if_pos hk, hk]
    rfl
  · rw [if_neg hk, bne_iff_ne.mpr hk, Hw.cond_true]

/-- Settles O49: what requests on outputs, compliance and range changes do. -/
theorem outputRequestsAndRanges : Obligations.OutputRequestsAndRanges := by
  unfold Obligations.OutputRequestsAndRanges
  refine ⟨?_, ?_, ?_, ?_, ?_, ?_, ?_, fun o => ?_, fun o => ?_, fun o r k old keep => ?_, fun o r k old keep => ?_⟩
  · exact runsOn_intro (fun _ _ _ => rfl) fun b c ⟨hn, ho, hf⟩ => ⟨_, _, aouRangeSet_body hn ho hf, rfl, rfl⟩
  · exact runsOk_intro (fun _ _ _ => rfl) fun b c _ => ⟨_, _, rfl, rfl, applyAouSafe_eq c.p b⟩
  · exact runsOk_intro (fun _ _ _ => rfl) fun b c ⟨hg, hs⟩ => ⟨_, _, aouDitherSet_body hg hs, rfl, rfl⟩
  · exact runsOk_intro (fun _ _ _ => rfl) fun b c hg => ⟨_, _, aouGenSet_body hg, rfl, rfl⟩
  · exact runsOk_intro (fun _ _ _ => rfl) fun b c ⟨hs, hd⟩ => ⟨_, _, aouTableLoad_writes hs hd, rfl, rfl⟩
  · exact runsOk_intro (fun _ _ _ => rfl) fun b c h => ⟨_, _, aouTableLoad_declares h, rfl, rfl⟩
  · exact runsOk_intro (fun _ _ _ => rfl) fun b c _ => ⟨_, _, rfl, rfl, rfl⟩
  · exact happens_intro (fun _ _ => rfl) fun h ⟨hr, hc, hd⟩ => complianceFail_flags o.isLt hr hc hd
  · refine happens_intro (fun _ _ => rfl) fun h ⟨hr, hc⟩ => ?_
    unfold complianceRegained
    rw [hr, hc, if_pos (by decide)]
  · exact happens_intro (fun _ _ => rfl) fun h ⟨hc, hg, hd⟩ => rangeSwitch_due hc hg hd
  · exact happens_intro (fun _ _ => rfl) fun h ⟨hc, hg, hf, hd⟩ => rangeChangeComplete_due hc hg hf hd

end Sys2Proof.Machine

namespace Sys2Proof.Machine
open Reg

/-! ### Requests on converters (R460 to R470) -/

theorem mcvSeqLoad_writes {b : Hw} {c : Call} (hd : hasBit (u8 c.p 2) 0 = false) : opMcvSeqLoad.body b c =
    .ok (putWords b (MCV_SEQ (u8 c.p 0) 0) ((List.range (8 * u8 c.p 1)).map fun i => u32 c.p (4 + 4 * i))) := by
  unfold opMcvSeqLoad OpSpec.list
  dsimp only
  rw [hd]
  rfl

theorem mcvSeqLoad_declares {b : Hw} {c : Call} (hd : hasBit (u8 c.p 2) 0 = true) (hc : coverFull (putWords b (MCV_SEQ (u8 c.p 0) 0)
    ((List.range (8 * u8 c.p 1)).map fun i => u32 c.p (4 + 4 * i))) 2 = true) : opMcvSeqLoad.body b c =
      .ok ((setDeclared (putWords b (MCV_SEQ (u8 c.p 0) 0) ((List.range (8 * u8 c.p 1)).map fun i => u32 c.p (4 + 4 * i))) 2 true).raise
        0x0C07 [2, Map.get 0 b.mem.preN 2]) := by
  unfold opMcvSeqLoad OpSpec.list
  dsimp only
  rw [hd, if_neg (by decide), if_pos hc]

theorem mcvSeqStore_body {b : Hw} {c : Call} (hd : b.flag MCV_STATUS_declared = true) :
    opMcvSeqStore.body b c = .ok (b.setFld MCV_STATUS_stored 1) := by
  unfold opMcvSeqStore OpSpec.fix
  dsimp only
  rw [hd]
  rfl

theorem mcvSeqRead_body {b : Hw} {c : Call} (hd : b.declared 2 = true) : opMcvSeqRead.body b c =
    .ok b ((List.range (8 * u8 c.p 1)).flatMap fun i => toBE 4 (tableWord b (MCV_SEQ (u8 c.p 0) 0 + i)).toNat) := by
  unfold opMcvSeqRead OpSpec.fix
  dsimp only
  rw [if_pos hd]

theorem mcvPlausRun_body {b : Hw} {c : Call} (hq : ((bitsOf 2 (u8 c.p 0)).any fun p => (pairConvs p).any (quarantined b)) = false) :
    opMcvPlausRun.body b c = .wait (.plaus (u8 c.p 0)) (b.each (bitsOf 2 (u8 c.p 0)) fun p s =>
      beginPlaus s p { total := u8 c.p 1, why := 1 }) := by
  unfold opMcvPlausRun OpSpec.fix
  dsimp only
  rw [hq]
  rfl

theorem mcvUnquarantine_body {b : Hw} {c : Call} (hq : quarantined b (u8 c.p 0) = true)
    (hp : quarantined b (convPartner (u8 c.p 0)) = false) : opMcvUnquarantine.body b c =
      .wait (.unquar (u8 c.p 0)) (beginPlaus b (pairOf (u8 c.p 0)) { total := 8, why := 2, conv := u8 c.p 0 }) := by
  unfold opMcvUnquarantine OpSpec.fix
  dsimp only
  rw [hq, hp]
  rfl

/-! ### Rounds (R466 to R468) -/

/-- The errors of a round, noted. -/
def plausErrs (h : Hw) (p a b x y : Nat) : Hw :=
  let ea := max (absDiff a (h.fld MCV_CHECK_NOM_nominal)) x
  let eb := max (absDiff b (h.fld MCV_CHECK_NOM_nominal)) y
  { h with mcv := { h.mcv with errs := Map.put 0 (Map.put 0 h.mcv.errs (2 * p) ea) (2 * p + 1) eb } }

/-- A round that has passed, with another one to follow. -/
def nextRound (h : Hw) (a b x y : Nat) (z : Plaus) : Plaus :=
  { z with passed := z.passed + 1, most := max z.most (max (absDiff a b) (absDiff x y)), since := h.dtime }

section
variable {h : Hw} {p a b x y : Nat} {z : Plaus} (hr : h.ready 16 = true) (hz : Map.get none h.mcv.plaus p = some z)
  (ht : z.since + 4004000 ≤ h.dtime)
include hr hz ht

theorem plausRoundEnd_ended : plausRoundEnd p a b x y h =
    if max (absDiff a b) (absDiff x y) > h.fld MCV_CFG_tol then plausFailed (plausErrs h p a b x y) p z
        (max z.most (max (absDiff a b) (absDiff x y))) (max (absDiff a (h.fld MCV_CHECK_NOM_nominal)) x)
        (max (absDiff b (h.fld MCV_CHECK_NOM_nominal)) y)
        [absDiff a (h.fld MCV_CHECK_NOM_nominal), x, absDiff b (h.fld MCV_CHECK_NOM_nominal), y]
    else if z.passed + 1 < z.total then
      let s := plausErrs h p a b x y
      { s with mcv := { s.mcv with plaus := Map.put none s.mcv.plaus p (some (nextRound h a b x y z)) } }
    else plausPassed (plausErrs h p a b x y) p z (max z.most (max (absDiff a b) (absDiff x y))) := by
  unfold plausRoundEnd
  rw [hz]
  refine (if_neg ?_).trans rfl
  rw [hr, decide_eq_false (Nat.not_lt.mpr ht)]
  decide

end

/-! ### Quarantine (R467) -/

theorem foldl_tags_reg (l : List Nat) (hl : ∀ e ∈ l, e < 64) {a : Nat} (ha : 0x11F000 ≤ a) (s : Hw) :
    (l.foldl (fun s e => s.setFld (MCV_TAG_quarantined e) 1) s).reg a = s.reg a := by
  induction l generalizing s with
  | nil => rfl
  | cons e l ih =>
    have he : a ≠ MCV_TAG e := by
      have := hl e (List.mem_cons_self ..)
      unfold MCV_TAG
      omega
    rw [List.foldl_cons, ih (fun i hi => hl i (List.mem_cons_of_mem _ hi)), Hw.reg_setFld_other _ _ _ he]

theorem foldl_tags_mcv (l : List Nat) (s : Hw) : (l.foldl (fun s e => s.setFld (MCV_TAG_quarantined e) 1) s).mcv = s.mcv := by
  induction l generalizing s with
  | nil => rfl
  | cons e l ih => rw [List.foldl_cons, ih, Hw.setFld_mcv]

/-- The registers that a quarantine writes. -/
def quarMarked (s : Hw) (c : Nat) : Hw :=
  ((s.setFld MCV_STATUS_quar (setBit (s.fld MCV_STATUS_quar) c true)).setFld MCV_LATCH_quarantine 1).count MCV_QUAR_N

theorem Hw.reg_updConv (s : Hw) (c : Nat) (f : Conv → Conv) (a : Nat) : (s.updConv c f).reg a = s.reg a := rfl

theorem Hw.reg_raise (s : Hw) (c : Nat) (l : List Nat) (a : Nat) : (s.raise c l).reg a = s.reg a := rfl

theorem quarantine_reg {s : Hw} {c : Nat} (ea eb : Nat) (hq : quarantined s c = false) {a : Nat} (ha : 0x11F000 ≤ a) :
    (quarantine s c ea eb).reg a = (quarMarked s c).reg a := by
  unfold quarantine
  rw [hq, if_neg Bool.false_ne_true]
  dsimp only
  rw [Hw.reg_raise, foldl_tags_reg _ (fun e he => List.mem_range.mp (List.mem_filter.mp he).1) ha, Hw.reg_updConv, Hw.reg_updConv]
  rfl

theorem quarantine_had {s : Hw} {c : Nat} (ea eb : Nat) (hq : quarantined s c = true) : quarantine s c ea eb = s := by
  unfold quarantine
  rw [if_pos hq]

theorem hasBit_setBit_quar : ∀ n < 16, ∀ c < 4, ∀ d < 4, c = d ∨ hasBit n d = true → hasBit (setBit n c true % 16) d = true := by
  decide

theorem quarantined_quarantine (s : Hw) {c d : Nat} (ea eb : Nat) (hc : c < 4) (hd : d < 4) (h : c = d ∨ quarantined s d = true) :
    quarantined (quarantine s c ea eb) d = true := by
  cases hq : quarantined s c with
  | true =>
    rw [quarantine_had ea eb hq]
    rcases h with h | h
    · exact h ▸ hq
    · exact h
  | false =>
    have hw : (quarMarked s c).fld MCV_STATUS_quar = setBit (s.fld MCV_STATUS_quar) c true % 16 := by
      unfold quarMarked
      rw [Hw.count, Hw.fld_setNum_other _ _ (f := MCV_STATUS_quar) (by decide), Hw.fld_setFld_other _ _ (by decide) (.inl (by decide)),
        Hw.fld_setFld_same _ _ (by decide)]
      rfl
    have hr : (quarantine s c ea eb).fld MCV_STATUS_quar = setBit (s.fld MCV_STATUS_quar) c true % 16 := by
      rw [← hw, Hw.fld, quarantine_reg ea eb hq (by decide), ← Hw.fld]
    rw [quarantined, hr]
    exact hasBit_setBit_quar _ (Hw.fld_lt s MCV_STATUS_quar) c hc d hd h

theorem quarantine_failed (s : Hw) (c ea eb : Nat) : (quarantine s c ea eb).flag MCV_LATCH_plaus_fail = s.flag MCV_LATCH_plaus_fail := by
  cases hq : quarantined s c with
  | true => rw [quarantine_had ea eb hq]
  | false =>
    rw [Hw.flag, Hw.fld, quarantine_reg ea eb hq (by decide), ← Hw.fld, ← Hw.flag, quarMarked, Hw.count, Hw.flag,
      Hw.fld_setNum_other _ _ (f := MCV_LATCH_plaus_fail) (by decide), ← Hw.flag,
      Hw.flag_setFld_other _ _ (by decide) (.inr (.inr (by decide))), Hw.flag_setFld_other _ _ (by decide) (.inl (by decide))]

theorem quarantine_failures (s : Hw) (c ea eb : Nat) : (quarantine s c ea eb).num MCV_PLAUS_FAIL = s.num MCV_PLAUS_FAIL := by
  cases hq : quarantined s c with
  | true => rw [quarantine_had ea eb hq]
  | false =>
    rw [Hw.num, quarantine_reg ea eb hq (by decide), ← Hw.num, quarMarked, Hw.count, Hw.num_setNum_other _ _ (by decide), Hw.num,
      Hw.reg_setFld_other _ _ _ (by decide), Hw.reg_setFld_other _ _ _ (by decide), ← Hw.num]

theorem quarantine_plaus (s : Hw) (c ea eb : Nat) : (quarantine s c ea eb).mcv.plaus = s.mcv.plaus := by
  unfold quarantine
  refine Hw.ite_same (fun t => t.mcv.plaus) rfl ?_
  dsimp only
  rw [Hw.raise_mcv, foldl_tags_mcv]
  rfl

/-- A run that has failed, before anything is quarantined. -/
def runFailed (h : Hw) (p passed most : Nat) : Hw :=
  endPlaus (notePlaus ((h.count MCV_PLAUS_FAIL).setFld MCV_LATCH_plaus_fail 1) p 0 passed most) p

theorem endPlaus_reg (s : Hw) (p : Nat) {a : Nat} (ha : a ≠ MCV_STATUS) : (endPlaus s p).reg a = s.reg a := by
  unfold endPlaus
  exact (Hw.each_same (fun t : Hw => t.reg a) _ (fun c t => Hw.reg_setFld_other _ _ _ ha) _).trans rfl

theorem endPlaus_plaus (s : Hw) (p : Nat) : Map.get none (endPlaus s p).mcv.plaus p = none := by
  unfold endPlaus
  rw [Hw.each_same (fun t : Hw => t.mcv) _ (fun c t => Hw.setFld_mcv ..)]
  show Map.get none (Map.put none s.mcv.plaus p none) p = none
  exact Map.get_put_same _ _ _ _

theorem runFailed_shows (h : Hw) (p passed most : Nat) : Map.get none (runFailed h p passed most).mcv.plaus p = none ∧
    (runFailed h p passed most).flag MCV_LATCH_plaus_fail = true ∧
    (runFailed h p passed most).num MCV_PLAUS_FAIL = min (h.num MCV_PLAUS_FAIL + 1) (2 ^ 32 - 1) := by
  have hn : ∀ (s : Hw) (a : Nat), (notePlaus s p 0 passed most).reg a = s.reg a := fun _ _ => rfl
  refine ⟨endPlaus_plaus _ _, ?_, ?_⟩
  · rw [Hw.flag, Hw.fld, runFailed, endPlaus_reg _ _ (by decide), hn, ← Hw.fld, ← Hw.flag]
    exact Hw.flag_set _ rfl (by decide)
  · rw [Hw.num, runFailed, endPlaus_reg _ _ (by decide), hn, Hw.reg_setFld_other _ _ _ (by decide), ← Hw.num, Hw.count,
      Hw.num_setNum_same]
    omega

/-- What a failed run quarantines. -/
def runQuarantined (h : Hw) (p passed most ea eb : Nat) : Hw :=
  let s := runFailed h p passed most
  let s := if ea > eb then quarantine s (2 * p) ea eb else quarantine s (2 * p + 1) eb ea
  let s := s.cond (decide (ea > 167772)) fun s => quarantine s (2 * p) ea eb
  s.cond (decide (eb > 167772)) fun s => quarantine s (2 * p + 1) eb ea

theorem runQuarantined_same {α : Type} (φ : Hw → α) (hφ : ∀ s c x y, φ (quarantine s c x y) = φ s) (h : Hw) (p passed most ea eb : Nat) :
    φ (runQuarantined h p passed most ea eb) = φ (runFailed h p passed most) := by
  unfold runQuarantined
  dsimp only
  rw [Hw.cond_same φ _ _ (hφ _ _ _ _), Hw.cond_same φ _ _ (hφ _ _ _ _)]
  exact Hw.ite_same φ (hφ _ _ _ _) (hφ _ _ _ _)

theorem runQuarantined_hit (h : Hw) {p : Nat} (passed most ea eb : Nat) (hp : p < 2) :
    quarantined (runQuarantined h p passed most ea eb) (if ea > eb then 2 * p else 2 * p + 1) = true := by
  have hd : (if ea > eb then 2 * p else 2 * p + 1) < 4 := by
    split <;> omega
  have keep : ∀ (s : Hw) (b : Bool) (c x y : Nat), c < 4 → quarantined s (if ea > eb then 2 * p else 2 * p + 1) = true →
      quarantined (s.cond b fun s => quarantine s c x y) (if ea > eb then 2 * p else 2 * p + 1) = true := fun s b c x y hc hq => by
    cases b with
    | false => exact hq
    | true => exact quarantined_quarantine s x y hc hd (.inr hq)
  unfold runQuarantined
  refine keep _ _ _ _ _ (by omega) (keep _ _ _ _ _ (by omega) ?_)
  by_cases he : ea > eb
  · rw [if_pos he, if_pos he]
    exact quarantined_quarantine _ _ _ (by omega) (by omega) (.inl rfl)
  · rw [if_neg he, if_neg he]
    exact quarantined_quarantine _ _ _ (by omega) (by omega) (.inl rfl)

/-- Both converters of a pair are in quarantine. -/
def bothTold (p : Nat) (l : List Nat) (s : Hw) : Hw :=
  (((List.range 64).filter fun e => s.declared 2 && eValid (seqWords s e) && pairOf (eConv (seqWords s e)) == p).foldl
    (fun s e => s.setFld (MCV_TAG_quarantined e) 1) s).raise 0x110A [p, together 0x110A l]

theorem plausFailed_eq (h : Hw) (p most ea eb : Nat) (z : Plaus) (l : List Nat) : plausFailed h p z most ea eb l =
    let s := runQuarantined h p z.passed most ea eb
    endPlausCommands (s.cond (quarantined s (2 * p) && quarantined s (2 * p + 1)) (bothTold p l)) := rfl

theorem plausFailed_reg (h : Hw) (p most ea eb : Nat) (z : Plaus) (l : List Nat) {a : Nat} (ha : 0x11F000 ≤ a) :
    (plausFailed h p z most ea eb l).reg a = (runQuarantined h p z.passed most ea eb).reg a := by
  have hc : ∀ s : Hw, (endPlausCommands s).reg a = s.reg a := fun _ => rfl
  rw [plausFailed_eq, hc]
  refine Hw.cond_same (fun t : Hw => t.reg a) _ _ ?_
  exact (Hw.reg_raise _ _ _ _).trans (foldl_tags_reg _ (fun e he => List.mem_range.mp (List.mem_filter.mp he).1) ha _)

theorem plausFailed_mcv (h : Hw) (p most ea eb : Nat) (z : Plaus) (l : List Nat) :
    (plausFailed h p z most ea eb l).mcv = (runQuarantined h p z.passed most ea eb).mcv := by
  have hc : ∀ s : Hw, (endPlausCommands s).mcv = s.mcv := fun _ => rfl
  rw [plausFailed_eq, hc]
  exact Hw.cond_same (fun t : Hw => t.mcv) _ _ ((Hw.raise_mcv ..).trans (foldl_tags_mcv _ _))

theorem plausFailed_shows (h : Hw) {p : Nat} (most ea eb : Nat) (z : Plaus) (l : List Nat) (hp : p < 2) :
    quarantined (plausFailed h p z most ea eb l) (if ea > eb then 2 * p else 2 * p + 1) = true ∧
      Map.get none (plausFailed h p z most ea eb l).mcv.plaus p = none ∧
      (plausFailed h p z most ea eb l).flag MCV_LATCH_plaus_fail = true ∧
      (plausFailed h p z most ea eb l).num MCV_PLAUS_FAIL = min (h.num MCV_PLAUS_FAIL + 1) (2 ^ 32 - 1) := by
  obtain ⟨h1, h2, h3⟩ := runFailed_shows h p z.passed most
  refine ⟨?_, ?_, ?_, ?_⟩
  · rw [quarantined, Hw.fld, plausFailed_reg h p most ea eb z l (by decide), ← Hw.fld, ← quarantined]
    exact runQuarantined_hit h z.passed most ea eb hp
  · rw [plausFailed_mcv, runQuarantined_same (fun t : Hw => t.mcv.plaus) quarantine_plaus]
    exact h1
  · rw [Hw.flag, Hw.fld, plausFailed_reg h p most ea eb z l (by decide), ← Hw.fld, ← Hw.flag,
      runQuarantined_same (fun t : Hw => t.flag MCV_LATCH_plaus_fail) quarantine_failed]
    exact h2
  · rw [Hw.num, plausFailed_reg h p most ea eb z l (by decide), ← Hw.num,
      runQuarantined_same (fun t : Hw => t.num MCV_PLAUS_FAIL) quarantine_failures]
    exact h3

/-- Settles O50: what requests on converters and their rounds do. -/
theorem converterRequestsAndPlausibility : Obligations.ConverterRequestsAndPlausibility := by
  unfold Obligations.ConverterRequestsAndPlausibility
  refine ⟨?_, ?_, ?_, ?_, ?_, ?_, ?_, ?_, ?_, fun p a b x y z => ?_, fun p a b x y z => ?_, fun p a b x y z => ?_,
    fun h p most ea eb z l hp _ _ => ?_⟩
  · exact runsOk_intro (fun _ _ _ => rfl) fun b c _ => ⟨_, _, rfl, rfl, rfl⟩
  · exact runsOk_intro (fun _ _ _ => rfl) fun b c hd => ⟨_, _, mcvSeqLoad_writes hd, rfl, rfl⟩
  · exact runsOk_intro (fun _ _ _ => rfl) fun b c ⟨hd, hc⟩ => ⟨_, _, mcvSeqLoad_declares hd hc, rfl, rfl⟩
  · exact runsOk_intro (fun _ _ _ => rfl) fun b c hd => ⟨_, _, mcvSeqStore_body hd, rfl, rfl⟩
  · exact runsOk_intro (fun _ _ _ => rfl) fun b c hd => ⟨_, _, mcvSeqRead_body hd, rfl, rfl⟩
  · exact runsOk_intro (fun _ _ _ => rfl) fun b c _ => ⟨_, _, rfl, rfl, rfl⟩
  · exact runsOn_intro (fun _ _ _ => rfl) fun b c hq => ⟨_, _, mcvPlausRun_body hq, rfl, rfl⟩
  · exact runsOn_intro (fun _ _ _ => rfl) fun b c ⟨hq, hp⟩ => ⟨_, _, mcvUnquarantine_body hq hp, rfl, rfl⟩
  · exact runsOk_intro (fun _ _ _ => rfl) fun b c _ => ⟨_, _, rfl, rfl, rfl⟩
  · refine happens_intro (fun _ _ => rfl) fun h ⟨hr, hz, ht, hd, hn⟩ => ?_
    rw [plausRoundEnd_ended hr hz ht, if_neg (Nat.not_lt.mpr hd), if_pos hn]
    rfl
  · refine happens_intro (fun _ _ => rfl) fun h ⟨hr, hz, ht, hd, hn⟩ => ?_
    rw [plausRoundEnd_ended hr hz ht, if_neg (Nat.not_lt.mpr hd), if_neg (Nat.not_lt.mpr hn)]
    rfl
  · refine happens_intro (fun _ _ => rfl) fun h ⟨hr, hz, ht, hd⟩ => ?_
    rw [plausRoundEnd_ended hr hz ht, if_pos hd]
    rfl
  · obtain ⟨h1, h2, h3, h4⟩ := plausFailed_shows h most ea eb z l hp
    refine ⟨fun he => ?_, fun he => ?_, h2, h3, h4⟩
    · rwa [if_pos he] at h1
    · rwa [if_neg (Nat.not_lt.mpr he)] at h1

end Sys2Proof.Machine

namespace Sys2Proof.Machine
open Reg

/-! ### Fields of one word -/

theorem Hw.fld_word_same (s : Hw) {a lo w : Nat} (v : Nat) (h : lo + w ≤ 32) : (s.setFld ⟨a, lo, w⟩ v).fld ⟨a, lo, w⟩ = v % 2 ^ w :=
  Hw.fld_setFld_same s v h

theorem Hw.fld_word_other (s : Hw) {a lo w l u : Nat} (v : Nat) (hg : l + u ≤ 32) (h : l + u ≤ lo ∨ lo + w ≤ l) :
    (s.setFld ⟨a, lo, w⟩ v).fld ⟨a, l, u⟩ = s.fld ⟨a, l, u⟩ := Hw.fld_setFld_other s v hg (.inr h)

/-! ### Windows (R470 to R474) -/

section
variable {h : Hw} {k : Nat}

theorem suppressionEnd_due (hr : h.ready 16 = true) (hp : (h.conv k).phase = 1)
    (hd : (h.conv k).since + profSuppression (eProf (h.conv k).words) ≤ h.dtime) :
    suppressionEnd k h = beginWindow h k (h.conv k).words := by
  unfold suppressionEnd
  dsimp only
  rw [hr, hp, decide_eq_true hd]
  rfl

theorem conversionWindowEnd_due {ones n fir : Nat} (hr : h.ready 16 = true) (hp : (h.conv k).phase = 2) (hn : n ≠ 0)
    (hf : periodsFit (h.conv k).len n = true) (ho : ones ≤ n) (hd : (h.conv k).since + (h.conv k).len ≤ h.dtime) :
    conversionWindowEnd k ones n fir h = afterWindow (publishResult h k (windowResult (h.conv k).words ones n fir)
      (decide (999 * n < ones * 1000) || decide (ones * 1000 < n))) k := by
  unfold conversionWindowEnd
  dsimp only
  rw [hr, hp, beq_false_of_ne hn, hf, decide_eq_false (Nat.not_lt.mpr ho), decide_eq_false (Nat.not_lt.mpr hd), if_neg (by decide)]

theorem afterWindow_repeats (hl : 1 < (h.conv k).left) : afterWindow h k =
    beginWindow (h.updConv k fun y => { y with left := y.left - 1 }) k (h.conv k).words := if_pos hl

theorem afterWindow_delays (hl : (h.conv k).left ≤ 1) (hd : eDelay (h.conv k).words ≠ 0) : afterWindow h k =
    h.updConv k fun y => { y with left := 0, phase := 3, since := h.dtime } := (if_neg (Nat.not_lt.mpr hl)).trans (if_neg hd)

theorem afterWindow_goes (hl : (h.conv k).left ≤ 1) (hd : eDelay (h.conv k).words = 0) : afterWindow h k =
    goOn h k ((h.conv k).entry + 1) := (if_neg (Nat.not_lt.mpr hl)).trans (if_pos hd)

theorem entryDelayEnd_due (hr : h.ready 16 = true) (hp : (h.conv k).phase = 3)
    (hd : (h.conv k).since + eDelay (h.conv k).words * 1000 ≤ h.dtime) : entryDelayEnd k h = goOn h k ((h.conv k).entry + 1) := by
  unfold entryDelayEnd
  dsimp only
  rw [hr, hp, decide_eq_true hd]
  rfl

theorem goOn_idle (n : Nat) (hi : entriesOf h k = [] ∨ h.declared 2 = false ∨ inPlaus h k = true) : goOn h k n =
    h.updConv k fun x => { x with phase := 0, resume := 0 } := by
  unfold goOn
  refine if_pos ?_
  rcases hi with hi | hi | hi <;> simp [hi]

theorem goOn_visits {n i : Nat} {l : List Nat} (hd : h.declared 2 = true) (hp : inPlaus h k = false)
    (hl : (entriesOf h k).filter (n ≤ ·) = i :: l) (hf : entryFault h i = none) : goOn h k n = beginVisit h k i := by
  have hm : i ∈ entriesOf h k := (List.mem_filter.mp (hl ▸ List.mem_cons_self ..)).1
  have he : (entriesOf h k).isEmpty = false := by
    cases hq : entriesOf h k with
    | nil => rw [hq] at hm; cases hm
    | cons _ _ => rfl
  have ha : ((entriesOf h k).any fun e => (entryFault h e).isNone) = true := List.any_eq_true.mpr ⟨i, hm, by rw [hf]; rfl⟩
  have hw : walk h k (i :: l) = some (beginVisit h k i) := by
    rw [walk, hf]
  unfold goOn
  dsimp only
  rw [he, hd, hp, if_neg (by decide), ha, if_neg (by decide), hl, hw]

end

/-! ### Results (R464, R475) -/

/-- A result in its register, with its tag. -/
def resultTagged (h : Hw) (k : Nat) (r : Int) (o : Bool) : Hw :=
  let e := (h.conv k).entry
  let s := h.setInt (MCV_RES e) r
  let s := (s.setFld (MCV_TAG_seq e) ((s.fld (MCV_TAG_seq e) + 1) % 65536)).setFld (MCV_TAG_suppressed e) 0
  let s := ((s.setFld (MCV_TAG_quarantined e) 0).setFlag (MCV_TAG_overrange e) o).setFld (MCV_TAG_converter e) k
  s.setFlag (MCV_TAG_fallback e) (h.conv k).fellBack

theorem resultTagged_fields (h : Hw) {k i : Nat} (r : Int) (o : Bool) (hk : k < 4) (hi : (h.conv k).entry = i) :
    (resultTagged h k r o).fld (MCV_TAG_seq i) = (h.fld (MCV_TAG_seq i) + 1) % 65536 ∧
      (resultTagged h k r o).flag (MCV_TAG_suppressed i) = false ∧ (resultTagged h k r o).flag (MCV_TAG_quarantined i) = false ∧
      (resultTagged h k r o).fld (MCV_TAG_converter i) = k ∧ (resultTagged h k r o).flag (MCV_TAG_overrange i) = o ∧
      (resultTagged h k r o).flag (MCV_TAG_fallback i) = (h.conv k).fellBack := by
  have hn : MCV_TAG i ≠ MCV_RES i := by
    unfold MCV_TAG MCV_RES
    omega
  have hr : ∀ lo w, (h.setInt (MCV_RES i) r).fld ⟨MCV_TAG i, lo, w⟩ = h.fld ⟨MCV_TAG i, lo, w⟩ := fun lo w =>
    congrArg (fun x => getField x lo w) (Hw.reg_setInt_other h r hn)
  unfold resultTagged
  simp only [hi, Hw.flag, Hw.setFlag, MCV_TAG_seq, MCV_TAG_suppressed, MCV_TAG_quarantined, MCV_TAG_converter, MCV_TAG_overrange, MCV_TAG_fallback]
  simp (disch := decide) only [Hw.fld_word_other, Hw.fld_word_same, hr]
  refine ⟨by omega, rfl, rfl, by omega, ?_, ?_⟩
  · cases o <;> rfl
  · cases (h.conv k).fellBack <;> rfl

/-- What looks past a result's threshold bits and the latched word does not see its thresholds. -/
theorem thresholds_same {α : Type} (φ : Hw → α) (s : Hw) (e c : Nat) (r : Int) (ha : ∀ t v, φ (t.setFld (MCV_TAG_above e) v) = φ t)
    (hb : ∀ t v, φ (t.setFld (MCV_TAG_below e) v) = φ t) (hl : ∀ t, φ (t.setFld MCV_LATCH_threshold 1) = φ t)
    (hr : ∀ t x l, φ (Hw.raise t x l) = φ t) : φ (thresholds s e c r) = φ s := by
  unfold thresholds
  extract_lets w hi lo hy par above below t
  have ht : φ t = φ s :=
    Hw.ite_same φ (ha _ _) (Hw.ite_same φ ((hr _ _ _).trans ((hl _).trans (ha _ _))) (Hw.ite_same φ ((hr _ _ _).trans (ha _ _)) rfl))
  rw [← ht]
  exact Hw.ite_same φ (hb _ _) (Hw.ite_same φ ((hr _ _ _).trans ((hl _).trans (hb _ _))) (Hw.ite_same φ ((hr _ _ _).trans (hb _ _)) rfl))

theorem thresholds_reg (s : Hw) {e : Nat} (c : Nat) (r : Int) {a : Nat} (h1 : a ≠ MCV_TAG e) (h2 : a ≠ MCV_LATCH) :
    (thresholds s e c r).reg a = s.reg a :=
  thresholds_same (fun t => t.reg a) s e c r (fun _ _ => Hw.reg_setFld_other _ _ _ h1) (fun _ _ => Hw.reg_setFld_other _ _ _ h1)
    (fun _ => Hw.reg_setFld_other _ _ _ h2) fun _ _ _ => rfl

theorem resultTagged_int (h : Hw) {k i : Nat} {r : Int} (o : Bool) (hi : (h.conv k).entry = i) (hn : MCV_RES i ≠ MCV_TAG i)
    (h1 : -(2 : Int) ^ 31 ≤ r) (h2 : r < 2 ^ 31) : (resultTagged h k r o).int (MCV_RES i) = r := by
  unfold resultTagged
  rw [hi]
  dsimp only
  rw [Hw.int, Hw.setFlag, Hw.setFlag, Hw.reg_setFld_other _ _ _ hn, Hw.reg_setFld_other _ _ _ hn, Hw.reg_setFld_other _ _ _ hn,
    Hw.reg_setFld_other _ _ _ hn, Hw.reg_setFld_other _ _ _ hn, Hw.reg_setFld_other _ _ _ hn, ← Hw.int]
  exact Hw.int_setInt h _ h1 (by omega)

theorem thresholds_fld (s : Hw) {e : Nat} (c : Nat) (r : Int) {lo w : Nat} (hg : lo + w ≤ 32) (h : lo + w ≤ 11 ∨ 13 ≤ lo)
    (ha : MCV_TAG e ≠ MCV_LATCH) : (thresholds s e c r).fld ⟨MCV_TAG e, lo, w⟩ = s.fld ⟨MCV_TAG e, lo, w⟩ :=
  thresholds_same (fun t => t.fld ⟨MCV_TAG e, lo, w⟩) s e c r
    (fun t v => Hw.fld_word_other t v hg (by omega)) (fun t v => Hw.fld_word_other t v hg (by omega))
    (fun t => Hw.fld_setFld_other t 1 hg (.inl ha)) fun _ _ _ => rfl

theorem keeps_shownResult (s : Hw) (e : Nat) (r : Int) (t t' : Nat) (u : Bytes) :
    keeps [0x12] [.gth, .evr] s (watch 2 e r t' (stageUnit s 3 e t u)) :=
  keeps_trans (keeps_stageUnit s 3 e t u) (keeps_watch 2 e r t' _)

/-- What follows the tag of a result: the count and latch of one over range, its thresholds, and Gather. -/
theorem publishResult_eq (h : Hw) (k : Nat) (r : Int) (o : Bool) : publishResult h k r o =
    let e := (h.conv k).entry
    let s := (resultTagged h k r o).cond o fun s =>
      ((s.count MCV_OVER_N).setFld MCV_LATCH_overrange 1).raiseOnce 0x1104 e [e, eChan (h.conv k).words, k]
    let s := thresholds s e k r
    watch 2 e r (fine (stageUnit s 3 e (fine s 0) (toBE 4 (s.num (MCV_TAG e)) ++ toBE 4 (s.num (MCV_RES e)))) 0)
      (stageUnit s 3 e (fine s 0) (toBE 4 (s.num (MCV_TAG e)) ++ toBE 4 (s.num (MCV_RES e)))) := rfl

theorem Hw.reg_raiseOnce (s : Hw) (c k : Nat) (l : List Nat) (a : Nat) : (s.raiseOnce c k l).reg a = s.reg a := by
  unfold Hw.raiseOnce
  exact Hw.ite_same (fun t : Hw => t.reg a) rfl rfl

theorem publishResult_reg (h : Hw) (k : Nat) (r : Int) (o : Bool) {a : Nat} (h1 : a / 65536 ≠ 0x12) (h2 : a ≠ MCV_TAG (h.conv k).entry)
    (h3 : a ≠ MCV_LATCH) (h4 : a ≠ MCV_OVER_N) : (publishResult h k r o).reg a = (resultTagged h k r o).reg a := by
  rw [publishResult_eq]
  extract_lets e s t
  rw [(keeps_shownResult t e r _ _ _).1 a (by simpa using h1), thresholds_reg s k r h2 h3]
  refine Hw.cond_same (fun t : Hw => t.reg a) _ _ ?_
  exact (Hw.reg_raiseOnce _ _ _ _ _).trans ((Hw.reg_setFld_other _ _ _ h3).trans (Hw.reg_setReg_other _ _ h4))

theorem publishResult_fld (h : Hw) {k i : Nat} (r : Int) (o : Bool) (hi : (h.conv k).entry = i) (hb : i < 64) {lo w : Nat} (hg : lo + w ≤ 32)
    (hl : lo + w ≤ 11 ∨ 13 ≤ lo) : (publishResult h k r o).fld ⟨MCV_TAG i, lo, w⟩ = (resultTagged h k r o).fld ⟨MCV_TAG i, lo, w⟩ := by
  have ha : MCV_TAG i / 65536 ≠ 0x12 ∧ MCV_TAG i ≠ MCV_LATCH ∧ MCV_TAG i ≠ MCV_OVER_N := by
    unfold MCV_TAG MCV_LATCH MCV_OVER_N
    omega
  obtain ⟨h1, h2, h3⟩ := ha
  rw [publishResult_eq, hi]
  extract_lets e s t
  rw [Hw.fld, (keeps_shownResult t e r _ _ _).1 _ (by simpa using h1), ← Hw.fld, thresholds_fld s k r hg hl h2]
  refine Hw.cond_same (fun t : Hw => t.fld ⟨MCV_TAG i, lo, w⟩) _ _ ?_
  exact congrArg (fun x => getField x lo w)
    ((Hw.reg_raiseOnce _ _ _ _ _).trans ((Hw.reg_setFld_other _ _ _ h2).trans (Hw.reg_setReg_other _ _ h3)))

theorem publishResult_shows (h : Hw) {k i : Nat} {r : Int} (o : Bool) (hk : k < 4) (hi : (h.conv k).entry = i) (hb : i < 64)
    (h1 : -(2 : Int) ^ 31 ≤ r) (h2 : r < 2 ^ 31) : (publishResult h k r o).int (MCV_RES i) = r ∧
      (publishResult h k r o).fld (MCV_TAG_seq i) = (h.fld (MCV_TAG_seq i) + 1) % 65536 ∧
      (publishResult h k r o).flag (MCV_TAG_suppressed i) = false ∧ (publishResult h k r o).flag (MCV_TAG_quarantined i) = false ∧
      (publishResult h k r o).fld (MCV_TAG_converter i) = k ∧ (publishResult h k r o).flag (MCV_TAG_overrange i) = o ∧
      (publishResult h k r o).flag (MCV_TAG_fallback i) = (h.conv k).fellBack := by
  have hf : ∀ {lo w : Nat}, lo + w ≤ 32 → lo + w ≤ 11 ∨ 13 ≤ lo →
      (publishResult h k r o).fld ⟨MCV_TAG i, lo, w⟩ = (resultTagged h k r o).fld ⟨MCV_TAG i, lo, w⟩ := publishResult_fld h r o hi hb
  have ha : MCV_RES i / 65536 ≠ 0x12 ∧ MCV_RES i ≠ MCV_TAG i ∧ MCV_RES i ≠ MCV_LATCH ∧ MCV_RES i ≠ MCV_OVER_N := by
    unfold MCV_RES MCV_TAG MCV_LATCH MCV_OVER_N
    omega
  obtain ⟨a1, a2, a3, a4⟩ := ha
  obtain ⟨t1, t2, t3, t4, t5, t6⟩ := resultTagged_fields h r o hk hi
  refine ⟨?_, (hf (by decide) (by decide)).trans t1, ?_, ?_, (hf (by decide) (by decide)).trans t4, ?_, ?_⟩
  · rw [Hw.int, publishResult_reg h k r o a1 (hi.symm ▸ a2) a3 a4, ← Hw.int]
    exact resultTagged_int h o hi a2 h1 h2
  · exact (congrArg (· == 1) (hf (by decide) (by decide))).trans t2
  · exact (congrArg (· == 1) (hf (by decide) (by decide))).trans t3
  · exact (congrArg (· == 1) (hf (by decide) (by decide))).trans t5
  · exact (congrArg (· == 1) (hf (by decide) (by decide))).trans t6

/-! ### The mains reference (R476) -/

/-- A mains edge at an instant, with its period. -/
def edgeNoted (h : Hw) (q p : Nat) : Hw :=
  { h.setNum64 MCV_MAINS_T (q % 2 ^ 64) with mcv := { h.mcv with edge := some q, period := p } }

/-- How many periods in a row have been close to the one before. -/
def goodPeriods (h : Hw) (p : Nat) : Nat :=
  if h.mcv.period ≠ 0 ∧ 100 * (max p h.mcv.period - min p h.mcv.period) ≤ h.mcv.period then h.mcv.goodRun + 1 else 0

/-- A period in range, noted. -/
def periodNoted (h : Hw) (q p : Nat) : Hw :=
  let s := edgeNoted h q p
  { s.setFld MCV_MAINS_period (p / 10) with mcv := { s.mcv with goodRun := goodPeriods h p } }

theorem mainsInvalid_eq (h : Hw) (k : Nat) : mainsInvalid h k =
    let s : Hw := { h with mcv := { h.mcv with goodRun := 0 } }
    if h.flag MCV_MAINS_valid = true then ((((s.setFld MCV_MAINS_valid 0).setFld MCV_MAINS_fallback 1).setFld MCV_LATCH_mains_lost 1).count
      MCV_MAINS_LOST).raise 0x1107 [h.fld MCV_MAINS_period, k] else s := by
  have hf : ∀ s : Hw, ((((s.setFld MCV_MAINS_valid 0).setFld MCV_MAINS_fallback 1).setFld MCV_LATCH_mains_lost 1).fld MCV_MAINS_period) =
      s.fld MCV_MAINS_period := fun s => by
    rw [Hw.fld_setFld_other _ _ (by decide) (.inl (by decide)), Hw.fld_setFld_other _ _ (by decide) (.inr (by decide)),
      Hw.fld_setFld_other _ _ (by decide) (.inr (by decide))]
  have hx : ∀ m, ({ h with mcv := m } : Hw).flag MCV_MAINS_valid = h.flag MCV_MAINS_valid := fun _ => rfl
  unfold mainsInvalid
  dsimp only
  rw [hf]
  cases hv : h.flag MCV_MAINS_valid with
  | true => exact if_neg (by rw [hx, hv]; decide)
  | false => exact if_pos (by rw [hx, hv]; decide)

section
variable {h : Hw} {q t p : Nat} (hr : h.ready 16 = true) (hs : mainsSrc h = 0) (hq : h.dtime - 20000 = q)
include hr hs hq

theorem mainsEdge_first (he : h.mcv.edge = none) : mainsEdge h =
    { h.setNum64 MCV_MAINS_T (q % 2 ^ 64) with mcv := { h.mcv with edge := some q } } := by
  unfold mainsEdge
  rw [hr, hs, if_neg (by decide), he, hq]

theorem mainsEdge_out (he : h.mcv.edge = some t) (hd : t + 10 ^ 7 ≤ q) (hp : ¬ (10 ^ 9 ≤ (q - t) * 62 ∧ (q - t) * 48 ≤ 10 ^ 9)) :
    mainsEdge h = mainsInvalid (edgeNoted h q (q - t)) 1 := by
  unfold mainsEdge
  rw [hr, hs, if_neg (by decide), he, hq]
  dsimp -zeta only
  extract_lets e p prev inRange close s run m s2 v m2 s3
  rw [if_neg (Nat.not_lt.mpr hd), show inRange = false from decide_eq_false hp]
  have h2 : s2 = edgeNoted h q (q - t) := by
    simp only [s2, m, s]
    rfl
  rw [if_pos (by decide), h2]

theorem mainsEdge_good (he : h.mcv.edge = some t) (hd : t + 10 ^ 7 ≤ q) (hp : 10 ^ 9 ≤ (q - t) * 62 ∧ (q - t) * 48 ≤ 10 ^ 9) :
    mainsEdge h = (periodNoted h q (q - t)).cond (decide (4 ≤ goodPeriods h (q - t)) && !(periodNoted h q (q - t)).flag MCV_MAINS_valid)
      fun s => ((s.setFld MCV_MAINS_valid 1).setFld MCV_MAINS_fallback 0).raise 0x1108 [(q - t) / 10] := by
  unfold mainsEdge
  rw [hr, hs, if_neg (by decide), he, hq]
  dsimp -zeta only
  extract_lets e p prev inRange close s run m s2 v m2 s3
  have hi : inRange = true := decide_eq_true hp
  have h2 : s2 = edgeNoted h q (q - t) := by
    simp only [s2, m, s]
    rfl
  have hrun : run = goodPeriods h (q - t) := by
    simp only [run, hi, s, close, goodPeriods, Bool.true_and, decide_eq_true_eq]
    rfl
  have h3 : s3 = periodNoted h q (q - t) := by
    simp only [s3, v, m2, h2, hrun]
    rfl
  rw [if_neg (Nat.not_lt.mpr hd), hi, if_neg (by decide), hrun, h3]
  rfl

end

/-- Settles O51: how conversions go, and what the mains reference follows. -/
theorem conversionsAndMains : Obligations.ConversionsAndMains := by
  unfold Obligations.ConversionsAndMains
  refine ⟨fun k => ?_, fun h k w => rfl, fun k ones n fir => ?_, fun h k r o hk hi h1 h2 => publishResult_shows h o hk rfl hi h1 h2,
    fun h k => ⟨afterWindow_repeats, afterWindow_delays, afterWindow_goes⟩, fun k => ?_, fun h k n i l => ⟨goOn_idle n, goOn_visits⟩, ?_,
    fun t => ?_, fun t => ?_, fun t => ?_, mainsInvalid_eq⟩
  · exact happens_intro (fun _ _ => rfl) fun h ⟨hr, hp, hd⟩ => suppressionEnd_due hr hp hd
  · exact happens_intro (fun _ _ => rfl) fun h ⟨hr, hp, hn, hf, ho, hd⟩ => conversionWindowEnd_due hr hp hn hf ho hd
  · exact happens_intro (fun _ _ => rfl) fun h ⟨hr, hp, hd⟩ => entryDelayEnd_due hr hp hd
  · exact happens_intro (fun _ _ => rfl) fun h ⟨hr, hs, he⟩ => mainsEdge_first hr hs rfl he
  · exact happens_intro (fun _ _ => rfl) fun h ⟨hr, hs, he, hd, hp⟩ => mainsEdge_good hr hs rfl he hd hp
  · exact happens_intro (fun _ _ => rfl) fun h ⟨hr, hs, he, hd, hp⟩ => mainsEdge_out hr hs rfl he hd hp
  · refine happens_intro (fun _ _ => rfl) fun h ⟨hr, hs, he, hd⟩ => ?_
    unfold mainsTimeout
    rw [he]
    refine if_pos ?_
    simp only [hr, hs, decide_eq_true hd]
    decide

end Sys2Proof.Machine

namespace Sys2Proof.Machine
open Reg

/-! ### The bytes of DTIME rest on DTIME alone -/

theorem Hw.dtimeBytes_congr {s t : Hw} (h : t.dtime = s.dtime) : t.dtimeBytes = s.dtimeBytes := by
  rw [Hw.dtimeBytes, h, Hw.dtimeBytes]

theorem Hw.each_dtime (l : List Nat) {f : Nat → Hw → Hw} (hf : ∀ i s, (f i s).dtime = s.dtime) (s : Hw) : (s.each l f).dtime = s.dtime :=
  Hw.each_same Hw.dtime l hf s

/-! ### Requests on Gather (R490 to R510) -/

theorem gthConfig_body {b : Hw} {c : Call} (hi : gthIdle b = true) : opGthConfig.body b c = .ok
    (((((((((b.setNum GTH_SRC (u8 c.p 1 * 65536 + u8 c.p 0)).setNum GTH_SRC_LOOPS (u32 c.p 4)).setNum64 GTH_SRC_MCV (un c.p 8 8)).setNum
      GTH_SRC_EVF (u32 c.p 16)).setFld GTH_CAP_segs_log2 (u8 c.p 2)).setFld GTH_CAP_post (u32 c.p 20)).setFld GTH_PRE_pre_min
      (u32 c.p 24)).setFld GTH_HOLD_holdoff_us (u16 c.p 28)).setFld GTH_HOLD_holdoff_n (u16 c.p 30)) := by
  unfold opGthConfig OpSpec.fix
  dsimp only
  rw [hi, if_neg (by decide)]

theorem gthTrigConfig_body {b : Hw} {c : Call} (hi : gthIdle b = true) : opGthTrigConfig.body b c = .ok
    (((updGth (((((b.setFld GTH_TRIG_enable (u8 c.p 0)).setFld GTH_TRIG_dir (u8 c.p 1)).setFld GTH_TRIG_thr_kind (u8 c.p 2)).setFld
      GTH_TRIG_thr_sig (u8 c.p 3)).setFld GTH_TRIG_thr_idx (u8 c.p 4)) fun x => { x with signal := none }).setNum GTH_TRIG_LVL
      (u32 c.p 8)).setNum GTH_TRIG_EVT (u32 c.p 12)) := by
  unfold opGthTrigConfig OpSpec.fix
  dsimp only
  rw [hi, if_neg (by decide)]

/-- The segments, counters and stores emptied. -/
def gthEmptied (b : Hw) : Hw :=
  updGth ((b.each (List.range 16) fun g s => (s.zeroRegs [GTH_SEG g, GTH_SEG_TRIG g]).setNum64 (GTH_SEG_T g) 0).zeroRegs
    [GTH_CULLETS, GTH_DROPPED, GTH_DROPPED + 1, GTH_TRIG_IGN]) fun x =>
    { x with stores := [], urgent := [], segs := [], seq := 0, post := 0, last := none, ign := 0, candAt := none, signal := none, keptAt := none }

theorem Hw.zeroRegs_dtime (l : List Nat) (s : Hw) : (s.zeroRegs l).dtime = s.dtime := by
  induction l generalizing s with
  | nil => rfl
  | cons a l ih => exact (ih _).trans (Hw.setReg_dtime ..)

theorem gthEmptied_dtime (b : Hw) : (gthEmptied b).dtime = b.dtime := by
  unfold gthEmptied
  rw [updGth_dtime, Hw.zeroRegs_dtime]
  refine Hw.each_dtime _ (fun g s => ?_) b
  rw [Hw.setNum64_dtime, Hw.zeroRegs_dtime]

theorem gthArm_body {b : Hw} {c : Call} (hs : b.num GTH_SRC % 32 ≠ 0) (ht : b.fld GTH_TRIG_enable ≠ 0) :
    opGthArm.body b c = .ok (beginSegment (gthEmptied b) 0) b.dtimeBytes := by
  rw [← Hw.dtimeBytes_congr (gthEmptied_dtime b)]
  unfold opGthArm OpSpec.fix
  dsimp only
  rw [if_neg hs, if_neg ht]
  rfl

theorem gthTrigger_offers {b : Hw} {c : Call} (he : hasBit (b.fld GTH_TRIG_enable) 0 = true) : opGthTrigger.body b c =
    let t := fine b.free.2 (b.free.1 % 64)
    let r := offer b.free.2 1 t
    .ok r.2 (toBE 1 (if r.1 = true then 1 else 0) ++ zeros 7 ++ toBE 8 t) := by
  have hf : hasBit (b.free.2.fld GTH_TRIG_enable) 0 = true := he
  unfold opGthTrigger OpSpec.fix
  dsimp only
  rw [if_pos hf]

theorem gthTrigger_stays {b : Hw} {c : Call} (he : hasBit (b.fld GTH_TRIG_enable) 0 = false) : opGthTrigger.body b c =
    .ok b.free.2 (toBE 1 0 ++ zeros 7 ++ toBE 8 (fine b.free.2 (b.free.1 % 64))) := by
  have hf : hasBit (b.free.2.fld GTH_TRIG_enable) 0 = false := he
  unfold opGthTrigger OpSpec.fix
  dsimp only
  rw [if_neg (by rw [hf]; decide)]
  rfl

theorem closeSegment_gth (s : Hw) (v : Bool) : (closeSegment s v).gth = s.gth := by
  unfold closeSegment
  dsimp only
  rw [Hw.setFld_gth, Hw.setFld_gth, Hw.setFlag_gth, Hw.setFld_gth]

theorem gthStop_body (b : Hw) (c : Call) : opGthStop.body b c = .ok (endStores
    ((((b.cond (b.fld GTH_STATE_state != 4) fun s => closeSegment s true).setFld GTH_STATE_state 4).raise 0x1203 [b.fld GTH_STATE_segment,
      (Map.get [] b.gth.segs (b.fld GTH_STATE_segment)).length]))) := by
  have hg : (b.cond (b.fld GTH_STATE_state != 4) fun s => closeSegment s true).gth = b.gth :=
    Hw.cond_same Hw.gth _ b (closeSegment_gth b true)
  unfold opGthStop OpSpec.fix
  dsimp only
  rw [hg]

theorem gthRead_body {b : Hw} {c : Call} (hc : b.flag (GTH_SEG_closed (u8 c.p 0)) = true)
    (hn : u32 c.p 4 + u8 c.p 8 ≤ (Map.get [] b.gth.segs (u8 c.p 0)).length) : opGthRead.body b c =
      let n := if c.rq.route = Route.inband then min 22 (u8 c.p 8) else u8 c.p 8
      .ok b (toBE 1 n ++ zeros 7 ++ (((Map.get [] b.gth.segs (u8 c.p 0)).drop (u32 c.p 4)).take n).flatMap blockBytes) := by
  unfold opGthRead OpSpec.fix
  dsimp only
  rw [hc, if_neg (by decide), if_neg (Nat.not_lt.mpr hn)]

theorem gthPmcConfig_body {b : Hw} {c : Call} (hr : b.flag (GTH_PMC_CFG_run (u8 c.p 0)) = false) : opGthPmcConfig.body b c =
    .ok ((b.setFld (GTH_PMC_CFG_event (u8 c.p 0)) (u16 c.p 1)).setFld (GTH_PMC_CFG_ovf_evt (u8 c.p 0)) (bit (u8 c.p 3) 0)) := by
  unfold opGthPmcConfig OpSpec.fix
  dsimp only
  rw [hr, if_neg (by decide)]

/-- The slots of both groups, marked. -/
def slotsMarked (s : Hw) (f : Nat → Nat) : Hw := s.each [0, 1] fun g s => s.setNum64 (f g) (s.num64 (GTH_SLOTS g))

theorem slotsMarked_dtime (s : Hw) (f : Nat → Nat) : (slotsMarked s f).dtime = s.dtime :=
  Hw.each_dtime _ (fun _ _ => Hw.setNum64_dtime ..) s

theorem gthPmcCtrl_runs {b : Hw} {c : Call} (hk : u8 c.p 1 = 0) : opGthPmcCtrl.body b c = .ok
    (slotsMarked (b.each (bitsOf 8 (u8 c.p 0)) fun n s => s.setFld (GTH_PMC_CFG_run n) 1) GTH_MARK_START) b.dtimeBytes := by
  rw [← Hw.dtimeBytes_congr ((slotsMarked_dtime (b.each (bitsOf 8 (u8 c.p 0)) fun n s => s.setFld (GTH_PMC_CFG_run n) 1) GTH_MARK_START).trans
    (Hw.each_dtime _ (fun _ _ => Hw.setFld_dtime ..) b))]
  unfold opGthPmcCtrl OpSpec.fix
  dsimp only
  rw [hk]
  rfl

theorem gthPmcCtrl_stops {b : Hw} {c : Call} (hk : u8 c.p 1 = 1) : opGthPmcCtrl.body b c = .ok
    (slotsMarked (b.each (bitsOf 8 (u8 c.p 0)) fun n s => s.setFld (GTH_PMC_CFG_run n) 0) GTH_MARK_STOP) b.dtimeBytes := by
  rw [← Hw.dtimeBytes_congr ((slotsMarked_dtime (b.each (bitsOf 8 (u8 c.p 0)) fun n s => s.setFld (GTH_PMC_CFG_run n) 0) GTH_MARK_STOP).trans
    (Hw.each_dtime _ (fun _ _ => Hw.setFld_dtime ..) b))]
  unfold opGthPmcCtrl OpSpec.fix
  dsimp only
  rw [hk]
  rfl

theorem gthPmcCtrl_zeros {b : Hw} {c : Call} (hk : u8 c.p 1 = 2) : opGthPmcCtrl.body b c = .ok
    (b.each (bitsOf 8 (u8 c.p 0)) fun n s => s.setNum64 (GTH_PMC n) 0) b.dtimeBytes := by
  rw [← Hw.dtimeBytes_congr (Hw.each_dtime (bitsOf 8 (u8 c.p 0)) (fun n _ => Hw.setNum64_dtime _ (GTH_PMC n) 0) b)]
  unfold opGthPmcCtrl OpSpec.fix
  dsimp only
  rw [hk]
  rfl

/-- Settles O52: what each request on Gather does. -/
theorem gatherRequests : Obligations.GatherRequests := by
  unfold Obligations.GatherRequests
  refine ⟨?_, ?_, ?_, ?_, ?_, ?_, ?_, ?_, ?_, ?_, ?_, ?_, ?_, ?_⟩
  · exact runsOk_intro (fun _ _ _ => rfl) fun b c hi => ⟨_, _, gthConfig_body hi, rfl, rfl⟩
  · exact runsOk_intro (fun _ _ _ => rfl) fun b c hi => ⟨_, _, gthTrigConfig_body hi, rfl, rfl⟩
  · exact runsOk_intro (fun _ _ _ => rfl) fun b c ⟨hs, ht⟩ => ⟨_, _, gthArm_body hs ht, rfl, rfl⟩
  · exact runsOk_intro (fun _ _ _ => rfl) fun b c he => ⟨_, _, gthTrigger_offers he, rfl, rfl⟩
  · exact runsOk_intro (fun _ _ _ => rfl) fun b c he => ⟨_, _, gthTrigger_stays he, rfl, rfl⟩
  · exact runsOk_intro (fun _ _ _ => rfl) fun b c _ => ⟨_, _, gthStop_body b c, rfl, rfl⟩
  · exact runsOk_intro (fun _ _ _ => rfl) fun b c ⟨hc, hn⟩ => ⟨_, _, gthRead_body hc hn, rfl, rfl⟩
  · exact runsOk_intro (fun _ _ _ => rfl) fun b c _ => ⟨_, _, rfl, rfl, rfl⟩
  · exact runsOk_intro (fun _ _ _ => rfl) fun b c hr => ⟨_, _, gthPmcConfig_body hr, rfl, rfl⟩
  · exact runsOk_intro (fun _ _ _ => rfl) fun b c hk => ⟨_, _, gthPmcCtrl_runs hk, rfl, rfl⟩
  · exact runsOk_intro (fun _ _ _ => rfl) fun b c hk => ⟨_, _, gthPmcCtrl_stops hk, rfl, rfl⟩
  · exact runsOk_intro (fun _ _ _ => rfl) fun b c hk => ⟨_, _, gthPmcCtrl_zeros hk, rfl, rfl⟩
  · exact runsOk_intro (fun _ _ _ => rfl) fun b c _ => ⟨_, _, rfl, rfl, rfl⟩
  · exact runsOk_intro (fun _ _ _ => rfl) fun b c _ => ⟨_, _, rfl, rfl, rfl⟩

end Sys2Proof.Machine

namespace Sys2Proof.Machine
open Reg

/-! ### What a performance counter leaves as it was -/

theorem Hw.reg_pmc (s : Hw) (ev k : Nat) {a : Nat} (h : ∀ n < 8, a ≠ GTH_PMC n ∧ a ≠ GTH_PMC n + 1) : (s.pmc ev k).reg a = s.reg a := by
  have hone : ∀ n < 8, ∀ t, (pmcOne ev k n t).reg a = t.reg a := fun n hn t => by
    obtain ⟨h1, h2⟩ := h n hn
    rcases pmcOne_cases ev k n t with e | ⟨v, e⟩ | ⟨v, w, e⟩ <;> rw [e]
    · exact reg_setNum64_other t v h1 h2
    · exact (Hw.cond_same (fun u : Hw => u.reg a) _ _ (Hw.reg_raise ..)).trans (reg_setNum64_other t v h1 h2)
  unfold Hw.pmc
  refine Hw.ite_same (fun u : Hw => u.reg a) rfl ?_
  exact Hw.each_keeps (fun u : Hw => u.reg a = s.reg a) (List.range 8) _ (fun n hn t ht => (hone n (List.mem_range.mp hn) t).trans ht) s rfl

theorem Hw.pmc_gth (s : Hw) (ev k : Nat) : (s.pmc ev k).gth = s.gth := (keeps_pmc s ev k).2.1 .gth (by decide)

theorem Hw.condPmc_gth (s : Hw) (b : Bool) (ev : Nat) : (s.cond b fun s => s.pmc ev).gth = s.gth := by
  cases b with
  | false => rw [Hw.cond_false]
  | true => rw [Hw.cond_true, Hw.pmc_gth]

/-! ### Captured blocks (R487 to R489) -/

theorem captureBlockWrite_ready {h : Hw} (ls : List (Nat × Byte)) (ds : List (Nat × Nat)) (hr : h.ready 17 = true) :
    captureBlockWrite ls ds h =
      let s := ds.foldl (fun (s : Hw) (x : Nat × Nat) => detectorSet x.1 x.2 s)
        (ls.foldl (fun (s : Hw) (x : Nat × Byte) => lineSample x.1 x.2.toNat s) h)
      s.cond (capturing s) fun s => (nextBlock s).elim s fun x => writeBlock x.2 x.1 := by
  unfold captureBlockWrite
  rw [hr, if_neg (by decide)]
  extract_lets s t
  cases hc : capturing t with
  | false => rfl
  | true =>
    rw [if_neg (by decide), Hw.cond_true]
    cases nextBlock t <;> rfl

/-- The blocks of the segment with one more, the oldest dropped where they are too many. -/
def blocksWith (h : Hw) (b : GBlock) : List GBlock :=
  let l := Map.get [] h.gth.segs (h.fld GTH_STATE_segment) ++ [{ b with seq := h.gth.seq }]
  l.drop (l.length - segSize h)

/-- A block in its segment. -/
def blockAdded (h : Hw) (b : GBlock) : Hw :=
  updGth h fun x => { x with segs := Map.put [] x.segs (h.fld GTH_STATE_segment) (blocksWith h b), seq := (x.seq + 1) % 2 ^ 32 }

/-- A block in its segment, counted, before the state of the capture is judged. -/
def blockJoined (h : Hw) (b : GBlock) : Hw :=
  let s := blockAdded h b
  let s := (s.setFld GTH_STATE_written (min (s.fld GTH_STATE_written + 1) (segSize s))).pmc 0x0A2
  s.cond (b.kind == 6) fun s => s.pmc 0x0A3

theorem reg_state_pmc (s : Hw) (ev : Nat) : (s.pmc ev).reg GTH_STATE = s.reg GTH_STATE :=
  Hw.reg_pmc s ev 1 (by decide)

theorem blockJoined_state (h : Hw) (b : GBlock) : (blockJoined h b).fld GTH_STATE_state = h.fld GTH_STATE_state := by
  have hp : ∀ (s : Hw) ev, (s.pmc ev).fld GTH_STATE_state = s.fld GTH_STATE_state := fun s ev =>
    congrArg (fun w => getField w _ _) (reg_state_pmc s ev)
  unfold blockJoined
  extract_lets s t
  rw [Hw.cond_same (fun s : Hw => s.fld GTH_STATE_state) (b.kind == 6) t (f := fun s => s.pmc 0x0A3) (hp t _), hp, Hw.fld_setFld_other _ _ (by decide) (.inr (by decide))]
  rfl

theorem blockJoined_gth (h : Hw) (b : GBlock) : (blockJoined h b).gth = (blockAdded h b).gth := by
  unfold blockJoined
  extract_lets s t
  rw [Hw.condPmc_gth, Hw.pmc_gth, Hw.setFld_gth]

theorem writeBlock_ready {h : Hw} (b : GBlock) (hs : h.fld GTH_STATE_state = 2) : writeBlock h b = blockJoined h b := by
  have h2 : (blockJoined h b).fld GTH_STATE_state = 2 := (blockJoined_state h b).trans hs
  unfold writeBlock
  extract_lets g l s t u
  have hu : u = blockJoined h b := rfl
  rw [hu, h2]
  rfl

theorem writeBlock_joins {h : Hw} (b : GBlock) (hs : h.fld GTH_STATE_state = 2) :
    let l := Map.get [] h.gth.segs (h.fld GTH_STATE_segment) ++ [{ b with seq := h.gth.seq }]
    Map.get [] (writeBlock h b).gth.segs (h.fld GTH_STATE_segment) = l.drop (l.length - segSize h) ∧
      (writeBlock h b).gth.seq = (h.gth.seq + 1) % 2 ^ 32 ∧ (writeBlock h b).fld GTH_STATE_state = 2 := by
  rw [writeBlock_ready b hs, blockJoined_gth]
  exact ⟨Map.get_put_same _ _ _ _, congrArg Gth.seq (updGth_gth h _), (blockJoined_state h b).trans hs⟩

theorem nextBlock_urgent {h : Hw} {x : GBlock} {l : List GBlock} (hu : h.gth.urgent = x :: l) :
    nextBlock h = some (x, updGth h fun y => { y with urgent := l }) := by
  unfold nextBlock
  rw [hu]

/-! ### Trigger candidates (R490 to R493) -/

theorem triggerCandidate_rising {h : Hw} (hl fr : Nat) (hr : h.ready 17 = true) (he : hasBit (h.fld GTH_TRIG_enable) 1 = true)
    (hd : 20 ≤ hl) : triggerCandidate true hl fr h = (offer h 2 ((h.dtime - hl) % 2 ^ 58 * 64 + fr)).2 := by
  unfold triggerCandidate
  rw [hr, he, decide_eq_true (show trigFilter ≤ hl from hd), if_pos (by decide)]
  rfl

/-- A candidate is taken while the capture is ready and no hold-off lasts. -/
def candidateTaken (h : Hw) (t : Nat) : Prop :=
  h.fld GTH_STATE_state = 2 ∧ ∀ l, h.gth.last = some l → l + h.fld GTH_HOLD_holdoff_us * 64000 ≤ t ∧ h.fld GTH_HOLD_holdoff_n ≤ h.gth.ign

/-- What a candidate that is taken leaves. -/
def candidateMarked (h : Hw) (k t : Nat) : Hw :=
  let g := h.fld GTH_STATE_segment
  (updGth (((h.setFld GTH_STATE_state 3).setFld (GTH_SEG_triggered g) 1).setNum64 (GTH_SEG_T g) t) fun x =>
    { x with urgent := ⟨7, g, 0, 1, t, toBE 1 k ++ zeros 3 ++ toBE 4 h.gth.ign⟩ :: x.urgent, post := h.fld GTH_CAP_post, last := some t, ign := 0 }).raise
    0x1201 [g, k, h.gth.ign]

/-- What a candidate that is ignored leaves. -/
def candidateCounted (h : Hw) : Hw := updGth (h.count GTH_TRIG_IGN) fun x => { x with ign := min (x.ign + 1) (2 ^ 32 - 1) }

theorem candidateMarked_post (h : Hw) (g t : Nat) :
    (((h.setFld GTH_STATE_state 3).setFld (GTH_SEG_triggered g) 1).setNum64 (GTH_SEG_T g) t).fld GTH_CAP_post = h.fld GTH_CAP_post := by
  have ha : GTH_CAP ≠ GTH_SEG_T g ∧ GTH_CAP ≠ GTH_SEG_T g + 1 ∧ GTH_CAP ≠ GTH_SEG g := by
    unfold GTH_CAP GTH_SEG_T GTH_SEG
    omega
  obtain ⟨h1, h2, h3⟩ := ha
  exact congrArg (fun w => getField w 0 17) ((reg_setNum64_other _ t h1 h2).trans ((Hw.reg_setFld_other _ (GTH_SEG_triggered g) 1 h3).trans
    (Hw.reg_setFld_other _ GTH_STATE_state 3 (by decide))))

theorem candidate_taken {h : Hw} (k : Nat) {t : Nat} (ho : candidateTaken h t) : candidate h k t = (true, candidateMarked h k t) := by
  obtain ⟨hs, hl⟩ := ho
  unfold candidate
  extract_lets held g n a b c d
  have hh : held = false := by
    simp only [held]
    cases hq : h.gth.last with
    | none => rfl
    | some l =>
      obtain ⟨h1, h2⟩ := hl l hq
      simp only [decide_eq_false (Nat.not_lt.mpr h1), decide_eq_false (Nat.not_lt.mpr h2)]
      rfl
  have hp : a.fld GTH_CAP_post = h.fld GTH_CAP_post := candidateMarked_post h g t
  have hc : c.raise 0x1201 [g, k, n] = candidateMarked h k t := by
    simp only [c]
    rw [hp]
    rfl
  rw [hs, hh, if_pos (by decide), hc]

theorem candidate_ignored {h : Hw} (k : Nat) {t : Nat} (ho : ¬ candidateTaken h t) : candidate h k t = (false, candidateCounted h) := by
  unfold candidate
  refine if_neg fun hc => ho ?_
  simp only [Bool.and_eq_true, decide_eq_true_eq, Bool.not_eq_true'] at hc
  obtain ⟨hs, hh⟩ := hc
  refine ⟨hs, fun l hl => ?_⟩
  rw [hl] at hh
  simpa using hh

theorem offer_new {h : Hw} (k : Nat) {t : Nat} (hn : h.gth.candAt ≠ some (t / 64)) : offer h k t =
    ((candidate h k t).1, updGth (candidate h k t).2 fun x => { x with candAt := some (t / 64) }) := by
  unfold offer
  rw [if_neg hn]

/-! ### The threshold (R491) -/

theorem crosses_in {dir : Nat} {l a v : Int} (h : dir = 0 ∧ (a < l ∧ l ≤ v) ∨ dir = 1 ∧ (l < a ∧ v ≤ l)) : crosses dir l a v = true := by
  unfold crosses
  rcases h with ⟨hd, hu⟩ | ⟨hd, hu⟩
  · rw [hd, if_pos rfl]
    exact decide_eq_true hu
  · rw [hd, if_neg (by decide), if_pos rfl]
    exact decide_eq_true hu

theorem crosses_not {l a v : Int} (dir : Nat) (hu : ¬ (a < l ∧ l ≤ v)) (hd : ¬ (l < a ∧ v ≤ l)) : crosses dir l a v = false := by
  unfold crosses
  rw [decide_eq_false hu, decide_eq_false hd]
  split
  · rfl
  · split <;> rfl

section
variable {h : Hw} {v a : Int} {i t ta : Nat} (hr : h.ready 17 = true) (he : hasBit (h.fld GTH_TRIG_enable) 3 = true)
  (hk : h.fld GTH_TRIG_thr_kind = 1) (hi : h.fld GTH_TRIG_thr_idx = i) (hs : h.gth.signal = some (a, ta))
include hr he hk hi hs

theorem watch_judges : watch 1 i v t h = updGth (if crosses (h.fld GTH_TRIG_dir) (h.int GTH_TRIG_LVL) a v = true
    then (offer h 8 (crossTime (h.int GTH_TRIG_LVL) a v ta t)).2 else h) fun x => { x with signal := some (v, t) } := by
  unfold watch
  rw [hr, he, hk, hi, hs, beq_self_eq_true, beq_self_eq_true, if_neg (by decide)]

theorem watch_crosses (hc : h.fld GTH_TRIG_dir = 0 ∧ (a < h.int GTH_TRIG_LVL ∧ h.int GTH_TRIG_LVL ≤ v) ∨
    h.fld GTH_TRIG_dir = 1 ∧ (h.int GTH_TRIG_LVL < a ∧ v ≤ h.int GTH_TRIG_LVL)) : watch 1 i v t h =
      updGth (offer h 8 (crossTime (h.int GTH_TRIG_LVL) a v ta t)).2 fun x => { x with signal := some (v, t) } := by
  rw [watch_judges hr he hk hi hs, if_pos (crosses_in hc)]

theorem watch_stays (hu : ¬ (a < h.int GTH_TRIG_LVL ∧ h.int GTH_TRIG_LVL ≤ v)) (hd : ¬ (h.int GTH_TRIG_LVL < a ∧ v ≤ h.int GTH_TRIG_LVL)) :
    watch 1 i v t h = updGth h fun x => { x with signal := some (v, t) } := by
  rw [watch_judges hr he hk hi hs, if_neg (by rw [crosses_not _ hu hd]; decide)]

end

/-! ### Tables (R503, R504) -/

/-- A key table filled, with the stash held or empty. -/
def keysFilled (s : Hw) (pat : Nat) (held : Bool) : Hw :=
  let n := if held = true then 64 else 0
  let v := (s.setFld FLW_STASH_occupancy n).setFld FLW_STASH_peak (max n (s.fld FLW_STASH_peak))
  ({ clearPoison v 0 with
     flw := { v.flw with keys := [], keyFill := pat * 2 ^ 64 + pat, cache := [],
                         stash := if held = true then (List.range 64).map (1179648 + ·) else [] } } : Hw).setFld
    FLW_STATUS_keys (if held = true then 1179648 + 64 else 0)

/-- A context table filled. -/
def ctxsFilled (s : Hw) (pat : Nat) : Hw :=
  { (clearPoison s 1).setFld FLW_CTX_contexts (if pat / 2 ^ 62 = 0 then 0 else 1048576) with
    flw := { s.flw with ctxs := [], ctxFill := pat * 2 ^ 64 + pat } }

/-- A table filled with a pattern, and what follows for what is held elsewhere of it. -/
def tableFilled (b : Hw) (t pat : Nat) : Hw :=
  let s := fillTable b t pat
  if t = 0 then keysFilled s pat (pat / 2 ^ 62 == 1) else if t = 1 then ctxsFilled s pat else s

theorem memTableFill_body {b : Hw} {c : Call} (hf : fillCond b (u8 c.p 0) = none) : opMemTableFill.body b c = .ok
    ((tableFilled b (u8 c.p 0) (un c.p 4 8)).cond (hasBit (u8 c.p 1) 0) fun s =>
      (setDeclared s (u8 c.p 0) true).raise 0x0C07 [u8 c.p 0, Map.get 0 s.mem.preN (u8 c.p 0)]) := by
  unfold opMemTableFill OpSpec.fix
  dsimp only
  rw [hf]
  cases hb : hasBit (u8 c.p 1) 0 <;> rfl

theorem keysFilled_beq (s : Hw) (pat : Nat) : keysFilled s pat (pat / 2 ^ 62 == 1) =
    let n := if pat / 2 ^ 62 = 1 then 64 else 0
    let v := (s.setFld FLW_STASH_occupancy n).setFld FLW_STASH_peak (max n (s.fld FLW_STASH_peak))
    ({ clearPoison v 0 with
       flw := { v.flw with keys := [], keyFill := pat * 2 ^ 64 + pat, cache := [],
                           stash := if n = 64 then (List.range 64).map (1179648 + ·) else [] } } : Hw).setFld
      FLW_STATUS_keys (if n = 64 then 1179712 else 0) := by
  by_cases hp : pat / 2 ^ 62 = 1
  · rw [if_pos hp, beq_iff_eq.mpr hp]
    rfl
  · rw [if_neg hp, beq_false_of_ne hp]
    rfl

theorem memTableDeclare_body {b : Hw} {c : Call} (hw : coverFull b (u8 c.p 0) = true) : opMemTableDeclare.body b c = .ok
    ((setDeclared b (u8 c.p 0) true).raise 0x0C07 [u8 c.p 0, Map.get 0 b.mem.preN (u8 c.p 0)]) (toBE 4 (Map.get 0 b.mem.preN (u8 c.p 0))) := by
  unfold opMemTableDeclare OpSpec.fix
  dsimp only
  rw [if_pos hw]

/-- Settles O53: what captures, candidates and requests on memories do. -/
theorem captureAndMemoryRequests : Obligations.CaptureAndMemoryRequests := by
  unfold Obligations.CaptureAndMemoryRequests
  refine ⟨fun ls ds => ?_, fun h x => writeBlock_joins x, fun h x l => nextBlock_urgent, fun ri hl fr => ?_, fun h k t hn => ?_,
    fun h v a i t ta hr he hk hi hs => ⟨watch_crosses hr he hk hi hs, watch_stays hr he hk hi hs⟩, ?_, ?_, ?_, ?_, ?_, ?_⟩
  · exact happens_intro (fun _ _ => rfl) fun h hr => captureBlockWrite_ready ls ds hr
  · exact happens_intro (fun _ _ => rfl) fun h ⟨hr, he, hri, hd⟩ => hri ▸ triggerCandidate_rising hl fr hr he hd
  · refine ⟨fun ho => ?_, fun ho => ?_⟩
    · rw [offer_new k hn, candidate_taken k ho]
      rfl
    · rw [offer_new k hn, candidate_ignored k ho]
      rfl
  · refine runsOk_intro (fun _ _ _ => rfl) fun b c hf => ⟨_, _, memTableFill_body hf, rfl, ?_⟩
    rw [tableFilled, keysFilled_beq]
    rfl
  · exact runsOk_intro (fun _ _ _ => rfl) fun b c hw => ⟨_, _, memTableDeclare_body hw, rfl, rfl⟩
  · exact runsOk_intro (fun _ _ _ => rfl) fun b c _ => ⟨_, _, rfl, rfl, rfl⟩
  · exact runsOk_intro (fun _ _ _ => rfl) fun b c _ => ⟨_, _, rfl, rfl, rfl⟩
  · exact runsOk_intro (fun _ _ _ => rfl) fun b c _ => ⟨_, _, rfl, rfl, rfl⟩
  · exact runsOk_intro (fun _ _ _ => rfl) fun b c _ => ⟨_, _, rfl, rfl, rfl⟩

end Sys2Proof.Machine

namespace Sys2Proof.Machine
open Reg

/-! ### Visits of the scrubber (R505 to R508) -/

/-- What a visit does to a word that is there to be visited. -/
def wordVisited (w : ScrubWord) (s : Hw) : Hw :=
  let b := blockVisited w s
  let a := b.cond (w.mem == 1 && w.kind != 2) (agePolicer (w.item.headD 0))
  if w.kind = 1 then memCorrected a w.mem w.bank w.off w.row w.synd
  else if w.kind = 2 then
    let m := memUncorrectable a w.mem w.bank w.off w.row w.synd (wordKey w)
    if w.mem = 0 then keyLost (w.item.headD 0) (slotValid b (w.item.headD 0)) m else wordLost w m
  else a

section
variable {h : Hw} {w : ScrubWord}

theorem scrubVisit_word (hp : h.phase ≠ .held) (hr : ∀ x, wordDomain w = some x → h.ready x = true) (hm : w.mem < 7 ∨ 12 < w.mem)
    (hj : w.mem ≤ 1 → h.declared w.mem = true ∧ lapHolds h w.mem = true) : scrubVisit w h = wordVisited w h := by
  have hn : ¬ (7 ≤ w.mem ∧ w.mem ≤ 12) := by omega
  have hv : ¬ (w.mem ≤ 1 ∧ (!(h.declared w.mem && lapHolds h w.mem)) = true) := fun ⟨h1, h2⟩ => by
    rw [(hj h1).1, (hj h1).2] at h2
    exact Bool.false_ne_true h2
  unfold scrubVisit
  extract_lets awake
  have ha : awake = true := by
    simp only [awake]
    cases hd : wordDomain w with
    | none => exact bne_iff_ne.mpr hp
    | some d => exact hr d hd
  rw [ha, if_neg (by decide), if_neg hn, if_neg hv]
  rfl

theorem wordDomain_of_mem {k : Nat} (h13 : w.mem ≠ 13) (hd : memDomain w.mem = some k) (hr : h.ready k = true) (x : Nat)
    (hx : wordDomain w = some x) : h.ready x = true := by
  rw [wordDomain, if_neg h13, hd] at hx
  exact Option.some.inj hx ▸ hr

theorem wordVisited_good (h1 : w.mem ≠ 1) (hk : w.kind = 0) : wordVisited w h = blockVisited w h := by
  unfold wordVisited
  rw [hk, beq_false_of_ne h1, if_neg (by decide), if_neg (by decide)]
  rfl

theorem wordVisited_corrected (h1 : w.mem ≠ 1) (hk : w.kind = 1) : wordVisited w h =
    memCorrected (blockVisited w h) w.mem w.bank w.off w.row w.synd := by
  unfold wordVisited
  rw [hk, beq_false_of_ne h1, if_pos rfl]
  rfl

theorem wordVisited_lost (h0 : w.mem ≠ 0) (h1 : w.mem ≠ 1) (hk : w.kind = 2) : wordVisited w h =
    wordLost w (memUncorrectable (blockVisited w h) w.mem w.bank w.off w.row w.synd (wordKey w)) := by
  unfold wordVisited
  rw [hk, beq_false_of_ne h1, if_neg (by decide), if_pos rfl]
  exact if_neg h0

theorem wordVisited_context (hm : w.mem = 1) (hk : w.kind ≤ 1) : wordVisited w h =
    (agePolicer (w.item.headD 0) (blockVisited w h)).cond (w.kind == 1) fun s => memCorrected s 1 w.bank w.off w.row w.synd := by
  have h2 : w.kind = 0 ∨ w.kind = 1 := by omega
  unfold wordVisited
  rcases h2 with h2 | h2 <;> rw [hm, h2] <;> rfl

theorem wordVisited_contextLost (hm : w.mem = 1) (hk : w.kind = 2) : wordVisited w h =
    contextLost (w.item.headD 0) (memUncorrectable (blockVisited w h) 1 w.bank w.off w.row w.synd (wordKey w)) := by
  unfold wordVisited wordLost
  rw [hm, hk]
  rfl

theorem wordVisited_keyLost (hm : w.mem = 0) (hk : w.kind = 2) : wordVisited w h =
    keyLost (w.item.headD 0) (slotValid (blockVisited w h) (w.item.headD 0))
      (memUncorrectable (blockVisited w h) 0 w.bank w.off w.row w.synd (wordKey w)) := by
  unfold wordVisited
  rw [hm, hk]
  rfl

theorem scrubVisit_mapped {k t : Nat} (hr : h.ready k = true) (hd : memDomain w.mem = some k) (h7 : 7 ≤ w.mem) (h12 : w.mem ≤ 12)
    (ht : tableOf (w.item.headD 0) = some t) (hdec : h.declared t = true) (hl : lapHolds h t = true) (hm : tableMem t = w.mem)
    (hk : w.kind ≠ 0) : scrubVisit w h = mappedError (blockVisited w h) (w.item.headD 0) w.synd (w.kind == 2) := by
  have hw : wordDomain w = some k := (if_neg (by omega)).trans hd
  unfold scrubVisit
  extract_lets awake a b
  have ha : awake = true := by
    simp only [awake, hw]
    exact hr
  rw [ha, if_neg (by decide), if_pos ⟨h7, h12⟩, ht]
  exact (if_pos ⟨hdec, hl, hm⟩).trans (if_pos hk)

end

/-! ### The end of a lap (R507) -/

theorem scrubLap_ends {h : Hw} {r : Nat} (hp : h.phase ≠ .held) (hr : r < 5) (h1 : r ≤ 1 → h.ready 14 = true) (h2 : r = 2 → h.ready 17 = true)
    (h4 : r = 4 → h.ready 15 = true ∨ h.ready 16 = true) (hb : Map.get false h.mem.broken r = false) : scrubLap r h =
      let us := min ((h.dtime - Map.get 0 h.mem.lapAt r) / 1000) (2 ^ 32 - 1)
      let s := h.setNum (MEM_LAP r) us
      let v := ({ s with mem := { s.mem with lapAt := Map.put 0 s.mem.lapAt r h.dtime } } : Hw).each (regionTables r) fun t s =>
        { s with mem := { s.mem with joined := Map.put false s.mem.joined t (s.declared t) } }
      v.cond (decide (v.fld (MEM_LAP_THR_ms r) * 1000 < us)) fun s => s.raise 0x0C03 [r, us] := by
  unfold scrubLap
  extract_lets awake us s t
  have ha : awake = true := by
    simp only [awake]
    by_cases c1 : r ≤ 1
    · rw [if_pos c1]
      exact h1 c1
    · rw [if_neg c1]
      by_cases c2 : r = 2
      · rw [if_pos c2]
        exact h2 c2
      · rw [if_neg c2]
        by_cases c4 : r = 4
        · rw [if_pos c4]
          exact Bool.or_eq_true_iff.mpr (h4 c4)
        · rw [if_neg c4]
          exact bne_iff_ne.mpr hp
  rw [ha, hb, decide_eq_false (by omega), if_neg (by decide)]
  rfl

/-- Settles O54: what visits of the scrubber and the ends of its laps do. -/
theorem scrubbing : Obligations.Scrubbing := by
  unfold Obligations.Scrubbing
  have live : ∀ {w : ScrubWord} {pre : Hw → Prop} {post : Hw → Hw → Prop}, (∀ h, h.phase ≠ .held → pre h → post h (scrubVisit w h)) →
      Happens (fun dt => .scrubVisit dt w) pre post := fun hf => happens_live (fun _ _ => rfl) hf
  refine ⟨fun w => live ?_, fun w => live ?_, fun w => live ?_, fun w => live ?_, fun w => live ?_, fun w => live ?_,
    fun w k t => live ?_, fun r => ?_⟩
  · rintro h hp ⟨hr, h0, h1, hm, hk⟩
    rw [scrubVisit_word hp hr hm (by omega), wordVisited_good h1 hk]
  · rintro h hp ⟨hr, h0, h1, hm, hk⟩
    rw [scrubVisit_word hp hr hm (by omega), wordVisited_corrected h1 hk]
  · rintro h hp ⟨hr, h0, h1, hm, hk⟩
    rw [scrubVisit_word hp hr hm (by omega), wordVisited_lost h0 h1 hk]
  · rintro h hp ⟨hr, hm, hd, hl, hk⟩
    rw [scrubVisit_word hp (wordDomain_of_mem (by omega) (by rw [hm]; rfl) hr) (by omega) fun _ => hm ▸ ⟨hd, hl⟩,
      wordVisited_context hm hk]
  · rintro h hp ⟨hr, hm, hd, hl, hk⟩
    rw [scrubVisit_word hp (wordDomain_of_mem (by omega) (by rw [hm]; rfl) hr) (by omega) fun _ => hm ▸ ⟨hd, hl⟩,
      wordVisited_contextLost hm hk]
  · rintro h hp ⟨hr, hm, hd, hl, hk⟩
    rw [scrubVisit_word hp (wordDomain_of_mem (by omega) (by rw [hm]; rfl) hr) (by omega) fun _ => hm ▸ ⟨hd, hl⟩,
      wordVisited_keyLost hm hk]
  · rintro h hp ⟨hr, hd, h7, h12, ht, hdec, hl, hm, hk⟩
    exact scrubVisit_mapped hr hd h7 h12 ht hdec hl hm (by omega)
  · exact happens_live (fun _ _ => rfl) fun h hp ⟨h1, h2, h4, hb⟩ => scrubLap_ends hp r.isLt h1 h2 h4 hb

end Sys2Proof.Machine

namespace Sys2Proof.Machine
open Reg

/-! ### Waking (R511 to R515) -/

theorem pwrWake_awake {b : Hw} {c : Call} (hf : (bitsOf 20 (u32 c.p 0)).any b.fenced = false) (ha : (bitsOf 20 (u32 c.p 0)).all (fun d =>
    b.ready d && (!hasBit (u8 c.p 4) 0 || b.flag (PWR_DOM_analog d))) = true) : opPwrWake.body b c = .ok b := by
  unfold opPwrWake OpSpec.fix
  dsimp only
  rw [hf, if_neg Bool.false_ne_true, if_pos ha]

theorem pwrWake_waits {b : Hw} {c : Call} (hf : (bitsOf 20 (u32 c.p 0)).any b.fenced = false) (ha : (bitsOf 20 (u32 c.p 0)).all (fun d =>
    b.ready d && (!hasBit (u8 c.p 4) 0 || b.flag (PWR_DOM_analog d))) = false) : opPwrWake.body b c =
      .wait (.wake (u32 c.p 0) (hasBit (u8 c.p 4) 0) ((bitsOf 20 (u32 c.p 0)).filter fun d => b.domState d == 0))
        (b.each (bitsOf 20 (u32 c.p 0)) fun d s => s.wake d 1) := by
  unfold opPwrWake OpSpec.fix
  dsimp only
  rw [hf, if_neg Bool.false_ne_true, ha, if_neg Bool.false_ne_true]

section
variable {h : Hw} {d : Nat} (k : Nat) (hr : h.phase ≠ .recovery) (hs : h.phase ≠ .shut)
include hr hs

theorem wake_unheld : ¬ ((h.phase = .recovery ∧ d ≠ 18 ∧ d ≠ 19) ∨ h.phase = .shut) := fun hc => hc.elim (fun c => hr c.1) hs

theorem wake_fenced (hf : h.fenced d = true) : h.wake d k = h.countFld (PWR_DOM_ignored d) :=
  (if_neg (wake_unheld hr hs)).trans (if_pos hf)

theorem wake_off (hf : h.fenced d = false) (h0 : h.domState d = 0) : h.wake d k =
    (h.setFld (PWR_DOM_state d) 1).setDom d { h.dom d with wakeAt := h.dtime, cause := k, byAccess := k == 0 } := by
  unfold Hw.wake
  rw [if_neg (wake_unheld hr hs), hf, if_neg Bool.false_ne_true, if_pos h0]

theorem wake_ready (hf : h.fenced d = false) (h2 : h.domState d = 2) : h.wake d k = h := by
  unfold Hw.wake
  rw [if_neg (wake_unheld hr hs), hf, if_neg Bool.false_ne_true, h2, if_neg (by decide), if_neg (by decide)]

theorem wake_stopping (hf : h.fenced d = false) (h3 : 3 ≤ h.domState d) (h5 : h.domState d ≤ 5) : h.wake d k =
    h.setDom d { h.dom d with queued := (h.dom d).queued + 1 } := by
  unfold Hw.wake
  rw [if_neg (wake_unheld hr hs), hf, if_neg Bool.false_ne_true, if_neg (by omega), if_pos ⟨h3, h5⟩]

end

/-! ### Sleep, fences and resets (R516 to R523) -/

theorem pwrSleep_waits {b : Hw} {c : Call} (hl : b.pwr.lehr = none) (hz : (beginSleep b (u32 c.p 0) 0 0 false).pwr.sleep.isSome = true) :
    opPwrSleep.body b c = .wait .sleep (beginSleep b (u32 c.p 0) 0 0 false) := by
  have hn : ¬ (beginSleep b (u32 c.p 0) 0 0 false).pwr.sleep.isNone = true := by
    rw [← Option.not_isSome, hz]
    decide
  unfold opPwrSleep OpSpec.fix
  dsimp only
  rw [hl, if_neg (by decide), if_neg hn]

theorem pwrSleep_over {b : Hw} {c : Call} (hl : b.pwr.lehr = none) (hz : (beginSleep b (u32 c.p 0) 0 0 false).pwr.sleep = none) :
    opPwrSleep.body b c = .ok (beginSleep b (u32 c.p 0) 0 0 false) := by
  unfold opPwrSleep OpSpec.fix
  dsimp only
  rw [hl, if_neg (by decide), if_pos (by rw [hz]; rfl)]

theorem bitsOf_two_pow {d : Nat} (hd : d < 20) : bitsOf 20 (2 ^ d) = [d] := by
  have hall : ∀ d : Fin 20, bitsOf 20 (2 ^ d.val) = [d.val] := by decide
  exact hall ⟨d, hd⟩

theorem beginSleep_asks {h : Hw} {d : Nat} (o t : Nat) (f : Bool) (hd : d < 20) (h2 : h.domState d = 2) (hf : h.fenced d = false) :
    beginSleep h (2 ^ d) o t f =
      (updPwr h fun x => { x with sleep := some (Sleep.mk [d] [] (2 ^ d) f o t) }).setFld (PWR_DOM_state d) 3 := by
  unfold beginSleep
  rw [bitsOf_two_pow hd]
  exact if_pos ⟨h2, by rw [show (updPwr h _).fenced d = h.fenced d from rfl, hf]; rfl⟩

theorem fenceOne_fences (h : Hw) (d : Nat) : fenceOne true d h =
    let s := if h.fenced d = true ∧ h.fld (PWR_DOM_fence_by d) = 1 then h else setFence d 1 true h
    switchOff d (s.setDom d { s.dom d with queued := 0 }) := by
  unfold fenceOne
  rw [if_pos rfl]
  simp only [Bool.and_eq_true, beq_iff_eq]

theorem fenceOne_releases (h : Hw) (d : Nat) : fenceOne false d h =
    let s := h.setDom d { h.dom d with fails := [] }
    if s.fenced d = true ∧ s.fld (PWR_DOM_fence_by d) ≠ 3 then
      let t := switchOff d (clearFence d s)
      t.setDom d { t.dom d with queued := 0 }
    else s := by
  unfold fenceOne
  rw [if_neg Bool.false_ne_true]
  simp only [Bool.and_eq_true, bne_iff_ne]

theorem Hw.dom_setDom_same (s : Hw) (d : Nat) (x : Domain) : (s.setDom d x).dom d = x := Map.get_put_same _ _ _ _

theorem repower_shows (h : Hw) (d : Nat) : (repower d h).domState d = 1 ∧ ((repower d h).dom d).cause = 6 ∧
    ((repower d h).dom d).wakeAt = h.dtime ∧ ((repower d h).dom d).queued = 0 := by
  have hw : (PWR_DOM_state d).lo + (PWR_DOM_state d).w ≤ 32 ∧ (PWR_DOM_state d).w = 3 := by
    unfold PWR_DOM_state
    dsimp only
    decide
  have hx : ∀ (s : Hw) x, (s.setDom d x).domState d = s.domState d := fun _ _ => rfl
  refine ⟨?_, ?_, ?_, ?_⟩
  · rw [repower, hx, Hw.domState]
    exact (Hw.fld_setFld_same _ _ hw.1).trans (congrArg (1 % 2 ^ ·) hw.2)
  all_goals rw [repower, Hw.dom_setDom_same]

/-! ### Lehr runs (R524 to R530) -/

/-- A run that begins now. -/
def lehrBegun (b : Hw) (kind target : Nat) : LehrRun where
  kind := kind
  target := target
  started := b.optime
  vLow := b.fld PWR_OP_STATUS_vcore_mv
  vHigh := b.fld PWR_OP_STATUS_vcore_mv
  tLow := enc 16 b.pwr.tempLow
  tHigh := enc 16 b.pwr.tempHigh
  targets := units12.map fun u => b.fld (FES_STATE_target u)
  awake := domains20.filter b.ready
  checked := b.dtime

theorem pwrLehrRun_domain {b : Hw} {c : Call} (hp : lehrPre b = 0) (ht : u8 c.p 0 ≠ 0xFE) (hc : u8 c.p 0 = 17 ∨ capturing b = false) :
    opPwrLehrRun.body b c = .wait .lehr (beginSleep ((updPwr b fun x => { x with lehr := some (lehrBegun b 1 (u8 c.p 0)) }).setFld
      PWR_LEHR_state 1) (2 ^ u8 c.p 0) 2 (u8 c.p 0) false) := by
  have hn : ¬ (u8 c.p 0 ≠ 0xFE ∧ u8 c.p 0 ≠ 17 ∧ capturing b = true) := fun ⟨_, h17, hcap⟩ =>
    hc.elim h17 fun hf => Bool.false_ne_true (hf.symm.trans hcap)
  unfold opPwrLehrRun OpSpec.fix
  dsimp only
  rw [if_neg (by rw [hp]; decide), if_neg hn, if_neg ht, lehrKind, if_neg ht]
  rfl

theorem pwrLehrRun_part {b : Hw} {c : Call} (hp : lehrPre b = 0) (ht : u8 c.p 0 = 0xFE) : opPwrLehrRun.body b c = .wait .lehr
    (beginSleep (setTargets (((updPwr b fun x => { x with lehr := some (lehrBegun b 0 0xFE) }).setFld PWR_LEHR_state 1).each [0, 1]
      fun g s => toP0 s g) 0xFFF 0) (2 ^ 20 - 1 - 2 ^ 17 - 2 ^ 19) 2 0xFE true) := by
  unfold opPwrLehrRun OpSpec.fix
  dsimp only
  rw [ht, if_neg (by rw [hp]; decide), if_neg (by simp), if_pos rfl]
  rfl

/-- Settles O55: what each power request does, and the operations it rests on. -/
theorem powerRequests : Obligations.PowerRequests := by
  unfold Obligations.PowerRequests
  refine ⟨?_, ?_, ?_, fun h d k hr hs => ⟨wake_fenced k hr hs, wake_off k hr hs, wake_ready k hr hs, wake_stopping k hr hs⟩, ?_, ?_,
    fun h d o t f hd h2 hf => beginSleep_asks o t f hd h2 hf, ?_, fenceOne_fences, fenceOne_releases, ?_, fun h d _ => repower_shows h d,
    ?_, ?_, ?_, ?_⟩
  · exact runsOk_intro (fun _ _ _ => rfl) fun b c _ => ⟨_, _, rfl, rfl, rfl⟩
  · exact runsOk_intro (fun _ _ _ => rfl) fun b c ⟨hf, ha⟩ => ⟨_, _, pwrWake_awake hf ha, rfl, rfl⟩
  · exact runsOn_intro (fun _ _ _ => rfl) fun b c ⟨hf, ha⟩ => ⟨_, _, pwrWake_waits hf ha, rfl, rfl⟩
  · exact runsOn_intro (fun _ _ _ => rfl) fun b c ⟨hl, hz⟩ => ⟨_, _, pwrSleep_waits hl hz, rfl, rfl⟩
  · exact runsOk_intro (fun _ _ _ => rfl) fun b c ⟨hl, hz⟩ => ⟨_, _, pwrSleep_over hl hz, rfl, rfl⟩
  · exact runsOk_intro (fun _ _ _ => rfl) fun b c _ => ⟨_, _, rfl, rfl, rfl⟩
  · exact runsOk_intro (fun _ _ _ => rfl) fun b c _ => ⟨_, _, rfl, rfl, rfl⟩
  · exact runsOn_intro (fun _ _ _ => rfl) fun b c ⟨hp, ht, hc⟩ => ⟨_, _, pwrLehrRun_domain hp ht hc, rfl, rfl⟩
  · exact runsOn_intro (fun _ _ _ => rfl) fun b c ⟨hp, ht⟩ => ⟨_, _, pwrLehrRun_part hp ht, rfl, rfl⟩
  · exact runsOk_intro (fun _ _ _ => rfl) fun b c _ => ⟨_, _, rfl, rfl, rfl⟩
  · exact runsOk_intro (fun _ _ _ => rfl) fun b c _ => ⟨_, _, rfl, rfl, rfl⟩

end Sys2Proof.Machine

namespace Sys2Proof.Machine
open Reg

/-! ### Low power (R531 to R535) -/

section
variable {h : Hw} (hl : h.pwr.lowPower = false) (h1 : h.phase ≠ .held) (h2 : h.phase ≠ .starting) (h3 : h.phase ≠ .warmReset)
  (h4 : h.phase ≠ .recovery) (h5 : h.phase ≠ .shut) (hr : h.pwr.lehr = none)
include hl h1 h2 h3 h4 h5 hr

theorem lowPowerEnter_takes : lowPowerEnter h =
    let s := updPwr h fun x => { x with lpReq := true, lowPower := true, lowAt := h.dtime, lowWaking := false, leaving := false }
    if h.pwr.sleep.isSome = true then updPwr s fun x => { x with lowDue := true } else lowPowerRun s := by
  unfold lowPowerEnter
  extract_lets s t u
  have hc : ¬ (s.pwr.lowPower = true ∨ s.phase = .held ∨ s.phase = .starting ∨ s.phase = .warmReset ∨ s.phase = .recovery) := by
    rintro (c | c | c | c | c)
    · exact Bool.false_ne_true (hl.symm.trans c)
    · exact h1 c
    · exact h2 c
    · exact h3 c
    · exact h4 c
  have hq : t.pwr.lehr = none := hr
  have hp : t.phase ≠ .shut := h5
  rw [if_neg hc, hq]
  dsimp only
  rw [if_neg hp]
  rfl

theorem lowPowerEnter_alone (hz : h.pwr.sleep = none) : lowPowerEnter h =
    lowPowerRun (updPwr h fun x => { x with lpReq := true, lowPower := true, lowAt := h.dtime, lowWaking := false, leaving := false }) :=
  (lowPowerEnter_takes hl h1 h2 h3 h4 h5 hr).trans (if_neg (by rw [hz]; decide))

theorem lowPowerEnter_due (hz : h.pwr.sleep.isSome = true) : lowPowerEnter h =
    updPwr h fun x => { x with lpReq := true, lowPower := true, lowAt := h.dtime, lowWaking := false, leaving := false, lowDue := true } :=
  (lowPowerEnter_takes hl h1 h2 h3 h4 h5 hr).trans (if_pos hz)

end

theorem lowPowerExit_wakes {h : Hw} (hl : h.pwr.lowPower = true) (hp : h.phase ≠ .shut)
    (hk : (h.pwr.lehr.any fun (x : LehrRun) => x.kind == 0) = false) (hz : (h.pwr.sleep.any fun (z : Sleep) => z.owner == 1) = false) :
    lowPowerExit h = lowWake (updPwr h fun x => { x with lpReq := false, lowPower := false, lowAt := h.dtime, lowDue := false }) := by
  unfold lowPowerExit
  extract_lets s t
  have hs : (!s.pwr.lowPower) = false := congrArg (!·) hl
  have hn : ¬ (t.phase = .shut ∨ (t.pwr.lehr.any fun x => x.kind == 0) = true) := fun hc =>
    hc.elim hp fun c => Bool.false_ne_true (hk.symm.trans c)
  have ht : (t.pwr.sleep.any fun z => z.owner == 1) = false := hz
  rw [hs, if_neg Bool.false_ne_true, if_neg hn, ht, if_neg Bool.false_ne_true]
  rfl

theorem lowPowerExit_sleeps {h : Hw} (hl : h.pwr.lowPower = true) (hz : (h.pwr.sleep.any fun (z : Sleep) => z.owner == 1) = true) :
    lowPowerExit h = updPwr h fun x => { x with lpReq := false, lowPower := false, lowAt := h.dtime, lowDue := false } := by
  unfold lowPowerExit
  extract_lets s t
  have hs : (!s.pwr.lowPower) = false := congrArg (!·) hl
  have ht : (t.pwr.sleep.any fun z => z.owner == 1) = true := hz
  have hu : t = updPwr h fun x => { x with lpReq := false, lowPower := false, lowAt := h.dtime, lowDue := false } := rfl
  rw [hs, if_neg Bool.false_ne_true, if_pos ht, ite_self, hu]

/-! ### Lehr runs (R524 to R530) -/

/-- The voltage and temperatures measured. -/
def measured (h : Hw) (mv : Nat) (lo hi : Int) : Hw := (updPwr h fun x => { x with tempLow := lo, tempHigh := hi }).setFld PWR_OP_STATUS_vcore_mv mv

theorem measured_lehr (h : Hw) (mv : Nat) (lo hi : Int) : (measured h mv lo hi).pwr.lehr = h.pwr.lehr := by
  rw [measured, Hw.setFld_pwr]
  rfl

theorem lehrCheck_idle {h : Hw} (mv : Nat) (lo hi : Int) (l : List LehrRegion) (hr : h.pwr.lehr = none) :
    lehrCheck mv lo hi l h = measured h mv lo hi := by
  have hm : (measured h mv lo hi).pwr.lehr = none := (measured_lehr h mv lo hi).trans hr
  unfold lehrCheck
  extract_lets s
  have hs : s = measured h mv lo hi := rfl
  rw [hs, hm]

/-- A run with its peaks, and with the region under test shown. -/
def peaksKept (h : Hw) (mv : Nat) (lo hi : Int) (l : List LehrRegion) (x : LehrRun) : Hw :=
  let a := if sx 16 x.tLow ≤ lo then x.tLow else enc 16 lo
  let z := if hi ≤ sx 16 x.tHigh then x.tHigh else enc 16 hi
  let s := updPwr (measured h mv lo hi) fun p =>
    { p with lehr := some { x with vLow := min x.vLow mv, vHigh := max x.vHigh mv, tLow := a, tHigh := z } }
  s.cond x.testing fun s => s.setFld PWR_LEHR_region (((lehrOrder x.target).filter fun r => !l.any fun (f : LehrRegion) => f.region == r).headD 20)

theorem peaksKept_dtime (h : Hw) (mv : Nat) (lo hi : Int) (l : List LehrRegion) (x : LehrRun) : (peaksKept h mv lo hi l x).dtime = h.dtime := by
  unfold peaksKept
  dsimp only
  cases x.testing with
  | false => rw [Hw.cond_false, updPwr_dtime, measured, Hw.setFld_dtime, updPwr_dtime]
  | true => rw [Hw.cond_true, Hw.setFld_dtime, updPwr_dtime, measured, Hw.setFld_dtime, updPwr_dtime]

theorem lehrCheck_runs {h : Hw} (mv : Nat) (lo hi : Int) (l : List LehrRegion) {x : LehrRun} (hr : h.pwr.lehr = some x) :
    lehrCheck mv lo hi l h =
      let v := peaksKept h mv lo hi l x
      if h.dtime < x.checked + 1000000 then v
      else
        let w := updPwr v fun (p : Pwr) => { p with lehr := p.lehr.map fun (x : LehrRun) => { x with checked := v.dtime } }
        if lehrPre w ≠ 0 then lehrAbort (lehrPre w) l w else w := by
  have hm : (measured h mv lo hi).pwr.lehr = some x := (measured_lehr h mv lo hi).trans hr
  unfold lehrCheck
  extract_lets s
  have hs : s = measured h mv lo hi := rfl
  rw [hs, hm]
  dsimp -zeta only
  extract_lets lo' hi' t v w
  have hv : v = peaksKept h mv lo hi l x := rfl
  have hd : v.dtime = h.dtime := by rw [hv, peaksKept_dtime]
  rw [hd]
  rfl

theorem lehrPre_eq (h : Hw) : lehrPre h =
    if h.fld PWR_OP_STATUS_vcore_mv < 720 ∨ 800 < h.fld PWR_OP_STATUS_vcore_mv then 1
    else if h.refOk 1 = false ∨ 1000 < (h.fldS (PWR_REF_offset 1) - h.fldS (PWR_REF_offset 0)).natAbs then 2
    else if h.pwr.tempLow < -400 ∨ 1100 < h.pwr.tempHigh then 3 else 0 := by
  unfold lehrPre
  simp only [Bool.or_eq_true, Bool.not_eq_true', decide_eq_true_eq, gt_iff_lt]

/-- What a run that has tested one domain records. -/
def lehrRecord (h : Hw) (x : LehrRun) (l : List LehrRegion) : LehrRec where
  kind := x.kind
  abort := 0
  pcc := h.num EVR_PCC
  start := x.started
  done := h.optime
  entries := [lehrEntry x x.kind l (fun _ => 2) x.target]

theorem lehrComplete_domain {h : Hw} (l : List LehrRegion) {x : LehrRun} (hx : h.pwr.lehr = some x) (ht : x.testing = true)
    (hn : x.target ≠ 0xFE) (hr : x.target = 17 ∨ h.ready 17 = true) : lehrComplete l h =
      let rs := if entryPass x.kind (lehrEntry x x.kind l (fun _ => 2) x.target) = true then 0 else 1
      let s := (((keepLehr h l (lehrRecord h x l)).setFld PWR_LEHR_state 0).setFld PWR_LEHR_abort 0).setFld PWR_LEHR_result rs
      setOutcome (lehrLeave ((tellPlaus s l).raise 0x0208 [x.kind, x.target, rs]) x) isLehr stOK 0 (lehrHead (lehrRecord h x l)) := by
  have hc : ¬ (!x.testing || (x.target != 0xFE && x.target != 17 && !h.ready 17)) = true := by
    rcases hr with hr | hr <;> simp [ht, hr]
  unfold lehrComplete
  rw [hx]
  dsimp only
  rw [if_neg hc, if_neg hn, if_neg hn, List.map_cons, List.map_nil, List.all_cons, List.all_nil, Bool.and_true]
  rfl

theorem storeLehr_ident (h : Hw) (r : LehrRec) : (storeLehr h r).nv.ident =
    if r.kind = 1 then { h.nv.ident with lehrRing := (r :: h.nv.ident.lehrRing).take 8 }
    else { h.nv.ident with lehrMain := (r :: h.nv.ident.lehrMain).take 2 } := rfl

/-- Settles O57: how low power comes and goes, and what a Lehr run judges and records. -/
theorem lowPowerAndLehr : Obligations.LowPowerAndLehr := by
  unfold Obligations.LowPowerAndLehr
  refine ⟨?_, ?_, fun _ => rfl, ?_, ?_, fun _ => rfl, fun mv lo hi l => ?_, fun mv lo hi l x => ?_, lehrPre_eq, fun l x => ?_,
    fun h r => ⟨fun hk => (storeLehr_ident h r).trans (if_pos hk), fun hk => (storeLehr_ident h r).trans (if_neg hk)⟩⟩
  · exact resets_intro (fun _ _ => rfl) fun h ⟨hl, h1, h2, h3, h4, h5, hr, hz⟩ => lowPowerEnter_alone hl h1 h2 h3 h4 h5 hr hz
  · exact resets_intro (fun _ _ => rfl) fun h ⟨hl, h1, h2, h3, h4, h5, hr, hz⟩ => lowPowerEnter_due hl h1 h2 h3 h4 h5 hr hz
  · exact resets_intro (fun _ _ => rfl) fun h ⟨hl, hp, hk, hz⟩ => lowPowerExit_wakes hl hp hk hz
  · exact resets_intro (fun _ _ => rfl) fun h ⟨hl, hz⟩ => lowPowerExit_sleeps hl hz
  · exact happens_intro (fun _ _ => rfl) fun h hr => lehrCheck_idle mv lo hi l hr
  · exact happens_intro (fun _ _ => rfl) fun h hr => lehrCheck_runs mv lo hi l hr
  · exact happens_intro (fun _ _ => rfl) fun h ⟨hx, ht, hn, hr⟩ => lehrComplete_domain l hx ht hn hr

end Sys2Proof.Machine

namespace Sys2Proof.Machine
open Reg

/-! ### The loss of power (R538 to R541) -/

theorem modrstlLow_live {h : Hw} (tn : Bool) (hp : h.phase ≠ .held) : modrstlLow tn h =
    tellKeysLost (h.fld FLW_STATUS_keys) 0 (updPwr (wiped (powerLost tn h)) fun x => { x with depart := h.pwr.depart }) := if_neg hp

theorem supplyOut_kept {h : Hw} (k x us : Nat) (tn : Bool) (hp : h.phase ≠ .held) : supplyOut k x us true tn h =
    tellKeysLost (h.fld FLW_STATUS_keys) 0 (updPwr (((wiped (powerLost tn h)).setFld (PWR_SUPPLY_in_window k) 0).setFld
      (PWR_SUPPLY_voltage k) x) fun y => { y with depart := some (k, x, us) }) := by
  unfold supplyOut
  rw [bne_iff_ne.mpr hp]
  rfl

theorem supplyOut_lost {h : Hw} (k x us : Nat) (tn : Bool) (hp : h.phase ≠ .held) : supplyOut k x us false tn h =
    updPwr (((wiped (powerLost tn h)).setFld (PWR_SUPPLY_in_window k) 0).setFld (PWR_SUPPLY_voltage k) x) fun y =>
      { y with depart := none } := by
  unfold supplyOut
  rw [bne_iff_ne.mpr hp]
  rfl

theorem each_copied (s : Hw) (l : List Nat) (t : Hw) (a : Nat) : (t.each l fun a t => t.setReg a (s.reg a)).reg a =
    if a ∈ l then s.reg a else t.reg a := by
  induction l generalizing t with
  | nil => exact (if_neg List.not_mem_nil).symm
  | cons b l ih =>
    rw [Hw.each_cons, ih]
    by_cases hl : a ∈ l
    · rw [if_pos hl, if_pos (List.mem_cons_of_mem _ hl)]
    · rw [if_neg hl]
      by_cases hb : a = b
      · rw [if_pos (hb ▸ List.mem_cons_self ..), hb, Hw.reg_setReg_same]
      · rw [Hw.reg_setReg_other _ _ hb, if_neg fun hm => (List.mem_cons.mp hm).elim hb hl]

/-- The registers that outlive the loss of everything volatile. -/
def regsKept : List Nat := [PWR_REF 0, PWR_REF 1, PWR_REF 2, PWR_DTIME_SRC] ++ (List.range 5).map PWR_SUPPLY

/-- A part that has lost all that is volatile, before what is kept is put back. -/
def bare (s : Hw) : Hw :=
  { phase := .held, nv := { s.nv with ring := s.nv.ring.map fun p => { p with told := false } }, pwr := { lpReq := s.pwr.lpReq },
    freeN := s.freeN, out := s.out, brc := { xreqPin := s.brc.xreqPin, xgntPin := s.brc.xgntPin } }

theorem wiped_eq (h : Hw) : wiped h = (bare h).each regsKept fun a t => t.setReg a (h.reg a) := rfl

theorem wiped_reg (h : Hw) (a : Nat) : (wiped h).reg a = if a ∈ regsKept then h.reg a else coldWord a := by
  rw [wiped_eq, each_copied]
  rfl

theorem wiped_same {α : Type} (φ : Hw → α) (hφ : ∀ (s : Hw) a v, φ (s.setReg a v) = φ s) (h : Hw) : φ (wiped h) = φ (bare h) := by
  rw [wiped_eq, Hw.each_same φ _ fun _ _ => hφ _ _ _]

theorem wiped_shows (h : Hw) : (wiped h).phase = .held ∧ (wiped h).dtime = 0 ∧ (wiped h).cmd.running = [] ∧ (wiped h).cmd.journal = [] ∧
    (wiped h).evr.bus = [] ∧ (∀ a, a ∉ regsKept → (wiped h).reg a = coldWord a) ∧ (∀ a, a ∈ regsKept → (wiped h).reg a = h.reg a) ∧
    (wiped h).nv = { h.nv with ring := h.nv.ring.map fun (p : Page) => { p with told := false } } :=
  ⟨wiped_same Hw.phase (fun _ _ _ => Hw.setReg_phase ..) h, wiped_same Hw.dtime (fun _ _ _ => Hw.setReg_dtime ..) h,
    congrArg Cmd.running (wiped_same Hw.cmd (fun _ _ _ => Hw.setReg_cmd ..) h),
    congrArg Cmd.journal (wiped_same Hw.cmd (fun _ _ _ => Hw.setReg_cmd ..) h),
    congrArg Evr.bus (wiped_same Hw.evr (fun _ _ _ => Hw.setReg_evr ..) h),
    fun a ha => (wiped_reg h a).trans (if_neg ha), fun a ha => (wiped_reg h a).trans (if_pos ha),
    wiped_same Hw.nv (fun _ _ _ => Hw.setReg_nv ..) h⟩

/-! ### Starts (R536, R537, R542) -/

theorem coldStart_held {h : Hw} (bd : List (Nat × Nat)) (mv : List Nat) (fd : List LehrRegion) (hp : h.phase = .held) :
    coldStart bd mv fd h =
      let v := bootVerify (adoptAll (resumeJournal (repairDomain (tellDeparture (countStart (bd.foldl nvFound (aonStarts mv h)))) 20)))
      chooseStart bd fd ((v.2.setFlag SEC_FW_recovery (!v.1)).wake 19 4) := by
  unfold coldStart
  rw [if_neg (Classical.not_not.mpr hp)]

theorem aonStarts_shows (h : Hw) (mv : List Nat) : (aonStarts mv h).phase = .starting ∧ (aonStarts mv h).dtime = 0 := by
  unfold aonStarts
  refine ⟨(Hw.each_same Hw.phase _ (fun k s => ?_) _).trans rfl, (Hw.each_same Hw.dtime _ (fun k s => ?_) _).trans rfl⟩
  · rw [Hw.setFld_phase, Hw.setFld_phase]
  · rw [Hw.setFld_dtime, Hw.setFld_dtime]

/-- A part with its power cycles counted to n, with or without the event of the full counter. -/
theorem counted_shows (h : Hw) {n : Nat} (b : Bool) (hn : n < 2 ^ 32) :
    (({ (h.setNum EVR_PCC n) with nv := { h.nv with pcc := n } } : Hw).cond b fun s => s.raise 0x1304 [1]).nv.pcc = n ∧
    (({ (h.setNum EVR_PCC n) with nv := { h.nv with pcc := n } } : Hw).cond b fun s => s.raise 0x1304 [1]).num EVR_PCC = n := by
  have hc : (h.setNum EVR_PCC n).num EVR_PCC = n := (Hw.num_setNum_same h EVR_PCC n).trans (Nat.mod_eq_of_lt hn)
  generalize hs : h.setNum EVR_PCC n = s at hc ⊢
  cases b with
  | false => exact ⟨rfl, hc⟩
  | true => exact ⟨rfl, hc⟩

theorem countStart_shows (h : Hw) : (countStart h).nv.pcc = min (h.nv.pcc + 1) (2 ^ 32 - 1) ∧
    (countStart h).num EVR_PCC = min (h.nv.pcc + 1) (2 ^ 32 - 1) ∧ (countStart h).evr.optBase = h.nv.optime := by
  have hlt : min (h.nv.pcc + 1) (2 ^ 32 - 1) < 2 ^ 32 := by omega
  have hn : (countCycle h).nv.pcc = min (h.nv.pcc + 1) (2 ^ 32 - 1) ∧ (countCycle h).num EVR_PCC = min (h.nv.pcc + 1) (2 ^ 32 - 1) := by
    unfold countCycle
    dsimp only
    generalize decide (min (h.nv.pcc + 1) (2 ^ 32 - 1) = 2 ^ 32 - 1 ∧ h.nv.pcc ≠ min (h.nv.pcc + 1) (2 ^ 32 - 1)) = b
    generalize min (h.nv.pcc + 1) (2 ^ 32 - 1) = n at hlt ⊢
    exact counted_shows h b hlt
  exact ⟨hn.1, hn.2, rfl⟩

theorem resumeJournal_shows (h : Hw) : (resumeJournal h).cmd.epoch = (h.nv.epoch + 1) % 256 ∧
    (resumeJournal h).cmd.index = (h.nv.journal.getLast?.map JEntry.index).getD 0 := by
  refine ⟨rfl, ?_⟩
  unfold resumeJournal
  dsimp only
  cases h.nv.journal.getLast? <;> rfl

/-- A part that tells its start. -/
def startTold (h : Hw) : Hw :=
  (h.setFld PWR_START_ms (min (h.dtime / 10 ^ 6 + 2) 65535)).raise 0x020A [h.fld PWR_START_kind, h.fld PWR_START_reason,
    min (h.dtime / 10 ^ 6 + 2) 65535]

theorem commandReady_tells {h : Hw} (hp : h.phase = .starting) : commandReady h =
    if h.flag SEC_FW_recovery = true then { startTold h with phase := .recovery } else wakeMarked 4 { startTold h with phase := .ready } := by
  have hf : (startTold h).flag SEC_FW_recovery = h.flag SEC_FW_recovery := by
    rw [startTold, Hw.flag_raise, Hw.flag_setFld_other _ _ (by decide) (.inl (by decide))]
  unfold commandReady
  rw [if_neg (Classical.not_not.mpr hp), ← hf]
  rfl

/-! ### Trials (R545) -/

theorem revertTrial_back {h : Hw} {j : Nat} (k : Nat) (hf : h.nv.ident.fallback = some j) : revertTrial h k =
    (true, (setIdent h fun d => { d with active := j, trial := false, fallback := none }).raise 0x0106 [k, j]) := by
  unfold revertTrial
  rw [hf]

theorem revertTrial_none {h : Hw} (k : Nat) (hf : h.nv.ident.fallback = none) : revertTrial h k =
    (false, (setIdent h fun d => { d with trial := false }).raise 0x0106 [k, h.nv.ident.active]) := by
  unfold revertTrial
  rw [hf]
  rfl

theorem revertTrial_resetting (h : Hw) (k : Nat) : (revertTrial h k).2.pwr.resetting = h.pwr.resetting := by
  cases hf : h.nv.ident.fallback with
  | none =>
    rw [revertTrial_none k hf]
    rfl
  | some j =>
    rw [revertTrial_back k hf]
    rfl

theorem trialTimeout_over {h : Hw} (hp : h.phase = .ready) (ht : h.nv.ident.trial = true) (hl : trialLeft h = 0)
    (hr : (h.cmd.running.any fun (r : RunCmd) => r.index != 0) = false) (hz : h.pwr.resetting = 0) : trialTimeout h =
      let v := revertTrial h 0
      mgmtBegin (updPwr v.2 fun x => { x with toRecovery := x.toRecovery || !v.1, resetting := 3 }) := by
  have hn : ¬ ((h.phase ≠ .ready ∧ h.phase ≠ .shut) ∨ (!h.nv.ident.trial) = true ∨ trialLeft h ≠ 0 ∨
      (h.cmd.running.any fun r => r.index != 0) = true) := by
    rintro (c | c | c | c)
    · exact c.1 hp
    · rw [ht] at c
      exact Bool.false_ne_true c
    · exact c hl
    · exact Bool.false_ne_true (hr.symm.trans c)
  unfold trialTimeout
  rw [if_neg hn]
  dsimp only
  have h4 : (updPwr (revertTrial h 0).2 fun x => { x with toRecovery := x.toRecovery || !(revertTrial h 0).1 }).pwr.resetting ≠ 4 := by
    rw [show (updPwr (revertTrial h 0).2 fun x => { x with toRecovery := x.toRecovery || !(revertTrial h 0).1 }).pwr.resetting =
      (revertTrial h 0).2.pwr.resetting from rfl, revertTrial_resetting, hz]
    decide
  rw [if_neg h4]
  rfl

/-- Settles O58: what the loss of power leaves, how the part starts, and how a trial is reverted. -/
theorem powerLossStartsAndTrials : Obligations.PowerLossStartsAndTrials := by
  unfold Obligations.PowerLossStartsAndTrials
  refine ⟨fun tn => ?_, fun k x us tn => ?_, fun k x us tn => ?_, wiped_shows, fun bd mv fd => ?_,
    fun h mv => ⟨aonStarts_shows h mv, countStart_shows h, resumeJournal_shows h⟩, ?_, ?_, ?_,
    fun h k => ⟨fun j => revertTrial_back k, revertTrial_none k⟩, fun n => ?_, ?_⟩
  · exact resets_intro (fun _ _ => rfl) fun h hp => modrstlLow_live tn hp
  · exact resets_intro (fun _ _ => rfl) fun h hp => supplyOut_kept k x us tn hp
  · exact resets_intro (fun _ _ => rfl) fun h hp => supplyOut_lost k x us tn hp
  · exact resets_intro (fun _ _ => rfl) fun h hp => coldStart_held bd mv fd hp
  · exact happens_intro (fun _ _ => rfl) fun h ⟨hp, hr⟩ => (commandReady_tells hp).trans (if_neg (by rw [hr]; decide))
  · exact happens_intro (fun _ _ => rfl) fun h ⟨hp, hr⟩ => (commandReady_tells hp).trans (if_pos hr)
  · exact happens_intro (fun _ _ => rfl) fun h ⟨hp, ht, hl, hr, hz⟩ => trialTimeout_over hp ht hl hr hz
  · exact happens_intro (fun _ _ => rfl) fun h _ => rfl
  · exact happens_intro (fun _ _ => rfl) fun h _ => rfl

end Sys2Proof.Machine

/-! ## Identity, keys, images and attestation (chapter 19) -/

namespace Sys2Proof.Machine
open Reg

/-! ### Keys (R601 to R605) -/

theorem secKeyEnroll_body {b : Hw} {c : Call} (hc : onCurve (slice c.p 4 97) = true) (hs : keySlot b (u8 c.p 0) = none) :
    opSecKeyEnroll.body b c = .ok ((setIdent b fun d =>
      { d with slots := Map.put none d.slots (u8 c.p 0) (some (KeySlot.mk (u8 c.p 1) (hasBit (u8 c.p 2) 0) (slice c.p 4 97))) }).raise
        0x0107 [u8 c.p 0, 1, u8 c.p 1]) := by
  unfold opSecKeyEnroll OpSpec.fix
  dsimp only
  rw [hc, hs]
  rfl

theorem secKeyRevoke_body {b : Hw} {c : Call} {x : KeySlot} (hs : keySlot b (u8 c.p 0) = some x)
    (hm : ([0, 1, 2, 3].any fun (j : Nat) => j != u8 c.p 0 && (keySlot b j).any fun (y : KeySlot) => y.level == 2) = true) :
    opSecKeyRevoke.body b c = .ok (let s := setIdent b fun d => { d with slots := Map.put none d.slots (u8 c.p 0) none }
      ({ s with cmd := { s.cmd with sessions := s.cmd.sessions.map fun (y : Session) =>
          if y.num < 0xFFF0 ∧ y.slot = u8 c.p 0 then { y with closing := true } else y } } : Hw).raise 0x0107 [u8 c.p 0, 0, x.level]) := by
  unfold opSecKeyRevoke OpSpec.fix
  dsimp only
  rw [hs]
  refine if_neg fun hn => ?_
  rw [Bool.not_eq_true'] at hn
  refine absurd (hm.symm.trans ((congrArg (List.any [0, 1, 2, 3]) (funext fun j => ?_)).trans hn)) (by decide)
  cases keySlot b j <;> rfl

/-! ### Images (R606 to R612) -/

/-- The sector x of slot k, written whole by n bytes from an offset on. -/
def sectorWhole (k off n x : Nat) : Bool := x / 4096 == k && decide (off ≤ x % 4096 * 512 ∧ (x % 4096 + 1) * 512 ≤ off + n)

/-- A part with the bytes b written in slot k from an offset on. -/
def slotWritten (h : Hw) (k off : Nat) (b : Bytes) (n : Nat) : Hw :=
  { h with nv := { h.nv with images := Map.put none h.nv.images k (some (overwrite (slotImage h k) off b)), unver := setBit h.nv.unver k true,
                             badSects := h.nv.badSects.filter fun (x : Nat) => !sectorWhole k off n x } }

theorem secFwWrite_body {b : Hw} {c : Call} (hl : u32 c.p 0 + u16 c.p 4 ≤ 2 ^ 21)
    (ht : b.nv.ident.trial = false ∨ b.nv.ident.fallback = none) : opSecFwWrite.body b c =
      .ok (slotWritten b (otherSlot b.nv.ident.active) (u32 c.p 0) (slice c.p 8 (u16 c.p 4)) (u16 c.p 4)) := by
  have hg : (b.nv.ident.trial && b.nv.ident.fallback.isSome) = false := by
    rcases ht with h | h <;> simp [h]
  unfold opSecFwWrite OpSpec.list
  dsimp only
  rw [if_neg (Nat.not_lt.mpr hl), hg, if_neg (by decide)]
  rfl

theorem secFwActivate_body {b : Hw} {c : Call} (ht : b.nv.ident.trial = false) : opSecFwActivate.body b c = .wait (.verify b.dtime) b := by
  unfold opSecFwActivate OpSpec.fix
  dsimp only
  rw [ht]
  rfl

theorem activateDone_refused {h : Hw} (hc : imageCheck h (otherSlot h.nv.ident.active) ≠ 0) :
    activateDone h = .refuse stREFUSED 0x0101 h := by
  unfold activateDone
  exact if_pos hc

theorem activateDone_passed {h : Hw} (hc : imageCheck h (otherSlot h.nv.ident.active) = 0) : activateDone h =
    .ok (askReset ((setIdent (passed h (otherSlot h.nv.ident.active)) fun d =>
      { d with active := otherSlot h.nv.ident.active, trial := true,
               fallback := if h.phase = Phase.recovery then none else some h.nv.ident.active, trialAt := h.optime }).raise 0x0104
        [otherSlot h.nv.ident.active, imgVersion (slotImage h (otherSlot h.nv.ident.active)),
          imgRollback (slotImage h (otherSlot h.nv.ident.active))]) 1) := by
  unfold activateDone
  exact if_neg (Classical.not_not.mpr hc)

/-- The anti-rollback number after a commit. -/
def committedRollback (h : Hw) : Nat := max h.nv.ident.rollback (imgRollback (slotImage h h.nv.ident.active))

theorem secFwCommit_body {b : Hw} {c : Call} (ht : b.nv.ident.trial = true) : opSecFwCommit.body b c =
    .ok ((setIdent b fun d => { d with trial := false, fallback := none, rollback := committedRollback b }).raise 0x0105
      [b.nv.ident.active, imgVersion (slotImage b b.nv.ident.active), committedRollback b]) (toBE 4 (committedRollback b)) := by
  unfold opSecFwCommit OpSpec.fix
  dsimp only
  rw [ht]
  rfl

theorem secCosignSet_body {b : Hw} {c : Call} (hc : u8 c.p 0 = 0 ∨ cosignOk b (slotImage b b.nv.ident.active) = true) :
    opSecCosignSet.body b c = .ok (setIdent b fun d => { d with cosign := u8 c.p 0 == 1 }) := by
  have hg : ¬(u8 c.p 0 = 1 ∧ (!cosignOk b (slotImage b b.nv.ident.active)) = true) := by
    rcases hc with h | h <;> simp [h]
  unfold opSecCosignSet OpSpec.fix
  dsimp only
  rw [if_neg hg]

/-- A condition of two parts is tested part by part. -/
theorem if_or {α : Type} (p q : Prop) [Decidable p] [Decidable q] (a b : α) :
    (if p ∨ q then a else b) = if p then a else if q then a else b := by
  by_cases hp : p
  · rw [if_pos hp, if_pos (.inl hp)]
  · rw [if_neg hp]
    exact ite_congr (propext (or_iff_right hp)) (fun _ => rfl) fun _ => rfl

theorem imageCheck_cases (h : Hw) (k : Nat) : imageCheck h k = (let b := slotImage h k
    if badIn h k 0 512 = true ∨ headerValid b = false then 1
    else if badIn h k 512 (512 + imgLength b) = true ∨ sha384 (imgBody b) ≠ BitVec.ofNat 384 (un b 20 48) then 2
    else if releaseVerify (headerDigest b) (slice b 160 96) = false then 3
    else if imgRollback b < h.nv.ident.rollback then 4
    else if h.nv.ident.cosign = true ∧ cosignOk h b = false then 5
    else 0) := by
  unfold imageCheck
  dsimp only
  generalize slotImage h k = b
  simp only [Bool.or_eq_true, Bool.and_eq_true, Bool.not_eq_true', if_or]

/-- Settles O59. -/
theorem securityRequests : Obligations.SecurityRequests := by
  unfold Obligations.SecurityRequests
  refine ⟨?_, ?_, ?_, ?_, fun x => ?_, ?_, ?_, ?_, fun h => ⟨activateDone_refused, fun hc => ?_⟩, ?_, ?_, ?_, ?_, ?_, imageCheck_cases⟩
  · exact runsOk_intro (fun _ _ _ => rfl) fun b c hp => ⟨_, _, rfl, rfl, rfl⟩
  · exact runsOk_intro (fun _ _ _ => rfl) fun b c hp => ⟨_, _, rfl, rfl, rfl⟩
  · exact runsOk_intro (fun _ _ _ => rfl) fun b c hp => ⟨_, _, rfl, rfl, rfl⟩
  · exact runsOk_intro (fun _ _ _ => rfl) fun b c hp => ⟨_, _, secKeyEnroll_body hp.1 hp.2, rfl, rfl⟩
  · exact runsOk_intro (fun _ _ _ => rfl) fun b c hp => ⟨_, _, secKeyRevoke_body hp.1 hp.2, rfl, rfl⟩
  · exact runsOk_intro (fun _ _ _ => rfl) fun b c hp => ⟨_, _, rfl, rfl, rfl⟩
  · exact runsOk_intro (fun _ _ _ => rfl) fun b c hp => ⟨_, _, secFwWrite_body hp.1 hp.2, rfl, rfl⟩
  · exact runsOn_intro (fun _ _ _ => rfl) fun b c hp => ⟨_, _, secFwActivate_body hp, rfl, rfl⟩
  · exact activateDone_passed hc
  · exact runsOk_intro (fun _ _ _ => rfl) fun b c hp => ⟨_, _, secFwCommit_body hp, rfl, rfl⟩
  · exact runsOk_intro (fun _ _ _ => rfl) fun b c hp => ⟨_, _, secCosignSet_body hp, rfl, rfl⟩
  · exact runsOk_intro (fun _ _ _ => rfl) fun b c hp => ⟨_, _, rfl, rfl, rfl⟩
  · exact runsOk_intro (fun _ _ _ => rfl) fun b c hp => ⟨_, _, rfl, rfl, rfl⟩
  · exact runsOk_intro (fun _ _ _ => rfl) fun b c hp => ⟨_, _, rfl, rfl, rfl⟩

end Sys2Proof.Machine

/-! ## The event recorder (chapter 19) -/

namespace Sys2Proof.Machine
open Reg

/-! ### Requests (R623 to R629) -/

theorem evrRead_staged {b : Hw} {c : Call} (hp : u8 c.p 0 = 1) : opEvrRead.body b c =
    .ok b (toBE 4 ((b.nv.pageSeq + 1) % 2 ^ 32) ++ zeros 4 ++ (fitRecs (if c.rq.route = Route.inband then min 45 (u8 c.p 8) else u8 c.p 8)
      ((b.evr.staged.filter Rec.inStage).map fun (r : Rec) => (((b.nv.pageSeq + 1) % 2 ^ 32), r))).1.flatMap recBytes) := by
  unfold opEvrRead OpSpec.fix
  dsimp only
  rw [if_pos hp]

theorem evrRead_ring {b : Hw} {c : Call} (hp : u8 c.p 0 ≠ 1) : opEvrRead.body b c =
    let f := fitRecs (if c.rq.route = Route.inband then min 45 (u8 c.p 8) else u8 c.p 8)
      ((ringRecs (tellBadPages (u32 c.p 4) b).nv.ring).filter fun (x : Nat × Rec) => pageAfter x.1 (u32 c.p 4))
    .ok (tellBadPages (u32 c.p 4) b) (toBE 4 (f.2.getD ((b.nv.pageSeq + 1) % 2 ^ 32)) ++ zeros 4 ++ (inOrder f.1).flatMap recBytes) := by
  unfold opEvrRead OpSpec.fix
  dsimp only
  rw [if_neg hp]

theorem evrSnapSet_body {b : Hw} {c : Call} (ha : ((List.range (u8 c.p 1)).all fun j => decide (u32 c.p (6 + 4 * j) < 2 ^ 24) &&
    unitListed (u32 c.p (6 + 4 * j))) = true) : opEvrSnapSet.body b c = .ok (applyEvrSnap c.p b) := by
  unfold opEvrSnapSet OpSpec.list
  exact if_pos ha

theorem evrFlush_body {b : Hw} {c : Call} (hf : b.fenced 19 = false) : opEvrFlush.body b c = .ok (flushAll (b.evr.staged.length + 1) b) := by
  unfold opEvrFlush OpSpec.fix
  dsimp only
  rw [hf, if_neg (by decide)]

/-- The event of an erased ring. -/
def eraseEvent (h : Hw) (rq : Request) : Ev := { code := 0x1303, params := [h.nv.ring.length, signerOf rq], time := h.dtime }

/-- A part with an empty ring. -/
def ringEmpty (h : Hw) : Hw := { h.setFld EVR_STATUS_ring_wrapped 0 with nv := { h.nv with ring := [] } }

theorem evrErase_body {b : Hw} {c : Call} (hs : (b.evr.staged.any Rec.inStage) = false) (hi : b.nv.items = []) :
    opEvrErase.body b c = .ok (handOver (stageCode (ringEmpty b) (eraseEvent b c.rq) []) (eraseEvent b c.rq)) := by
  unfold opEvrErase OpSpec.fix
  dsimp only
  have hg : ¬((b.evr.staged.any Rec.inStage) || !b.nv.items.isEmpty) = true := by
    rw [hs, hi]
    decide
  have hd := Hw.setFld_dtime b EVR_STATUS_ring_wrapped 0
  rw [if_neg hg]
  unfold ringEmpty eraseEvent
  generalize b.setFld EVR_STATUS_ring_wrapped 0 = t at hd ⊢
  dsimp only
  rw [hd]

/-! ### Events and records (R614 to R620) -/

theorem eventDeliver_next {h : Hw} {x : Ev} {y : List Ev} (hb : h.evr.bus = x :: y) : eventDeliver h =
    (recordEvent h).cond (eventTriggers (recordEvent h) x) fun s => (offer s 4 (x.time % 2 ^ 58 * 64)).2 := by
  unfold eventDeliver
  rw [hb]
  rfl

theorem stageLost_none {h : Hw} (hl : h.evr.lostNow = 0) : stageLost h = h := by
  unfold stageLost
  exact if_pos (.inl hl)

/-- A snapshot record of an event, with what stood in its words. -/
def snapRec (x : Ev) (w : (List Nat × Nat) × Hw) : Rec :=
  { code := x.code, snap := true, pcc := w.2.num EVR_PCC, first := w.2.optime, last := w.2.optime, dtime := x.time, params := x.params,
    words := w.1.1, unavail := w.1.2 }

theorem recordEvent_next {h : Hw} {x : Ev} {y : List Ev} (hb : h.evr.bus = x :: y) (hl : h.evr.lostNow = 0) : recordEvent h =
    let s := updEvr h fun z => { z with bus := y }
    let it := fun (r : Rec) => r.snap && r.code == x.code
    if isSnap x.code = false then stageCode s x s.evr.staged
    else if ((lastWith it s.evr.staged).any fun (r : Rec) => r.params == x.params && decide (s.optime ≤ r.first + s.fld EVR_CFG_merge_ms)) = true
      then stageCode s x (afterLast it s.evr.staged)
    else stageNew (snapWords s x.code).2 (snapRec x (snapWords s x.code)) := by
  unfold recordEvent
  rw [hb]
  dsimp only
  rw [stageLost_none (h := updEvr h fun z => { z with bus := y }) hl]
  generalize updEvr h (fun z => { z with bus := y }) = s
  cases isSnap x.code with
  | false => rfl
  | true => cases lastWith (fun (r : Rec) => r.snap && r.code == x.code) s.evr.staged <;> rfl

/-- A code record of an event, new. -/
def codeRec (h : Hw) (x : Ev) : Rec :=
  { code := x.code, snap := false, pcc := h.num EVR_PCC, first := h.optime, last := h.optime, dtime := x.time, params := x.params }

theorem stageCode_new {h : Hw} {x : Ev} {l : List Rec} (hn : lastWith (fun (r : Rec) => !r.snap && r.code == x.code) l = none) :
    stageCode h x l = stageNew h (codeRec h x) := by
  unfold stageCode
  dsimp only
  rw [hn]
  rfl

/-- A record that one more event joins. -/
def joined (h : Hw) (r : Rec) : Rec :=
  { r with count := r.count + 1, last := h.optime, closed := decide (65535 ≤ r.count + 1), changed := r.committed }

theorem stageCode_joins {h : Hw} {x : Ev} {l : List Rec} {r : Rec} (hn : lastWith (fun (r : Rec) => !r.snap && r.code == x.code) l = some r)
    (hp : r.params = x.params) (hc : r.closed = false) (ht : h.optime ≤ r.last + h.fld EVR_CFG_merge_ms) : stageCode h x l =
      interrupt (updEvr h fun z => { z with staged := updLast (fun (r : Rec) => !r.snap && r.code == x.code) (joined h) z.staged }) x.code := by
  unfold stageCode
  dsimp only
  rw [hn]
  refine if_pos ?_
  dsimp only
  rw [hp, hc, decide_eq_true ht, beq_self_eq_true]
  rfl

theorem stageNew_fits {h : Hw} {r : Rec} (hf : stagedSlots h.evr.staged + r.slots ≤ 2048) :
    stageNew h r = interrupt (updEvr h fun x => { x with staged := x.staged ++ [r] }) r.code := by
  unfold stageNew
  exact if_pos hf

theorem stageNew_lost {h : Hw} {r : Rec} (hf : 2048 < stagedSlots h.evr.staged + r.slots) (hs : r.snap = false) :
    stageNew h r = loseRecords h 1 := by
  unfold stageNew
  refine (if_neg (Nat.not_le.mpr hf)).trans ?_
  rw [hs]
  rfl

/-! ### Pages and the operating time (R613, R621, R622) -/

theorem pageCommit_writes {h : Hw} (hf : h.fenced 19 = false) (hr : h.ready 19 = true) (hd : h.evr.staged.any (due h) = true)
    (hn : (h.evr.commits.filter fun (t : Nat) => decide (h.dtime < t + 10 ^ 9)).length < 100) : pageCommit h =
      writePage (updEvr h fun x => { x with commits := h.evr.commits.filter (fun (t : Nat) => decide (h.dtime < t + 10 ^ 9)) ++ [h.dtime] }) := by
  unfold pageCommit
  dsimp only
  rw [hf, hd, hr, decide_eq_false (Nat.not_le.mpr hn)]
  rfl

/-- The ring with one page more. -/
def ringWith (h : Hw) : List Page :=
  h.nv.ring ++ [{ seq := (h.nv.pageSeq + 1) % 2 ^ 32, pcc := h.num EVR_PCC, time := h.optime, recs := (takePage h h.evr.staged 15).1 }]

/-- A part with one page more in its ring, which holds at most 2048. -/
def pageJoined (h : Hw) : Hw :=
  { h with nv := { h.nv with ring := (ringWith h).drop ((ringWith h).length - 2048), pageSeq := (h.nv.pageSeq + 1) % 2 ^ 32 } }

theorem writePage_taken {h : Hw} (ht : (takePage h h.evr.staged 15).1 ≠ []) : writePage h =
    let s := (pageJoined h).cond (decide (2048 < (ringWith h).length)) fun s => s.setFld EVR_STATUS_ring_wrapped 1
    stageLost (updEvr (s.wrapCount EVR_COMMITS) fun x => { x with staged := pruneStage (takePage h h.evr.staged 15).2 }) := by
  unfold writePage
  dsimp only
  rw [if_neg (fun hn => ht (List.isEmpty_iff.mp hn))]
  rfl

theorem optimeCheckpoint_stores {h : Hw} (ht : h.evr.lastCkpt + 60000000000 ≤ h.dtime) (hr : h.ready 19 = true) (hf : h.fenced 19 = false) :
    optimeCheckpoint h = { h with nv := { h.nv with optime := h.optime }, evr := { h.evr with lastCkpt := h.dtime } } := by
  unfold optimeCheckpoint checkpoint
  rw [if_pos ht, hf, hr]
  rfl

/-- Settles O60. -/
theorem eventRecorder : Obligations.EventRecorder := by
  unfold Obligations.EventRecorder
  refine ⟨?_, ?_, ?_, ?_, ?_, ?_, ?_, fun x y => ?_, fun h x y hb hl => recordEvent_next hb hl,
    fun h x l => ⟨stageCode_new, fun r => stageCode_joins⟩, fun h r => ⟨stageNew_fits, stageNew_lost⟩, ?_, fun h => writePage_taken, ?_⟩
  · exact runsOk_intro (fun _ _ _ => rfl) fun b c hp => ⟨_, _, rfl, rfl, rfl⟩
  · exact runsOk_intro (fun _ _ _ => rfl) fun b c hp => ⟨_, _, evrRead_staged hp, rfl, rfl⟩
  · exact runsOk_intro (fun _ _ _ => rfl) fun b c hp => ⟨_, _, evrRead_ring hp, rfl, rfl⟩
  · exact runsOk_intro (fun _ _ _ => rfl) fun b c hp => ⟨_, _, rfl, rfl, rfl⟩
  · exact runsOk_intro (fun _ _ _ => rfl) fun b c hp => ⟨_, _, evrSnapSet_body hp, rfl, rfl⟩
  · exact runsOk_intro (fun _ _ _ => rfl) fun b c hp => ⟨_, _, evrFlush_body hp, rfl, rfl⟩
  · exact runsOk_intro (fun _ _ _ => rfl) fun b c hp => ⟨_, _, evrErase_body hp.1 hp.2, rfl, rfl⟩
  · exact happens_intro (fun _ _ => rfl) fun h hp => eventDeliver_next hp
  · exact happens_intro (fun _ _ => rfl) fun h hp => by
      obtain ⟨hf, hr, hd, hn⟩ := hp
      exact pageCommit_writes hf hr hd hn
  · exact happens_intro (fun _ _ => rfl) fun h hp => by
      obtain ⟨ht, hr, hf⟩ := hp
      exact optimeCheckpoint_stores ht hr hf

end Sys2Proof.Machine

/-! ## What stands while domains sleep, wake and fail: phase, DTIME, sessions, running commands, resets and the sleep in progress -/

namespace Sys2Proof.Machine
open Reg

/-- The parts of the state that no work in a power domain changes: phase, DTIME, sessions, whether a command runs and the reset asked for; and
the sleep in progress. -/
def calm (s : Hw) : (Phase × Nat × List Session × Bool × Nat) × Option Sleep :=
  ((s.phase, s.dtime, s.cmd.sessions, s.cmd.running.isEmpty, s.pwr.resetting), s.pwr.sleep)

theorem calm_of {s t : Hw} (hp : t.phase = s.phase) (hd : t.dtime = s.dtime) (hc : t.cmd = s.cmd) (hw : t.pwr = s.pwr) : calm t = calm s := by
  unfold calm
  rw [hp, hd, hc, hw]

/-! ### The operations of the state -/

section Operations
variable (s : Hw)

theorem calm_setReg (a : Nat) (v : Word) : calm (s.setReg a v) = calm s :=
  calm_of (Hw.setReg_phase ..) (Hw.setReg_dtime ..) (Hw.setReg_cmd ..) (Hw.setReg_pwr ..)

theorem calm_setNum (a n : Nat) : calm (s.setNum a n) = calm s :=
  calm_of (Hw.setNum_phase ..) (Hw.setNum_dtime ..) (Hw.setNum_cmd ..) (Hw.setNum_pwr ..)

theorem calm_setNum64 (a n : Nat) : calm (s.setNum64 a n) = calm s :=
  calm_of (Hw.setNum64_phase ..) (Hw.setNum64_dtime ..) (Hw.setNum64_cmd ..) (Hw.setNum64_pwr ..)

theorem calm_setFld (f : Fld) (n : Nat) : calm (s.setFld f n) = calm s :=
  calm_of (Hw.setFld_phase ..) (Hw.setFld_dtime ..) (Hw.setFld_cmd ..) (Hw.setFld_pwr ..)

theorem calm_setFlag (f : Fld) (b : Bool) : calm (s.setFlag f b) = calm s :=
  calm_of (Hw.setFlag_phase ..) (Hw.setFlag_dtime ..) (Hw.setFlag_cmd ..) (Hw.setFlag_pwr ..)

theorem calm_raise (c : Nat) (l : List Nat) : calm (s.raise c l) = calm s := calm_of rfl rfl rfl rfl

theorem calm_count (a k : Nat) : calm (s.count a k) = calm s :=
  calm_of (Hw.count_phase ..) (Hw.count_dtime ..) (Hw.count_cmd ..) (Hw.count_pwr ..)

theorem calm_countFld (f : Fld) (k : Nat) : calm (s.countFld f k) = calm s :=
  calm_of (Hw.countFld_phase ..) (Hw.countFld_dtime ..) (Hw.countFld_cmd ..) (Hw.countFld_pwr ..)

theorem calm_emit (o : Out) : calm (s.emit o) = calm s := calm_of rfl rfl rfl rfl

theorem calm_setDom (d : Nat) (x : Domain) : calm (s.setDom d x) = calm s := by
  unfold calm Hw.setDom
  rfl

theorem calm_updLane (n : Nat) (f : Lane → Lane) : calm (s.updLane n f) = calm s := calm_of rfl rfl rfl rfl

theorem calm_updGrp (g : Nat) (f : Grp → Grp) : calm (s.updGrp g f) = calm s := calm_of rfl rfl rfl rfl

theorem calm_updLoop (l : Nat) (f : Loop → Loop) : calm (s.updLoop l f) = calm s := calm_of rfl rfl rfl rfl

theorem calm_updOut (o : Nat) (f : AouOut → AouOut) : calm (s.updOut o f) = calm s := calm_of rfl rfl rfl rfl

theorem calm_updFes (u : Nat) (f : Fes → Fes) : calm (s.updFes u f) = calm s := calm_of rfl rfl rfl rfl

theorem calm_updPort (p : Nat) (f : Port → Port) : calm (updPort s p f) = calm s := calm_of rfl rfl rfl rfl

theorem calm_updGth (f : Gth → Gth) : calm (updGth s f) = calm s := calm_of rfl rfl rfl rfl

theorem calm_latchFault (n : Nat) : calm (s.latchFault n) = calm s := calm_of rfl rfl rfl rfl

theorem calm_latchLol (n : Nat) : calm (s.latchLol n) = calm s := calm_of rfl rfl rfl rfl

theorem calm_random : calm s.random.2 = calm s := calm_of rfl rfl rfl rfl

theorem calm_mem (m : Mem) : calm { s with mem := m } = calm s := calm_of rfl rfl rfl rfl

theorem calm_nv (n : Nv) : calm { s with nv := n } = calm s := calm_of rfl rfl rfl rfl

theorem calm_fab (f : Fabric) : calm { s with fab := f } = calm s := calm_of rfl rfl rfl rfl

theorem calm_brc (b : Brc) : calm { s with brc := b } = calm s := calm_of rfl rfl rfl rfl

theorem calm_cle (c : Cle) : calm { s with cle := c } = calm s := calm_of rfl rfl rfl rfl

theorem calm_mcv (m : Mcv) : calm { s with mcv := m } = calm s := calm_of rfl rfl rfl rfl

theorem calm_evr (e : Evr) : calm { s with evr := e } = calm s := calm_of rfl rfl rfl rfl

theorem calm_fesq (f : FesShared) : calm { s with fesq := f } = calm s := calm_of rfl rfl rfl rfl

theorem calm_raise_brc (c : Nat) (l : List Nat) (b : Brc) : calm { s.raise c l with brc := b } = calm s := calm_of rfl rfl rfl rfl

theorem calm_coreAt (t : Nat) : calm (updPwr s fun x => { x with coreAt := t }) = calm s := by
  unfold calm updPwr
  rfl

theorem calm_nv_evr (n : Nv) (e : Evr) : calm { s with nv := n, evr := e } = calm s := calm_of rfl rfl rfl rfl

theorem calm_lossTold (l : List (Nat × Nat)) : calm { s with pwr := { s.pwr with lossTold := l } } = calm s := by
  unfold calm
  rfl

end Operations

/-! ### Conditions and iterations -/

theorem calm_cond {s : Hw} {b : Bool} {f : Hw → Hw} (hf : ∀ t, calm (f t) = calm t) : calm (s.cond b f) = calm s :=
  Hw.cond_same calm b s (hf s)

theorem calm_each {s : Hw} {l : List Nat} {f : Nat → Hw → Hw} (hf : ∀ k t, calm (f k t) = calm t) : calm (s.each l f) = calm s :=
  Hw.each_same calm l hf s

theorem calm_foldl {α : Type} {l : List α} {f : Hw → α → Hw} (hf : ∀ t x, calm (f t x) = calm t) (s : Hw) :
    calm (l.foldl f s) = calm s := by
  induction l generalizing s with
  | nil => rfl
  | cons x xs ih => exact (ih _).trans (hf s x)

theorem calm_foldr {α : Type} {l : List α} {f : α → Hw → Hw} (hf : ∀ x t, calm (f x t) = calm t) (s : Hw) :
    calm (l.foldr f s) = calm s := by
  induction l with
  | nil => rfl
  | cons x xs ih => exact (hf x _).trans ih

theorem calm_foldl_fst {α β : Type} {l : List α} {f : Hw × β → α → Hw × β} (hf : ∀ t x, calm (f t x).1 = calm t.1) (s : Hw × β) :
    calm (l.foldl f s).1 = calm s.1 := by
  induction l generalizing s with
  | nil => rfl
  | cons x xs ih => exact (ih _).trans (hf s x)

theorem calm_ite {c : Prop} [Decidable c] (s t : Hw) : calm (if c then s else t) = if c then calm s else calm t :=
  apply_ite calm c s t

theorem calm_pmc (s : Hw) (ev k : Nat) : calm (s.pmc ev k) = calm s := by
  have hone : ∀ n t, calm (pmcOne ev k n t) = calm t := by
    intro n t
    unfold pmcOne
    simp only [calm_cond, calm_ite, calm_raise, calm_setNum64, ite_self, implies_true]
  unfold Hw.pmc
  simp only [calm_each, calm_ite, ite_self, implies_true, hone]

theorem calm_coldRegs (s : Hw) (l : List Nat) : calm (s.coldRegs l) = calm s := by
  unfold Hw.coldRegs
  simp only [calm_foldl, calm_setReg, implies_true]

theorem calm_zeroRegs (s : Hw) (l : List Nat) : calm (s.zeroRegs l) = calm s := by
  unfold Hw.zeroRegs
  simp only [calm_foldl, calm_setReg, implies_true]

theorem calm_countSec (s : Hw) (c i k x m : Nat) (b : Bool) : calm (s.countSec c i k x m b) = calm s := by
  unfold Hw.countSec Hw.raiseCount
  simp only [calm_cond, calm_evr, calm_raise, implies_true]

theorem calm_wake (s : Hw) (d k : Nat) : calm (s.wake d k) = calm s := by
  unfold Hw.wake
  simp only [calm_countFld, calm_ite, calm_setDom, calm_setFld, ite_self]

theorem calm_access (s : Hw) (d : Nat) : calm (s.access d) = calm s := by
  unfold Hw.access
  simp only [calm_setDom, calm_wake]

/-! ### Groups and lanes -/

theorem calm_setAlarm (s : Hw) (d : Nat) (v : Bool) : calm (setAlarm s d v) = calm s := by
  unfold setAlarm
  simp only [calm_cond, calm_setFld, implies_true]

theorem calm_leaveAlarm (s : Hw) (d : Nat) : calm (leaveAlarm s d) = calm s := by
  have hk : calm { s with pwr := { s.pwr with okSince := Map.put 0 s.pwr.okSince d 0 } } = calm s := rfl
  unfold leaveAlarm
  simp only [calm_ite, calm_setAlarm, calm_setFld, ite_self, hk]

theorem calm_breakLaps (s : Hw) (d : Nat) : calm (breakLaps s d) = calm s := by
  unfold breakLaps
  simp only [calm_each, calm_mem, implies_true]

theorem calm_dropLock (s : Hw) (n : Nat) : calm (dropLock s n) = calm s := by
  unfold dropLock
  simp only [calm_latchLol, calm_setFld]

theorem calm_setRetrain (s : Hw) (g p : Nat) (r : Option Retrain) : calm (setRetrain s g p r) = calm s := by
  unfold setRetrain
  simp only [calm_setFld, calm_updGrp]

theorem calm_abandonRetrain (s : Hw) (g p : Nat) : calm (abandonRetrain s g p) = calm s := by
  unfold abandonRetrain
  simp only [calm_ite, calm_raise, calm_setRetrain, ite_self]

theorem calm_retainGroup (s : Hw) (g : Nat) : calm (retainGroup s g) = calm s := by
  unfold retainGroup
  simp only [calm_each, calm_updLane, implies_true]

theorem calm_leaveStages (s : Hw) (g : Nat) : calm (leaveStages s g) = calm s := by
  unfold leaveStages
  extract_lets a b c d e f i j
  have ha : calm a = calm s := by simp only [calm_cond, calm_retainGroup, calm_setFld, implies_true, a]
  have hb : calm b = calm s := by simp only [calm_each, calm_setFld, calm_updLane, implies_true, b, ha]
  have hc : calm c = calm s := by simp only [calm_setFld, c, hb]
  have hd : calm d = calm s := by simp only [calm_setFld, d, hc]
  have he : calm e = calm s := by simp only [calm_setFld, e, hd]
  have hf : calm f = calm s := by simp only [calm_setFld, f, he]
  have hi : calm i = calm s := by simp only [calm_setFld, calm_setNum, i, hf]
  have hj : calm j = calm s := by simp only [calm_setFld, j, hi]
  simp only [calm_updGrp, calm_setFld, hj]

theorem calm_setStage (s : Hw) (g n : Nat) : calm (setStage s g n) = calm s := by
  unfold setStage
  simp only [calm_raise, calm_setFld, calm_updGrp]

theorem calm_startLaneStages (s : Hw) (g : Nat) : calm (startLaneStages s g) = calm s := by
  unfold startLaneStages
  simp only [calm_setNum]

theorem calm_toP0 (s : Hw) (g : Nat) : calm (toP0 s g) = calm s := by
  unfold toP0
  simp only [calm_ite, calm_leaveStages, calm_setFld, calm_setStage, ite_self]

theorem calm_toP1 (s : Hw) (g : Nat) : calm (toP1 s g) = calm s := by
  unfold toP1
  simp only [calm_leaveStages, calm_setFld, calm_setStage, calm_startLaneStages, calm_updGrp]

theorem calm_sendSymbols (n : Nat) (l : List Nat) (s : Hw) : calm (sendSymbols n l s) = calm s := by
  unfold sendSymbols
  simp only [calm_cond, calm_setFld, calm_updLane, implies_true]

theorem calm_sendTraining (s : Hw) (g p : Nat) (a : Bool) : calm (sendTraining s g p a) = calm s := by
  unfold sendTraining
  simp only [calm_emit, calm_sendSymbols, calm_updGrp]

theorem calm_carry (s : Hw) (g k header : Nat) (pl : Bytes) : calm (carry s g k header pl) = calm s := by
  unfold carry
  simp only [calm_emit, calm_pmc, calm_updGrp]

theorem calm_tellLoss (s : Hw) (g k : Nat) (c : LCell) : calm (tellLoss s g k c) = calm s := by
  unfold tellLoss
  simp only [calm_foldl, calm_ite, calm_lossTold, calm_raise, ite_self, implies_true]

theorem calm_leaveLine (s : Hw) (g k : Nat) (c : LCell) : calm (leaveLine s g k c) = calm s := by
  unfold leaveLine
  dsimp only
  split <;> simp only [calm_carry, calm_cond, calm_pmc, calm_tellLoss, calm_updGrp, implies_true]

theorem calm_flushOam (s : Hw) (g : Nat) : calm (flushOam s g) = calm s := by
  unfold flushOam
  simp only [calm_foldl, calm_leaveLine, calm_updGrp, implies_true]

theorem calm_queueCell (s : Hw) (g : Nat) (c : LCell) : calm (queueCell s g c) = calm s := by
  unfold queueCell
  simp only [calm_updGrp]

theorem calm_placeOam (s : Hw) (g kind : Nat) (place : Place) (body : Bytes) : calm (placeOam s g kind place body) = calm s := by
  unfold placeOam
  simp only [calm_ite, calm_queueCell, calm_updGrp, ite_self]

theorem calm_sendOam (s : Hw) (g kind : Nat) (body : Bytes) : calm (sendOam s g kind body) = calm s := by
  unfold sendOam
  simp only [calm_placeOam]

theorem calm_sendFour (s : Hw) (g kind mask : Nat) (body : Bytes) : calm (sendFour s g kind mask body) = calm s := by
  unfold sendFour
  simp only [calm_each, calm_placeOam, implies_true]

theorem calm_tellAbort (s : Hw) (g reason : Nat) : calm (tellAbort s g reason) = calm s := by
  unfold tellAbort
  simp only [calm_each, calm_flushOam, calm_ite, calm_sendOam, calm_sendTraining, ite_self, implies_true]

theorem calm_failGroup (s : Hw) (g reason : Nat) : calm (failGroup s g reason) = calm s := by
  unfold failGroup
  extract_lets a b c
  have ha : calm a = calm s := by simp only [calm_tellAbort, 
    a]
  have hb : calm b = calm a := by simp only [calm_count, calm_setFld, 
    b]
  have hc : calm c = calm b := by simp only [calm_raise, calm_toP1, 
    c]
  simp only [calm_ite, calm_random, calm_setFld, calm_updGrp, ite_self, hc, hb, ha]

theorem calm_reroute (s : Hw) (g : Nat) : calm (reroute s g) = calm s := by
  unfold reroute
  simp only [calm_brc, calm_cond, calm_count, calm_ite, calm_raise, calm_setFld, ite_self, implies_true]

theorem calm_loseGroup (s : Hw) (g cause : Nat) : calm (loseGroup s g cause) = calm s := by
  unfold loseGroup
  simp only [calm_cond, calm_failGroup, calm_ite, calm_raise, calm_reroute, calm_setFld, calm_toP1, ite_self, implies_true]

theorem calm_noteWants (s : Hw) (g : Nat) (ws : List MaskWant) : calm (noteWants s g ws) = calm s := by
  unfold noteWants
  simp only [calm_cond, calm_count, calm_foldl, calm_ite, calm_raise, calm_setFld, calm_updGrp, ite_self, implies_true]

theorem calm_queueRemap (s : Hw) (g frame q : Nat) : calm (queueRemap s g frame q) = calm s := by
  unfold queueRemap
  extract_lets x cur sheds joins all gen
  clear_value all
  split
  · rfl
  · split
    · rw [calm_updGrp]
    · simp only [calm_ite, calm_loseGroup, calm_noteWants, calm_sendFour, calm_updGrp, ite_self]

theorem calm_nextRemap (s : Hw) (g : Nat) : calm (nextRemap s g) = calm s := by
  unfold nextRemap
  simp only [calm_queueRemap]

theorem calm_askMask (s : Hw) (g : Nat) (ws : List MaskWant) : calm (askMask s g ws) = calm s := by
  unfold askMask
  simp only [calm_nextRemap, calm_updGrp]

theorem calm_declareFail (s : Hw) (g p cause : Nat) : calm (declareFail s g p cause) = calm s := by
  unfold declareFail
  simp only [calm_askMask, calm_ite, calm_loseGroup, calm_setFld, calm_updGrp, ite_self]

theorem calm_loseAlignment (p : Nat) (s : Hw) : calm (loseAlignment p s) = calm s := by
  unfold loseAlignment
  simp only [calm_ite, calm_raise, calm_setFld, calm_updPort, ite_self]

/-! ### Outputs, loops and front-end units -/

theorem calm_aouDown (s : Hw) : calm (aouDown s) = calm s := by
  unfold aouDown
  simp only [calm_coldRegs, calm_each, calm_zeroRegs, implies_true]

theorem calm_aouGate (s : Hw) (o code : Nat) : calm (aouGate s o code) = calm s := by
  unfold aouGate
  simp only [calm_ite, calm_setFlag, calm_setFld, calm_updOut, ite_self]

theorem calm_settleGate (u : Nat) (s : Hw) : calm (settleGate u s) = calm s := by
  unfold settleGate
  simp only [calm_aouGate, calm_ite, ite_self]

theorem calm_setFault (s : Hw) (u cause which : Nat) : calm (setFault s u cause which) = calm s := by
  unfold setFault
  simp only [calm_cond, calm_ite, calm_latchFault, calm_raise, calm_setFld, calm_settleGate, calm_updFes, ite_self, implies_true]

theorem calm_fesDown (s : Hw) : calm (fesDown s) = calm s := by
  unfold fesDown
  simp only [calm_coldRegs, calm_each, calm_fesq, calm_setFld, calm_updFes, implies_true]

theorem calm_brcDown (s : Hw) : calm (brcDown s) = calm s := by
  unfold brcDown
  simp only [calm_coldRegs, calm_each, implies_true]

theorem calm_endTest (s : Hw) (reason : Nat) : calm (endTest s reason) = calm s := by
  unfold endTest
  simp only [calm_cle, calm_ite, calm_raise, calm_setFld, ite_self]

theorem calm_cleDown (s : Hw) : calm (cleDown s) = calm s := by
  unfold cleDown
  simp only [calm_coldRegs, calm_each, calm_endTest, implies_true]

/-! ### Memory and tables -/

theorem calm_seqWritten (s : Hw) : calm (seqWritten s) = calm s := by
  unfold seqWritten
  simp only [calm_mcv]

theorem calm_putTable (s : Hw) (a : Nat) (v : Word) : calm (putTable s a v) = calm s := by
  unfold putTable
  simp only [calm_cond, calm_mem, calm_seqWritten, calm_setReg, implies_true]

theorem calm_wroteWhole (s : Hw) (w : Nat) : calm (wroteWhole s w) = calm s := by
  unfold wroteWhole
  simp only [calm_mem]

theorem calm_putWords (s : Hw) (a : Nat) (vs : List Nat) : calm (putWords s a vs) = calm s := by
  unfold putWords
  simp only [calm_each, calm_foldl_fst, calm_putTable, calm_wroteWhole, implies_true]

theorem calm_applyLoads (s : Hw) (l : Nat) : calm (applyLoads s l) = calm s := by
  unfold applyLoads
  simp only [calm_foldl, calm_putTable, calm_updLoop, implies_true]

theorem calm_changeMode (s : Hw) (l m : Nat) : calm (changeMode s l m) = calm s := by
  unfold changeMode
  simp only [calm_applyLoads, calm_cond, calm_endTest, calm_foldl, calm_ite, calm_setFld, calm_updLoop, ite_self, implies_true]

theorem calm_settleLoad (s : Hw) : calm (settleLoad s) = calm s := by
  unfold settleLoad
  simp only [calm_setFld]

theorem calm_loopOff (s : Hw) (l : Nat) : calm (loopOff s l) = calm s := by
  unfold loopOff
  simp only [calm_changeMode, calm_settleLoad]

theorem calm_setDeclared (s : Hw) (t : Nat) (v : Bool) : calm (setDeclared s t v) = calm s := by
  unfold setDeclared
  simp only [calm_ite, calm_mem, calm_setFlag, calm_setNum, ite_self]

theorem calm_setPoison (s : Hw) (key : Nat) (v : Bool) : calm (setPoison s key v) = calm s := by
  unfold setPoison
  simp only [calm_mem]

theorem calm_logError (s : Hw) (m bank off synd kind : Nat) : calm (logError s m bank off synd kind) = calm s := by
  unfold logError
  simp only [calm_mem]

theorem calm_enterRepair (s : Hw) (m bank row : Nat) : calm (enterRepair s m bank row) = calm s := by
  unfold enterRepair
  simp only [calm_ite, calm_nv, calm_raise, ite_self]

theorem calm_memPreInit (s : Hw) (t : Nat) : calm (memPreInit s t) = calm s := by
  unfold memPreInit
  simp only [calm_count, calm_mem]

theorem calm_memCorrected (s : Hw) (m bank off row synd : Nat) : calm (memCorrected s m bank off row synd) = calm s := by
  unfold memCorrected
  simp only [calm_cond, calm_count, calm_countSec, calm_enterRepair, calm_logError, calm_mem, calm_pmc, implies_true]

theorem calm_memUncorrectable (s : Hw) (m bank off row synd key : Nat) : calm (memUncorrectable s m bank off row synd key) = calm s := by
  unfold memUncorrectable
  simp only [calm_cond, calm_count, calm_enterRepair, calm_logError, calm_raise, calm_setPoison, implies_true]

theorem calm_tableLost (s : Hw) (t a : Nat) : calm (tableLost s t a) = calm s := by
  unfold tableLost
  simp only [calm_ite, calm_loopOff, calm_putWords, calm_setDeclared, calm_setFault, ite_self]

theorem calm_mappedError (s : Hw) (a synd : Nat) (u : Bool) : calm (mappedError s a synd u) = calm s := by
  unfold mappedError
  split <;> simp only [calm_ite, calm_memCorrected, calm_memPreInit, calm_memUncorrectable, calm_tableLost, ite_self]

/-! ### Packets of the fabric -/

theorem calm_reply (p : Packet) (st : Nat) (data : List Nat) (bad : Option Nat) (s : Hw) : calm (reply p st data bad s) = calm s := by
  unfold reply
  simp only [calm_cond, calm_fab, implies_true]

theorem calm_readWord (src a : Nat) (s : Hw) : calm (readWord src a s).2 = calm s := by
  unfold readWord
  rfl

theorem calm_readRange (src : Nat) (ups : List (Nat × Nat)) (l : List Nat) (s : Hw) (ws : List Nat) (bad : Option (Nat × Nat)) :
    calm (readRange src ups l s ws bad).1 = calm s := by
  induction l generalizing s ws bad with
  | nil => rfl
  | cons a t ih =>
    unfold readRange
    dsimp only
    rw [ih, calm_readWord]
    split <;> simp only [calm_mappedError]

theorem calm_holdMain (s : Hw) (n : Nat) : calm (holdMain s n) = calm s := by
  unfold holdMain
  simp only [calm_setFld]

theorem calm_clampFld (lo hi : Nat) (f : Fld) (s : Hw) : calm (clampFld lo hi f s) = calm s := by
  unfold clampFld
  simp only [calm_setFld]

theorem calm_clampWord (a : Nat) (s : Hw) : calm (clampWord a s) = calm s := by
  unfold clampWord
  simp only [calm_clampFld, calm_holdMain, calm_ite, ite_self]

theorem calm_writeWord (a v during : Nat) (s : Hw) : calm (writeWord a v during s) = calm s := by
  unfold writeWord
  split <;> simp only [calm_clampWord, calm_ite, calm_putTable, calm_setReg, ite_self]

theorem calm_writeWords (a during : Nat) (vs : List Nat) (s : Hw) : calm (writeWords a during vs s) = calm s := by
  unfold writeWords
  simp only [calm_each, calm_foldl_fst, calm_writeWord, calm_wroteWhole, implies_true]

theorem calm_atUnit (p : Packet) (s : Hw) : calm (atUnit p s) = calm s := by
  have hr := calm_readRange p.source p.ups ((List.range p.count).map (p.addr + ·)) s [] none
  unfold atUnit
  dsimp only
  generalize readRange p.source p.ups ((List.range p.count).map (p.addr + ·)) s [] none = q at hr ⊢
  split
  · exact (calm_reply ..).trans hr
  · rw [calm_reply, calm_writeWords]

theorem calm_atBoundary (p : Packet) (s : Hw) : calm (atBoundary p s) = calm s := by
  unfold atBoundary
  split <;> simp only [calm_access, calm_atUnit, calm_fab, calm_ite, calm_reply, calm_setDom, ite_self]

theorem calm_sendPacket (p : Packet) (s : Hw) : calm (sendPacket p s) = calm s := by
  unfold sendPacket
  simp only [calm_atBoundary, calm_fab, calm_ite, ite_self]

theorem calm_releaseHeld (s : Hw) : calm (releaseHeld s) = calm s := by
  unfold releaseHeld
  simp only [calm_fab, calm_foldl, calm_sendPacket, implies_true]

theorem calm_fencePackets (d : Nat) (s : Hw) : calm (fencePackets d s) = calm s := by
  unfold fencePackets
  simp only [calm_foldl, calm_releaseHeld, calm_reply, calm_setDom, implies_true]

theorem calm_setFence (d k : Nat) (v : Bool) (s : Hw) : calm (setFence d k v s) = calm s := by
  unfold setFence
  simp only [calm_cond, calm_fencePackets, calm_raise, calm_setFlag, calm_setFld, implies_true]

/-! ### Domains -/

theorem calm_abandonPage (s : Hw) : calm (abandonPage s) = calm s := by
  unfold abandonPage
  simp only [calm_ite, calm_nv_evr, ite_self]

theorem calm_giveBack (u : Undo) (s : Hw) : calm (giveBack u s) = calm s := by
  unfold giveBack
  simp only [calm_nv]

theorem calm_abandonCommits (s : Hw) : calm (abandonCommits s) = calm s := by
  unfold abandonCommits
  simp only [calm_foldr, calm_giveBack, calm_nv, calm_abandonPage, implies_true]

theorem calm_domainDown (d : Nat) (s : Hw) : calm (domainDown d s) = calm s := by
  unfold domainDown
  simp only [calm_abandonCommits, calm_abandonRetrain, calm_aouDown, calm_brcDown, calm_cleDown, calm_cond, calm_coreAt, calm_declareFail,
    calm_dropLock, calm_each, calm_fesDown, calm_ite, calm_loseAlignment, calm_loseGroup, calm_setFld, calm_toP0, calm_updGth, calm_updPort, ite_self,
    implies_true]

theorem calm_switchOff (d : Nat) (s : Hw) : calm (switchOff d s) = calm s := by
  unfold switchOff
  simp only [calm_breakLaps, calm_domainDown, calm_ite, calm_leaveAlarm, calm_setDom, calm_setFld, ite_self]

theorem calm_repower (d : Nat) (s : Hw) : calm (repower d s) = calm s := by
  unfold repower
  simp only [calm_setDom, calm_setFld]

end Sys2Proof.Machine

/-! ## Wakes, low power and resets: what they leave as it was -/

namespace Sys2Proof.Machine
open Reg

/-! ### Work on the power parts, the commands and the journal -/

theorem calm_updPwr {s : Hw} {f : Pwr → Pwr} (hz : ∀ x, (f x).sleep = x.sleep) (hr : ∀ x, (f x).resetting = x.resetting) :
    calm (updPwr s f) = calm s := by
  unfold calm updPwr
  dsimp only
  rw [hz, hr]

theorem calm_pwr {s : Hw} {p : Pwr} (hz : p.sleep = s.pwr.sleep) (hr : p.resetting = s.pwr.resetting) : calm { s with pwr := p } = calm s := by
  unfold calm
  rw [← hz, ← hr]

theorem core_updPwr {s : Hw} {f : Pwr → Pwr} (hr : ∀ x, (f x).resetting = x.resetting) : (calm (updPwr s f)).1 = (calm s).1 := by
  unfold calm updPwr
  dsimp only
  rw [hr]

theorem calm_cmd {s : Hw} {c : Cmd} (hs : c.sessions = s.cmd.sessions) (hr : c.running = s.cmd.running) :
    calm { s with cmd := c } = calm s := by
  unfold calm
  rw [← hs, ← hr]

theorem calm_cmd_nv {s t : Hw} {c : Cmd} (h : calm t = calm s) (n : Nv) (hs : c.sessions = s.cmd.sessions) (hr : c.running = s.cmd.running) :
    calm { t with cmd := c, nv := n } = calm s := by
  unfold calm at h ⊢
  simp only [Prod.mk.injEq] at h ⊢
  obtain ⟨⟨hp, hd, -, -, hw⟩, hz⟩ := h
  exact ⟨⟨hp, hd, hs, congrArg List.isEmpty hr, hw⟩, hz⟩

theorem calm_setOutcome (s : Hw) (hit : RunCmd → Bool) (st d : Nat) (pl : Bytes) : calm (setOutcome s hit st d pl) = calm s := by
  unfold calm setOutcome
  dsimp only
  rw [List.isEmpty_map]

theorem calm_closeEntry (s : Hw) (i st d : Nat) (b : Bool) : calm (closeEntry s i st d b) = calm s := by
  unfold closeEntry
  exact calm_cmd rfl rfl

theorem calm_addEntry (s : Hw) (e : JEntry) : calm (addEntry s e) = calm s := by
  unfold addEntry
  exact calm_cmd_nv (calm_pmc ..) _ rfl rfl

theorem calm_journalInternal (s : Hw) (opc : Nat) (p : Bytes) : calm (journalInternal s opc p) = calm s := by
  unfold journalInternal
  simp only [calm_addEntry, calm_closeEntry]

theorem calm_setTargets (s : Hw) (m k : Nat) : calm (setTargets s m k) = calm s := by
  unfold setTargets
  simp only [calm_each, calm_setFlag, calm_setFld, calm_updFes, implies_true]

theorem calm_internalTargets (s : Hw) (m k : Nat) : calm (internalTargets s m k) = calm s := by
  unfold internalTargets
  simp only [calm_ite, calm_journalInternal, calm_setTargets, ite_self]

theorem calm_failHeld (s : Hw) (u : Nat) : calm (failHeld s u) = calm s := by
  unfold failHeld
  simp only [calm_raise, calm_setFld, calm_updFes]

theorem calm_notLocked (u : Nat) (s : Hw) : calm (notLocked u s) = calm s := by
  unfold notLocked
  simp only [calm_failHeld, calm_setFld]

theorem calm_lowerTargets (s : Hw) : calm (lowerTargets s) = calm s := by
  unfold lowerTargets
  simp only [calm_each, calm_internalTargets, calm_notLocked, calm_updFes, calm_updPwr, implies_true]

theorem calm_restoreTargets (s : Hw) : calm (restoreTargets s) = calm s := by
  unfold restoreTargets
  simp only [calm_each, calm_internalTargets, calm_updPwr, implies_true]

theorem calm_setIdent (s : Hw) (f : Ident → Ident) : calm (setIdent s f) = calm s := by
  unfold setIdent
  simp only [calm_nv]

theorem calm_passed (s : Hw) (k : Nat) : calm (passed s k) = calm s := by
  unfold passed
  simp only [calm_nv]

theorem calm_enterRows (s : Hw) (l : List LehrRegion) : calm (enterRows s l) = calm s := by
  unfold enterRows
  simp only [calm_enterRepair, calm_foldl, implies_true]

theorem calm_storeLehr (s : Hw) (r : LehrRec) : calm (storeLehr s r) = calm s := by
  unfold storeLehr
  simp only [calm_setIdent]

theorem calm_keepLehr (s : Hw) (l : List LehrRegion) (r : LehrRec) : calm (keepLehr s l r) = calm s := by
  unfold keepLehr
  simp only [calm_enterRows, calm_storeLehr, calm_updPwr, implies_true]

theorem calm_lehrPlaus (s : Hw) (k : Nat) (b : Bool) : calm (lehrPlaus s k b) = calm s := by
  unfold lehrPlaus
  simp only [calm_cond, calm_setFld, implies_true]

/-! ### Wakes and queued accesses -/

theorem calm_deliverPackets (d : Nat) (s : Hw) : calm (deliverPackets d s) = calm s := by
  unfold deliverPackets
  simp only [calm_atUnit, calm_foldl, calm_releaseHeld, calm_setDom, implies_true]

theorem calm_deliverQueued (d : Nat) (s : Hw) : calm (deliverQueued d s) = calm s := by
  unfold deliverQueued
  simp only [calm_access, calm_cond, calm_deliverPackets, calm_ite, calm_setDom, ite_self, implies_true]

theorem calm_wakeDomains (s : Hw) (g k : Nat) : calm (wakeDomains s g k) = calm s := by
  unfold wakeDomains
  simp only [calm_each, calm_wake, implies_true]

theorem calm_actWake (s : Hw) (g k x : Nat) : calm (actWake s g k x) = calm s := by
  unfold actWake
  simp only [calm_raise, calm_setFld, calm_wakeDomains]

theorem calm_actPending (s : Hw) (g : Nat) : calm (actPending s g) = calm s := by
  have hk : calm { s.setFld (pendingFld g) 0 with pwr := { s.pwr with lineWakes := Map.put (0, 0) s.pwr.lineWakes g (0, 0) } } = calm s :=
    (calm_pwr (s := s.setFld (pendingFld g) 0) rfl rfl).trans (calm_setFld ..)
  unfold actPending
  split
  · exact (calm_actWake ..).trans hk
  · rfl

theorem calm_burstStart (g : Nat) (s : Hw) : calm (burstStart g s) = calm s := by
  unfold burstStart
  simp only [calm_ite, calm_updGrp, ite_self]

theorem calm_enterIfEnabled (s : Hw) (g : Nat) : calm (enterIfEnabled s g) = calm s := by
  unfold enterIfEnabled
  simp only [calm_burstStart, calm_ite, calm_toP1, ite_self]

theorem calm_wakesAct (s : Hw) : calm (wakesAct s) = calm s := by
  unfold wakesAct
  simp only [calm_actPending, calm_each, calm_enterIfEnabled, calm_ite, ite_self, implies_true]

theorem calm_lowWake (s : Hw) : calm (lowWake s) = calm s := by
  unfold lowWake
  simp only [calm_actPending, calm_each, calm_restoreTargets, calm_updPwr, calm_wake, implies_true]

theorem calm_lehrLeave (s : Hw) (x : LehrRun) : calm (lehrLeave s x) = calm s := by
  unfold lehrLeave
  simp only [calm_cond, calm_deliverQueued, calm_each, calm_lehrPlaus, calm_setFld, calm_switchOff, calm_updPwr, implies_true]

theorem calm_lehrAbort (k : Nat) (l : List LehrRegion) (s : Hw) : calm (lehrAbort k l s) = calm s := by
  unfold lehrAbort
  split
  · rfl
  · simp only [calm_keepLehr, calm_lehrLeave, calm_raise, calm_setFld, calm_setOutcome]

theorem calm_beginTest (s : Hw) : calm (beginTest s) = calm s := by
  unfold beginTest
  split
  · rfl
  · simp only [calm_cond, calm_each, calm_ite, calm_lehrPlaus, calm_setFld, calm_switchOff, calm_updPwr, calm_wake, ite_self, implies_true]

/-! ### Sleeps -/

theorem core_cond {s : Hw} {b : Bool} {f : Hw → Hw} (hf : (calm (f s)).1 = (calm s).1) : (calm (s.cond b f)).1 = (calm s).1 :=
  Hw.cond_same (fun t => (calm t).1) b s hf

/-- The end of a sleep: its command has its outcome, low power is told, and wakes from the line act. -/
theorem calm_sleepTold (s : Hw) (z : Sleep) : calm (wakesAct (if z.owner = 0 then setOutcome s isSleep stOK 0
    else if z.owner = 1 then
      let s := s.raise 0x0207 [0, (s.dtime - s.pwr.lowAt) / 1000]
      if s.pwr.lowPower then s else lowWake s
    else s)) = calm s := by
  simp only [calm_ite, calm_lowWake, calm_raise, calm_setOutcome, calm_wakesAct, ite_self]

theorem core_finishSleep (s : Hw) (z : Sleep) : (calm (finishSleep s z)).1 = (calm s).1 := by
  unfold finishSleep
  extract_lets l t u v w
  have ht : calm t = calm s :=
    calm_each fun d q => calm_cond fun q => (calm_cond fun _ => calm_setFence ..).trans (calm_switchOff d q)
  have hu : (calm u).1 = (calm s).1 := (core_updPwr fun _ => rfl).trans (congrArg Prod.fst ((calm_raise ..).trans ht))
  have hv : (calm v).1 = (calm s).1 := by
    simp only [calm_beginTest, calm_deliverQueued, calm_each, calm_ite, implies_true, ite_self, hu, v]
  exact (congrArg Prod.fst (calm_sleepTold v z)).trans hv

theorem core_askNext (n : Nat) (s : Hw) : (calm (askNext n s)).1 = (calm s).1 := by
  induction n generalizing s with
  | zero => rfl
  | succ n ih =>
    unfold askNext
    split
    · rfl
    · split
      · exact core_finishSleep ..
      · split
        · rw [calm_setFld]
        · split
          · rfl
          · exact (ih _).trans (core_updPwr fun _ => rfl)

theorem core_beginSleep (s : Hw) (m o k : Nat) (b : Bool) : (calm (beginSleep s m o k b)).1 = (calm s).1 := by
  unfold beginSleep
  exact (core_askNext ..).trans (core_updPwr fun _ => rfl)

theorem core_lowPowerRun (s : Hw) : (calm (lowPowerRun s)).1 = (calm s).1 := by
  unfold lowPowerRun
  rw [core_beginSleep, calm_lowerTargets, calm_each fun g t => calm_toP0 t g]

theorem core_lowPowerEnter (s : Hw) : (calm (lowPowerEnter s)).1 = (calm s).1 := by
  unfold lowPowerEnter
  extract_lets t u
  have ht : (calm t).1 = (calm s).1 := core_updPwr fun _ => rfl
  have hu : (calm u).1 = (calm s).1 := (core_updPwr fun _ => rfl).trans ht
  split
  · exact ht
  · split
    · split
      · exact hu
      · refine (core_lowPowerRun _).trans ?_
        rw [calm_lehrAbort]
        exact (core_updPwr fun _ => rfl).trans hu
    · split
      · exact hu
      · split
        · exact (core_updPwr fun _ => rfl).trans hu
        · exact (core_lowPowerRun u).trans hu

theorem core_wakeMarked (k : Nat) (s : Hw) : (calm (wakeMarked k s)).1 = (calm s).1 := by
  have hw : calm (s.each (awakeDomains s) fun d s => s.cond (s.domState d == 0) fun s => s.wake d k) = calm s := by
    simp only [calm_cond, calm_each, calm_wake, implies_true]
  unfold wakeMarked
  exact (core_cond (core_lowPowerEnter _)).trans (congrArg Prod.fst hw)

/-! ### Ends of resets -/

theorem calm_tellBus (s : Hw) : calm (tellBus s) = calm s := by
  unfold tellBus
  split
  · exact (calm_updPwr (fun _ => rfl) fun _ => rfl).trans (calm_raise ..)
  · rfl

theorem calm_noticeLost (s : Hw) (r i : Nat) : calm (noticeLost s r i) = calm s := by
  unfold noticeLost
  simp only [calm_raise, calm_setFld]

theorem calm_mapFrames (s : Hw) (f : TxFrame → Option TxFrame) : calm (mapFrames s f) = calm s := by
  unfold mapFrames
  simp only [calm_foldl, calm_updPort, implies_true]

theorem calm_dropInband (s : Hw) : calm (dropInband s) = calm s := by
  unfold dropInband
  split <;> simp only [calm_mapFrames]

theorem calm_startCommit (s : Hw) (i : Nat) (l : List (Nat × Bytes)) (u : Undo) : calm (startCommit s i l u) = calm s := by
  unfold startCommit
  split <;> simp only [calm_access, calm_cond, calm_nv, implies_true]

theorem calm_record (s : Hw) (op : OpSpec) (p : Bytes) (i st d : Nat) (u : Undo) : calm (record s op p i st d u) = calm s := by
  unfold record
  simp only [calm_closeEntry, calm_cond, calm_startCommit, implies_true]

theorem calm_notify (s : Hw) (r : Route) (i : Nat) (x : Reply) : calm (notify s r i x) = calm s := by
  unfold notify
  extract_lets y held full old t n c u
  split
  · split
    · rfl
    · have ht : calm t = calm s := calm_cond fun q => (calm_noticeLost ..).trans (calm_dropInband q)
      exact (calm_updPort ..).trans ((calm_cmd rfl rfl).trans ht)
  · dsimp only
    exact (calm_cond fun _ => calm_noticeLost ..).trans (calm_cmd rfl rfl)
  · dsimp only
    exact (calm_cond fun _ => calm_noticeLost ..).trans (calm_cmd rfl rfl)

theorem calm_recoverCmd (s : Hw) (r : RunCmd) : calm (recoverCmd s r) = calm s := by
  unfold recoverCmd
  generalize r.outcome.getD (stTIMEOUT, 0xFFFE, []) = q
  obtain ⟨st, det, pl⟩ := q
  dsimp only
  refine (calm_cond fun _ => calm_notify ..).trans ?_
  have hc : ∀ u : Pwr → Undo, calm (closeEntry (updPwr s fun x => { x with lehrUndo := u x }) r.index st det true) = calm s := fun u =>
    (calm_closeEntry ..).trans (calm_updPwr (fun _ => rfl) fun _ => rfl)
  split
  · exact (calm_record ..).trans (hc _)
  · exact hc _

theorem calm_bootVerify (s : Hw) : calm (bootVerify s).2 = calm s := by
  unfold bootVerify
  extract_lets a b ka t kb u
  split
  · exact calm_passed ..
  · split
    · rw [calm_raise, calm_setIdent, calm_passed, calm_raise]
    · rw [calm_raise, calm_raise]

end Sys2Proof.Machine

/-! ## The rows of the power domains (chapter 18) -/

namespace Sys2Proof.Machine
open Reg

/-! ### Domains that wake and fail (R527 to R530) -/

/-- A domain that is ready again, with what it counts. -/
def readied (h : Hw) (d : Nat) : Hw :=
  (((h.setFld (PWR_DOM_state d) 2).setFld (PWR_DOM_wake_us d) (min ((h.dtime - (h.dom d).wakeAt) / 1000) 65535)).setFlag
    (PWR_DOM_analog d) (analogAtOnce d))

theorem domainReady_wakes {h : Hw} {d : Nat} (hd : h.domState d = 1) : domainReady d h =
    let s := domainUp d (h.dom d).cause ((readied h d).setDom d
      { h.dom d with queued := 0, powerUps := (h.dom d).powerUps + 1, access := h.dtime })
    let s := s.cond (s.fenced d && s.fld (PWR_DOM_fence_by d) == 2) (setFence d 2 false)
    let s := (deliverPackets d s).cond ((h.dom d).cause != 6) fun s =>
      s.raiseOnce 0x0201 d [d, if (h.dom d).cause = 7 then 4 else (h.dom d).cause, (h.dtime - (h.dom d).wakeAt) / 1000]
    (wakesAct s).cond ((wakesAct s).pwr.sleep.any fun (z : Sleep) => z.toAsk.head? == some d) (askNext 22) := by
  unfold domainReady
  rw [if_neg (Classical.not_not.mpr hd)]
  dsimp only
  rw [Hw.setFlag_dtime, Hw.setFld_dtime, Hw.setFld_dtime]
  rfl

/-- A domain that failed, fenced and off. -/
def failedOff (h : Hw) (d k : Nat) : Hw :=
  let s := h.setDom d { h.dom d with fails := recentFails h d ++ [h.dtime] }
  switchOff d ((setFence d 2 true s).raise 0x0204 [d, k, (recentFails s d).length])

theorem failedOff_sleep (h : Hw) (d k : Nat) : (failedOff h d k).pwr.sleep = h.pwr.sleep := by
  unfold failedOff
  exact congrArg Prod.snd ((calm_switchOff ..).trans ((calm_raise ..).trans ((calm_setFence ..).trans (calm_setDom ..))))

theorem domainFailure_repowered {h : Hw} {d k : Nat} (hd : h.domState d = 2 ∨ (k = 0 ∧ h.domState d ≠ 0)) (hz : h.pwr.sleep = none)
    (hn : (recentFails (h.setDom d { h.dom d with fails := recentFails h d ++ [h.dtime] }) d).length < 3) :
    domainFailure d k h = repower d (failedOff h d k) := by
  have hg : ¬(h.domState d = 0 ∨ (k = 1 ∧ h.domState d ≠ 2)) := by omega
  have hs : (repower d (failedOff h d k)).pwr.sleep = none :=
    (congrArg Prod.snd (calm_repower d (failedOff h d k))).trans ((failedOff_sleep h d k).trans hz)
  unfold domainFailure
  rw [if_neg hg]
  dsimp only
  rw [if_neg (Nat.not_le.mpr hn)]
  split
  · rfl
  · next z hz' => exact absurd (hz'.symm.trans hs) (Option.some_ne_none z)

theorem domainFailure_off {h : Hw} {d k : Nat} (hd : h.domState d = 2 ∨ (k = 0 ∧ h.domState d ≠ 0)) (hz : h.pwr.sleep = none)
    (hn : 3 ≤ (recentFails (h.setDom d { h.dom d with fails := recentFails h d ++ [h.dtime] }) d).length) :
    domainFailure d k h = (failedOff h d k).setDom d { (failedOff h d k).dom d with queued := 0 } := by
  have hg : ¬(h.domState d = 0 ∨ (k = 1 ∧ h.domState d ≠ 2)) := by omega
  have hs : ((failedOff h d k).setDom d { (failedOff h d k).dom d with queued := 0 }).pwr.sleep = none :=
    (failedOff_sleep h d k).trans hz
  unfold domainFailure
  rw [if_neg hg]
  dsimp only
  rw [if_pos hn]
  split
  · rfl
  · next z hz' => exact absurd (hz'.symm.trans hs) (Option.some_ne_none z)

/-! ### Sleeps (R531 to R533) -/

theorem prepareAnswer_refuses {h : Hw} {d : Nat} {z : Sleep} (hz : h.pwr.sleep = some z) (hd : h.domState d = 3) (ha : z.toAsk.head? = some d)
    (hf : z.forced = false) (hr : refuses h d = true ∨ (h.dom d).queued ≠ 0) : prepareAnswer d h = refuseSleep d h := by
  have hr' : (refuses h d || (h.dom d).queued != 0) = true := by
    rw [Bool.or_eq_true, bne_iff_ne]
    exact hr
  unfold prepareAnswer
  rw [hz]
  dsimp only
  rw [if_neg (by rw [hd, ha]; simp), hf, hr']
  rfl

/-- A sleep with one domain more stopped, the first that was to be asked. -/
def stopped (z : Sleep) (d : Nat) : Sleep := { z with toAsk := z.toAsk.tail, stopped := d :: z.stopped }

theorem prepareAnswer_stops {h : Hw} {d : Nat} {z : Sleep} (hz : h.pwr.sleep = some z) (hd : h.domState d = 3) (ha : z.toAsk.head? = some d)
    (hf : z.forced = true ∨ (refuses h d = false ∧ (h.dom d).queued = 0)) : prepareAnswer d h =
      runLowDue (askNext 22 (updPwr (h.setFld (PWR_DOM_state d) 4) fun x => { x with sleep := some (stopped z d) })) := by
  have hg : (!z.forced && (refuses h d || (h.dom d).queued != 0)) = false := by
    rcases hf with hf | ⟨hr, hq⟩
    · rw [hf]
      rfl
    · rw [hr, hq]
      exact Bool.and_false _
  unfold prepareAnswer
  rw [hz]
  dsimp only
  rw [if_neg (by rw [hd, ha]; simp), hg]
  rfl

theorem refuseSleep_told {h : Hw} {d : Nat} {z : Sleep} (hz : h.pwr.sleep = some z) (ho : z.owner = 0) : refuseSleep d h =
    let s := h.each (z.stopped ++ (if h.domState d = 3 then [d] else [])) fun k s => deliverQueued k (s.setFld (PWR_DOM_state k) 2)
    let s := (updPwr s fun x => { x with sleep := none }).raise 0x0203 [d, z.mask, sumN (z.stopped.map fun k => 2 ^ k)]
    wakesAct (runLowDue (setOutcome s isSleep stREFUSED d)) := by
  unfold refuseSleep
  rw [hz]
  dsimp only
  rw [ho, if_neg (by decide)]

/-- The domains of a sleep, switched off. -/
def sleptOff (h : Hw) (z : Sleep) : Hw :=
  h.each (bitsOf 20 z.mask) fun d s => s.cond (s.domState d != 0) fun s =>
    (switchOff d s).cond (s.fenced d && s.fld (PWR_DOM_fence_by d) == 2) (setFence d 2 false)

theorem finishSleep_told {h : Hw} {z : Sleep} (ho : z.owner = 0) : finishSleep h z =
    wakesAct (setOutcome ((updPwr ((sleptOff h z).raise 0x0202 [z.mask]) fun x => { x with sleep := none }).each (bitsOf 20 z.mask)
      deliverQueued) isSleep stOK 0) := by
  unfold finishSleep
  dsimp only
  rw [if_neg (fun (hn : z.owner = 2 ∧ _) => absurd (ho.symm.trans hn.1) (by decide)), if_pos ho]
  rfl

theorem lowPowerIdle_sleeps {h : Hw} {d : Nat} (hl : h.pwr.lowPower = true) (hz : h.pwr.sleep = none) (hs : lowSet.contains d = true)
    (hr : h.ready d = true) (hb : (h.dom d).byAccess = true) (ha : (h.dom d).access + 10000000 ≤ h.dtime) :
    lowPowerIdle d h = beginSleep h (2 ^ d) 3 0 true := by
  unfold lowPowerIdle
  rw [hl, hz, hs, hr, hb, decide_eq_true ha]
  rfl

/-- Settles O56. -/
theorem powerDomainEvents : Obligations.PowerDomainEvents := by
  unfold Obligations.PowerDomainEvents
  refine ⟨fun d => ?_, fun d k => ?_, fun h d => ?_, fun d => ?_, fun d k => ?_, fun d k => ?_, fun d z => ?_, fun d z => ?_,
    fun h d z hz ho => refuseSleep_told hz ho, fun h z ho => finishSleep_told ho, fun d => ?_⟩
  · exact happens_intro (fun _ _ => rfl) fun h hp => rfl
  · exact happens_intro (fun _ _ => rfl) fun h hp => if_neg hp
  · rfl
  · exact happens_intro (fun _ _ => rfl) fun h hp => domainReady_wakes hp
  · exact happens_intro (fun _ _ => rfl) fun h hp => by
      obtain ⟨hd, hz, hn⟩ := hp
      exact domainFailure_repowered hd hz hn
  · exact happens_intro (fun _ _ => rfl) fun h hp => by
      obtain ⟨hd, hz, hn⟩ := hp
      exact domainFailure_off hd hz hn
  · exact happens_intro (fun _ _ => rfl) fun h hp => by
      obtain ⟨hz, hd, ha, hf, hr⟩ := hp
      exact prepareAnswer_refuses hz hd ha hf hr
  · exact happens_intro (fun _ _ => rfl) fun h hp => by
      obtain ⟨hz, hd, ha, hf⟩ := hp
      exact prepareAnswer_stops hz hd ha hf
  · exact happens_intro (fun _ _ => rfl) fun h hp => by
      obtain ⟨hl, hz, hs, hr, hb, ha⟩ := hp
      exact lowPowerIdle_sleeps hl hz hs hr hb ha

end Sys2Proof.Machine

/-! ## Resets: asked for, by the watchdog, and their ends (chapters 1 and 2) -/

namespace Sys2Proof.Machine
open Reg

/-! ### Resets asked for (R37, R40) -/

theorem cmisReset_warm {h : Hw} (ht : h.takesCommands = true) (hf : h.flag CMD_CFG_cmis_swreset = true) :
    cmisReset h = updPwr h fun x => { x with resetting := max x.resetting 4, resetAt := h.dtime } := by
  unfold cmisReset
  rw [ht, hf]
  rfl

theorem cmisReset_ignored {h : Hw} (ht : h.takesCommands = true) (hf : h.flag CMD_CFG_cmis_swreset = false) :
    cmisReset h = h.raise 0x0005 := by
  unfold cmisReset
  rw [ht, hf]
  rfl

/-! ### The watchdog (R42) -/

theorem keeps_abandonDomainReset (s : Hw) (d : Nat) (hd : d < 0x1000) : keeps [0x02] [.pwr] s (abandonDomainReset d s) := by
  have ha : (PWR_DOM_state d).addr / 65536 ∈ [0x02] := by
    change (0x023000 + d) / 65536 ∈ [0x02]
    simp only [List.mem_singleton]
    omega
  unfold abandonDomainReset
  split
  · exact (keeps_setFld [0x02] [.pwr] s _ _ ha).cond _ (keeps_access _ d hd)
  · exact keeps_refl ..

theorem abandonDomainReset_resetting (s : Hw) (d : Nat) : (abandonDomainReset d s).pwr.resetting = s.pwr.resetting := by
  have hc : calm (abandonDomainReset d s) = calm s := by
    unfold abandonDomainReset
    simp only [calm_ite, calm_cond, calm_access, calm_setFld, implies_true, ite_self]
  exact congrArg (fun x => x.1.2.2.2.2) hc

/-- A part in which every re-power of a domain is abandoned. -/
def abandoned (h : Hw) : Hw := h.each domains20 abandonDomainReset

theorem keeps_abandoned (h : Hw) : keeps [0x02] [.pwr] h (abandoned h) :=
  keeps_each domains20 (fun d hd s => keeps_abandonDomainReset s d (by have := List.mem_range.mp hd; omega)) h

theorem abandoned_resetting (h : Hw) : (abandoned h).pwr.resetting = h.pwr.resetting :=
  Hw.each_same (fun s => s.pwr.resetting) domains20 (fun d s => abandonDomainReset_resetting s d) h

theorem keeps_mgmt (s : Hw) (p : Phase) (c : Cmd) : keeps [] [.phase, .cmd] s { s with phase := p, cmd := c } := by
  refine ⟨fun _ _ => rfl, fun q hq => ?_, rfl⟩
  cases q with
  | phase => exact absurd (by decide) hq
  | cmd => exact absurd (by decide) hq
  | _ => rfl

/-- A part in a management reset, its cause told. -/
def mgmtTold (s : Hw) : Hw :=
  ({ s with phase := .mgmtReset, cmd := { s.cmd with running := cutRunning s.cmd.running } } : Hw).raise 0x0003
    [if s.pwr.resetting = 2 then 1 else 0]

/-- What a management reset that begins leaves as it was, and what it tells. -/
theorem mgmtBegin_shows (h : Hw) : keeps [0x02] [.phase, .cmd, .evr, .pwr] h (mgmtBegin h) ∧ (mgmtBegin h).phase = .mgmtReset ∧
    (mgmtBegin h).pwr.resetting = h.pwr.resetting ∧
    (mgmtBegin h).evr.bus = h.evr.bus ++ [⟨0x0003, [if h.pwr.resetting = 2 then 1 else 0], h.dtime⟩] := by
  have hk := keeps_abandoned h
  have he : (abandoned h).evr = h.evr := hk.2.1 .evr (by decide)
  have ht : (abandoned h).dtime = h.dtime := hk.2.1 .dtime (by decide)
  have hr := abandoned_resetting h
  have hm : mgmtBegin h = mgmtTold (abandoned h) := rfl
  generalize abandoned h = t at hk he ht hr hm
  rw [hm]
  refine ⟨?_, rfl, hr, ?_⟩
  · exact (keeps_trans (keeps_mono (List.Subset.refl _) (by decide) hk)
      (keeps_mono (List.nil_subset _) (by decide) (keeps_mgmt t _ _))).raise _ _ (by decide)
  · rw [← he, ← ht, ← hr]
    rfl

/-- The firings of the watchdog within the last 10 s. -/
def recentFires (h : Hw) : List Nat := h.cmd.fires.filter fun t => decide (h.dtime < t + 10 ^ 10)

/-- A part whose watchdog has fired, with the moment of its last switch of slots. -/
def bitten (h : Hw) (turned : Option Nat) : Hw :=
  { h.raise 0x0002 [h.nv.ident.active, (recentFires h ++ [h.dtime]).length] with
    cmd := { h.cmd with fires := recentFires h ++ [h.dtime], turnedAt := turned } }

theorem keeps_bitten (h : Hw) (turned : Option Nat) : keeps [0x02] [.phase, .cmd, .evr, .nv, .pwr] h (bitten h turned) :=
  keeps_trans (keeps_raise _ _ h _ _ (by decide)) (keeps_mono (List.nil_subset _) (by decide) (keeps_cmd _ _))

theorem bitten_bus (h : Hw) (turned : Option Nat) : (bitten h turned).evr.bus =
    h.evr.bus ++ [⟨0x0002, [h.nv.ident.active, (h.cmd.fires.filter fun t => decide (h.dtime < t + 10 ^ 10)).length + 1], h.dtime⟩] := by
  have hl : (recentFires h ++ [h.dtime]).length = (recentFires h).length + 1 := List.length_append ..
  unfold bitten
  rw [hl]
  rfl

/-- A part whose other slot is active. -/
def slotTurned (h : Hw) : Hw := setIdent h fun i => { i with active := otherSlot i.active, fallback := none }

theorem slotTurned_bus (h : Hw) : (slotTurned h).evr.bus = h.evr.bus := rfl

/-- A part that a firing of its watchdog resets, with an image to run. -/
def resetBegins (h : Hw) : Hw :=
  mgmtBegin (updPwr (updPwr h fun x => { x with toRecovery := x.toRecovery || !true }) fun x => { x with resetting := 2 })

theorem resetBegins_shows (h : Hw) : keeps [0x02] [.phase, .cmd, .evr, .pwr] h (resetBegins h) ∧ (resetBegins h).phase = .mgmtReset ∧
    (resetBegins h).pwr.resetting = 2 ∧ (resetBegins h).evr.bus = h.evr.bus ++ [⟨0x0003, [1], h.dtime⟩] := by
  obtain ⟨hk, hp, hr, hb⟩ := mgmtBegin_shows (updPwr (updPwr h fun x => { x with toRecovery := x.toRecovery || !true }) fun x =>
    { x with resetting := 2 })
  exact ⟨keeps_trans (keeps_mono (List.nil_subset _) (by decide) (keeps_pwr h _)) hk, hp, hr, hb⟩

/-- A firing of the watchdog resets a part that no warm reset and no start holds up. -/
theorem bites_resets {h : Hw} (hp : h.phase ≠ .starting) (hr : h.pwr.resetting ≠ 4) :
    (let s := updPwr h fun x => { x with toRecovery := x.toRecovery || !true }
      if s.pwr.resetting = 4 ∨ s.phase = .starting then s else mgmtBegin (updPwr s fun x => { x with resetting := 2 })) = resetBegins h :=
  if_neg fun hn => hn.elim hr hp

theorem watchdog_few {h : Hw} (hh : h.phase ≠ .held) (hp : h.phase ≠ .starting) (hr : h.pwr.resetting ≠ 4) (hf : (recentFires h).length ≤ 1) :
    watchdog h = resetBegins (bitten h h.cmd.turnedAt) := by
  unfold watchdog
  rw [if_neg hh]
  extract_lets fires n since s1 c s2
  have hn : since < 3 := by
    refine Nat.lt_of_le_of_lt (List.length_filter_le _ _) ?_
    rw [List.length_append, List.length_singleton]
    change (recentFires h).length + 1 < 3
    omega
  have hs : s2 = bitten h h.cmd.turnedAt := by
    have ht : (if since ≥ 3 then some s1.dtime else s1.cmd.turnedAt) = h.cmd.turnedAt := if_neg (Nat.not_le.mpr hn)
    simp only [s2, ht]
    rfl
  rw [if_pos hn, hs]
  exact bites_resets hp hr

theorem watchdog_third {h : Hw} (hh : h.phase ≠ .held) (hp : h.phase ≠ .starting) (hr : h.pwr.resetting ≠ 4) (ht : h.nv.ident.trial = false)
    (hu : h.cmd.turnedAt = none) (hf : (recentFires h).length = 2) : watchdog h =
      resetBegins (slotTurned (bitten h (some h.dtime))) := by
  unfold watchdog
  rw [if_neg hh]
  extract_lets fires n since s1 c s2
  have hn : 3 ≤ since := by
    have hall : (fires.filter fun t => h.cmd.turnedAt.all fun u => decide (u < t)) = fires := by
      rw [hu]
      exact List.filter_eq_self.mpr fun _ _ => rfl
    have hl : fires.length = 3 := by
      rw [List.length_append, List.length_singleton]
      change (recentFires h).length + 1 = 3
      omega
    exact Nat.le_of_eq ((congrArg List.length hall).trans hl).symm
  have hs : s2 = bitten h (some h.dtime) := by
    have ht : (if since ≥ 3 then some s1.dtime else s1.cmd.turnedAt) = some h.dtime := if_pos hn
    simp only [s2, ht]
    rfl
  have hb : (bitten h (some h.dtime)).nv.ident.trial = false := ht
  rw [if_neg (Nat.not_lt.mpr hn), hs, hb]
  exact bites_resets hp hr

/-! ### The ends of resets (R38, R39) -/

theorem core_coldCmd (h : Hw) : (calm (coldCmd h)).1 =
    (h.phase, h.dtime, [implicitSession h 0xFFF1, implicitSession h 0xFFF2], true, h.pwr.resetting) := by
  unfold coldCmd
  extract_lets c f s1 s2 s3
  have h3 : calm s3 = calm s2 := calm_coldRegs ..
  have hc : (calm s3).1 = (h.phase, h.dtime, [implicitSession h 0xFFF1, implicitSession h 0xFFF2], true, h.pwr.resetting) := by
    rw [h3]
    rfl
  split
  · exact (congrArg Prod.fst (calm_cmd rfl rfl)).trans hc
  · exact hc

/-- The phase of a part whose reset has ended. -/
def bootPhase (h : Hw) (runs : Bool) : Phase := if !runs then .recovery else if h.pwr.shut then .shut else .ready

theorem bootPhase_cases (h : Hw) (runs : Bool) : bootPhase h runs = .ready ∨ bootPhase h runs = .shut ∨ bootPhase h runs = .recovery := by
  unfold bootPhase
  cases runs with
  | false => exact .inr (.inr rfl)
  | true =>
    cases h.pwr.shut with
    | false => exact .inl rfl
    | true => exact .inr (.inl rfl)

theorem core_afterBoot (h : Hw) (runs : Bool) : (calm (afterBoot runs h)).1 = (bootPhase h runs, h.dtime, h.cmd.sessions, h.cmd.running.isEmpty, 0) :=
  rfl

/-- The image that a part boots from, and the part. -/
def booted (h : Hw) : Bool × Hw := if h.pwr.toRecovery then (false, h) else bootVerify h

theorem calm_booted (h : Hw) : calm (booted h).2 = calm h := by
  unfold booted
  split
  · rfl
  · exact calm_bootVerify h

theorem warmComplete_boots {h : Hw} (hp : h.phase = .warmReset) : warmComplete h =
    (afterBoot (booted h).1 (booted h).2).cond (booted h).1 (wakeMarked 7) := by
  unfold warmComplete
  rw [if_neg (Classical.not_not.mpr hp)]
  rfl

theorem core_booted (h : Hw) : (calm (afterBoot (booted h).1 (booted h).2)).1 =
    (bootPhase (booted h).2 (booted h).1, h.dtime, h.cmd.sessions, h.cmd.running.isEmpty, 0) := by
  have hb := calm_booted h
  generalize booted h = q at hb ⊢
  rw [core_afterBoot]
  unfold calm at hb
  simp only [Prod.mk.injEq] at hb ⊢
  obtain ⟨⟨-, hd, hs, hr, -⟩, -⟩ := hb
  exact ⟨trivial, hd, hs, hr, trivial⟩

theorem warmComplete_core {h : Hw} (hp : h.phase = .warmReset) : (calm (warmComplete h)).1 =
    (bootPhase (booted h).2 (booted h).1, h.dtime, h.cmd.sessions, h.cmd.running.isEmpty, 0) := by
  rw [warmComplete_boots hp]
  exact (core_cond (core_wakeMarked ..)).trans (core_booted h)

/-- A part in a management reset, with its commands ended. -/
def recovered (h : Hw) : Hw :=
  ((h.cmd.running.filter fun r => r.index != 0).foldl recoverCmd (coldCmd h)).setFlag CMD_INT_STATUS_watchdog (h.pwr.resetting == 2)

theorem core_recovered (h : Hw) : (calm (recovered h)).1 =
    (h.phase, h.dtime, [implicitSession h 0xFFF1, implicitSession h 0xFFF2], true, h.pwr.resetting) := by
  unfold recovered
  rw [calm_setFlag, calm_foldl fun t r => calm_recoverCmd t r, core_coldCmd]

theorem mgmtComplete_boots {h : Hw} (hp : h.phase = .mgmtReset) : mgmtComplete h =
    let t := tellBus (afterBoot (booted (recovered h)).1 (booted (recovered h)).2)
    if (booted (recovered h)).1 = true then t.cond ((recovered h).flag SEC_FW_recovery) (wakeMarked 4)
    else (updPwr t fun x => { x with sleep := none, lehr := none }).each (domains20.filter fun d => d ≠ 18 && d ≠ 19) switchOff := by
  have hb : ∀ s : Hw, (if s.pwr.toRecovery = true then (false, s) else bootVerify s) = booted s := fun _ => rfl
  unfold mgmtComplete
  rw [if_neg (Classical.not_not.mpr hp)]
  dsimp only
  rw [hb]
  rfl

theorem mgmtComplete_core {h : Hw} (hp : h.phase = .mgmtReset) : (calm (mgmtComplete h)).1 =
    (bootPhase (booted (recovered h)).2 (booted (recovered h)).1, h.dtime, [implicitSession h 0xFFF1, implicitSession h 0xFFF2], true, 0) := by
  have hc := core_recovered h
  have ht := (congrArg Prod.fst (calm_tellBus (afterBoot (booted (recovered h)).1 (booted (recovered h)).2))).trans (core_booted (recovered h))
  have hr : ((recovered h).dtime, (recovered h).cmd.sessions, (recovered h).cmd.running.isEmpty) =
      (h.dtime, [implicitSession h 0xFFF1, implicitSession h 0xFFF2], true) := congrArg (fun x => (x.2.1, x.2.2.1, x.2.2.2.1)) hc
  simp only [Prod.mk.injEq] at hr
  obtain ⟨hd, hs, hq⟩ := hr
  rw [hd, hs, hq] at ht
  rw [mgmtComplete_boots hp]
  dsimp only
  split
  · exact (core_cond (core_wakeMarked ..)).trans ht
  · rw [calm_each fun d s => calm_switchOff d s]
    exact (core_updPwr fun _ => rfl).trans ht

/-- Settles O16. -/
theorem resetsAsked : Obligations.ResetsAsked := by
  unfold Obligations.ResetsAsked
  refine ⟨?_, ?_, ?_, ?_, ?_, ?_, ?_, ?_⟩
  · exact runsOk_intro (fun _ _ _ => rfl) fun b c hp => ⟨_, _, rfl, rfl, rfl⟩
  · exact runsOk_intro (fun _ _ _ => rfl) fun b c hp => ⟨_, _, rfl, rfl, rfl⟩
  · exact happens_intro (fun _ _ => rfl) fun h hp => cmisReset_warm hp.1 hp.2
  · exact happens_intro (fun _ _ => rfl) fun h hp => cmisReset_ignored hp.1 hp.2
  · exact happens_live (fun _ _ => rfl) fun h hh hp => by
      obtain ⟨hs, hr, hf⟩ := hp
      rw [watchdog_few hh hs hr hf]
      obtain ⟨hk, hq, hz, hb⟩ := resetBegins_shows (bitten h h.cmd.turnedAt)
      refine ⟨keeps_trans (keeps_bitten h h.cmd.turnedAt) (keeps_mono (List.Subset.refl _) (by decide) hk), hq, hz, hk.2.1 .nv (by decide), ?_⟩
      rw [hb, bitten_bus, List.append_assoc]
      rfl
  · exact happens_live (fun _ _ => rfl) fun h hh hp => by
      obtain ⟨hs, hr, ht, hu, hf⟩ := hp
      rw [watchdog_third hh hs hr ht hu hf]
      obtain ⟨hk, hq, hz, hb⟩ := resetBegins_shows (slotTurned (bitten h (some h.dtime)))
      have hn : (resetBegins (slotTurned (bitten h (some h.dtime)))).nv = (slotTurned (bitten h (some h.dtime))).nv := hk.2.1 .nv (by decide)
      refine ⟨keeps_trans (keeps_bitten h _) (keeps_trans (keeps_mono (List.nil_subset _) (by decide) (keeps_nv _ _))
        (keeps_mono (List.Subset.refl _) (by decide) hk)), hq, hz, ?_, ?_⟩
      · rw [hn]
        rfl
      · rw [hb, slotTurned_bus, bitten_bus, List.append_assoc]
        have hl : (h.cmd.fires.filter fun t => decide (h.dtime < t + 10 ^ 10)).length + 1 = 3 := congrArg (· + 1) hf
        rw [hl]
        rfl
  · exact happens_intro (fun _ _ => rfl) fun h hp => by
      have hc := mgmtComplete_core hp
      generalize mgmtComplete h = u at hc ⊢
      unfold calm at hc
      simp only [Prod.mk.injEq] at hc
      obtain ⟨hq, hd, hs, hr, hz⟩ := hc
      refine ⟨?_, hz, List.isEmpty_iff.mp hr, ?_, hd⟩
      · rw [hq]
        exact bootPhase_cases ..
      · rw [hs]
        rfl
  · exact happens_intro (fun _ _ => rfl) fun h hp => by
      have hc := warmComplete_core hp
      generalize warmComplete h = u at hc ⊢
      unfold calm at hc
      simp only [Prod.mk.injEq] at hc
      obtain ⟨hq, hd, -, -, hz⟩ := hc
      refine ⟨?_, hz, hd⟩
      rw [hq]
      exact bootPhase_cases ..

end Sys2Proof.Machine

namespace Sys2Proof.Machine
open Reg

/-!
MSPI's queue. What waits on MSPI leaves in the read frames alone: every function that `settle` runs leaves `cmd.mspiQ` as it is,
up to the replies and notices that commands add to it and to the warm reset, which empties it. The lemmas below say so of one
function of the model each, in the model's own order (R70 to R72, R36); `mem_mspiQ_settle` sums them up.
-/

/-! ### Updates, conditions, folds and results -/

theorem mspiQ_ite {c : Prop} [Decidable c] (s t : Hw) :
    (if c then s else t).cmd.mspiQ = if c then s.cmd.mspiQ else t.cmd.mspiQ := apply_ite (fun u : Hw => u.cmd.mspiQ) c s t

theorem mspiQ_cond {s : Hw} {b : Bool} {f : Hw → Hw} (hf : ∀ t, (f t).cmd.mspiQ = t.cmd.mspiQ) :
    (s.cond b f).cmd.mspiQ = s.cmd.mspiQ :=
  Hw.cond_same (fun u => u.cmd.mspiQ) b s (hf s)

theorem mspiQ_each {s : Hw} {l : List Nat} {f : Nat → Hw → Hw} (hf : ∀ k t, (f k t).cmd.mspiQ = t.cmd.mspiQ) :
    (s.each l f).cmd.mspiQ = s.cmd.mspiQ :=
  Hw.each_same (fun u => u.cmd.mspiQ) l hf s

/-- For an `f` written out: the equation keeps the kernel from unfolding what `f` answers. -/
theorem mspiQ_cond_eq {s : Hw} {b : Bool} {f : Hw → Hw} (hf : ∀ t u, f t = u → u.cmd.mspiQ = t.cmd.mspiQ) :
    (s.cond b f).cmd.mspiQ = s.cmd.mspiQ :=
  mspiQ_cond fun t => hf t _ rfl

/-- For an `f` written out, as `mspiQ_cond_eq`. -/
theorem mspiQ_each_eq {s : Hw} {l : List Nat} {f : Nat → Hw → Hw} (hf : ∀ k t u, f k t = u → u.cmd.mspiQ = t.cmd.mspiQ) :
    (s.each l f).cmd.mspiQ = s.cmd.mspiQ :=
  mspiQ_each fun k t => hf k t _ rfl

theorem mspiQ_foldl {α : Type} {l : List α} {f : Hw → α → Hw} (hf : ∀ t x, (f t x).cmd.mspiQ = t.cmd.mspiQ) (s : Hw) :
    (l.foldl f s).cmd.mspiQ = s.cmd.mspiQ := by
  induction l generalizing s with
  | nil => rfl
  | cons x xs ih => exact (ih _).trans (hf s x)

theorem mspiQ_foldl_fst {α β : Type} {l : List α} {f : Hw × β → α → Hw × β}
    (hf : ∀ t x, (f t x).1.cmd.mspiQ = t.1.cmd.mspiQ) (s : Hw × β) : (l.foldl f s).1.cmd.mspiQ = s.1.cmd.mspiQ := by
  induction l generalizing s with
  | nil => rfl
  | cons x xs ih => exact (ih _).trans (hf s x)

theorem mspiQ_foldl_snd {α β : Type} {l : List α} {f : β × Hw → α → β × Hw}
    (hf : ∀ t x, (f t x).2.cmd.mspiQ = t.2.cmd.mspiQ) (s : β × Hw) : (l.foldl f s).2.cmd.mspiQ = s.2.cmd.mspiQ := by
  induction l generalizing s with
  | nil => rfl
  | cons x xs ih => exact (ih _).trans (hf s x)

theorem mspiQ_foldr {α : Type} {l : List α} {f : α → Hw → Hw} (hf : ∀ x t, (f x t).cmd.mspiQ = t.cmd.mspiQ) (s : Hw) :
    (l.foldr f s).cmd.mspiQ = s.cmd.mspiQ := by
  induction l with
  | nil => rfl
  | cons x xs ih => exact (hf x _).trans ih

theorem mspiQ_res_ite {c : Prop} [Decidable c] (a b : Res) :
    (if c then a else b).state.cmd.mspiQ = if c then a.state.cmd.mspiQ else b.state.cmd.mspiQ :=
  apply_ite (fun r : Res => r.state.cmd.mspiQ) c a b

/-- Not by `rfl` itself: `simp` would then rewrite by definitional equality, and the kernel unfold the state to check it. -/
theorem mspiQ_done (st det : Nat) (pl : Bytes) (s : Hw) : (Res.done st det pl s).state.cmd.mspiQ = s.cmd.mspiQ :=
  congrArg (fun t : Hw => t.cmd.mspiQ) rfl

/-- As `mspiQ_done`. -/
theorem mspiQ_wait (w : Wait) (s : Hw) : (Res.wait w s).state.cmd.mspiQ = s.cmd.mspiQ :=
  congrArg (fun t : Hw => t.cmd.mspiQ) rfl

theorem mspiQ_ok (s : Hw) (pl : Bytes) : (Res.ok s pl).state.cmd.mspiQ = s.cmd.mspiQ := mspiQ_done ..

theorem mspiQ_refuse (st det : Nat) (s : Hw) : (Res.refuse st det s).state.cmd.mspiQ = s.cmd.mspiQ := mspiQ_done ..

theorem OpSpec.fix_body (h : OpHead) (cs : List Chk) (f : Hw → Call → Res) : (OpSpec.fix h cs f).body = f := rfl

theorem OpSpec.list_body (h : OpHead) (cs : List Chk) (no pos k lo hi size : Nat) (f : Hw → Call → Res) :
    (OpSpec.list h cs no pos k lo hi size f).body = f := rfl

/-! ### The accessors of the state -/

theorem Hw.setReg_mspiQ (s : Hw) (a : Nat) (v : Word) : (s.setReg a v).cmd.mspiQ = s.cmd.mspiQ :=
  congrArg Cmd.mspiQ (Hw.setReg_cmd ..)

theorem Hw.setNum_mspiQ (s : Hw) (a n : Nat) : (s.setNum a n).cmd.mspiQ = s.cmd.mspiQ :=
  congrArg Cmd.mspiQ (Hw.setNum_cmd ..)

theorem Hw.setFld_mspiQ (s : Hw) (f : Fld) (v : Nat) : (s.setFld f v).cmd.mspiQ = s.cmd.mspiQ :=
  congrArg Cmd.mspiQ (Hw.setFld_cmd ..)

theorem Hw.setFldS_mspiQ (s : Hw) (f : Fld) (v : Int) : (s.setFldS f v).cmd.mspiQ = s.cmd.mspiQ :=
  congrArg Cmd.mspiQ (Hw.setFldS_cmd ..)

theorem Hw.setFlag_mspiQ (s : Hw) (f : Fld) (b : Bool) : (s.setFlag f b).cmd.mspiQ = s.cmd.mspiQ :=
  congrArg Cmd.mspiQ (Hw.setFlag_cmd ..)

theorem Hw.setNum64_mspiQ (s : Hw) (a n : Nat) : (s.setNum64 a n).cmd.mspiQ = s.cmd.mspiQ :=
  congrArg Cmd.mspiQ (Hw.setNum64_cmd ..)

theorem Hw.count_mspiQ (s : Hw) (a k : Nat) : (s.count a k).cmd.mspiQ = s.cmd.mspiQ :=
  congrArg Cmd.mspiQ (Hw.count_cmd ..)

theorem Hw.count64_mspiQ (s : Hw) (a k : Nat) : (s.count64 a k).cmd.mspiQ = s.cmd.mspiQ := by
  simp only [Hw.count64, Hw.setNum64_mspiQ]

theorem Hw.wrapCount_mspiQ (s : Hw) (a k : Nat) : (s.wrapCount a k).cmd.mspiQ = s.cmd.mspiQ := by
  simp only [Hw.wrapCount, Hw.setNum_mspiQ]

theorem Hw.countFld_mspiQ (s : Hw) (f : Fld) (k : Nat) : (s.countFld f k).cmd.mspiQ = s.cmd.mspiQ :=
  congrArg Cmd.mspiQ (Hw.countFld_cmd ..)

theorem Hw.coldRegs_mspiQ (s : Hw) (as : List Nat) : (s.coldRegs as).cmd.mspiQ = s.cmd.mspiQ := by
  simp only [Hw.coldRegs, Hw.setReg_mspiQ, mspiQ_foldl, implies_true]

theorem Hw.zeroRegs_mspiQ (s : Hw) (as : List Nat) : (s.zeroRegs as).cmd.mspiQ = s.cmd.mspiQ := by
  simp only [Hw.zeroRegs, Hw.setReg_mspiQ, mspiQ_foldl, implies_true]

theorem Hw.emit_mspiQ (s : Hw) (o : Out) : (s.emit o).cmd.mspiQ = s.cmd.mspiQ :=
  congrArg Cmd.mspiQ (Hw.emit_cmd ..)

theorem Hw.free_mspiQ (s : Hw) : s.free.2.cmd.mspiQ = s.cmd.mspiQ :=
  congrArg Cmd.mspiQ (Hw.free_cmd s)

theorem Hw.random_mspiQ (s : Hw) : s.random.2.cmd.mspiQ = s.cmd.mspiQ := by
  unfold Hw.random
  rfl

theorem Hw.raise_mspiQ (s : Hw) (code : Nat) (params : List Nat) : (s.raise code params).cmd.mspiQ = s.cmd.mspiQ :=
  congrArg Cmd.mspiQ (Hw.raise_cmd ..)

theorem Hw.raiseCount_mspiQ (s : Hw) (e : Nat × Nat × Nat × Nat × Nat) : (s.raiseCount e).cmd.mspiQ = s.cmd.mspiQ := by
  simp only [Hw.raiseCount, Hw.raise_mspiQ]

theorem Hw.countSec_mspiQ (s : Hw) (code key k first most : Nat) (last : Bool) :
    (s.countSec code key k first most last).cmd.mspiQ = s.cmd.mspiQ := by
  simp only [Hw.countSec, mspiQ_cond, implies_true, Hw.raiseCount_mspiQ]

theorem pmcOne_mspiQ (ev k n : Nat) (s : Hw) : (pmcOne ev k n s).cmd.mspiQ = s.cmd.mspiQ := by
  simp only [pmcOne, mspiQ_cond, implies_true, Hw.raise_mspiQ, Hw.setNum64_mspiQ, mspiQ_ite, ite_self]

theorem Hw.pmc_mspiQ (s : Hw) (ev k : Nat) : (s.pmc ev k).cmd.mspiQ = s.cmd.mspiQ := by
  simp only [Hw.pmc, mspiQ_each, implies_true, mspiQ_ite, ite_self, pmcOne_mspiQ]

theorem Hw.setDom_mspiQ (s : Hw) (d : Nat) (x : Domain) : (s.setDom d x).cmd.mspiQ = s.cmd.mspiQ :=
  congrArg Cmd.mspiQ (Hw.setDom_cmd ..)

theorem Hw.wake_mspiQ (s : Hw) (d cause : Nat) : (s.wake d cause).cmd.mspiQ = s.cmd.mspiQ := by
  simp only [Hw.wake, Hw.countFld_mspiQ, Hw.setDom_mspiQ, Hw.setFld_mspiQ, mspiQ_ite, ite_self]

theorem Hw.access_mspiQ (s : Hw) (d : Nat) : (s.access d).cmd.mspiQ = s.cmd.mspiQ := by
  simp only [Hw.access, Hw.setDom_mspiQ, Hw.wake_mspiQ]

theorem Hw.latchLol_mspiQ (s : Hw) (n : Nat) : (s.latchLol n).cmd.mspiQ = s.cmd.mspiQ := by
  unfold Hw.latchLol
  rfl

theorem Hw.latchFault_mspiQ (s : Hw) (n : Nat) : (s.latchFault n).cmd.mspiQ = s.cmd.mspiQ := by
  unfold Hw.latchFault
  rfl

theorem settleInt_mspiQ (s : Hw) : (settleInt s).cmd.mspiQ = s.cmd.mspiQ :=
  congrArg Cmd.mspiQ (settleInt_cmd ..)

/-! ### Replies, the journal and the sessions -/

theorem updSession_mspiQ (s : Hw) (n : Nat) (f : Session → Session) : (updSession s n f).cmd.mspiQ = s.cmd.mspiQ := by
  unfold updSession
  rfl

theorem updPort_mspiQ (s : Hw) (p : Nat) (f : Port → Port) : (updPort s p f).cmd.mspiQ = s.cmd.mspiQ :=
  congrArg Cmd.mspiQ (updPort_cmd ..)

theorem sendInband_mspiQ (s : Hw) (p dst : Nat) (vlan : Option Nat) (packet tag : Bytes) :
    (sendInband s p dst vlan packet tag).cmd.mspiQ = s.cmd.mspiQ := by
  simp only [sendInband, updPort_mspiQ]

theorem sendCdb_mspiQ (s : Hw) (r : Reply) : (sendCdb s r).cmd.mspiQ = s.cmd.mspiQ := by
  simp only [sendCdb, Hw.emit_mspiQ]

theorem mapFrames_mspiQ (s : Hw) (f : TxFrame → Option TxFrame) : (mapFrames s f).cmd.mspiQ = s.cmd.mspiQ := by
  simp only [mapFrames, mspiQ_foldl, implies_true, updPort_mspiQ]

theorem dropInband_mspiQ (s : Hw) : (dropInband s).cmd.mspiQ = s.cmd.mspiQ := by
  unfold dropInband
  dsimp only
  split <;> simp only [mapFrames_mspiQ]

theorem noticeLost_mspiQ (s : Hw) (route index : Nat) : (noticeLost s route index).cmd.mspiQ = s.cmd.mspiQ := by
  simp only [noticeLost, Hw.raise_mspiQ, Hw.setFld_mspiQ]

theorem keepReply_mspiQ (s : Hw) (opc : Nat) (rq : Request) (r : Reply) : (keepReply s opc rq r).cmd.mspiQ = s.cmd.mspiQ := by
  simp only [keepReply, mspiQ_ite, ite_self, updSession_mspiQ]

theorem tellAuth_mspiQ (s : Hw) (route : Route) (sess status detail : Nat) :
    (tellAuth s route sess status detail).cmd.mspiQ = s.cmd.mspiQ := by
  simp only [tellAuth, mspiQ_cond, implies_true, Hw.raise_mspiQ, Hw.setFld_mspiQ]

theorem addEntry_mspiQ (s : Hw) (e : JEntry) : (addEntry s e).cmd.mspiQ = s.cmd.mspiQ := by
  unfold addEntry
  rfl

theorem closeEntry_mspiQ (s : Hw) (index status detail : Nat) (afterReset : Bool) :
    (closeEntry s index status detail afterReset).cmd.mspiQ = s.cmd.mspiQ := by
  unfold closeEntry
  rfl

theorem startCommit_mspiQ (s : Hw) (index : Nat) (objs : List (Nat × Bytes)) (undo : Undo) :
    (startCommit s index objs undo).cmd.mspiQ = s.cmd.mspiQ := by
  unfold startCommit
  dsimp only
  split <;> simp only [Hw.access_mspiQ, mspiQ_cond, implies_true]

theorem record_mspiQ (s : Hw) (op : OpSpec) (p : Bytes) (index status detail : Nat) (undo : Undo) :
    (record s op p index status detail undo).cmd.mspiQ = s.cmd.mspiQ := by
  simp only [record, mspiQ_cond, implies_true, closeEntry_mspiQ, startCommit_mspiQ]

theorem setOutcome_mspiQ (s : Hw) (hit : RunCmd → Bool) (status detail : Nat) (payload : Bytes) :
    (setOutcome s hit status detail payload).cmd.mspiQ = s.cmd.mspiQ := by
  unfold setOutcome
  rfl

/-! ### Memory errors -/

theorem setDeclared_mspiQ (s : Hw) (t : Nat) (v : Bool) : (setDeclared s t v).cmd.mspiQ = s.cmd.mspiQ := by
  simp only [setDeclared, Hw.setFlag_mspiQ, Hw.setNum_mspiQ, mspiQ_ite, ite_self]

theorem seqWritten_mspiQ (s : Hw) : (seqWritten s).cmd.mspiQ = s.cmd.mspiQ := by
  unfold seqWritten
  rfl

theorem putTable_mspiQ (s : Hw) (a : Nat) (v : Word) : (putTable s a v).cmd.mspiQ = s.cmd.mspiQ := by
  simp only [putTable, mspiQ_cond, implies_true, Hw.setReg_mspiQ, seqWritten_mspiQ]

theorem wroteWhole_mspiQ (s : Hw) (w : Nat) : (wroteWhole s w).cmd.mspiQ = s.cmd.mspiQ := by
  unfold wroteWhole
  rfl

theorem putWords_mspiQ (s : Hw) (a : Nat) (vs : List Nat) : (putWords s a vs).cmd.mspiQ = s.cmd.mspiQ :=
  (mspiQ_each fun _ _ => wroteWhole_mspiQ ..).trans (mspiQ_foldl_fst (fun _ _ => putTable_mspiQ ..) _)

theorem declareWhole_mspiQ (s : Hw) (t : Nat) : (declareWhole s t).cmd.mspiQ = s.cmd.mspiQ := by
  simp only [declareWhole, Hw.raise_mspiQ, setDeclared_mspiQ]

theorem logError_mspiQ (s : Hw) (m bank off synd kind : Nat) : (logError s m bank off synd kind).cmd.mspiQ = s.cmd.mspiQ := by
  unfold logError
  rfl

theorem setPoison_mspiQ (s : Hw) (key : Nat) (v : Bool) : (setPoison s key v).cmd.mspiQ = s.cmd.mspiQ := by
  unfold setPoison
  rfl

theorem clearPoison_mspiQ (s : Hw) (m : Nat) : (clearPoison s m).cmd.mspiQ = s.cmd.mspiQ := by
  unfold clearPoison
  rfl

theorem enterRepair_mspiQ (s : Hw) (m bank row : Nat) : (enterRepair s m bank row).cmd.mspiQ = s.cmd.mspiQ := by
  simp only [enterRepair, Hw.raise_mspiQ, mspiQ_ite, ite_self]

theorem memCorrected_mspiQ (s : Hw) (m bank off row synd : Nat) :
    (memCorrected s m bank off row synd).cmd.mspiQ = s.cmd.mspiQ := by
  simp only [memCorrected, mspiQ_cond, implies_true, Hw.count_mspiQ, Hw.countSec_mspiQ, Hw.pmc_mspiQ, enterRepair_mspiQ,
    logError_mspiQ]

theorem memUncorrectable_mspiQ (s : Hw) (m bank off row synd key : Nat) :
    (memUncorrectable s m bank off row synd key).cmd.mspiQ = s.cmd.mspiQ := by
  simp only [memUncorrectable, mspiQ_cond, implies_true, Hw.count_mspiQ, Hw.raise_mspiQ, enterRepair_mspiQ, logError_mspiQ,
    setPoison_mspiQ]

theorem memPreInit_mspiQ (s : Hw) (t : Nat) : (memPreInit s t).cmd.mspiQ = s.cmd.mspiQ := by
  simp only [memPreInit, Hw.count_mspiQ]

theorem breakLaps_mspiQ (s : Hw) (d : Nat) : (breakLaps s d).cmd.mspiQ = s.cmd.mspiQ := by
  simp only [breakLaps, mspiQ_each, implies_true]

theorem fillTable_mspiQ (s : Hw) (t pat : Nat) : (fillTable s t pat).cmd.mspiQ = s.cmd.mspiQ := by
  simp only [fillTable, mspiQ_ite, ite_self, putWords_mspiQ]

theorem opMemTableFill_mspiQ (s : Hw) (c : Call) : (opMemTableFill.body s c).state.cmd.mspiQ = s.cmd.mspiQ := by
  simp only [opMemTableFill, OpSpec.fix_body]
  split <;> simp only [mspiQ_res_ite, mspiQ_refuse, mspiQ_ok, mspiQ_ite, Hw.raise_mspiQ, setDeclared_mspiQ, Hw.setFld_mspiQ,
    clearPoison_mspiQ, fillTable_mspiQ, ite_self]

theorem opMemTableDeclare_mspiQ (s : Hw) (c : Call) : (opMemTableDeclare.body s c).state.cmd.mspiQ = s.cmd.mspiQ := by
  simp only [opMemTableDeclare, mspiQ_res_ite, mspiQ_ok, mspiQ_refuse, ite_self, OpSpec.fix_body, Hw.raise_mspiQ,
    setDeclared_mspiQ]

theorem applyMemConfig_mspiQ (p : Bytes) (s : Hw) : (applyMemConfig p s).cmd.mspiQ = s.cmd.mspiQ := by
  simp only [applyMemConfig, mspiQ_each, implies_true, Hw.setFld_mspiQ]

theorem opMemConfig_mspiQ (s : Hw) (c : Call) : (opMemConfig.body s c).state.cmd.mspiQ = s.cmd.mspiQ := by
  simp only [opMemConfig, mspiQ_ok, OpSpec.fix_body, applyMemConfig_mspiQ]

theorem opMemStatusRead_mspiQ (s : Hw) (c : Call) : (opMemStatusRead.body s c).state.cmd.mspiQ = s.cmd.mspiQ := by
  simp only [opMemStatusRead, mspiQ_ok, OpSpec.fix_body, mspiQ_cond, implies_true, Hw.zeroRegs_mspiQ]

theorem opMemLogRead_mspiQ (s : Hw) (c : Call) : (opMemLogRead.body s c).state.cmd.mspiQ = s.cmd.mspiQ := by
  simp only [opMemLogRead, mspiQ_ok, OpSpec.fix_body]

theorem opMemRepairRead_mspiQ (s : Hw) (c : Call) : (opMemRepairRead.body s c).state.cmd.mspiQ = s.cmd.mspiQ := by
  simp only [opMemRepairRead, mspiQ_ok, OpSpec.fix_body]

/-! ### The output unit -/

theorem Hw.updOut_mspiQ (s : Hw) (o : Nat) (f : AouOut → AouOut) : (s.updOut o f).cmd.mspiQ = s.cmd.mspiQ :=
  congrArg Cmd.mspiQ (Hw.updOut_cmd ..)

theorem aouWrite_mspiQ (s : Hw) (o code writer : Nat) : (aouWrite s o code writer).cmd.mspiQ = s.cmd.mspiQ := by
  simp only [aouWrite, Hw.setFld_mspiQ, Hw.updOut_mspiQ, mspiQ_ite, ite_self]

theorem aouSafe_mspiQ (s : Hw) (o writer : Nat) : (aouSafe s o writer).cmd.mspiQ = s.cmd.mspiQ := by
  simp only [aouSafe, Hw.setFld_mspiQ, aouWrite_mspiQ, mspiQ_ite, ite_self]

theorem aouGate_mspiQ (s : Hw) (o code : Nat) : (aouGate s o code).cmd.mspiQ = s.cmd.mspiQ := by
  simp only [aouGate, Hw.setFlag_mspiQ, Hw.setFld_mspiQ, Hw.updOut_mspiQ, mspiQ_ite, ite_self]

theorem opAouWrite_mspiQ (s : Hw) (c : Call) : (opAouWrite.body s c).state.cmd.mspiQ = s.cmd.mspiQ := by
  simp only [opAouWrite, OpSpec.list_body]
  split <;> simp only [mspiQ_refuse, mspiQ_ok, mspiQ_each, aouWrite_mspiQ, implies_true]

theorem applyAouRange_mspiQ (p : Bytes) (s : Hw) : (applyAouRange p s).cmd.mspiQ = s.cmd.mspiQ := by
  simp only [applyAouRange, Hw.setFld_mspiQ]

theorem opAouRangeSet_mspiQ (s : Hw) (c : Call) : (opAouRangeSet.body s c).state.cmd.mspiQ = s.cmd.mspiQ := by
  simp only [opAouRangeSet, mspiQ_res_ite, mspiQ_wait, mspiQ_refuse, ite_self, OpSpec.fix_body, Hw.updOut_mspiQ]

theorem applyAouSafe_mspiQ (p : Bytes) (s : Hw) : (applyAouSafe p s).cmd.mspiQ = s.cmd.mspiQ := by
  simp only [applyAouSafe, Hw.setFld_mspiQ, Hw.updOut_mspiQ, mspiQ_ite, ite_self]

theorem opAouSafeSet_mspiQ (s : Hw) (c : Call) : (opAouSafeSet.body s c).state.cmd.mspiQ = s.cmd.mspiQ := by
  simp only [opAouSafeSet, mspiQ_ok, OpSpec.fix_body, applyAouSafe_mspiQ]

theorem opAouDitherSet_mspiQ (s : Hw) (c : Call) : (opAouDitherSet.body s c).state.cmd.mspiQ = s.cmd.mspiQ := by
  simp only [opAouDitherSet, mspiQ_res_ite, mspiQ_ok, mspiQ_refuse, ite_self, OpSpec.fix_body, Hw.setFld_mspiQ]

theorem opAouGenSet_mspiQ (s : Hw) (c : Call) : (opAouGenSet.body s c).state.cmd.mspiQ = s.cmd.mspiQ := by
  simp only [opAouGenSet, mspiQ_res_ite, mspiQ_ok, mspiQ_refuse, ite_self, OpSpec.fix_body]

theorem loadEntries_mspiQ (s : Hw) (g first k : Nat) (b : Bytes) : (loadEntries s g first k b).cmd.mspiQ = s.cmd.mspiQ := by
  unfold loadEntries
  split
  · rfl
  · exact (mspiQ_each fun _ _ => wroteWhole_mspiQ ..).trans (mspiQ_foldl_fst (fun _ _ => putTable_mspiQ ..) _)

theorem fillSine_mspiQ (s : Hw) (g : Nat) : (fillSine s g).cmd.mspiQ = s.cmd.mspiQ := by
  simp only [fillSine, putWords_mspiQ]

theorem opAouTableLoad_mspiQ (s : Hw) (c : Call) : (opAouTableLoad.body s c).state.cmd.mspiQ = s.cmd.mspiQ := by
  simp only [opAouTableLoad, mspiQ_res_ite, mspiQ_ok, mspiQ_refuse, ite_self, mspiQ_cond, implies_true, Hw.raise_mspiQ,
    fillSine_mspiQ, loadEntries_mspiQ, setDeclared_mspiQ]

theorem opAouStatusRead_mspiQ (s : Hw) (c : Call) : (opAouStatusRead.body s c).state.cmd.mspiQ = s.cmd.mspiQ := by
  simp only [opAouStatusRead, mspiQ_ok, OpSpec.fix_body]

theorem aouDown_mspiQ (s : Hw) : (aouDown s).cmd.mspiQ = s.cmd.mspiQ := by
  simp only [aouDown, Hw.coldRegs_mspiQ, mspiQ_each, implies_true, Hw.zeroRegs_mspiQ]

/-! ### The lanes -/

theorem Hw.updGrp_mspiQ (s : Hw) (g : Nat) (f : Grp → Grp) : (s.updGrp g f).cmd.mspiQ = s.cmd.mspiQ :=
  congrArg Cmd.mspiQ (Hw.updGrp_cmd ..)

theorem Hw.updLane_mspiQ (s : Hw) (n : Nat) (f : Lane → Lane) : (s.updLane n f).cmd.mspiQ = s.cmd.mspiQ :=
  congrArg Cmd.mspiQ (Hw.updLane_cmd ..)

theorem setTaps_mspiQ (s : Hw) (n : Nat) (b : Bytes) : (setTaps s n b).cmd.mspiQ = s.cmd.mspiQ := by
  simp only [setTaps, Hw.setNum_mspiQ]

theorem setFront_mspiQ (s : Hw) (n ctle vga : Nat) : (setFront s n ctle vga).cmd.mspiQ = s.cmd.mspiQ := by
  simp only [setFront, Hw.setFld_mspiQ]

theorem setFfe_mspiQ (s : Hw) (n : Nat) (b : Bytes) : (setFfe s n b).cmd.mspiQ = s.cmd.mspiQ := by
  simp only [setFfe, mspiQ_each, implies_true, Hw.setFld_mspiQ]

theorem holdMain_mspiQ (s : Hw) (n : Nat) : (holdMain s n).cmd.mspiQ = s.cmd.mspiQ := by
  simp only [holdMain, Hw.setFld_mspiQ]

theorem setRsse_mspiQ (s : Hw) (n h1 : Nat) (h2 : Int) : (setRsse s n h1 h2).cmd.mspiQ = s.cmd.mspiQ := by
  simp only [setRsse, Hw.setFld_mspiQ, Hw.setFldS_mspiQ]

theorem setIdent_mspiQ (s : Hw) (f : Ident → Ident) : (setIdent s f).cmd.mspiQ = s.cmd.mspiQ := by
  unfold setIdent
  rfl

theorem saveLane_mspiQ (s : Hw) (n byCommand : Nat) : (saveLane s n byCommand).cmd.mspiQ = s.cmd.mspiQ := by
  simp only [saveLane, mspiQ_cond, implies_true, Hw.raise_mspiQ, Hw.updLane_mspiQ, setIdent_mspiQ]

theorem retainGroup_mspiQ (s : Hw) (g : Nat) : (retainGroup s g).cmd.mspiQ = s.cmd.mspiQ := by
  simp only [retainGroup, mspiQ_each, implies_true, Hw.updLane_mspiQ]

theorem settleSquelch_mspiQ (s : Hw) (n : Nat) : (settleSquelch s n).cmd.mspiQ = s.cmd.mspiQ := by
  simp only [settleSquelch, Hw.setFlag_mspiQ]

theorem opLtxConfig_mspiQ (s : Hw) (c : Call) : (opLtxConfig.body s c).state.cmd.mspiQ = s.cmd.mspiQ := by
  simp only [opLtxConfig, mspiQ_ok, OpSpec.fix_body, mspiQ_each, implies_true, Hw.setFld_mspiQ]

theorem opLtxTapSet_mspiQ (s : Hw) (c : Call) : (opLtxTapSet.body s c).state.cmd.mspiQ = s.cmd.mspiQ := by
  simp only [opLtxTapSet, mspiQ_res_ite, mspiQ_ok, mspiQ_refuse, ite_self, OpSpec.fix_body, mspiQ_each, implies_true,
    setTaps_mspiQ]

theorem opLtxLevelsSet_mspiQ (s : Hw) (c : Call) : (opLtxLevelsSet.body s c).state.cmd.mspiQ = s.cmd.mspiQ := by
  simp only [opLtxLevelsSet, mspiQ_ok, OpSpec.fix_body, mspiQ_each, implies_true, Hw.setFld_mspiQ]

theorem opLtxPdLoad_mspiQ (s : Hw) (c : Call) : (opLtxPdLoad.body s c).state.cmd.mspiQ = s.cmd.mspiQ := by
  simp only [opLtxPdLoad, mspiQ_ok, OpSpec.fix_body, mspiQ_each, implies_true, Hw.setNum_mspiQ]

theorem opLrxConfig_mspiQ (s : Hw) (c : Call) : (opLrxConfig.body s c).state.cmd.mspiQ = s.cmd.mspiQ := by
  simp only [opLrxConfig, mspiQ_res_ite, mspiQ_ok, mspiQ_refuse, ite_self, OpSpec.fix_body, mspiQ_each, implies_true,
    Hw.setFld_mspiQ, Hw.setFldS_mspiQ, holdMain_mspiQ]

theorem opLrxAdaptSet_mspiQ (s : Hw) (c : Call) : (opLrxAdaptSet.body s c).state.cmd.mspiQ = s.cmd.mspiQ := by
  simp only [opLrxAdaptSet, mspiQ_ok, OpSpec.fix_body, mspiQ_each, implies_true, Hw.setFld_mspiQ]

theorem opLrxEqSet_mspiQ (s : Hw) (c : Call) : (opLrxEqSet.body s c).state.cmd.mspiQ = s.cmd.mspiQ := by
  simp only [opLrxEqSet, mspiQ_res_ite, mspiQ_ok, mspiQ_refuse, ite_self, OpSpec.fix_body, mspiQ_cond, implies_true,
    setFfe_mspiQ, setFront_mspiQ, setRsse_mspiQ]

theorem opLrxEqRead_mspiQ (s : Hw) (c : Call) : (opLrxEqRead.body s c).state.cmd.mspiQ = s.cmd.mspiQ := by
  simp only [opLrxEqRead, mspiQ_ok, OpSpec.fix_body]

theorem opLrxMeasRead_mspiQ (s : Hw) (c : Call) : (opLrxMeasRead.body s c).state.cmd.mspiQ = s.cmd.mspiQ := by
  simp only [opLrxMeasRead, mspiQ_ok, OpSpec.fix_body, mspiQ_cond, implies_true, mspiQ_each, Hw.zeroRegs_mspiQ]

theorem opLrxHistRun_mspiQ (s : Hw) (c : Call) : (opLrxHistRun.body s c).state.cmd.mspiQ = s.cmd.mspiQ := by
  simp only [opLrxHistRun, mspiQ_res_ite, mspiQ_wait, mspiQ_refuse, ite_self, OpSpec.fix_body, mspiQ_each, implies_true,
    Hw.setFld_mspiQ, Hw.setNum_mspiQ, Hw.updLane_mspiQ, setPoison_mspiQ]

theorem opLrxHistRead_mspiQ (s : Hw) (c : Call) : (opLrxHistRead.body s c).state.cmd.mspiQ = s.cmd.mspiQ := by
  simp only [opLrxHistRead, OpSpec.fix_body]
  split <;> rfl

theorem opLrxGthSelect_mspiQ (s : Hw) (c : Call) : (opLrxGthSelect.body s c).state.cmd.mspiQ = s.cmd.mspiQ := by
  simp only [opLrxGthSelect, mspiQ_res_ite, mspiQ_ok, mspiQ_refuse, ite_self, OpSpec.fix_body, Hw.setFld_mspiQ]

theorem opLrxStoreList_mspiQ (s : Hw) (c : Call) : (opLrxStoreList.body s c).state.cmd.mspiQ = s.cmd.mspiQ := by
  simp only [opLrxStoreList, mspiQ_ok, OpSpec.fix_body]

theorem opLrxStoreSave_mspiQ (s : Hw) (c : Call) : (opLrxStoreSave.body s c).state.cmd.mspiQ = s.cmd.mspiQ := by
  simp only [opLrxStoreSave, mspiQ_res_ite, mspiQ_ok, mspiQ_refuse, ite_self, OpSpec.fix_body, mspiQ_each, implies_true,
    saveLane_mspiQ]

theorem opLrxStoreErase_mspiQ (s : Hw) (c : Call) : (opLrxStoreErase.body s c).state.cmd.mspiQ = s.cmd.mspiQ := by
  simp only [opLrxStoreErase, mspiQ_ok, OpSpec.fix_body, setIdent_mspiQ]

theorem opLrxSeedLoad_mspiQ (s : Hw) (c : Call) : (opLrxSeedLoad.body s c).state.cmd.mspiQ = s.cmd.mspiQ := by
  simp only [opLrxSeedLoad, mspiQ_ok, OpSpec.fix_body, mspiQ_each, implies_true, setIdent_mspiQ]

theorem dropLock_mspiQ (s : Hw) (n : Nat) : (dropLock s n).cmd.mspiQ = s.cmd.mspiQ := by
  simp only [dropLock, Hw.latchLol_mspiQ, Hw.setFld_mspiQ]

/-! ### The front-end switch -/

theorem Hw.updFes_mspiQ (s : Hw) (u : Nat) (f : Fes → Fes) : (s.updFes u f).cmd.mspiQ = s.cmd.mspiQ :=
  congrArg Cmd.mspiQ (Hw.updFes_cmd ..)

theorem noteWindows_mspiQ (u : Nat) (s : Hw) : (noteWindows u s).cmd.mspiQ = s.cmd.mspiQ := by
  simp only [noteWindows, mspiQ_cond, implies_true, Hw.updFes_mspiQ]

theorem settleGate_mspiQ (u : Nat) (s : Hw) : (settleGate u s).cmd.mspiQ = s.cmd.mspiQ := by
  simp only [settleGate, aouGate_mspiQ, mspiQ_ite, ite_self]

theorem setFault_mspiQ (s : Hw) (u cause which : Nat) : (setFault s u cause which).cmd.mspiQ = s.cmd.mspiQ := by
  simp only [setFault, mspiQ_cond, implies_true, Hw.latchFault_mspiQ, Hw.raise_mspiQ, Hw.setFld_mspiQ, Hw.updFes_mspiQ,
    mspiQ_ite, ite_self, settleGate_mspiQ]

theorem dropHooks_mspiQ (s : Hw) (u : Nat) : (dropHooks s u).cmd.mspiQ = s.cmd.mspiQ := by
  simp only [dropHooks, Hw.updFes_mspiQ]

theorem freeBytes_mspiQ (n : Nat) (s : Hw) : (freeBytes n s).2.cmd.mspiQ = s.cmd.mspiQ := by
  induction n generalizing s with
  | zero => rfl
  | succ n ih => exact (ih _).trans (Hw.free_mspiQ s)

theorem spiSend_mspiQ (s : Hw) (cs : Nat) (b : Bytes) : (spiSend s cs b).cmd.mspiQ = s.cmd.mspiQ := by
  simp only [spiSend, Hw.emit_mspiQ]

theorem spiVerify_mspiQ (s : Hw) (f : HookFrame) : (spiVerify s f).cmd.mspiQ = s.cmd.mspiQ := by
  simp only [spiVerify, mspiQ_cond, implies_true, Hw.emit_mspiQ]

theorem spiGo_mspiQ (n : Nat) (s : Hw) : (spiGo n s).cmd.mspiQ = s.cmd.mspiQ := by
  induction n generalizing s with
  | zero => rfl
  | succ n ih =>
    unfold spiGo
    split
    · rfl
    · split
      · rfl
      · simp only [ih, mspiQ_ite, setOutcome_mspiQ, freeBytes_mspiQ, spiVerify_mspiQ, spiSend_mspiQ, ite_self]

theorem spiRun_mspiQ (s : Hw) : (spiRun s).cmd.mspiQ = s.cmd.mspiQ := by
  simp only [spiRun, spiGo_mspiQ]

theorem queueHooks_mspiQ (s : Hw) (u : Nat) (fs : List HookFrame) : (queueHooks s u fs).cmd.mspiQ = s.cmd.mspiQ := by
  simp only [queueHooks, mspiQ_cond, implies_true, Hw.updFes_mspiQ, mspiQ_ite, ite_self, spiRun_mspiQ]

theorem beginMoveTo_mspiQ (s : Hw) (u nxt : Nat) : (beginMoveTo s u nxt).cmd.mspiQ = s.cmd.mspiQ := by
  simp only [beginMoveTo, mspiQ_cond, implies_true, Hw.setFld_mspiQ, Hw.updFes_mspiQ, queueHooks_mspiQ]

theorem abandon_mspiQ (s : Hw) (u : Nat) : (abandon s u).cmd.mspiQ = s.cmd.mspiQ := by
  simp only [abandon, mspiQ_cond, implies_true, Hw.setFld_mspiQ, Hw.updFes_mspiQ, dropHooks_mspiQ, spiRun_mspiQ]

theorem advance_mspiQ (u : Nat) (s : Hw) : (advance u s).cmd.mspiQ = s.cmd.mspiQ := by
  simp only [advance, Hw.updFes_mspiQ, abandon_mspiQ, beginMoveTo_mspiQ, mspiQ_ite, ite_self]

theorem requestTurn_mspiQ (u : Nat) (s : Hw) : (requestTurn u s).cmd.mspiQ = s.cmd.mspiQ := by
  simp only [requestTurn, Hw.raise_mspiQ, Hw.setFld_mspiQ, Hw.setNum64_mspiQ, Hw.updFes_mspiQ, mspiQ_ite, ite_self]

theorem settleRamp_mspiQ (u : Nat) (s : Hw) : (settleRamp u s).cmd.mspiQ = s.cmd.mspiQ := by
  simp only [settleRamp, Hw.setFlag_mspiQ, Hw.setFld_mspiQ, Hw.updFes_mspiQ, mspiQ_ite, ite_self]

theorem failHeld_mspiQ (s : Hw) (u : Nat) : (failHeld s u).cmd.mspiQ = s.cmd.mspiQ := by
  simp only [failHeld, Hw.raise_mspiQ, Hw.setFld_mspiQ, Hw.updFes_mspiQ]

theorem notLocked_mspiQ (u : Nat) (s : Hw) : (notLocked u s).cmd.mspiQ = s.cmd.mspiQ := by
  simp only [notLocked, Hw.setFld_mspiQ, failHeld_mspiQ]

theorem settleHeld_mspiQ (s : Hw) : (settleHeld s).cmd.mspiQ = s.cmd.mspiQ := by
  unfold settleHeld
  rfl

theorem settleFes_mspiQ (s : Hw) : (settleFes s).cmd.mspiQ = s.cmd.mspiQ := by
  simp only [settleFes, mspiQ_cond, implies_true, mspiQ_each, Hw.setFlag_mspiQ, Hw.updFes_mspiQ, advance_mspiQ,
    noteWindows_mspiQ, settleGate_mspiQ, settleHeld_mspiQ, settleRamp_mspiQ]

theorem applyFesConfig_mspiQ (p : Bytes) (s : Hw) : (applyFesConfig p s).cmd.mspiQ = s.cmd.mspiQ := by
  simp only [applyFesConfig, Hw.setFld_mspiQ]

theorem safeNamed_mspiQ (s : Hw) (u : Nat) : (safeNamed s u).cmd.mspiQ = s.cmd.mspiQ := by
  simp only [safeNamed, mspiQ_each, implies_true, aouSafe_mspiQ]

theorem opFesConfig_mspiQ (s : Hw) (c : Call) : (opFesConfig.body s c).state.cmd.mspiQ = s.cmd.mspiQ := by
  simp only [opFesConfig, mspiQ_res_ite, mspiQ_ok, mspiQ_refuse, ite_self, OpSpec.fix_body, applyFesConfig_mspiQ,
    safeNamed_mspiQ]

theorem setTargets_mspiQ (s : Hw) (mask t : Nat) : (setTargets s mask t).cmd.mspiQ = s.cmd.mspiQ := by
  simp only [setTargets, mspiQ_each, implies_true, Hw.setFlag_mspiQ, Hw.setFld_mspiQ, Hw.updFes_mspiQ]

theorem opFesStateSet_mspiQ (s : Hw) (c : Call) : (opFesStateSet.body s c).state.cmd.mspiQ = s.cmd.mspiQ := by
  simp only [opFesStateSet, mspiQ_res_ite, mspiQ_wait, mspiQ_ok, mspiQ_refuse, ite_self, OpSpec.fix_body, setTargets_mspiQ]

theorem opFesStepSet_mspiQ (s : Hw) (c : Call) : (opFesStepSet.body s c).state.cmd.mspiQ = s.cmd.mspiQ := by
  simp only [opFesStepSet, mspiQ_res_ite, mspiQ_ok, mspiQ_refuse, ite_self, OpSpec.fix_body, mspiQ_each, implies_true,
    Hw.updFes_mspiQ]

theorem opFesTableLoad_mspiQ (s : Hw) (c : Call) : (opFesTableLoad.body s c).state.cmd.mspiQ = s.cmd.mspiQ := by
  simp only [opFesTableLoad, OpSpec.list_body]
  split
  · rfl
  · split
    · exact putWords_mspiQ ..
    · split
      · rfl
      · split <;> simp only [mspiQ_refuse, mspiQ_ok, Hw.raise_mspiQ, setDeclared_mspiQ, putWords_mspiQ]

theorem applyFesHook_mspiQ (p : Bytes) (s : Hw) : (applyFesHook p s).cmd.mspiQ = s.cmd.mspiQ := by
  simp only [applyFesHook, Hw.updFes_mspiQ]

theorem opFesHookLoad_mspiQ (s : Hw) (c : Call) : (opFesHookLoad.body s c).state.cmd.mspiQ = s.cmd.mspiQ := by
  simp only [opFesHookLoad, mspiQ_res_ite, mspiQ_ok, mspiQ_refuse, ite_self, OpSpec.list_body, applyFesHook_mspiQ]

theorem opFesSpiXfer_mspiQ (s : Hw) (c : Call) : (opFesSpiXfer.body s c).state.cmd.mspiQ = s.cmd.mspiQ := by
  simp only [opFesSpiXfer, OpSpec.list_body]
  split <;> simp only [mspiQ_ok, mspiQ_wait, freeBytes_mspiQ, spiSend_mspiQ]

theorem opFesTurn_mspiQ (s : Hw) (c : Call) : (opFesTurn.body s c).state.cmd.mspiQ = s.cmd.mspiQ := by
  simp only [opFesTurn, mspiQ_res_ite, mspiQ_ok, mspiQ_refuse, ite_self, OpSpec.fix_body, mspiQ_each, implies_true,
    requestTurn_mspiQ]

theorem opFesFaultClear_mspiQ (s : Hw) (c : Call) : (opFesFaultClear.body s c).state.cmd.mspiQ = s.cmd.mspiQ := by
  refine mspiQ_each fun u t => ?_
  dsimp only
  split
  · exact (setFault_mspiQ ..).trans (Hw.setFld_mspiQ ..)
  · exact Hw.setFld_mspiQ ..

theorem opFesStatusRead_mspiQ (s : Hw) (c : Call) : (opFesStatusRead.body s c).state.cmd.mspiQ = s.cmd.mspiQ := by
  simp only [opFesStatusRead, mspiQ_ok, OpSpec.fix_body]

theorem fesDown_mspiQ (s : Hw) : (fesDown s).cmd.mspiQ = s.cmd.mspiQ := by
  simp only [fesDown, Hw.coldRegs_mspiQ, mspiQ_each, implies_true, Hw.setFld_mspiQ, Hw.updFes_mspiQ]

/-! ### The flow tables -/

theorem Hw.setCtx_mspiQ (s : Hw) (i v : Nat) : (s.setCtx i v).cmd.mspiQ = s.cmd.mspiQ := by
  simp only [Hw.setCtx, Hw.setFld_mspiQ, mspiQ_ite, ite_self]

theorem putSlot_mspiQ (s : Hw) (k v : Nat) : (putSlot s k v).cmd.mspiQ = s.cmd.mspiQ := by
  simp only [putSlot, setPoison_mspiQ]

theorem moveChain_mspiQ (l : List Nat) (s : Hw) : (moveChain l s).cmd.mspiQ = s.cmd.mspiQ := by
  induction l generalizing s with
  | nil => rfl
  | cons a l ih =>
    cases l with
    | nil => rfl
    | cons b l => exact (ih _).trans ((putSlot_mspiQ ..).trans (putSlot_mspiQ ..))

theorem setStashRegs_mspiQ (s : Hw) : (setStashRegs s).cmd.mspiQ = s.cmd.mspiQ := by
  simp only [setStashRegs, Hw.setFld_mspiQ]

theorem placeKey_mspiQ {s t : Hw} {key v n : Nat} (h : placeKey s key v = some (n, t)) : t.cmd.mspiQ = s.cmd.mspiQ := by
  unfold placeKey at h
  dsimp only at h
  split at h
  · cases h
    exact putSlot_mspiQ ..
  · split at h
    · split at h
      · cases h
        exact (putSlot_mspiQ ..).trans (moveChain_mspiQ ..)
      · cases h
    · cases h

theorem countKeys_mspiQ (s : Hw) (up : Bool) : (countKeys s up).cmd.mspiQ = s.cmd.mspiQ := by
  simp only [countKeys, Hw.setFld_mspiQ]

theorem insertKey_mspiQ {s t : Hw} {key v n : Nat} (h : insertKey s key v = some (n, t)) : t.cmd.mspiQ = s.cmd.mspiQ := by
  unfold insertKey at h
  split at h
  · cases h
    rw [countKeys_mspiQ, Hw.setFld_mspiQ, Hw.pmc_mspiQ]
    exact placeKey_mspiQ ‹_›
  · split at h
    · cases h
      simp only [mspiQ_cond, countKeys_mspiQ, setStashRegs_mspiQ, putSlot_mspiQ, Hw.raise_mspiQ, implies_true]
    · cases h

theorem removeKey_mspiQ (s : Hw) (k : Nat) : (removeKey s k).cmd.mspiQ = s.cmd.mspiQ := by
  simp only [removeKey, countKeys_mspiQ, putSlot_mspiQ, setStashRegs_mspiQ]

theorem purgeCooling_mspiQ (s : Hw) : (purgeCooling s).cmd.mspiQ = s.cmd.mspiQ := by
  simp only [purgeCooling, Hw.setFld_mspiQ]

theorem freeCtx_mspiQ (s : Hw) (i : Nat) : (freeCtx s i).cmd.mspiQ = s.cmd.mspiQ := by
  simp only [freeCtx, Hw.setCtx_mspiQ, Hw.setFld_mspiQ]

theorem insertItem_mspiQ {s : Hw} {j : Nat} {it : Bytes} {k : Nat} {t : Hw} (h : insertItem s j it = .ok (k, t)) :
    t.cmd.mspiQ = s.cmd.mspiQ := by
  unfold insertItem at h
  dsimp only at h
  repeat' split at h
  all_goals cases h
  · exact Hw.setCtx_mspiQ ..
  · exact (insertKey_mspiQ ‹_›).trans (Hw.setCtx_mspiQ ..)

theorem insertItem_error_mspiQ {s : Hw} {j : Nat} {it : Bytes} {st det : Nat} {t : Hw}
    (h : insertItem s j it = .error (st, det, t)) : t.cmd.mspiQ = s.cmd.mspiQ := by
  unfold insertItem at h
  dsimp only at h
  repeat' split at h
  all_goals cases h
  · rfl
  · rfl
  · rfl
  · simp only [Hw.raise_mspiQ, Hw.count_mspiQ]

theorem modifyItem_mspiQ {s : Hw} {j : Nat} {it : Bytes} {k : Nat} {t : Hw} (h : modifyItem s j it = .ok (k, t)) :
    t.cmd.mspiQ = s.cmd.mspiQ := by
  unfold modifyItem at h
  dsimp only at h
  repeat' split at h
  all_goals cases h
  · exact Hw.setCtx_mspiQ ..
  · exact (putSlot_mspiQ ..).trans (Hw.setCtx_mspiQ ..)
  · exact (insertKey_mspiQ ‹_›).trans (Hw.setCtx_mspiQ ..)

theorem modifyItem_error_mspiQ {s : Hw} {j : Nat} {it : Bytes} {st det : Nat} {t : Hw}
    (h : modifyItem s j it = .error (st, det, t)) : t.cmd.mspiQ = s.cmd.mspiQ := by
  unfold modifyItem at h
  dsimp only at h
  repeat' split at h
  all_goals cases h
  all_goals simp only [Hw.raise_mspiQ, Hw.count_mspiQ]

/-- What no item changes, a list of items leaves as it is. -/
theorem runItems_mspiQ {f : Hw → Nat → Bytes → Except (Nat × Nat × Hw) (Nat × Hw)}
    (hok : ∀ {s j it k t}, f s j it = .ok (k, t) → t.cmd.mspiQ = s.cmd.mspiQ)
    (herr : ∀ {s j it st det t}, f s j it = .error (st, det, t) → t.cmd.mspiQ = s.cmd.mspiQ) (p : Bytes) (n j chain : Nat)
    (s : Hw) : (runItems f p n j chain s).state.cmd.mspiQ = s.cmd.mspiQ := by
  induction n generalizing j chain s with
  | zero => rfl
  | succ n ih =>
    unfold runItems
    split
    · exact herr ‹_›
    · exact (ih ..).trans (hok ‹_›)

theorem opFlwInsert_mspiQ (s : Hw) (c : Call) : (opFlwInsert.body s c).state.cmd.mspiQ = s.cmd.mspiQ := by
  simp only [opFlwInsert, OpSpec.list_body, mspiQ_res_ite, mspiQ_refuse, runItems_mspiQ insertItem_mspiQ insertItem_error_mspiQ,
    purgeCooling_mspiQ, ite_self]

theorem opFlwModify_mspiQ (s : Hw) (c : Call) : (opFlwModify.body s c).state.cmd.mspiQ = s.cmd.mspiQ := by
  simp only [opFlwModify, OpSpec.list_body, mspiQ_res_ite, mspiQ_refuse, runItems_mspiQ modifyItem_mspiQ modifyItem_error_mspiQ,
    ite_self]

theorem deleteItems_mspiQ (p : Bytes) (waits : Bool) (n j : Nat) (s : Hw) :
    (deleteItems p waits n j s).state.cmd.mspiQ = s.cmd.mspiQ := by
  induction n generalizing j s with
  | zero => rfl
  | succ n ih =>
    unfold deleteItems
    split
    · rfl
    · dsimp only
      rw [mspiQ_res_ite, ih, freeCtx_mspiQ]
      split
      · rfl
      · split
        · exact removeKey_mspiQ ..
        · rfl

theorem opFlwDelete_mspiQ (s : Hw) (c : Call) : (opFlwDelete.body s c).state.cmd.mspiQ = s.cmd.mspiQ := by
  simp only [opFlwDelete, mspiQ_res_ite, mspiQ_refuse, ite_self, OpSpec.list_body, deleteItems_mspiQ, purgeCooling_mspiQ]

theorem zeroTables_mspiQ (s : Hw) : (zeroTables s).cmd.mspiQ = s.cmd.mspiQ := by
  simp only [zeroTables, clearPoison_mspiQ]

theorem opFlwInit_mspiQ (s : Hw) (c : Call) : (opFlwInit.body s c).state.cmd.mspiQ = s.cmd.mspiQ := by
  simp only [opFlwInit, mspiQ_res_ite, mspiQ_ok, mspiQ_refuse, ite_self, OpSpec.fix_body, Hw.setFld_mspiQ,
    Hw.zeroRegs_mspiQ, declareWhole_mspiQ, zeroTables_mspiQ]

theorem opFlwLookup_mspiQ (s : Hw) (c : Call) : (opFlwLookup.body s c).state.cmd.mspiQ = s.cmd.mspiQ := by
  simp only [opFlwLookup, OpSpec.fix_body]
  split
  · rfl
  · split <;> rfl

theorem opFlwRead_mspiQ (s : Hw) (c : Call) : (opFlwRead.body s c).state.cmd.mspiQ = s.cmd.mspiQ := by
  simp only [opFlwRead, mspiQ_res_ite, mspiQ_ok, mspiQ_refuse, ite_self, OpSpec.fix_body]

theorem opFlwStatusRead_mspiQ (s : Hw) (c : Call) : (opFlwStatusRead.body s c).state.cmd.mspiQ = s.cmd.mspiQ := by
  simp only [opFlwStatusRead, mspiQ_ok, OpSpec.fix_body, mspiQ_cond, implies_true, Hw.setFld_mspiQ, Hw.zeroRegs_mspiQ]

/-! ### Codes -/

theorem sendSymbols_mspiQ (n : Nat) (l : List Nat) (s : Hw) : (sendSymbols n l s).cmd.mspiQ = s.cmd.mspiQ := by
  simp only [sendSymbols, mspiQ_cond, implies_true, Hw.setFld_mspiQ, Hw.updLane_mspiQ]

/-! ### Event records -/

theorem readWord_mspiQ (src a : Nat) (s : Hw) : (readWord src a s).2.cmd.mspiQ = s.cmd.mspiQ := by
  unfold readWord
  rfl

theorem updEvr_mspiQ (s : Hw) (f : Evr → Evr) : (updEvr s f).cmd.mspiQ = s.cmd.mspiQ :=
  congrArg Cmd.mspiQ (updEvr_cmd ..)

theorem stageRec_mspiQ (s : Hw) (r : Rec) : (stageRec s r).cmd.mspiQ = s.cmd.mspiQ := by
  simp only [stageRec, updEvr_mspiQ]

theorem settleEvr_mspiQ (s : Hw) : (settleEvr s).cmd.mspiQ = s.cmd.mspiQ :=
  congrArg Cmd.mspiQ (settleEvr_cmd ..)

theorem interrupt_mspiQ (s : Hw) (code : Nat) : (interrupt s code).cmd.mspiQ = s.cmd.mspiQ := by
  simp only [interrupt, mspiQ_cond, implies_true, Hw.setFld_mspiQ]

theorem handOver_mspiQ (s : Hw) (e : Ev) : (handOver s e).cmd.mspiQ = s.cmd.mspiQ := by
  simp only [handOver, updEvr_mspiQ]

theorem stageLost_mspiQ (s : Hw) : (stageLost s).cmd.mspiQ = s.cmd.mspiQ := by
  simp only [stageLost, handOver_mspiQ, interrupt_mspiQ, mspiQ_ite, ite_self, stageRec_mspiQ, updEvr_mspiQ]

theorem loseRecords_mspiQ (s : Hw) (k : Nat) : (loseRecords s k).cmd.mspiQ = s.cmd.mspiQ := by
  simp only [loseRecords, Hw.count_mspiQ, updEvr_mspiQ]

theorem stageNew_mspiQ (s : Hw) (r : Rec) : (stageNew s r).cmd.mspiQ = s.cmd.mspiQ := by
  simp only [stageNew, interrupt_mspiQ, mspiQ_ite, ite_self, loseRecords_mspiQ, stageRec_mspiQ, updEvr_mspiQ]

theorem stageCode_mspiQ (s : Hw) (e : Ev) (within : List Rec) : (stageCode s e within).cmd.mspiQ = s.cmd.mspiQ := by
  simp only [stageCode, interrupt_mspiQ, mspiQ_ite, ite_self, stageNew_mspiQ, updEvr_mspiQ]

theorem writePage_mspiQ (s : Hw) : (writePage s).cmd.mspiQ = s.cmd.mspiQ := by
  simp only [writePage, mspiQ_cond, implies_true, Hw.setFld_mspiQ, Hw.wrapCount_mspiQ, mspiQ_ite, ite_self, stageLost_mspiQ,
    updEvr_mspiQ]

theorem flushAll_mspiQ (n : Nat) (s : Hw) : (flushAll n s).cmd.mspiQ = s.cmd.mspiQ := by
  induction n generalizing s with
  | zero => rfl
  | succ n ih =>
    unfold flushAll
    simp only [ih, mspiQ_ite, writePage_mspiQ, updEvr_mspiQ, ite_self]

theorem settleOptime_mspiQ (s : Hw) : (settleOptime s).cmd.mspiQ = s.cmd.mspiQ := by
  simp only [settleOptime, Hw.raise_mspiQ, mspiQ_ite, ite_self, updEvr_mspiQ]

theorem giveBack_mspiQ (u : Undo) (s : Hw) : (giveBack u s).cmd.mspiQ = s.cmd.mspiQ := by
  unfold giveBack
  rfl

theorem abandonPage_mspiQ (s : Hw) : (abandonPage s).cmd.mspiQ = s.cmd.mspiQ := by
  simp only [abandonPage, mspiQ_ite, ite_self]

theorem abandonCommits_mspiQ (s : Hw) : (abandonCommits s).cmd.mspiQ = s.cmd.mspiQ := by
  simp only [abandonCommits, mspiQ_foldr, implies_true, abandonPage_mspiQ, giveBack_mspiQ]

theorem tellBadPages_mspiQ (start : Nat) (s : Hw) : (tellBadPages start s).cmd.mspiQ = s.cmd.mspiQ := by
  simp only [tellBadPages, Hw.count_mspiQ, Hw.raise_mspiQ, mspiQ_foldl, implies_true]

theorem opEvrInfo_mspiQ (s : Hw) (c : Call) : (opEvrInfo.body s c).state.cmd.mspiQ = s.cmd.mspiQ := by
  simp only [opEvrInfo, mspiQ_ok, OpSpec.fix_body]

theorem opEvrRead_mspiQ (s : Hw) (c : Call) : (opEvrRead.body s c).state.cmd.mspiQ = s.cmd.mspiQ := by
  simp only [opEvrRead, mspiQ_res_ite, mspiQ_ok, ite_self, OpSpec.fix_body, tellBadPages_mspiQ]

theorem applyEvrConfig_mspiQ (p : Bytes) (s : Hw) : (applyEvrConfig p s).cmd.mspiQ = s.cmd.mspiQ := by
  simp only [applyEvrConfig, mspiQ_each, implies_true, Hw.setFld_mspiQ, Hw.setNum_mspiQ]

theorem opEvrConfig_mspiQ (s : Hw) (c : Call) : (opEvrConfig.body s c).state.cmd.mspiQ = s.cmd.mspiQ := by
  simp only [opEvrConfig, mspiQ_ok, OpSpec.fix_body, applyEvrConfig_mspiQ]

theorem applyEvrSnap_mspiQ (p : Bytes) (s : Hw) : (applyEvrSnap p s).cmd.mspiQ = s.cmd.mspiQ := by
  simp only [applyEvrSnap, mspiQ_each, implies_true, Hw.setFld_mspiQ, Hw.setNum_mspiQ]

theorem opEvrSnapSet_mspiQ (s : Hw) (c : Call) : (opEvrSnapSet.body s c).state.cmd.mspiQ = s.cmd.mspiQ := by
  simp only [opEvrSnapSet, mspiQ_res_ite, mspiQ_ok, mspiQ_refuse, ite_self, OpSpec.list_body, applyEvrSnap_mspiQ]

theorem opEvrFlush_mspiQ (s : Hw) (c : Call) : (opEvrFlush.body s c).state.cmd.mspiQ = s.cmd.mspiQ := by
  simp only [opEvrFlush, mspiQ_res_ite, mspiQ_ok, mspiQ_refuse, ite_self, OpSpec.fix_body, flushAll_mspiQ]

theorem opEvrErase_mspiQ (s : Hw) (c : Call) : (opEvrErase.body s c).state.cmd.mspiQ = s.cmd.mspiQ := by
  simp only [opEvrErase, mspiQ_res_ite, mspiQ_ok, mspiQ_refuse, ite_self, OpSpec.fix_body, Hw.setFld_mspiQ, handOver_mspiQ,
    stageCode_mspiQ]

/-! ### Gathering -/

theorem updGth_mspiQ (s : Hw) (f : Gth → Gth) : (updGth s f).cmd.mspiQ = s.cmd.mspiQ :=
  congrArg Cmd.mspiQ (updGth_cmd ..)

theorem beginSegment_mspiQ (s : Hw) (seg : Nat) : (beginSegment s seg).cmd.mspiQ = s.cmd.mspiQ := by
  simp only [beginSegment, Hw.setFld_mspiQ]

theorem closeSegment_mspiQ (s : Hw) (truncated : Bool) : (closeSegment s truncated).cmd.mspiQ = s.cmd.mspiQ := by
  simp only [closeSegment, Hw.setFlag_mspiQ, Hw.setFld_mspiQ]

theorem countGap_mspiQ (s : Hw) (n : Nat) : (countGap s n).cmd.mspiQ = s.cmd.mspiQ := by
  simp only [countGap, Hw.count_mspiQ, Hw.count64_mspiQ]

theorem endStores_mspiQ (s : Hw) : (endStores s).cmd.mspiQ = s.cmd.mspiQ := by
  simp only [endStores, mspiQ_foldl, implies_true, countGap_mspiQ, updGth_mspiQ]

theorem stageUnit_mspiQ (s : Hw) (kind src t : Nat) (u : Bytes) : (stageUnit s kind src t u).cmd.mspiQ = s.cmd.mspiQ := by
  unfold stageUnit
  dsimp only
  repeat' split
  all_goals simp only [countGap_mspiQ, updGth_mspiQ]

theorem stageEvent_mspiQ (s : Hw) (e : Ev) : (stageEvent s e).cmd.mspiQ = s.cmd.mspiQ := by
  simp only [stageEvent, mspiQ_ite, ite_self, stageUnit_mspiQ]

theorem seeEvents_mspiQ (n : Nat) (s : Hw) : (seeEvents n s).cmd.mspiQ = s.cmd.mspiQ := by
  induction n generalizing s with
  | zero => rfl
  | succ n ih =>
    unfold seeEvents
    simp only [ih, mspiQ_ite, mspiQ_foldl, stageEvent_mspiQ, Hw.pmc_mspiQ, ite_self, implies_true]

theorem candidate_mspiQ (s : Hw) (sources t : Nat) : (candidate s sources t).2.cmd.mspiQ = s.cmd.mspiQ := by
  unfold candidate
  dsimp only
  repeat' split
  all_goals simp only [Hw.count_mspiQ, Hw.raise_mspiQ, Hw.setFld_mspiQ, Hw.setNum64_mspiQ, updGth_mspiQ]

theorem tellSources_mspiQ (src : Nat) (s : Hw) : (tellSources src s).cmd.mspiQ = s.cmd.mspiQ := by
  simp only [tellSources, updEvr_mspiQ]

theorem offer_mspiQ (s : Hw) (sources t : Nat) : (offer s sources t).2.cmd.mspiQ = s.cmd.mspiQ := by
  unfold offer
  dsimp only
  repeat' split
  all_goals simp only [candidate_mspiQ, tellSources_mspiQ, updGth_mspiQ]

theorem offerEvent_mspiQ (s : Hw) (e : Ev) : (offerEvent s e).cmd.mspiQ = s.cmd.mspiQ := by
  simp only [offerEvent, mspiQ_cond, implies_true, offer_mspiQ]

theorem takeHanded_mspiQ (s : Hw) : (takeHanded s).cmd.mspiQ = s.cmd.mspiQ := by
  simp only [takeHanded, Hw.pmc_mspiQ, mspiQ_foldl, implies_true, offerEvent_mspiQ, stageEvent_mspiQ, updEvr_mspiQ]

theorem opGthConfig_mspiQ (s : Hw) (c : Call) : (opGthConfig.body s c).state.cmd.mspiQ = s.cmd.mspiQ := by
  simp only [opGthConfig, mspiQ_res_ite, mspiQ_ok, mspiQ_refuse, ite_self, OpSpec.fix_body, Hw.setFld_mspiQ,
    Hw.setNum_mspiQ, Hw.setNum64_mspiQ]

theorem opGthTrigConfig_mspiQ (s : Hw) (c : Call) : (opGthTrigConfig.body s c).state.cmd.mspiQ = s.cmd.mspiQ := by
  simp only [opGthTrigConfig, mspiQ_res_ite, mspiQ_ok, mspiQ_refuse, ite_self, OpSpec.fix_body, Hw.setFld_mspiQ,
    Hw.setNum_mspiQ, updGth_mspiQ]

theorem opGthArm_mspiQ (s : Hw) (c : Call) : (opGthArm.body s c).state.cmd.mspiQ = s.cmd.mspiQ := by
  simp only [opGthArm, mspiQ_res_ite, mspiQ_ok, mspiQ_refuse, ite_self, OpSpec.fix_body, mspiQ_each, implies_true,
    Hw.setNum64_mspiQ, Hw.zeroRegs_mspiQ, beginSegment_mspiQ, updGth_mspiQ]

theorem opGthTrigger_mspiQ (s : Hw) (c : Call) : (opGthTrigger.body s c).state.cmd.mspiQ = s.cmd.mspiQ := by
  simp only [opGthTrigger, OpSpec.fix_body, mspiQ_ok]
  split
  · exact (offer_mspiQ ..).trans (Hw.free_mspiQ s)
  · exact Hw.free_mspiQ s

theorem opGthStop_mspiQ (s : Hw) (c : Call) : (opGthStop.body s c).state.cmd.mspiQ = s.cmd.mspiQ := by
  simp only [opGthStop, mspiQ_ok, OpSpec.fix_body, mspiQ_cond, implies_true, Hw.raise_mspiQ, Hw.setFld_mspiQ,
    closeSegment_mspiQ, endStores_mspiQ]

theorem opGthRead_mspiQ (s : Hw) (c : Call) : (opGthRead.body s c).state.cmd.mspiQ = s.cmd.mspiQ := by
  simp only [opGthRead, mspiQ_res_ite, mspiQ_ok, mspiQ_refuse, ite_self, OpSpec.fix_body]

theorem opGthStatusRead_mspiQ (s : Hw) (c : Call) : (opGthStatusRead.body s c).state.cmd.mspiQ = s.cmd.mspiQ := by
  simp only [opGthStatusRead, mspiQ_ok, OpSpec.fix_body]

theorem opGthPmcConfig_mspiQ (s : Hw) (c : Call) : (opGthPmcConfig.body s c).state.cmd.mspiQ = s.cmd.mspiQ := by
  simp only [opGthPmcConfig, mspiQ_res_ite, mspiQ_ok, mspiQ_refuse, ite_self, OpSpec.fix_body, Hw.setFld_mspiQ]

theorem opGthPmcCtrl_mspiQ (s : Hw) (c : Call) : (opGthPmcCtrl.body s c).state.cmd.mspiQ = s.cmd.mspiQ := by
  simp only [opGthPmcCtrl, OpSpec.fix_body, mspiQ_ok]
  split <;> simp only [mspiQ_each, Hw.setNum64_mspiQ, Hw.setFld_mspiQ, implies_true]

theorem opGthCountRead_mspiQ (s : Hw) (c : Call) : (opGthCountRead.body s c).state.cmd.mspiQ = s.cmd.mspiQ := by
  simp only [opGthCountRead, mspiQ_ok, OpSpec.fix_body]

theorem opGthCounterOpen_mspiQ (s : Hw) (c : Call) : (opGthCounterOpen.body s c).state.cmd.mspiQ = s.cmd.mspiQ := by
  simp only [opGthCounterOpen, mspiQ_ok, OpSpec.fix_body, Hw.raise_mspiQ, Hw.setFld_mspiQ]

/-! ### The groups -/

theorem queueCell_mspiQ (s : Hw) (g : Nat) (c : LCell) : (queueCell s g c).cmd.mspiQ = s.cmd.mspiQ := by
  simp only [queueCell, Hw.updGrp_mspiQ]

theorem placeOam_mspiQ (s : Hw) (g kind : Nat) (place : Place) (body : Bytes) :
    (placeOam s g kind place body).cmd.mspiQ = s.cmd.mspiQ := by
  simp only [placeOam, Hw.updGrp_mspiQ, mspiQ_ite, ite_self, queueCell_mspiQ]

theorem sendOam_mspiQ (s : Hw) (g kind : Nat) (body : Bytes) : (sendOam s g kind body).cmd.mspiQ = s.cmd.mspiQ := by
  simp only [sendOam, placeOam_mspiQ]

theorem sendFour_mspiQ (s : Hw) (g kind mask : Nat) (body : Bytes) :
    (sendFour s g kind mask body).cmd.mspiQ = s.cmd.mspiQ := by
  simp only [sendFour, mspiQ_each, implies_true, placeOam_mspiQ]

theorem carry_mspiQ (s : Hw) (g k header : Nat) (pl : Bytes) : (carry s g k header pl).cmd.mspiQ = s.cmd.mspiQ := by
  simp only [carry, Hw.emit_mspiQ, Hw.pmc_mspiQ, Hw.updGrp_mspiQ]

theorem tellLoss_mspiQ (s : Hw) (g k : Nat) (c : LCell) : (tellLoss s g k c).cmd.mspiQ = s.cmd.mspiQ := by
  simp only [tellLoss, Hw.raise_mspiQ, mspiQ_foldl, implies_true, mspiQ_ite, ite_self]

theorem leaveLine_mspiQ (s : Hw) (g k : Nat) (c : LCell) : (leaveLine s g k c).cmd.mspiQ = s.cmd.mspiQ := by
  unfold leaveLine
  dsimp only
  split <;> simp only [mspiQ_cond, implies_true, Hw.pmc_mspiQ, Hw.updGrp_mspiQ, carry_mspiQ, tellLoss_mspiQ]

theorem flushOam_mspiQ (s : Hw) (g : Nat) : (flushOam s g).cmd.mspiQ = s.cmd.mspiQ := by
  simp only [flushOam, Hw.updGrp_mspiQ, mspiQ_foldl, implies_true, leaveLine_mspiQ]

theorem sendStatus_mspiQ (s : Hw) (g : Nat) : (sendStatus s g).cmd.mspiQ = s.cmd.mspiQ := by
  simp only [sendStatus, Hw.updGrp_mspiQ, sendOam_mspiQ]

theorem settleStatus_mspiQ (s : Hw) (g : Nat) : (settleStatus s g).cmd.mspiQ = s.cmd.mspiQ := by
  simp only [settleStatus, Hw.updGrp_mspiQ, mspiQ_ite, ite_self, sendStatus_mspiQ]

theorem setStage_mspiQ (s : Hw) (g n : Nat) : (setStage s g n).cmd.mspiQ = s.cmd.mspiQ := by
  simp only [setStage, Hw.raise_mspiQ, Hw.setFld_mspiQ, Hw.updGrp_mspiQ]

theorem leaveStages_mspiQ (s : Hw) (g : Nat) : (leaveStages s g).cmd.mspiQ = s.cmd.mspiQ := by
  simp only [leaveStages, mspiQ_cond, implies_true, mspiQ_each, Hw.setFld_mspiQ, Hw.setNum_mspiQ, Hw.updGrp_mspiQ,
    Hw.updLane_mspiQ, retainGroup_mspiQ]

theorem startLaneStages_mspiQ (s : Hw) (g : Nat) : (startLaneStages s g).cmd.mspiQ = s.cmd.mspiQ := by
  simp only [startLaneStages, Hw.setNum_mspiQ]

theorem toP1_mspiQ (s : Hw) (g : Nat) : (toP1 s g).cmd.mspiQ = s.cmd.mspiQ := by
  simp only [toP1, Hw.setFld_mspiQ, Hw.updGrp_mspiQ, leaveStages_mspiQ, setStage_mspiQ, startLaneStages_mspiQ]

theorem toP0_mspiQ (s : Hw) (g : Nat) : (toP0 s g).cmd.mspiQ = s.cmd.mspiQ := by
  simp only [toP0, Hw.setFld_mspiQ, mspiQ_ite, ite_self, leaveStages_mspiQ, setStage_mspiQ]

theorem sendTraining_mspiQ (s : Hw) (g p : Nat) (abort : Bool) : (sendTraining s g p abort).cmd.mspiQ = s.cmd.mspiQ := by
  simp only [sendTraining, Hw.emit_mspiQ, Hw.updGrp_mspiQ, sendSymbols_mspiQ]

theorem settleTraining_mspiQ (n : Nat) (s : Hw) : (settleTraining n s).cmd.mspiQ = s.cmd.mspiQ := by
  simp only [settleTraining, mspiQ_cond, implies_true, Hw.updGrp_mspiQ, mspiQ_ite, ite_self, sendTraining_mspiQ]

theorem tellAbort_mspiQ (s : Hw) (g reason : Nat) : (tellAbort s g reason).cmd.mspiQ = s.cmd.mspiQ := by
  simp only [tellAbort, mspiQ_each, implies_true, flushOam_mspiQ, mspiQ_ite, ite_self, sendOam_mspiQ, sendTraining_mspiQ]

theorem failGroup_mspiQ (s : Hw) (g reason : Nat) : (failGroup s g reason).cmd.mspiQ = s.cmd.mspiQ := by
  simp only [failGroup, Hw.count_mspiQ, Hw.raise_mspiQ, Hw.random_mspiQ, Hw.setFld_mspiQ, Hw.updGrp_mspiQ, mspiQ_ite,
    ite_self, tellAbort_mspiQ, toP1_mspiQ]

theorem reroute_mspiQ (s : Hw) (g : Nat) : (reroute s g).cmd.mspiQ = s.cmd.mspiQ := by
  simp only [reroute, mspiQ_cond, implies_true, Hw.count_mspiQ, Hw.raise_mspiQ, Hw.setFld_mspiQ, mspiQ_ite, ite_self]

theorem loseGroup_mspiQ (s : Hw) (g cause : Nat) : (loseGroup s g cause).cmd.mspiQ = s.cmd.mspiQ := by
  simp only [loseGroup, mspiQ_cond, implies_true, Hw.raise_mspiQ, Hw.setFld_mspiQ, failGroup_mspiQ, mspiQ_ite, ite_self,
    reroute_mspiQ, toP1_mspiQ]

theorem settlePromise_mspiQ (s : Hw) (g : Nat) : (settlePromise s g).cmd.mspiQ = s.cmd.mspiQ := by
  simp only [settlePromise, mspiQ_cond, implies_true, Hw.raise_mspiQ, Hw.setFlag_mspiQ, Hw.setFld_mspiQ, Hw.updGrp_mspiQ]

theorem noteWants_mspiQ (s : Hw) (g : Nat) (ws : List MaskWant) : (noteWants s g ws).cmd.mspiQ = s.cmd.mspiQ := by
  simp only [noteWants, mspiQ_cond, implies_true, Hw.count_mspiQ, Hw.raise_mspiQ, Hw.setFld_mspiQ, Hw.updGrp_mspiQ,
    mspiQ_foldl, mspiQ_ite, ite_self]

theorem queueRemap_mspiQ (s : Hw) (g frame q : Nat) : (queueRemap s g frame q).cmd.mspiQ = s.cmd.mspiQ := by
  unfold queueRemap
  dsimp only
  repeat' split
  all_goals simp only [Hw.updGrp_mspiQ, loseGroup_mspiQ, noteWants_mspiQ, sendFour_mspiQ]

theorem nextRemap_mspiQ (s : Hw) (g : Nat) : (nextRemap s g).cmd.mspiQ = s.cmd.mspiQ := by
  simp only [nextRemap, queueRemap_mspiQ]

theorem askMask_mspiQ (s : Hw) (g : Nat) (ws : List MaskWant) : (askMask s g ws).cmd.mspiQ = s.cmd.mspiQ := by
  simp only [askMask, Hw.updGrp_mspiQ, nextRemap_mspiQ]

theorem declareFail_mspiQ (s : Hw) (g p cause : Nat) : (declareFail s g p cause).cmd.mspiQ = s.cmd.mspiQ := by
  simp only [declareFail, Hw.setFld_mspiQ, Hw.updGrp_mspiQ, askMask_mspiQ, mspiQ_ite, ite_self, loseGroup_mspiQ]

/-! ### The line -/

theorem sendHealth_mspiQ (s : Hw) (g : Nat) : (sendHealth s g).cmd.mspiQ = s.cmd.mspiQ := by
  simp only [sendHealth, Hw.setFld_mspiQ, sendOam_mspiQ]

theorem sendDelay_mspiQ (s : Hw) (g : Nat) : (sendDelay s g).cmd.mspiQ = s.cmd.mspiQ := by
  simp only [sendDelay, sendOam_mspiQ]

theorem laneInP5_mspiQ (s : Hw) (n : Nat) : (laneInP5 s n).cmd.mspiQ = s.cmd.mspiQ := by
  simp only [laneInP5, Hw.updLane_mspiQ]

theorem tooMuch_mspiQ (s : Hw) (g : Nat) : (tooMuch s g).cmd.mspiQ = s.cmd.mspiQ := by
  simp only [tooMuch, mspiQ_cond, implies_true, Hw.raise_mspiQ]

theorem enterP5_mspiQ (s : Hw) (g : Nat) : (enterP5 s g).cmd.mspiQ = s.cmd.mspiQ := by
  simp only [enterP5, Hw.count_mspiQ, mspiQ_each, implies_true, Hw.setFld_mspiQ, Hw.updGrp_mspiQ, laneInP5_mspiQ,
    sendDelay_mspiQ, sendHealth_mspiQ, setStage_mspiQ, tooMuch_mspiQ]

theorem tryReady_mspiQ (s : Hw) (g : Nat) : (tryReady s g).cmd.mspiQ = s.cmd.mspiQ := by
  simp only [tryReady, mspiQ_cond, implies_true, Hw.updGrp_mspiQ, enterP5_mspiQ, mspiQ_ite, ite_self, sendOam_mspiQ]

theorem resumeLanes_mspiQ (s : Hw) (g : Nat) : (resumeLanes s g).cmd.mspiQ = s.cmd.mspiQ := by
  unfold resumeLanes
  refine mspiQ_each fun p t => ?_
  split
  · simp only [mspiQ_ite, Hw.updGrp_mspiQ, ite_self]
  · rfl

theorem startLane_mspiQ (s : Hw) (g p : Nat) : (startLane s g p).cmd.mspiQ = s.cmd.mspiQ := by
  simp only [startLane, mspiQ_cond, implies_true, Hw.emit_mspiQ, Hw.updGrp_mspiQ, mspiQ_ite, ite_self, sendTraining_mspiQ]

theorem applyRemap_mspiQ (s : Hw) (g : Nat) (r : Remap) : (applyRemap s g r).cmd.mspiQ = s.cmd.mspiQ := by
  unfold applyRemap
  dsimp only
  rw [nextRemap_mspiQ, mspiQ_each]
  · simp only [Hw.raise_mspiQ, Hw.setFld_mspiQ, Hw.updGrp_mspiQ]
  · intro p t
    split
    · simp only [mspiQ_ite, Hw.raise_mspiQ, Hw.setFld_mspiQ, Hw.updGrp_mspiQ, ite_self]
    · rfl

theorem startFrame_mspiQ (s : Hw) (g fc frac : Nat) : (startFrame s g fc frac).cmd.mspiQ = s.cmd.mspiQ := by
  unfold startFrame
  dsimp only
  split <;> simp only [mspiQ_cond, mspiQ_each, mspiQ_ite, applyRemap_mspiQ, resumeLanes_mspiQ, startLane_mspiQ, tryReady_mspiQ,
    Hw.setFld_mspiQ, Hw.updGrp_mspiQ, ite_self, implies_true]

theorem applyLfmConfig_mspiQ (p : Bytes) (s : Hw) : (applyLfmConfig p s).cmd.mspiQ = s.cmd.mspiQ := by
  simp only [applyLfmConfig, mspiQ_cond, implies_true, Hw.setFld_mspiQ, startLaneStages_mspiQ]

theorem opLfmConfig_mspiQ (s : Hw) (c : Call) : (opLfmConfig.body s c).state.cmd.mspiQ = s.cmd.mspiQ := by
  simp only [opLfmConfig, mspiQ_res_ite, mspiQ_ok, mspiQ_refuse, ite_self, OpSpec.fix_body, applyLfmConfig_mspiQ]

theorem opLfmStatusRead_mspiQ (s : Hw) (c : Call) : (opLfmStatusRead.body s c).state.cmd.mspiQ = s.cmd.mspiQ := by
  simp only [opLfmStatusRead, mspiQ_ok, OpSpec.fix_body]

theorem opLfmCountRead_mspiQ (s : Hw) (c : Call) : (opLfmCountRead.body s c).state.cmd.mspiQ = s.cmd.mspiQ := by
  simp only [opLfmCountRead, mspiQ_ok, OpSpec.fix_body, mspiQ_cond, implies_true, Hw.zeroRegs_mspiQ]

/-! ### The band repeater -/

theorem Hw.updAmp_mspiQ (s : Hw) (st : Nat) (f : Amp → Amp) : (s.updAmp st f).cmd.mspiQ = s.cmd.mspiQ :=
  congrArg Cmd.mspiQ (Hw.updAmp_cmd ..)

theorem Hw.updBand_mspiQ (s : Hw) (b : Nat) (f : Band → Band) : (s.updBand b f).cmd.mspiQ = s.cmd.mspiQ :=
  congrArg Cmd.mspiQ (Hw.updBand_cmd ..)

theorem setCause_mspiQ (st c : Nat) (v : Bool) (s : Hw) : (setCause st c v s).cmd.mspiQ = s.cmd.mspiQ := by
  unfold setCause
  dsimp only
  split <;> simp only [mspiQ_cond, implies_true, Hw.setFlag_mspiQ, Hw.setFld_mspiQ]

theorem settleValid_mspiQ (s : Hw) : (settleValid s).cmd.mspiQ = s.cmd.mspiQ := by
  simp only [settleValid, mspiQ_each, implies_true, Hw.setFlag_mspiQ]

theorem setTarget_mspiQ (s : Hw) (st t : Nat) : (setTarget s st t).cmd.mspiQ = s.cmd.mspiQ := by
  simp only [setTarget, Hw.setFld_mspiQ, Hw.updAmp_mspiQ, mspiQ_ite, ite_self]

theorem settleTarget_mspiQ (st : Nat) (s : Hw) : (settleTarget st s).cmd.mspiQ = s.cmd.mspiQ := by
  simp only [settleTarget, Hw.setFld_mspiQ, setTarget_mspiQ]

theorem settleShut_mspiQ (st : Nat) (s : Hw) : (settleShut st s).cmd.mspiQ = s.cmd.mspiQ := by
  simp only [settleShut, mspiQ_cond, implies_true, Hw.updFes_mspiQ, setCause_mspiQ]

theorem settlePilot_mspiQ (st : Nat) (s : Hw) : (settlePilot st s).cmd.mspiQ = s.cmd.mspiQ := by
  simp only [settlePilot, Hw.setFlag_mspiQ, Hw.setFld_mspiQ, mspiQ_ite, ite_self]

theorem settleCauses_mspiQ (st : Nat) (s : Hw) : (settleCauses st s).cmd.mspiQ = s.cmd.mspiQ := by
  simp only [settleCauses, mspiQ_cond, implies_true, setCause_mspiQ]

theorem settleFloor_mspiQ (b : Nat) (s : Hw) : (settleFloor b s).cmd.mspiQ = s.cmd.mspiQ := by
  simp only [settleFloor, mspiQ_cond, implies_true, Hw.updBand_mspiQ, mspiQ_ite, ite_self]

theorem clearGuard_mspiQ (st : Nat) (s : Hw) : (clearGuard st s).cmd.mspiQ = s.cmd.mspiQ := by
  simp only [clearGuard, setCause_mspiQ]

theorem settleFibre_mspiQ (g : Nat) (s : Hw) : (settleFibre g s).cmd.mspiQ = s.cmd.mspiQ := by
  unfold settleFibre
  rfl

/-- The stages' part of `settleBrc`. -/
def brcStages (s : Hw) : Hw :=
  s.each stages4 fun st s => settlePilot st (settleShut st (settleTarget st (settleCauses st s)))

/-- `settleBrc`'s flag of a stage that rises to its target. -/
def brcRising (s : Hw) : Hw :=
  s.each stages4 fun st s =>
    s.setFlag (BRC_SSTAT_rising st) (decide (s.fld (BRC_SSTAT_target st) > s.fld (FES_STATE_step (8 + st))))

/-- `settleBrc`'s flag of a granted request. -/
def brcGranted (s : Hw) : Hw :=
  s.setFlag BRC_COEX_STATUS_out_granted (s.flag BRC_COEX_STATUS_xreq_out && s.flag BRC_COEX_STATUS_xgnt_in)

/-- `settleBrc`'s end of a stuck input. -/
def brcUnstuck (s : Hw) : Hw :=
  s.cond (s.flag BRC_COEX_STATUS_in_stuck && !s.brc.xreqPin && decide (s.brc.xlowAt + 10 ^ 6 ≤ s.dtime)) fun s =>
    s.setFld BRC_COEX_STATUS_in_stuck 0

theorem settleBrc_eq (s : Hw) : settleBrc s = if !s.ready 15 then s else
    settleValid (((brcUnstuck (brcGranted (brcRising (brcStages s)))).each [0, 1] settleFibre).each [0, 1] settleFloor) := rfl

theorem brcStages_mspiQ (s : Hw) : (brcStages s).cmd.mspiQ = s.cmd.mspiQ := by
  unfold brcStages
  exact mspiQ_each_eq fun _ _ _ h => by
    rw [← h, settlePilot_mspiQ, settleShut_mspiQ, settleTarget_mspiQ, settleCauses_mspiQ]

theorem brcRising_mspiQ (s : Hw) : (brcRising s).cmd.mspiQ = s.cmd.mspiQ := by
  unfold brcRising
  exact mspiQ_each_eq fun _ _ _ h => by rw [← h, Hw.setFlag_mspiQ]

theorem brcGranted_mspiQ (s : Hw) : (brcGranted s).cmd.mspiQ = s.cmd.mspiQ := by
  unfold brcGranted
  exact Hw.setFlag_mspiQ ..

theorem brcUnstuck_mspiQ (s : Hw) : (brcUnstuck s).cmd.mspiQ = s.cmd.mspiQ := by
  unfold brcUnstuck
  exact mspiQ_cond_eq fun _ _ h => by rw [← h, Hw.setFld_mspiQ]

theorem settleBrc_mspiQ (s : Hw) : (settleBrc s).cmd.mspiQ = s.cmd.mspiQ := by
  rw [settleBrc_eq, mspiQ_ite, settleValid_mspiQ, mspiQ_each settleFloor_mspiQ, mspiQ_each settleFibre_mspiQ,
    brcUnstuck_mspiQ, brcGranted_mspiQ, brcRising_mspiQ, brcStages_mspiQ, ite_self]

theorem setRelease_mspiQ (k n : Nat) (s : Hw) : (setRelease k n s).cmd.mspiQ = s.cmd.mspiQ := by
  unfold setRelease
  rfl

theorem quietFrom_mspiQ (g : Nat) (s : Hw) : (quietFrom g s).cmd.mspiQ = s.cmd.mspiQ := by
  unfold quietFrom
  rfl

theorem resumeTimers_mspiQ (s : Hw) : (resumeTimers s).cmd.mspiQ = s.cmd.mspiQ := by
  simp only [resumeTimers, mspiQ_each, implies_true, Hw.updAmp_mspiQ, Hw.updBand_mspiQ]

theorem leaveMode_mspiQ (s : Hw) : (leaveMode s).cmd.mspiQ = s.cmd.mspiQ := by
  simp only [leaveMode, mspiQ_cond, implies_true, mspiQ_each, Hw.setFld_mspiQ, resumeTimers_mspiQ, setCause_mspiQ]

theorem applyBrcConfig_mspiQ (p : Bytes) (s : Hw) : (applyBrcConfig p s).cmd.mspiQ = s.cmd.mspiQ := by
  simp only [applyBrcConfig, Hw.setFld_mspiQ, Hw.setFldS_mspiQ]

theorem opBrcConfig_mspiQ (s : Hw) (c : Call) : (opBrcConfig.body s c).state.cmd.mspiQ = s.cmd.mspiQ := by
  simp only [opBrcConfig, mspiQ_res_ite, mspiQ_ok, mspiQ_refuse, ite_self, OpSpec.fix_body, applyBrcConfig_mspiQ]

theorem applyBrcStage_mspiQ (p : Bytes) (s : Hw) : (applyBrcStage p s).cmd.mspiQ = s.cmd.mspiQ := by
  simp only [applyBrcStage, Hw.setFld_mspiQ, Hw.setFldS_mspiQ]

theorem opBrcStageConfig_mspiQ (s : Hw) (c : Call) : (opBrcStageConfig.body s c).state.cmd.mspiQ = s.cmd.mspiQ := by
  simp only [opBrcStageConfig, mspiQ_res_ite, mspiQ_ok, mspiQ_refuse, ite_self, OpSpec.fix_body, applyBrcStage_mspiQ]

theorem applyBrcCal_mspiQ (p : Bytes) (s : Hw) : (applyBrcCal p s).cmd.mspiQ = s.cmd.mspiQ := by
  simp only [applyBrcCal, Hw.setFld_mspiQ, Hw.setFldS_mspiQ]

theorem opBrcCalSet_mspiQ (s : Hw) (c : Call) : (opBrcCalSet.body s c).state.cmd.mspiQ = s.cmd.mspiQ := by
  simp only [opBrcCalSet, mspiQ_ok, OpSpec.fix_body, applyBrcCal_mspiQ]

theorem opBrcUnmute_mspiQ (s : Hw) (c : Call) : (opBrcUnmute.body s c).state.cmd.mspiQ = s.cmd.mspiQ := by
  simp only [opBrcUnmute, mspiQ_ok, OpSpec.fix_body, mspiQ_each, implies_true, Hw.updBand_mspiQ, clearGuard_mspiQ]

theorem opBrcQuietSend_mspiQ (s : Hw) (c : Call) : (opBrcQuietSend.body s c).state.cmd.mspiQ = s.cmd.mspiQ := by
  simp only [opBrcQuietSend, mspiQ_res_ite, mspiQ_ok, mspiQ_refuse, ite_self, OpSpec.fix_body, mspiQ_each, implies_true,
    Hw.setFld_mspiQ, quietFrom_mspiQ, sendOam_mspiQ, setRelease_mspiQ]

theorem applyBrcCoex_mspiQ (p : Bytes) (s : Hw) : (applyBrcCoex p s).cmd.mspiQ = s.cmd.mspiQ := by
  simp only [applyBrcCoex, Hw.setFld_mspiQ, mspiQ_ite, ite_self, leaveMode_mspiQ]

theorem opBrcCoexConfig_mspiQ (s : Hw) (c : Call) : (opBrcCoexConfig.body s c).state.cmd.mspiQ = s.cmd.mspiQ := by
  simp only [opBrcCoexConfig, mspiQ_res_ite, mspiQ_ok, mspiQ_refuse, ite_self, OpSpec.fix_body, applyBrcCoex_mspiQ]

theorem opBrcCoexReq_mspiQ (s : Hw) (c : Call) : (opBrcCoexReq.body s c).state.cmd.mspiQ = s.cmd.mspiQ := by
  simp only [opBrcCoexReq, mspiQ_res_ite, mspiQ_wait, mspiQ_ok, mspiQ_refuse, ite_self, OpSpec.fix_body, mspiQ_each,
    implies_true, Hw.setFld_mspiQ, settleCauses_mspiQ, settleGate_mspiQ]

theorem opBrcStatusRead_mspiQ (s : Hw) (c : Call) : (opBrcStatusRead.body s c).state.cmd.mspiQ = s.cmd.mspiQ := by
  simp only [opBrcStatusRead, mspiQ_ok, OpSpec.fix_body, mspiQ_cond, implies_true, Hw.zeroRegs_mspiQ]

theorem brcDown_mspiQ (s : Hw) : (brcDown s).cmd.mspiQ = s.cmd.mspiQ := by
  simp only [brcDown, Hw.coldRegs_mspiQ, mspiQ_each, implies_true]

/-! ### The link -/

theorem settleTx_mspiQ (n : Nat) (s : Hw) : (settleTx n s).cmd.mspiQ = s.cmd.mspiQ := by
  simp only [settleTx, mspiQ_cond, implies_true, Hw.emit_mspiQ, Hw.setFlag_mspiQ, Hw.updGrp_mspiQ, mspiQ_ite, ite_self]

theorem tryP1Exit_mspiQ (g : Nat) (s : Hw) : (tryP1Exit g s).cmd.mspiQ = s.cmd.mspiQ := by
  unfold tryP1Exit
  dsimp only
  repeat' split
  all_goals simp only [mspiQ_each, implies_true, Hw.raise_mspiQ, Hw.setFld_mspiQ, Hw.updGrp_mspiQ, failGroup_mspiQ]

theorem burstStart_mspiQ (g : Nat) (s : Hw) : (burstStart g s).cmd.mspiQ = s.cmd.mspiQ := by
  simp only [burstStart, Hw.updGrp_mspiQ, mspiQ_ite, ite_self]

theorem toP3_mspiQ (s : Hw) (g m : Nat) : (toP3 s g m).cmd.mspiQ = s.cmd.mspiQ := by
  simp only [toP3, mspiQ_each, implies_true, Hw.raise_mspiQ, Hw.setFld_mspiQ, Hw.setNum_mspiQ, Hw.updGrp_mspiQ,
    setStage_mspiQ, startFrame_mspiQ]

theorem tryP2Exit_mspiQ (s : Hw) (g : Nat) (limit : Bool) : (tryP2Exit s g limit).cmd.mspiQ = s.cmd.mspiQ := by
  unfold tryP2Exit
  extract_lets r lanes least due t
  have ht : t.cmd.mspiQ = s.cmd.mspiQ := mspiQ_cond fun _ => rfl
  clear_value t
  split
  · rfl
  · split
    · exact ht
    · split
      · exact ht
      · split
        · exact ht
        · simp only [mspiQ_ite, failGroup_mspiQ, toP3_mspiQ, ht, ite_self]

theorem wakeDomains_mspiQ (s : Hw) (g cause : Nat) : (wakeDomains s g cause).cmd.mspiQ = s.cmd.mspiQ := by
  simp only [wakeDomains, mspiQ_each, implies_true, Hw.wake_mspiQ]

theorem actWake_mspiQ (s : Hw) (g cause tag : Nat) : (actWake s g cause tag).cmd.mspiQ = s.cmd.mspiQ := by
  simp only [actWake, Hw.raise_mspiQ, Hw.setFld_mspiQ, wakeDomains_mspiQ]

theorem actPending_mspiQ (s : Hw) (g : Nat) : (actPending s g).cmd.mspiQ = s.cmd.mspiQ := by
  simp only [actPending, Hw.setFld_mspiQ, actWake_mspiQ, mspiQ_ite, ite_self]

theorem setRetrain_mspiQ (s : Hw) (g p : Nat) (r : Option Retrain) : (setRetrain s g p r).cmd.mspiQ = s.cmd.mspiQ := by
  simp only [setRetrain, Hw.setFld_mspiQ, Hw.updGrp_mspiQ]

theorem startRetrain_mspiQ (s : Hw) (g p : Nat) : (startRetrain s g p).cmd.mspiQ = s.cmd.mspiQ := by
  simp only [startRetrain, Hw.raise_mspiQ, sendOam_mspiQ, setRetrain_mspiQ]

theorem applyLnkConfig_mspiQ (p : Bytes) (s : Hw) : (applyLnkConfig p s).cmd.mspiQ = s.cmd.mspiQ := by
  simp only [applyLnkConfig, Hw.setFld_mspiQ]

theorem opLnkConfig_mspiQ (s : Hw) (c : Call) : (opLnkConfig.body s c).state.cmd.mspiQ = s.cmd.mspiQ := by
  simp only [opLnkConfig, mspiQ_ok, OpSpec.fix_body, applyLnkConfig_mspiQ]

theorem enterIfEnabled_mspiQ (s : Hw) (g : Nat) : (enterIfEnabled s g).cmd.mspiQ = s.cmd.mspiQ := by
  simp only [enterIfEnabled, burstStart_mspiQ, mspiQ_ite, ite_self, toP1_mspiQ]

theorem opLnkUp_mspiQ (s : Hw) (c : Call) : (opLnkUp.body s c).state.cmd.mspiQ = s.cmd.mspiQ := by
  simp only [opLnkUp, mspiQ_res_ite, mspiQ_ok, mspiQ_refuse, ite_self, OpSpec.fix_body, Hw.setFld_mspiQ,
    enterIfEnabled_mspiQ, wakeDomains_mspiQ]

theorem opLnkDown_mspiQ (s : Hw) (c : Call) : (opLnkDown.body s c).state.cmd.mspiQ = s.cmd.mspiQ := by
  simp only [opLnkDown, mspiQ_ok, OpSpec.fix_body, Hw.setFld_mspiQ, toP0_mspiQ]

theorem opLnkRestart_mspiQ (s : Hw) (c : Call) : (opLnkRestart.body s c).state.cmd.mspiQ = s.cmd.mspiQ := by
  simp only [opLnkRestart, mspiQ_res_ite, mspiQ_ok, mspiQ_refuse, ite_self, OpSpec.fix_body, failGroup_mspiQ]

theorem opLnkStatusRead_mspiQ (s : Hw) (c : Call) : (opLnkStatusRead.body s c).state.cmd.mspiQ = s.cmd.mspiQ := by
  simp only [opLnkStatusRead, mspiQ_ok, OpSpec.fix_body]

theorem opLnkLaneRejoin_mspiQ (s : Hw) (c : Call) : (opLnkLaneRejoin.body s c).state.cmd.mspiQ = s.cmd.mspiQ := by
  simp only [opLnkLaneRejoin, mspiQ_res_ite, mspiQ_ok, mspiQ_refuse, ite_self, OpSpec.fix_body, mspiQ_each, implies_true,
    Hw.updGrp_mspiQ, mspiQ_ite, startRetrain_mspiQ]

theorem applyLnkWakeConfig_mspiQ (p : Bytes) (s : Hw) : (applyLnkWakeConfig p s).cmd.mspiQ = s.cmd.mspiQ := by
  simp only [applyLnkWakeConfig, Hw.setNum_mspiQ]

theorem opLnkWakeConfig_mspiQ (s : Hw) (c : Call) : (opLnkWakeConfig.body s c).state.cmd.mspiQ = s.cmd.mspiQ := by
  simp only [opLnkWakeConfig, mspiQ_ok, OpSpec.fix_body, applyLnkWakeConfig_mspiQ]

/-! ### Time slots -/

theorem setSums_mspiQ (s : Hw) : (setSums s).cmd.mspiQ = s.cmd.mspiQ := by
  simp only [setSums, Hw.setFld_mspiQ, Hw.setNum_mspiQ]

theorem mspiQ_tds (s : Hw) (x : Tds) : ({ s with tds := x } : Hw).cmd.mspiQ = s.cmd.mspiQ := rfl

theorem admitOne_mspiQ {s t : Hw} {i : Nat} (h : admitOne s i = .ok t) : t.cmd.mspiQ = s.cmd.mspiQ := by
  unfold admitOne at h
  dsimp only at h
  repeat' split at h
  all_goals cases h
  exact (setSums_mspiQ _).trans ((mspiQ_tds _ _).trans (Hw.setCtx_mspiQ ..))

theorem withdrawOne_mspiQ {s t : Hw} {i : Nat} (h : withdrawOne s i = .ok t) : t.cmd.mspiQ = s.cmd.mspiQ := by
  unfold withdrawOne at h
  split at h
  · cases h
    simp only [setSums_mspiQ, mspiQ_ite, Hw.setCtx_mspiQ, ite_self]
  · cases h

theorem runIndices_mspiQ {f : Hw → Nat → Except (Nat × Nat) Hw} (hok : ∀ {s i t}, f s i = .ok t → t.cmd.mspiQ = s.cmd.mspiQ)
    (p : Bytes) (n j : Nat) (s : Hw) : (runIndices f p n j s).state.cmd.mspiQ = s.cmd.mspiQ := by
  induction n generalizing j s with
  | zero => rfl
  | succ n ih =>
    unfold runIndices
    split
    · rfl
    · exact (ih ..).trans (hok ‹_›)

theorem opTdsAdmit_mspiQ (s : Hw) (c : Call) : (opTdsAdmit.body s c).state.cmd.mspiQ = s.cmd.mspiQ := by
  simp only [opTdsAdmit, OpSpec.list_body, mspiQ_res_ite, mspiQ_refuse, runIndices_mspiQ admitOne_mspiQ, ite_self]

theorem opTdsWithdraw_mspiQ (s : Hw) (c : Call) : (opTdsWithdraw.body s c).state.cmd.mspiQ = s.cmd.mspiQ := by
  simp only [opTdsWithdraw, OpSpec.list_body, mspiQ_res_ite, mspiQ_refuse, runIndices_mspiQ withdrawOne_mspiQ, ite_self]

theorem applyTdsConfig_mspiQ (p : Bytes) (s : Hw) : (applyTdsConfig p s).cmd.mspiQ = s.cmd.mspiQ := by
  simp only [applyTdsConfig, Hw.setFld_mspiQ, setSums_mspiQ]

theorem opTdsConfig_mspiQ (s : Hw) (c : Call) : (opTdsConfig.body s c).state.cmd.mspiQ = s.cmd.mspiQ := by
  simp only [opTdsConfig, OpSpec.fix_body]
  split
  · rfl
  · split <;> simp only [mspiQ_refuse, mspiQ_ok, applyTdsConfig_mspiQ]

theorem applyTdsDelay_mspiQ (p : Bytes) (s : Hw) : (applyTdsDelay p s).cmd.mspiQ = s.cmd.mspiQ := by
  simp only [applyTdsDelay, mspiQ_cond, implies_true, mspiQ_each, Hw.raise_mspiQ, Hw.setNum_mspiQ, setSums_mspiQ]

theorem opTdsDelaySet_mspiQ (s : Hw) (c : Call) : (opTdsDelaySet.body s c).state.cmd.mspiQ = s.cmd.mspiQ := by
  simp only [opTdsDelaySet, mspiQ_res_ite, mspiQ_ok, mspiQ_refuse, ite_self, OpSpec.fix_body, mspiQ_cond, implies_true,
    mspiQ_each, applyTdsDelay_mspiQ, sendDelay_mspiQ]

theorem applyTdsBuf_mspiQ (p : Bytes) (s : Hw) : (applyTdsBuf p s).cmd.mspiQ = s.cmd.mspiQ := by
  simp only [applyTdsBuf, Hw.setFld_mspiQ, setSums_mspiQ]

theorem opTdsBufConfig_mspiQ (s : Hw) (c : Call) : (opTdsBufConfig.body s c).state.cmd.mspiQ = s.cmd.mspiQ := by
  simp only [opTdsBufConfig, OpSpec.fix_body]
  split
  · rfl
  · split <;> simp only [mspiQ_refuse, mspiQ_ok, applyTdsBuf_mspiQ]

theorem opTdsStatusRead_mspiQ (s : Hw) (c : Call) : (opTdsStatusRead.body s c).state.cmd.mspiQ = s.cmd.mspiQ := by
  simp only [opTdsStatusRead, mspiQ_ok, OpSpec.fix_body, mspiQ_cond, implies_true, Hw.setFld_mspiQ, Hw.zeroRegs_mspiQ]

theorem updAsm_mspiQ (s : Hw) (i : Nat) (f : Asm → Asm) : (updAsm s i f).cmd.mspiQ = s.cmd.mspiQ := by
  unfold updAsm
  rfl

theorem dropFrame_mspiQ (s : Hw) (i : Nat) (frame : List ACell) : (dropFrame s i frame).cmd.mspiQ = s.cmd.mspiQ := by
  unfold dropFrame
  dsimp only
  split <;> simp only [updAsm_mspiQ]

/-! ### The host ports -/

theorem applyHslEq_mspiQ (l : Nat) (p : Bytes) (s : Hw) : (applyHslEq l p s).cmd.mspiQ = s.cmd.mspiQ := by
  simp only [applyHslEq, Hw.setFld_mspiQ]

theorem opHslEqSet_mspiQ (s : Hw) (c : Call) : (opHslEqSet.body s c).state.cmd.mspiQ = s.cmd.mspiQ := by
  simp only [opHslEqSet, mspiQ_ok, OpSpec.fix_body, mspiQ_each, implies_true, applyHslEq_mspiQ]

theorem opHslStatusRead_mspiQ (s : Hw) (c : Call) : (opHslStatusRead.body s c).state.cmd.mspiQ = s.cmd.mspiQ := by
  simp only [opHslStatusRead, mspiQ_ok, OpSpec.fix_body]

theorem applyHslConfig_mspiQ (p : Bytes) (s : Hw) : (applyHslConfig p s).cmd.mspiQ = s.cmd.mspiQ := by
  simp only [applyHslConfig, Hw.setFld_mspiQ]

theorem opHslConfig_mspiQ (s : Hw) (c : Call) : (opHslConfig.body s c).state.cmd.mspiQ = s.cmd.mspiQ := by
  simp only [opHslConfig, mspiQ_ok, OpSpec.fix_body, applyHslConfig_mspiQ]

theorem applyPort_mspiQ (p : Bytes) (s : Hw) : (applyPort p s).cmd.mspiQ = s.cmd.mspiQ := by
  simp only [applyPort, Hw.setFlag_mspiQ, Hw.setFld_mspiQ]

theorem dropHeld_mspiQ (s : Hw) (p : Nat) : (dropHeld s p).cmd.mspiQ = s.cmd.mspiQ := by
  simp only [dropHeld, Hw.count_mspiQ, mspiQ_each, implies_true, Hw.updGrp_mspiQ, mspiQ_foldl, dropFrame_mspiQ,
    updPort_mspiQ]

theorem opHpcPortSet_mspiQ (s : Hw) (c : Call) : (opHpcPortSet.body s c).state.cmd.mspiQ = s.cmd.mspiQ := by
  simp only [opHpcPortSet, mspiQ_res_ite, mspiQ_ok, mspiQ_refuse, ite_self, OpSpec.fix_body, mspiQ_cond, implies_true,
    Hw.raise_mspiQ, Hw.setFld_mspiQ, applyPort_mspiQ, dropHeld_mspiQ, updPort_mspiQ]

theorem opHpcPortRead_mspiQ (s : Hw) (c : Call) : (opHpcPortRead.body s c).state.cmd.mspiQ = s.cmd.mspiQ := by
  simp only [opHpcPortRead, mspiQ_ok, OpSpec.fix_body]

theorem opHpcCountRead_mspiQ (s : Hw) (c : Call) : (opHpcCountRead.body s c).state.cmd.mspiQ = s.cmd.mspiQ := by
  simp only [opHpcCountRead, mspiQ_ok, OpSpec.fix_body, mspiQ_cond, implies_true, Hw.zeroRegs_mspiQ]

theorem applyHpcPtp_mspiQ (p : Bytes) (s : Hw) : (applyHpcPtp p s).cmd.mspiQ = s.cmd.mspiQ := by
  simp only [applyHpcPtp, Hw.setFld_mspiQ]

theorem opHpcPtpConfig_mspiQ (s : Hw) (c : Call) : (opHpcPtpConfig.body s c).state.cmd.mspiQ = s.cmd.mspiQ := by
  simp only [opHpcPtpConfig, mspiQ_ok, OpSpec.fix_body, applyHpcPtp_mspiQ]

theorem loseAlignment_mspiQ (p : Nat) (s : Hw) : (loseAlignment p s).cmd.mspiQ = s.cmd.mspiQ := by
  simp only [loseAlignment, Hw.raise_mspiQ, Hw.setFld_mspiQ, mspiQ_ite, ite_self, updPort_mspiQ]

theorem settleHostLane_mspiQ (s : Hw) (l : Nat) : (settleHostLane s l).cmd.mspiQ = s.cmd.mspiQ := by
  simp only [settleHostLane, Hw.setFlag_mspiQ]

theorem settleHost_mspiQ (s : Hw) : (settleHost s).cmd.mspiQ = s.cmd.mspiQ := by
  simp only [settleHost, mspiQ_each, implies_true, Hw.setFlag_mspiQ, settleHostLane_mspiQ, updPort_mspiQ]

/-! ### Timing -/

theorem setMove_mspiQ (s : Hw) (m : Option VMove) : (setMove s m).cmd.mspiQ = s.cmd.mspiQ := by
  simp only [setMove, Hw.setFlag_mspiQ]

theorem beginMove_mspiQ (s : Hw) (auto : Bool) (target : Nat) (endCeil : Option Nat) :
    (beginMove s auto target endCeil).cmd.mspiQ = s.cmd.mspiQ := by
  simp only [beginMove, mspiQ_cond, implies_true, Hw.emit_mspiQ, Hw.setFld_mspiQ, setMove_mspiQ]

theorem autoRaise_mspiQ (s : Hw) : (autoRaise s).cmd.mspiQ = s.cmd.mspiQ := by
  simp only [autoRaise, beginMove_mspiQ, mspiQ_ite, ite_self]

theorem endMove_mspiQ (s : Hw) (status detail : Nat) : (endMove s status detail).cmd.mspiQ = s.cmd.mspiQ := by
  simp only [endMove, autoRaise_mspiQ, setMove_mspiQ, setOutcome_mspiQ]

theorem tryEndMove_mspiQ (s : Hw) : (tryEndMove s).cmd.mspiQ = s.cmd.mspiQ := by
  unfold tryEndMove
  dsimp only
  repeat' split
  all_goals simp only [Hw.setFld_mspiQ, endMove_mspiQ]

theorem startOp_mspiQ (s : Hw) (opc : Nat) (p : Bytes) : (startOp s opc p).state.cmd.mspiQ = s.cmd.mspiQ := by
  unfold startOp
  dsimp only
  split <;> simp only [mspiQ_wait, mspiQ_refuse, mspiQ_cond, implies_true, Hw.setFld_mspiQ, beginMove_mspiQ]

theorem opBody_mspiQ (opc : Nat) (s : Hw) (p : Bytes) : (opBody opc s p).state.cmd.mspiQ = s.cmd.mspiQ := by
  unfold opBody
  split
  · rfl
  · exact startOp_mspiQ ..

theorem settleMove_mspiQ (s : Hw) : (settleMove s).cmd.mspiQ = s.cmd.mspiQ := by
  simp only [settleMove, tryEndMove_mspiQ]

theorem setAlarm_mspiQ (s : Hw) (d : Nat) (v : Bool) : (setAlarm s d v).cmd.mspiQ = s.cmd.mspiQ := by
  simp only [setAlarm, mspiQ_cond, implies_true, Hw.setFld_mspiQ]

theorem leaveAlarm_mspiQ (s : Hw) (d : Nat) : (leaveAlarm s d).cmd.mspiQ = s.cmd.mspiQ := by
  simp only [leaveAlarm, Hw.setFld_mspiQ, mspiQ_ite, ite_self, setAlarm_mspiQ]

theorem opPwrPaceSet_mspiQ (s : Hw) (c : Call) : (opPwrPaceSet.body s c).state.cmd.mspiQ = s.cmd.mspiQ := by
  simp only [opPwrPaceSet, mspiQ_res_ite, mspiQ_ok, mspiQ_refuse, ite_self, OpSpec.fix_body, Hw.setFld_mspiQ, mspiQ_ite]

theorem opPwrOpSet_mspiQ (s : Hw) (c : Call) : (opPwrOpSet.body s c).state.cmd.mspiQ = s.cmd.mspiQ := by
  simp only [opPwrOpSet, OpSpec.fix_body, opBody_mspiQ]

theorem opPwrOpMove_mspiQ (s : Hw) (c : Call) : (opPwrOpMove.body s c).state.cmd.mspiQ = s.cmd.mspiQ := by
  simp only [opPwrOpMove, OpSpec.fix_body, opBody_mspiQ]

theorem opPwrFloorSet_mspiQ (s : Hw) (c : Call) : (opPwrFloorSet.body s c).state.cmd.mspiQ = s.cmd.mspiQ := by
  simp only [opPwrFloorSet, OpSpec.fix_body]
  split
  · rfl
  · split <;> simp only [mspiQ_refuse, mspiQ_ok, mspiQ_cond, Hw.setFld_mspiQ, implies_true]

theorem opPwrSpeedCfg_mspiQ (s : Hw) (c : Call) : (opPwrSpeedCfg.body s c).state.cmd.mspiQ = s.cmd.mspiQ := by
  simp only [opPwrSpeedCfg, mspiQ_ok, OpSpec.fix_body, mspiQ_cond, implies_true, mspiQ_each, Hw.setFld_mspiQ]

theorem opPwrSpeedRead_mspiQ (s : Hw) (c : Call) : (opPwrSpeedRead.body s c).state.cmd.mspiQ = s.cmd.mspiQ := by
  simp only [opPwrSpeedRead, mspiQ_ok, OpSpec.fix_body]

theorem opPwrTimeRead_mspiQ (s : Hw) (c : Call) : (opPwrTimeRead.body s c).state.cmd.mspiQ = s.cmd.mspiQ := by
  simp only [opPwrTimeRead, mspiQ_ok, OpSpec.fix_body, Hw.free_mspiQ]

/-! ### Frames and cells -/

theorem ptpCorrect_mspiQ (s : Hw) (p : Nat) (b : Bytes) (d : Int) : (ptpCorrect s p b d).2.cmd.mspiQ = s.cmd.mspiQ := by
  unfold ptpCorrect
  split
  · exact Hw.count_mspiQ ..
  · rfl

theorem lineTakes_mspiQ (n p : Nat) (s : Hw) : (lineTakes n p s).cmd.mspiQ = s.cmd.mspiQ := by
  induction n generalizing s with
  | zero => rfl
  | succ n ih =>
    unfold lineTakes
    dsimp only
    split
    · rfl
    · simp only [ih, mspiQ_ite, mspiQ_each, sendSymbols_mspiQ, ptpCorrect_mspiQ, updPort_mspiQ, Hw.emit_mspiQ, Hw.updGrp_mspiQ,
        Hw.updLane_mspiQ, ite_self, implies_true]

theorem settleC2_mspiQ (p : Nat) (s : Hw) : (settleC2 p s).cmd.mspiQ = s.cmd.mspiQ := by
  simp only [settleC2, mspiQ_ite, ite_self, lineTakes_mspiQ]

/-! ### Redundancy -/

theorem abandonRetrain_mspiQ (s : Hw) (g p : Nat) : (abandonRetrain s g p).cmd.mspiQ = s.cmd.mspiQ := by
  simp only [abandonRetrain, Hw.raise_mspiQ, mspiQ_ite, ite_self, setRetrain_mspiQ]

theorem settleTrouble_mspiQ (g : Nat) (s : Hw) : (settleTrouble g s).cmd.mspiQ = s.cmd.mspiQ := by
  simp only [settleTrouble, Hw.updGrp_mspiQ]

theorem settleHealth_mspiQ (s : Hw) (g : Nat) : (settleHealth s g).cmd.mspiQ = s.cmd.mspiQ := by
  simp only [settleHealth, Hw.updGrp_mspiQ, mspiQ_ite, ite_self, sendHealth_mspiQ]

theorem revert_mspiQ (s : Hw) (g cause : Nat) : (revert s g cause).cmd.mspiQ = s.cmd.mspiQ := by
  simp only [revert, Hw.raise_mspiQ, Hw.setFld_mspiQ, Hw.updGrp_mspiQ]

theorem settleRdn_mspiQ (s : Hw) : (settleRdn s).cmd.mspiQ = s.cmd.mspiQ := by
  simp only [settleRdn, Hw.setFlag_mspiQ]

theorem applyRdnConfig_mspiQ (p : Bytes) (s : Hw) : (applyRdnConfig p s).cmd.mspiQ = s.cmd.mspiQ := by
  simp only [applyRdnConfig, Hw.setFld_mspiQ]

theorem opRdnConfig_mspiQ (s : Hw) (c : Call) : (opRdnConfig.body s c).state.cmd.mspiQ = s.cmd.mspiQ := by
  simp only [opRdnConfig, mspiQ_ok, OpSpec.fix_body, applyRdnConfig_mspiQ]

theorem opRdnLaneSet_mspiQ (s : Hw) (c : Call) : (opRdnLaneSet.body s c).state.cmd.mspiQ = s.cmd.mspiQ := by
  simp only [opRdnLaneSet, mspiQ_res_ite, mspiQ_ok, mspiQ_refuse, ite_self, OpSpec.fix_body, Hw.setFld_mspiQ,
    Hw.updGrp_mspiQ, askMask_mspiQ]

theorem opRdnRevert_mspiQ (s : Hw) (c : Call) : (opRdnRevert.body s c).state.cmd.mspiQ = s.cmd.mspiQ := by
  simp only [opRdnRevert, mspiQ_res_ite, mspiQ_ok, mspiQ_refuse, ite_self, OpSpec.fix_body, mspiQ_cond, implies_true,
    revert_mspiQ]

theorem opRdnStatusRead_mspiQ (s : Hw) (c : Call) : (opRdnStatusRead.body s c).state.cmd.mspiQ = s.cmd.mspiQ := by
  simp only [opRdnStatusRead, mspiQ_ok, OpSpec.fix_body, mspiQ_cond, implies_true, Hw.zeroRegs_mspiQ]

theorem opRdnFaultInject_mspiQ (s : Hw) (c : Call) : (opRdnFaultInject.body s c).state.cmd.mspiQ = s.cmd.mspiQ := by
  simp only [opRdnFaultInject, mspiQ_res_ite, mspiQ_ok, mspiQ_refuse, ite_self, OpSpec.fix_body, Hw.updGrp_mspiQ,
    abandonRetrain_mspiQ, declareFail_mspiQ]

/-! ### The control loops -/

theorem Hw.updLoop_mspiQ (s : Hw) (l : Nat) (f : Loop → Loop) : (s.updLoop l f).cmd.mspiQ = s.cmd.mspiQ :=
  congrArg Cmd.mspiQ (Hw.updLoop_cmd ..)

theorem endTest_mspiQ (s : Hw) (reason : Nat) : (endTest s reason).cmd.mspiQ = s.cmd.mspiQ := by
  simp only [endTest, Hw.raise_mspiQ, Hw.setFld_mspiQ, mspiQ_ite, ite_self]

theorem applyLoads_mspiQ (s : Hw) (l : Nat) : (applyLoads s l).cmd.mspiQ = s.cmd.mspiQ := by
  simp only [applyLoads, Hw.updLoop_mspiQ, mspiQ_foldl, implies_true, putTable_mspiQ]

theorem settleLoad_mspiQ (s : Hw) : (settleLoad s).cmd.mspiQ = s.cmd.mspiQ := by
  simp only [settleLoad, Hw.setFld_mspiQ]

theorem settleHeldDest_mspiQ (l : Nat) (s : Hw) : (settleHeldDest l s).cmd.mspiQ = s.cmd.mspiQ := by
  simp only [settleHeldDest, Hw.setFlag_mspiQ, mspiQ_ite, ite_self]

theorem settleCle_mspiQ (s : Hw) : (settleCle s).cmd.mspiQ = s.cmd.mspiQ := by
  unfold settleCle
  extract_lets v a b c d e
  have ha : a.cmd.mspiQ = s.cmd.mspiQ := Hw.setFlag_mspiQ ..
  have hb : b.cmd.mspiQ = a.cmd.mspiQ := mspiQ_cond_eq fun _ _ h => by rw [← h, settleLoad_mspiQ, Hw.setFld_mspiQ]
  have he : e.cmd.mspiQ = d.cmd.mspiQ := mspiQ_each settleHeldDest_mspiQ
  have hd : d.cmd.mspiQ = b.cmd.mspiQ := by
    clear_value b
    rfl
  rw [mspiQ_each_eq, he, hd, hb, ha]
  intro k t u h
  rw [← h]
  simp only [mspiQ_ite, Hw.setFld_mspiQ, ite_self]

theorem changeMode_mspiQ (s : Hw) (l m : Nat) : (changeMode s l m).cmd.mspiQ = s.cmd.mspiQ := by
  simp only [changeMode, mspiQ_cond, implies_true, Hw.setFld_mspiQ, Hw.updLoop_mspiQ, mspiQ_foldl, applyLoads_mspiQ,
    endTest_mspiQ, mspiQ_ite, ite_self]

theorem loopOff_mspiQ (s : Hw) (l : Nat) : (loopOff s l).cmd.mspiQ = s.cmd.mspiQ := by
  simp only [loopOff, changeMode_mspiQ, settleLoad_mspiQ]

theorem applyCleLoop_mspiQ (p : Bytes) (s : Hw) : (applyCleLoop p s).cmd.mspiQ = s.cmd.mspiQ := by
  simp only [applyCleLoop, Hw.setFld_mspiQ]

theorem opCleLoopConfig_mspiQ (s : Hw) (c : Call) : (opCleLoopConfig.body s c).state.cmd.mspiQ = s.cmd.mspiQ := by
  simp only [opCleLoopConfig, mspiQ_res_ite, mspiQ_ok, mspiQ_refuse, ite_self, OpSpec.fix_body, applyCleLoop_mspiQ]

theorem opCleCoefLoad_mspiQ (s : Hw) (c : Call) : (opCleCoefLoad.body s c).state.cmd.mspiQ = s.cmd.mspiQ := by
  simp only [opCleCoefLoad, mspiQ_res_ite, mspiQ_ok, mspiQ_refuse, ite_self, OpSpec.fix_body, Hw.raise_mspiQ,
    putWords_mspiQ, setDeclared_mspiQ]

theorem opCleModeSet_mspiQ (s : Hw) (c : Call) : (opCleModeSet.body s c).state.cmd.mspiQ = s.cmd.mspiQ := by
  simp only [opCleModeSet, OpSpec.fix_body]
  split <;> simp only [mspiQ_res_ite, mspiQ_refuse, mspiQ_ok, settleLoad_mspiQ, mspiQ_each, changeMode_mspiQ, ite_self,
    implies_true]

theorem opCleSetpoint_mspiQ (s : Hw) (c : Call) : (opCleSetpoint.body s c).state.cmd.mspiQ = s.cmd.mspiQ := by
  simp only [opCleSetpoint, mspiQ_res_ite, mspiQ_ok, mspiQ_refuse, ite_self, OpSpec.fix_body, mspiQ_cond, implies_true,
    Hw.setNum_mspiQ]

theorem opCleRepLoad_mspiQ (s : Hw) (c : Call) : (opCleRepLoad.body s c).state.cmd.mspiQ = s.cmd.mspiQ := by
  simp only [opCleRepLoad, mspiQ_res_ite, mspiQ_ok, mspiQ_refuse, ite_self, OpSpec.list_body, mspiQ_cond, implies_true,
    Hw.raise_mspiQ, Hw.updLoop_mspiQ, mspiQ_ite, putWords_mspiQ, setDeclared_mspiQ]

theorem opCleRepRead_mspiQ (s : Hw) (c : Call) : (opCleRepRead.body s c).state.cmd.mspiQ = s.cmd.mspiQ := by
  simp only [opCleRepRead, mspiQ_res_ite, mspiQ_done, mspiQ_ok, ite_self, OpSpec.fix_body]

theorem zeroTable_mspiQ (s : Hw) (t : Nat) : (zeroTable s t).cmd.mspiQ = s.cmd.mspiQ := by
  simp only [zeroTable, Hw.raise_mspiQ, putWords_mspiQ, setDeclared_mspiQ]

theorem opCleRepReset_mspiQ (s : Hw) (c : Call) : (opCleRepReset.body s c).state.cmd.mspiQ = s.cmd.mspiQ := by
  simp only [opCleRepReset, mspiQ_ok, ite_self, OpSpec.fix_body, mspiQ_each, implies_true, Hw.setFld_mspiQ,
    Hw.updLoop_mspiQ, mspiQ_ite, zeroTable_mspiQ]

theorem applyCleLia_mspiQ (p : Bytes) (s : Hw) : (applyCleLia p s).cmd.mspiQ = s.cmd.mspiQ := by
  simp only [applyCleLia, Hw.setFld_mspiQ]

theorem opCleLiaConfig_mspiQ (s : Hw) (c : Call) : (opCleLiaConfig.body s c).state.cmd.mspiQ = s.cmd.mspiQ := by
  simp only [opCleLiaConfig, mspiQ_ok, OpSpec.fix_body, applyCleLia_mspiQ]

theorem opCleTestStart_mspiQ (s : Hw) (c : Call) : (opCleTestStart.body s c).state.cmd.mspiQ = s.cmd.mspiQ := by
  simp only [opCleTestStart, mspiQ_res_ite, mspiQ_ok, mspiQ_refuse, ite_self, OpSpec.fix_body, Hw.raise_mspiQ,
    Hw.setFld_mspiQ, Hw.setNum_mspiQ]

theorem opCleTestStop_mspiQ (s : Hw) (c : Call) : (opCleTestStop.body s c).state.cmd.mspiQ = s.cmd.mspiQ := by
  simp only [opCleTestStop, mspiQ_ok, OpSpec.fix_body, endTest_mspiQ]

theorem opCleStatusRead_mspiQ (s : Hw) (c : Call) : (opCleStatusRead.body s c).state.cmd.mspiQ = s.cmd.mspiQ := by
  simp only [opCleStatusRead, mspiQ_ok, OpSpec.fix_body, mspiQ_cond, implies_true, Hw.zeroRegs_mspiQ]

theorem opCleInit_mspiQ (s : Hw) (c : Call) : (opCleInit.body s c).state.cmd.mspiQ = s.cmd.mspiQ := by
  simp only [opCleInit, mspiQ_ok, OpSpec.fix_body, mspiQ_each, implies_true, Hw.updLoop_mspiQ, changeMode_mspiQ,
    settleLoad_mspiQ, zeroTable_mspiQ]

theorem cleDown_mspiQ (s : Hw) : (cleDown s).cmd.mspiQ = s.cmd.mspiQ := by
  simp only [cleDown, Hw.coldRegs_mspiQ, mspiQ_each, implies_true, endTest_mspiQ]

/-! ### The converters -/

theorem Hw.updConv_mspiQ (s : Hw) (c : Nat) (f : Conv → Conv) : (s.updConv c f).cmd.mspiQ = s.cmd.mspiQ :=
  congrArg Cmd.mspiQ (Hw.updConv_cmd ..)

theorem settleMains_mspiQ (s : Hw) : (settleMains s).cmd.mspiQ = s.cmd.mspiQ := by
  simp only [settleMains, Hw.setFld_mspiQ, Hw.setNum64_mspiQ, mspiQ_ite, ite_self]

theorem beginWindow_mspiQ (s : Hw) (c : Nat) (w : List Nat) : (beginWindow s c w).cmd.mspiQ = s.cmd.mspiQ := by
  simp only [beginWindow, Hw.updConv_mspiQ]

theorem beginVisit_mspiQ (s : Hw) (c e : Nat) : (beginVisit s c e).cmd.mspiQ = s.cmd.mspiQ := by
  simp only [beginVisit, mspiQ_cond, implies_true, Hw.setFld_mspiQ, Hw.updConv_mspiQ, beginWindow_mspiQ, mspiQ_ite,
    ite_self]

theorem skipEntry_mspiQ (s : Hw) (e field : Nat) : (skipEntry s e field).cmd.mspiQ = s.cmd.mspiQ := by
  simp only [skipEntry, Hw.count_mspiQ, Hw.raise_mspiQ]

theorem walk_mspiQ {s t : Hw} {c : Nat} {es : List Nat} (h : walk s c es = some t) : t.cmd.mspiQ = s.cmd.mspiQ := by
  induction es generalizing s with
  | nil => cases h
  | cons e es ih =>
    unfold walk at h
    split at h
    · exact (ih h).trans (skipEntry_mspiQ ..)
    · cases h
      exact beginVisit_mspiQ ..

theorem walk_getD_mspiQ (s : Hw) (c : Nat) (es : List Nat) : ((walk s c es).getD s).cmd.mspiQ = s.cmd.mspiQ := by
  cases h : walk s c es with
  | none => rfl
  | some t => exact walk_mspiQ h

theorem goOn_mspiQ (s : Hw) (c start : Nat) : (goOn s c start).cmd.mspiQ = s.cmd.mspiQ := by
  unfold goOn
  dsimp only
  split
  · exact Hw.updConv_mspiQ ..
  · split
    · simp only [mspiQ_cond, mspiQ_foldl, skipEntry_mspiQ, Hw.updConv_mspiQ, implies_true]
    · split
      · exact walk_mspiQ ‹_›
      · rw [walk_getD_mspiQ, Hw.updConv_mspiQ]
        split <;> simp only [mspiQ_foldl, skipEntry_mspiQ, Hw.setNum_mspiQ, implies_true]

theorem settleConv_mspiQ (c : Nat) (s : Hw) : (settleConv c s).cmd.mspiQ = s.cmd.mspiQ := by
  simp only [settleConv, Hw.updConv_mspiQ, goOn_mspiQ, mspiQ_ite, ite_self]

theorem settleMcv_mspiQ (s : Hw) : (settleMcv s).cmd.mspiQ = s.cmd.mspiQ := by
  simp only [settleMcv, mspiQ_each, implies_true, settleConv_mspiQ, settleMains_mspiQ]

theorem beginPlaus_mspiQ (s : Hw) (p : Nat) (x : Plaus) : (beginPlaus s p x).cmd.mspiQ = s.cmd.mspiQ := by
  simp only [beginPlaus, mspiQ_each, implies_true, Hw.setFld_mspiQ, Hw.updConv_mspiQ]

theorem applyMcvConfig_mspiQ (p : Bytes) (s : Hw) : (applyMcvConfig p s).cmd.mspiQ = s.cmd.mspiQ := by
  simp only [applyMcvConfig, Hw.setFld_mspiQ, mspiQ_ite, ite_self]

theorem opMcvConfig_mspiQ (s : Hw) (c : Call) : (opMcvConfig.body s c).state.cmd.mspiQ = s.cmd.mspiQ := by
  simp only [opMcvConfig, mspiQ_ok, OpSpec.fix_body, applyMcvConfig_mspiQ]

theorem opMcvSeqLoad_mspiQ (s : Hw) (c : Call) : (opMcvSeqLoad.body s c).state.cmd.mspiQ = s.cmd.mspiQ := by
  simp only [opMcvSeqLoad, mspiQ_res_ite, mspiQ_ok, mspiQ_refuse, ite_self, OpSpec.list_body, Hw.raise_mspiQ,
    putWords_mspiQ, setDeclared_mspiQ]

theorem opMcvSeqStore_mspiQ (s : Hw) (c : Call) : (opMcvSeqStore.body s c).state.cmd.mspiQ = s.cmd.mspiQ := by
  simp only [opMcvSeqStore, mspiQ_res_ite, mspiQ_ok, mspiQ_refuse, ite_self, OpSpec.fix_body, Hw.setFld_mspiQ]

theorem opMcvSeqRead_mspiQ (s : Hw) (c : Call) : (opMcvSeqRead.body s c).state.cmd.mspiQ = s.cmd.mspiQ := by
  simp only [opMcvSeqRead, mspiQ_res_ite, mspiQ_done, mspiQ_ok, ite_self, OpSpec.fix_body]

theorem opMcvResultRead_mspiQ (s : Hw) (c : Call) : (opMcvResultRead.body s c).state.cmd.mspiQ = s.cmd.mspiQ := by
  simp only [opMcvResultRead, mspiQ_ok, OpSpec.fix_body]

theorem opMcvPlausRun_mspiQ (s : Hw) (c : Call) : (opMcvPlausRun.body s c).state.cmd.mspiQ = s.cmd.mspiQ := by
  simp only [opMcvPlausRun, mspiQ_res_ite, mspiQ_wait, mspiQ_refuse, ite_self, OpSpec.fix_body, mspiQ_each, implies_true,
    beginPlaus_mspiQ]

theorem opMcvUnquarantine_mspiQ (s : Hw) (c : Call) : (opMcvUnquarantine.body s c).state.cmd.mspiQ = s.cmd.mspiQ := by
  simp only [opMcvUnquarantine, mspiQ_res_ite, mspiQ_wait, mspiQ_refuse, ite_self, OpSpec.fix_body, beginPlaus_mspiQ]

theorem opMcvStatusRead_mspiQ (s : Hw) (c : Call) : (opMcvStatusRead.body s c).state.cmd.mspiQ = s.cmd.mspiQ := by
  simp only [opMcvStatusRead, mspiQ_ok, OpSpec.fix_body, mspiQ_cond, implies_true, Hw.zeroRegs_mspiQ]

/-! ### The fabric -/

theorem tableLost_mspiQ (s : Hw) (t a : Nat) : (tableLost s t a).cmd.mspiQ = s.cmd.mspiQ := by
  simp only [tableLost, mspiQ_ite, ite_self, loopOff_mspiQ, putWords_mspiQ, setDeclared_mspiQ, setFault_mspiQ]

theorem mappedError_mspiQ (s : Hw) (a synd : Nat) (uncorrectable : Bool) :
    (mappedError s a synd uncorrectable).cmd.mspiQ = s.cmd.mspiQ := by
  unfold mappedError
  dsimp only
  split <;> simp only [mspiQ_ite, ite_self, memCorrected_mspiQ, memPreInit_mspiQ, memUncorrectable_mspiQ, tableLost_mspiQ]

theorem clampFld_mspiQ (lo hi : Nat) (f : Fld) (s : Hw) : (clampFld lo hi f s).cmd.mspiQ = s.cmd.mspiQ := by
  simp only [clampFld, Hw.setFld_mspiQ]

theorem clampWord_mspiQ (a : Nat) (s : Hw) : (clampWord a s).cmd.mspiQ = s.cmd.mspiQ := by
  simp only [clampWord, clampFld_mspiQ, holdMain_mspiQ, mspiQ_ite, ite_self]

theorem writeWord_mspiQ (a v during : Nat) (s : Hw) : (writeWord a v during s).cmd.mspiQ = s.cmd.mspiQ := by
  unfold writeWord
  dsimp only
  split <;> simp only [Hw.setReg_mspiQ, clampWord_mspiQ, mspiQ_ite, ite_self, putTable_mspiQ]

theorem writeWords_mspiQ (a during : Nat) (vs : List Nat) (s : Hw) : (writeWords a during vs s).cmd.mspiQ = s.cmd.mspiQ :=
  (mspiQ_each fun _ _ => wroteWhole_mspiQ ..).trans (mspiQ_foldl_fst (fun _ _ => writeWord_mspiQ ..) _)

theorem readRange_mspiQ (src : Nat) (ups : List (Nat × Nat)) (l : List Nat) (s : Hw) (ws : List Nat)
    (bad : Option (Nat × Nat)) : (readRange src ups l s ws bad).1.cmd.mspiQ = s.cmd.mspiQ := by
  induction l generalizing s ws bad with
  | nil => rfl
  | cons a l ih =>
    unfold readRange
    dsimp only
    rw [ih, readWord_mspiQ]
    split
    · exact mappedError_mspiQ ..
    · rfl

theorem reply_mspiQ (p : Packet) (status : Nat) (data : List Nat) (bad : Option Nat) (s : Hw) :
    (reply p status data bad s).cmd.mspiQ = s.cmd.mspiQ := by
  simp only [reply, mspiQ_cond, implies_true]

theorem atUnit_mspiQ (p : Packet) (s : Hw) : (atUnit p s).cmd.mspiQ = s.cmd.mspiQ := by
  unfold atUnit
  simp only [mspiQ_ite, reply_mspiQ, readRange_mspiQ, writeWords_mspiQ, ite_self]

theorem atBoundary_mspiQ (p : Packet) (s : Hw) : (atBoundary p s).cmd.mspiQ = s.cmd.mspiQ := by
  unfold atBoundary
  split <;> simp only [mspiQ_ite, atUnit_mspiQ, reply_mspiQ, Hw.access_mspiQ, Hw.setDom_mspiQ, ite_self]

theorem sendPacket_mspiQ (p : Packet) (s : Hw) : (sendPacket p s).cmd.mspiQ = s.cmd.mspiQ := by
  simp only [sendPacket, atBoundary_mspiQ, mspiQ_ite, ite_self]

theorem releaseHeld_mspiQ (s : Hw) : (releaseHeld s).cmd.mspiQ = s.cmd.mspiQ := by
  simp only [releaseHeld, mspiQ_foldl, implies_true, sendPacket_mspiQ]

theorem deliverPackets_mspiQ (d : Nat) (s : Hw) : (deliverPackets d s).cmd.mspiQ = s.cmd.mspiQ := by
  simp only [deliverPackets, Hw.setDom_mspiQ, mspiQ_foldl, implies_true, atUnit_mspiQ, releaseHeld_mspiQ]

theorem fencePackets_mspiQ (d : Nat) (s : Hw) : (fencePackets d s).cmd.mspiQ = s.cmd.mspiQ := by
  simp only [fencePackets, Hw.setDom_mspiQ, mspiQ_foldl, implies_true, releaseHeld_mspiQ, reply_mspiQ]

theorem nextTag_mspiQ (src : Nat) (s : Hw) : (nextTag src s).2.cmd.mspiQ = s.cmd.mspiQ := by
  unfold nextTag
  rfl

theorem issueRead_mspiQ (src a n : Nat) (ups : List (Nat × Nat)) (s : Hw) :
    (issueRead src a n ups s).2.cmd.mspiQ = s.cmd.mspiQ :=
  (sendPacket_mspiQ ..).trans (nextTag_mspiQ ..)

theorem issueWrite_mspiQ (src a during : Nat) (vs : List Nat) (s : Hw) :
    (issueWrite src a during vs s).2.cmd.mspiQ = s.cmd.mspiQ :=
  (sendPacket_mspiQ ..).trans (nextTag_mspiQ ..)

/-! ### Power and sleep -/

theorem updPwr_mspiQ (s : Hw) (f : Pwr → Pwr) : (updPwr s f).cmd.mspiQ = s.cmd.mspiQ :=
  congrArg Cmd.mspiQ (updPwr_cmd ..)

theorem askReset_mspiQ (s : Hw) (kind : Nat) : (askReset s kind).cmd.mspiQ = s.cmd.mspiQ := by
  simp only [askReset, updPwr_mspiQ]

theorem domainDown_mspiQ (d : Nat) (s : Hw) : (domainDown d s).cmd.mspiQ = s.cmd.mspiQ := by
  simp only [domainDown, mspiQ_cond, implies_true, mspiQ_each, Hw.setFld_mspiQ, abandonCommits_mspiQ, abandonRetrain_mspiQ,
    aouDown_mspiQ, brcDown_mspiQ, cleDown_mspiQ, declareFail_mspiQ, dropLock_mspiQ, fesDown_mspiQ, mspiQ_ite, ite_self,
    loseAlignment_mspiQ, loseGroup_mspiQ, toP0_mspiQ, updGth_mspiQ, updPort_mspiQ, updPwr_mspiQ]

theorem switchOff_mspiQ (d : Nat) (s : Hw) : (switchOff d s).cmd.mspiQ = s.cmd.mspiQ := by
  simp only [switchOff, Hw.setDom_mspiQ, Hw.setFld_mspiQ, breakLaps_mspiQ, domainDown_mspiQ, mspiQ_ite, ite_self,
    leaveAlarm_mspiQ]

theorem repower_mspiQ (d : Nat) (s : Hw) : (repower d s).cmd.mspiQ = s.cmd.mspiQ := by
  simp only [repower, Hw.setDom_mspiQ, Hw.setFld_mspiQ]

theorem setFence_mspiQ (d by_ : Nat) (v : Bool) (s : Hw) : (setFence d by_ v s).cmd.mspiQ = s.cmd.mspiQ := by
  simp only [setFence, mspiQ_cond, implies_true, Hw.raise_mspiQ, Hw.setFlag_mspiQ, Hw.setFld_mspiQ, fencePackets_mspiQ]

theorem clearFence_mspiQ (d : Nat) (s : Hw) : (clearFence d s).cmd.mspiQ = s.cmd.mspiQ := by
  simp only [clearFence, mspiQ_ite, ite_self, setFence_mspiQ]

theorem journalInternal_mspiQ (s : Hw) (opc : Nat) (p : Bytes) : (journalInternal s opc p).cmd.mspiQ = s.cmd.mspiQ := by
  simp only [journalInternal, addEntry_mspiQ, closeEntry_mspiQ]

theorem internalTargets_mspiQ (s : Hw) (mask t : Nat) : (internalTargets s mask t).cmd.mspiQ = s.cmd.mspiQ := by
  simp only [internalTargets, mspiQ_ite, ite_self, journalInternal_mspiQ, setTargets_mspiQ]

theorem lowerTargets_mspiQ (s : Hw) : (lowerTargets s).cmd.mspiQ = s.cmd.mspiQ := by
  simp only [lowerTargets, mspiQ_each, implies_true, Hw.updFes_mspiQ, internalTargets_mspiQ, notLocked_mspiQ, updPwr_mspiQ]

theorem restoreTargets_mspiQ (s : Hw) : (restoreTargets s).cmd.mspiQ = s.cmd.mspiQ := by
  simp only [restoreTargets, mspiQ_each, implies_true, internalTargets_mspiQ, updPwr_mspiQ]

theorem lowWake_mspiQ (s : Hw) : (lowWake s).cmd.mspiQ = s.cmd.mspiQ := by
  simp only [lowWake, mspiQ_each, implies_true, Hw.wake_mspiQ, actPending_mspiQ, restoreTargets_mspiQ, updPwr_mspiQ]

theorem settleLowWake_mspiQ (s : Hw) : (settleLowWake s).cmd.mspiQ = s.cmd.mspiQ := by
  simp only [settleLowWake, Hw.raise_mspiQ, mspiQ_ite, ite_self, updPwr_mspiQ]

theorem storeLehr_mspiQ (s : Hw) (r : LehrRec) : (storeLehr s r).cmd.mspiQ = s.cmd.mspiQ := by
  simp only [storeLehr, setIdent_mspiQ]

theorem enterRows_mspiQ (s : Hw) (found : List LehrRegion) : (enterRows s found).cmd.mspiQ = s.cmd.mspiQ := by
  simp only [enterRows, mspiQ_foldl, implies_true, enterRepair_mspiQ]

theorem keepLehr_mspiQ (s : Hw) (found : List LehrRegion) (r : LehrRec) : (keepLehr s found r).cmd.mspiQ = s.cmd.mspiQ := by
  simp only [keepLehr, enterRows_mspiQ, storeLehr_mspiQ, updPwr_mspiQ]

theorem deliverQueued_mspiQ (d : Nat) (s : Hw) : (deliverQueued d s).cmd.mspiQ = s.cmd.mspiQ := by
  simp only [deliverQueued, Hw.access_mspiQ, mspiQ_cond, implies_true, Hw.setDom_mspiQ, deliverPackets_mspiQ, mspiQ_ite,
    ite_self]

theorem lehrPlaus_mspiQ (s : Hw) (target : Nat) (on : Bool) : (lehrPlaus s target on).cmd.mspiQ = s.cmd.mspiQ := by
  simp only [lehrPlaus, mspiQ_cond, implies_true, Hw.setFld_mspiQ]

theorem lehrLeave_mspiQ (s : Hw) (x : LehrRun) : (lehrLeave s x).cmd.mspiQ = s.cmd.mspiQ := by
  unfold lehrLeave
  simp only [mspiQ_cond, mspiQ_each, deliverQueued_mspiQ, lehrPlaus_mspiQ, switchOff_mspiQ, updPwr_mspiQ, Hw.setFld_mspiQ,
    implies_true]

theorem lehrAbort_mspiQ (reason : Nat) (found : List LehrRegion) (s : Hw) :
    (lehrAbort reason found s).cmd.mspiQ = s.cmd.mspiQ := by
  unfold lehrAbort
  split
  · rfl
  · simp only [setOutcome_mspiQ, lehrLeave_mspiQ, Hw.raise_mspiQ, Hw.setFld_mspiQ, keepLehr_mspiQ]

theorem lehrRefused_mspiQ (s : Hw) (target k : Nat) : (lehrRefused s target k).cmd.mspiQ = s.cmd.mspiQ := by
  simp only [lehrRefused, Hw.raise_mspiQ, Hw.setFld_mspiQ, storeLehr_mspiQ]

theorem beginTest_mspiQ (s : Hw) : (beginTest s).cmd.mspiQ = s.cmd.mspiQ := by
  unfold beginTest
  dsimp only
  split <;> simp only [mspiQ_cond, implies_true, mspiQ_each, Hw.setFld_mspiQ, Hw.wake_mspiQ, mspiQ_ite, ite_self,
    lehrPlaus_mspiQ, switchOff_mspiQ, updPwr_mspiQ]

theorem wakesAct_mspiQ (s : Hw) : (wakesAct s).cmd.mspiQ = s.cmd.mspiQ := by
  simp only [wakesAct, mspiQ_each, implies_true, actPending_mspiQ, enterIfEnabled_mspiQ, mspiQ_ite, ite_self]

theorem finishSleep_mspiQ (s : Hw) (z : Sleep) : (finishSleep s z).cmd.mspiQ = s.cmd.mspiQ := by
  have hoff : ∀ (d : Nat) (t : Hw), (t.cond (t.domState d != 0) fun s =>
      (switchOff d s).cond (s.fenced d && s.fld (PWR_DOM_fence_by d) == 2) (setFence d 2 false)).cmd.mspiQ = t.cmd.mspiQ :=
    fun d t => mspiQ_cond fun _ => (mspiQ_cond (setFence_mspiQ d 2 false)).trans (switchOff_mspiQ ..)
  unfold finishSleep
  simp only [wakesAct_mspiQ, mspiQ_ite, setOutcome_mspiQ, lowWake_mspiQ, Hw.raise_mspiQ, beginTest_mspiQ, mspiQ_each,
    deliverQueued_mspiQ, updPwr_mspiQ, hoff, ite_self, implies_true]

theorem askNext_mspiQ (n : Nat) (s : Hw) : (askNext n s).cmd.mspiQ = s.cmd.mspiQ := by
  induction n generalizing s with
  | zero => rfl
  | succ n ih =>
    unfold askNext
    split
    · rfl
    · split
      · exact finishSleep_mspiQ ..
      · simp only [ih, mspiQ_ite, updPwr_mspiQ, Hw.setFld_mspiQ, ite_self]

theorem beginSleep_mspiQ (s : Hw) (mask owner target : Nat) (forced : Bool) :
    (beginSleep s mask owner target forced).cmd.mspiQ = s.cmd.mspiQ := by
  simp only [beginSleep, askNext_mspiQ, updPwr_mspiQ]

theorem lowPowerRun_mspiQ (s : Hw) : (lowPowerRun s).cmd.mspiQ = s.cmd.mspiQ := by
  simp only [lowPowerRun, mspiQ_each, implies_true, beginSleep_mspiQ, lowerTargets_mspiQ, toP0_mspiQ]

theorem runLowDue_mspiQ (s : Hw) : (runLowDue s).cmd.mspiQ = s.cmd.mspiQ := by
  simp only [runLowDue, mspiQ_cond, implies_true, mspiQ_ite, ite_self, lowPowerRun_mspiQ, updPwr_mspiQ]

theorem refuseSleep_mspiQ (d : Nat) (s : Hw) : (refuseSleep d s).cmd.mspiQ = s.cmd.mspiQ := by
  unfold refuseSleep
  split
  · rfl
  · extract_lets back a b t
    have ha : a.cmd.mspiQ = s.cmd.mspiQ := mspiQ_each_eq fun _ _ _ h => by rw [← h, deliverQueued_mspiQ, Hw.setFld_mspiQ]
    have hb : b.cmd.mspiQ = a.cmd.mspiQ := updPwr_mspiQ ..
    have ht : t.cmd.mspiQ = b.cmd.mspiQ := Hw.raise_mspiQ ..
    simp only [wakesAct_mspiQ, mspiQ_ite, setOutcome_mspiQ, runLowDue_mspiQ, updPwr_mspiQ, Hw.setFld_mspiQ, ht, hb, ha, ite_self]

theorem settleAnalog_mspiQ (s : Hw) : (settleAnalog s).cmd.mspiQ = s.cmd.mspiQ := by
  simp only [settleAnalog, Hw.setFld_mspiQ, mspiQ_ite, ite_self]

theorem domainFailure_mspiQ (d cause : Nat) (s : Hw) : (domainFailure d cause s).cmd.mspiQ = s.cmd.mspiQ := by
  unfold domainFailure
  dsimp only
  generalize hoff : (if (recentFails _ d).length ≥ 3 then _ else _ : Hw) = t
  have ht : t.cmd.mspiQ = s.cmd.mspiQ := by
    rw [← hoff]
    simp only [mspiQ_ite, repower_mspiQ, switchOff_mspiQ, setFence_mspiQ, Hw.raise_mspiQ, Hw.setDom_mspiQ, ite_self]
  clear hoff
  split
  · rfl
  · split
    · exact ht
    · simp only [mspiQ_ite, askNext_mspiQ, refuseSleep_mspiQ, updPwr_mspiQ, ht, ite_self]

theorem settlePower_mspiQ (s : Hw) : (settlePower s).cmd.mspiQ = s.cmd.mspiQ := by
  unfold settlePower
  dsimp only
  split
  · simp only [mspiQ_ite, lehrAbort_mspiQ, settleLowWake_mspiQ, settleAnalog_mspiQ, ite_self]
  · exact (settleLowWake_mspiQ _).trans (settleAnalog_mspiQ s)

theorem opPwrDomainRead_mspiQ (s : Hw) (c : Call) : (opPwrDomainRead.body s c).state.cmd.mspiQ = s.cmd.mspiQ := by
  simp only [opPwrDomainRead, mspiQ_ok, OpSpec.fix_body]

theorem opPwrWake_mspiQ (s : Hw) (c : Call) : (opPwrWake.body s c).state.cmd.mspiQ = s.cmd.mspiQ := by
  simp only [opPwrWake, mspiQ_res_ite, mspiQ_wait, mspiQ_ok, mspiQ_refuse, ite_self, OpSpec.fix_body, mspiQ_each,
    implies_true, Hw.wake_mspiQ]

theorem opPwrSleep_mspiQ (s : Hw) (c : Call) : (opPwrSleep.body s c).state.cmd.mspiQ = s.cmd.mspiQ := by
  simp only [opPwrSleep, mspiQ_res_ite, mspiQ_wait, mspiQ_ok, mspiQ_refuse, ite_self, OpSpec.fix_body, beginSleep_mspiQ]

theorem fenceOne_mspiQ (fence : Bool) (d : Nat) (s : Hw) : (fenceOne fence d s).cmd.mspiQ = s.cmd.mspiQ := by
  simp only [fenceOne, Hw.setDom_mspiQ, clearFence_mspiQ, mspiQ_ite, ite_self, setFence_mspiQ, switchOff_mspiQ]

theorem opPwrFence_mspiQ (s : Hw) (c : Call) : (opPwrFence.body s c).state.cmd.mspiQ = s.cmd.mspiQ := by
  simp only [opPwrFence, mspiQ_ok, OpSpec.fix_body, mspiQ_each, implies_true, fenceOne_mspiQ]

theorem opPwrDomainReset_mspiQ (s : Hw) (c : Call) : (opPwrDomainReset.body s c).state.cmd.mspiQ = s.cmd.mspiQ := by
  simp only [opPwrDomainReset, mspiQ_ok, OpSpec.fix_body, Hw.setDom_mspiQ, clearFence_mspiQ, repower_mspiQ, switchOff_mspiQ]

theorem opPwrLehrRun_mspiQ (s : Hw) (c : Call) : (opPwrLehrRun.body s c).state.cmd.mspiQ = s.cmd.mspiQ := by
  simp only [opPwrLehrRun, mspiQ_res_ite, mspiQ_wait, mspiQ_refuse, ite_self, OpSpec.fix_body, mspiQ_each, implies_true,
    Hw.setFld_mspiQ, beginSleep_mspiQ, lehrRefused_mspiQ, setTargets_mspiQ, toP0_mspiQ, updPwr_mspiQ]

theorem opPwrLehrRead_mspiQ (s : Hw) (c : Call) : (opPwrLehrRead.body s c).state.cmd.mspiQ = s.cmd.mspiQ := by
  simp only [opPwrLehrRead, mspiQ_ok, OpSpec.fix_body]

theorem applyPwrConfig_mspiQ (p : Bytes) (s : Hw) : (applyPwrConfig p s).cmd.mspiQ = s.cmd.mspiQ := by
  simp only [applyPwrConfig, Hw.setFld_mspiQ]

theorem opPwrConfig_mspiQ (s : Hw) (c : Call) : (opPwrConfig.body s c).state.cmd.mspiQ = s.cmd.mspiQ := by
  simp only [opPwrConfig, mspiQ_ok, OpSpec.fix_body, applyPwrConfig_mspiQ]

/-! ### Security -/

theorem passed_mspiQ (s : Hw) (k : Nat) : (passed s k).cmd.mspiQ = s.cmd.mspiQ := by
  unfold passed
  rfl

theorem settleSec_mspiQ (s : Hw) : (settleSec s).cmd.mspiQ = s.cmd.mspiQ := by
  simp only [settleSec, mspiQ_cond, implies_true, Hw.setFlag_mspiQ, Hw.setFld_mspiQ, Hw.setNum_mspiQ]

theorem opSecIdRead_mspiQ (s : Hw) (c : Call) : (opSecIdRead.body s c).state.cmd.mspiQ = s.cmd.mspiQ := by
  simp only [opSecIdRead, mspiQ_ok, OpSpec.fix_body]

theorem opSecCertRead_mspiQ (s : Hw) (c : Call) : (opSecCertRead.body s c).state.cmd.mspiQ = s.cmd.mspiQ := by
  simp only [opSecCertRead, mspiQ_ok, OpSpec.fix_body]

theorem opSecAttest_mspiQ (s : Hw) (c : Call) : (opSecAttest.body s c).state.cmd.mspiQ = s.cmd.mspiQ := by
  simp only [opSecAttest, mspiQ_ok, OpSpec.fix_body, Hw.random_mspiQ]

theorem opSecKeyEnroll_mspiQ (s : Hw) (c : Call) : (opSecKeyEnroll.body s c).state.cmd.mspiQ = s.cmd.mspiQ := by
  simp only [opSecKeyEnroll, mspiQ_res_ite, mspiQ_ok, mspiQ_refuse, ite_self, OpSpec.fix_body, Hw.raise_mspiQ,
    setIdent_mspiQ]

theorem opSecKeyRevoke_mspiQ (s : Hw) (c : Call) : (opSecKeyRevoke.body s c).state.cmd.mspiQ = s.cmd.mspiQ := by
  simp only [opSecKeyRevoke, OpSpec.fix_body]
  split <;> simp only [mspiQ_res_ite, mspiQ_refuse, mspiQ_ok, Hw.raise_mspiQ, setIdent_mspiQ, ite_self]

theorem opSecKeyRead_mspiQ (s : Hw) (c : Call) : (opSecKeyRead.body s c).state.cmd.mspiQ = s.cmd.mspiQ := by
  simp only [opSecKeyRead, mspiQ_ok, OpSpec.fix_body]

theorem opSecFwWrite_mspiQ (s : Hw) (c : Call) : (opSecFwWrite.body s c).state.cmd.mspiQ = s.cmd.mspiQ := by
  simp only [opSecFwWrite, mspiQ_res_ite, mspiQ_ok, mspiQ_refuse, ite_self, OpSpec.list_body]

theorem activateDone_mspiQ (s : Hw) : (activateDone s).state.cmd.mspiQ = s.cmd.mspiQ := by
  simp only [activateDone, mspiQ_res_ite, mspiQ_ok, mspiQ_refuse, ite_self, Hw.raise_mspiQ, askReset_mspiQ, passed_mspiQ,
    setIdent_mspiQ]

theorem opSecFwActivate_mspiQ (s : Hw) (c : Call) : (opSecFwActivate.body s c).state.cmd.mspiQ = s.cmd.mspiQ := by
  simp only [opSecFwActivate, mspiQ_res_ite, mspiQ_wait, mspiQ_refuse, ite_self, OpSpec.fix_body]

theorem opSecFwCommit_mspiQ (s : Hw) (c : Call) : (opSecFwCommit.body s c).state.cmd.mspiQ = s.cmd.mspiQ := by
  simp only [opSecFwCommit, mspiQ_res_ite, mspiQ_ok, mspiQ_refuse, ite_self, OpSpec.fix_body, Hw.raise_mspiQ,
    setIdent_mspiQ]

theorem opSecCosignSet_mspiQ (s : Hw) (c : Call) : (opSecCosignSet.body s c).state.cmd.mspiQ = s.cmd.mspiQ := by
  simp only [opSecCosignSet, mspiQ_res_ite, mspiQ_ok, mspiQ_refuse, ite_self, OpSpec.fix_body, setIdent_mspiQ]

theorem opSecDebugUnlock_mspiQ (s : Hw) (c : Call) : (opSecDebugUnlock.body s c).state.cmd.mspiQ = s.cmd.mspiQ := by
  simp only [opSecDebugUnlock, mspiQ_ok, OpSpec.fix_body, Hw.raise_mspiQ, updEvr_mspiQ]

theorem opSecFwStatus_mspiQ (s : Hw) (c : Call) : (opSecFwStatus.body s c).state.cmd.mspiQ = s.cmd.mspiQ := by
  simp only [opSecFwStatus, mspiQ_ok, OpSpec.fix_body]

theorem applySecConfig_mspiQ (p : Bytes) (s : Hw) : (applySecConfig p s).cmd.mspiQ = s.cmd.mspiQ := by
  simp only [applySecConfig, Hw.setFld_mspiQ]

theorem opSecConfig_mspiQ (s : Hw) (c : Call) : (opSecConfig.body s c).state.cmd.mspiQ = s.cmd.mspiQ := by
  simp only [opSecConfig, mspiQ_ok, OpSpec.fix_body, applySecConfig_mspiQ]

/-! ### CMIS -/

theorem settleCmis_mspiQ (s : Hw) : (settleCmis s).cmd.mspiQ = s.cmd.mspiQ := by
  unfold settleCmis
  rfl

theorem settleLeaving_mspiQ (s : Hw) : (settleLeaving s).cmd.mspiQ = s.cmd.mspiQ := by
  simp only [settleLeaving, mspiQ_ite, ite_self, updPwr_mspiQ]

/-! ### Commands -/

theorem opEcho_mspiQ (s : Hw) (c : Call) : (opEcho.body s c).state.cmd.mspiQ = s.cmd.mspiQ := by
  simp only [opEcho, mspiQ_ok]

theorem opGetInfo_mspiQ (s : Hw) (c : Call) : (opGetInfo.body s c).state.cmd.mspiQ = s.cmd.mspiQ := by
  simp only [opGetInfo, mspiQ_ok, OpSpec.fix_body]

theorem needRandom_mspiQ {s : Hw} {k : Hw → Res} (hk : (k s).state.cmd.mspiQ = s.cmd.mspiQ) :
    (needRandom s k).state.cmd.mspiQ = s.cmd.mspiQ := by
  simp only [needRandom, mspiQ_res_ite, mspiQ_refuse, hk, ite_self]

theorem opGetNonce_mspiQ (s : Hw) (c : Call) : (opGetNonce.body s c).state.cmd.mspiQ = s.cmd.mspiQ := by
  simp only [opGetNonce, OpSpec.fix_body]
  refine needRandom_mspiQ ?_
  simp only [mspiQ_ok, updSession_mspiQ, Hw.random_mspiQ]

theorem opSessionOpen1_mspiQ (s : Hw) (c : Call) : (opSessionOpen1.body s c).state.cmd.mspiQ = s.cmd.mspiQ := by
  simp only [opSessionOpen1, OpSpec.fix_body]
  refine needRandom_mspiQ ?_
  split <;> simp only [mspiQ_res_ite, mspiQ_refuse, mspiQ_ok, Hw.random_mspiQ, ite_self]

theorem opSessionOpen2_mspiQ (s : Hw) (c : Call) : (opSessionOpen2.body s c).state.cmd.mspiQ = s.cmd.mspiQ := by
  simp only [opSessionOpen2, OpSpec.fix_body]
  split
  · rfl
  · split
    · rfl
    · split
      · rfl
      · split <;> simp only [mspiQ_res_ite, mspiQ_refuse, mspiQ_ok, updSession_mspiQ, ite_self]

theorem opSessionClose_mspiQ (s : Hw) (c : Call) : (opSessionClose.body s c).state.cmd.mspiQ = s.cmd.mspiQ := by
  simp only [opSessionClose, mspiQ_ok, ite_self, OpSpec.fix_body, mspiQ_ite, updSession_mspiQ]

theorem opSessionStatus_mspiQ (s : Hw) (c : Call) : (opSessionStatus.body s c).state.cmd.mspiQ = s.cmd.mspiQ := by
  simp only [opSessionStatus, OpSpec.fix_body]
  split <;> simp only [mspiQ_res_ite, mspiQ_refuse, mspiQ_ok, ite_self]

theorem opNoticeFetch_mspiQ (s : Hw) (c : Call) : (opNoticeFetch.body s c).state.cmd.mspiQ = s.cmd.mspiQ := by
  simp only [opNoticeFetch, mspiQ_res_ite, mspiQ_ok, ite_self, OpSpec.fix_body]

theorem opJournalInfo_mspiQ (s : Hw) (c : Call) : (opJournalInfo.body s c).state.cmd.mspiQ = s.cmd.mspiQ := by
  simp only [opJournalInfo, mspiQ_ok, OpSpec.fix_body]

theorem opJournalRead_mspiQ (s : Hw) (c : Call) : (opJournalRead.body s c).state.cmd.mspiQ = s.cmd.mspiQ := by
  simp only [opJournalRead, mspiQ_ok, OpSpec.fix_body]

theorem opJournalSync_mspiQ (s : Hw) (c : Call) : (opJournalSync.body s c).state.cmd.mspiQ = s.cmd.mspiQ := by
  simp only [opJournalSync, mspiQ_res_ite, mspiQ_wait, mspiQ_ok, ite_self, OpSpec.fix_body]

theorem opMgmtReset_mspiQ (s : Hw) (c : Call) : (opMgmtReset.body s c).state.cmd.mspiQ = s.cmd.mspiQ := by
  simp only [opMgmtReset, mspiQ_ok, OpSpec.fix_body, askReset_mspiQ]

theorem opWarmReset_mspiQ (s : Hw) (c : Call) : (opWarmReset.body s c).state.cmd.mspiQ = s.cmd.mspiQ := by
  simp only [opWarmReset, mspiQ_ok, OpSpec.fix_body, askReset_mspiQ]

theorem applyInband_mspiQ (p : Bytes) (s : Hw) : (applyInband p s).cmd.mspiQ = s.cmd.mspiQ := by
  simp only [applyInband, Hw.setFld_mspiQ]

theorem restoreInband_mspiQ (p : Bytes) (s : Hw) : (restoreInband p s).cmd.mspiQ = s.cmd.mspiQ := by
  unfold restoreInband
  rfl

theorem opInbandConfig_mspiQ (s : Hw) (c : Call) : (opInbandConfig.body s c).state.cmd.mspiQ = s.cmd.mspiQ := by
  simp only [opInbandConfig, mspiQ_ok, OpSpec.fix_body, applyInband_mspiQ]

/-! ### Words through the fabric -/

theorem issueReads_mspiQ (ups l : List (Nat × Nat)) (s : Hw) : (issueReads ups l s).2.cmd.mspiQ = s.cmd.mspiQ := by
  unfold issueReads
  refine mspiQ_foldl_snd (fun t q => ?_) _
  exact issueRead_mspiQ ..

theorem issueWrites_mspiQ (a : Nat) (vs : List Nat) (s : Hw) : (issueWrites a vs s).2.cmd.mspiQ = s.cmd.mspiQ := by
  unfold issueWrites
  generalize packetsOf 5 a vs.length = l
  refine mspiQ_foldl_snd (fun t q => ?_) _
  exact issueWrite_mspiQ ..

theorem usedBack_mspiQ (s : Hw) (tags : List Nat) : (usedBack s tags).cmd.mspiQ = s.cmd.mspiQ := by
  unfold usedBack
  rfl

theorem readsDone_mspiQ (tags : List Nat) (s : Hw) : (readsDone tags s).state.cmd.mspiQ = s.cmd.mspiQ := by
  unfold readsDone
  dsimp only
  repeat' split
  all_goals simp only [mspiQ_done, mspiQ_wait, mspiQ_ok, usedBack_mspiQ]

theorem opReadWords_mspiQ (s : Hw) (c : Call) : (opReadWords.body s c).state.cmd.mspiQ = s.cmd.mspiQ := by
  simp only [opReadWords, OpSpec.fix_body, issueReads_mspiQ, readsDone_mspiQ]

theorem writesDone_mspiQ (tags : List Nat) (s : Hw) : (writesDone tags s).state.cmd.mspiQ = s.cmd.mspiQ := by
  unfold writesDone
  split
  · rfl
  · split <;> rfl

theorem writesGo_mspiQ (c : Call) (s : Hw) : (writesGo c s).state.cmd.mspiQ = s.cmd.mspiQ := by
  unfold writesGo
  dsimp only
  split <;> simp only [mspiQ_res_ite, writesDone_mspiQ, issueWrites_mspiQ, domainFailure_mspiQ, ite_self]

theorem wakingDone_mspiQ (t : Nat) (c : Call) (s : Hw) : (wakingDone t c s).state.cmd.mspiQ = s.cmd.mspiQ := by
  unfold wakingDone
  split
  · rfl
  · simp only [mspiQ_res_ite, mspiQ_refuse, mspiQ_wait, usedBack_mspiQ, writesGo_mspiQ, ite_self]

theorem opWriteWords_mspiQ (s : Hw) (c : Call) : (opWriteWords.body s c).state.cmd.mspiQ = s.cmd.mspiQ := by
  simp only [opWriteWords, OpSpec.list_body, issueRead_mspiQ, wakingDone_mspiQ]

/-! ### Resets and starts -/

theorem judgeObject_mspiQ (s : Hw) (n : Nat) : (judgeObject s n).cmd.mspiQ = s.cmd.mspiQ := by
  unfold judgeObject
  dsimp only
  split <;> simp only [Hw.raise_mspiQ, mspiQ_ite, ite_self]

theorem applyObject_mspiQ (n : Nat) (p : Bytes) (s : Hw) : (applyObject n p s).cmd.mspiQ = s.cmd.mspiQ := by
  unfold applyObject
  split <;> simp only [restoreInband_mspiQ, applySecConfig_mspiQ, applyPwrConfig_mspiQ, applyLfmConfig_mspiQ,
    applyLnkConfig_mspiQ, applyLnkWakeConfig_mspiQ, applyHslEq_mspiQ, applyHslConfig_mspiQ, applyPort_mspiQ, applyHpcPtp_mspiQ,
    applyTdsConfig_mspiQ, applyTdsDelay_mspiQ, applyTdsBuf_mspiQ, applyRdnConfig_mspiQ, applyMemConfig_mspiQ,
    applyFesConfig_mspiQ, applyFesHook_mspiQ, applyBrcConfig_mspiQ, applyBrcStage_mspiQ, applyBrcCal_mspiQ, applyBrcCoex_mspiQ,
    applyCleLoop_mspiQ, applyCleLia_mspiQ, applyAouRange_mspiQ, applyAouSafe_mspiQ, applyMcvConfig_mspiQ, applyEvrConfig_mspiQ,
    applyEvrSnap_mspiQ]

theorem adoptAll_mspiQ (s : Hw) : (adoptAll s).cmd.mspiQ = s.cmd.mspiQ := by
  unfold adoptAll
  refine mspiQ_each fun n t => ?_
  dsimp only
  split
  · exact (applyObject_mspiQ ..).trans (judgeObject_mspiQ ..)
  · exact judgeObject_mspiQ ..

/-- The command processor of a wiped part is empty, its queue on MSPI too. -/
theorem wiped_mspiQ (s : Hw) : (wiped s).cmd.mspiQ = [] := by
  unfold wiped
  extract_lets t
  exact (mspiQ_each fun _ _ => Hw.setReg_mspiQ ..).trans rfl

theorem resumeJournal_mspiQ (s : Hw) : (resumeJournal s).cmd.mspiQ = s.cmd.mspiQ := by
  unfold resumeJournal
  rfl

theorem tellKeysLost_mspiQ (held cause : Nat) (s : Hw) : (tellKeysLost held cause s).cmd.mspiQ = s.cmd.mspiQ := by
  simp only [tellKeysLost, mspiQ_cond, implies_true, Hw.raise_mspiQ]

theorem warmBegin_mspiQ (s : Hw) : (warmBegin s).cmd.mspiQ = [] := by
  unfold warmBegin
  dsimp only
  simp only [tellKeysLost_mspiQ, adoptAll_mspiQ, resumeJournal_mspiQ, mspiQ_cond, Hw.emit_mspiQ, updPwr_mspiQ, updEvr_mspiQ,
    Hw.setNum_mspiQ, wiped_mspiQ, implies_true]

theorem abandonDomainReset_mspiQ (d : Nat) (s : Hw) : (abandonDomainReset d s).cmd.mspiQ = s.cmd.mspiQ := by
  simp only [abandonDomainReset, Hw.access_mspiQ, mspiQ_cond, implies_true, Hw.setFld_mspiQ, mspiQ_ite, ite_self]

theorem mgmtBegin_mspiQ (s : Hw) : (mgmtBegin s).cmd.mspiQ = s.cmd.mspiQ := by
  simp only [mgmtBegin, mspiQ_each, implies_true, Hw.raise_mspiQ, abandonDomainReset_mspiQ]

/-! ### The command transports -/

theorem setWait_mspiQ (s : Hw) (id : Nat) (w : Wait) : (setWait s id w).cmd.mspiQ = s.cmd.mspiQ := by
  unfold setWait
  rfl

theorem settleFabric_mspiQ (s : Hw) : (settleFabric s).cmd.mspiQ = s.cmd.mspiQ := by
  unfold settleFabric
  rfl

/-! ### What follows at once -/

theorem settleSessions_mspiQ (s : Hw) : (settleSessions s).cmd.mspiQ = s.cmd.mspiQ := by
  unfold settleSessions
  rfl

theorem settlePace_mspiQ (s : Hw) : (settlePace s).cmd.mspiQ = s.cmd.mspiQ := by
  simp only [settlePace, Hw.setFld_mspiQ]

theorem settleLimit_mspiQ (g : Nat) (s : Hw) : (settleLimit g s).cmd.mspiQ = s.cmd.mspiQ := by
  simp only [settleLimit, Hw.setNum_mspiQ]

theorem settleLine_mspiQ (n : Nat) (s : Hw) : (settleLine n s).cmd.mspiQ = s.cmd.mspiQ := by
  simp only [settleLine, Hw.setFld_mspiQ]

theorem settleGroup_mspiQ (g : Nat) (s : Hw) : (settleGroup g s).cmd.mspiQ = s.cmd.mspiQ := by
  simp only [settleGroup, Hw.setFld_mspiQ, settleLimit_mspiQ, settlePromise_mspiQ]

/-! ### The replies in MSPI's queue -/

/-- No reply that waited on MSPI is lost, notices apart. -/
structure KeepsReplies (s t : Hw) : Prop where
  mem : ∀ r ∈ s.cmd.mspiQ, isNotice r = false → r ∈ t.cmd.mspiQ

theorem KeepsReplies.of_mspiQ_eq {s t : Hw} (h : t.cmd.mspiQ = s.cmd.mspiQ) : KeepsReplies s t := ⟨fun r hr _ => by rwa [h]⟩

theorem KeepsReplies.trans {s t u : Hw} (h : KeepsReplies s t) (h' : KeepsReplies t u) : KeepsReplies s u :=
  ⟨fun r hr hn => h'.mem r (h.mem r hr hn) hn⟩

theorem mem_markFirst {q : List Reply} {r : Reply} (hr : r ∈ q) (hn : isNotice r = false) : r ∈ markFirst q := by
  induction q with
  | nil => exact hr
  | cons x q ih =>
    unfold markFirst
    split
    · rename_i hx
      obtain rfl | h := List.mem_cons.mp hr
      · exact absurd (hn.symm.trans hx) Bool.false_ne_true
      · exact List.mem_cons_of_mem _ h
    · obtain rfl | h := List.mem_cons.mp hr
      · exact List.mem_cons_self
      · exact List.mem_cons_of_mem _ (ih h)

theorem mem_dropFirst {q : List Reply} {r : Reply} (hr : r ∈ q) (hn : isNotice r = false) : r ∈ dropFirst q := by
  induction q with
  | nil => exact hr
  | cons x q ih =>
    unfold dropFirst
    split
    · rename_i hx
      obtain rfl | h := List.mem_cons.mp hr
      · exact absurd (hn.symm.trans hx) Bool.false_ne_true
      · exact h
    · obtain rfl | h := List.mem_cons.mp hr
      · exact List.mem_cons_self
      · exact List.mem_cons_of_mem _ (ih h)

theorem mem_pushNotice {q : List Reply} {r x : Reply} (hr : r ∈ q) (hn : isNotice r = false) : r ∈ (pushNotice q x).1 := by
  unfold pushNotice
  split
  · exact List.mem_append_left _ (mem_markFirst (mem_dropFirst hr hn) hn)
  · exact List.mem_append_left _ hr

theorem notify_keepsReplies (s : Hw) (route : Route) (sess : Nat) (r : Reply) : KeepsReplies s (notify s route sess r) := by
  unfold notify
  cases route with
  | twoWire => exact .of_mspiQ_eq ((mspiQ_cond fun _ => noticeLost_mspiQ ..).trans rfl)
  | mspi =>
    refine ⟨fun x hx hn => ?_⟩
    dsimp only
    rw [mspiQ_cond fun _ => noticeLost_mspiQ ..]
    exact mem_pushNotice hx hn
  | inband =>
    dsimp only
    split
    · exact .of_mspiQ_eq rfl
    · refine .of_mspiQ_eq ((updPort_mspiQ ..).trans ?_)
      exact mspiQ_cond fun _ => (noticeLost_mspiQ ..).trans (dropInband_mspiQ _)

theorem deliver_mspiQ (s : Hw) (rq : Request) (r : Reply) :
    (deliver s rq r).cmd.mspiQ = if rq.route = .mspi then s.cmd.mspiQ ++ [r] else s.cmd.mspiQ := by
  unfold deliver
  split <;> rename_i h
  · rw [sendCdb_mspiQ, if_neg (h ▸ by decide)]
  · rw [if_pos h]
  · rw [sendInband_mspiQ, if_neg (h ▸ by decide)]

theorem answer_mspiQ (s : Hw) (opc : Nat) (rq : Request) (st det : Nat) (pl : Bytes) (i : Nat) (k : Bool) :
    (answer s opc rq st det pl i k).cmd.mspiQ = if rq.route = .mspi then
      s.cmd.mspiQ ++ [⟨opc, rq.seq, st, if hasBit rq.flags 1 then 2 else 0, det, i, pl⟩] else s.cmd.mspiQ := by
  simp only [answer, deliver_mspiQ, mspiQ_cond, keepReply_mspiQ, tellAuth_mspiQ, implies_true]

theorem answer_keepsReplies (s : Hw) (opc : Nat) (rq : Request) (st det : Nat) (pl : Bytes) (i : Nat) (k : Bool) :
    KeepsReplies s (answer s opc rq st det pl i k) := by
  refine ⟨fun r hr _ => ?_⟩
  rw [answer_mspiQ]
  split
  · exact List.mem_append_left _ hr
  · exact hr

theorem retire_keepsReplies (s : Hw) (op : OpSpec) (r : RunCmd) (st det : Nat) (pl : Bytes) (undo : Undo) :
    KeepsReplies s (retire s op r st det pl undo) := by
  unfold retire
  extract_lets c p t u rep
  have hu : KeepsReplies s u := .of_mspiQ_eq (record_mspiQ ..)
  clear_value u
  split
  · refine (hu.trans (.of_mspiQ_eq (tellAuth_mspiQ u r.req.route r.session st det))).trans ?_
    unfold Hw.cond
    split
    · exact notify_keepsReplies ..
    · exact .of_mspiQ_eq rfl
  · exact hu.trans (answer_keepsReplies ..)

/-! ### Commands that go on -/

theorem opTable0_mspiQ : ∀ op ∈ opTable0, ∀ s c, (op.body s c).state.cmd.mspiQ = s.cmd.mspiQ := by
  simp only [opTable0, List.forall_mem_cons]
  exact ⟨opEcho_mspiQ, opReadWords_mspiQ, opWriteWords_mspiQ, opGetInfo_mspiQ, opGetNonce_mspiQ, opSessionOpen1_mspiQ,
    opSessionOpen2_mspiQ, opSessionClose_mspiQ, opSessionStatus_mspiQ, opNoticeFetch_mspiQ, opJournalInfo_mspiQ,
    opJournalRead_mspiQ, opJournalSync_mspiQ, opMgmtReset_mspiQ, opWarmReset_mspiQ, opInbandConfig_mspiQ,
    opPwrPaceSet_mspiQ, opPwrOpSet_mspiQ, opPwrOpMove_mspiQ, opPwrFloorSet_mspiQ, List.forall_mem_nil _⟩

theorem opTable1_mspiQ : ∀ op ∈ opTable1, ∀ s c, (op.body s c).state.cmd.mspiQ = s.cmd.mspiQ := by
  simp only [opTable1, List.forall_mem_cons]
  exact ⟨opPwrSpeedCfg_mspiQ, opPwrSpeedRead_mspiQ, opPwrTimeRead_mspiQ, opLtxConfig_mspiQ, opLtxTapSet_mspiQ,
    opLtxLevelsSet_mspiQ, opLtxPdLoad_mspiQ, opLrxConfig_mspiQ, opLrxAdaptSet_mspiQ, opLrxEqSet_mspiQ,
    opLrxEqRead_mspiQ, opLrxMeasRead_mspiQ, opLrxHistRun_mspiQ, opLrxHistRead_mspiQ, opLrxGthSelect_mspiQ,
    opLrxStoreList_mspiQ, opLrxStoreSave_mspiQ, opLrxStoreErase_mspiQ, opLrxSeedLoad_mspiQ, opLfmConfig_mspiQ,
    List.forall_mem_nil _⟩

theorem opTable2_mspiQ : ∀ op ∈ opTable2, ∀ s c, (op.body s c).state.cmd.mspiQ = s.cmd.mspiQ := by
  simp only [opTable2, List.forall_mem_cons]
  exact ⟨opLfmStatusRead_mspiQ, opLfmCountRead_mspiQ, opLnkConfig_mspiQ, opLnkUp_mspiQ, opLnkDown_mspiQ,
    opLnkRestart_mspiQ, opLnkStatusRead_mspiQ, opLnkLaneRejoin_mspiQ, opLnkWakeConfig_mspiQ, opHslEqSet_mspiQ,
    opHslStatusRead_mspiQ, opHslConfig_mspiQ, opHpcPortSet_mspiQ, opHpcPortRead_mspiQ, opHpcCountRead_mspiQ,
    opHpcPtpConfig_mspiQ, opFlwInit_mspiQ, opFlwInsert_mspiQ, opFlwModify_mspiQ, opFlwDelete_mspiQ,
    List.forall_mem_nil _⟩

theorem opTable3_mspiQ : ∀ op ∈ opTable3, ∀ s c, (op.body s c).state.cmd.mspiQ = s.cmd.mspiQ := by
  simp only [opTable3, List.forall_mem_cons]
  exact ⟨opFlwLookup_mspiQ, opFlwRead_mspiQ, opFlwStatusRead_mspiQ, opTdsAdmit_mspiQ, opTdsWithdraw_mspiQ,
    opTdsConfig_mspiQ, opTdsDelaySet_mspiQ, opTdsBufConfig_mspiQ, opTdsStatusRead_mspiQ, opRdnConfig_mspiQ,
    opRdnLaneSet_mspiQ, opRdnRevert_mspiQ, opRdnStatusRead_mspiQ, opRdnFaultInject_mspiQ, opFesConfig_mspiQ,
    opFesStateSet_mspiQ, opFesStepSet_mspiQ, opFesTableLoad_mspiQ, opFesHookLoad_mspiQ, opFesSpiXfer_mspiQ,
    List.forall_mem_nil _⟩

theorem opTable4_mspiQ : ∀ op ∈ opTable4, ∀ s c, (op.body s c).state.cmd.mspiQ = s.cmd.mspiQ := by
  simp only [opTable4, List.forall_mem_cons]
  exact ⟨opFesTurn_mspiQ, opFesFaultClear_mspiQ, opFesStatusRead_mspiQ, opBrcConfig_mspiQ, opBrcStageConfig_mspiQ,
    opBrcCalSet_mspiQ, opBrcUnmute_mspiQ, opBrcQuietSend_mspiQ, opBrcCoexConfig_mspiQ, opBrcCoexReq_mspiQ,
    opBrcStatusRead_mspiQ, opCleLoopConfig_mspiQ, opCleCoefLoad_mspiQ, opCleModeSet_mspiQ, opCleSetpoint_mspiQ,
    opCleRepLoad_mspiQ, opCleRepRead_mspiQ, opCleRepReset_mspiQ, opCleLiaConfig_mspiQ, opCleTestStart_mspiQ,
    List.forall_mem_nil _⟩

theorem opTable5_mspiQ : ∀ op ∈ opTable5, ∀ s c, (op.body s c).state.cmd.mspiQ = s.cmd.mspiQ := by
  simp only [opTable5, List.forall_mem_cons]
  exact ⟨opCleTestStop_mspiQ, opCleStatusRead_mspiQ, opCleInit_mspiQ, opAouWrite_mspiQ, opAouRangeSet_mspiQ,
    opAouSafeSet_mspiQ, opAouDitherSet_mspiQ, opAouGenSet_mspiQ, opAouTableLoad_mspiQ, opAouStatusRead_mspiQ,
    opMcvConfig_mspiQ, opMcvSeqLoad_mspiQ, opMcvSeqStore_mspiQ, opMcvSeqRead_mspiQ, opMcvResultRead_mspiQ,
    opMcvPlausRun_mspiQ, opMcvUnquarantine_mspiQ, opMcvStatusRead_mspiQ, opGthConfig_mspiQ, opGthTrigConfig_mspiQ,
    List.forall_mem_nil _⟩

theorem opTable6_mspiQ : ∀ op ∈ opTable6, ∀ s c, (op.body s c).state.cmd.mspiQ = s.cmd.mspiQ := by
  simp only [opTable6, List.forall_mem_cons]
  exact ⟨opGthArm_mspiQ, opGthTrigger_mspiQ, opGthStop_mspiQ, opGthRead_mspiQ, opGthStatusRead_mspiQ,
    opGthPmcConfig_mspiQ, opGthPmcCtrl_mspiQ, opGthCountRead_mspiQ, opGthCounterOpen_mspiQ, opMemTableFill_mspiQ,
    opMemTableDeclare_mspiQ, opMemConfig_mspiQ, opMemStatusRead_mspiQ, opMemLogRead_mspiQ, opMemRepairRead_mspiQ,
    opPwrDomainRead_mspiQ, opPwrWake_mspiQ, opPwrSleep_mspiQ, opPwrFence_mspiQ, opPwrDomainReset_mspiQ,
    List.forall_mem_nil _⟩

theorem opTable7_mspiQ : ∀ op ∈ opTable7, ∀ s c, (op.body s c).state.cmd.mspiQ = s.cmd.mspiQ := by
  simp only [opTable7, List.forall_mem_cons]
  exact ⟨opPwrLehrRun_mspiQ, opPwrLehrRead_mspiQ, opPwrConfig_mspiQ, opSecIdRead_mspiQ, opSecCertRead_mspiQ,
    opSecAttest_mspiQ, opSecKeyEnroll_mspiQ, opSecKeyRevoke_mspiQ, opSecKeyRead_mspiQ, opSecFwWrite_mspiQ,
    opSecFwActivate_mspiQ, opSecFwCommit_mspiQ, opSecCosignSet_mspiQ, opSecDebugUnlock_mspiQ, opSecFwStatus_mspiQ,
    opSecConfig_mspiQ, opEvrInfo_mspiQ, opEvrRead_mspiQ, opEvrConfig_mspiQ, opEvrSnapSet_mspiQ, List.forall_mem_nil _⟩

theorem opTable8_mspiQ : ∀ op ∈ opTable8, ∀ s c, (op.body s c).state.cmd.mspiQ = s.cmd.mspiQ := by
  simp only [opTable8, List.forall_mem_cons]
  exact ⟨opEvrFlush_mspiQ, opEvrErase_mspiQ, List.forall_mem_nil _⟩

/-- No body of an opcode touches MSPI's queue. -/
theorem body_mspiQ {op : OpSpec} (h : op ∈ opTable) (s : Hw) (c : Call) : (op.body s c).state.cmd.mspiQ = s.cmd.mspiQ := by
  simp only [opTable, List.mem_append] at h
  obtain (((((((h | h) | h) | h) | h) | h) | h) | h) | h := h
  · exact opTable0_mspiQ op h s c
  · exact opTable1_mspiQ op h s c
  · exact opTable2_mspiQ op h s c
  · exact opTable3_mspiQ op h s c
  · exact opTable4_mspiQ op h s c
  · exact opTable5_mspiQ op h s c
  · exact opTable6_mspiQ op h s c
  · exact opTable7_mspiQ op h s c
  · exact opTable8_mspiQ op h s c

theorem mem_opTable_of_opOf {n : Nat} {op : OpSpec} (h : opOf n = some op) : op ∈ opTable := List.mem_of_find?_eq_some h

theorem runBody_mspiQ {op : OpSpec} (h : op ∈ opTable) (s : Hw) (c : Call) :
    (runBody s op c).state.cmd.mspiQ = s.cmd.mspiQ := by
  unfold runBody
  split
  · exact mspiQ_refuse ..
  · dsimp only
    split
    · exact mspiQ_refuse ..
    · simp only [mspiQ_res_ite, body_mspiQ h, mspiQ_wait, mspiQ_each, Hw.access_mspiQ, ite_self, implies_true]

theorem settleRes_keepsReplies {s : Hw} (op : OpSpec) (r : RunCmd) {x : Res} (h : x.state.cmd.mspiQ = s.cmd.mspiQ) :
    KeepsReplies s (settleRes s op r x) := by
  cases x with
  | done st det pl t =>
    simp only [settleRes]
    split
    · exact retire_keepsReplies ..
    · exact .trans (.of_mspiQ_eq h) (retire_keepsReplies ..)
  | wait w t => exact .of_mspiQ_eq ((setWait_mspiQ ..).trans h)

theorem resumeCmd_keepsReplies (s : Hw) (r : RunCmd) : KeepsReplies s (resumeCmd s r) := by
  unfold resumeCmd
  split
  · exact .of_mspiQ_eq rfl
  · rename_i op hop
    refine settleRes_keepsReplies _ _ ?_
    split
    · exact wakingDone_mspiQ ..
    · rw [mspiQ_res_ite, readsDone_mspiQ, writesDone_mspiQ, ite_self]
    · exact activateDone_mspiQ ..
    · exact runBody_mspiQ (mem_opTable_of_opOf hop) ..

theorem advanceCmds_keepsReplies (n : Nat) (s : Hw) : KeepsReplies s (advanceCmds n s) := by
  induction n generalizing s with
  | zero => exact .of_mspiQ_eq rfl
  | succ n ih =>
    unfold advanceCmds
    split
    · exact .of_mspiQ_eq rfl
    · exact .trans (resumeCmd_keepsReplies _ _) (ih _)

theorem settleCommands_keepsReplies (s : Hw) : KeepsReplies s (settleCommands s) :=
  .trans (advanceCmds_keepsReplies _ _) (.of_mspiQ_eq (settleFabric_mspiQ _))

/-! ### The whole of `settle` -/

/-- A reset empties the queue; nothing else touches it. -/
theorem settleReset_mspiQ (s : Hw) : (settleReset s).cmd.mspiQ = s.cmd.mspiQ ∨ (settleReset s).cmd.mspiQ = [] := by
  unfold settleReset
  split
  · exact .inl rfl
  · split
    · exact .inr (warmBegin_mspiQ s)
    · exact .inl (mgmtBegin_mspiQ s)

/-- The transmitters' part of `settleUnits`. -/
def settleSenders (s : Hw) : Hw := (s.each (List.range 8) fun n s => settleTx n (settleSquelch s n)).each [0, 1] tryP1Exit

/-- The receivers' part of `settleUnits`. -/
def settleReceivers (s : Hw) : Hw :=
  (s.each [0, 1] fun g s => s.cond (s.grp g).exitOwn.isSome fun s => tryP2Exit s g false).each (List.range 8) settleTraining

/-- The part of `settleUnits` about a group's health. -/
def settleGroups (s : Hw) : Hw := s.each [0, 1] fun g s => settleStatus (settleHealth (settleTrouble g s) g) g

/-- The line's part of `settleUnits`. -/
def settleLines (s : Hw) : Hw :=
  settleHost (settleRdn ((settlePace ((settleReceivers (settleSenders s)).each (List.range 8) settleC2)).each [0, 1] settleGroup))

/-- The part of `settleUnits` about the analog units. -/
def settleAnalogUnits (s : Hw) : Hw := settleFes (settleBrc ((settleCle (settleMcv s)).each (List.range 8) settleLine))

theorem settleUnits_eq (s : Hw) : settleUnits s = settleReset (settleSec (settleSessions (settleOptime
    (settleGroups (settleLeaving (settlePower (settleMove (settleAnalogUnits (settleLines s))))))))) := rfl

theorem settleSenders_mspiQ (s : Hw) : (settleSenders s).cmd.mspiQ = s.cmd.mspiQ := by
  unfold settleSenders
  rw [mspiQ_each tryP1Exit_mspiQ, mspiQ_each_eq fun _ _ _ h => by rw [← h, settleTx_mspiQ, settleSquelch_mspiQ]]

theorem settleReceivers_mspiQ (s : Hw) : (settleReceivers s).cmd.mspiQ = s.cmd.mspiQ := by
  unfold settleReceivers
  rw [mspiQ_each settleTraining_mspiQ, mspiQ_each_eq fun g _ _ h => by rw [← h, mspiQ_cond fun t => tryP2Exit_mspiQ t g false]]

theorem settleGroups_mspiQ (s : Hw) : (settleGroups s).cmd.mspiQ = s.cmd.mspiQ := by
  unfold settleGroups
  exact mspiQ_each_eq fun _ _ _ h => by rw [← h, settleStatus_mspiQ, settleHealth_mspiQ, settleTrouble_mspiQ]

theorem settleLines_mspiQ (s : Hw) : (settleLines s).cmd.mspiQ = s.cmd.mspiQ := by
  unfold settleLines
  rw [settleHost_mspiQ, settleRdn_mspiQ, mspiQ_each settleGroup_mspiQ, settlePace_mspiQ, mspiQ_each settleC2_mspiQ,
    settleReceivers_mspiQ, settleSenders_mspiQ]

theorem settleAnalogUnits_mspiQ (s : Hw) : (settleAnalogUnits s).cmd.mspiQ = s.cmd.mspiQ := by
  unfold settleAnalogUnits
  rw [settleFes_mspiQ, settleBrc_mspiQ, mspiQ_each settleLine_mspiQ, settleCle_mspiQ, settleMcv_mspiQ]

theorem settleUnits_mspiQ (s : Hw) : (settleUnits s).cmd.mspiQ = s.cmd.mspiQ ∨ (settleUnits s).cmd.mspiQ = [] := by
  rw [settleUnits_eq]
  refine (settleReset_mspiQ _).imp_left fun h => ?_
  rw [h, settleSec_mspiQ, settleSessions_mspiQ, settleOptime_mspiQ, settleGroups_mspiQ, settleLeaving_mspiQ, settlePower_mspiQ,
    settleMove_mspiQ, settleAnalogUnits_mspiQ, settleLines_mspiQ]

/-- A reply that waits on MSPI still waits after `settle`, unless a reset has emptied the queue. -/
theorem mem_mspiQ_settle {s : Hw} {r : Reply} (hr : r ∈ s.cmd.mspiQ) (hn : isNotice r = false) :
    r ∈ (settle s).cmd.mspiQ ∨ (settle s).cmd.mspiQ = [] := by
  unfold settle
  dsimp only
  rw [settleInt_mspiQ, settleEvr_mspiQ, settleCmis_mspiQ]
  split
  · exact .inl hr
  · rw [seeEvents_mspiQ, takeHanded_mspiQ]
    obtain h | h := settleUnits_mspiQ (settleCommands s)
    · rw [h]
      exact .inl ((settleCommands_keepsReplies s).mem r hr hn)
    · exact .inr h

/-! ### A read that runs out of tags -/

/-- READ_WORDS of 129 words, three packets' worth, on MSPI. -/
def longRead : Request :=
  { route := .mspi, length := 6, seq := 0, level := 0, flags := 0, session := 0, resv := 0
    params := toBE 4 0x040800 ++ toBE 2 129 }

/-- A running command that waits for the words of 254 packets, so that only the tags 0 and 1 are free. -/
def tagHolder : RunCmd :=
  { id := 1, opcode := 2, req := { longRead with route := .twoWire, length := 0, params := [] }, session := 0xFFF1, recv := 0,
    wait := .words ((List.range 254).map (· + 2)) }

/-- A part in service with every switched domain ready, in which that command runs; Ehrik's next tag is 1. -/
def tagsSpent : Hw :=
  { phase := .ready, regs := (List.range 20).map fun d => (0x023000 + d, 0x40000000)
    cmd := { running := [tagHolder], nextId := 2 }, fab := { tags := [(0, 1)] } }

theorem longRead_taken : taken opReadWords longRead (passTime 0 tagsSpent) = true := by decide +kernel

theorem longRead_pre : let b := entered opReadWords longRead (passTime 0 tagsSpent)
    let c := callOf opReadWords longRead (passTime 0 tagsSpent)
    b.fab.held = [] ∧ b.fab.back = [] ∧ c.rq.upsets = [] ∧
      Map.get none b.cmd.latches (latchKey ehrik (rangeStart c.p)) = none ∧
      (List.range (rangeCount c.p)).all (fun i => readStatus b (rangeStart c.p + i) == fsDone) = true := by
  decide +kernel

theorem longRead_count (h : Hw) : rangeCount (callOf opReadWords longRead h).p = 129 := by
  show rangeCount (coreParams longRead) = 129
  decide +kernel

/-- The lengths of the payloads that wait on MSPI in the next state. -/
def waitingSizes : Host.Outcome State Fault Refusal → List Nat
  | .next t => t.hw.cmd.mspiQ.map fun r => r.payload.length
  | _ => []

/-- The third packet gets the first one's tag again, and its words are taken from the first one's reply: 64 + 64 + 64 words. -/
theorem waitingSizes_exec_longRead : waitingSizes (exec (.readWords 0 longRead) { hw := tagsSpent }) = [768] := by decide +kernel

theorem closed_mspiQ (op : OpSpec) {rq : Request} (h : rq.route = .mspi) (b e : Hw) (pl : Bytes) :
    (closed op rq b e pl).cmd.mspiQ =
      e.cmd.mspiQ ++ [⟨op.opcode, rq.seq, stOK, if hasBit rq.flags 1 then 2 else 0, 0, indexOf op b, pl⟩] := by
  have hlong : tooLong rq pl = false := by
    rw [tooLong, h]
    rfl
  simp only [closed, hlong, Bool.false_eq_true, if_false, answer_mspiQ, h, if_true, record_mspiQ]

/-- Flags bit 0 marks the notices; of a first reply's flags only bit 1 is ever set (R52). -/
theorem isNotice_of_firstReply (opc sq st det i : Nat) (validate : Bool) (pl : Bytes) :
    isNotice ⟨opc, sq, st, if validate then 2 else 0, det, i, pl⟩ = false := by
  cases validate with
  | false => exact (by decide : hasBit 0 0 = false)
  | true => exact (by decide : hasBit 2 0 = false)

/-- The words of a range take four bytes each. -/
theorem wordsPayload_length (n : Nat) (f : Nat → Nat) : ((List.range n).flatMap fun i => toBE 4 (f i)).length = n * 4 := by
  induction n with
  | zero => rfl
  | succ n ih =>
    rw [List.range_succ, List.flatMap_append, List.length_append, ih, List.flatMap_singleton, toBE_length]
    omega

/-- Refutes O13: clause (3) asks that no packet of the fabric is held or has come back, not that tags are free. Where a running
command waits for the words of 254 packets, a read of 129 words issues its third packet with the first one's tag, takes the
first reply's words again for it, and returns 768 bytes for 516. -/
theorem not_repliesAndFabricWords : ¬ Obligations.RepliesAndFabricWords := by
  rintro ⟨-, -, hread, -⟩
  obtain ⟨e, pl, ⟨hpl, -, -⟩, hexec⟩ := hread 0 longRead { hw := tagsSpent } longRead_taken longRead_pre
  have hlen : pl.length = 516 := by rw [hpl, wordsPayload_length, longRead_count]
  have hsize := waitingSizes_exec_longRead
  rw [hexec] at hsize
  have hwaits := mem_mspiQ_settle (s := closed opReadWords longRead (entered opReadWords longRead (passTime 0 tagsSpent)) e pl)
    (by rw [closed_mspiQ _ rfl]; exact List.mem_append_right _ List.mem_cons_self) (isNotice_of_firstReply ..)
  obtain hin | hnil := hwaits
  · have h516 : 516 ∈ [768] := by
      rw [← hsize, ← hlen]
      exact List.mem_map_of_mem (f := fun r : Reply => r.payload.length) hin
    exact absurd h516 (by decide)
  · rw [waitingSizes, hnil] at hsize
    cases hsize

end Sys2Proof.Machine
